-- ==== Sys2Proof/Word.lean ====
section
/-!
DEFINITION. The word types of the SK8256 and their plainest arithmetic (spec/00_scope.md, Numbers, sizes and byte order).
-/
namespace Sys2Proof

/-- A byte. -/
abbrev Byte := BitVec 8
/-- A register or memory half of 16 bits (Q15 signals, status codes, event codes). -/
abbrev Word16 := BitVec 16
/-- A register word of BAR0, an ASN, an index (R5, R568). -/
abbrev Word32 := BitVec 32
/-- A time in ns, a host address, a state word. -/
abbrev Word64 := BitVec 64

end Sys2Proof
end

