-- ==== Sys2Proof/Machine/Types.lean ====
section
/-!
DEFINITION. The names and the small records the SK8256's spec uses: which unit, island, region, bank, source, wire, and what
travels on the Millrace link. No behaviour stands here.
-/
namespace Sys2Proof.Machine

open Sys2Proof

/-- Region A to H (R24, R229). -/
abbrev RegionId := Fin 8
/-- Island I00 to I23 (R22, R230). -/
abbrev IslandId := Fin 24
/-- Unit IiiH at 2i, IiiL at 2i + 1, numbered as its event source (R434). -/
abbrev UnitId := Fin 48
/-- ADC bank 0 to 3 (R262). -/
abbrev BankId := Fin 4
/-- ADC channel 0 to 63 (R262). -/
abbrev ChanId := Fin 64
/-- Filter chain 0 to 15 (R295). -/
abbrev ChainId := Fin 16
/-- Trigger unit 0 to 7 (R304). -/
abbrev TrigId := Fin 8
/-- Capture session 0 to 15 (R310). -/
abbrev SessId := Fin 16
/-- Loop Engine context 0 to 255 (R162). -/
abbrev CtxId := Fin 256
/-- Submission ring 0 to 7 (R328). -/
abbrev SqId := Fin 8
/-- Completion ring 0 to 7 (R328). -/
abbrev CqId := Fin 8
/-- Journal slot 0 to 8191 (R357). -/
abbrev Slot := Fin 8192
/-- Event source 0 to 191 (R434). -/
abbrev SourceId := Fin 192
/-- Trip source 0 to 15 (R221). -/
abbrev TripId := Fin 16
/-- Network port A (0) or B (1) (R380). -/
abbrev PortId := Fin 2
/-- Weir 0 to 31 (R506). -/
abbrev WeirId := Fin 32
/-- Weir owner: SQ0 to SQ7 0 to 7, safety processor 8, network engine 9 (R506). -/
abbrev OwnerId := Fin 10
/-- Safety channel 1 (0) or 2 (1) (R464). -/
abbrev SafCh := Fin 2
/-- Safe output SO_A (0) or SO_B (1); also loop supply SUP_A or SUP_B (R477, R550). -/
abbrev SoId := Fin 2

/-- The two dies (R28); a Millrace direction is named by the die that sends. -/
inductive Die where
  | p | c
deriving DecidableEq, Repr

/-- Device states (R527). -/
inductive DevState where
  | stabled | waking | setup | ready | run | safe | service
deriving DecidableEq, Repr

/-- Region phases (R215). -/
inductive Phase where
  | off | start | run | test | recovery
deriving DecidableEq, Repr

/-- The power domains, in the order of PWR_DOM_STATUS.ON (R517, R545). -/
inductive Domain where
  | ao | pdCore | pdAna | pdNet | pdIso | cdCore | cdLoop | cdHost | cdSaf | mem
deriving DecidableEq, Repr

/-- The three PLLs (R524). -/
inductive Pll where
  | pDie | cDie | memory
deriving DecidableEq, Repr

/-- Wake causes (R533). -/
inductive WakeCause where
  | pinA | pinB | timer | vbat | powerOn | reset
deriving DecidableEq, Repr

/-- What the second-path enable wire decodes to (R466). -/
inductive WireState where
  | enable | demand | absent
deriving DecidableEq, Repr

/-- The safety inputs (R468). -/
inductive SafInput where
  | inhA | inhB | covA | covB | fbA | fbB
deriving DecidableEq, Repr

/-- The two-channel input pairs: INH for SF1, COV for SF3 (R469). -/
inductive SafPair where
  | inh | cov
deriving DecidableEq, Repr

/-- Event severities (R436). -/
inductive Sev where
  | info | warn | fault | critical
deriving DecidableEq, Repr

/-- Reactions, narrowest first (R439). -/
inductive Reaction where
  | none | unitOff | islandOff | regionInhibit | regionLatch | dieSafe | packageSafe
deriving DecidableEq, Repr

/-- The object a reaction of a source acts on (R434). -/
inductive SrcObj where
  | unit (u : UnitId)
  | island (i : IslandId)
  | region (r : RegionId)
  | none
deriving DecidableEq, Repr

/-- State of a source's fault state (R444, R446, R462). -/
inductive FaultState where
  | clear | fault | latched
deriving DecidableEq, Repr

/-- State of a journal entry that is not free (R358). -/
inductive JState where
  | accepted | applied | posted
deriving DecidableEq, Repr

/-- An object that a reaction shadow window covers (R450). -/
inductive ShadowObj where
  | island (i : IslandId)
  | region (r : RegionId)
  | cDie
deriving DecidableEq, Repr

/-- State of a trigger unit (R326). -/
inductive TrigState where
  | off | armed | holdOff | fired
deriving DecidableEq, Repr

/-- State of a capture session (R327). -/
inductive SessState where
  | free | armed | triggered | ended
deriving DecidableEq, Repr

/-- Standby copy of a paired region (R433). -/
inductive Standby where
  | absent | resync | synced
deriving DecidableEq, Repr

/-- Step of a background calibration (R275). -/
inductive CalPhase where
  | idle | tracking | measuring | measured
deriving DecidableEq, Repr

/-- What a replay's read-back of an entry's assigned CQ slot returned: none, a failed read; else the ASN and the
phase bit that the slot holds (R367, R369). -/
structure ReadBack where
  slot : Slot
  held : Option (Word32 × Bool)
deriving DecidableEq, Repr

/-- A sample set (R281). -/
structure SampleSet where
  bank : BankId := 0
  /-- 0b00 regular, 0b01 continuous, 0b10 injected, 0b11 empty region set. -/
  kind : BitVec 2 := 0
  ovr : Bool := false
  latched : Bool := false
  release : Bool := false
  region : RegionId := 0
  regionValid : Bool := false
  mask : Word16 := 0
  owMask : Word16 := 0
  count : Word32 := 0
  /-- One code per channel of the mask, rising channel order. -/
  results : List Word16 := []
  /-- The MODEL's own: tick of the sampling instant; no part of the set's bytes. -/
  tick : Nat := 0
deriving DecidableEq, Repr, Inhabited

/-- One island's part of a commit, REGION_COMMIT's entry layout (R344, R417). -/
structure CommitEntry where
  island : IslandId
  cmp : Option (BitVec 24) := none
  phase : Option (BitVec 24) := none
deriving DecidableEq, Repr

/-- A duty frame (R110, R417). -/
structure DutyFrame where
  region : RegionId := 0
  /-- Boundary count of the period it answers; the SEQ of a pair copy lies two above it (R417). -/
  seq : Word32 := 0
  entries : List CommitEntry := []
  inhibit : Bool := false
  hold : Bool := false
  /-- The contactor-drive value, none where no context bound to this region writes it (R110). -/
  drive : Option Bool := none
deriving DecidableEq, Repr, Inhabited

/-- A frame of filter-chain outputs (R303). -/
structure ChainFrame where
  chain : ChainId := 0
  valid : Bool := false
  /-- Output index of the first output; the frame carries its low 24 bits. -/
  first : Word32 := 0
  outputs : List Word16 := []
  /-- The MODEL's own: ticks at which the outputs were made; no part of the frame. -/
  ticks : List Nat := []
deriving DecidableEq, Repr, Inhabited

/-- A trigger notice (R309): the instant and the first set count of each bank and first output index of each chain. -/
structure Notice where
  unit : TrigId := 0
  time : Word64 := 0
  setCounts : List Word32 := []
  outIndexes : List Word32 := []
deriving DecidableEq, Repr, Inhabited

/-- What a Millrace frame carries (R13). -/
inductive Payload where
  | samples (l : List SampleSet)
  | duty (f : DutyFrame)
  | chain (f : ChainFrame)
  | notice (n : Notice)
deriving DecidableEq, Repr

/-- A Millrace frame (R12). Its bytes are MrFrame.bytes. -/
structure MrFrame where
  vc : Fin 4
  seq : BitVec 12 := 0
  payload : Payload
  /-- Transmissions of it still to be sent with inverted CRC (R457). -/
  invert : Nat := 0
deriving DecidableEq, Repr

/-- Why the Millrace link fails (R16): lock of a lane lost, silence, or a frame replayed 4 times without acknowledgement. -/
inductive LinkCause where
  | lane0 | lane1 | silent | exhausted
deriving DecidableEq, Repr

end Sys2Proof.Machine
end

