-- ==== Sys2Proof/Syntax.lean ====
section
/-!
DEFINITION. The commands of the SK8256: one constructor per row of spec/opcode_table.json, in the table's order.
The docstring of each names the rule the table gives the row. What comes from outside the module (a sampled voltage, a
frame's bytes, a key or word written, a level) is an operand; everything else the command reads stands in State.
-/
namespace Sys2Proof

open Sys2Proof.Machine

/-- One command: an operation of the host, an event of a pin or a wire, or a step of one of the module's engines. -/
inductive Instr where
  /-- NOP (R344). -/
  | nop (slot : Slot)
  /-- CTX_WRITE (R181). -/
  | ctxWrite (slot : Slot)
  /-- CTX_READ (R182). -/
  | ctxRead (slot : Slot)
  /-- CTX_ENABLE (R179). -/
  | ctxEnable (slot : Slot)
  /-- CTX_DISABLE (R180). -/
  | ctxDisable (slot : Slot)
  /-- REGION_MODE (R216). -/
  | regionMode (slot : Slot)
  /-- REGION_COMMIT (R204). -/
  | regionCommit (slot : Slot)
  /-- CAPTURE_ARM (R312). -/
  | captureArm (slot : Slot)
  /-- CAPTURE_COPY (R319). -/
  | captureCopy (slot : Slot)
  /-- CAPTURE_STOP (R318). -/
  | captureStop (slot : Slot)
  /-- PROBE_START (R138). -/
  | probeStart (slot : Slot)
  /-- PROBE_STOP (R144). -/
  | probeStop (slot : Slot)
  /-- NET_TX (R387). -/
  | netTx (slot : Slot)
  /-- NET_RX_POST (R389). -/
  | netRxPost (slot : Slot)
  /-- TIME_ADJUST (R401). -/
  | timeAdjust (slot : Slot)
  /-- WEIR_ACQUIRE (R507). -/
  | weirAcquire (slot : Slot)
  /-- WEIR_RELEASE (R345). -/
  | weirRelease (slot : Slot)
  /-- PAIR_SWAP (R430). -/
  | pairSwap (slot : Slot)
  /-- PAIR_RESYNC (R431). -/
  | pairResync (slot : Slot)
  /-- FAULT_CLEAR (R448). -/
  | faultClear (slot : Slot)
  /-- EVENT_FORCE (R459). -/
  | eventForce (slot : Slot)
  /-- BARRIER (R347). -/
  | barrier (slot : Slot)
  /-- SETUP_SEAL (R331). -/
  | setupSeal (v : Word32)
  /-- ENTER_SERVICE (R531). -/
  | enterService (key : BitVec 16)
  /-- LEAVE_SERVICE (R531). -/
  | leaveService (key : BitVec 16)
  /-- ENTER_STABLED (R537). -/
  | enterStabled (key : BitVec 16)
  /-- PWR_CMD_C_DIE_WARM_RESET (R531). -/
  | pwrCmdCDieWarmReset (key : BitVec 16)
  /-- PWR_CMD_PACKAGE_WARM_RESET (R538). -/
  | pwrCmdPackageWarmReset (key : BitVec 16)
  /-- PWR_CMD_P_DIE_WARM_RESET (R531). -/
  | pwrCmdPDieWarmReset (key : BitVec 16)
  /-- RESTART (R335). -/
  | restart (mask : BitVec 8)
  /-- LE_UCODE_DATA_WRITE (R161). -/
  | leUcodeDataWrite (v : Word32)
  /-- VERIFY (R150). -/
  | verify (v : Word32)
  /-- VERIFY_DONE (R150). -/
  | verifyDone
  /-- LOAD (R172). -/
  | load (v : Word32)
  /-- IMAGE_LOAD_DONE (R172). -/
  | imageLoadDone (image : Option (List Byte))
  /-- ADC_QDATA_READ (R286). -/
  | adcQdataRead (b : BankId)
  /-- GO (R271). -/
  | go (b : BankId) (v : Word32)
  /-- TIME_TXQ_E0_READ (R397). -/
  | timeTxqE0Read
  /-- TIME_NOW_READ (R410). -/
  | timeNowRead
  /-- AO_TIME_READ (R545). -/
  | aoTimeRead
  /-- TIME_LOCK_CFG_WRITE (R407). -/
  | timeLockCfgWrite (v : Word32)
  /-- CHANNEL_SWITCH (R298). -/
  | channelSwitch (n : ChainId) (v : Word32)
  /-- FREEZE (R298). -/
  | freeze (n : ChainId) (v : Word32)
  /-- UNFREEZE (R298). -/
  | unfreeze (n : ChainId) (v : Word32)
  /-- TRIGGER_CONFIG_WRITE (R308). -/
  | triggerConfigWrite (u : TrigId) (w : Fin 4) (v : Word32)
  /-- REARM (R307). -/
  | rearm (u : TrigId) (v : Word32)
  /-- COMPARATOR_SELF_TEST (R253). -/
  | comparatorSelfTest (i : IslandId) (v : Word32)
  /-- REBIAS (R258). -/
  | rebias (i : IslandId) (v : Word32)
  /-- ARB_COMMIT (R505). -/
  | arbCommit (v : Word32)
  /-- ARB_COMMIT_APPLY (R505). -/
  | arbCommitApply
  /-- ARM (R457). -/
  | arm (v : Word32)
  /-- INJECTION_APPLY (R457). -/
  | injectionApply
  /-- EVT_FORCE_WRITE (R458). -/
  | evtForceWrite (w : Fin 6) (v : Word32)
  /-- SO_ON_REQUEST (R478). -/
  | soOnRequest (v : Word32)
  /-- DEBUG_OPEN (R574). -/
  | debugOpen (v : Word32)
  /-- DBG_READ (R574). -/
  | dbgRead (v : Word32)
  /-- DBG_WRITE (R574). -/
  | dbgWrite (v : Word32)
  /-- DEBUG_ACCESS_DONE (R574). -/
  | debugAccessDone
  /-- REGISTER_WRITE (R6). -/
  | registerWrite (off : Nat) (v : BitVec 64) (size : Nat)
  /-- P_DIE_ACCESS_TIMEOUT (R568). -/
  | pDieAccessTimeout
  /-- DOORBELL_POLL (R333). -/
  | doorbellPoll
  /-- DESCRIPTOR_ACCEPT (R360). -/
  | descriptorAccept (q : SqId)
  /-- JOURNAL_ACKNOWLEDGE (R360). -/
  | journalAcknowledge (slot : Slot)
  /-- TIMED_ACTION_DUE (R349). -/
  | timedActionDue (slot : Slot)
  /-- COMPLETION_POST (R362). -/
  | completionPost (slot : Slot)
  /-- MSIX_SIGNAL (R354). -/
  | msixSignal (m : CqId)
  /-- HOST_DMA_READ_COMPLETE (R576). -/
  | hostDmaReadComplete (id : Nat) (status : BitVec 3) (data : List Byte)
  /-- HOST_DMA_ERROR (R461). -/
  | hostDmaError (id : Nat)
  /-- HOST_SILENT (R461). -/
  | hostSilent
  /-- PCIE_ENDPOINT_RESET (R541). -/
  | pcieEndpointReset
  /-- PCIE_LINK_DOWN (R576). -/
  | pcieLinkDown
  /-- PCIE_LINK_RETURN (R576). -/
  | pcieLinkReturn
  /-- JOURNAL_REPLAY (R367). -/
  | journalReplay (readBack : List ReadBack)
  /-- PATROL_SCRUB (R377). -/
  | patrolScrub (journal : Bool) (line : Nat)
  /-- MILLRACE_FRAME_RECEIVE (R15). -/
  | millraceFrameReceive (d : Die) (skip : Nat) (err : List Byte)
  /-- MILLRACE_LINK_FAILURE (R16). -/
  | millraceLinkFailure (d : Die) (cause : LinkCause)
  /-- MILLRACE_LINK_UP (R17). -/
  | millraceLinkUp
  /-- REGION_BOUNDARY (R205). -/
  | regionBoundary (r : RegionId)
  /-- REGION_TRIGGER (R196). -/
  | regionTrigger (r : RegionId)
  /-- ISLAND_WRAP (R211). -/
  | islandWrap (i : IslandId)
  /-- UNIT_EDGE (R199). -/
  | unitEdge (u : UnitId)
  /-- TRIP_ASSERT (R223). -/
  | tripAssert (n : TripId)
  /-- RECOVERY_END (R219). -/
  | recoveryEnd (r : RegionId)
  /-- DUTY_FRAME_RECEIVE (R204). -/
  | dutyFrameReceive (r : RegionId)
  /-- C_DIE_LOSS_DETECT (R29). -/
  | cDieLossDetect (r : RegionId)
  /-- HOLD_TIME_END (R29). -/
  | holdTimeEnd (r : RegionId)
  /-- CONTEXT_RELEASE (R108). -/
  | contextRelease (r : RegionId)
  /-- TIMEBASE_SLOT (R111). -/
  | timebaseSlot
  /-- CONTEXT_RUN_COMPLETE (R121). -/
  | contextRunComplete (c : CtxId)
  /-- DUTY_FRAME_SEND (R110). -/
  | dutyFrameSend (r : RegionId)
  /-- PREFETCH_ISSUE (R176). -/
  | prefetchIssue (c : CtxId)
  /-- PREFETCH_LANDED (R176). -/
  | prefetchLanded (c : CtxId)
  /-- WRITEBACK_SWEEP (R178). -/
  | writebackSweep
  /-- LOOP_ENGINE_HEARTBEAT_LOST (R461). -/
  | loopEngineHeartbeatLost
  /-- BUS_DECLARED_DEAD (R83). -/
  | busDeclaredDead (c : CtxId)
  /-- START_DELAY_EXPIRE (R87). -/
  | startDelayExpire (c : CtxId)
  /-- CONTACTOR_FAILED_TO_CLOSE (R90). -/
  | contactorFailedToClose (c : CtxId)
  /-- CONTACTOR_OPENED_WITHOUT_COMMAND (R92). -/
  | contactorOpenedWithoutCommand (c : CtxId)
  /-- BS_HOLD_ELAPSED (R89). -/
  | bsHoldElapsed (c : CtxId)
  /-- SYNC_WINDOWS_HELD (R96). -/
  | syncWindowsHeld (c : CtxId)
  /-- SYNC_WINDOWS_NOT_MET (R98). -/
  | syncWindowsNotMet (c : CtxId)
  /-- ENV_EXIT_ELAPSED (R60). -/
  | envExitElapsed (c : CtxId)
  /-- GAP_RESUME_ELAPSED (R73). -/
  | gapResumeElapsed (c : CtxId)
  /-- ANCHOR_FREEZE_END (R64). -/
  | anchorFreezeEnd (c : CtxId)
  /-- FOLD_BACK_START (R58). -/
  | foldBackStart (c : CtxId)
  /-- STOP_FACTOR_ZERO (R104). -/
  | stopFactorZero (c : CtxId)
  /-- RAMP_COMPLETE (R135). -/
  | rampComplete (c : CtxId)
  /-- BLEND_END (R101). -/
  | blendEnd (c : CtxId)
  /-- SWEEP_START (R67). -/
  | sweepStart (c : CtxId)
  /-- SWEEP_POINT_END (R68). -/
  | sweepPointEnd (c : CtxId)
  /-- ISLAND_LINK_LOST (R240). -/
  | islandLinkLost (i : IslandId) (atIsland : Bool)
  /-- ISLAND_LINK_RELOCK (R241). -/
  | islandLinkRelock (i : IslandId)
  /-- ISLAND_INTERLOCK (R242). -/
  | islandInterlock (i : IslandId)
  /-- SWITCHING_TIME_MEASURED (R245). -/
  | switchingTimeMeasured (u : UnitId) (turnOn : Bool) (vLeg : Nat) (fine : Nat) (cross : Nat)
  /-- UVLO (R238). -/
  | uvlo (u : UnitId) (rail : Nat)
  /-- UVLO_RELEASE (R237). -/
  | uvloRelease (u : UnitId) (rail : Nat)
  /-- DESATURATION_ARMED (R248). -/
  | desaturationArmed (u : UnitId)
  /-- DESATURATION (R249). -/
  | desaturation (u : UnitId) (sense : Nat)
  /-- SOFT_TURN_OFF_END (R249). -/
  | softTurnOffEnd (u : UnitId)
  /-- COMPARATOR_TEST_DONE (R254). -/
  | comparatorTestDone (i : IslandId) (pass : Bool)
  /-- ISLAND_OVER_TEMPERATURE (R256). -/
  | islandOverTemperature (i : IslandId) (temp : BitVec 12)
  /-- ISLAND_START (R257). -/
  | islandStart (i : IslandId)
  /-- ISLAND_READY (R257). -/
  | islandReady (i : IslandId)
  /-- ISLAND_START_FAILED (R257). -/
  | islandStartFailed (i : IslandId) (failed : Option (Fin 4))
  /-- ISLAND_BLOCK_RESET (R258). -/
  | islandBlockReset (i : IslandId)
  /-- ISLAND_BIAS_RESTORE (R258). -/
  | islandBiasRestore (i : IslandId)
  /-- BANK_TIMER (R266). -/
  | bankTimer (b : BankId)
  /-- SAMPLING_INSTANT (R266). -/
  | samplingInstant (b : BankId) (uv : Vector Int 16)
  /-- SET_COMPLETE (R287). -/
  | setComplete (b : BankId)
  /-- INJECTED_TRIGGER (R271). -/
  | injectedTrigger (b : BankId)
  /-- INJECTED_SAMPLING_INSTANT (R272). -/
  | injectedSamplingInstant (b : BankId) (uv : Vector Int 16)
  /-- INJECTED_CONVERSION_COMPLETE (R274). -/
  | injectedConversionComplete (b : BankId)
  /-- CALIBRATION_STEP_START (R275). -/
  | calibrationStepStart (b : BankId)
  /-- CALIBRATION_HAND_OVER (R276). -/
  | calibrationHandOver (b : BankId)
  /-- CALIBRATION_MEASUREMENT_END (R277). -/
  | calibrationMeasurementEnd (b : BankId) (inRange : Bool) (coef : Word32)
  /-- CALIBRATION_HAND_BACK (R276). -/
  | calibrationHandBack (b : BankId)
  /-- PACKED_FRAME_FLUSH (R284). -/
  | packedFrameFlush (b : BankId)
  /-- WINDOW_COMPARATOR_ASSERTED (R288). -/
  | windowComparatorAsserted (ch : ChanId) (uv : Int)
  /-- WINDOW_COMPARATOR_RELEASE (R288). -/
  | windowComparatorRelease (ch : ChanId) (uv : Int)
  /-- CHAIN_FRAME_FLUSH (R303). -/
  | chainFrameFlush (n : ChainId)
  /-- TRIGGER_HOLD_OFF_END (R307). -/
  | triggerHoldOffEnd (u : TrigId)
  /-- CAPTURE_TRIGGER (R315). -/
  | captureTrigger (k : SessId)
  /-- CAPTURE_DONE (R317). -/
  | captureDone (k : SessId)
  /-- CAPTURE_PROGRESS_WRITE (R314). -/
  | captureProgressWrite (k : SessId)
  /-- ARBITER_GRANT (R499). -/
  | arbiterGrant (slot : Fin 16) (prefetch : Bool) (requests : BitVec 5)
  /-- REFRESH (R495). -/
  | refresh
  /-- ARBITER_WATCHDOG (R504). -/
  | arbiterWatchdog
  /-- WEIR_ACQUIRE_TIMED_OUT (R345). -/
  | weirAcquireTimedOut (slot : Slot)
  /-- WEIRS_RELEASED (R512). -/
  | weirsReleased (w : OwnerId)
  /-- SAFETY_SET_UPDATE (R511). -/
  | safetySetUpdate
  /-- NETWORK_COUNTER_UPDATE (R511). -/
  | networkCounterUpdate
  /-- FRAME_RECEIVE (R384). -/
  | frameReceive (p : PortId) (frame : List Byte) (fcsOk : Bool)
  /-- TX_TIMESTAMP (R396). -/
  | txTimestamp (p : PortId)
  /-- SUPERVISION_FRAME_SEND (R386). -/
  | supervisionFrameSend
  /-- LAN_SILENT (R386). -/
  | lanSilent (p : PortId)
  /-- PRP_NODE_EXPIRE (R385). -/
  | prpNodeExpire (node : BitVec 48)
  /-- LINK_UP (R408). -/
  | linkUp (p : PortId)
  /-- LINK_DOWN (R408). -/
  | linkDown (p : PortId)
  /-- TIME_LOCK_LOST (R407). -/
  | timeLockLost
  /-- SAMPLE_FRAME_RECEIVE (R417). -/
  | sampleFrameReceive
  /-- DUTY_COPY_RECEIVE (R421). -/
  | dutyCopyReceive
  /-- HELLO_SEND (R417). -/
  | helloSend
  /-- HELLO_RECEIVE (R418). -/
  | helloReceive
  /-- PARTNER_DOWN (R418). -/
  | partnerDown
  /-- FAULT_DECLARATION_RECEIVE (R424). -/
  | faultDeclarationReceive
  /-- CONTROL_DIE_FAILED (R424). -/
  | controlDieFailed (r : RegionId) (partner : Bool)
  /-- PARAMETER_FRAME_RECEIVE (R420). -/
  | parameterFrameReceive
  /-- RESYNCHRONISATION_START (R427). -/
  | resynchronisationStart (r : RegionId)
  /-- CHECKPOINT_CHUNK_RECEIVE (R428). -/
  | checkpointChunkReceive
  /-- CHECKPOINT_COMMIT_RECEIVE (R428). -/
  | checkpointCommitReceive
  /-- RESYNCHRONISATION_FAILED (R429). -/
  | resynchronisationFailed (r : RegionId)
  /-- EVENT_COLLECT (R438). -/
  | eventCollect
  /-- FAULT_RECOVERED (R445). -/
  | faultRecovered (k : SourceId)
  /-- SHADOW_WINDOW_END (R450). -/
  | shadowWindowEnd (w : ShadowObj)
  /-- SAFETY_INPUT_CHANGE (R468). -/
  | safetyInputChange (ch : SafCh) (x : SafInput) (noDemand : Bool) (lasted : Nat)
  /-- DISCREPANCY_FAULT (R469). -/
  | discrepancyFault (ch : SafCh) (pair : SafPair)
  /-- START_UP_TEST_PASSED (R472). -/
  | startUpTestPassed (ch : SafCh)
  /-- SECOND_PATH_DECODE (R466). -/
  | secondPathDecode (halves : List Nat) (idle : Nat)
  /-- GATE_ENABLE (R474). -/
  | gateEnable
  /-- SO_TEST_PULSE (R480). -/
  | soTestPulse (ch : SafCh)
  /-- SO_TEST_PULSE_END (R480). -/
  | soTestPulseEnd (ch : SafCh) (fallA : Option Nat) (fallB : Option Nat)
  /-- SAFE_OUTPUT_OVERLOAD (R477). -/
  | safeOutputOverload (o : SoId) (milliamps : Nat) (lasted : Nat)
  /-- CONTACTOR_FEEDBACK_FAULT (R484). -/
  | contactorFeedbackFault (ch : SafCh) (o : SoId)
  /-- CHANNEL_2_REJOINED (R485). -/
  | channel2Rejoined
  /-- CHANNEL_2_ABSENT_TOO_LONG (R486). -/
  | channel2AbsentTooLong
  /-- CHANNEL_2_DID_NOT_FOLLOW_DEMAND (R487). -/
  | channel2DidNotFollowDemand
  /-- PATH_1_READBACK_PULSE (R487). -/
  | path1ReadbackPulse (ok : Bool) (railsOff : Bool)
  /-- CHANNEL_1_SELF_TEST (R487). -/
  | channel1SelfTest (ok : Bool)
  /-- CHANNEL_2_SELF_CHECK (R487). -/
  | channel2SelfCheck (ok : Bool)
  /-- SUPPLY_PULSE_TEST (R550). -/
  | supplyPulseTest (sup : SoId) (ch : SafCh) (followed : BitVec 6)
  /-- DCH_OVERLOAD (R554). -/
  | dchOverload (shorted : Bool) (milliamps : Nat) (lasted : Nat)
  /-- DCH_RETRY (R554). -/
  | dchRetry (again : Bool)
  /-- CDRV_OVERLOAD (R554). -/
  | cdrvOverload (milliamps : Nat) (lasted : Nat)
  /-- INPUT_LOW (R519). -/
  | inputLow (mv : Nat)
  /-- INPUT_LOSS (R519). -/
  | inputLoss (mv : Nat) (mj : Nat)
  /-- INPUT_RETURN (R519). -/
  | inputReturn (mv : Nat) (mj : Nat)
  /-- POWER_FAIL (R520). -/
  | powerFail (mj : Nat)
  /-- STORE_AO_RESERVE (R521). -/
  | storeAoReserve (mj : Nat)
  /-- POWER_ON_RESET (R538). -/
  | powerOnReset
  /-- DOMAIN_REGULATION_LOSS (R517). -/
  | domainRegulationLoss (dom : Domain)
  /-- PD_NET_RESTARTED (R517). -/
  | pdNetRestarted
  /-- PD_ISO_RESTART (R517). -/
  | pdIsoRestart
  /-- MEMS_REFERENCE_LOST (R525). -/
  | memsReferenceLost (edgelessNs : Nat) (diff : Int)
  /-- MEMS_REFERENCE_RECOVERED (R525). -/
  | memsReferenceRecovered (us : Nat)
  /-- PLL_LOCK_LOST (R525). -/
  | pllLockLost (pll : Pll)
  /-- AO_CLOCK_MEASURE (R526). -/
  | aoClockMeasure (err : BitVec 16)
  /-- C_DIE_WARM_RESET (R538). -/
  | cDieWarmReset
  /-- C_DIE_RESET_END (R539). -/
  | cDieResetEnd
  /-- AUTO_C_DIE_RESET (R538). -/
  | autoCDieReset
  /-- P_DIE_WARM_RESET (R32). -/
  | pDieWarmReset
  /-- P_DIE_RESET_END (R404). -/
  | pDieResetEnd
  /-- WAKE (R533). -/
  | wake (cause : WakeCause) (lasted : Nat) (mv : Nat)
  /-- MEM_INIT_COMPLETE (R535). -/
  | memInitComplete
  /-- MODULE_TEMPERATURE (R544). -/
  | moduleTemperature (temp : BitVec 12)
  /-- SF2_FAULT_CLEARED (R484). -/
  | sf2FaultCleared (o : SoId)
  /-- SAFE_OUTPUT_READBACK_FAULT (R487). -/
  | safeOutputReadbackFault (ch : SafCh) (o : SoId)
  /-- CD_SAF_RESTARTED (R517). -/
  | cdSafRestarted
  /-- POSTED_WRITE_ERROR_REPORTED (R576). -/
  | postedWriteErrorReported (addr : BitVec 64) (req : BitVec 8)
  /-- PORT_FRAME_BOUNDARY (R392). -/
  | portFrameBoundary (p : PortId)
  /-- MILLRACE_FRAME_BOUNDARY (R14). -/
  | millraceFrameBoundary (d : Die)
  /-- INPUT_LOW_CLEARED (R519). -/
  | inputLowCleared (mv : Nat)
deriving DecidableEq, Repr

end Sys2Proof
end

