-- ==== Sys2Proof/Machine/Arith.lean ====
section
/-!
DEFINITION. Bit fields, byte order, saturating counts and the rounding the spec's arithmetic uses.
-/
namespace Sys2Proof.Machine

open Sys2Proof

/-- Field of `n` bits at bit `lsb` of a word, as a number. -/
def fld {w : Nat} (x : BitVec w) (lsb n : Nat) : Nat := (x.toNat >>> lsb) % 2 ^ n

/-- Bit `i` of a word. -/
def bitAt {w : Nat} (x : BitVec w) (i : Nat) : Bool := x.getLsbD i

/-- The word with the `n`-bit field at `lsb` set to `v`. -/
def setFld (x : Word32) (lsb n v : Nat) : Word32 :=
  let m : Word32 := BitVec.ofNat 32 ((2 ^ n - 1) * 2 ^ lsb)
  (x &&& ~~~m) ||| (BitVec.ofNat 32 (v * 2 ^ lsb) &&& m)

/-- Two's-complement value of the low `n` bits of a number. -/
def sx (n x : Nat) : Int := let y := x % 2 ^ n; if y < 2 ^ (n - 1) then (y : Int) else (y : Int) - 2 ^ n

/-- The nearest number to `x` between `lo` and `hi`. -/
def clampI (lo hi x : Int) : Int := max lo (min hi x)

/-- The nearest natural number to `x` between `lo` and `hi`. -/
def clampN (lo hi x : Nat) : Nat := max lo (min hi x)

/-- Rounding of a rational to the nearest integer, a tie to the even one (round_conv, R128). -/
def roundConv (num : Int) (den : Nat) : Int :=
  let q := num / (den : Int)
  let r := num % (den : Int)
  if 2 * r < den then q
  else if 2 * r = den then (if q % 2 = 0 then q else q + 1)
  else q + 1

/-- A rational near enough to pi that no rounding of the model depends on the difference. -/
def piQ : ℚ := 314159265358979323846264338327950288419716939937510 / 100000000000000000000000000000000000000000000000000

/-- Sum of the sine's series at x, from the k-th term on. -/
def sinSeries (x : ℚ) : Nat → ℚ → Nat → ℚ
  | 0, _, _ => 0
  | n + 1, term, k => term + sinSeries x n (-(term * x * x) / ((2 * k + 2) * (2 * k + 3))) (k + 1)

/-- The sine of an angle of j/1024 revolutions for j up to 256, to within less than 10^-30. -/
def sinQ (j : Nat) : ℚ := let x := 2 * piQ * j / 1024; sinSeries x 20 x 0

/-- A count that stays at its top (the "saturates" of the register tables). -/
def satInc {w : Nat} (x : BitVec w) : BitVec w := if x = BitVec.allOnes w then x else x + 1

/-- A count that saturates, stepped `n` times. -/
def satAdd {w : Nat} (x : BitVec w) (n : Nat) : BitVec w := BitVec.ofNat w (min (x.toNat + n) (2 ^ w - 1))

/-- The low `n` bytes of a number, least significant first (R5). -/
def leBytes : Nat → Nat → List Byte
  | 0, _ => []
  | n + 1, x => BitVec.ofNat 8 x :: leBytes n (x / 256)

/-- The number that bytes spell, least significant first (R5). -/
def ofLe : List Byte → Nat
  | [] => 0
  | b :: l => b.toNat + 256 * ofLe l

/-- Bytes `off` to `off + n - 1` of a block; absent bytes read 0. -/
def bytesAt (l : List Byte) (off n : Nat) : List Byte := (List.range n).map fun i => l.getD (off + i) 0

/-- Little-endian number of `n` bytes at `off` of a block. -/
def leAt (l : List Byte) (off n : Nat) : Nat := ofLe (bytesAt l off n)

/-- The number that bytes spell in network order. -/
def ofBe (l : List Byte) : Nat := l.foldl (fun a b => 256 * a + b.toNat) 0

/-- The low `n` bytes of a number in network order. -/
def beBytes (n x : Nat) : List Byte := (leBytes n x).reverse

/-- The bits of a mask that are set, rising. -/
def maskBits (n m : Nat) : List Nat := (List.range n).filter fun i => m.testBit i

/-- Number of set bits among the low `n`. -/
def popcount (n m : Nat) : Nat := (maskBits n m).length

/-- A bit as a number. -/
def b2n (b : Bool) : Nat := if b then 1 else 0

/-- Absolute value of an integer as a natural number. -/
def absN (x : Int) : Nat := x.natAbs

/-- Bits k - 1 to 0 of the integer square root of n, above those of r. -/
def sqrtBits : Nat → Nat → Nat → Nat
  | 0, _, r => r
  | k + 1, n, r => sqrtBits k n (if (r + 2 ^ k) * (r + 2 ^ k) ≤ n then r + 2 ^ k else r)

/-- Integer square root of a number below 2^128. -/
def isqrt (n : Nat) : Nat := sqrtBits 64 n 0

/-- A word from (least significant bit, width, value) fields. -/
def packWord : List (Nat × Nat × Nat) → Word32
  | [] => 0
  | (l, n, v) :: t => BitVec.ofNat 32 ((v % 2 ^ n) * 2 ^ l) ||| packWord t

/-- Ticks of 2.5 ns in a microsecond, a millisecond and a second (R4). -/
def usTicks (n : Nat) : Nat := 400 * n
/-- Ticks in `n` milliseconds (R4). -/
def msTicks (n : Nat) : Nat := 400000 * n
/-- Ticks in `n` seconds (R4). -/
def sTicks (n : Nat) : Nat := 400000000 * n

/-- Something that happens every so many ticks happens again, or for the first time. -/
def periodic (every : Nat) (last : Option Nat) (now : Nat) : Bool := match last with | some t => decide (t + every ≤ now) | none => true

/-- One bit of the reflected CRC-32 of polynomial 0x04C1_1DB7 (R146). -/
def crcBit (c : Word32) : Word32 := if c.getLsbD 0 then (c >>> 1) ^^^ 0xEDB88320 else c >>> 1

/-- One byte of the CRC. -/
def crcByte (c : Word32) (b : Byte) : Word32 :=
  let x := c ^^^ b.setWidth 32
  crcBit (crcBit (crcBit (crcBit (crcBit (crcBit (crcBit (crcBit x)))))))

/-- CRC-32, reflected, initial value and final XOR 0xFFFF_FFFF (R146, R488). -/
def crc32 (l : List Byte) : Word32 := l.foldl crcByte 0xFFFFFFFF ^^^ 0xFFFFFFFF

end Sys2Proof.Machine
end

