-- ==== Sys2Proof/Machine/Fixed.lean ====
section
/-!
DEFINITION. The fixed-point arithmetic of R126 to R129: 40-bit accumulators with 31 fraction bits, 16-bit signals, parameters of a
mantissa and a shift.
-/
namespace Sys2Proof.Machine

open Sys2Proof

/-- Saturation to n bits. -/
def satBits (n : Nat) (x : Int) : Int := clampI (-(2 ^ (n - 1))) (2 ^ (n - 1) - 1) x
def sat40 (x : Int) : Int := satBits 40 x
def sat16 (x : Int) : Int := satBits 16 x

/-- A number shifted by e places, right shifts toward minus infinity (R127). -/
def shiftI (p e : Int) : Int := if 0 ≤ e then p * 2 ^ e.toNat else p / 2 ^ (-e).toNat

/-- Contribution of a signal times a parameter (R127). -/
def mulParam (x m s : Int) : Int := shiftI (x * m) (1 + s)

/-- Contribution of an accumulator value times a Q15 tap with a shift (R296, R297). -/
def mulTap (a c s : Int) : Int := shiftI (a * c) (s - 15)

/-- An exact contribution added to an accumulator (R127). -/
def accAdd (a c : Int) : Int := sat40 (a + sat40 c)

/-- A signal loaded into an accumulator (R127). -/
def loadSig (x : Int) : Int := x * 65536

/-- A store to 16 bits (R128). -/
def storeSig (a : Int) : Int := sat16 (roundConv a 65536)

/-- A signal's word. -/
def sigWord (x : Int) : Word16 := BitVec.ofInt 16 x

/-- Rounding of a rational with an integer denominator of either sign. -/
def roundQuot (num den : Int) : Int := if den < 0 then roundConv (-num) den.natAbs else roundConv num den.natAbs

/-- Divide: x / y rounded to Q15 and saturated (R129). -/
def divSig (x y : Int) : Int := if y = 0 then (if 0 ≤ x then 32767 else -32768) else sat16 (roundQuot (x * 32768) y)

/-- The root of x·2^15 rounded to the nearest integer: no square of an integer and a half is an integer, so no tie arises. -/
def rootRound (n : Nat) : Nat := let r := isqrt n; if r * r + r < n then r + 1 else r

/-- Square root: of a signal, rounded to Q15; 0 of a negative one (R129). -/
def rootSig (x : Int) : Int := if x < 0 then 0 else sat16 (rootRound (x.toNat * 32768))

/-- The smallest G with n at most 2^G. -/
def ceilLog2 (n : Nat) : Nat := if n ≤ 1 then 0 else Nat.log2 (n - 1) + 1

end Sys2Proof.Machine
end

