-- ==== Sys2Proof/Machine/State.lean ====
section
/-!
DEFINITION. The state of the SK8256 as plain data: every register, queue, counter, mode and pin the spec gives the module, and
the queue of waiting commands. A field's default is its value right after reset; where the spec gives none the value is zero,
false, none or empty (DESIGN CHOICE, notes/assumptions/1.md).
-/
namespace Sys2Proof.Machine

open Sys2Proof

/-- Faults of the model. No command raises one: a fault of the device is an event (R434) and changes the state. -/
inductive Fault where
  /-- Raised by nobody: kept so that the type is not empty. Safe. -/
  | unused
deriving DecidableEq, Repr

/-- Refusals of the model. -/
inductive Refusal where
  /-- Raised by exec for a command that has no meaning yet. Safe. -/
  | notModelled (mnemonic : String)
deriving DecidableEq, Repr

/-- An entry of the Oxbow journal that is not free (R358). -/
structure JEntry where
  slot : Slot
  asn : Word32
  state : JState := .accepted
  sq : SqId := 0
  cq : CqId := 0
  timed : Bool := false
  opcode : Word16 := 0
  hostTag : Word32 := 0
  targetClass : BitVec 8 := 0
  targetIndex : BitVec 8 := 0
  ciValid : Bool := false
  ooo : Bool := false
  cqIdx : Word32 := 0
  status : Word16 := 0
  detail : Word32 := 0
  result : Word64 := 0
  acceptTime : Word64 := 0
  /-- Posted from its outcome record while still ACCEPTED (R363, R367), which it is again if its POSTED mark is lost in flight (R366); no field
  of R358. -/
  unrecorded : Bool := false
  /-- Time at which the command completed, held with the entry's work until its completion is written (R340); no field of R358. -/
  doneAt : Word64 := 0
deriving DecidableEq, Repr

/-- What the C-die still has to do for an accepted descriptor (R346, R349, R366). -/
inductive WorkKind where
  /-- An immediate command whose turn has not come (R346). -/
  | ready
  /-- A timed command in the timed queue (R349). -/
  | timed
  /-- In application: its effect on the target is not final yet. -/
  | applying
  /-- A REGION_COMMIT whose values wait for their transfer, or a NET_RX_POST whose buffer is lent: finished application,
  not yet APPLIED (R346). -/
  | lent
deriving DecidableEq, Repr

/-- Work the C-die holds for a journal slot. -/
structure Work where
  slot : Slot
  kind : WorkKind := .ready
  /-- Returned by a replay: completes REPLAYED with RE_APPLIED, with this CAUSE (R367, R368). -/
  replay : Option (BitVec 4) := none
  /-- A forward step of the time has passed its AT_TIME: it takes effect in AT_TIME order (R350). -/
  jumped : Bool := false
  /-- AT_TIME had passed at acceptance, with this lateness: completes LATE (R348). -/
  late : Option Word32 := none
  /-- Data read from host memory for the command, none while it has not arrived; an empty read that failed is
  marked by `dmaFailed` (R345, R576). -/
  data : Option (List Byte) := none
  dmaFailed : Bool := false
  /-- Boundary count of the region of the context that the command names, as known at acceptance (R420). -/
  count : Word32 := 0
  /-- The replay has handled the command though its work is still open: it is back in the timed queue, or waits as it waited (R367). -/
  handled : Bool := false
deriving DecidableEq, Repr

/-- Why the module reads host memory (R333, R336, R345, R367). -/
inductive DmaUse where
  | sqLine (q : SqId)
  | cqLine (m : CqId)
  | descriptor (q : SqId)
  | command (slot : Slot)
deriving DecidableEq, Repr

/-- A read of host memory that has been issued (R576). -/
structure DmaRead where
  id : Nat
  use : DmaUse
  addr : Word64 := 0
  issued : Nat := 0
deriving DecidableEq, Repr

/-- A posted write to host memory (R576). -/
structure HostWrite where
  addr : Word64
  data : List Byte
deriving DecidableEq, Repr

/-- A host access to a P-die register that waits for the link or the die: a write, or a read with a side effect (R568). -/
structure WaitingAccess where
  off : Nat
  read : Bool := false
  value : Word32
  arrived : Nat
deriving DecidableEq, Repr

/-- Symbols in error of a line of 70 symbols, 64 of data and 6 check symbols: number of the symbol and what its stored value differs by, the
number rising (R376). -/
abbrev SymErr := List (Nat × Byte)

/-- One submission ring (R332 to R337). -/
structure Sq where
  /-- HOST_IDX last read from the doorbell line (R332). -/
  hostIdx : Word32 := 0
  /-- Accepted index, kept in the journal's control block (R357). -/
  acceptedIdx : Word32 := 0
  /-- DEV_IDX written to the line (R334). -/
  devIdx : Word32 := 0
  /-- SYS_RING_STATUS.SQ_STOPPED (R335). -/
  stopped : Bool := false
  /-- Consecutive failed reads of the doorbell line (R335). -/
  failedLines : Nat := 0
  /-- Consecutive failed reads of descriptors (R335). -/
  failedDescs : Nat := 0
  /-- The next descriptor, read from host memory and not yet accepted. -/
  fetched : Option (List Byte) := none
  /-- The wait for journal or CQ space has been reported (R355). -/
  waitReported : Bool := false
  /-- A completion read-back of the last replay failed: restart repeats it first (R369). -/
  readBackFailed : Bool := false
deriving DecidableEq, Repr, Inhabited

/-- One completion ring (R332, R337, R354). -/
structure Cq where
  /-- Head: HOST_IDX last read (R332). -/
  hostIdx : Word32 := 0
  /-- Next index to be assigned (R362). -/
  nextIdx : Word32 := 0
  /-- Written index of the control block and DEV_IDX of the line (R334, R362). -/
  writtenIdx : Word32 := 0
  /-- Entries written since the last signal (R354). -/
  unsignalled : Nat := 0
  /-- Tick of the oldest entry not yet signalled (R354). -/
  oldest : Nat := 0
  /-- A FAULT or CRITICAL record waits to be signalled (R354). -/
  urgent : Bool := false
deriving DecidableEq, Repr, Inhabited

/-- Highest applied ASN H and out-of-order ASN O of a target (R577). -/
structure AsnWords where
  h : Word32 := 0
  o : Word32 := 0
deriving DecidableEq, Repr, Inhabited

/-- A PWM region (R194 to R220). -/
structure Region where
  phase : Phase := .off
  /-- Boundary count (R108, R195). -/
  bcount : Word32 := 0
  /-- Tick of the last boundary, none before the first one (R195). -/
  lastBoundary : Option Nat := none
  /-- The trigger of the present period has been raised (R196). -/
  triggered : Bool := false
  /-- Region-hold output in force (R168). -/
  hold : Bool := false
  /-- Inhibit of R154 asked for by an accepted partner duty copy (R423). -/
  copyInhibit : Bool := false
  /-- Fixed inhibit at the end of the hold time (R29). -/
  lossInhibit : Bool := false
  /-- Fixed inhibit with no valid duty source (R426). -/
  sourceInhibit : Bool := false
  /-- Region latch at the trip limit (R227), until FAULT_CLEAR of the region's source. -/
  tripLatch : Bool := false
  /-- Tick at which the loss of the C-die was detected, while the hold time runs (R29). -/
  lossSince : Option Nat := none
  /-- The loss is standing (from detection until valid duty frames resume). -/
  lost : Bool := false
  /-- Periods without a valid duty frame in a row (R29, R30). -/
  missed : Nat := 0
  frameSeen : Bool := false
  /-- PWM_STATUS.TRIP_CNT, 8 bits (R227). -/
  tripCnt : BitVec 8 := 0
  /-- PWM_TRIPTOT (R227). -/
  tripTot : Word32 := 0
  /-- PWM_LATE (R206, R207). -/
  lateCnt : Word16 := 0
  replacedCnt : Word16 := 0
  /-- PWM_CLIP (R200). -/
  clipCnt : Word16 := 0
  /-- Region periods left in RECOVERY, none while no automatic return is pending (R219). -/
  recLeft : Option Nat := none
  /-- REGION_MODE commands that wait for the boundary: the phase and the command (R218). -/
  modeReqs : List (Phase × Slot) := []
  /-- LEAVE_SERVICE has asked for OFF at the next boundary (R529). -/
  offReq : Bool := false
  /-- REGION_COMMIT commands whose values wait for the next transfer (R204, R208). -/
  commits : List Slot := []
  /-- Discrete values of committed frames waiting for the next transfer (R168). -/
  nextHold : Option Bool := none
  nextDrive : Option Bool := none
  /-- A cycle-by-cycle trip has been reported in this run of tripped periods; one has held a unit in the present period (R228). -/
  tripReported : Bool := false
  tripped : Bool := false
  /-- The MODEL's own: tick since which a latching trip of the region's map asserts (R444, R449). -/
  latchAt : Nat := 0
  /-- PAIR_SWAP waiting for the boundary (R430). -/
  swapReq : List Slot := []
  /-- A paired region's regular sets of the present period, as sent in its sample frame (R417). -/
  periodSets : List SampleSet := []
deriving DecidableEq, Repr, Inhabited

/-- A unit: one gate channel (R21, R199, R238 to R252). -/
structure GateUnit where
  /-- Gate output on. -/
  gate : Bool := false
  /-- The island's command to the unit, after the link. -/
  cmdOn : Bool := false
  /-- Edges not made yet, in the order of time: fine step counted from time zero, and on or off (R199). -/
  edges : List (Nat × Bool) := []
  /-- Counts as off at the end of the present period (R199). -/
  offAtEnd : Bool := true
  /-- Suppressed in the present period (R212). -/
  suppressed : Bool := false
  /-- PWM_CARRY (R212). -/
  carry : BitVec 24 := 0
  /-- Trip sources that hold the unit, cycle-by-cycle and latching (R223, R224). -/
  tripCyc : Word16 := 0
  tripLatch : Word16 := 0
  /-- UVLO comparator asserted (R237); the rail has been good since the last wrap. -/
  uvlo : Bool := false
  uvloHeld : Bool := false
  uvloClean : Bool := false
  /-- Held after a desaturation until the next island wrap after the soft turn-off (R250). -/
  desatHold : Bool := false
  /-- Tick at which a running soft turn-off started (R249). -/
  softOff : Option Nat := none
  softIsDesat : Bool := false
  /-- Sink strength of a soft turn-off in force in place of `snk`: SOFT_STEP, then 15, until the next on command (R249). -/
  softSnk : Option (BitVec 4) := none
  /-- Desaturation signal at the P-die trip logic, asserted until the given tick once the turn-off has ended (R252). -/
  desatSig : Bool := false
  desatSigEnd : Option Nat := none
  /-- Desaturation detector armed; tick of the on command (R248). -/
  armed : Bool := false
  onAt : Option Nat := none
  /-- Tick of the off command that ended an armed on-time (R251). -/
  armedOff : Option Nat := none
  /-- Present strengths (R243). -/
  src : BitVec 4 := 0
  snk : BitVec 4 := 0
  /-- Consecutive measurements that called for a further step up (positive) or down (negative) at a limit, and whether it has been
  reported (R247). -/
  srcLim : Int := 0
  snkLim : Int := 0
  srcLimDone : Bool := false
  snkLimDone : Bool := false
  /-- A trip has held the unit and no edge has been made since its release (R246). -/
  adaptFrozen : Bool := false
  /-- ISL_TSW (R244). -/
  ton : BitVec 12 := 0
  toff : BitVec 12 := 0
  tonValid : Bool := false
  toffValid : Bool := false
  /-- ISL_CNT (R261). -/
  desatCnt : BitVec 8 := 0
  uvloCnt : BitVec 8 := 0
  /-- The unit is under comparator test, or held until the wrap after it (R255). -/
  testHold : Bool := false
  /-- Held until the next island wrap after a hold has ended (R210). -/
  waitWrap : Bool := false
deriving DecidableEq, Repr, Inhabited

/-- An island (R22, R197, R239 to R258). -/
structure Island where
  /-- Shadow compare and phase, whether each has been written since the last transfer (R204). -/
  shCmp : BitVec 24 := 0
  shPhase : BitVec 24 := 0
  shCmpNew : Bool := false
  shPhaseNew : Bool := false
  /-- Active compare and phase, transferred at the last boundary (R205). -/
  actCmp : BitVec 24 := 0
  actPhase : BitVec 24 := 0
  /-- A compare has been transferred since the carrier started (R210). -/
  haveCmp : Bool := false
  /-- The island has applied a compare transferred since the carrier started (R210). -/
  started : Bool := false
  /-- Phase offset that places the island's present carrier period (R197, R198). -/
  phase : BitVec 24 := 0
  /-- Fine step, counted from time zero, of the last island wrap and of the next one (R197). -/
  lastWrap : Nat := 0
  nextWrap : Nat := 0
  /-- PWM_CMP: C' applied at the last wrap (R211). -/
  cmp : BitVec 24 := 0
  /-- Length of the present carrier period in fine steps (R198). -/
  len : Nat := 0
  /-- ISL_STATUS (R261). -/
  ready : Bool := false
  link : Bool := false
  bias : Bool := false
  rebiasRefused : Bool := false
  ilkCnt : BitVec 8 := 0
  /-- Both units are commanded on: the interlock holds them off (R242); tick of the last event raised. -/
  ilkActive : Bool := false
  ilkEvent : Option Nat := none
  /-- The P-die evaluates the island's return signals (R240, R257). -/
  evaluated : Bool := false
  /-- The return link is locked: it carries temperature and switching times before READY too (R239, R257). -/
  returnUp : Bool := false
  /-- Configuration has not been reloaded since the link was lost (R241). -/
  linkHold : Bool := false
  /-- Tick at which the bias switch closed, while the start runs (R257). -/
  startAt : Option Nat := none
  startFailed : Bool := false
  /-- A block reset has been asked for by REBIAS or by an island off; tick at which it removed the bias (R258). -/
  resetReq : Bool := false
  resetAt : Option Nat := none
  /-- ISL_TEMP, two's complement, 0.25 degC (R256). -/
  temp : BitVec 12 := 0
  tempWarned : Bool := false
  tempOver : Bool := false
  /-- ISL_TEST: comparators still to test in bit order, tick of the present test's start, RESULT (R253, R254). -/
  testLeft : List (Fin 4) := []
  testAt : Nat := 0
  testResult : BitVec 8 := 0
deriving DecidableEq, Repr, Inhabited

/-- A conversion set that has been sampled (R266, R269, R271). -/
structure Conv where
  start : Nat := 0
  codes : List Word16 := []
  mask : Word16 := 0
  ovr : Bool := false
  latched : Bool := false
  regionValid : Bool := false
  region : RegionId := 0
  count : Word32 := 0
  /-- Times an injected conversion has been pre-empted (R273). -/
  preempted : Nat := 0
deriving DecidableEq, Repr, Inhabited

/-- A trigger whose delay counts (R268): due tick, and the region and boundary count where a region gave it. -/
structure Delay where
  due : Nat := 0
  region : Option (RegionId × Word32) := none
deriving DecidableEq, Repr, Inhabited

/-- An ADC bank (R262 to R286). -/
structure Bank where
  delay : Option Delay := none
  running : Option Conv := none
  latch : Option Delay := none
  /-- The next set of the path carries OVR (R282); the overrun event has been raised since the last set without it (R291). -/
  ovrNext : Bool := false
  ovrReported : Bool := false
  injOvrNext : Bool := false
  injOvrReported : Bool := false
  injDelay : Option Delay := none
  inj : Option Conv := none
  injLatch : Option Delay := none
  /-- Set count of R282. -/
  setCount : Word32 := 0
  /-- Ticks of the next expiry of the bank timer and of the next continuous set (R266, R270). -/
  timerNext : Nat := 0
  contNext : Nat := 0
  /-- Injected triggers given and not yet taken (R271). -/
  injReq : List (Option (RegionId × Word32)) := []
  /-- Sampling instants and counts of the last regular sets, newest first, at most 32 (R309). -/
  recent : List (Nat × Word32) := []
  /-- ADC_CNT and ADC_INJCNT (R293). -/
  ovrCnt : Word16 := 0
  latchCnt : Word16 := 0
  injLost : Word16 := 0
  injOvr : Word16 := 0
  /-- Calibration: step, slice (16 is the spare), tick of the step's start or of the measurement's, next start (R275). -/
  cal : CalPhase := .idle
  calSlice : Fin 17 := 0
  calAt : Nat := 0
  calNext : Nat := 0
  /-- ADC_CALSTAT (R277, R278). -/
  spareFor : BitVec 5 := 0x1F
  failed : BitVec 17 := 0
  stopped : Bool := false
  /-- Calibration coefficients of each slice (offset and gain), and those of the measurement that waits for its hand-back (R275, R277). -/
  coefs : Vector Word32 17 := Vector.replicate 17 0
  newCoef : Word32 := 0
  /-- Result queue, oldest first, at most 2048 entries (R285). -/
  queue : List Word32 := []
  dropCnt : Word16 := 0
  fullReported : Bool := false
  threshReported : Bool := false
  /-- ADC_WINST (R290). -/
  winLatched : Word16 := 0
  winState : Word16 := 0
  /-- ADC_OWST (R280). -/
  owFlag : Word16 := 0
  /-- Sets packed for one VC1 frame and the tick in which the first completed (R284). -/
  packed : List SampleSet := []
  packedAt : Nat := 0
deriving DecidableEq, Repr, Inhabited

/-- An ADC channel's open-wire and comparator state (R279, R280, R290). -/
structure Channel where
  suspect : Nat := 0
  normal : Nat := 0
  /-- The currents are reversed; conversions since the last reversal; the suspect run includes a reversal (R279, R280). -/
  reversed : Bool := false
  sinceRev : Nat := 0
  revSeen : Bool := false
  /-- Tick of the last comparator event raised (R290). -/
  winEvent : Option Nat := none
deriving DecidableEq, Repr, Inhabited

/-- A filter chain (R295 to R303). -/
structure Chain where
  /-- Stage 1 window, newest first. -/
  rank : List Int := []
  /-- Stage 2 accumulator d, in accumulator units (R296). -/
  dc : Int := 0
  frozen : Bool := false
  /-- CIC integrators and combs and inputs taken since the last output (R297): words of accumulator units, whose fraction bits and the growth
  of R = 1024 take 80 bits (notes/assumptions/28.md). -/
  integ : List (BitVec 80) := [0, 0, 0, 0]
  comb : List (BitVec 80) := [0, 0, 0, 0]
  cicCount : Nat := 0
  /-- Compensator and resampler histories, newest first, accumulator units. -/
  comp : List Int := []
  resamp : List Int := []
  /-- CIC outputs taken by stage 5, position tau and delta in units of 2^-24 (R301, R302). -/
  cicIndex : Nat := 0
  tau : Int := 0
  delta : Int := 0
  /-- Valid samples taken by stages 1 to 5 since the restart (R299). -/
  taken : List Nat := [0, 0, 0, 0, 0]
  /-- A restart waits for the next input, with its cause (R298). -/
  restart : Option (Fin 5) := some 0
  cause : Fin 5 := 0
  restartCnt : Word16 := 0
  settle : Word32 := 0
  settled : Bool := false
  valid : Bool := false
  prevX : Option Int := none
  prevCount : Option Word32 := none
  /-- Output index and the unsent outputs, oldest first (R303). -/
  outIndex : Word32 := 0
  /-- Ticks of the last outputs, newest first, at most 128 (R309). -/
  outTicks : List Nat := []
  unsent : List Word16 := []
  unsentTicks : List Nat := []
  unsentValid : Bool := false
  unsentAt : Nat := 0
deriving DecidableEq, Repr, Inhabited

/-- A trigger unit (R304 to R309). -/
structure TrigUnit where
  state : TrigState := .off
  /-- Samples seen, newest first. -/
  hist : List Int := []
  primedUp : Bool := false
  primedDown : Bool := false
  cfgErr : Bool := false
  fireCnt : Word16 := 0
  /-- Tick at which a time hold-off ends, or conditions left in a count hold-off (R307). -/
  holdEnd : Nat := 0
  holdLeft : Nat := 0
  lastEvent : Option Nat := none
  /-- Configuration written since the last input sample (R308). -/
  written : Bool := false
  /-- For a combine unit: instants of the fires of OPA and OPB that a fire still to be processed can meet, newest first (R306). -/
  fireA : List Nat := []
  fireB : List Nat := []
deriving DecidableEq, Repr, Inhabited

/-- A capture session (R310 to R319). -/
structure Session where
  state : SessState := .free
  gen : BitVec 4 := 0
  chains : Bool := false
  minmax : Bool := false
  bank : BankId := 0
  mask : Word16 := 0
  trigger : BitVec 4 := 0xF
  interval : Nat := 0
  bufAddr : Nat := 0
  bufLen : Nat := 0
  pre : Nat := 0
  post : Nat := 0
  /-- Tick of arming, and AT_TIME where the command was timed: recording starts at the first instant at or after both (R315). -/
  armTick : Nat := 0
  atTime : Word64 := 0
  status : Word16 := 0
  /-- Header FLAGS (R314). -/
  stopped : Bool := false
  preShort : Bool := false
  gapFlag : Bool := false
  triggered : Bool := false
  /-- Records taken in all; record number of post-trigger record 0, once it is known (R315). -/
  taken : Nat := 0
  trigRec : Option Nat := none
  /-- Gap records written and their record numbers, oldest first (R322). -/
  gaps : Nat := 0
  gapRecs : List Nat := []
  /-- Sets of the stream lost since its last sample, oldest first (R322). -/
  lost : List Word32 := []
  /-- Identity and position of each sample of the stream that does not follow its predecessor's identity by one, newest first; the identity of
  the last set before the arm instant (R309, R315). -/
  segs : List (Nat × Nat) := []
  before : Option Word32 := none
  /-- Progress fields as last written: PRE stored, POST stored, START, gap records (R314, R322). -/
  prog : Nat × Nat × Nat × Nat := (0, 0, 0, 0)
  /-- Trigger instant and identity of post-trigger record 0 (R309, R314). -/
  trigTime : Word64 := 0
  trigId : Word32 := 0
  lastId : Option Word32 := none
  /-- Identity of the last sample taken, and of the last set before the arm instant, as the model counts them without wrap. -/
  seen : Nat := 0
  floor : Option Nat := none
  /-- Running minima and maxima of the present interval and samples taken in it (R313). -/
  acc : List (Int × Int) := []
  accCount : Nat := 0
  /-- Outputs of chains that wait for those of the same position of the other chains: chain, index, output, tick (R313). -/
  chainBuf : List (ChainId × Word32 × Word16 × Nat) := []
  /-- Notices of the session's unit not yet judged, oldest first (R309, R315). -/
  notices : List Notice := []
  /-- CAPTURE_STOP commands that wait for the end of the session (R318). -/
  stopReq : List Slot := []
  /-- Tick of the last progress write (R314). -/
  progressAt : Nat := 0
  /-- Ended by a C-die reset: the header and the event wait for the die's return (R322). -/
  owed : Bool := false
  words : AsnWords := {}
deriving DecidableEq, Repr, Inhabited

/-- A probe number (R137 to R144). -/
structure Probe where
  ctx : Option CtxId := none
  gen : BitVec 4 := 0
  /-- Context that the number last ran in: the target of a PROBE_STOP (R364). -/
  last : CtxId := 0
  /-- Releases seen and injection runs made (R140, R141). -/
  releases : Nat := 0
  phase : Word32 := 0
  lfsr : Nat := 0
  /-- The run in progress or the last one: its injection. -/
  inj : Int := 0
deriving DecidableEq, Repr, Inhabited

/-- Feedback detectors of one input slot (R152, R153). -/
structure FbSlot where
  range : Nat := 0
  same : Nat := 0
  last : Option Word16 := none
  clean : Nat := 0
  /-- FB_CLASS under which the slot was flagged lost, 0 while it is not (R153, R154). -/
  cls : Nat := 0
deriving DecidableEq, Repr, Inhabited

/-- What a VSM context keeps beside its state words, for items that R189 gives no word (notes/assumptions/38.md). -/
structure VsmRt where
  /-- Black-start phase, and that of the outgoing mode while a blend runs (R78). -/
  phase : Nat := 0
  outPhase : Nat := 0
  /-- The outgoing output of the blend is a held value (R102). -/
  outHeld : Bool := false
  /-- w_out stands at its limit; the event has been raised (R51). -/
  atLimit : Bool := false
  /-- Shed level last reported (R72). -/
  shed : Nat := 0
  /-- Release of the first run without lock, while lock stays lost; T_freeze has ended and dw_a decays (R64, R575). -/
  unlocked : Option Word32 := none
  decaying : Bool := false
  /-- Runs in a row of soft stop at which the sequencer's current reads below 0.02 p.u. (R104). -/
  lowRuns : Nat := 0
  /-- w, E and x_add as the last run stored them, accumulator units. -/
  outW : Int := 0
  outE : Int := 0
  outX : Int := 0
  /-- What the rate limiter still lacked of w and E at the last run (R101). -/
  resW : Int := 0
  resE : Int := 0
deriving DecidableEq, Repr, Inhabited

/-- Stage of a black-start sequencer (R79, R80, R83). -/
inductive SeqStage where
  | stopped | blackStart | synchronise | running | softStop
deriving DecidableEq, Repr, Inhabited

/-- What a sequencer context keeps beside its state words. -/
structure SeqRt where
  stage : SeqStage := .stopped
  drive : Bool := false
  /-- The feedback has read closed since the drive went on (R90, R92). -/
  closed : Bool := false
  /-- The loss of bus-side feedback has been reported (R84). -/
  warned : Bool := false
  /-- The contactor is taken as welded (R91). -/
  weld : Bool := false
  /-- CTX_WRITEs with a START kept during soft stop, oldest first (R80). -/
  kept : List Slot := []
deriving DecidableEq, Repr, Inhabited

/-- What the input slots of a context carry of their producers beside 16-bit values (R46, R60, R67, R96, R98, R104, R156, R185). -/
structure LinkVals where
  /-- Block of a harmonic or correlation link. -/
  block : List Word16 := []
  /-- Of the current envelope: runs in a row with stage 2 active. -/
  streak : Nat := 0
  /-- Of the VSM: runs in a row of soft stop with low current, the stop factor at 0 in soft stop, and w_out. -/
  lowRuns : Nat := 0
  factorZero : Bool := false
  busW : Int := 0
  /-- Of the synchroniser: the windows are met; dth, w - w_bus and the magnitude difference. -/
  winMet : Bool := false
  syncErr : Int × Int × Int := (0, 0, 0)
  /-- Voltage reference at the output of the region's virtual impedance. -/
  volts : List Word16 := []
  /-- Of the Q-V droop: v_set as its ramp stands, and the term of R53. -/
  droop : Option (Int × Int) := none
  /-- Of the sequencer: E_start, and the current it reads. -/
  eStart : Int := 0
  current : Option Word16 := none
  /-- Parameter words of the linked contexts, which a run takes as they stand at its first cycle (R131): the Q-V droop's limits, the sequencer's
  T_bs_ramp and x_bs, the harmonics of the bank; of the VSM that a meter serves its divider, of the region's VSM N_blend. -/
  droopLims : Option (Nat × Nat) := none
  bsWords : Option (Nat × Nat) := none
  harmonics : List Nat := []
  meterSpan : Nat := 1
  blendSpan : Nat := 1
deriving DecidableEq, Repr, Inhabited

/-- What the Loop Engine keeps of a context beside its entry. -/
structure CtxRt where
  /-- Released and not yet completed (R107). -/
  released : Bool := false
  /-- Released in the present period of its region (R110, R119). -/
  inPeriod : Bool := false
  /-- Boundary or slot count of the last release. -/
  release : Word32 := 0
  /-- Values that its input slots with PREV read, as they stood when the present release took place (R119). -/
  prevIn : List Word16 := []
  /-- What its link slots with PREV read, and what its link slots have read at the first cycle of the run in progress (R119, R121). -/
  prevLinks : LinkVals := {}
  links : LinkVals := {}
  /-- Values read at the first cycle of the run in progress (R121). -/
  vals : List Word16 := []
  /-- Detectors of its input slots (R152). -/
  fb : List FbSlot := []
  /-- Held for lost current feedback (R154, R158). -/
  heldCurrent : Bool := false
  /-- Changes of unit state counted for each region at its last run (R152). -/
  seen : List Nat := []
  /-- First skip and first overrun since CTX_ENABLE have been reported (R112, R177). -/
  skipReported : Bool := false
  overrunReported : Bool := false
  /-- Values that its input slots read at the last run completed. -/
  ins : List Word16 := []
  /-- Release of the last run completed (R575), none since CTX_ENABLE. -/
  lastRun : Option Word32 := none
  /-- A prefetch of its entry is in flight (R176), and it is one beyond those that the reserved slots assure (R497). -/
  prefetching : Bool := false
  beyond : Bool := false
  /-- Setpoint parameters written and not yet applied at a run (R134). -/
  changed : List Nat := []
  /-- First state words of the ramps that made their last run at the last run (R135). -/
  rampDone : List Nat := []
  /-- Current envelope: quarters of a period of t_ov beside its state word, fold-back running, runs in a row with stage 2 active
  (R58, R60). -/
  quarter : Nat := 0
  folding : Bool := false
  streak : Nat := 0
  /-- Harmonic bank: the 24 components of the latest run; voltage regulator: its correlation sums (R185). -/
  block : List Word16 := []
  /-- Q-V droop: the term n_q (q_set - q_f) of the latest run, accumulator units (R53, R71). -/
  term : Int := 0
  /-- Leg current regulator: region periods since closed-loop operation returned, while its blend runs (R157). -/
  reopen : Option Nat := none
  /-- Virtual impedance: running adaptation ramp of r_pos, accumulator, step and runs left (R186). -/
  adapt : Option (Int × Int × Nat) := none
  /-- Impedance Watch: a sweep runs, releases at which it and its point started, good sweeps in a row (R67, R70). -/
  sweeping : Bool := false
  sweepAt : Option Word32 := none
  pointAt : Word32 := 0
  /-- Frequency of the present point in 0.1 Hz, and of the points done: frequency, and for a valid one |L| in 2^-16 and its angle in 2^-16
  of a revolution (R67, R68). -/
  pointF : Nat := 0
  points : List (Nat × Option (Nat × Int)) := []
  goodSweeps : Nat := 0
  /-- Synchroniser: dth, w - w_bus and the magnitude difference of the last run (R97). -/
  syncErr : Int × Int × Int := (0, 0, 0)
  vsm : VsmRt := {}
  seqr : SeqRt := {}
deriving DecidableEq, Repr, Inhabited

/-- One entry of the context cache: the context, and the bytes of state words and VALUE fields not yet written
back (entry offset and byte) (R173, R178). -/
structure CacheEntry where
  ctx : CtxId
  pinned : Bool := false
  overlay : List (Nat × Byte) := []
  err : Option (Nat × Nat) := none
deriving DecidableEq, Repr

/-- One event source (R434 to R462). -/
structure Source where
  state : FaultState := .clear
  reaction : Reaction := .none
  force : Bool := false
  recovCnt : BitVec 4 := 0
  eventCnt : Word16 := 0
  lastCode : Word16 := 0
  lastSev : Sev := .info
  lastCons : Bool := false
  lastForced : Bool := false
  /-- Start of the quiet period: tick since which the condition is absent and no FAULT was raised (R445). -/
  quietAt : Nat := 0
  /-- The same without the FAULT and CRITICAL events of tick `quietAt`, which a recovery in that tick precedes (R449). -/
  quietWas : Nat := 0
  /-- Ticks of the recoveries still counted by R446. -/
  recovered : List Nat := []
  /-- Codes of its events whose condition has not ended (R444), and the tick at which the first of them began (R449). -/
  standing : List Word16 := []
  stoodAt : Nat := 0
deriving DecidableEq, Repr, Inhabited

/-- An event raised and not yet collected (R437, R438). -/
structure Event where
  source : SourceId
  code : Word16
  sev : Sev
  /-- The default reaction its chapter gives it, and whether it is fixed (R440, R442). -/
  dflt : Reaction := .none
  fixed : Bool := false
  consequential : Bool := false
  cause : BitVec 8 := 0
  forced : Bool := false
  detail : Word32 := 0
  arg : Word32 := 0
  time : Word64 := 0
  /-- The P-die applied its reaction before delivery (R438). -/
  applied : Bool := false
  /-- Records are written at its raising, or for a buffered event at its delivery (R342). -/
  recorded : Bool := false
deriving DecidableEq, Repr

/-- A reaction shadow window (R450, R451). -/
structure Shadow where
  obj : ShadowObj
  /-- Tick at which it ends, none while a C-die reset that opened it lasts. -/
  ends : Option Nat
  cause : BitVec 8
deriving DecidableEq, Repr

/-- A first-error capture domain (R454, R456). -/
structure FirstError where
  valid : Bool := false
  addr : BitVec 48 := 0
  req : BitVec 8 := 0
  type : BitVec 4 := 0
  time : Word64 := 0
  synd : BitVec 48 := 0
  nsym : BitVec 4 := 0
  cnt : Word32 := 0
  replaced : Bool := false
deriving DecidableEq, Repr, Inhabited

/-- Check-bit injection (R457, R463): its settings stand in EVT_INJ_CTRL and EVT_INJ_ADDR. -/
structure Injection where
  armed : Bool := false
  done : Bool := false
  refused : Bool := false
deriving DecidableEq, Repr, Inhabited

/-- One direction of the Millrace link (R12 to R16). -/
structure MrDir where
  /-- Frames waiting, one list per virtual channel, oldest first. -/
  waiting : Vector (List MrFrame) 4 := Vector.replicate 4 []
  /-- Credits the sender has left per virtual channel, and those its receiver has still to issue (R13). -/
  credits : Vector Nat 4 := #v[8, 32, 16, 32]
  owed : Vector Nat 4 := Vector.replicate 4 0
  nextSeq : BitVec 12 := 0
  /-- The replay buffer: frames sent and not delivered, in the order sent, at most 64; those that a replay request asks for again; frames on
  the wire, oldest first (R15). -/
  sent : List MrFrame := []
  again : List MrFrame := []
  wire : List MrFrame := []
  /-- Sequence number that the receiver delivers next (R15). -/
  expect : BitVec 12 := 0
  /-- Times the frame of that number has been sent again; it has been so 4 times and is still not delivered (R16). -/
  replays : Nat := 0
  exhausted : Bool := false
deriving DecidableEq, Repr

/-- A receive buffer lent by NET_RX_POST (R389). -/
structure RxBuf where
  slot : Slot
  asn : Word32
  addr : Word64
  len : Nat
deriving DecidableEq, Repr

/-- A received frame whose buffer is filled and whose delivery waits for the C-die or the host (R389, R576). -/
structure RxDone where
  buf : RxBuf
  data : List Byte
  status : Word16
  detail : Word32
  result : Word64
deriving DecidableEq, Repr

/-- A transmit timestamp (R397). -/
structure TxStamp where
  ts : Word32
  asn : Word32
  tag : BitVec 4
  gen : BitVec 4
  port : BitVec 2
deriving DecidableEq, Repr, Inhabited

/-- A frame waiting at a port: bytes without FCS, the NET_TX that waits for it (R388), the NET_TX's ASN, tag and generation where it owes
a timestamp (R396), and whether its start-of-frame delimiter has passed (R393). -/
structure TxFrame where
  bytes : List Byte
  pair : Bool := false
  cmd : Option Slot := none
  stamp : Option (Word32 × BitVec 4 × BitVec 4) := none
  stamped : Bool := false
  /-- Of a timed NET_TX: it goes before the frames that wait (R388). -/
  timed : Bool := false
deriving DecidableEq, Repr

/-- A network port (R380, R396, R409). -/
structure Port where
  link : Bool := false
  hostQ : List TxFrame := []
  pairQ : List TxFrame := []
  sending : Option TxFrame := none
  fcsErr : Word16 := 0
  filtered : Word16 := 0
  txFrames : Word32 := 0
  rxFrames : Word32 := 0
  wrongLan : BitVec 8 := 0
  /-- Tick of the last frame received; the silence has been reported (R386). -/
  lastRx : Nat := 0
  silent : Bool := false
deriving DecidableEq, Repr, Inhabited

/-- A PRP node table entry: source, last sequence numbers with port and tick, last traffic (R384, R385). -/
structure PrpNode where
  mac : BitVec 48
  seen : List (Word16 × Nat) := []
  last : Nat := 0
deriving DecidableEq, Repr

/-- The network engine (R380 to R398). -/
structure Net where
  ports : Vector Port 2 := Vector.replicate 2 {}
  prpSeq : Word16 := 0
  nodes : List PrpNode := []
  nodeFullFor : List (BitVec 48) := []
  dup : Word16 := 0
  bufs : List RxBuf := []
  rxHeld : List RxDone := []
  /-- Ports that have taken a NET_TX's frame so far, by journal slot (R388). -/
  txTook : List (Slot × Nat) := []
  nobufCnt : BitVec 8 := 0
  nobufReported : Bool := false
  foreignCnt : BitVec 8 := 0
  foreignEvent : Option Nat := none
  wrongLanEvent : Option Nat := none
  lastSup : Nat := 0
  supSeq : Word16 := 0
  /-- Transmit-timestamp queue, its latches and its tags (R396 to R398). -/
  txq : List TxStamp := []
  txqDrop : Word16 := 0
  txqReported : Bool := false
  txqLatch : Option TxStamp := none
  tagGen : Vector (BitVec 4) 16 := Vector.replicate 16 0
  tagOwed : Vector Nat 16 := Vector.replicate 16 0
  /-- Network counters shown while NET_EN holds them as a set (R511): NET_CNT, NET_TX_CNT, NET_RX_CNT of A and B, NET_PRP_CNT. -/
  shown : List Word32 := [0, 0, 0, 0, 0, 0, 0]
deriving DecidableEq, Repr

/-- The time unit (R399 to R407). -/
structure TimeUnit where
  /-- Free-running counter of ticks, 64 bits (R399). -/
  count : Word64 := 0
  /-- The C-die's own count, which a P-die reset does not stop (R403). -/
  cCount : Word64 := 0
  /-- Offset base B in units of 2^-16 ns (R400). -/
  base : Int := 0
  /-- Rate anchor r_A in ticks of the counter and rate correction in units of 2^-48. -/
  anchor : Nat := 0
  rho : Int := 0
  /-- The C-die's copy of B, r_A and rho, which a link failure freezes (R403). -/
  cBase : Int := 0
  cAnchor : Nat := 0
  cRho : Int := 0
  locked : Bool := false
  stepRefused : Bool := false
  discont : Bool := false
  /-- Qualifying commands in a row and tick of the last TIME_ADJUST applied (R406). -/
  good : Nat := 0
  lastAdjust : Nat := 0
  nowHi : Word32 := 0
  /-- B, r_A and rho as they stood before the last TIME_ADJUST: a timestamp in its tick uses them (R393). -/
  oldBase : Int := 0
  oldAnchor : Nat := 0
  oldRho : Int := 0
  /-- Coarse count of AO periods, 48 bits, and its latch (R526, R545). -/
  ao : BitVec 48 := 0
  /-- Tick at which the present AO period began. -/
  aoStart : Nat := 0
  aoHi : Word16 := 0
  /-- AO count when the P-die lost power or reset (R404). -/
  aoOutage : Nat := 0
deriving DecidableEq, Repr, Inhabited

/-- A duty copy kept by Confluence (R421). -/
structure DutyCopy where
  seq : Word32
  body : List Byte
  /-- Which dies have delivered it, and whether it has been written to the shadow set. -/
  fromLocal : Bool
  fromPartner : Bool
  written : Bool
deriving DecidableEq, Repr

/-- Pairing of one region letter (R413, R421 to R431). -/
structure PairRegion where
  standby : Standby := .absent
  /-- The partner's die is active (mirror letter: this die is active). -/
  partnerActive : Bool := false
  localFailed : Bool := false
  partnerFailed : Bool := false
  /-- The partner's die has failed and may return: no resynchronisation of it has failed since (R427). -/
  mayReturn : Bool := false
  copies : List DutyCopy := []
  /-- Copies of a die in its probation, by sequence number (R428). -/
  probation : List (Word32 × List Byte) := []
  /-- Sequence numbers missed in a row by the local and by the partner die (R424). -/
  missLocal : Nat := 0
  missPartner : Nat := 0
  /-- Consecutive sequence numbers with an accepted copy, while no valid source holds the region (R426). -/
  goodSeqs : Nat := 0
  /-- A resynchronisation is asked for (R427). -/
  wanted : Bool := false
  /-- Matching copies in the present probation (R428); epochs discarded in this resynchronisation (R429). -/
  matching : Nat := 0
  lastMatch : Word32 := 0
  discarded : Nat := 0
  /-- Tick at which the resynchronisation that runs was started, none while none runs (R428, R429). -/
  resyncAt : Option Nat := none
  snapCount : Word32 := 0
  /-- Checkpoint bytes received so far by offset, and the epoch they belong to (R428). -/
  chunks : List (Nat × List Byte) := []
  rxEpoch : Word16 := 0
  /-- Sample sets kept for the time after c_s, by boundary count, oldest first (R428). -/
  keptSets : List (Word32 × List SampleSet) := []
  /-- This package's die holds valid state of the region: its contexts run and its copies are sent (R428). -/
  held : Bool := false
  /-- The entries of a checked commit are in the table and the kept releases are being run (R428). -/
  catching : Bool := false
  /-- PAIR_RESYNC that waits for SYNCED (R431). -/
  resyncCmd : Option Slot := none
  words : AsnWords := {}
  /-- Mirror letter: tick of the last sample frame (R412). -/
  lastFrame : Nat := 0
deriving DecidableEq, Repr, Inhabited

/-- A CTX_WRITE held for its apply count (R420): the owner's carries its command. -/
structure ParamHeld where
  slot : Option Slot := none
  ctx : CtxId
  apply : Word32
  off : Nat
  data : List Byte
deriving DecidableEq, Repr

/-- Pairing (R411 to R433). -/
structure Pair where
  regions : Vector PairRegion 8 := Vector.replicate 8 {}
  up : Bool := false
  mismatch : Bool := false
  /-- One-way latencies of the last second that no later one exceeds: tick and value, oldest first (R418, R433). -/
  lats : List (Nat × Nat) := []
  latEvent : Option Nat := none
  staleEvent : Option Nat := none
  diverge : Word16 := 0
  stale : Word16 := 0
  /-- Last epoch committed and last one opened (R427, R433). -/
  epoch : Word16 := 0
  opened : Word16 := 0
  epochsDiscarded : Word16 := 0
  lastRx : Nat := 0
  lastHello : Nat := 0
  /-- Hello last received: its send time and arrival (R417). -/
  echo : Option (Word64 × Word64) := none
  held : List ParamHeld := []
  /-- Pair frames delivered by the ports, oldest first (R391). -/
  inbox : List (List Byte) := []
  frameErr : Word32 := 0
deriving DecidableEq, Repr

/-- One safety channel (R464 to R489). -/
structure SafChannel where
  /-- Inputs as the channel reads them, true for no demand, in the order of SafInput (R468, R493). -/
  inputs : Vector Bool 6 := Vector.replicate 6 false
  /-- Inputs read since the channel's last C-die reset: until then a reading stands as demand (R473). -/
  seen : Vector Bool 6 := Vector.replicate 6 true
  /-- Start of a discrepancy of the pair; fault latched; both have read demand since (R469). -/
  discSince : Vector (Option Nat) 2 := Vector.replicate 2 none
  discFault : Vector Bool 2 := Vector.replicate 2 false
  discBoth : Vector Bool 2 := Vector.replicate 2 false
  /-- Start-up test: passed; tick since which both read demand (R472). -/
  startup : Bool := false
  startupSince : Option Nat := some 0
  /-- Self-test or self-check good (R487). -/
  selfOk : Bool := false
  /-- Tick of the last self-test or self-check, and of the last pulse of SUP_A and SUP_B that the channel judged (R487, R550). -/
  checkedAt : Option Nat := none
  supAt : Vector (Option Nat) 2 := Vector.replicate 2 none
  /-- Parameter block copied and valid (R488). -/
  paramOk : Bool := false
  /-- The channel's switch in SO_A, SO_B and DCH is closed (R476, R477). -/
  so : Vector Bool 2 := Vector.replicate 2 false
  dch : Bool := false
  /-- Test pulse running on the outputs, since the tick; tick of the last test (R480). -/
  pulse : Vector Bool 2 := Vector.replicate 2 false
  pulseAt : Nat := 0
  lastTest : Nat := 0
  /-- Tick from which its test intervals count: the Seal, or its power-up after it (R480). -/
  testFrom : Nat := 0
  /-- The channel's switch in the output is taken as stuck closed (R481). -/
  stuck : Vector Bool 2 := Vector.replicate 2 false
deriving DecidableEq, Repr, Inhabited

/-- SF2 faults of one output (R477, R481, R484, R487). -/
structure SoFaults where
  overload : Bool := false
  test : Bool := false
  welded : Bool := false
  notClosed : Bool := false
  readback : Bool := false
  /-- Tick of the last change of output state, and whether it was energised (R484). -/
  changedAt : Nat := 0
  energised : Bool := false
  /-- Mirror contact closed since, while the on-request is clear (R484). -/
  clearSince : Option Nat := none
deriving DecidableEq, Repr, Inhabited

/-- The safety functions (R464 to R493). -/
structure Saf where
  ch : Vector SafChannel 2 := Vector.replicate 2 {}
  so : Vector SoFaults 2 := Vector.replicate 2 {}
  wire : WireState := .absent
  /-- Channel 2's wave runs (R466, R470). -/
  wave : Bool := false
  path1Block : Bool := true
  biasPermit : Bool := false
  /-- Bias came back at this tick, while path 1 waits for READY (R474). -/
  biasAt : Option Nat := none
  /-- Path 2 is held acted until the next power-up of CD_SAF; readback and timeout findings (R486, R487). -/
  ch2NotFollowed : Bool := false
  path1Fault : Bool := false
  path2Fault : Bool := false
  ch2Timeout : Bool := false
  /-- Tick of the last readback pulse of path 1 (R487). -/
  readBackAt : Option Nat := none
  /-- Tick since which channel 2 is absent, none before the wire is first decoded (R485). -/
  absentSince : Option Nat := none
  /-- Tick at which channel 1's demand started (R487). -/
  demandAt : Option Nat := none
  sf1Reported : Bool := false
  sf3Reported : Bool := false
  dchOver : Option Nat := none
  /-- Test counters (R493). -/
  pass : Word16 := 0
  abandon : BitVec 8 := 0
  fail : BitVec 8 := 0
  reqA : Bool := false
  reqB : Bool := false
  /-- Safety set shown while SAF_EN holds it (R511): SAF_STATUS, SAF_IN, SAF_SO_CNT. -/
  shown : List Word32 := [0x12010600, 0, 0]
deriving DecidableEq, Repr

/-- Settings of the arbiter (R498, R500, R505). -/
structure ArbCfg where
  /-- Index of journal, Loop Engine, network buffers, host DMA, patrol scrubber. -/
  order : Vector (BitVec 3) 5 := #v[0, 1, 2, 3, 4]
  leRsv : BitVec 3 := 2
  burstMax : BitVec 6 := 8
deriving DecidableEq, Repr

/-- The memory arbiter (R498 to R505). -/
structure Arb where
  active : ArbCfg := {}
  shadow : ArbCfg := {}
  commitPending : Bool := false
  ptr : Nat := 0
  /-- Losses in a row and slots still to sit out, by requester in the order of ArbCfg.order (R501). -/
  losses : Vector Nat 5 := Vector.replicate 5 0
  backoff : Vector Nat 5 := Vector.replicate 5 0
  /-- The requester that holds the grant and the lines its burst may still move (R500). -/
  grant : Option (Fin 5 × Nat) := none
  /-- Tick of the grant or of its last line (R504). -/
  progressAt : Nat := 0
  commitErr : Bool := false
  wdCnt : BitVec 8 := 0
  wdReq : BitVec 8 := 0
  /-- Tick at which the last refresh took the memory (R495, R503). -/
  refreshAt : Option Nat := none
  /-- Memory slot that was last given to the arbiter, and lines that requester LE has moved in arbitrated slots for prefetches beyond the reserve
  (R494, R497). -/
  slotDone : Option Nat := none
  leLines : Nat := 0
  /-- Records that the capture writer holds in its 4 KiB buffer while a refresh has the memory: address and bytes, oldest first (R495). -/
  capBuf : List (Nat × List Byte) := []
  /-- Ticks of the last updates of the safety set and of the network counters (R511). -/
  safAt : Nat := 0
  netAt : Nat := 0
deriving DecidableEq, Repr

/-- A Weir (R506 to R513). -/
structure Weir where
  owner : Option OwnerId := none
  gen : BitVec 4 := 0
  suspect : Bool := false
  /-- Waiters, first to be granted first: owner, for an SQ its command, and the tick in which it began to wait (R508). -/
  waiters : List (OwnerId × Option Slot × Nat) := []
  words : AsnWords := {}
deriving DecidableEq, Repr, Inhabited

/-- Supply, clocks, domains and resets (R517 to R545). -/
structure Power where
  dev : DevState := .setup
  sealed : Bool := false
  /-- SYS_SEAL.RESULT and SYS_STATE.CMD_RESULT. -/
  sealResult : BitVec 4 := 0
  cmdResult : BitVec 4 := 0
  /-- Domains in regulation and PWR_DOM_STATUS.FAULT, by bit number (R545). -/
  domOn : BitVec 10 := 0x3FF
  domFault : BitVec 10 := 0
  memInit : Bool := false
  /-- The memory stack is in self-refresh: package memory keeps its contents and nothing reaches it (R377). -/
  selfRefresh : Bool := false
  /-- Tick at which the start-up sequence began (R534). -/
  wakeAt : Nat := 0
  /-- Tick of the last measurement of the AO clock (R526). -/
  aoMeasuredAt : Option Nat := none
  memsOk : Bool := true
  pLock : Bool := true
  cLock : Bool := true
  mLock : Bool := true
  aoErr : Word16 := 0
  /-- Input voltage in 0.25 V, LOW, LOST, store charge in per cent (R519). -/
  vbat : BitVec 10 := 0
  low : Bool := false
  lost : Bool := false
  lostAt : Nat := 0
  store : BitVec 8 := 0
  /-- Power fail stands until the input returns (R520); STABLED was reached by it (R521, R522). -/
  failed : Bool := false
  failStabled : Bool := false
  /-- Baseplate temperature, two's complement, 0.25 degC (R544). -/
  temp : BitVec 12 := 0
  tempWarned : Bool := false
  tempOver : Bool := false
  /-- PWR_CNT, PWR_RST_CAUSE (R545). -/
  ridden : Word16 := 0
  fails : Word16 := 0
  lastReset : BitVec 3 := 0
  cdieCnt : BitVec 8 := 0
  pdieCnt : BitVec 8 := 0
  /-- PWR_WAKE_CAUSE. -/
  wakeCause : BitVec 6 := 0x10
  /-- Dies out of reset; reset causes for the events that follow. -/
  pRun : Bool := true
  cRun : Bool := true
  /-- MEM has lost regulation: package memory is initialised before the C-die leaves reset (R542). -/
  memLost : Bool := false
  /-- C-die in die safe: Loop Engine and ring engine stopped, since the tick (R31, R538). -/
  cSafe : Option Nat := none
  stabledAt : BitVec 48 := 0
  isoLostAt : Option Nat := none
  /-- A MEMS reference failure holds both dies in reset (R525). -/
  memsHeld : Bool := false
  debugOpen : Bool := false
  /-- Power-good and always-on wake wires (R10). -/
  powerGood : Bool := true
  wakeWire : Bool := true
deriving DecidableEq, Repr

/-- Host link: PCIe, DMA, posted writes, MSI-X (R354, R576). -/
structure HostLink where
  up : Bool := true
  endpointReset : Bool := false
  reads : List DmaRead := []
  nextId : Nat := 0
  /-- Posted writes that wait for the link, oldest first, and those issued, newest first (R576). -/
  waiting : List HostWrite := []
  issued : List HostWrite := []
  /-- The MSI-X table of BAR2, four words a vector: address low and high, data, vector control, by word number; words at their reset value are
  not listed. Pending bits (R354). -/
  msixTable : List (Nat × Word32) := []
  msixPending : Word32 := 0
  /-- Last change of any CQ head index; the silence has been reported (R461). -/
  lastHead : Nat := 0
  silentReported : Bool := false
  /-- Value the last register read with a side effect returned (R286, R397, R410, R545). -/
  readValue : Word32 := 0
  /-- Accesses to P-die registers that wait (R568). -/
  accesses : List WaitingAccess := []
deriving DecidableEq, Repr

/-- An entry whose completion a replay posts: REPLAYED, SKIPPED or RE_APPLIED, with its cause, whether its outcome was
lost, and the STATUS and RESULT that its outcome record holds, where the entry itself has none (R363, R367, R368). -/
structure RePost where
  slot : Slot
  cause : BitVec 4
  reApplied : Bool
  lost : Bool := false
  kept : Option (Word16 × Word64) := none
  /-- The replay had handled the command before it took effect (R367). -/
  handled : Bool := false
deriving DecidableEq, Repr

/-- The ring engine and the journal (R328 to R379). -/
structure Rings where
  sq : Vector Sq 8 := Vector.replicate 8 {}
  cq : Vector Cq 8 := Vector.replicate 8 {}
  /-- SQ whose turn it is in the acceptance round and descriptors it has taken (R336). -/
  turn : SqId := 0
  takenInTurn : Nat := 0
  polled : Nat := 0
  /-- Journal entries that are not free (R357). -/
  journal : List JEntry := []
  nextAsn : Word32 := 1
  /-- Accepted descriptors whose journal write is not acknowledged yet (R360). -/
  unacked : List Slot := []
  /-- Work the C-die holds (R366). -/
  work : List Work := []
  /-- Commands finished and not posted yet, in the order in which they finished (R346, R362). -/
  finished : List Slot := []
  rePost : List RePost := []
  replaying : Bool := false
  lastCause : BitVec 4 := 0
  replays : Word16 := 0
  reapplied : Word16 := 0
  /-- ASN words kept in AO or for the event system: regions, ports (0 transmit, 1 receive), time, fault (R364). -/
  regionWords : Vector AsnWords 8 := Vector.replicate 8 {}
  portWords : Vector AsnWords 2 := Vector.replicate 2 {}
  timeWords : AsnWords := {}
  faultWords : AsnWords := {}
  /-- SYS_EVT_ROUTE.DROP_CNT; drops have been reported (R342, R355). -/
  dropCnt : Word16 := 0
  dropReported : Bool := false
  lastDrop : Nat := 0
  /-- Journal slots with symbol errors (R371, R376). -/
  journalErr : List (Nat × SymErr) := []
deriving DecidableEq, Repr

/-- One lane: the context whose run it makes, and a timebase run that a region release has pre-empted (R106, R116). -/
structure Lane where
  run : Option CtxId := none
  paused : Option CtxId := none
deriving DecidableEq, Repr, Inhabited

/-- The Loop Engine (R106 to R178). -/
structure Loop where
  cache : List CacheEntry := []
  rt : Vector CtxRt 256 := Vector.replicate 256 {}
  /-- What `rt` held of each context at its last write-back (R178). -/
  rtSaved : Vector CtxRt 256 := Vector.replicate 256 {}
  lanes : Vector Lane 8 := Vector.replicate 8 {}
  /-- LE_TB_LOAD.LIMIT shows the limit; at reset it reads 0 (R161; notes/assumptions/101.md). -/
  tbShown : Bool := false
  probes : Vector Probe 16 := Vector.replicate 16 {}
  /-- Timebase slot count (R111) and the tick at which the slot began. -/
  slot : Word32 := 0
  slotAt : Nat := 0
  /-- Slot 0 has begun since the C-die left reset. -/
  begun : Bool := false
  /-- Slot of the last write-back sweep (R178). -/
  sweptAt : Word32 := 0
  tbOverrun : Word16 := 0
  missCnt : Word16 := 0
  /-- Code store, 16384 words; an unlisted word is 0 (R145). -/
  code : List (Nat × Word32) := []
  codeWord : BitVec 14 := 0
  ucodeResult : BitVec 4 := 0
  ucodeFail : BitVec 14 := 0
  ucodeEntries : List (Nat × Nat) := []
  imageLoading : Bool := false
  imageResult : BitVec 4 := 0
  imageFail : BitVec 8 := 0
  /-- Latest value and open-wire flag received of each ADC channel, latest valid chain outputs (R118). -/
  adcLatest : Vector (Word16 × Bool) 64 := Vector.replicate 64 (0, false)
  chainLatest : Vector Word16 16 := Vector.replicate 16 0
  /-- Sample sets of a region received and not yet used for its release, oldest first (R108). -/
  sets : Vector (List SampleSet) 8 := Vector.replicate 8 []
  /-- Period of the region for which a duty frame is owed (R110). -/
  owed : Vector (Option Word32) 8 := Vector.replicate 8 none
  /-- Sample sets of the region's last release (R118). -/
  relSets : Vector (List SampleSet) 8 := Vector.replicate 8 []
  /-- Changes of unit state seen per region (R152). -/
  switched : Vector Nat 8 := Vector.replicate 8 0
  /-- The region runs open-loop: a voltage slot of it is lost (R154, R157). -/
  openLoop : Vector Bool 8 := Vector.replicate 8 false
deriving DecidableEq, Repr

/-- Events, fault states and watchdogs of the event system (R434 to R463). -/
structure Events where
  src : Vector Source 192 := Vector.replicate 192 {}
  /-- Raised and not yet collected, oldest first. -/
  raised : List Event := []
  /-- P-die events held while the link is down or the C-die in reset, at most 256 (R438). -/
  pbuf : List Event := []
  pbufLost : Word16 := 0
  /-- Events lost since the last delivery (R438). -/
  pbufLostNew : Nat := 0
  /-- Fires of trigger units whose event and notice have not left yet, oldest first (R307, R309). -/
  trgWait : List Notice := []
  /-- Events that have entered or widened a fault state, with their tick: those of the present tick re-enter it after a clear (R449). -/
  fresh : List (Nat × Event) := []
  seq : Word32 := 0
  shadows : List Shadow := []
  fec : Vector FirstError 4 := Vector.replicate 4 {}
  inj : Injection := {}
deriving DecidableEq, Repr

/-- The debug block (R574). -/
structure Debug where
  addr : Word32 := 0
  busy : Option Bool := none
  line : Vector Word32 16 := Vector.replicate 16 0
deriving DecidableEq, Repr

/-- The SK8256. -/
structure State where
  /-- Commands waiting, first in, first out. -/
  pending : List Instr := []
  /-- Ticks of 2.5 ns since reset: the model's time base, which an empty queue's step advances (notes/assumptions/2.md). -/
  now : Nat := 0
  /-- The MODEL's own: index of the next free value (notes/assumptions/3.md). -/
  free : Nat := 0
  /-- RW and RWS register words that differ from their reset word, by BAR0 offset, rising (R6, R570). -/
  regs : List (Nat × Word32) := []
  /-- The Seal record in AO: a copy of `regs` (R539). -/
  sealRecord : List (Nat × Word32) := []
  /-- Package memory: bytes that are not 0, by rising address (R162, R535). -/
  mem : List Host.Cell := []
  /-- Package-memory lines with symbol errors (R376, R457). -/
  memErr : List (Nat × SymErr) := []
  /-- Lines above 0x0014_FFFF written whole before MEM_INIT (R535). -/
  initLines : List Nat := []
  power : Power := {}
  host : HostLink := {}
  rings : Rings := {}
  loop : Loop := {}
  regions : Vector Region 8 := Vector.replicate 8 {}
  islands : Vector Island 24 := Vector.replicate 24 {}
  units : Vector GateUnit 48 := Vector.replicate 48 {}
  /-- Inputs of each trip source asserted at present (R221). -/
  tripActive : Vector Bool 16 := Vector.replicate 16 false
  /-- Duty frames delivered to the P-die and not yet taken by Confluence, oldest first (R204). -/
  dutyIn : List DutyFrame := []
  banks : Vector Bank 4 := Vector.replicate 4 {}
  channels : Vector Channel 64 := Vector.replicate 64 {}
  chains : Vector Chain 16 := Vector.replicate 16 {}
  trigs : Vector TrigUnit 8 := Vector.replicate 8 {}
  sessions : Vector Session 16 := Vector.replicate 16 {}
  net : Net := {}
  time : TimeUnit := {}
  pair : Pair := {}
  saf : Saf := {}
  arb : Arb := {}
  weirs : Vector Weir 32 := Vector.replicate 32 {}
  /-- Waits of SAF_WEIR and NET_WEIR's updates (R511). -/
  events : Events := {}
  /-- The two directions of the Millrace link, by sending die; link up, lane locks, counters (R17). -/
  mrP : MrDir := {}
  mrC : MrDir := {}
  linkUp : Bool := false
  lane0 : Bool := false
  lane1 : Bool := false
  failCnt : BitVec 8 := 0
  replayCnt : Word16 := 0
  /-- MR_MEM_ECC and MR_JRNL_ECC (R379). -/
  memCorr : Word16 := 0
  memUncorr : Word16 := 0
  jrnlCorr : Word16 := 0
  jrnlUncorr : Word16 := 0
  /-- Output-contactor drive in force and CDRV shut off by overload (R168, R549, R554). -/
  drive : Bool := false
  cdrvOff : Bool := false
  dbgBlock : Debug := {}
deriving DecidableEq, Repr

/-- The module right after reset, in SETUP with every register at its reset value (R538, R570). -/
def State.reset : State := {}

end Sys2Proof.Machine
end

