-- ==== Sys2Proof/Machine/EventTable.lean ====
section
/-!
DEFINITION. The events of the chapters' tables with their codes (R435), severities and default reactions, and the sources (R434).
-/
namespace Sys2Proof.Machine

open Sys2Proof

/-- What an event's table row states: code, severity, default reaction, and whether the reaction is fixed (R442). -/
structure EvDef where
  code : Word16
  sev : Sev
  dflt : Reaction := .none
  fixed : Bool := false
deriving DecidableEq, Repr

/-! R259, units 0 to 47 -/
def evUnitDesaturation : EvDef := ⟨0x0001, .fault, .unitOff, false⟩
def evUnitUvlo : EvDef := ⟨0x0002, .fault, .unitOff, false⟩
def evUnitSelfTestFailed : EvDef := ⟨0x0003, .fault, .unitOff, false⟩
def evUnitStrengthAtLimit : EvDef := ⟨0x0004, .warn, .none, false⟩

/-! R259, islands 48 to 71 -/
def evIslandLinkLost : EvDef := ⟨0x0001, .fault, .islandOff, false⟩
def evIslandInterlock : EvDef := ⟨0x0002, .warn, .none, false⟩
def evIslandOverTempWarn : EvDef := ⟨0x0003, .warn, .none, false⟩
def evIslandOverTemp : EvDef := ⟨0x0004, .fault, .islandOff, false⟩
def evIslandStartFailed : EvDef := ⟨0x0005, .fault, .islandOff, false⟩

/-! R228, regions 72 to 79 -/
def evRegionCycTrip : EvDef := ⟨0x0001, .info, .none, false⟩
def evRegionLatchTrip : EvDef := ⟨0x0002, .fault, .none, false⟩
def evRegionTripLimit : EvDef := ⟨0x0003, .fault, .regionLatch, true⟩
def evRegionModeApplied : EvDef := ⟨0x0004, .info, .none, false⟩
def evRegionDutyGap : EvDef := ⟨0x0005, .info, .none, false⟩
def evRegionDutyLost : EvDef := ⟨0x0006, .fault, .regionInhibit, true⟩

/-! R291, sources 80 + 4b -/
def evBank0Overrun : EvDef := ⟨0x0001, .warn, .none, false⟩
def evBank0QueueFull : EvDef := ⟨0x0002, .warn, .none, false⟩
def evBank0QueueThreshold : EvDef := ⟨0x0003, .info, .none, false⟩

/-! R291, sources 81 + 4b -/
def evBank1SliceReplaced : EvDef := ⟨0x0001, .warn, .none, false⟩
def evBank1SliceFailed : EvDef := ⟨0x0002, .fault, .none, false⟩

/-! R291, sources 82 + 4b -/
def evBank2Window : EvDef := ⟨0x0001, .info, .none, false⟩

/-! R291, sources 83 + 4b -/
def evBank3OpenWire : EvDef := ⟨0x0001, .warn, .none, false⟩
def evBank3OpenWireCleared : EvDef := ⟨0x0002, .info, .none, false⟩
def evBank3InjLost : EvDef := ⟨0x0003, .warn, .none, false⟩

/-! R323, sources 96 to 103 -/
def evChainSettled : EvDef := ⟨0x0001, .info, .none, false⟩

/-! R323, sources 104 to 107 -/
def evTrigFired : EvDef := ⟨0x0001, .info, .none, false⟩
def evTrigCfgInvalid : EvDef := ⟨0x0002, .warn, .none, false⟩

/-! R323, sources 108 to 111 -/
def evSessDoneOk : EvDef := ⟨0x0001, .info, .none, false⟩
def evSessDoneClamped : EvDef := ⟨0x0002, .warn, .none, false⟩
def evSessDoneAborted : EvDef := ⟨0x0003, .warn, .none, false⟩

/-! R105 and R160, one series for sources 112 to 120 (R435) -/
def evCtxBusDead : EvDef := ⟨0x0001, .info, .none, false⟩
def evCtxDriveOn : EvDef := ⟨0x0002, .info, .none, false⟩
def evCtxSyncClose : EvDef := ⟨0x0003, .info, .none, false⟩
def evCtxBusFbLost : EvDef := ⟨0x0004, .warn, .none, false⟩
def evCtxSyncNotMet : EvDef := ⟨0x0005, .warn, .none, false⟩
def evCtxResidual : EvDef := ⟨0x0006, .warn, .none, false⟩
def evCtxFailedToClose : EvDef := ⟨0x0007, .fault, .regionInhibit, false⟩
def evCtxOpenedWithoutCommand : EvDef := ⟨0x0008, .fault, .regionInhibit, false⟩
def evCtxWelded : EvDef := ⟨0x0009, .fault, .regionLatch, false⟩
def evCtxFreqLimit : EvDef := ⟨0x000A, .warn, .none, false⟩
def evCtxEnvEntered : EvDef := ⟨0x000B, .info, .none, false⟩
def evCtxFoldBack : EvDef := ⟨0x000C, .warn, .none, false⟩
def evCtxShedLevel : EvDef := ⟨0x000D, .info, .none, false⟩
def evCtxDamping : EvDef := ⟨0x000E, .info, .none, false⟩
def evCtxSequenceStopped : EvDef := ⟨0x000F, .info, .none, false⟩
def evCtxCurrentFbLost : EvDef := ⟨0x0010, .fault, .regionInhibit, false⟩
def evCtxVoltageFbLost : EvDef := ⟨0x0011, .fault, .none, false⟩
def evCtxFbHeld : EvDef := ⟨0x0012, .warn, .none, false⟩
def evCtxFbRestored : EvDef := ⟨0x0013, .info, .none, false⟩
def evCtxTbOverrun : EvDef := ⟨0x0014, .warn, .none, false⟩
def evCtxCustom : EvDef := ⟨0x0015, .info, .none, false⟩

/-! R160 and R461, source 121 -/
def evLeLaneRefused : EvDef := ⟨0x0001, .warn, .none, false⟩
def evLeUcodeRejected : EvDef := ⟨0x0002, .warn, .none, false⟩
def evLeHeartbeat : EvDef := ⟨0x0003, .critical, .dieSafe, false⟩

/-! R160, source 122 -/
def evCacheMiss : EvDef := ⟨0x0001, .warn, .none, false⟩
def evCacheCorrected : EvDef := ⟨0x0002, .info, .none, false⟩
def evCacheUncorrectable : EvDef := ⟨0x0003, .fault, .none, false⟩

/-! R160, source 123 -/
def evProbeDone : EvDef := ⟨0x0001, .info, .none, false⟩

/-! R355, sources 128 to 135 -/
def evSqStopped : EvDef := ⟨0x0001, .fault, .none, false⟩
def evSqRestarted : EvDef := ⟨0x0002, .info, .none, false⟩
def evSqWaiting : EvDef := ⟨0x0003, .info, .none, false⟩

/-! R355, source 136 -/
def evRingTimedFull : EvDef := ⟨0x0001, .warn, .none, false⟩
def evRingRwsWrite : EvDef := ⟨0x0002, .warn, .none, false⟩
def evRingRecordsDropped : EvDef := ⟨0x0003, .warn, .none, false⟩
def evRingPLost : EvDef := ⟨0x0004, .warn, .none, false⟩

/-! R461, source 137 -/
def evHostDmaError : EvDef := ⟨0x0001, .warn, .none, false⟩
def evHostSilent : EvDef := ⟨0x0002, .warn, .none, false⟩
def evHostLinkDown : EvDef := ⟨0x0003, .fault, .none, false⟩

/-! R408, sources 144 and 145 -/
def evPortUp : EvDef := ⟨0x0001, .info, .none, false⟩
def evPortDown : EvDef := ⟨0x0002, .warn, .none, false⟩
def evPortSilent : EvDef := ⟨0x0003, .warn, .none, false⟩

/-! R408, source 146 -/
def evPrpTableFull : EvDef := ⟨0x0001, .warn, .none, false⟩
def evPrpWrongLan : EvDef := ⟨0x0002, .warn, .none, false⟩

/-! R408, source 147 -/
def evRxNoBuffer : EvDef := ⟨0x0001, .warn, .none, false⟩
def evRxForeign : EvDef := ⟨0x0002, .warn, .none, false⟩

/-! R408, source 148 -/
def evTxqOverflow : EvDef := ⟨0x0001, .warn, .none, false⟩

/-! R408, source 149 -/
def evTimeLockAcquired : EvDef := ⟨0x0001, .info, .none, false⟩
def evTimeLockLost : EvDef := ⟨0x0002, .warn, .none, false⟩
def evTimeStepRefused : EvDef := ⟨0x0003, .warn, .none, false⟩
def evTimeForcedStep : EvDef := ⟨0x0004, .warn, .none, false⟩
def evTimeDiscontinuity : EvDef := ⟨0x0005, .warn, .none, false⟩

/-! R432, source 150 -/
def evPairPartnerUp : EvDef := ⟨0x0001, .info, .none, false⟩
def evPairPartnerDown : EvDef := ⟨0x0002, .warn, .none, false⟩
def evPairMismatch : EvDef := ⟨0x0003, .fault, .none, false⟩
def evPairLatency : EvDef := ⟨0x0004, .warn, .none, false⟩

/-! R432, source 151 -/
def evConfFailover : EvDef := ⟨0x0001, .warn, .none, false⟩
def evConfStandbyLost : EvDef := ⟨0x0002, .warn, .none, false⟩
def evConfDivergence : EvDef := ⟨0x0003, .fault, .none, false⟩
def evConfNoSource : EvDef := ⟨0x0004, .fault, .regionInhibit, true⟩
def evConfStale : EvDef := ⟨0x0005, .info, .none, false⟩

/-! R432, source 152 -/
def evResyncDone : EvDef := ⟨0x0001, .info, .none, false⟩
def evResyncDiscarded : EvDef := ⟨0x0002, .warn, .none, false⟩
def evResyncFailed : EvDef := ⟨0x0003, .fault, .none, false⟩

/-! R378, source 160 -/
def evMemCorrected : EvDef := ⟨0x0001, .info, .none, false⟩
def evMemUncorrectable : EvDef := ⟨0x0002, .fault, .none, false⟩

/-! R378, source 161 -/
def evJrnlCorrected : EvDef := ⟨0x0001, .info, .none, false⟩
def evJrnlLost : EvDef := ⟨0x0002, .fault, .none, false⟩

/-! R378, source 162 -/
def evReplayDone : EvDef := ⟨0x0001, .info, .none, false⟩
def evReplayReadBack : EvDef := ⟨0x0002, .warn, .none, false⟩
def evReplayPowerFailDone : EvDef := ⟨0x0003, .warn, .none, false⟩

/-! R461, source 163 -/
def evMillraceFailure : EvDef := ⟨0x0001, .fault, .none, false⟩

/-! R515, source 164 -/
def evArbWatchdog : EvDef := ⟨0x0001, .fault, .none, false⟩
def evArbCommitRefused : EvDef := ⟨0x0002, .warn, .none, false⟩

/-! R515, source 165 -/
def evWeirReleased : EvDef := ⟨0x0001, .warn, .none, false⟩
def evWeirTimedOut : EvDef := ⟨0x0002, .info, .none, false⟩

/-! R492, source 176 -/
def evSf1Demand : EvDef := ⟨0x0001, .info, .none, false⟩
def evSf1Ended : EvDef := ⟨0x0002, .info, .none, false⟩
def evSf1DiscFault : EvDef := ⟨0x0003, .fault, .none, false⟩
def evSf1DiscCleared : EvDef := ⟨0x0004, .info, .none, false⟩
def evSf1Pending : EvDef := ⟨0x0005, .info, .none, false⟩
def evSf1Passed : EvDef := ⟨0x0006, .info, .none, false⟩

/-! R492, source 177 -/
def evSf2TestFailed : EvDef := ⟨0x0001, .fault, .none, false⟩
def evSf2Welded : EvDef := ⟨0x0002, .fault, .none, false⟩
def evSf2NotClosed : EvDef := ⟨0x0003, .fault, .none, false⟩
def evSf2Overload : EvDef := ⟨0x0004, .fault, .none, false⟩
def evSf2Abandoned : EvDef := ⟨0x0005, .info, .none, false⟩
def evSf2Cleared : EvDef := ⟨0x0006, .info, .none, false⟩

/-! R492, source 178 -/
def evSf3Open : EvDef := ⟨0x0001, .info, .none, false⟩
def evSf3Closed : EvDef := ⟨0x0002, .info, .none, false⟩
def evSf3DiscFault : EvDef := ⟨0x0003, .fault, .none, false⟩

/-! R492, source 179 -/
def evCh1ParamInvalid : EvDef := ⟨0x0001, .critical, .none, false⟩
def evCh1SelfTest : EvDef := ⟨0x0002, .critical, .none, false⟩

/-! R492, source 180 -/
def evCh2Absent : EvDef := ⟨0x0001, .warn, .none, false⟩
def evCh2SelfCheck : EvDef := ⟨0x0002, .critical, .none, false⟩

/-! R492, source 181 -/
def evPathRejoined : EvDef := ⟨0x0001, .info, .none, false⟩
def evPathAbsentLong : EvDef := ⟨0x0002, .fault, .none, false⟩
def evPathNotFollowed : EvDef := ⟨0x0003, .critical, .none, false⟩
def evPathReadback : EvDef := ⟨0x0004, .critical, .none, false⟩
def evPathPath2 : EvDef := ⟨0x0005, .critical, .none, false⟩

/-! R544, source 182 -/
def evSupplyLow : EvDef := ⟨0x0001, .warn, .none, false⟩
def evSupplyRidden : EvDef := ⟨0x0002, .warn, .none, false⟩
def evSupplyPowerFail : EvDef := ⟨0x0003, .critical, .packageSafe, false⟩

/-! R544, source 183 -/
def evPdieWarmReset : EvDef := ⟨0x0001, .critical, .packageSafe, false⟩
def evPdieIsoLost : EvDef := ⟨0x0002, .critical, .packageSafe, false⟩
def evPdieNetRestarted : EvDef := ⟨0x0003, .warn, .none, false⟩

/-! R544, source 184 -/
def evCdieWarmReset : EvDef := ⟨0x0001, .warn, .none, false⟩
def evCdieSafRestarted : EvDef := ⟨0x0002, .warn, .none, false⟩
def evCdieMemLost : EvDef := ⟨0x0003, .critical, .packageSafe, false⟩
def evCdieEndpointReset : EvDef := ⟨0x0004, .warn, .none, false⟩

/-! R544, source 185 -/
def evClockMemsLost : EvDef := ⟨0x0001, .critical, .packageSafe, false⟩
def evClockPllLost : EvDef := ⟨0x0002, .fault, .none, false⟩

/-! R544, source 186 -/
def evAoWake : EvDef := ⟨0x0001, .info, .none, false⟩
def evAoDeviation : EvDef := ⟨0x0002, .warn, .none, false⟩

/-! R544, source 187 -/
def evTempWarning : EvDef := ⟨0x0001, .warn, .none, false⟩
def evTempOver : EvDef := ⟨0x0002, .critical, .packageSafe, false⟩

/-! Common to every source (R435, R445, R446, R448). -/
def evRecovered : EvDef := ⟨0x00F0, .info, .none, false⟩
def evLatched : EvDef := ⟨0x00F1, .warn, .none, false⟩
def evCleared : EvDef := ⟨0x00F2, .info, .none, false⟩

/-! Sources by number (R434). -/
def srcUnit (u : UnitId) : SourceId := ⟨u.val, by omega⟩
def srcIsland (i : IslandId) : SourceId := ⟨48 + i.val, by omega⟩
def srcRegion (r : RegionId) : SourceId := ⟨72 + r.val, by omega⟩
def srcBank (b : BankId) (k : Fin 4) : SourceId := ⟨80 + 4 * b.val + k.val, by omega⟩
def srcChain (n : ChainId) : SourceId := ⟨96 + n.val / 2, by omega⟩
def srcTrig (u : TrigId) : SourceId := ⟨104 + u.val / 2, by omega⟩
def srcSess (k : SessId) : SourceId := ⟨108 + k.val / 4, by omega⟩
/-- Contexts bound to a region, 112 to 119, and unbound ones, 120. -/
def srcCtx (r : Option RegionId) : SourceId :=
  match r with
  | some r => ⟨112 + r.val, by omega⟩
  | none => 120
def srcSq (q : SqId) : SourceId := ⟨128 + q.val, by omega⟩
def srcPort (p : PortId) : SourceId := ⟨144 + p.val, by omega⟩

/-- The object of a source (R434). -/
def srcObj (k : SourceId) : SrcObj :=
  if h : k.val < 48 then .unit ⟨k.val, h⟩
  else if h : k.val < 72 then .island ⟨k.val - 48, by omega⟩
  else if h : k.val < 80 then .region ⟨k.val - 72, by omega⟩
  else if h : 112 ≤ k.val ∧ k.val < 120 then .region ⟨k.val - 112, by omega⟩
  else .none

/-- The die that raises a source's events (R434). -/
def srcDie (k : SourceId) : Die :=
  let n := k.val
  if n < 108 then .p
  else if n < 144 then .c
  else if n < 153 then .p
  else if n = 161 then .p
  else if n < 176 then .c
  else if n = 180 ∨ n = 184 then .c
  else .p

/-- The rank of a reaction in the order of R19, its code of R439. -/
def Reaction.rank : Reaction → Nat
  | .none => 0
  | .unitOff => 1
  | .islandOff => 2
  | .regionInhibit => 3
  | .regionLatch => 4
  | .dieSafe => 5
  | .packageSafe => 6

/-- The wider of two reactions (R20). -/
def Reaction.wider (a b : Reaction) : Reaction := if a.rank < b.rank then b else a

/-- The reaction of a code of R439, none for DEFAULT. -/
def reactionOf : Nat → Option Reaction
  | 0 => some .none
  | 1 => some .unitOff
  | 2 => some .islandOff
  | 3 => some .regionInhibit
  | 4 => some .regionLatch
  | 5 => some .dieSafe
  | 6 => some .packageSafe
  | _ => Option.none

/-- The rank of a severity, its code of R436. -/
def Sev.code : Sev → Nat
  | .info => 0
  | .warn => 1
  | .fault => 2
  | .critical => 3

/-- A source's forced event: its lowest-code event of severity FAULT or CRITICAL, or its lowest-code event if it has none (R458). -/
def forcedEvent (k : SourceId) : EvDef :=
  let n := k.val
  if n < 48 then evUnitDesaturation
  else if n < 72 then evIslandLinkLost
  else if n < 80 then evRegionLatchTrip
  else if n < 96 then
    (if n % 4 = 0 then evBank0Overrun else if n % 4 = 1 then evBank1SliceFailed else if n % 4 = 2 then evBank2Window
     else evBank3OpenWire)
  else if n < 104 then evChainSettled
  else if n < 108 then evTrigFired
  else if n < 112 then evSessDoneOk
  else if n < 120 then evCtxFailedToClose
  else if n = 120 then evCtxDamping
  else if n = 121 then evLeHeartbeat
  else if n = 122 then evCacheUncorrectable
  else if n = 123 then evProbeDone
  else if n < 136 then evSqStopped
  else if n = 136 then evRingTimedFull
  else if n = 137 then evHostLinkDown
  else if n < 146 then evPortUp
  else if n = 146 then evPrpTableFull
  else if n = 147 then evRxNoBuffer
  else if n = 148 then evTxqOverflow
  else if n = 149 then evTimeLockAcquired
  else if n = 150 then evPairMismatch
  else if n = 151 then evConfDivergence
  else if n = 152 then evResyncFailed
  else if n = 160 then evMemUncorrectable
  else if n = 161 then evJrnlLost
  else if n = 162 then evReplayDone
  else if n = 163 then evMillraceFailure
  else if n = 164 then evArbWatchdog
  else if n = 165 then evWeirReleased
  else if n = 176 then evSf1DiscFault
  else if n = 177 then evSf2TestFailed
  else if n = 178 then evSf3DiscFault
  else if n = 179 then evCh1ParamInvalid
  else if n = 180 then evCh2SelfCheck
  else if n = 181 then evPathAbsentLong
  else if n = 182 then evSupplyPowerFail
  else if n = 183 then evPdieWarmReset
  else if n = 184 then evCdieMemLost
  else if n = 185 then evClockMemsLost
  else if n = 186 then evAoWake
  else evTempOver

end Sys2Proof.Machine
end

