-- ==== Sys2Proof/Config.lean ====
section
/-!
DEFINITION. What one module or one run fixes and the spec leaves open: opaque constants, of which no proof can know a value.
-/
namespace Sys2Proof.Config

/-- The n-th free value: a value the spec leaves open (notes/assumptions/3.md). -/
opaque freeBits : Nat → Word64

/-- What sets the length of the n-th period of the AO clock within the 2 % of R524 (Tick.lean). -/
opaque aoPeriod : Nat → Nat

/-- The 64-bit serial number of the module, set at the factory (R569). -/
opaque serial : Word64

/-- The ordering code: true for the SK8256-DA, false for the SK8256-PA (R1). -/
opaque isDA : Bool

/-- The station address set at the factory, byte 0 in bits 7 to 0 (R409). -/
opaque factoryMac : BitVec 48

/-- Skew of ADC channel n in ps, set at the factory (R302, R324). -/
opaque fltSkew : Nat → BitVec 16

/-- The frame type code of each kind of Millrace payload: R12 gives the field and no codes. -/
opaque frameType : Nat → BitVec 6

/-- The beta of the Kaiser window of the bank 0 resampler prototype, which the spec does not state (R301, R325). -/
opaque kaiserBeta : ℚ

/-- Where in the limits of R523 the loss and return thresholds and the handling reserve of this module lie. -/
opaque lossTrim : Nat
opaque returnTrim : Nat
opaque reserveMargin : Nat

/-- The store's charge in % of full at a usable energy in mJ (R545). -/
opaque storeCharge (mj : Nat) : Nat

/-- Word w of what a run leaves of a template whose equations the spec does not state: a function of nothing but the template, the
context's header fields and parameters, its state words, the values its slots read and the count of its release (R131). -/
opaque runWord (template w : Nat) (params state : List Nat) (ins : List Int) (count : Nat) : Word64

/-- The module's output impedance at a frequency in 0.1 Hz, real and imaginary part as two's complement in 2^-16 Z_b: a function of the
parameters of the virtual impedance and of the voltage regulator, whose form the spec does not state (R68). -/
opaque outputImpedance (impedance regulator : List Nat) (f : Nat) : BitVec 32 × BitVec 32

end Sys2Proof.Config
end

