-- ==== Sys2Proof/Machine/RegMap.lean ====
section
/-!
DEFINITION. The RW and RWS registers of BAR0 (R6, R567, R570 and the field tables of the chapters): offsets, reset words, the
writable fields and the limits within which a field is stored. Read-only words stand in Status.lean.
-/
namespace Sys2Proof.Machine

open Sys2Proof

/-- A field that is stored as the nearest limit. -/
structure Lim where
  lsb : Nat
  width : Nat
  lo : Nat
  hi : Nat

/-- A block of registers with writable fields: base + s1·i + s2·j for i < c1 and j < c2. `step` is what the reset word grows by
per i. -/
structure RegRow where
  base : Nat
  s1 : Nat := 0x100000
  c1 : Nat := 1
  s2 : Nat := 0x100000
  c2 : Nat := 1
  die : Die
  reset : Word32 := 0
  step : Word32 := 0
  rws : Word32 := 0
  rw : Word32 := 0
  lims : List Lim := []

/-! Offsets (R567, R570). -/

def rLeLanes (i : Nat) : Nat := 0x50000 + 0x4 * i
def rLeTbLanes : Nat := 0x50020
def rLeProbeLimit : Nat := 0x50024
def rLeUcodeAddr : Nat := 0x50030
def rLeUcodeData : Nat := 0x50034
def rLeImageAddrLo : Nat := 0x50080
def rLeImageAddrHi : Nat := 0x50084
def rLeImageCtrl : Nat := 0x50088
def rPwmPeriod (i : Nat) : Nat := 0x10000 + 0x800 * i
def rPwmTrigpos (i : Nat) : Nat := 0x10004 + 0x800 * i
def rPwmTripcfg (i : Nat) : Nat := 0x10008 + 0x800 * i
def rPwmTripmapLo (i j : Nat) : Nat := 0x10080 + 0x800 * i + 0x8 * j
def rPwmTripmapHi (i j : Nat) : Nat := 0x10084 + 0x800 * i + 0x8 * j
def rPwmAssign (i : Nat) : Nat := 0x18000 + 0x20 * i
def rPwmDtH (i : Nat) : Nat := 0x18004 + 0x20 * i
def rPwmDtL (i : Nat) : Nat := 0x18008 + 0x20 * i
def rPwmMinp (i : Nat) : Nat := 0x1800C + 0x20 * i
def rPwmPhase (i : Nat) : Nat := 0x18010 + 0x20 * i
def rPwmTripsrcLo (i : Nat) : Nat := 0x1C000 + 0x10 * i
def rPwmTripsrcHi (i : Nat) : Nat := 0x1C004 + 0x10 * i
def rPwmTripsrcIsl (i : Nat) : Nat := 0x1C008 + 0x10 * i
def rIslCfg (i : Nat) : Nat := 0x20000 + 0x100 * i
def rIslDesat (i j : Nat) : Nat := 0x20004 + 0x100 * i + 0x4 * j
def rIslAdaptTgt (i j : Nat) : Nat := 0x2000C + 0x100 * i + 0x4 * j
def rIslAdaptLim (i j : Nat) : Nat := 0x20014 + 0x100 * i + 0x4 * j
def rAdcCtrl (i : Nat) : Nat := 0x30000 + 0x1000 * i
def rAdcDelay (i : Nat) : Nat := 0x30004 + 0x1000 * i
def rAdcTimer (i : Nat) : Nat := 0x30008 + 0x1000 * i
def rAdcChen (i : Nat) : Nat := 0x3000C + 0x1000 * i
def rAdcInj (i : Nat) : Nat := 0x30010 + 0x1000 * i
def rAdcInjDelay (i : Nat) : Nat := 0x30014 + 0x1000 * i
def rAdcCal (i : Nat) : Nat := 0x3001C + 0x1000 * i
def rAdcQcfg (i : Nat) : Nat := 0x30034 + 0x1000 * i
def rAdcWin (i j : Nat) : Nat := 0x30100 + 0x1000 * i + 0x10 * j
def rAdcOw (i j : Nat) : Nat := 0x30104 + 0x1000 * i + 0x10 * j
def rFltSrc (i : Nat) : Nat := 0x38000 + 0x100 * i
def rFltCfg (i : Nat) : Nat := 0x38004 + 0x100 * i
def rFltCfg2 (i : Nat) : Nat := 0x38008 + 0x100 * i
def rFltInc (i : Nat) : Nat := 0x3800C + 0x100 * i
def rFltDelay (i : Nat) : Nat := 0x38010 + 0x100 * i
def rFltOut (i : Nat) : Nat := 0x38014 + 0x100 * i
def rFltComp (i j : Nat) : Nat := 0x38080 + 0x100 * i + 0x4 * j
def rFltRsb (i j : Nat) : Nat := 0x39000 + 0x800 * i + 0x4 * j
def rFltRsbCtrl : Nat := 0x3A100
def rCapTrgCtrl (i : Nat) : Nat := 0x40000 + 0x40 * i
def rCapTrgTh (i : Nat) : Nat := 0x40004 + 0x40 * i
def rCapTrgPar (i : Nat) : Nat := 0x40008 + 0x40 * i
def rCapTrgHold (i : Nat) : Nat := 0x4000C + 0x40 * i
def rSysSqBaseLo (i : Nat) : Nat := 0x2000 + 0x20 * i
def rSysSqBaseHi (i : Nat) : Nat := 0x2004 + 0x20 * i
def rSysCqBaseLo (i : Nat) : Nat := 0x2100 + 0x20 * i
def rSysCqBaseHi (i : Nat) : Nat := 0x2104 + 0x20 * i
def rSysSqCfg (i : Nat) : Nat := 0x2008 + 0x20 * i
def rSysCqCfg (i : Nat) : Nat := 0x2108 + 0x20 * i
def rSysCqInt (i : Nat) : Nat := 0x210C + 0x20 * i
def rSysDbBaseLo : Nat := 0x2200
def rSysDbBaseHi : Nat := 0x2204
def rSysDbPoll : Nat := 0x2208
def rSysEvtRoute : Nat := 0x220C
def rNetCfg : Nat := 0x60000
def rNetMacLo : Nat := 0x60004
def rNetMacHi : Nat := 0x60008
def rNetPrpCfg : Nat := 0x6000C
def rNetPairCfg : Nat := 0x60010
def rNetPortCfg (i : Nat) : Nat := 0x60100 + 0x40 * i
def rNetMcastLo (i : Nat) : Nat := 0x60200 + 0x8 * i
def rNetMcastHi (i : Nat) : Nat := 0x60204 + 0x8 * i
def rTimeLockCfg : Nat := 0x6800C
def rTimeJump : Nat := 0x68010
def rPairCfg : Nat := 0x70000
def rPairMirrorMap : Nat := 0x70004
def rPairHold : Nat := 0x70008
def rPairPartnerLo : Nat := 0x7000C
def rPairPartnerHi : Nat := 0x70010
def rPairLat : Nat := 0x70014
def rEvtCfg (i : Nat) : Nat := 0x4000 + 0x10 * i
def rEvtRecov (i : Nat) : Nat := 0x4004 + 0x10 * i
def rEvtInjCtrl : Nat := 0x4C10
def rEvtInjAddr : Nat := 0x4C14
def rEvtHostwd : Nat := 0x4C20
def rSafSf1Cfg : Nat := 0x78000
def rSafSf2Cfg : Nat := 0x78004
def rSafSf3Cfg : Nat := 0x78008
def rSafCh2Cfg : Nat := 0x7800C
def rSafParamCrc : Nat := 0x78010
def rWeirDevCfg : Nat := 0x80088
def rPwrDomCfg : Nat := 0x1004
def rPwrTemp : Nat := 0x1018
def rPwrWakeCfg : Nat := 0x1024
def rPwrWakeTimer : Nat := 0x1028

/-- Writable registers of R161. -/
def regRowsR161 : List RegRow :=
  [
    { base := 0x50000, s1 := 0x4, c1 := 8, die := .c, rws := 0xFF },
    { base := 0x50020, die := .c, reset := 0xFF, rws := 0xFF },
    { base := 0x50024, die := .c, reset := 0x148, rws := 0xFFFF },
    { base := 0x50030, die := .c, rws := 0x3FFF },
    { base := 0x50034, die := .c, rws := 0xFFFFFFFF } ]

/-- Writable registers of R191. -/
def regRowsR191 : List RegRow :=
  [
    { base := 0x50080, die := .c, rws := 0xFFFFFFFF },
    { base := 0x50084, die := .c, rws := 0xFFFFFFFF },
    { base := 0x50088, die := .c, rws := 0x1 } ]

/-- Writable registers of R229. -/
def regRowsR229 : List RegRow :=
  [
    { base := 0x10000, s1 := 0x800, c1 := 8, die := .p, reset := 0x30D40, rws := 0xFFFFFF },
    { base := 0x10004, s1 := 0x800, c1 := 8, die := .p, rws := 0x1FFFFF },
    { base := 0x10008, s1 := 0x800, c1 := 8, die := .p, reset := 0x3E808, rws := 0xFFFFFF, lims := [⟨0, 8, 0x1, 0xFF⟩, ⟨8, 16, 0x1, 0xFFFF⟩] },
    { base := 0x10080, s1 := 0x800, c1 := 8, s2 := 0x8, c2 := 16, die := .p, rws := 0xFFFFFFFF },
    { base := 0x10084, s1 := 0x800, c1 := 8, s2 := 0x8, c2 := 16, die := .p, rws := 0x1FFFF } ]

/-- Writable registers of R230. -/
def regRowsR230 : List RegRow :=
  [
    { base := 0x18000, s1 := 0x20, c1 := 24, die := .p, reset := 0xF, rws := 0x3F },
    { base := 0x18004, s1 := 0x20, c1 := 24, die := .p, rws := 0xFFF0FFF },
    { base := 0x18008, s1 := 0x20, c1 := 24, die := .p, rws := 0xFFF0FFF },
    { base := 0x1800C, s1 := 0x20, c1 := 24, die := .p, rws := 0xFFFFFFFF },
    { base := 0x18010, s1 := 0x20, c1 := 24, die := .p, rws := 0xFFFFFF } ]

/-- Writable registers of R231. -/
def regRowsR231 : List RegRow :=
  [
    { base := 0x1C000, s1 := 0x10, c1 := 16, die := .p, rws := 0xFFFFFFFF },
    { base := 0x1C004, s1 := 0x10, c1 := 16, die := .p, rws := 0xFFFFFFFF },
    { base := 0x1C008, s1 := 0x10, c1 := 16, die := .p, rws := 0x3FFFFFF } ]

/-- Writable registers of R261. -/
def regRowsR261 : List RegRow :=
  [
    { base := 0x20000, s1 := 0x100, c1 := 24, die := .p, reset := 0x7D00, rws := 0xFFFF, lims := [⟨0, 4, 0x0, 0xA⟩, ⟨4, 4, 0x0, 0xA⟩, ⟨8, 8, 0x50, 0x91⟩] },
    { base := 0x20004, s1 := 0x100, c1 := 24, s2 := 0x4, c2 := 2, die := .p, reset := 0x900A30C8, rws := 0xBFFFFFFF, lims := [⟨0, 11, 0x28, 0x500⟩, ⟨11, 7, 0x14, 0x78⟩, ⟨22, 8, 0x8, 0x98⟩] },
    { base := 0x2000C, s1 := 0x100, c1 := 24, s2 := 0x4, c2 := 2, die := .p, reset := 0x2190190, rws := 0xFFFFFFF, lims := [⟨0, 12, 0x28, 0xFFF⟩, ⟨12, 12, 0x28, 0xFFF⟩] },
    { base := 0x20014, s1 := 0x100, c1 := 24, s2 := 0x4, c2 := 2, die := .p, reset := 0xF0F088, rws := 0x1FFFFFF } ]

/-- Writable registers of R293. -/
def regRowsR293 : List RegRow :=
  [
    { base := 0x30000, s1 := 0x1000, c1 := 4, die := .p, reset := 0xF0, rws := 0xFFF3 },
    { base := 0x30004, s1 := 0x1000, c1 := 4, die := .p, rws := 0xFFFF },
    { base := 0x30008, s1 := 0x1000, c1 := 4, die := .p, reset := 0xFA0, rws := 0xFFFFFF, lims := [⟨0, 24, 0x50, 0xFFFFFF⟩] },
    { base := 0x3000C, s1 := 0x1000, c1 := 4, die := .p, reset := 0xFFFF, rws := 0xFFFFFFFF },
    { base := 0x30010, s1 := 0x1000, c1 := 4, die := .p, reset := 0xF0000, rws := 0xFFFFF },
    { base := 0x30014, s1 := 0x1000, c1 := 4, die := .p, rws := 0xFFFF },
    { base := 0x3001C, s1 := 0x1000, c1 := 4, die := .p, reset := 0x800A, rws := 0x83FF, lims := [⟨0, 10, 0x1, 0x3E8⟩] },
    { base := 0x30034, s1 := 0x1000, c1 := 4, die := .p, reset := 0x400, rws := 0xFFF } ]

/-- Writable registers of R294. -/
def regRowsR294 : List RegRow :=
  [
    { base := 0x30100, s1 := 0x1000, c1 := 4, s2 := 0x10, c2 := 16, die := .p, reset := 0x87FF800, rws := 0x3FFFFFFF },
    { base := 0x30104, s1 := 0x1000, c1 := 4, s2 := 0x10, c2 := 16, die := .p, reset := 0x800, rws := 0xFF03, lims := [⟨8, 8, 0x1, 0xFF⟩] } ]

/-- Writable registers of R324. -/
def regRowsR324 : List RegRow :=
  [
    { base := 0x38000, s1 := 0x100, c1 := 16, die := .p, rw := 0x7F },
    { base := 0x38004, s1 := 0x100, c1 := 16, die := .p, reset := 0x1001400, rws := 0xFFFFFFFF, lims := [⟨1, 3, 0x0, 0x4⟩, ⟨9, 5, 0x4, 0x14⟩, ⟨24, 7, 0x1, 0x40⟩] },
    { base := 0x38008, s1 := 0x100, c1 := 16, die := .p, reset := 0x1, rws := 0xFFFF001F },
    { base := 0x3800C, s1 := 0x100, c1 := 16, die := .p, reset := 0x1000000, rws := 0xFFFFFFFF, lims := [⟨0, 32, 0x1000000, 0xFFFFFFFF⟩] },
    { base := 0x38010, s1 := 0x100, c1 := 16, die := .p, rws := 0xFFFF },
    { base := 0x38014, s1 := 0x100, c1 := 16, die := .p, reset := 0x13B0, rws := 0xFFFF, lims := [⟨0, 16, 0x13B0, 0xFFFF⟩] },
    { base := 0x38080, s1 := 0x100, c1 := 16, s2 := 0x4, c2 := 32, die := .p, rws := 0xFFFFFFFF } ]

/-- Writable registers of R325. -/
def regRowsR325 : List RegRow :=
  [
    { base := 0x39000, s1 := 0x800, c1 := 2, s2 := 0x4, c2 := 512, die := .p, rws := 0xFFFFFFFF },
    { base := 0x3A100, die := .p, reset := 0x101, rws := 0x1F1F } ]

/-- Writable registers of R326. -/
def regRowsR326 : List RegRow :=
  [
    { base := 0x40000, s1 := 0x40, c1 := 8, die := .p, rw := 0xFFFFFF },
    { base := 0x40004, s1 := 0x40, c1 := 8, die := .p, rw := 0xFFFFFFFF },
    { base := 0x40008, s1 := 0x40, c1 := 8, die := .p, reset := 0x1, rw := 0xFFFFFFFF, lims := [⟨0, 8, 0x1, 0xFF⟩] },
    { base := 0x4000C, s1 := 0x40, c1 := 8, die := .p, rw := 0xFFFFFFFF } ]

/-- Writable registers of R356. -/
def regRowsR356 : List RegRow :=
  [
    { base := 0x2000, s1 := 0x20, c1 := 8, die := .c, rws := 0xFFFFFFFF },
    { base := 0x2004, s1 := 0x20, c1 := 8, die := .c, rws := 0xFFFFFFFF },
    { base := 0x2100, s1 := 0x20, c1 := 8, die := .c, rws := 0xFFFFFFFF },
    { base := 0x2104, s1 := 0x20, c1 := 8, die := .c, rws := 0xFFFFFFFF },
    { base := 0x2008, s1 := 0x20, c1 := 8, die := .c, reset := 0x8, step := 0x10, rws := 0xFF, lims := [⟨0, 4, 0x4, 0xC⟩] },
    { base := 0x2108, s1 := 0x20, c1 := 8, die := .c, reset := 0x8, rws := 0x8F, lims := [⟨0, 4, 0x4, 0xC⟩] },
    { base := 0x210C, s1 := 0x20, c1 := 8, die := .c, reset := 0x100, step := 0x1, rw := 0xFFFFFF9F, lims := [⟨8, 8, 0x1, 0xFF⟩] },
    { base := 0x2200, die := .c, rws := 0xFFFFFFFF },
    { base := 0x2204, die := .c, rws := 0xFFFFFFFF },
    { base := 0x2208, die := .c, reset := 0x4, rw := 0x3FF, lims := [⟨0, 10, 0x1, 0x3E8⟩] },
    { base := 0x220C, die := .c, reset := 0x8, rws := 0xF } ]

/-- Writable registers of R409. -/
def regRowsR409 : List RegRow :=
  [
    { base := 0x60000, die := .p, reset := 0x1, rws := 0x3 },
    { base := 0x60004, die := .p, rws := 0xFFFFFFFF },
    { base := 0x60008, die := .p, rws := 0xFFFF },
    { base := 0x6000C, die := .p, reset := 0x7D00000, rws := 0xFFFF01FF, lims := [⟨16, 16, 0x64, 0x2710⟩] },
    { base := 0x60010, die := .p, reset := 0x88B5, rws := 0xFFFFFFF },
    { base := 0x60100, s1 := 0x40, c1 := 2, die := .p, rws := 0x1 },
    { base := 0x60200, s1 := 0x8, c1 := 16, die := .p, rws := 0xFFFFFFFF },
    { base := 0x60204, s1 := 0x8, c1 := 16, die := .p, rws := 0x1FFFF } ]

/-- Writable registers of R410. -/
def regRowsR410 : List RegRow :=
  [
    { base := 0x6800C, die := .p, reset := 0x3E8FA04, rw := 0xFFFFFFFF, lims := [⟨0, 4, 0x1, 0xF⟩, ⟨4, 12, 0x1, 0xFFF⟩] },
    { base := 0x68010, die := .p, reset := 0xF4240, rws := 0xFFFFFFFF } ]

/-- Writable registers of R433. -/
def regRowsR433 : List RegRow :=
  [
    { base := 0x70000, die := .p, rws := 0xFFFF01 },
    { base := 0x70004, die := .p, rws := 0xFFFFFF },
    { base := 0x70008, die := .p, reset := 0x64, rws := 0xFF, lims := [⟨0, 8, 0x0, 0xC8⟩] },
    { base := 0x7000C, die := .p, rws := 0xFFFFFFFF },
    { base := 0x70010, die := .p, rws := 0xFFFF },
    { base := 0x70014, die := .p, reset := 0xFA00000, rws := 0xFFFF0000 } ]

/-- Writable registers of R462. -/
def regRowsR462 : List RegRow :=
  [
    { base := 0x4000, s1 := 0x10, c1 := 192, die := .c, reset := 0x7, rws := 0xFFC7, rw := 0x30 },
    { base := 0x4004, s1 := 0x10, c1 := 192, die := .c, reset := 0x3C303E8, rws := 0xFFFFFFFF, lims := [⟨0, 16, 0x1, 0xEA60⟩, ⟨20, 12, 0x1, 0xFFF⟩] } ]

/-- Writable registers of R463. -/
def regRowsR463 : List RegRow :=
  [
    { base := 0x4C10, die := .c, reset := 0x4, rw := 0xFF },
    { base := 0x4C14, die := .c, rw := 0xFFFFFFFF },
    { base := 0x4C20, die := .c, rw := 0xFFFF } ]

/-- Writable registers of R493. -/
def regRowsR493 : List RegRow :=
  [
    { base := 0x78000, die := .p, reset := 0xA0064, rws := 0x1F01FF },
    { base := 0x78004, die := .p, reset := 0x641428, rws := 0x1FF7F7F },
    { base := 0x78008, die := .p, reset := 0xA0064, rws := 0x1F01FF },
    { base := 0x7800C, die := .p, reset := 0xA, rws := 0x7F },
    { base := 0x78010, die := .p, rws := 0xFFFFFFFF } ]

/-- Writable registers of R516. -/
def regRowsR516 : List RegRow :=
  [
    { base := 0x80088, die := .c, reset := 0x1C1E, rws := 0x9F9F } ]

/-- Writable registers of R545. -/
def regRowsR545 : List RegRow :=
  [
    { base := 0x1004, die := .p, reset := 0x2, rws := 0x3 },
    { base := 0x1018, die := .p, reset := 0x5F0000, rw := 0xFF0000, lims := [⟨16, 8, 0x3C, 0x64⟩] },
    { base := 0x1024, die := .p, reset := 0x3, rw := 0x3FF7 },
    { base := 0x1028, die := .p, rw := 0xFFFFFFFF } ]

/-- All registers with writable fields. -/
def regTable : List RegRow :=
  regRowsR161 ++ regRowsR191 ++ regRowsR229 ++ regRowsR230 ++ regRowsR231 ++ regRowsR261 ++ regRowsR293 ++ regRowsR294 ++ regRowsR324 ++ regRowsR325 ++ regRowsR326 ++ regRowsR356 ++ regRowsR409 ++ regRowsR410 ++ regRowsR433 ++ regRowsR462 ++ regRowsR463 ++ regRowsR493 ++ regRowsR516 ++ regRowsR545

/-- The instance of a row that an offset names. -/
def RegRow.inst (r : RegRow) (off : Nat) : Option (Nat × Nat) :=
  if off < r.base then none else
  let d := off - r.base
  let i := d / r.s1
  let m := d % r.s1
  if i < r.c1 ∧ m % r.s2 = 0 ∧ m / r.s2 < r.c2 then some (i, m / r.s2) else none

/-- The row that an offset names. -/
def regRow (off : Nat) : Option RegRow := regTable.find? fun r => (r.inst off).isSome

/-- Reserved event sources (R434). -/
def reservedSource (k : Nat) : Bool :=
  (124 ≤ k && k ≤ 127) || (138 ≤ k && k ≤ 143) || (153 ≤ k && k ≤ 159) || (166 ≤ k && k ≤ 175) || 188 ≤ k

/-- A writable register of a reserved event source (R434). -/
def reservedReg (off : Nat) : Bool := decide (0x4000 ≤ off) && decide (off < 0x4C00) && reservedSource ((off - 0x4000) / 0x10)

/-- Sum of the series of the modified Bessel function I0 at a number whose square's quarter is q, from the k-th term on. -/
def besselSeries (q : ℚ) : Nat → ℚ → Nat → ℚ
  | 0, _, _ => 0
  | n + 1, term, k => term + besselSeries q n (term * q / ((k + 1) * (k + 1))) (k + 1)

/-- The Kaiser window over eight input positions to either side, k/64 positions from its middle; its beta is Config's (R301). -/
def kaiser (k : Nat) : ℚ :=
  let b := Config.kaiserBeta * Config.kaiserBeta / 4
  besselSeries (b * (1 - (k * k : ℚ) / 262144)) 40 1 0 / besselSeries b 40 1 0

/-- The sine of 0.9 pi k/64, its angle reduced to a quarter turn: one turn is 1280 steps of 9 k. -/
def sinCut (k : Nat) : ℚ :=
  let a := 9 * k % 1280
  let b := a % 640
  let x := 2 * piQ * (if b ≤ 320 then b else 640 - b : Nat) / 1280
  if a < 640 then sinSeries x 20 x 0 else -sinSeries x 20 x 0

/-- The bank 0 prototype before its sums are set: sinc with cutoff at 0.45 of the input rate, Kaiser windowed, for a tap that lies k/64 input
positions from the output; 1.0 is 0x4000, with the shift of 1 that FLT_RSB_CTRL has at reset (R301, R325). -/
def rawTap (k : Nat) : Int :=
  let v : ℚ := if k = 0 then 9 / 10 else sinCut k * 64 / (piQ * k)
  let x := 16384 * v * kaiser k
  roundConv x.num x.den

/-- Distance of tap t of phase p from the output, which the phase places at input position i - 8 + p/64, in 64ths (R301). -/
def tapAway (p t : Nat) : Nat := (64 * (8 - (t : Int)) - p).natAbs

/-- Tap t of phase p of bank 0 at reset: tap 8 takes what the rounding of the others leaves of 1.0 (R301; notes/assumptions/107.md). -/
def prototype (p t : Nat) : Int :=
  if t = 8 then 0x4000 - (((List.range 16).filter (· ≠ 8)).map fun u => rawTap (tapAway p u)).sum else rawTap (tapAway p t)

/-- Word w of the bank 0 prototype (R325). -/
def prototypeWord (w : Nat) : Word32 :=
  BitVec.ofInt 16 (prototype (2 * w % 1024 / 16) ((2 * w + 1) % 16)) ++ BitVec.ofInt 16 (prototype (2 * w % 1024 / 16) (2 * w % 16))

/-- The reset word of a register (R570): the factory's for the station address, the resampler prototype in bank 0, 0x4000 in word 0 of a
compensator, 0 for EVT_CFG of sources 176 to 181 and the reserved sources. -/
def resetWord (off : Nat) : Word32 :=
  if off = rNetMacLo then Config.factoryMac.setWidth 32
  else if off = rNetMacHi then (Config.factoryMac >>> 32).setWidth 32
  else if 0x39000 ≤ off ∧ off < 0x39800 then prototypeWord ((off - 0x39000) / 4)
  else if 0x38080 ≤ off ∧ off < 0x39000 ∧ (off - 0x38080) % 0x100 = 0 then 0x4000
  else if 0x4000 ≤ off ∧ off < 0x4C00 ∧ (off - 0x4000) % 0x10 = 0 ∧
      ((176 ≤ (off - 0x4000) / 0x10 ∧ (off - 0x4000) / 0x10 ≤ 181) ∨ reservedSource ((off - 0x4000) / 0x10)) then 0
  else if 0x4000 ≤ off ∧ off < 0x4C00 ∧ (off - 0x4000) % 0x10 = 4 ∧ reservedSource ((off - 0x4000) / 0x10) then 0
  else match regTable.findSome? fun r => (r.inst off).map fun ij => r.reset + r.step * BitVec.ofNat 32 ij.1 with
    | some w => w
    | none => 0

/-- A word with each limited field at its nearest limit. -/
def applyLims : List Lim → Word32 → Word32
  | [], w => w
  | l :: t, w => applyLims t (setFld w l.lsb l.width (clampN l.lo l.hi (fld w l.lsb l.width)))

/-- What a register stores when a word is written to it: reserved bits 0 (R8), limited fields at their nearest limit, a rank above
n - 1 as n - 1 (R324), a reaction of unit or island scope on a source without such an object as DEFAULT (R440), REBIAS only on island
sources, nothing on reserved sources, REACT 0 on sources 176 to 181 (R460, R462). -/
def storedWord (off : Nat) (w : Word32) : Word32 :=
  match regRow off with
  | none => 0
  | some r =>
    let x := applyLims r.lims (w &&& (r.rws ||| r.rw))
    if r.base = rFltCfg 0 then
      setFld x 4 4 (min (fld x 4 4) (2 * fld x 1 3))
    else if r.base = rEvtCfg 0 then
      let k := (off - 0x4000) / 0x10
      if reservedSource k then 0 else
      let y := if 72 ≤ k ∧ (fld x 0 3 = 1 ∨ fld x 0 3 = 2) then setFld x 0 3 7 else x
      let z := if 48 ≤ k ∧ k ≤ 71 then y else setFld y 7 1 0
      if 176 ≤ k ∧ k ≤ 181 then setFld z 0 3 0 else z
    else if r.base = rEvtRecov 0 ∧ reservedSource ((off - 0x4004) / 0x10) then 0
    else x

end Sys2Proof.Machine
end

