-- ==== Sys2Proof/Machine/Ops.lean ====
section
/-!
DEFINITION. Named operations over the state: vectors and sparse tables, registers, package memory, time and free values. The
operations that raise an event, hold a gate or answer a command stand in the files after this one.
-/
namespace Sys2Proof.Machine

open Sys2Proof

/-! ## Vectors and sparse tables -/

/-- A vector with one element changed. -/
def upd {α : Type} {n : Nat} (v : Vector α n) (i : Fin n) (f : α → α) : Vector α n := v.set i.val (f v[i.val]) i.isLt

/-- The value of a key in a sparse table whose unlisted keys have the value `d k`. -/
def look {α : Type} (d : Nat → α) : List (Nat × α) → Nat → α
  | [], k => d k
  | (j, x) :: t, k => if j = k then x else look d t k

/-- A sparse table with one key changed, in the canonical form: keys rising, no entry equal to what its unlisted key reads as. -/
def put {α : Type} [DecidableEq α] (d : Nat → α) : List (Nat × α) → Nat → α → List (Nat × α)
  | [], k, x => if x = d k then [] else [(k, x)]
  | (j, y) :: t, k, x =>
    if k < j then (if x = d k then (j, y) :: t else (k, x) :: (j, y) :: t)
    else if k = j then (if x = d k then t else (k, x) :: t)
    else (j, y) :: put d t k x

/-- The canonical form of a sparse table. -/
def tableWf {α : Type} [DecidableEq α] (d : Nat → α) : List (Nat × α) → Bool
  | [] => true
  | (k, x) :: t => decide (x ≠ d k) && t.all (fun p => decide (k < p.1)) && tableWf d t

/-! ## Registers (R6, R570) -/

/-- The word an RW or RWS register holds. -/
def State.reg (s : State) (off : Nat) : Word32 := look resetWord s.regs off

/-- A register given a word that it stores as it is. -/
def State.setReg (s : State) (off : Nat) (w : Word32) : State := { s with regs := put resetWord s.regs off w }

/-- A field of a register. -/
def State.rf (s : State) (off lsb n : Nat) : Nat := fld (s.reg off) lsb n

/-- A bit of a register. -/
def State.rb (s : State) (off i : Nat) : Bool := bitAt (s.reg off) i

/-! ## Package memory (R162, R535) -/

/-- What an unlisted byte of package memory reads as: memory is initialised to zeros (R163, R535). -/
def memDefault (_ : Nat) : Byte := 0

/-- The canonical form of package memory. -/
abbrev Memory.wf (m : List Host.Cell) : Bool := tableWf memDefault m

/-- A byte of package memory. -/
def State.byte (s : State) (a : Nat) : Byte := look memDefault s.mem a

/-- `n` bytes of package memory from address `a`. -/
def State.bytes (s : State) (a n : Nat) : List Byte := (List.range n).map fun i => s.byte (a + i)

/-- A block of bytes put into a memory. -/
def memPut (m : List Host.Cell) (a : Nat) : List Byte → List Host.Cell
  | [] => m
  | b :: l => memPut (put memDefault m a b) (a + 1) l

/-- A write of n bytes from address a on covers a line whole. -/
def wholeLine (a n line : Nat) : Bool := decide (a ≤ 64 * line) && decide (64 * line + 64 ≤ a + n)

/-- A line is initialised: those to 0x0014_FFFF by the start-up, one above with the background initialisation or by a write of the whole line
(R534, R535). -/
def State.lineReady (s : State) (line : Nat) : Bool := s.power.memInit || decide (line < 0x5400) || s.initLines.contains line

/-- The bytes that a write leaves in memory: in a line not yet initialised those of a line written whole, for until it is initialised the line
reads as zeros (R535; notes/assumptions/139.md). -/
def State.taken (s : State) (a : Nat) (l : List Byte) : List Byte :=
  if s.power.memInit || decide (a + l.length ≤ 0x150000) then l
  else l.mapIdx fun i b => if s.lineReady ((a + i) / 64) || wholeLine a l.length ((a + i) / 64) then b else s.byte (a + i)

/-- Lines that a write initialises (R535). -/
def State.newLines (s : State) (a n : Nat) : List Nat :=
  if s.power.memInit || decide (a + n ≤ 0x150000) then []
  else ((List.range (n / 64)).map fun i => (a + 63) / 64 + i).filter fun x => wholeLine a n x && !s.lineReady x

/-- A write of bytes to package memory; a line written whole is without symbol errors again (R376). -/
def State.store (s : State) (a : Nat) (l : List Byte) : State :=
  { s with
    mem := memPut s.mem a (s.taken a l)
    memErr := s.memErr.filter fun p => !wholeLine a l.length p.1
    initLines := s.initLines ++ s.newLines a l.length }

/-! ## Free values (notes/assumptions/3.md) -/

/-- The next free value and the state that has used it. -/
def State.fresh (s : State) : Word64 × State := (Config.freeBits s.free, { s with free := s.free + 1 })

/-- `n` free values. -/
def State.freshN : Nat → State → List Word64 × State
  | 0, s => ([], s)
  | n + 1, s =>
    let p := s.fresh
    let q := State.freshN n p.2
    (p.1 :: q.1, q.2)

/-! ## Parts of the state -/

def State.modPower (s : State) (f : Power → Power) : State := { s with power := f s.power }
def State.modHost (s : State) (f : HostLink → HostLink) : State := { s with host := f s.host }
def State.modRings (s : State) (f : Rings → Rings) : State := { s with rings := f s.rings }
def State.modLoop (s : State) (f : Loop → Loop) : State := { s with loop := f s.loop }
def State.modNet (s : State) (f : Net → Net) : State := { s with net := f s.net }
def State.modTime (s : State) (f : TimeUnit → TimeUnit) : State := { s with time := f s.time }
def State.modPair (s : State) (f : Pair → Pair) : State := { s with pair := f s.pair }
def State.modSaf (s : State) (f : Saf → Saf) : State := { s with saf := f s.saf }
def State.modArb (s : State) (f : Arb → Arb) : State := { s with arb := f s.arb }
def State.modEvents (s : State) (f : Events → Events) : State := { s with events := f s.events }
def State.modRegion (s : State) (r : RegionId) (f : Region → Region) : State := { s with regions := upd s.regions r f }
def State.modIsland (s : State) (i : IslandId) (f : Island → Island) : State := { s with islands := upd s.islands i f }
def State.modUnit (s : State) (u : UnitId) (f : GateUnit → GateUnit) : State := { s with units := upd s.units u f }
def State.modBank (s : State) (b : BankId) (f : Bank → Bank) : State := { s with banks := upd s.banks b f }
def State.modChan (s : State) (c : ChanId) (f : Channel → Channel) : State := { s with channels := upd s.channels c f }
def State.modChain (s : State) (n : ChainId) (f : Chain → Chain) : State := { s with chains := upd s.chains n f }
def State.modTrig (s : State) (u : TrigId) (f : TrigUnit → TrigUnit) : State := { s with trigs := upd s.trigs u f }
def State.modSess (s : State) (k : SessId) (f : Session → Session) : State := { s with sessions := upd s.sessions k f }
def State.modWeir (s : State) (n : WeirId) (f : Weir → Weir) : State := { s with weirs := upd s.weirs n f }
def State.modSrc (s : State) (k : SourceId) (f : Source → Source) : State :=
  s.modEvents fun e => { e with src := upd e.src k f }
def State.modSq (s : State) (q : SqId) (f : Sq → Sq) : State := s.modRings fun r => { r with sq := upd r.sq q f }
def State.modCq (s : State) (m : CqId) (f : Cq → Cq) : State := s.modRings fun r => { r with cq := upd r.cq m f }
def State.modPort (s : State) (p : PortId) (f : Port → Port) : State := s.modNet fun n => { n with ports := upd n.ports p f }
def State.modPairRegion (s : State) (r : RegionId) (f : PairRegion → PairRegion) : State :=
  s.modPair fun p => { p with regions := upd p.regions r f }
def State.modSafCh (s : State) (c : SafCh) (f : SafChannel → SafChannel) : State := s.modSaf fun x => { x with ch := upd x.ch c f }
def State.modSo (s : State) (o : SoId) (f : SoFaults → SoFaults) : State := s.modSaf fun x => { x with so := upd x.so o f }
def State.modRt (s : State) (c : CtxId) (f : CtxRt → CtxRt) : State := s.modLoop fun l => { l with rt := upd l.rt c f }
def State.modProbe (s : State) (n : Fin 16) (f : Probe → Probe) : State := s.modLoop fun l => { l with probes := upd l.probes n f }

/-- A direction of the Millrace link, named by the die that sends. -/
def State.mr (s : State) : Die → MrDir
  | .p => s.mrP
  | .c => s.mrC
def State.modMr (s : State) (d : Die) (f : MrDir → MrDir) : State :=
  match d with
  | .p => { s with mrP := f s.mrP }
  | .c => { s with mrC := f s.mrC }

/-- A fold over all indexes of a family, rising. -/
def forAll {n : Nat} (f : Fin n → State → State) (s : State) : State := (List.finRange n).foldl (fun t i => f i t) s

/-- The fold over a list of objects. -/
def forList {α : Type} (f : α → State → State) (l : List α) (s : State) : State := l.foldl (fun t x => f x t) s

/-! ## Time (R4, R399, R400, R403) -/

/-- Corrected local time in units of 2^-16 ns from a count, an offset base, an anchor and a rate: t = B + (r - r_A)(1 + rho), the
product rounded toward minus infinity (R400). One tick is 2.5 ns, that is 163 840 units. -/
def correctedFix (count : Word64) (base : Int) (anchor : Nat) (rho : Int) : Int :=
  base + (((count.toNat : Int) - anchor) * 163840 * (2 ^ 48 + rho)) / 2 ^ 48

/-- Corrected local time of the P-die, in units of 2^-16 ns. -/
def State.fixNow (s : State) : Int := correctedFix s.time.count s.time.base s.time.anchor s.time.rho

/-- Corrected local time of the P-die in whole ns, by truncation (R400). -/
def State.timeNs (s : State) : Word64 := BitVec.ofInt 64 (s.fixNow.tdiv 65536)

/-- The C-die's copy of corrected local time in whole ns (R403). -/
def State.cTimeNs (s : State) : Word64 :=
  BitVec.ofInt 64 ((correctedFix s.time.cCount s.time.cBase s.time.cAnchor s.time.cRho).tdiv 65536)

/-- Ticks from now to the first at which the C-die's corrected time is at or after `at`, below 0 where it is past (R208, R400). -/
def State.ticksUntil (s : State) (ns : Word64) : Int :=
  -((-((65536 * (ns.toNat : Int) - s.time.cBase) * 2 ^ 48)) / (163840 * (2 ^ 48 + s.time.cRho))) - ((s.time.cCount.toNat : Int) - s.time.cAnchor)

/-- The fine step, counted from time zero, of the present tick (R4). -/
def State.fine (s : State) : Nat := 10 * s.now

/-! ## Refresh of package memory (R495) -/

/-- A refresh has the memory (R495, R503). -/
def State.refreshing (s : State) : Bool := match s.arb.refreshAt with | some t => decide (s.now < t + 60) | none => false

/-! ## Reachability -/

/-- The Millrace link passes frames and the P-die is out of reset (R17, R568). -/
def State.pReach (s : State) : Bool := s.linkUp && s.power.pRun

/-- The state of the package is SETUP, READY, RUN, SAFE or SERVICE: BAR0 is reachable (R527). -/
def State.awake (s : State) : Bool := s.power.dev != .stabled && s.power.dev != .waking

/-- The C-die serves BAR0 (R568). -/
def State.barOpen (s : State) : Bool := s.awake && s.power.cRun

/-- The ring engine runs: polled states (R527), C-die out of reset and not in die safe (R31), no power fail (R374). -/
def State.ringsRun (s : State) : Bool :=
  (s.power.dev == .ready || s.power.dev == .run || s.power.dev == .safe || s.power.dev == .service)
    && s.power.cRun && s.power.cSafe.isNone && !s.power.failed

/-- The Loop Engine runs (R31). -/
def State.leRuns (s : State) : Bool := s.awake && s.power.cRun && s.power.cSafe.isNone

/-- The debug block closes: on leaving SERVICE and on any reset of R538 (R574). -/
def closeDebug (s : State) : State := { s.modPower (fun p => { p with debugOpen := false }) with dbgBlock := {} }

end Sys2Proof.Machine
end

