-- ==== Sys2Proof/Machine/Flags.lean ====
section
/-!
DEFINITION. What follows from the state: which objects the reactions hold (R19, R20, R441), whether a region or a unit is held off
(R210, R215, R220, R253), trip sources (R221, R222), and a source's condition (R444).
-/
namespace Sys2Proof.Machine

open Sys2Proof

/-! ## Islands, units and regions (R22, R192) -/

/-- The island of a unit. -/
def islandOf (u : UnitId) : IslandId := ⟨u.val / 2, by omega⟩
/-- The high unit of an island. -/
def unitH (i : IslandId) : UnitId := ⟨2 * i.val, by omega⟩
/-- The low unit of an island. -/
def unitL (i : IslandId) : UnitId := ⟨2 * i.val + 1, by omega⟩
/-- Whether a unit is the high one. -/
def isHigh (u : UnitId) : Bool := u.val % 2 == 0

/-- A number below 8 as a region. -/
def regionNo (c : Nat) : Option RegionId := if h : c < 8 then some ⟨c, h⟩ else none

/-- The region of an island (R192). -/
def State.regionOf (s : State) (i : IslandId) : Option RegionId := regionNo (s.rf (rPwmAssign i) 0 4)

/-- The islands of a region. -/
def State.islandsOf (s : State) (r : RegionId) : List IslandId := (List.finRange 24).filter fun i => s.regionOf i == some r

/-- Drive mode of R192. -/
def State.driveMode (s : State) (i : IslandId) : Nat := s.rf (rPwmAssign i) 4 2

/-- The DRIVE mode holds the unit off (R192). -/
def State.driveHolds (s : State) (u : UnitId) : Bool :=
  let m := s.driveMode (islandOf u)
  m == 3 || (m == 1 && !isHigh u) || (m == 2 && isHigh u)

/-- Period P of a region in fine steps (R194). -/
def State.period (s : State) (r : RegionId) : Nat := s.rf (rPwmPeriod r) 0 24

/-! ## Reactions in force (R19, R439, R441) -/

/-- The reaction a source's fault state holds. -/
def State.held (s : State) (k : SourceId) : Reaction :=
  let f := s.events.src[k]
  if f.state = .clear then .none else f.reaction

/-- The sources in a fault state, rising. -/
def State.activeSrcs (s : State) : List SourceId :=
  ((List.finRange 192).zip s.events.src.toList).filterMap fun p => if p.2.state = .clear then none else some p.1

/-- The region objects of a source: the unit's or island's region, the region, or those named in EVT_CFG.REGIONS (R441). -/
def State.srcCovers (s : State) (k : SourceId) (r : RegionId) : Bool :=
  match srcObj k with
  | .unit u => s.regionOf (islandOf u) == some r
  | .island i => s.regionOf i == some r
  | .region x => x == r
  | .none => s.rb (rEvtCfg k) (8 + r.val)

/-- The region takes its pair partner's duties (R31, R413). -/
def State.fedByPartner (s : State) (r : RegionId) : Bool := s.pair.regions[r].partnerActive

/-- Source k's reaction holds region r under region inhibit (R27, R31, R441). -/
def State.inhibitBy (s : State) (r : RegionId) (k : SourceId) : Bool :=
  match s.held k with
  | .regionInhibit => s.srcCovers k r
  | .dieSafe => srcDie k == .p && !s.fedByPartner r
  | .packageSafe => true
  | _ => false

/-- Source k's reaction latches region r. -/
def State.latchBy (s : State) (r : RegionId) (k : SourceId) : Bool := s.held k == .regionLatch && s.srcCovers k r

/-- Source k's reaction is an island off of island i (R441). -/
def State.islandOffBy (s : State) (i : IslandId) (k : SourceId) : Bool :=
  s.held k == .islandOff &&
    (match srcObj k with
    | .unit u => islandOf u == i
    | .island j => j == i
    | _ => false)

/-- Source k's reaction is a unit off of unit u (R441). -/
def State.unitOffBy (s : State) (u : UnitId) (k : SourceId) : Bool :=
  s.held k == .unitOff &&
    (match srcObj k with
    | .unit v => v == u
    | .island j => j == islandOf u
    | _ => false)

/-- Some source's fault state holds the package-safe reaction (R528). -/
def State.pkgSafeHeld (s : State) : Bool := s.activeSrcs.any (fun k => s.held k == .packageSafe) || !s.power.pRun

/-- Package safe state is applied (R34, R528). -/
def State.pkgSafe (s : State) : Bool := s.power.dev == .safe || s.pkgSafeHeld

/-- Region inhibit of every kind but phase OFF (R27, R154, R29, R426, R471). -/
def State.inhibited (s : State) (r : RegionId) : Bool :=
  let g := s.regions[r]
  g.copyInhibit || g.lossInhibit || g.sourceInhibit || s.saf.path1Block || s.pkgSafe
    || s.activeSrcs.any (s.inhibitBy r)

/-- Region latch (R27, R227). -/
def State.latched (s : State) (r : RegionId) : Bool :=
  s.regions[r].tripLatch || s.activeSrcs.any (s.latchBy r)

/-- The region reads as inhibited: region inhibit or phase OFF (R215). -/
def State.showsInhibit (s : State) (r : RegionId) : Bool := s.regions[r].phase == .off || s.inhibited r

/-- Everything that keeps all of a region's units off (R220). -/
def State.regionHeld (s : State) (r : RegionId) : Bool := s.showsInhibit r || s.latched r || s.regions[r].hold

/-- A hold whose end takes a region in RUN to RECOVERY: region inhibit, region latch, the safety inhibit (R219). -/
def State.recoveryHold (s : State) (r : RegionId) : Bool := s.inhibited r || s.latched r

/-- Island off of an island by a reaction of its own scope or a wider one that includes it, or path 2 (R19, R451). -/
def State.islandOff (s : State) (i : IslandId) : Bool :=
  s.activeSrcs.any (s.islandOffBy i) || !s.saf.biasPermit ||
    (match s.regionOf i with
    | some r => s.showsInhibit r || s.latched r
    | none => false)

/-- A unit-off or island-off reaction covers the unit (R220). -/
def State.reactionCovers (s : State) (u : UnitId) : Bool :=
  s.activeSrcs.any fun k => s.unitOffBy u k || s.islandOffBy (islandOf u) k

/-- Held off in the sense of R253. -/
def State.heldForTest (s : State) (u : UnitId) : Bool :=
  s.driveHolds u || s.reactionCovers u ||
    (match s.regionOf (islandOf u) with
    | some r => s.regionHeld r
    | none => true)

/-- The region's command to a unit is off by a hold, before the gate block and the island, or the island has not applied a compare since
the carrier started (R210, R220). -/
def State.cmdHeld (s : State) (u : UnitId) : Bool :=
  let x := s.units[u]
  s.heldForTest u || x.tripCyc != 0 || x.tripLatch != 0 || x.waitWrap || x.testHold || !s.islands[islandOf u].started

/-- The island holds the unit off whatever its command: no bias, not READY, link lost, UVLO, the hold of R250, a soft turn-off
running, or the gate block of path 1 (R235, R238, R240, R250, R257, R465). -/
def State.islandHolds (s : State) (u : UnitId) : Bool :=
  let x := s.units[u]
  let i := s.islands[islandOf u]
  s.saf.path1Block || !i.bias || !i.ready || !i.link || i.linkHold || x.uvlo || x.uvloHeld || x.desatHold || x.softOff.isSome

/-- The unit is held off by anything but its compare and the interlock. -/
def State.unitHeld (s : State) (u : UnitId) : Bool := s.cmdHeld u || s.islandHolds u

/-- No command of the unit reaches its island: held before the link, blocked by path 1, or the island not there to take it (R220, R240, R465;
notes/assumptions/122.md). What the island itself holds off keeps its command (R238, R242, R250, R251). -/
def State.cmdStops (s : State) (u : UnitId) : Bool :=
  let i := s.islands[islandOf u]
  s.cmdHeld u || s.saf.path1Block || !i.bias || !i.ready || !i.link || i.linkHold

/-! ## Trip sources (R221, R222) -/

/-- Units that entry n of a region's trip map names and whose island is assigned to the region (R222). -/
def State.mapUnits (s : State) (r : RegionId) (n : TripId) : List UnitId :=
  (List.finRange 48).filter fun u =>
    (if u.val < 32 then s.rb (rPwmTripmapLo r n) u.val else s.rb (rPwmTripmapHi r n) (u.val - 32))
      && s.regionOf (islandOf u) == some r

/-- Entry n of the region's trip map latches (R222). -/
def State.mapLatches (s : State) (r : RegionId) (n : TripId) : Bool := s.rb (rPwmTripmapHi r n) 16

/-- The raw output of window comparator c (R221, R288). -/
def State.window (s : State) (c : ChanId) : Bool :=
  bitAt (s.banks[(⟨c.val / 16, by omega⟩ : BankId)]).winState (c.val % 16)

/-- The comparator of a unit in the order of ISL_TEST.START: desaturation or UVLO (R253). -/
def comparator (u : UnitId) (uvlo : Bool) : Fin 4 :=
  match uvlo, isHigh u with
  | false, true => 0
  | false, false => 1
  | true, true => 2
  | true, false => 3

/-- The comparator is under test: its output reaches neither trip sources nor event sources (R254, R255). -/
def State.underTest (s : State) (u : UnitId) (uvlo : Bool) : Bool :=
  (s.islands[islandOf u]).testLeft.head? == some (comparator u uvlo)

/-- The UVLO signal of a unit at the P-die trip logic (R238, R240, R255, R257). -/
def State.uvloSignal (s : State) (u : UnitId) : Bool :=
  s.units[u].uvlo && s.islands[islandOf u].evaluated && !s.underTest u true

/-- The desaturation signal of a unit at the P-die trip logic, until 24 ticks after the end of the soft turn-off (R240, R252, R255). -/
def State.desatSignal (s : State) (u : UnitId) : Bool :=
  s.units[u].desatSig && (match s.units[u].desatSigEnd with | none => true | some t => decide (s.now < t)) &&
    s.islands[islandOf u].evaluated && !s.underTest u false

/-- Whether any input selected for trip source n asserts (R221). -/
def State.tripInput (s : State) (n : TripId) : Bool :=
  let kind := s.rf (rPwmTripsrcIsl n) 24 2
  (List.finRange 64).any (fun c =>
    (if c.val < 32 then s.rb (rPwmTripsrcLo n) c.val else s.rb (rPwmTripsrcHi n) (c.val - 32)) && s.window c)
  || (List.finRange 48).any (fun u => s.rb (rPwmTripsrcIsl n) (islandOf u).val &&
      ((kind % 2 == 1 && s.desatSignal u) || (2 ≤ kind && s.uvloSignal u)))

/-- An asserted latching trip source maps to the region (R444). -/
def State.latchTripPresent (s : State) (r : RegionId) : Bool :=
  (List.finRange 16).any fun n => s.tripActive[n] && s.mapLatches r n && !(s.mapUnits r n).isEmpty

/-! ## Sources (R444) -/

/-- A source's condition is present (R444). -/
def State.condition (s : State) (k : SourceId) : Bool :=
  let f := s.events.src[k]
  f.force || !f.standing.isEmpty ||
    (if h : 72 ≤ k.val ∧ k.val < 80 then s.latchTripPresent ⟨k.val - 72, by omega⟩ else false)

/-- The shadow window that covers an object, if one is open (R450). -/
def State.openWindow (s : State) (o : ShadowObj) : Option Shadow :=
  s.events.shadows.find? fun w => w.obj == o && (match w.ends with | none => true | some t => decide (s.now < t))

/-! ## Trigger units and the identities of an instant (R305, R309) -/

/-- KIND of a trigger unit (R305). -/
def State.trgKind (s : State) (u : TrigId) : Nat := s.rf (rCapTrgCtrl u) 0 3

/-- A unit of the event kind watches events of a source at a severity (R305). -/
def State.watchesEvent (s : State) (k : SourceId) (v : Sev) (u : TrigId) : Bool :=
  s.trgKind u == 5 && s.rf (rCapTrgPar u) 8 8 == k.val && decide (s.rf (rCapTrgCtrl u) 14 2 ≤ v.code)

/-- Corrected local time in whole ns of an instant of the recent past. -/
def State.timeNsAt (s : State) (tick : Nat) : Word64 :=
  BitVec.ofInt 64 ((correctedFix (s.time.count - BitVec.ofNat 64 (s.now - tick)) s.time.base s.time.anchor s.time.rho).tdiv 65536)

/-- Count of the first regular or continuous set of a bank whose sampling instant is at or after a tick (R309). -/
def State.setAt (s : State) (b : BankId) (tick : Nat) : Word32 :=
  let x := s.banks[b]
  let next :=
    match x.latch.bind Delay.region, x.delay.bind Delay.region, regionNo (s.rf (rAdcCtrl b) 4 4) with
    | some p, _, _ => p.2
    | none, some p, _ => p.2
    | none, none, some r => if s.rf (rAdcCtrl b) 0 2 ≠ 1 then x.setCount
      else if s.regions[r].triggered then s.regions[r].bcount + 1 else s.regions[r].bcount
    | none, none, none => x.setCount
  let run := match x.running with | some c => if tick ≤ c.start then c.count else next | none => next
  match (x.recent.filter fun p => decide (tick ≤ p.1)).getLast? with
  | some p => p.2
  | none => run

/-- The notice of a fire (R309). -/
def State.noticeOf (s : State) (u : TrigId) (tick : Nat) : Notice :=
  { unit := u, time := s.timeNsAt tick
    setCounts := (List.finRange 4).map fun b => s.setAt b tick
    outIndexes := (List.finRange 16).map fun n =>
      let c := s.chains[n]
      c.outIndex - BitVec.ofNat 32 (c.outTicks.filter fun t => decide (tick ≤ t)).length }

end Sys2Proof.Machine
end

