-- ==== Sys2Proof/Machine/Trigger.lean ====
section
/-!
DEFINITION. What fires a trigger unit (R305 to R308): its state, the combine units that follow it, and the events it watches. The fires
are made known by Filter.lean.
-/
namespace Sys2Proof.Machine

open Sys2Proof

/-- A combine unit whose operands are not both lower-numbered (R306). -/
def State.trgInvalid (s : State) (u : TrigId) : Bool :=
  s.trgKind u == 6 && (decide (u.val ≤ s.rf (rCapTrgCtrl u) 18 3) || decide (u.val ≤ s.rf (rCapTrgCtrl u) 21 3))

/-- The unit's settings let it fire (R305, R306). -/
def State.trgLive (s : State) (u : TrigId) : Bool :=
  let k := s.trgKind u
  k != 0 && k != 7 && !s.trgInvalid u && !(k == 6 && s.rf (rCapTrgCtrl u) 16 2 == 3)

/-- A unit whose configuration has been written takes it: history and primed state cleared, armed, or off (R308). -/
def trgTake (u : TrigId) (s : State) : State :=
  if s.trigs[u].written then
    s.modTrig u fun x =>
      { x with written := false, hist := [], primedUp := false, primedDown := false, fireA := [], fireB := [],
               state := if s.trgLive u then .armed else .off }
  else s

/-- An event limited to once per millisecond may be raised. -/
def State.onceMs (s : State) (last : Option Nat) : Bool := match last with | none => true | some t => decide (t + msTicks 1 ≤ s.now)

/-- One fire: FIRE_CNT, FIRED or hold-off, and the notice of its instant, which leaves with the unit's event (R307, R309). -/
def fireOne (u : TrigId) (tick : Nat) (s : State) : State :=
  let w := s.reg (rCapTrgCtrl u)
  let hold := s.rf (rCapTrgHold u) 0 32
  (s.modEvents fun v => { v with trgWait := v.trgWait ++ [s.noticeOf u tick] }).modTrig u fun t =>
    { t with
      fireCnt := satInc t.fireCnt, holdEnd := s.now + hold, holdLeft := hold
      state := if bitAt w 5 then .fired else if hold = 0 then .armed else .holdOff }

/-- What a met or unmet condition does to a unit by its state; the flag says that the unit fires (R307). -/
def trgStep (u : TrigId) (met : Bool) (s : State) : Bool × State :=
  let t := s.trigs[u]
  let count := s.rb (rCapTrgCtrl u) 6
  match t.state with
  | .off => (false, s)
  | .fired => (false, s)
  | .armed => (met, s)
  | .holdOff =>
    if !count then (if t.holdEnd ≤ s.now then (met, s) else (false, s))
    else if met then
      (false, s.modTrig u fun t => { t with holdLeft := t.holdLeft - 1, state := if t.holdLeft ≤ 1 then .armed else .holdOff })
    else (false, s)

/-- Instants of fires with a new one, and without those that no fire still to be processed meets: a channel's fire is processed at most 40
ticks after its instant (R304, R306). -/
def keepFire (is : Bool) (tick win now : Nat) (l : List Nat) : List Nat :=
  (if is then [tick] else []) ++ l.filter fun p => decide (now ≤ p + win + 64)

/-- The instants that a fire of an operand gives combine unit v, judged by the instants of the fires in whatever order they are processed, and
the unit after it: a fire of OPB that has given THEN its instant gives none again (R306). -/
def combine (v u : TrigId) (tick : Nat) (s : State) : List Nat × State :=
  let w := s.reg (rCapTrgCtrl v)
  let t := s.trigs[v]
  let isA := fld w 18 3 == u.val
  let isB := fld w 21 3 == u.val
  let win := s.rf (rCapTrgPar v) 16 16
  let a := keepFire isA tick win s.now t.fireA
  let b := keepFire isB tick win s.now t.fireB
  let near (p q : Nat) : Bool := decide (p ≤ q + win) && decide (q ≤ p + win)
  let after (q : Nat) : Bool := a.any fun p => decide (p ≤ q) && decide (q ≤ p + win)
  match fld w 16 2 with
  | 0 => ([tick], s)
  | 1 =>
    let met := (if isA then b else []) ++ if isB then a else []
    (((met.filter (near tick)).map (max tick)).take 1, s.modTrig v fun t => { t with fireA := a, fireB := b })
  | 2 => ((b.filter after).reverse, s.modTrig v fun t => { t with fireA := a, fireB := b.filter fun q => !after q })
  | _ => ([], s)

/-- A fire of unit u and the fires of combine units that follow from it: they are higher-numbered (R306). -/
def fire : Nat → TrigId → Nat → State → State
  | 0, u, tick, s => fireOne u tick s
  | fuel + 1, u, tick, s =>
    forList (fun v t =>
      if u.val < v.val ∧ t.trgKind v = 6 ∧ (t.rf (rCapTrgCtrl v) 18 3 = u.val ∨ t.rf (rCapTrgCtrl v) 21 3 = u.val) then
        let q := combine v u tick (trgTake v t)
        forList (fun n t =>
          let p := trgStep v true t
          if p.1 then fire fuel v n p.2 else p.2) q.1 q.2
      else t) (List.finRange 8) (fireOne u tick s)

/-- An event at the trigger units that watch its source, in the tick in which they see it (R305). -/
def trgEvent (k : SourceId) (v : Sev) (s : State) : State :=
  forList (fun u t =>
    if t.watchesEvent k v u then
      let p := trgStep u true (trgTake u t)
      if p.1 then fire 8 u s.now p.2 else p.2
    else t) (List.finRange 8) s

end Sys2Proof.Machine
end

