-- ==== Sys2Proof/Machine/Raise.lean ====
section
/-!
DEFINITION. Raising an event (R437, R438), its fault state (R436, R440, R444, R446) and the windows of the reaction shadow
(R450 to R453). Collection by the C-die stands in Events.lean.
-/
namespace Sys2Proof.Machine

open Sys2Proof

/-- The C-die collects P-die events: the link is up and the C-die out of reset (R438). -/
def State.collects (s : State) : Bool := s.linkUp && s.power.cRun

/-- The quiet period of a source starts now: a condition has ended (R445). -/
def Source.quietFrom (f : Source) (now : Nat) : Source := { f with quietAt := max f.quietAt now, quietWas := now }

/-- A source's own record of an event raised: EVENT_CNT, LAST and the start of its quiet period (R445, R452, R462). -/
def Source.note (f : Source) (e : Event) (now : Nat) : Source :=
  { f with
    eventCnt := satInc f.eventCnt
    lastCode := e.code
    lastSev := e.sev
    lastCons := e.consequential
    lastForced := e.forced
    quietAt := if 2 ≤ e.sev.code && !e.consequential then now else f.quietAt
    quietWas := if f.quietAt = now then f.quietWas else f.quietAt }

/-- Event records are written: after the Seal, the ring engine running, with EN set (R342). -/
def State.recordsRun (s : State) : Bool := s.power.sealed && s.ringsRun && s.rb rSysEvtRoute 3

/-- A P-die event is seen by the trigger units in the tick of its raising (R305). -/
def noteTrigger (e : Event) (s : State) : State :=
  if srcDie e.source = .p && s.power.pRun then trgEvent e.source e.sev s else s

/-- An event put where the C-die collects it, or in the P-die's buffer of 256 (R438), marked if records are written now (R342). -/
def pushEvent (e : Event) (s : State) : State :=
  let e := { e with recorded := s.recordsRun }
  let s := noteTrigger e (s.modSrc e.source fun f => f.note e s.now)
  s.modEvents fun v =>
    if srcDie e.source = .p && !s.collects then
      (if v.pbuf.length < 256 then { v with pbuf := v.pbuf ++ [{ e with applied := true }] }
       else { v with pbufLost := satInc v.pbufLost, pbufLostNew := v.pbufLostNew + 1 })
    else { v with raised := v.raised ++ [e] }

/-- The reaction an event of a source takes: none for INFO and WARN, as configured for FAULT, never narrower than the default for
CRITICAL, the default with DEFAULT and for a fixed reaction, none for sources 176 to 181 (R440, R442, R460). -/
def State.reactionFor (s : State) (e : Event) : Reaction :=
  if e.sev.code < 2 ∨ (176 ≤ e.source.val ∧ e.source.val ≤ 181) then .none
  else if e.fixed then e.dflt
  else match reactionOf (s.rf (rEvtCfg e.source) 0 3) with
    | none => e.dflt
    | some c => if e.sev = .critical then c.wider e.dflt else c

/-- A raised event that awaits collection and whose reaction is package safe: package safe becomes held in this tick (R532). -/
def State.safeComing (s : State) : Bool :=
  s.events.raised.any fun e => decide (2 ≤ e.sev.code) && !e.consequential && s.reactionFor e == .packageSafe

/-- Recoveries of a source that lie in its window of W_S seconds (R446). -/
def State.recoveries (s : State) (k : SourceId) : Nat :=
  (s.events.src[k].recovered.filter fun t => decide (s.now ≤ t + sTicks (s.rf (rEvtRecov k) 20 12))).length

/-- The fault state an event enters or widens (R444, R446). -/
def applyEvent (e : Event) (s : State) : State :=
  if e.sev.code < 2 ∨ e.consequential then s else
  let k := e.source
  let s := s.modEvents fun v => { v with fresh := v.fresh.filter (fun x => x.1 == s.now) ++ [(s.now, e)] }
  let f := s.events.src[k]
  let rx := s.reactionFor e
  let n := s.rf (rEvtRecov k) 16 4
  let s := if rx = .dieSafe ∧ srcDie k = .c ∧ s.power.cSafe.isNone then s.modPower fun p => { p with cSafe := some s.now } else s
  if f.state = .clear then
    if n ≠ 0 ∧ n ≤ s.recoveries k then
      pushEvent { source := k, code := evLatched.code, sev := .warn, time := e.time }
        (s.modSrc k fun f => { f with state := .latched, reaction := rx })
    else s.modSrc k fun f => { f with state := .fault, reaction := rx }
  else s.modSrc k fun f => { f with reaction := f.reaction.wider rx }

/-- A source's fault events of this tick, which have acted before its clear or recovery, re-enter its fault state after it (R449). -/
def reenter (k : SourceId) (s : State) : State :=
  let l := s.events.fresh.filter fun x => x.1 == s.now && x.2.source == k
  forList (fun x t => applyEvent x.2 t) l (s.modEvents fun v => { v with fresh := v.fresh.filter fun x => !l.contains x })

/-- The event a source raises now. `det` is the object of a detector that R450 lists: while its window is open the event is
CONSEQUENTIAL, unless it is forced (R452, R453). -/
def mkEvent (k : SourceId) (d : EvDef) (detail arg : Word32) (det : Option ShadowObj) (forced : Bool) (s : State) : Event :=
  let win := if forced then none else det.bind s.openWindow
  { source := k, code := d.code, sev := d.sev, dflt := d.dflt, fixed := d.fixed
    consequential := win.isSome
    cause := match win with | some w => w.cause | none => 0
    forced := forced
    detail := detail, arg := arg
    time := if srcDie k = .p then s.timeNs else s.cTimeNs }

/-- An event raised: buffered with its reaction applied by the P-die while the C-die does not collect, else left for collection. -/
def raiseFull (k : SourceId) (d : EvDef) (detail arg : Word32) (det : Option ShadowObj) (forced : Bool) (s : State) : State :=
  let e := mkEvent k d detail arg det forced s
  if srcDie k = .p && !s.collects then applyEvent e (pushEvent e s) else pushEvent e s

/-- An event raised by a detector that no window covers. -/
def raise (k : SourceId) (d : EvDef) (detail arg : Word32) (s : State) : State := raiseFull k d detail arg none false s

/-- A condition that one of a source's events reports begins (R444). -/
def stand (k : SourceId) (d : EvDef) (s : State) : State :=
  s.modSrc k fun f =>
    if d.code ∈ f.standing then f
    else { f with standing := d.code :: f.standing, stoodAt := if f.standing.isEmpty then s.now else f.stoodAt }

/-- A condition that one of a source's events reported ends; the quiet period starts when none is left (R445). -/
def unstand (k : SourceId) (d : EvDef) (s : State) : State :=
  s.modSrc k fun f =>
    if d.code ∈ f.standing then { f with standing := f.standing.filter (· ≠ d.code) }.quietFrom s.now else f

/-- Length of a window in ticks (R450). -/
def windowLen : ShadowObj → Nat
  | .island _ => 800000
  | .region _ => 4000000
  | .cDie => 20000000

/-- A window opened, or an open one on the same object extended, which keeps its cause (R451). -/
def openShadow (o : ShadowObj) (ends : Option Nat) (cause : BitVec 8) (s : State) : State :=
  match s.openWindow o with
  | some w =>
    let e := match w.ends, ends with
      | some a, some b => some (max a b)
      | _, _ => none
    s.modEvents fun v => { v with shadows := v.shadows.map fun x => if x.obj = o then { x with ends := e } else x }
  | none =>
    s.modEvents fun v => { v with shadows := v.shadows.filter (fun x => x.obj ≠ o) ++ [{ obj := o, ends := ends, cause := cause }] }

end Sys2Proof.Machine
end

