-- ==== Sys2Proof/Machine/MemProt.lean ====
section
/-!
DEFINITION. First-error capture (R454 to R456), the code of package memory and journal, and their reads and writes (R376, R377, R457).
-/
namespace Sys2Proof.Machine

open Sys2Proof

/-- An error of domain d captured: the first while VALID is clear, an uncorrectable one once in place of a captured correctable one;
else it is only counted (R456). -/
def captureError (d : Fin 4) (addr : BitVec 48) (req : BitVec 8) (type : BitVec 4) (synd : BitVec 48) (nsym : BitVec 4) (s : State) :
    State :=
  let f := s.events.fec[d]
  let take := !f.valid || (bitAt type 3 && !bitAt f.type 3 && !f.replaced)
  s.modEvents fun e =>
    { e with fec := upd e.fec d fun g =>
        let cnt := if g.valid then satInc g.cnt else g.cnt
        if take then
          { valid := true, addr := addr, req := req, type := type, time := s.cTimeNs, synd := synd, nsym := nsym, cnt := cnt,
            replaced := g.valid }
        else { g with cnt := cnt } }

/-- A writing of 1 to VALID of domain d: cleared and armed again, CNT cleared (R456). -/
def clearError (d : Fin 4) (s : State) : State := s.modEvents fun e => { e with fec := upd e.fec d fun _ => {} }

/-- A failed host memory access recorded, and "host DMA error" (R461, R576). -/
def hostError (addr : Word64) (req : BitVec 8) (write : Bool) (status : BitVec 3) (s : State) : State :=
  raise 137 evHostDmaError 0 0 (captureError 2 (addr.setWidth 48) req (if write then 9 else 8) (status.setWidth 48) 0 s)

/-! ## The code (R376) -/

/-- A symbol times alpha in GF(2^8) over the field polynomial 0x11D. -/
def gfDouble (a : Byte) : Byte := if a.getLsbD 7 then (a <<< 1) ^^^ 0x1D else a <<< 1

/-- A product in the field. -/
def gfMul (a b : Byte) : Byte := [7, 6, 5, 4, 3, 2, 1, 0].foldl (fun r i => gfDouble r ^^^ (if b.getLsbD i then a else 0)) 0

/-- A power of alpha. -/
def gfAlpha : Nat → Byte
  | 0 => 1
  | n + 1 => gfDouble (gfAlpha n)

/-- The generator polynomial with roots alpha^0 to alpha^5 but for its leading 1, highest power first. -/
def rsGenerator : List Byte :=
  ((List.range 6).foldl (fun g i => (g ++ [0]).zipWith (· ^^^ ·) (0 :: g.map (gfMul (gfAlpha i)))) [1]).tail

/-- The six check symbols of 64 bytes of data: the remainder of their division by the generator, byte 0 being the highest power
(notes/assumptions/140.md). -/
def rsCheck (data : List Byte) : List Byte :=
  data.foldl (fun r b => let f := b ^^^ r.headD 0; (r.tail ++ [0]).zipWith (· ^^^ ·) (rsGenerator.map (gfMul f))) (List.replicate 6 0)

/-- The six syndrome bytes of a word of 70 symbols: its values at alpha^0 to alpha^5. -/
def rsSyndrome (w : List Byte) : List Byte := (List.range 6).map fun i => w.foldl (fun r b => gfMul r (gfAlpha i) ^^^ b) 0

/-- A word with symbols in error. -/
def corrupt (e : SymErr) (w : List Byte) : List Byte := w.mapIdx fun i b => b ^^^ (e.lookup i).getD 0

/-- The 70 symbols stored of a line of package memory: its data and their check symbols, those in error as they are (R376). -/
def State.stored (s : State) (line : Nat) (e : SymErr) : List Byte :=
  let l := s.bytes (64 * line) 64
  corrupt e (l ++ rsCheck l)

/-- A decoder's finding: no more than two symbols in error are corrected, three and four are detected (R376). -/
def SymErr.corrected (e : SymErr) : Bool := decide (e.length ≤ 2)

/-- The syndrome as first-error capture holds it (R454). -/
def synd (w : List Byte) : BitVec 48 := BitVec.ofNat 48 (ofLe (rsSyndrome w))

/-- Check symbols 0 to n - 1 complemented (R457). -/
def complemented (n : Nat) : SymErr := (List.range (min 4 n)).map fun i => (64 + i, 0xFF)

/-- A line or slot that is not listed has no symbol in error. -/
def noErr (_ : Nat) : SymErr := []

/-- Symbols in error recorded for a line or slot: the table stays in its canonical form, by rising line. -/
def putErr (l : List (Nat × SymErr)) (k : Nat) (e : SymErr) : List (Nat × SymErr) := put noErr l k e

/-! ## Reads (R376, R378, R454) -/

/-- One line with symbol errors read: up to two are corrected and written back, three or four are uncorrectable (R376, R378, R454).
`type` is the access type without its top bit. -/
def readLine (line : Nat) (e : SymErr) (req : BitVec 8) (type : BitVec 4) (s : State) : State :=
  let ok := e.corrected
  let s := captureError 0 (BitVec.ofNat 48 (64 * line)) req (if ok then type else type ||| 8) (synd (s.stored line e))
    (if ok then BitVec.ofNat 4 e.length else 0xF) s
  if ok then raise 160 evMemCorrected 0 0 { s with memErr := s.memErr.filter (fun e => e.1 ≠ line), memCorr := satInc s.memCorr }
  else
    raise 160 evMemUncorrectable 0 0 { s with memUncorr := satInc s.memUncorr }

/-- The lines with errors among those that bytes a to a + n - 1 lie in; one not yet initialised is not checked (R535). -/
def State.errLines (s : State) (a n : Nat) : List (Nat × SymErr) :=
  s.memErr.filter fun e => decide (a < 64 * e.1 + 64) && decide (64 * e.1 < a + n) && s.lineReady e.1

/-- Package memory read at a to a + n - 1, by rising line: the first uncorrectable line, if any, and the state after it. -/
def readMem (a n : Nat) (req : BitVec 8) (type : BitVec 4) (s : State) : Option Nat × State :=
  let l := s.errLines a n
  ((l.find? fun e => !e.2.corrected).map fun e => 64 * e.1, forList (fun e t => readLine e.1 e.2 req type t) l s)

/-- Whatever refers to the command of a journal slot that has been lost: nothing of it is finished any more in the slot's next entry (R371, R372). -/
def forgetSlot (k : Nat) (s : State) : State :=
  let s := s.modRings fun r =>
    { r with
      journal := r.journal.filter (fun e => e.slot.val ≠ k), work := r.work.filter (fun w => w.slot.val ≠ k)
      finished := r.finished.filter (fun x => x.val ≠ k), unacked := r.unacked.filter (fun x => x.val ≠ k)
      rePost := r.rePost.filter (fun x => x.slot.val ≠ k) }
  let is (x : Slot) : Bool := x.val == k
  let s := s.modHost fun h =>
    { h with reads := h.reads.filter fun r => match r.use with | .command x => !is x | _ => true }
  let s := { s with
    regions := s.regions.map fun (g : Region) =>
      { g with modeReqs := g.modeReqs.filter (fun q => !is q.2), commits := g.commits.filter (fun x => !is x), swapReq := g.swapReq.filter fun x => !is x }
    sessions := s.sessions.map fun (x : Session) => { x with stopReq := x.stopReq.filter fun y => !is y }
    weirs := s.weirs.map fun (w : Weir) => { w with waiters := w.waiters.filter fun x => !x.2.1.any is } }
  let s := s.modPair fun p =>
    { p with
      held := p.held.map fun (h : ParamHeld) => if h.slot.any is then { h with slot := none } else h
      regions := p.regions.map fun (x : PairRegion) => if x.resyncCmd.any is then { x with resyncCmd := none } else x }
  let s := s.modNet fun n =>
    { n with
      bufs := n.bufs.filter (fun b => !is b.slot), rxHeld := n.rxHeld.filter (fun x => !is x.buf.slot), txTook := n.txTook.filter (fun x => !is x.1)
      ports := n.ports.map fun (q : Port) =>
        { q with hostQ := q.hostQ.map fun (f : TxFrame) => if f.cmd.any is then { f with cmd := none } else f } }
  s.modLoop fun l => { l with rt := l.rt.map fun (x : CtxRt) => { x with seqr := { x.seqr with kept := x.seqr.kept.filter fun y => !is y } } }

/-- A journal slot with symbol errors read: corrected, or freed unposted as lost (R371, R376, R378). An entry's own symbols add nothing to the
syndrome. -/
def readJournal (k : Nat) (e : SymErr) (req : BitVec 8) (type : BitVec 4) (s : State) : State :=
  let ok := e.corrected
  let s := captureError 0 (BitVec.ofNat 48 (0xFFFF00000000 + 64 * k)) req (if ok then type else type ||| 8)
    (synd (corrupt e (List.replicate 70 0))) (if ok then BitVec.ofNat 4 e.length else 0xF) s
  let s := s.modRings fun r => { r with journalErr := r.journalErr.filter fun e => e.1 ≠ k }
  if ok then raise 161 evJrnlCorrected 0 0 { s with jrnlCorr := satInc s.jrnlCorr }
  else
    raise 161 evJrnlLost (BitVec.ofNat 32 k) 0
      (forgetSlot k { s with jrnlUncorr := satInc s.jrnlUncorr })

/-! ## Writes (R376, R457) -/

/-- The armed injection waits for a write to this kind of target (R457). -/
def State.injects (s : State) (target : Nat) : Bool := s.events.inj.armed && s.rf rEvtInjCtrl 0 2 == target

/-- The injection has been applied (R457). -/
def injected (s : State) : State := s.modEvents fun e => { e with inj := { e.inj with armed := false, done := true } }

/-- An armed injection acts with the write of its line: the check symbols are stored complemented (R457). -/
def injectLine (a n : Nat) (s : State) : State :=
  let line := (s.reg rEvtInjAddr).toNat / 64
  if s.injects 0 && decide (a < 64 * line + 64) && decide (64 * line < a + n) then
    injected { s with memErr := putErr s.memErr line (complemented (s.rf rEvtInjCtrl 2 3)) }
  else s

/-- A write to package memory by a requester of R455: a line with symbol errors that it covers only in part is read, modified and written
(R376, R454). -/
def State.write (s : State) (req : BitVec 8) (a : Nat) (l : List Byte) : State :=
  let part := (s.errLines a l.length).filter fun e => !wholeLine a l.length e.1
  injectLine a l.length ((forList (fun e t => readLine e.1 e.2 req 2 t) part s).store a l)

/-- A journal slot has been written: its symbols are good again, unless an armed injection acts (R376, R457). -/
def wroteJournal (k : Nat) (s : State) : State :=
  let hit := s.injects 1 && s.rf rEvtInjAddr 0 13 == k
  let s := s.modRings fun r => { r with journalErr := putErr r.journalErr k (if hit then complemented (s.rf rEvtInjCtrl 2 3) else []) }
  if hit then injected s else s

/-- A write of the capture writer: its buffer takes it while a refresh has the memory (R455, R495). -/
def captureStore (a : Nat) (l : List Byte) (s : State) : State :=
  if s.refreshing then s.modArb fun x => { x with capBuf := x.capBuf ++ [(a, l)] } else s.write 0x04 a l

/-- The capture writer's buffer written to memory, in order (R495). -/
def flushCapture (s : State) : State :=
  forList (fun (w : Nat × List Byte) t => t.write 0x04 w.1 w.2) s.arb.capBuf (s.modArb fun x => { x with capBuf := [] })

end Sys2Proof.Machine
end

