-- ==== Sys2Proof/Machine/Journal.lean ====
section
/-!
DEFINITION. The journal's shared operations: entries and the work held for them, targets and their ASN words (R364, R577), a command
that reaches APPLIED (R361, R363), and writes to host memory (R576).
-/
namespace Sys2Proof.Machine

open Sys2Proof

/-! ## Status codes (R343) -/

def stOk : Word16 := 0x0000
def stLate : Word16 := 0x0001
def stClamped : Word16 := 0x0002
def stReplayed : Word16 := 0x0003
def stBadOpcode : Word16 := 0x0010
def stRange : Word16 := 0x0011
def stState : Word16 := 0x0012
def stRank : Word16 := 0x0013
def stPast : Word16 := 0x0014
def stAbortedFault : Word16 := 0x0020
def stLostPower : Word16 := 0x0021

/-! ## Entries and work -/

/-- The journal entry of a slot, none while it is free. -/
def State.entry (s : State) (k : Slot) : Option JEntry := s.rings.journal.find? fun e => e.slot == k

/-- The work the C-die holds for a slot. -/
def State.workOf (s : State) (k : Slot) : Option Work := s.rings.work.find? fun w => w.slot == k

/-- The lowest free journal slot. -/
def State.freeSlot (s : State) : Option Slot := (List.finRange 8192).find? fun k => (s.entry k).isNone

/-- An entry changed, which writes its line of the journal (R376). -/
def modEntry (k : Slot) (f : JEntry → JEntry) (s : State) : State :=
  wroteJournal k.val (s.modRings fun r => { r with journal := r.journal.map fun e => if e.slot = k then f e else e })

/-- Work changed. -/
def modWork (k : Slot) (f : Work → Work) (s : State) : State :=
  s.modRings fun r => { r with work := r.work.map fun w => if w.slot = k then f w else w }

/-- Work the C-die no longer holds. -/
def dropWork (k : Slot) (s : State) : State :=
  s.modRings fun r => { r with work := r.work.filter fun w => w.slot ≠ k }

/-- Byte address of the descriptor copy of a slot (R357). -/
def descAddr (k : Slot) : Nat := 0x80000 + 64 * k.val

/-- Byte address of the outcome record of a slot (R363). -/
def outcomeAddr (k : Slot) : Nat := 0x110000 + 32 * k.val

/-- The descriptor copy of a slot (R357). -/
def State.desc (s : State) (k : Slot) : List Byte := s.bytes (descAddr k) 64

/-- ASN b is at or after ASN a (R359). -/
def asnAtOrAfter (b a : Word32) : Bool := decide ((b - a).toNat < 2 ^ 31)

/-! ## Targets (R364, R577) -/

/-- Class and index of the target of an opcode with its descriptor (R358, R364). A CAPTURE_ARM's session is not known before arming:
0xFF, which is no session (notes/assumptions/36.md). -/
def targetOf (opcode : Nat) (d : List Byte) : Nat × Nat :=
  let b := leAt d 16 1
  if opcode = 0x01 ∨ opcode = 0x03 ∨ opcode = 0x04 ∨ opcode = 0x13 then (1, b)
  else if opcode = 0x14 then (1, b)
  else if opcode = 0x05 ∨ opcode = 0x06 ∨ opcode = 0x40 then (2, b)
  else if opcode = 0x10 then (3, 0xFF)
  else if opcode = 0x11 ∨ opcode = 0x12 then (3, b % 16)
  else if opcode = 0x30 ∨ opcode = 0x31 then (4, b)
  else if opcode = 0x20 then (5, 0)
  else if opcode = 0x21 then (5, 1)
  else if opcode = 0x22 then (6, 0)
  else if opcode = 0x41 then (7, b)
  else if opcode = 0x50 ∨ opcode = 0x51 then (8, 0)
  else (0, 0)

/-- The entry's target carries a region mask (R364). -/
def JEntry.masked (e : JEntry) : Bool := e.opcode == 0x40 || e.opcode == 0x41

/-- Two entries act on a common target (R577). -/
def JEntry.meets (a b : JEntry) : Bool :=
  a.targetClass != 0 && a.targetClass == b.targetClass &&
    (if a.targetClass = 2 ∨ a.targetClass = 7 then
      (let m (e : JEntry) : Nat := if e.masked then e.targetIndex.toNat else 2 ^ (e.targetIndex.toNat % 8)
       decide ((m a) &&& (m b) ≠ 0))
     else a.targetIndex == b.targetIndex)

/-- The ASN words with a command applied: O for an entry that has been overtaken, else H (R577). -/
def AsnWords.record (w : AsnWords) (ooo : Bool) (asn : Word32) : AsnWords :=
  if ooo then { w with o := asn } else { w with h := asn }

/-- Whether the words show an entry as applied; a word of 0 is older than every ASN (R359, R577). -/
def AsnWords.shows (w : AsnWords) (e : JEntry) : Bool :=
  if e.ooo then w.o == e.asn else w.h != 0 && asnAtOrAfter w.h e.asn

/-- A command of higher ASN than this one has been applied on the target (R577). -/
def AsnWords.passed (w : AsnWords) (asn : Word32) : Bool := w.h != 0 && asnAtOrAfter w.h asn && w.h != asn

/-- Address of a context's entry (R162). -/
def ctxAddr (c : Nat) : Nat := 0x800 * c

/-- The ASN words of a context, in its header (R165). -/
def State.ctxWords (s : State) (c : Nat) : AsnWords :=
  { h := BitVec.ofNat 32 (ofLe (s.bytes (ctxAddr c + 8) 4)), o := BitVec.ofNat 32 (ofLe (s.bytes (ctxAddr c + 40) 4)) }

/-- The ASN words of a context written (R183). -/
def storeCtxWords (c : Nat) (w : AsnWords) (s : State) : State :=
  (s.write 0x00 (ctxAddr c + 8) (leBytes 4 w.h.toNat)).write 0x00 (ctxAddr c + 40) (leBytes 4 w.o.toNat)

/-- The regions of a mask. -/
def maskRegions (m : Nat) : List RegionId := (List.finRange 8).filter fun r => m.testBit r.val

/-- The regions an entry of class 2 or 7 acts on. -/
def JEntry.regions (e : JEntry) : List RegionId :=
  if e.masked then maskRegions e.targetIndex.toNat
  else match regionNo e.targetIndex.toNat with | some r => [r] | none => []

/-- The ASN words of an entry's target or targets updated (R577). -/
def recordTarget (e : JEntry) (s : State) : State :=
  let i := e.targetIndex.toNat
  match e.targetClass.toNat with
  | 1 => if i < 256 then storeCtxWords i ((s.ctxWords i).record e.ooo e.asn) s else s
  | 2 => forList (fun r t => t.modRings fun g =>
      { g with regionWords := upd g.regionWords r fun w => w.record e.ooo e.asn }) e.regions s
  | 3 => if h : i < 16 then s.modSess ⟨i, h⟩ fun x => { x with words := x.words.record e.ooo e.asn } else s
  | 4 => if h : i < 32 then s.modWeir ⟨i, h⟩ fun x => { x with words := x.words.record e.ooo e.asn } else s
  | 5 => if h : i < 2 then s.modRings fun g => { g with portWords := upd g.portWords ⟨i, h⟩ fun w => w.record e.ooo e.asn } else s
  | 6 => s.modRings fun g => { g with timeWords := g.timeWords.record e.ooo e.asn }
  | 7 => forList (fun r t => t.modPairRegion r fun x => { x with words := x.words.record e.ooo e.asn }) e.regions s
  | 8 => s.modRings fun g => { g with faultWords := g.faultWords.record e.ooo e.asn }
  | _ => s

/-- The ASN words of an entry's target or targets, none for class 0 and for an index that names no target (R364). -/
def State.targetWords (s : State) (e : JEntry) : List AsnWords :=
  let i := e.targetIndex.toNat
  match e.targetClass.toNat with
  | 1 => if i < 256 then [s.ctxWords i] else []
  | 2 => e.regions.map fun r => s.rings.regionWords[r]
  | 3 => if h : i < 16 then [(s.sessions[(⟨i, h⟩ : SessId)]).words] else []
  | 4 => if h : i < 32 then [(s.weirs[(⟨i, h⟩ : WeirId)]).words] else []
  | 5 => if h : i < 2 then [s.rings.portWords[(⟨i, h⟩ : Fin 2)]] else []
  | 6 => [s.rings.timeWords]
  | 7 => e.regions.map fun r => (s.pair.regions[r]).words
  | 8 => [s.rings.faultWords]
  | _ => []

/-- Whether every target of an entry shows it applied; an entry without a target never does (R577). -/
def State.appliedOnTarget (s : State) (e : JEntry) : Bool :=
  !(s.targetWords e).isEmpty && (s.targetWords e).all fun w => w.shows e

/-- The entry has been overtaken: marked, or its target, which a CAPTURE_ARM or PROBE_STOP shows only as it is applied, has taken a command of
higher ASN (R577). -/
def State.overtaken (s : State) (e : JEntry) : Bool := e.ooo || (s.targetWords e).any fun w => w.passed e.asn

/-- The running probe that byte 16 of a descriptor names, with its context (R144). -/
def State.namedProbe (s : State) (d : List Byte) : Option (Fin 16 × CtxId) :=
  let n : Fin 16 := ⟨leAt d 16 1 % 16, Nat.mod_lt _ (by decide)⟩
  let p := s.loop.probes[n]
  if p.gen.toNat = leAt d 16 1 / 16 then p.ctx.map fun c => (n, c) else none

/-- The entry with its target as it now is: that of a PROBE_STOP is the context in which its probe runs (R364). -/
def State.live (s : State) (e : JEntry) : JEntry :=
  match if e.opcode = 0x14 then s.namedProbe (s.desc e.slot) else none with
  | some p => { e with targetIndex := BitVec.ofNat 8 p.2.val }
  | none => e

/-- An accepted entry that a command overtakes on its target (R577). -/
def State.overtakes (s : State) (e x : JEntry) : Bool :=
  x.slot != e.slot && x.state == .accepted && (s.live x).meets e && asnAtOrAfter e.asn x.asn && x.asn != e.asn

/-- OOO set in every accepted entry that a command overtakes on its target; where a command with a region mask has been applied to some of its
regions already, these show it by O from then on (R577). -/
def markOvertaken (e : JEntry) (s : State) : State :=
  let part := s.rings.journal.filter fun x => s.overtakes e x && x.masked && !x.ooo
  s.modRings fun r =>
    { r with
      journal := r.journal.map fun x => if s.overtakes e x then { x with ooo := true } else x
      regionWords := Vector.ofFn fun q : RegionId =>
        part.foldl (fun w x => if x.targetClass = 2 ∧ x.regions.contains q ∧ (r.regionWords[q]).shows x then { w with o := x.asn } else w) r.regionWords[q] }

/-- The outcome record of a command (R363). -/
def outcomeRecord (asn : Word32) (st : Word16) (detail : Word32) (result : Word64) : List Byte :=
  leBytes 4 asn.toNat ++ leBytes 4 st.toNat ++ leBytes 8 detail.toNat ++ leBytes 8 result.toNat ++ leBytes 8 0

/-- STATUS and DETAIL of a command that ends with the given ones: LATE with its lateness in place of OK for an action whose at-time
had passed at acceptance (R348). -/
def State.lateStatus (s : State) (k : Slot) (st : Word16) (detail : Word32) : Word16 × Word32 :=
  match (s.workOf k).bind Work.late with
  | some l => if st = stOk then (stLate, l) else (st, detail)
  | none => (st, detail)

/-- Commands that may be in application for long: those that wait for a boundary, a session's end, a frame, a Weir or a
resynchronisation. -/
def longOpcode (op : Nat) : Bool := [0x05, 0x06, 0x12, 0x21, 0x30, 0x40, 0x41].contains op

/-- The replay has handled an entry's work: a command returned to the timed queue, or put into an application that lasts, is handled with that
(R367; notes/assumptions/134.md). -/
def Work.replayed (w : Work) (op : Nat) : Bool := w.handled || (longOpcode op && w.kind != .ready)

/-- The entry is one that a replay has returned to be applied and that it has not handled: not put into application, or like a frame at its port
not applied to its end. -/
def State.replayReady (s : State) (e : JEntry) : Bool :=
  match s.workOf e.slot with | some w => w.replay.isSome && !w.replayed e.opcode.toNat | none => false

/-- A replay posts the entry: SKIPPED, or RE_APPLIED by the replay itself. -/
def State.replayPosts (s : State) (e : JEntry) : Bool := s.rings.rePost.any fun p => p.slot == e.slot && !p.handled

/-- Replay runs: it has not handled every entry. A BARRIER returned waits in its place and holds up no replay (R347, R366, R367). -/
def State.replayRuns (s : State) : Bool :=
  s.rings.replaying || s.rings.journal.any fun e => e.opcode != 0x7F && (s.replayReady e || (s.replayPosts e && s.rings.finished.contains e.slot))

/-- An entry of lower ASN that a replay has returned is still to be applied: the replay takes the entries in ASN order (R367). -/
def State.replayBefore (s : State) (e : JEntry) : Bool :=
  s.rings.journal.any fun x => x.slot != e.slot && asnAtOrAfter e.asn x.asn && x.opcode != 0x7F && s.replayReady x

/-- A command reaches APPLIED. With an effect on its target: overtaken entries marked, the outcome record, the target's ASN word, then
STATUS, DETAIL and RESULT in the entry; without one (a failed check) only the latter (R361). The C-die's work ends; one re-applied counts in
REAPPLIED (R379). While the C-die is in reset nothing is finished: it holds no work (R366). -/
def finish (k : Slot) (st : Word16) (detail : Word32) (result : Word64) (effect : Bool) (s : State) : State :=
  match s.entry k with
  | none => s
  | some x =>
    let e := { x with ooo := s.overtaken x }
    let p := s.lateStatus k st detail
    let re := (s.workOf k).bind fun w => w.replay.map fun c => ({ slot := k, cause := c, reApplied := true, handled := w.replayed x.opcode.toNat } : RePost)
    let record (t : State) : State := if t.power.cRun then t.write 0x02 (outcomeAddr k) (outcomeRecord e.asn p.1 p.2 result) else t
    let s := if effect then recordTarget e (record (markOvertaken e s)) else s
    let s := dropWork k (modEntry k (fun x => { x with ooo := e.ooo, state := .applied, status := p.1, detail := p.2, result := result, doneAt := s.cTimeNs }) s)
    if s.power.cRun then s.modRings fun r => { r with finished := r.finished ++ [k], rePost := r.rePost ++ re.toList, reapplied := satAdd r.reapplied re.toList.length } else s

/-- A command done as asked, with a RESULT. -/
def finishOk (k : Slot) (result : Word64) (s : State) : State := finish k stOk 0 result true s

/-- A command that the P-die ends by itself: where the C-die holds no work for it, before the replay has returned it, the entry is left to the
replay (R366). -/
def finishHeld (k : Slot) (st : Word16) (detail : Word32) (result : Word64) (effect : Bool) (s : State) : State :=
  let t := finish k st detail result effect s
  if (s.workOf k).isSome then t else t.modRings fun r => { r with finished := r.finished.filter (· ≠ k) }

/-- A command that fails a check changes nothing else (R339, R361). -/
def finishFail (k : Slot) (st : Word16) (detail : Word32) (s : State) : State := finish k st detail 0 false s

/-! ## Order of application (R346, R347) -/

/-- The work has not finished its application: it still stands in its SQ's line or waits on its target. A REGION_COMMIT or NET_RX_POST
that has only to transfer or to be filled has finished it (R346). -/
def Work.unfinished (w : Work) : Bool := w.kind != .lent

/-- The SQs a barrier acts on: those of its mask and its own (R347). -/
def State.barrierMask (s : State) (e : JEntry) : Nat := leAt (s.desc e.slot) 16 1 ||| 2 ^ e.sq.val

/-- Whether accepted work x of lower ASN stands before entry e: an immediate command of the same SQ, or a BARRIER whose rings include
e's (R346, R347). -/
def State.standsBefore (s : State) (x e : JEntry) : Bool :=
  x.slot != e.slot && asnAtOrAfter e.asn x.asn && x.state == .accepted && !x.timed &&
    (match s.workOf x.slot with
    | some w => w.unfinished
    | none => false) &&
    (x.sq == e.sq || (x.opcode == 0x7F && (s.barrierMask x).testBit e.sq.val))

/-- An accepted immediate command that is free to start: its acceptance is acknowledged, the engine runs, the journal can be reached and
nothing stands before it (R346, R347, R360); a timed one whose AT_TIME passed during an interruption is applied by the replay as they are, and
what a replay has returned is applied in ASN order (R367). -/
def State.startable (s : State) (k : Slot) : Bool :=
  match s.entry k, s.workOf k with
  | some e, some w =>
    e.state == .accepted && (!e.timed || w.replay.isSome) && w.kind == .ready && !(s.rings.unacked.contains k) && s.ringsRun && s.pReach &&
      !s.rings.replaying && (s.rings.journal.all fun x => !s.standsBefore x e) && (w.replay.isNone || e.opcode == 0x7F || !s.replayBefore e)
  | _, _ => false

/-- Commands on one target that could be applied now are applied in ASN order: the target classes of contexts, regions, sessions, time,
pairing and faults (R346). -/
def State.targetWaits (s : State) (k : Slot) : Bool :=
  match s.entry k with
  | none => false
  | some e => s.rings.journal.any fun x =>
      x.slot != k && x.asn != e.asn && asnAtOrAfter e.asn x.asn && x.targetClass != 4 && x.targetClass != 5 && (s.live x).meets (s.live e) && s.startable x.slot

/-- An accepted immediate command whose turn has come (R346). -/
def State.turn (s : State) (k : Slot) : Bool := s.startable k && !s.targetWaits k

/-- The opcode of a slot's entry. -/
def State.opcodeOf (s : State) (k : Slot) : Nat := match s.entry k with | some e => e.opcode.toNat | none => 0xFFFF

/-- The row of an immediate command takes place: its opcode is the row's and its turn has come. -/
def State.mayApply (s : State) (k : Slot) (opcode : Nat) : Bool := s.opcodeOf k == opcode && s.turn k

/-! ## Host memory (R576) -/

/-- A posted write: issued while the link is up, else it waits (R576). -/
def hostWrite (addr : Word64) (data : List Byte) (s : State) : State :=
  s.modHost fun h =>
    if h.up && !h.endpointReset then { h with issued := ⟨addr, data⟩ :: h.issued }
    else { h with waiting := h.waiting ++ [⟨addr, data⟩] }

/-- A read of host memory issued (R576). -/
def hostRead (use : DmaUse) (addr : Word64) (s : State) : State :=
  s.modHost fun h =>
    { h with reads := h.reads ++ [{ id := h.nextId, use := use, addr := addr, issued := s.now }], nextId := h.nextId + 1 }

/-- Data of a command read from host memory, as it is applied; a read that runs is not issued again (R345, R576). -/
def fetchData (k : Slot) (addr : Word64) (s : State) : State :=
  if s.host.reads.any fun r => r.use == .command k then s else hostRead (.command k) addr s

/-- A 64-bit address from a LO and a HI register. -/
def State.addr64 (s : State) (lo hi : Nat) : Word64 := BitVec.ofNat 64 ((s.reg lo).toNat + 2 ^ 32 * (s.reg hi).toNat)

/-- Address of doorbell line n (R332). -/
def State.lineAddr (s : State) (n : Nat) : Word64 := s.addr64 rSysDbBaseLo rSysDbBaseHi + BitVec.ofNat 64 (64 * n)

/-- The buffer of a command operand lies in the context table, the descriptor area, the microcode copy or the outcome area: addresses
0 to 0x14FFFF (R162, R357, R363, R536). -/
def reservedSpan (addr : Nat) : Bool := decide (addr < 0x150000)

end Sys2Proof.Machine
end

