-- ==== Sys2Proof/Machine/SafCore.lean ====
section
/-!
DEFINITION. What the two safety channels judge from their inputs and faults, and what follows for the paths and outputs
(R464 to R488). The steps of the safety functions stand in SafetyFns.lean.
-/
namespace Sys2Proof.Machine

open Sys2Proof

/-- Index of a safety input in a channel's readings. -/
def SafInput.idx : SafInput → Fin 6
  | .inhA => 0 | .inhB => 1 | .covA => 2 | .covB => 3 | .fbA => 4 | .fbB => 5

/-- Index of a two-channel pair. -/
def SafPair.idx : SafPair → Fin 2
  | .inh => 0 | .cov => 1

/-- The two readings of a pair, true for no demand. -/
def SafChannel.readA (c : SafChannel) (p : SafPair) : Bool := match p with | .inh => c.inputs[0] | .cov => c.inputs[2]
def SafChannel.readB (c : SafChannel) (p : SafPair) : Bool := match p with | .inh => c.inputs[1] | .cov => c.inputs[3]

/-- The pair reads demand in the channel (R468, R469). -/
def SafChannel.pairDemand (c : SafChannel) (p : SafPair) : Bool := !c.readA p || !c.readB p || c.discFault[p.idx]

/-- The channel judges from the Seal on, when it has copied its parameters (R488). -/
def State.sf3Demand (s : State) (c : SafCh) : Bool := s.power.sealed && (s.saf.ch[c]).pairDemand .cov

/-- The channel demands SF1: its pair, SF3 (R475), an invalid parameter block (R488); for channel 1 also an absence beyond its limit
(R486). -/
def State.sf1Demand (s : State) (c : SafCh) : Bool :=
  s.power.sealed && ((s.saf.ch[c]).pairDemand .inh || s.sf3Demand c || !(s.saf.ch[c]).paramOk || (c == 0 && s.saf.ch2Timeout))


/-- CD_SAF is in regulation (R517). -/
def State.safPowered (s : State) : Bool := bitAt s.power.domOn 8
/-- PD_ISO is in regulation. -/
def State.isoPowered (s : State) : Bool := bitAt s.power.domOn 4

/-- Channel 2 is absent: the wire is decoded as absent (R485). -/
def State.ch2Absent (s : State) : Bool := s.saf.wire == .absent

/-- A discrepancy fault that channel 2 holds, in its absence too (R469, R470, R475). -/
def State.heldFault (s : State) (p : SafPair) : Bool := s.power.sealed && (s.saf.ch[1]).discFault[p.idx]

/-- SF1 demands in either channel: of an absent channel 2, which judges nothing, its discrepancy faults count (R470, R473, R475, R485). -/
def State.sf1 (s : State) : Bool :=
  s.sf1Demand 0 || (if s.ch2Absent then s.heldFault .inh || s.heldFault .cov else s.sf1Demand 1)
/-- SF3 demands in either channel (R475). -/
def State.sf3 (s : State) : Bool := s.sf3Demand 0 || (if s.ch2Absent then s.heldFault .cov else s.sf3Demand 1)

/-- The decoded wire state lets bias on: enable, or absent within the limit of R486 (R467). -/
def State.wireOk (s : State) : Bool := s.saf.wire == .enable || (s.ch2Absent && s.saf.absentSince.isSome && !s.saf.ch2Timeout)

/-- Both channels have passed the start-up test and no demand and no discrepancy fault holds in either, as paths that have acted are
lifted; a channel 2 that has not read its inputs again reads demand (R473, R474). -/
def State.mayEnable (s : State) : Bool :=
  (s.saf.ch[0]).startup && (s.saf.ch[1]).startup && !(s.sf1Demand 0 || s.sf1Demand 1) && !(s.sf3Demand 0 || s.sf3Demand 1)

/-- Channel 1 keeps path 1 acted: a demand, no Seal, an invalid block, no start-up test, a failed self-test, path 2 not following
(R465, R471, R472, R487, R488). -/
def State.path1Acts (s : State) : Bool :=
  let c := s.saf.ch[0]
  !s.power.sealed || s.sf1Demand 0 || !c.paramOk || !c.startup || !c.selfOk || s.saf.path2Fault

/-- The bias switches may be closed (R467, R474, R487). -/
def State.biasOk (s : State) : Bool :=
  let c := s.saf.ch[0]
  s.power.sealed && !s.sf1Demand 0 && c.paramOk && c.startup && c.selfOk && s.wireOk &&
    !s.saf.path1Fault && !s.saf.ch2NotFollowed && s.isoPowered && s.power.pRun

/-- Channel 2 runs the enable wave: it judges no demand, has passed its checks and its start-up test (R470, R472, R473, R487). -/
def State.waveOk (s : State) : Bool :=
  let c := s.saf.ch[1]
  s.power.sealed && s.power.cRun && s.safPowered && c.paramOk && c.startup && c.selfOk && !s.sf1Demand 1

/-- An SF2 fault holds on the output (R477, R481, R484, R487). -/
def State.sf2Fault (s : State) (o : SoId) : Bool :=
  let f := s.saf.so[o]
  f.overload || f.test || f.welded || f.notClosed || f.readback

/-- A welded or not-closed finding holds on either output: it de-energises both (R484; notes/assumptions/17.md). -/
def State.feedbackFault (s : State) : Bool :=
  s.saf.so[0].welded || s.saf.so[0].notClosed || s.saf.so[1].welded || s.saf.so[1].notClosed

/-- The on-request of an output (R478). -/
def State.soReq (s : State) (o : SoId) : Bool := (if o = 0 then s.saf.reqA else s.saf.reqB) && !s.pkgSafe

/-- The channel permits the safe outputs and DCH (R476, R478, R485, R486, R488). -/
def State.soPermit (s : State) (c : SafCh) : Bool :=
  s.power.sealed && (s.saf.ch[c]).paramOk && (s.saf.ch[c]).selfOk && !s.sf3Demand c && !s.saf.ch2Timeout &&
    (if c = 0 then s.power.pRun else s.safPowered)

/-- The channel wants its switch in an output closed (R478). -/
def State.soWant (s : State) (c : SafCh) (o : SoId) : Bool :=
  s.soReq o && s.soPermit c && !s.sf2Fault o && !s.feedbackFault

/-- An output is energised: both switches closed (R477). -/
def State.soOn (s : State) (o : SoId) : Bool := (s.saf.ch[0]).so[o] && (s.saf.ch[1]).so[o]

/-- DCH is energised (R476, R554). -/
def State.dchOn (s : State) : Bool := (s.saf.ch[0]).dch && (s.saf.ch[1]).dch && s.saf.dchOver.isNone && s.power.pRun

/-- CDRV is energised (R549, R554). -/
def State.cdrvOn (s : State) : Bool := s.drive && !s.pkgSafe && s.power.pRun && !s.cdrvOff

/-- The switches a channel drives in the outputs and DCH as its judgement now is: during a test pulse of the channel it closes no switch
and holds the tested ones open (R480, R483); channel 2 holds its switches while it is absent (R485, R486). -/
def State.chSwitches (s : State) (c : SafCh) : SafChannel :=
  let x := s.saf.ch[c]
  if c = 1 ∧ s.ch2Absent ∧ !s.saf.ch2Timeout then x
  else
    let busy := x.pulse[0] || x.pulse[1]
    let sw (o : SoId) : Bool := s.soWant c o && !x.pulse[o] && (x.so[o] || !busy)
    { x with so := #v[sw 0, sw 1], dch := s.soPermit c && (c == 1 || !s.pkgSafe) }

/-- The output is energised but for test pulses: both channels want their switches closed, an absent channel 2's switch stands as it holds
it (R480, R484, R485). -/
def State.soDemanded (s : State) (o : SoId) : Bool :=
  s.soWant 0 o && (if s.ch2Absent && !s.saf.ch2Timeout then (s.saf.ch[1]).so[o] else s.soWant 1 o)

/-- A fault of an output that ends with its on-request: not closed, or overload (R484). -/
def clearByRequest (o : SoId) (s : State) : State :=
  let f := s.saf.so[o]
  if (f.notClosed || f.overload) && !s.soReq o then
    let s := raise 177 evSf2Cleared (BitVec.ofNat 32 o.val) 0 (s.modSo o fun f => { f with notClosed := false, overload := false })
    let s := if (s.saf.so[0]).notClosed || (s.saf.so[1]).notClosed then s else unstand 177 evSf2NotClosed s
    if (s.saf.so[0]).overload || (s.saf.so[1]).overload then s else unstand 177 evSf2Overload s
  else s

/-- A channel's reading of an output's mirror contact (R468, R493). -/
def State.mirrorRead (s : State) (c : SafCh) (o : SoId) : Bool := if o = 0 then (s.saf.ch[c]).inputs[4] else (s.saf.ch[c]).inputs[5]

/-- The channels that are there read the mirror contact of an output closed: no demand on FB_A or FB_B (R468, R484, R485). -/
def State.mirrorClosed (s : State) (o : SoId) : Bool := s.mirrorRead 0 o && (s.ch2Absent || s.mirrorRead 1 o)

/-- The start of T_FB of an output: its last change but for test pulses, of which one may delay its energising; and since when its mirror
contact has read closed with the on-request clear (R483, R484). -/
def noteOutput (o : SoId) (s : State) : State :=
  let e := s.soDemanded o && ((s.saf.so[o]).energised || s.soOn o)
  let quiet := s.mirrorClosed o && !s.soReq o
  s.modSo o fun f =>
    { f with
      energised := e, changedAt := if f.energised = e then f.changedAt else s.now
      clearSince := if quiet then (if f.clearSince.isSome then f.clearSince else some s.now) else none }

/-- An off-demand of an output: its on-request clear, SF3, or a channel that withdraws its permit (R479). -/
def State.offDemand (s : State) (o : SoId) : Bool :=
  !s.soReq o || !s.soPermit 0 || !(s.soPermit 1 || (s.ch2Absent && !s.saf.ch2Timeout))

/-- A test pulse that an off-demand reaches is abandoned (R482). -/
def abandonTests (s : State) : State :=
  forAll (fun (c : SafCh) t => forAll (fun (o : SoId) t =>
    if (t.saf.ch[c]).pulse[o] && t.offDemand o then
      raise 177 evSf2Abandoned 0 0
        ((t.modSafCh c fun x => { x with pulse := upd x.pulse o fun _ => false }).modSaf fun f => { f with abandon := satInc f.abandon })
    else t) t) s

/-- The start of channel 1's own demand, from which the other path's checks count (R487). -/
def noteDemand (s : State) : State :=
  let d := s.sf1Demand 0
  s.modSaf fun f => { f with demandAt := if d then (if f.demandAt.isSome then f.demandAt else some s.now) else none }

/-- A SF1 or SF3 demand that begins or ends is reported (R470, R475, R492). -/
def reportDemands (s : State) : State :=
  let a := s.sf1
  let b := s.sf3
  let s := if a = s.saf.sf1Reported then s
    else (raise 176 (if a then evSf1Demand else evSf1Ended) 0 0 s).modSaf fun f => { f with sf1Reported := a }
  if b = s.saf.sf3Reported then s
  else (raise 178 (if b then evSf3Open else evSf3Closed) 0 0 s).modSaf fun f => { f with sf3Reported := b }

/-- Path 1 acts where channel 1 keeps it acted; it is lifted only by GATE_ENABLE (R465, R474). -/
def settlePath1 (s : State) : State := s.modSaf fun f => { f with wave := s.waveOk, path1Block := f.path1Block || s.path1Acts }

/-- Bias is permitted: kept where it was, restored only as R474 lets it (R467, R474). -/
def State.biasNow (s : State) : Bool := s.biasOk && (s.saf.biasPermit || s.mayEnable)

/-- Path 2 brought to what the channels judge, with the tick at which bias came back (R467, R474). -/
def settlePath2 (s : State) : State :=
  s.modSaf fun f =>
    { f with biasPermit := s.biasNow, biasAt := if s.biasNow then (if f.biasPermit then f.biasAt else some s.now) else none }

/-- The switches of both channels brought to what they judge (R476 to R483). -/
def settleSwitches (s : State) : State := s.modSaf fun f => { f with ch := #v[s.chSwitches 0, s.chSwitches 1] }

/-- The paths and outputs brought to what the channels now judge. -/
def settleSaf (s : State) : State :=
  let s := abandonTests (clearByRequest 1 (clearByRequest 0 (noteDemand (reportDemands s))))
  noteOutput 1 (noteOutput 0 (settleSwitches (settlePath2 (settlePath1 s))))

end Sys2Proof.Machine
end

