-- ==== Sys2Proof/Machine/Settle.lean ====
section
/-!
DEFINITION. What a change of holds brings with it: the device state (R528, R529), the safety paths, RECOVERY (R219), the shadow windows
(R451), the gates of held units (R199, R213, R220). Every step that can begin or end a hold ends with `settle`.
-/
namespace Sys2Proof.Machine

open Sys2Proof

/-- A force bit cleared: the condition it made present ends (R458). -/
def unforce (k : SourceId) (s : State) : State :=
  s.modSrc k fun f => if f.force then { f with force := false }.quietFrom s.now else f

/-- Every force bit cleared, as on entry to READY, RUN or SAFE (R459). -/
def clearForces (s : State) : State := forAll unforce s

/-- The region leaves TEST: the force bits of its sources clear (R459). -/
def leaveTest (r : RegionId) (s : State) : State :=
  if s.regions[r].phase = .test then forAll (fun k t => if t.srcCovers k r && srcObj k != .none then unforce k t else t) s else s

/-- Values written to the shadow set and not transferred are discarded (R579). -/
def Island.discard (i : Island) : Island :=
  { i with shCmp := i.actCmp, shPhase := i.actPhase, shCmpNew := false, shPhaseNew := false, haveCmp := false, started := false }

/-- The regions of a PAIR_SWAP's mask. -/
def State.swapMask (s : State) (k : Slot) : List RegionId := maskRegions (leAt (s.desc k) 16 1)

/-- No boundary of a waiting PAIR_SWAP's mask has come. -/
def State.swapWhole (s : State) (k : Slot) : Bool := (s.swapMask k).all fun q => (s.regions[q].swapReq).contains k

/-- A waiting PAIR_SWAP ends for its whole mask: nothing has changed, and it completes with STATE (R430). -/
def failSwap (k : Slot) (s : State) : State :=
  finish k stState 0 0 false (forAll (fun q t => t.modRegion q fun g => { g with swapReq := g.swapReq.filter (· ≠ k) }) s)

/-- A PAIR_SWAP no longer waits for region r. It completes when no region of its mask still waits, with the boundary count that the outcome record
of its last swap holds (R363, R430). -/
def endSwap (r : RegionId) (k : Slot) (s : State) : State :=
  let s := s.modRegion r fun g => { g with swapReq := g.swapReq.filter (· ≠ k) }
  if (List.finRange 8).any fun q => (s.regions[q].swapReq).contains k then s
  else finishOk k (BitVec.ofNat 64 (ofLe (s.bytes (outcomeAddr k + 16) 8))) s

/-- A waiting PAIR_SWAP as a region of its mask stops: with the first one it changes nothing, once some region has swapped the others go on
(R361, R430; notes/assumptions/136.md). -/
def stopSwap (r : RegionId) (k : Slot) (s : State) : State := if s.swapWhole k then failSwap k s else endSwap r k s

/-- A region stops: phase OFF, the carrier stopped, pending commits discarded, at which they reach APPLIED with STATE, a REGION_MODE that waits for
its boundary completed with STATE, as is a PAIR_SWAP of which no region has swapped (R218, R361, R430, R529, R532, R579). -/
def stopRegion (r : RegionId) (s : State) : State :=
  let s := leaveTest r s
  let g := s.regions[r]
  let s := forList (fun k t => finishHeld k stState 0 0 true t) g.commits s
  let s := forList (fun p t => finish p.2 stState 0 0 false t) g.modeReqs s
  let s := forList (stopSwap r) g.swapReq s
  let s := forList (fun i t => t.modIsland i Island.discard) (s.islandsOf r) s
  let s := s.modPairRegion r fun p => { p with standby := .absent, copies := [], probation := [], wanted := false, matching := 0 }
  s.modRegion r fun g =>
    { g with phase := .off, lastBoundary := none, triggered := false, recLeft := none, modeReqs := [], offReq := false, commits := [],
             nextHold := none, nextDrive := none, tripReported := false, tripped := false }

/-- Entry to a device state: force bits clear on entry to READY, RUN and SAFE (R459); on entry to SAFE every region goes to OFF at once
(R529). The debug block closes on leaving SERVICE (R574). -/
def enterDev (d : DevState) (s : State) : State :=
  let s := if s.power.dev = .service ∧ d ≠ .service then closeDebug s else s
  let s := s.modPower fun p => { p with dev := d }
  let s := if d = .ready ∨ d = .run ∨ d = .safe then clearForces s else s
  if d = .safe then forAll (fun r t => if t.regions[r].phase = .off then t else stopRegion r t) s else s

/-- Every region is in OFF. -/
def State.allOff (s : State) : Bool := (List.finRange 8).all fun r => s.regions[r].phase == .off

/-- No region is in a phase other than OFF but those that LEAVE_SERVICE takes to OFF at their next boundary (R528, R529). -/
def State.noneStarted (s : State) : Bool := (List.finRange 8).all fun r => s.regions[r].phase == .off || s.regions[r].offReq

/-- The changes of device state that R528 lets happen by themselves; READY needs the Seal (R331; notes/assumptions/106.md), and SAFE lasts
while a new package-safe event falls in its last tick (R532). -/
def settleDev (s : State) : State :=
  match s.power.dev with
  | .ready => if s.pkgSafeHeld then enterDev .safe s else if s.noneStarted then s else enterDev .run s
  | .run => if s.pkgSafeHeld then enterDev .safe s else if s.allOff then enterDev .ready s else s
  | .safe => if s.pkgSafeHeld || s.safeComing || !s.power.sealed then s else enterDev .ready s
  | _ => s

/-- One entry where it holds. -/
def entryIf (b : Bool) (x : Nat × BitVec 8) : List (Nat × BitVec 8) := if b then [x] else []

/-- The reactions of region inhibit or wider that hold a region, each with a number of its own and the cause its window keeps: those of sources,
the fixed ones of R442 with the source of their event, path 1, package safe and phase OFF as reactions with no source (R215, R437, R451, R471). -/
def State.regionReactions (s : State) (r : RegionId) : List (Nat × BitVec 8) :=
  let g := s.regions[r]
  ((s.activeSrcs.filter fun k => s.inhibitBy r k || s.latchBy r k).map fun k => (k.val, BitVec.ofNat 8 k.val)) ++
    entryIf g.tripLatch (192, BitVec.ofNat 8 (72 + r.val)) ++ entryIf g.lossInhibit (193, BitVec.ofNat 8 (72 + r.val)) ++
    entryIf g.sourceInhibit (194, 151) ++ entryIf g.copyInhibit (195, BitVec.ofNat 8 (112 + r.val)) ++
    entryIf s.saf.path1Block (196, 0xFF) ++ entryIf s.pkgSafe (197, 0xFF) ++ entryIf (g.phase == .off) (198, 0xFF)

/-- The reactions of island off or wider that hold an island: its own sources, the removal of bias by path 2, those of its region (R19, R451). -/
def State.islandReactions (s : State) (i : IslandId) : List (Nat × BitVec 8) :=
  ((s.activeSrcs.filter (s.islandOffBy i)).map fun k => (k.val, BitVec.ofNat 8 k.val)) ++ entryIf (!s.saf.biasPermit) (199, 0xFD) ++
    (match s.regionOf i with | some r => s.regionReactions r | none => [])

/-- A window opened at each start and each end of a reaction on an object, with the cause of the first of them (R451). -/
def openWindows (o : ShadowObj) (was is : List (Nat × BitVec 8)) (s : State) : State :=
  match (is.filter fun x => !was.contains x) ++ was.filter fun x => !is.contains x with
  | [] => s
  | x :: _ => openShadow o (some (s.now + windowLen o)) x.2 s

/-- Windows and RECOVERY of a region whose holds have changed from `s0` to `s`, and the quiet period of a region whose latching trip sources
no longer assert; the tick in which they begin to is kept (R219, R444, R445, R449, R451). REC_PERIODS counts boundaries
(notes/assumptions/165.md). -/
def settleRegion (s0 : State) (r : RegionId) (s : State) : State :=
  let s := openWindows (.region r) (s0.regionReactions r) (s.regionReactions r) s
  let s := if s0.latchTripPresent r && !s.latchTripPresent r then s.modSrc (srcRegion r) fun f => f.quietFrom s.now else s
  let s := if !s0.latchTripPresent r && s.latchTripPresent r then s.modRegion r fun g => { g with latchAt := s.now } else s
  if s0.recoveryHold r && !s.recoveryHold r && s.regions[r].phase == .run then
    s.modRegion r fun g => { g with phase := .recovery, recLeft := some (s.rf (rPwmTripcfg r) 8 16), tripCnt := 0 }
  else s

/-- An island's bias switch may be closed: bias permitted, the island assigned to a region, no block reset running (R258, R467, R518). -/
def State.biasWanted (s : State) (i : IslandId) : Bool :=
  s.saf.biasPermit && s.isoPowered && (s.regionOf i).isSome && (s.islands[i]).resetAt.isNone

/-- Windows of an island, the block reset that an island off asks for, and its bias switch opened where bias is no longer wanted
(R258, R451, R462, R465, R467). -/
def settleIsland (s0 : State) (i : IslandId) (s : State) : State :=
  let s := openWindows (.island i) (s0.islandReactions i) (s.islandReactions i) s
  let off (t : State) : Bool := t.activeSrcs.any (t.islandOffBy i)
  let s := if !off s0 && off s && s.rb (rEvtCfg (48 + i.val)) 7 then s.modIsland i fun x => { x with resetReq := true } else s
  if s.biasWanted i then s
  else s.modIsland i fun x => if x.bias then { x with bias := false, ready := false, startAt := none } else x

/-- A trip, a unit-off or island-off reaction or a hold of the region acts on the unit, which clears the carries of its island (R213). -/
def State.clearsCarry (s : State) (u : UnitId) : Bool :=
  s.reactionCovers u || s.units[u].tripCyc != 0 || s.units[u].tripLatch != 0 ||
    (match s.regionOf (islandOf u) with | some r => s.regionHeld r | none => false)

/-- The other unit of the island. -/
def mate (u : UnitId) : UnitId := if isHigh u then unitL (islandOf u) else unitH (islandOf u)

/-- A unit's command ended and its edges of the period dropped, which leaves it off at the period's end (R199); with the command ends the
arming of its detector, and a detection of the same tick still counts (R248, R251). -/
def dropCommand (u : UnitId) (s : State) : State :=
  s.modUnit u fun x =>
    { x with cmdOn := false, edges := [], offAtEnd := true, armed := false, armedOff := if x.armed then some s.now else x.armedOff }

/-- A unit that a hold keeps off: its gate off. A hold before the island also ends its command (R199, R220); a hold of the region, a
reaction or a trip clears both carries of the island besides and lets the unit resume only at an island wrap (R210, R213). -/
def settleUnit (u : UnitId) (s : State) : State :=
  let clears := s.clearsCarry u
  let s := if !s.unitHeld u then s
    else s.modUnit u fun x => { x with gate := false }
  let s := if !s.cmdStops u then s else (dropCommand u s).modUnit u fun x => { x with waitWrap := x.waitWrap || clears }
  if clears || s.clearsCarry (mate u) then s.modUnit u fun x => { x with carry := 0 } else s

/-- Holds that end at an island wrap end at once while the carrier is stopped (R210). -/
def endStopped (u : UnitId) (s : State) : State :=
  let i := islandOf u
  let x := s.units[u]
  let runs := match s.regionOf i with | some r => s.regions[r].phase != .off | none => false
  if runs || !(x.tripCyc != 0 || x.desatHold || x.uvloHeld || x.testHold || s.islands[i].linkHold) then s
  else
    let testing := (s.islands[i]).testLeft.any fun n => n == comparator u false || n == comparator u true
    (s.modIsland i fun y => { y with linkHold := y.linkHold && !y.link }).modUnit u fun x =>
      { x with
        tripCyc := BitVec.ofNat 16 (((List.finRange 16).filter fun n => x.tripCyc.getLsbD n.val && s.tripActive[n]).foldl (fun a n => a + 2 ^ n.val) 0)
        desatHold := x.desatHold && x.softOff.isSome
        uvloHeld := x.uvlo
        testHold := x.testHold && testing }

/-- A unit's gate given a value. -/
def setGate (u : UnitId) (on : Bool) (s : State) : State := s.modUnit u fun x => { x with gate := on }

/-- The gates of an island from its two commands: with both on the interlock holds both off; else each follows its command (R242). -/
def gateIsland (i : IslandId) (s : State) : State :=
  let h := unitH i
  let l := unitL i
  let both := s.units[h].cmdOn && s.units[l].cmdOn
  let s := setGate l (s.units[l].cmdOn && !both && !s.unitHeld l) (setGate h (s.units[h].cmdOn && !both && !s.unitHeld h) s)
  if both then s else s.modIsland i fun x => { x with ilkActive := false }

/-- An island's gates follow at once where a command has gone off by a hold (R242). -/
def settleGates (i : IslandId) (s : State) : State :=
  let both := s.units[unitH i].cmdOn && s.units[unitL i].cmdOn
  let stale (u : UnitId) : Bool := s.units[u].gate != (s.units[u].cmdOn && !both && !s.unitHeld u)
  if stale (unitH i) || stale (unitL i) || ((s.islands[i]).ilkActive && !both) then gateIsland i s else s

/-- A trip source whose inputs no longer assert is no longer active (R221). -/
def dropTrips (s : State) : State :=
  { s with tripActive := Vector.ofFn fun n : TripId => s.tripActive[n] && s.tripInput n }

/-- The regions of which a unit has changed state, counted for FREEZE_N (R152). -/
def countSwitched (s0 s : State) : State :=
  forAll (fun (r : RegionId) t =>
    if (List.finRange 48).any fun u => s.units[u].gate != s0.units[u].gate && s.regionOf (islandOf u) == some r then
      t.modLoop fun p => { p with switched := upd p.switched r (· + 1) }
    else t) s

/-- The state after a step whose happening took `s0` to `s`. -/
def settle (s0 s : State) : State :=
  let s := settleSaf (settleDev (dropTrips s))
  let s := forAll (settleRegion s0) s
  let s := forAll (settleIsland s0) s
  let s := forAll settleUnit (forAll endStopped s)
  countSwitched s0 (forAll settleGates s)

end Sys2Proof.Machine
end

