-- ==== Sys2Proof/Machine/Gate.lean ====
section
/-!
DEFINITION. The host's access to BAR0 (R568) and what a write to a register word stores (R6 to R8, R571, R573).
-/
namespace Sys2Proof.Machine

open Sys2Proof

/-- The host's accesses arrive: the package is awake, the PCIe link up and the endpoint out of reset (R527, R541, R576). -/
def State.hostReaches (s : State) : Bool := s.awake && s.host.up && !s.host.endpointReset

/-- The value a read with a side effect returned (R286, R397, R410, R545). -/
def readAs (v : Word32) (s : State) : State := s.modHost fun h => { h with readValue := v }

/-- A host access to a register of a die: during a C-die reset a read returns all ones and a write is dropped; an access to a P-die
register waits while the link is down or the P-die in reset (R568). -/
def hostAccess (die : Die) (off : Nat) (v : Word32) (read : Bool) (op : State → State) (s : State) : State :=
  if !s.hostReaches then s
  else if !s.power.cRun then (if read then readAs 0xFFFFFFFF s else s)
  else if die = .c || s.pReach then op s
  else s.modHost fun h => { h with accesses := h.accesses ++ [{ off := off, read := read, value := v, arrived := s.now }] }

/-- A host write of a word, with what follows from it. -/
def hostWord (die : Die) (off : Nat) (v : Word32) (op : State → State) (s : State) : State :=
  hostAccess die off v false (fun t => settle t (op t)) s

/-- "RWS write after the Seal" (R7); it carries no item (R355, R437). -/
def rwsWritten (s : State) : State := raise 136 evRingRwsWrite 0 0 s

/-- A word stored in a register and, after the Seal, in the Seal record (R571). -/
def keepWord (off : Nat) (w : Word32) (s : State) : State :=
  let t := s.setReg off w
  if s.power.sealed then { t with sealRecord := put resetWord t.sealRecord off w } else t

/-- A word written to a register with RW and RWS fields: RWS fields only before the Seal (R6, R7; notes/assumptions/156.md); a write that would
have changed one after it raises the WARN event once. The registers of reserved sources ignore writes (R434). -/
def writeWord (off : Nat) (v : Word32) (s : State) : State :=
  match regRow off with
  | none => s
  | some r =>
    let old := s.reg off
    let m := if s.power.sealed then r.rw else r.rw ||| r.rws
    let new := storedWord off ((old &&& ~~~m) ||| (v &&& m))
    let s := if new = old then s else keepWord off new s
    if s.power.sealed && !reservedReg off && ((v ^^^ old) &&& r.rws) != 0 then rwsWritten s else s

end Sys2Proof.Machine
end

