-- ==== Sys2Proof/Machine/CtxCore.lean ====
section
/-!
DEFINITION. A context's entry as the Loop Engine sees it (R162 to R170): header, slots, parameters and state words, read through the
cache, which keeps state words and VALUE fields not yet written back (R173, R178).
-/
namespace Sys2Proof.Machine

open Sys2Proof

/-- The cache entry of a context, if it is resident (R173). -/
def State.cacheOf (s : State) (c : CtxId) : Option CacheEntry := s.loop.cache.find? fun e => e.ctx == c

/-- The context is resident. -/
def State.resident (s : State) (c : CtxId) : Bool := (s.cacheOf c).isSome

/-- A byte of a context's entry as it stands (R178, R182). -/
def State.ctxByte (s : State) (c : CtxId) (off : Nat) : Byte :=
  match (s.cacheOf c).bind fun e => e.overlay.lookup off with
  | some b => b
  | none => s.byte (ctxAddr c + off)

/-- Bytes of a context's entry. -/
def State.ctxBytes (s : State) (c : CtxId) (off n : Nat) : List Byte := (List.range n).map fun i => s.ctxByte c (off + i)

/-- A little-endian field of a context's entry. -/
def State.ctxNat (s : State) (c : CtxId) (off n : Nat) : Nat := ofLe (s.ctxBytes c off n)

/-- A key put into an ordered list of offset and byte pairs. -/
def insByte : List (Nat × Byte) → Nat → Byte → List (Nat × Byte)
  | [], k, b => [(k, b)]
  | (j, c) :: t, k, b => if k < j then (k, b) :: (j, c) :: t else if k = j then (k, b) :: t else (j, c) :: insByte t k b

/-- Bytes put into an ordered list from an offset on. -/
def insBytes (l : List (Nat × Byte)) (off : Nat) : List Byte → List (Nat × Byte)
  | [] => l
  | b :: t => insBytes (insByte l off b) (off + 1) t

/-- Device-written bytes of state words or VALUE fields: into the cache where the context is resident, else into package memory
(R178, R181). -/
def putCtx (c : CtxId) (off : Nat) (l : List Byte) (s : State) : State :=
  if s.resident c then
    s.modLoop fun p => { p with cache := p.cache.map fun e => if e.ctx = c then { e with overlay := insBytes e.overlay off l } else e }
  else s.write 0x00 (ctxAddr c + off) l

/-- Bytes of the header, the I/O map or the parameters: written through to package memory, any cached copy of them dropped (R178). -/
def throughCtx (c : CtxId) (off : Nat) (l : List Byte) (s : State) : State :=
  (s.modLoop fun p =>
    { p with cache := p.cache.map fun e =>
        if e.ctx = c then { e with overlay := e.overlay.filter fun x => !(decide (off ≤ x.1) && decide (x.1 < off + l.length)) } else e }).write 0x00
    (ctxAddr c + off) l

/-- What a context keeps beside its state words goes with a write-back (R178; notes/assumptions/100.md). -/
def saveRt (c : CtxId) (s : State) : State := s.modLoop fun p => { p with rtSaved := upd p.rtSaved c fun _ => p.rt[c] }

/-- The bytes of a context not yet written back are written back (R178). -/
def writeBack (c : CtxId) (s : State) : State :=
  match s.cacheOf c with
  | none => s
  | some e =>
    saveRt c ((forList (fun x t => t.write 0x00 (ctxAddr c + x.1) [x.2]) e.overlay s).modLoop fun p =>
      { p with cache := p.cache.map fun x => if x.ctx = c then { x with overlay := [] } else x })

/-- What a C-die reset leaves of that: nothing of a run in progress, of a prefetch or of a detector's count is kept, and a kept START is an entry of the
journal that the replay brings back (R178, R366). -/
def CtxRt.afterReset (x : CtxRt) : CtxRt :=
  { x with
    released := false, inPeriod := false, prevIn := [], prevLinks := {}, links := {}, vals := [], fb := x.fb.map fun f => { cls := f.cls }
    seen := [], prefetching := false, beyond := false, seqr := { x.seqr with kept := [] } }

/-! ## Header (R165) -/

def State.ctxTemplate (s : State) (c : CtxId) : Nat := s.ctxNat c 0 1
def State.ctxPin (s : State) (c : CtxId) : Bool := (s.ctxNat c 1 1).testBit 0
def State.ctxBound (s : State) (c : CtxId) : Bool := (s.ctxNat c 1 1).testBit 1
/-- The region a context is bound to. -/
def State.ctxRegion (s : State) (c : CtxId) : Option RegionId := if s.ctxBound c then regionNo (s.ctxNat c 2 1 % 8) else none
/-- STATE [2:0]: 0 disabled, 1 enabled, 2 held for lost feedback, 3 region open-loop. -/
def State.ctxState (s : State) (c : CtxId) : Nat := s.ctxNat c 3 1 % 8
def State.ctxEnabled (s : State) (c : CtxId) : Bool := s.ctxState c != 0
def State.ctxDivider (s : State) (c : CtxId) : Nat := s.ctxNat c 4 2
def State.ctxUcode (s : State) (c : CtxId) : Nat := s.ctxNat c 6 2
def State.ctxSB (s : State) (c : CtxId) : Nat := s.ctxNat c 12 4
def State.ctxVLL (s : State) (c : CtxId) : Nat := s.ctxNat c 16 2
def State.ctxFB (s : State) (c : CtxId) : Nat := s.ctxNat c 18 1
def State.ctxUB (s : State) (c : CtxId) : Nat := s.ctxNat c 20 2
def State.ctxCost (s : State) (c : CtxId) : Nat := s.ctxNat c 22 2
/-- Flags of lost input slots. -/
def State.ctxLost (s : State) (c : CtxId) : Nat := s.ctxNat c 34 2
/-- Boundary or slot count of the last release, low 32 bits. -/
def State.ctxLastRelease (s : State) (c : CtxId) : Nat := s.ctxNat c 36 4

/-- STATE written in the header (R165, R178). -/
def setCtxState (c : CtxId) (v : Nat) (s : State) : State :=
  throughCtx c 3 [BitVec.ofNat 8 (s.ctxNat c 3 1 / 8 * 8 + v % 8)] s

/-- A 16-bit count of the header stepped, saturating. -/
def stepCtx16 (c : CtxId) (off : Nat) (s : State) : State :=
  throughCtx c off (leBytes 2 (min 0xFFFF (s.ctxNat c off 2 + 1))) s

/-- A 32-bit count of the header stepped; it wraps. -/
def stepCtx32 (c : CtxId) (off : Nat) (s : State) : State := throughCtx c off (leBytes 4 ((s.ctxNat c off 4 + 1) % 2 ^ 32)) s

/-! ## Slots, parameters, state words (R166 to R170) -/

/-- SOURCE of an input slot (R117, R166). -/
def State.inSource (s : State) (c : CtxId) (n : Nat) : Nat := s.ctxNat c (0x40 + 8 * n) 2
def State.inLo (s : State) (c : CtxId) (n : Nat) : Int := sx 16 (s.ctxNat c (0x42 + 8 * n) 2)
def State.inHi (s : State) (c : CtxId) (n : Nat) : Int := sx 16 (s.ctxNat c (0x44 + 8 * n) 2)
/-- FB_CLASS of an input slot. -/
def State.inClass (s : State) (c : CtxId) (n : Nat) : Nat := s.ctxNat c (0x46 + 8 * n) 1 % 4
def State.inRangeN (s : State) (c : CtxId) (n : Nat) : Nat := s.ctxNat c (0x46 + 8 * n) 1 / 16
def State.inFreezeN (s : State) (c : CtxId) (n : Nat) : Nat := s.ctxNat c (0x47 + 8 * n) 1

/-- DEST KIND of an output slot: 0 internal, 1 island duty, 2 island phase offset, 3 discrete (R167). -/
def State.outKind (s : State) (c : CtxId) (n : Nat) : Nat := s.ctxNat c (0xC0 + 8 * n) 2 / 2 ^ 14
def State.outIndex (s : State) (c : CtxId) (n : Nat) : Nat := s.ctxNat c (0xC0 + 8 * n) 2 % 32
/-- VALUE of an output slot. -/
def State.outVal (s : State) (c : CtxId) (n : Nat) : Word16 := BitVec.ofNat 16 (s.ctxNat c (0xC2 + 8 * n) 2)
def setOutVal (c : CtxId) (n : Nat) (v : Word16) (s : State) : State := putCtx c (0xC2 + 8 * n) (leBytes 2 v.toNat) s

/-- A parameter word (R169). -/
def State.paramWord (s : State) (c : CtxId) (k : Nat) : Nat := s.ctxNat c (0x100 + 4 * k) 4
/-- Mantissa of a parameter. -/
def State.paramM (s : State) (c : CtxId) (k : Nat) : Int := sx 16 (s.paramWord c k)
/-- Shift of a parameter. -/
def State.paramS (s : State) (c : CtxId) (k : Nat) : Int := sx 5 (s.paramWord c k / 2 ^ 16)
/-- An "int" parameter. -/
def State.paramInt (s : State) (c : CtxId) (k : Nat) : Nat := s.paramWord c k % 2 ^ 16

/-- A state word as a signed number (R170). -/
def State.sw (s : State) (c : CtxId) (k : Nat) : Int := sx 64 (s.ctxNat c (0x400 + 8 * k) 8)
/-- A state word as a 64-bit number. -/
def State.swBits (s : State) (c : CtxId) (k : Nat) : Nat := s.ctxNat c (0x400 + 8 * k) 8
/-- A state word written. -/
def setSw (c : CtxId) (k : Nat) (v : Int) (s : State) : State :=
  putCtx c (0x400 + 8 * k) (leBytes 8 (BitVec.ofInt 64 v).toNat) s

/-! ## Contexts together -/

/-- The enabled contexts, rising. -/
def State.enabledCtxs (s : State) : List CtxId := (List.finRange 256).filter fun c => s.ctxEnabled c

/-- The enabled contexts of a template. -/
def State.enabledOfTemplate (s : State) (t : Nat) : List CtxId := s.enabledCtxs.filter fun c => s.ctxTemplate c == t

/-- The enabled contexts bound to a region. -/
def State.ctxsOf (s : State) (r : RegionId) : List CtxId := s.enabledCtxs.filter fun c => s.ctxRegion c == some r

/-- The context writes a duty, phase or discrete output (R110). -/
def State.writesOut (s : State) (c : CtxId) : Bool := (List.range 8).any fun n => s.outKind c n != 0

/-- Enabled contexts write the destination `kind`, `index` (R168, R209). -/
def State.destWriters (s : State) (kind index : Nat) : List CtxId :=
  s.enabledCtxs.filter fun c => (List.range 8).any fun n => s.outKind c n == kind && s.outIndex c n == index

/-- The event source of a context (R160). -/
def State.srcOf (s : State) (c : CtxId) : SourceId := srcCtx (s.ctxRegion c)

/-- "Bus feedback lost" as a condition of a source ends when no enabled sequencer of it finds its feedback lost (R93, R444). -/
def settleBusFb (k : SourceId) (s : State) : State :=
  if (List.finRange 256).any fun c => s.ctxEnabled c && s.srcOf c == k && ((s.loop.rt[c]).seqr).warned then s else unstand k evCtxBusFbLost s

end Sys2Proof.Machine
end

