-- ==== Sys2Proof/Machine/Confluence.lean ====
section
/-!
DEFINITION. Commits to a region's shadow set (R200 to R207) and the Confluence receiver of a paired region (R421 to R426).
-/
namespace Sys2Proof.Machine

open Sys2Proof

/-! ## Pairing of letters (R411) -/

/-- Region r is a local paired region: a letter set in both masks is neither (R411). -/
def State.isPaired (s : State) (r : RegionId) : Bool := s.rb rPairCfg 0 && s.rb rPairCfg (8 + r.val) && !s.rb rPairCfg (16 + r.val)

/-- Letter r is a mirror region (R411). -/
def State.isMirror (s : State) (r : RegionId) : Bool := s.rb rPairCfg 0 && s.rb rPairCfg (16 + r.val) && !s.rb rPairCfg (8 + r.val)

/-- The partner region that mirror letter r copies (R411). -/
def State.mirrorOf (s : State) (r : RegionId) : RegionId := ⟨s.rf rPairMirrorMap (3 * r.val) 3, by
  simp only [State.rf, fld]; exact Nat.mod_lt _ (by decide)⟩

/-- The region's carrier runs (R215). -/
def State.carrierRuns (s : State) (r : RegionId) : Bool := s.regions[r].phase != .off

/-- The region's next boundary tick, while its carrier runs (R195). -/
def State.nextBoundary (s : State) (r : RegionId) : Option Nat := s.regions[r].lastBoundary.map fun t => t + s.period r / 10

/-! ## The set that releases (R266, R283) -/

def State.adcMode (s : State) (b : BankId) : Nat := s.rf (rAdcCtrl b) 0 2
def State.adcSrc (s : State) (b : BankId) : Nat := s.rf (rAdcCtrl b) 4 4

/-- The bank whose set carries a region's RELEASE: the largest DELAY, then the highest number (R283). -/
def State.releaseBank (s : State) (r : RegionId) : Option BankId :=
  (List.finRange 4).foldl (fun best b =>
    if s.adcMode b = 1 ∧ s.adcSrc b = r.val then
      (match best with
      | none => some b
      | some c => if s.rf (rAdcDelay c) 0 16 ≤ s.rf (rAdcDelay b) 0 16 then some b else some c)
    else best) none

/-! ## Commits (R200, R204, R206, R207) -/

/-- One entry of a commit written to its island's shadows; where two commits pending for the transfer write a value, one is counted as replaced,
and the value stays where entries `above` of commits of higher ASN have written it (R207, R346). -/
def writeEntry (r : RegionId) (above : List CommitEntry) (e : CommitEntry) (s : State) : State :=
  let i := s.islands[e.island]
  let keepCmp := above.any fun x => x.island == e.island && x.cmp.isSome
  let keepPhase := above.any fun x => x.island == e.island && x.phase.isSome
  let p := s.period r
  let replaced := b2n (e.cmp.isSome && i.shCmpNew) + b2n (e.phase.isSome && i.shPhaseNew)
  let clipped := match e.cmp with | some c => decide (p ≤ c.toNat) && c != 0xFFFFFF | none => false
  let s := s.modRegion r fun g =>
    { g with replacedCnt := satAdd g.replacedCnt replaced, clipCnt := satAdd g.clipCnt (b2n clipped) }
  s.modIsland e.island fun i =>
    { i with
      shCmp := if keepCmp then i.shCmp else e.cmp.getD i.shCmp
      shCmpNew := i.shCmpNew || e.cmp.isSome
      shPhase := if keepPhase then i.shPhase
        else (e.phase.map fun f => BitVec.ofNat 24 (if p = 0 then f.toNat else f.toNat % p)).getD i.shPhase
      shPhaseNew := i.shPhaseNew || e.phase.isSome }

/-- The present tick is the region's boundary tick. -/
def State.inBoundaryTick (s : State) (r : RegionId) : Bool := s.regions[r].lastBoundary == some s.now

/-- A commit of values: all together, below the entries `above` of commits of higher ASN; one that completes in the boundary tick is counted as
late (R204, R206, R346). -/
def writeCommit (r : RegionId) (above l : List CommitEntry) (late : Bool) (s : State) : State :=
  let s := if late && s.inBoundaryTick r then s.modRegion r fun g => { g with lateCnt := satInc g.lateCnt } else s
  forList (writeEntry r above) l s

/-- What a frame of region r with contactor-drive value v says of the drive: nothing where another region's context writes it, 0 where no
enabled context does (R110). -/
def State.frameDrive (s : State) (r : RegionId) (v : Bool) : Option Bool :=
  let w := s.destWriters 3 0
  if w.isEmpty then some false else if w.any fun c => s.ctxRegion c == some r then some v else none

/-- An accepted duty frame: its values to the shadow set, its discrete values to the next transfer, its INHIBIT request in force
(R154, R168, R204, R423). -/
def commitFrame (f : DutyFrame) (late : Bool) (s : State) : State :=
  (writeCommit f.region [] f.entries (late && !f.entries.isEmpty) s).modRegion f.region fun g =>
    { g with nextHold := some f.hold, nextDrive := (f.drive.bind (s.frameDrive f.region)).or g.nextDrive, copyInhibit := f.inhibit }

/-! ## Duty copies (R417, R421, R422) -/

/-- The body of a duty copy: its entries lie as those of REGION_COMMIT, their fields in network byte order (R5, R417). -/
def dutyBody (f : DutyFrame) : List Byte :=
  let flags := b2n f.inhibit + 2 * b2n f.hold + 4 * b2n (f.drive.getD false)
  beBytes 1 f.entries.length ++ beBytes 1 flags ++ beBytes 2 0 ++
    f.entries.flatMap fun e =>
      beBytes 1 e.island.val ++ beBytes 1 (b2n e.cmp.isSome + 2 * b2n e.phase.isSome) ++
        beBytes 3 (e.cmp.getD 0).toNat ++ beBytes 3 (e.phase.getD 0).toNat

/-- One 8-byte entry of REGION_COMMIT's layout, its fields read by `num` (R344). -/
def parseEntryBy (num : List Byte → Nat) (l : List Byte) : Option CommitEntry :=
  let i := leAt l 0 1
  let v := leAt l 1 1
  if h : i < 24 then
    some { island := ⟨i, h⟩
           cmp := if v.testBit 0 then some (BitVec.ofNat 24 (num (bytesAt l 2 3))) else none
           phase := if v.testBit 1 then some (BitVec.ofNat 24 (num (bytesAt l 5 3))) else none }
  else none

/-- An entry of a descriptor: little-endian (R5). -/
def parseEntry (l : List Byte) : Option CommitEntry := parseEntryBy ofLe l

/-- The frame that a duty copy's body spells (R417). -/
def parseBody (r : RegionId) (seq : Word32) (l : List Byte) : DutyFrame :=
  let n := min 24 (leAt l 0 1)
  let f := leAt l 1 1
  { region := r, seq := seq - 2
    entries := (List.range n).filterMap fun j => parseEntryBy ofBe (bytesAt l (4 + 8 * j) 8)
    inhibit := f.testBit 0, hold := f.testBit 1, drive := some (f.testBit 2) }

/-- Copies of the die count as a source of duties: a SYNCED standby's unless it has failed, and the active die's unless it has failed
while a SYNCED standby takes its place at the next boundary; with no such standby the active die holds the only valid state
(R424 to R426; notes/assumptions/47.md). -/
def PairRegion.counts (p : PairRegion) (partner : Bool) : Bool :=
  let failed := if partner then p.partnerFailed else p.localFailed
  if p.partnerActive == partner then !failed || p.standby != .synced else !failed && p.standby == .synced

/-- Something rate-limited to once per second has not been raised within the last second. -/
def State.onceSecond (s : State) (last : Option Nat) : Bool := match last with | none => true | some t => decide (t + sTicks 1 ≤ s.now)

/-- A stale or invalid duty copy is discarded and counted (R421, R432). -/
def staleCopy (s : State) : State :=
  let s := s.modPair fun p => { p with stale := satInc p.stale }
  if s.onceSecond s.pair.staleEvent then
    (raise 151 evConfStale 0 0 s).modPair fun p => { p with staleEvent := some s.now }
  else s

/-- Copies of a sequence number that differ: the first stands; divergence, and a resynchronisation of the standby (R422, R429). The
standby is no longer SYNCED; a local one holds no valid state. -/
def diverge (r : RegionId) (seq : Word32) (s : State) : State :=
  let s := raise 151 evConfDivergence (BitVec.ofNat 32 r.val) seq (s.modPair fun p => { p with diverge := satInc p.diverge })
  s.modPairRegion r fun p =>
    { p with
      wanted := true, matching := 0, standby := if p.standby = .synced then .resync else p.standby
      held := p.held && !p.partnerActive, resyncAt := p.resyncAt.or (some s.now) }

/-- The epoch of a resynchronisation is discarded and a new one asked for; after three the resynchronisation fails (R429). -/
def discardEpoch (r : RegionId) (s : State) : State :=
  let s := raise 152 evResyncDiscarded 0 0
    (s.modPair fun p => { p with epochsDiscarded := satInc p.epochsDiscarded })
  s.modPairRegion r fun p =>
    { p with discarded := p.discarded + 1, chunks := [], matching := 0, wanted := true, held := p.held && !(p.partnerActive || s.isMirror r) }

/-- PAIR_RESYNC commands none of whose regions still waits complete with the last epoch (R431). -/
def finishResync (k : Slot) (s : State) : State :=
  if (List.finRange 8).any fun q => (s.pair.regions[q]).resyncCmd == some k then s
  else finishOk k (s.pair.epoch.setWidth 64) s

/-- A match of a die in probation; after 64 consecutive sequence numbers the receiver is SYNCED (R428). -/
def probationMatch (r : RegionId) (seq : Word32) (s : State) : State :=
  let s := s.modPairRegion r fun p => { p with matching := if seq = p.lastMatch + 1 then p.matching + 1 else 1, lastMatch := seq }
  let p := s.pair.regions[r]
  if p.matching < 64 then s
  else
    let s := raise 152 evResyncDone (BitVec.ofNat 32 p.rxEpoch.toNat) 0 (s.modPair fun x => { x with epoch := p.rxEpoch })
    let s := s.modPairRegion r fun p =>
      { p with standby := .synced, matching := 0, discarded := 0, held := true, localFailed := false, partnerFailed := false, resyncAt := none
               resyncCmd := none, probation := [] }
    match p.resyncCmd with | some k => finishResync k s | none => s

/-- The first valid copy of a sequence number accepted: written now if its boundary is the next one, else at the first tick after the
boundary before it (R421). -/
def acceptCopy (r : RegionId) (seq : Word32) (body : List Byte) (partner : Bool) (s : State) : State :=
  let now := seq = s.regions[r].bcount + 1
  let s := if now then commitFrame (parseBody r seq body) false s else s
  s.modPairRegion r fun p =>
    { p with copies := p.copies ++ [{ seq := seq, body := body, fromLocal := !partner, fromPartner := partner, written := now }] }

/-- A valid copy of a sequence number has come from a die, which the referee judges by: of a die in probation too (R424). -/
def creditCopy (r : RegionId) (seq : Word32) (partner : Bool) (s : State) : State :=
  s.modPairRegion r fun p =>
    { p with copies := p.copies.map fun (c : DutyCopy) =>
        if c.seq = seq then { c with fromLocal := c.fromLocal || !partner, fromPartner := c.fromPartner || partner } else c }

/-- A copy that counts: the first of its sequence number is accepted, a later one compared; a copy of the die in probation that came
earlier is compared too (R421, R422, R428). -/
def countedCopy (r : RegionId) (seq : Word32) (body : List Byte) (partner : Bool) (s : State) : State :=
  let s := s.modPairRegion r fun p =>
    if partner then { p with partnerFailed := false } else { p with localFailed := false }
  let s :=
    match (s.pair.regions[r]).copies.find? fun c : DutyCopy => c.seq == seq with
    | none => acceptCopy r seq body partner s
    | some c =>
      let s := creditCopy r seq partner s
      if c.body = body then s else diverge r seq s
  match (s.pair.regions[r]).probation.find? fun x => x.1 == seq with
  | none => s
  | some x =>
    let s := creditCopy r seq (!partner) (s.modPairRegion r fun p => { p with probation := p.probation.filter fun y => y.1 != seq })
    if x.2 = body then probationMatch r seq s else discardEpoch r (diverge r seq s)

/-- A copy of the die that is being resynchronised, which sends none before it has caught up: one that answers a period after the
snapshot's is compared (R428, R429). A die that was absent and sends copies has returned from failure (R427). -/
def uncountedCopy (r : RegionId) (seq : Word32) (body : List Byte) (partner : Bool) (s : State) : State :=
  let p := s.pair.regions[r]
  if p.standby = .absent then (if p.resyncAt.isNone then s.modPairRegion r fun p => { p with wanted := true } else s)
  else if p.standby = .resync ∧ !p.wanted ∧ decide (0 < (seq - 2 - p.snapCount).toNat ∧ (seq - 2 - p.snapCount).toNat < 2 ^ 31) then
    match p.copies.find? fun c => c.seq == seq with
    | none => s.modPairRegion r fun p => { p with probation := p.probation ++ [(seq, body)] }
    | some c =>
      let s := creditCopy r seq partner s
      if c.body = body then probationMatch r seq s else discardEpoch r (diverge r seq s)
  else s

/-- Count of the region's last boundary as Confluence judges a copy: a boundary that falls into this tick has come (R421). -/
def State.copyCount (s : State) (r : RegionId) : Word32 :=
  match s.nextBoundary r with
  | some t => if t ≤ s.now then s.regions[r].bcount + 1 else s.regions[r].bcount
  | none => s.regions[r].bcount

/-- The copy of a sequence number is neither stale nor too early: it is one of the next two (R421). -/
def State.copyDue (s : State) (r : RegionId) (seq : Word32) : Bool :=
  s.carrierRuns r && (seq == s.copyCount r + 1 || seq == s.copyCount r + 2)

/-- A duty copy of region r arrives at Confluence from the local or the partner die (R421, R422, R424, R428). -/
def receiveCopy (r : RegionId) (seq : Word32) (body : List Byte) (partner : Bool) (s : State) : State :=
  if !s.copyDue r seq then staleCopy s
  else if (s.pair.regions[r]).counts partner then countedCopy r seq body partner s
  else uncountedCopy r seq body partner s

end Sys2Proof.Machine
end

