-- ==== Sys2Proof/Machine/MrCore.lean ====
section
/-!
DEFINITION. What the P-die and the C-die hand to the Millrace link (R12 to R17), and the pair frames a P-die sends (R383, R391, R416,
R417). The link's steps stand in Millrace.lean, the ports' in Net.lean.
-/
namespace Sys2Proof.Machine

open Sys2Proof

/-! ## Frames (R12, R281, R303) -/

/-- The bytes of a sample set (R281), its fields in network byte order: the same string stands in a pair frame (R5, R417;
notes/assumptions/108.md). -/
def SampleSet.bytes (x : SampleSet) : List Byte :=
  leBytes 1 (x.bank.val + 4 * x.kind.toNat + 16 * b2n x.ovr + 32 * b2n x.latched + 64 * b2n x.release) ++
    leBytes 1 (x.region.val + 8 * b2n x.regionValid) ++ beBytes 2 x.mask.toNat ++ beBytes 2 x.owMask.toNat ++ beBytes 2 0 ++
    beBytes 4 x.count.toNat ++ x.results.flatMap fun w => beBytes 2 w.toNat

/-- The bytes of a frame of chain outputs (R303). -/
def ChainFrame.bytes (f : ChainFrame) : List Byte :=
  leBytes 1 (f.chain.val + 16 * b2n f.valid) ++ leBytes 3 f.first.toNat ++ f.outputs.flatMap fun w => leBytes 2 w.toNat

/-- The kind of a payload, which the frame type codes. -/
def Payload.kind : Payload → Nat
  | .samples _ => 0 | .duty _ => 1 | .chain _ => 2 | .notice _ => 3

/-- The bytes of a payload: sample sets and chain outputs as R281, R284 and R303 lay them out; the rest in a layout of the model's own
(notes/assumptions/108.md). -/
def Payload.bytes : Payload → List Byte
  | .samples l => l.flatMap SampleSet.bytes
  | .chain f => f.bytes
  | .duty f =>
    leBytes 1 f.region.val ++ leBytes 1 (b2n f.inhibit + 2 * b2n f.hold + 4 * b2n f.drive.isSome + 8 * b2n (f.drive.getD false)) ++
      leBytes 4 f.seq.toNat ++ f.entries.flatMap fun e =>
        leBytes 1 e.island.val ++ leBytes 1 (b2n e.cmp.isSome + 2 * b2n e.phase.isSome) ++ leBytes 3 (e.cmp.getD 0).toNat ++
          leBytes 3 (e.phase.getD 0).toNat
  | .notice n =>
    leBytes 1 n.unit.val ++ leBytes 8 n.time.toNat ++ n.setCounts.flatMap (fun w => leBytes 4 w.toNat) ++
      n.outIndexes.flatMap fun w => leBytes 4 w.toNat

/-- Header and payload of a frame (R12). -/
def MrFrame.body (f : MrFrame) : List Byte :=
  let p := f.payload.bytes
  leBytes 1 (f.vc.val + 4 * (Config.frameType f.payload.kind).toNat) ++ leBytes 2 f.seq.toNat ++ leBytes 2 p.length ++ leBytes 3 0 ++ p

/-- A frame as it is sent: its CRC-32 behind it, inverted where an injection says so (R12, R457). -/
def MrFrame.bytes (f : MrFrame) : List Byte :=
  let c := crc32 f.body
  f.body ++ leBytes 4 (if f.invert = 0 then c else ~~~c).toNat

/-- Bytes with an error pattern, as far as it reaches. -/
def xorBytes : List Byte → List Byte → List Byte
  | b :: l, e :: t => (b ^^^ e) :: xorBytes l t
  | l, _ => l

/-- Received CRC XOR computed CRC of a frame that the wire has changed by an error pattern: 0 where the check passes (R15, R454). -/
def MrFrame.crcDiff (f : MrFrame) (err : List Byte) : Word32 :=
  let y := xorBytes f.bytes err
  let n := y.length - 4
  BitVec.ofNat 32 (ofLe (y.drop n)) ^^^ crc32 (y.take n)

/-! ## What is handed to the link (R13, R17) -/

/-- The session runs: armed or triggered. -/
def Session.active (x : Session) : Bool := x.state == .armed || x.state == .triggered

/-- A sample set that a session's stream consists of (R313). -/
def Session.takes (x : Session) (y : SampleSet) : Bool := x.active && !x.chains && x.bank == y.bank && y.kind != 2 && y.kind != 3

/-- An instant at or after a session's arm instant (R315). -/
def State.sinceArm (s : State) (x : Session) (tick : Nat) : Bool := decide (x.armTick ≤ tick) && decide (x.atTime.toNat ≤ (s.timeNsAt tick).toNat)

/-- With TRIGGER 0xF the arm instant, that of the stream's first sample since, recorded or lost, is the trigger instant (R315). -/
def Session.startedAt (x : Session) (t : Word64) : Session :=
  if x.lastId.isNone && x.lost.isEmpty && x.trigger == 15 then { x with trigTime := t } else x

/-- The position of a chain's output before the session has taken any: no frame tells of it any more (R315, R322). -/
def State.losesOutput (s : State) (x : Session) (n : ChainId) (id : Word32) (tick : Nat) : Bool :=
  x.active && x.chains && bitAt x.mask n.val && x.lastId.isNone && s.sinceArm x tick && !x.lost.contains id

/-- Chain outputs are lost on the link: gaps of the sessions that record the chain. Those behind a session's first output show by their
indexes; those between its arm instant and its first output are noted (R17, R322). -/
def loseChain (f : ChainFrame) (s : State) : State :=
  forList (fun p t =>
    let id : Word32 := f.first + BitVec.ofNat 32 p.2
    forAll (fun (k : SessId) u => u.modSess k fun x => if u.losesOutput x f.chain id p.1 then { x.startedAt (u.timeNsAt p.1) with lost := x.lost ++ [id] } else x) t)
    f.ticks.zipIdx s

/-- A sample set is lost on the link: a gap of the sessions that record its bank (R17, R322). -/
def loseSet (y : SampleSet) (s : State) : State :=
  forAll (fun (k : SessId) t => t.modSess k fun x =>
    if x.takes y && (x.lastId.isSome || !x.lost.isEmpty || t.sinceArm x y.tick) then
      { x.startedAt (t.timeNsAt y.tick) with lost := x.lost ++ [y.count] }
    else x) s

/-- A payload is lost on the link: what VC0, VC1 or VC3 carries is renewed or a gap (R17). -/
def losePayload (p : Payload) (s : State) : State :=
  match p with
  | .samples l => forList loseSet l s
  | .chain f => loseChain f s
  | .duty _ => s
  | .notice _ => s

/-- A notice that names set count n of bank b names the next one: no regular or continuous set carries n (R309). -/
def Notice.renumber (b : BankId) (n : Word32) (x : Notice) : Notice :=
  { x with setCounts := x.setCounts.zipIdx.map fun p => if p.2 = b.val ∧ p.1 = n then n + 1 else p.1 }

/-- A frame with its notice renumbered. -/
def MrFrame.renumber (b : BankId) (n : Word32) (f : MrFrame) : MrFrame :=
  match f.payload with | .notice x => { f with payload := .notice (x.renumber b n) } | _ => f

/-- The count that the next regular set of a bank was to carry goes to an injected set, or its trigger is dropped: the notices under way, which
name the first regular set at or after their instant, follow (R309; notes/assumptions/154.md). -/
def renumber (b : BankId) (n : Word32) (s : State) : State :=
  let go (l : List MrFrame) : List MrFrame := l.map (MrFrame.renumber b n)
  let s := s.modMr .p fun m => { m with waiting := m.waiting.map go, sent := go m.sent, again := go m.again, wire := go m.wire }
  let s := s.modEvents fun v => { v with trgWait := v.trgWait.map (Notice.renumber b n) }
  forAll (fun (k : SessId) t => t.modSess k fun x => { x with notices := x.notices.map (Notice.renumber b n) }) s

/-- A payload put behind those waiting on its virtual channel; lost while the link is down or the die does not run (R17). -/
def mrSend (d : Die) (vc : Fin 4) (p : Payload) (s : State) : State :=
  if s.pReach && s.power.cRun then
    s.modMr d fun m => { m with waiting := m.waiting.set vc.val (m.waiting[vc] ++ [{ vc := vc, payload := p }]) vc.isLt }
  else losePayload p s

/-! ## Ethernet frames (R383, R391) -/

/-- Six address bytes of a LO and a HI register, in transmission order (R409, R433). -/
def State.macOf (s : State) (lo hi : Nat) : List Byte := leBytes 4 (s.reg lo).toNat ++ leBytes 2 (s.rf hi 0 16)

/-- The station address (R381). -/
def State.mac (s : State) : List Byte := s.macOf rNetMacLo rNetMacHi

/-- The partner's station address (R411). -/
def State.partnerMac (s : State) : List Byte := s.macOf rPairPartnerLo rPairPartnerHi

/-- The EtherType of a frame, after an 802.1Q tag if it has one, and the length of what stands before the payload. -/
def etherType (l : List Byte) : Nat × Nat :=
  let e := ofBe (bytesAt l 12 2)
  if e = 0x8100 then (ofBe (bytesAt l 16 2), 18) else (e, 14)

/-- A frame padded to 60 bytes (R387). -/
def padFrame (l : List Byte) : List Byte := l ++ List.replicate (60 - l.length) 0

/-- A padded frame with its redundancy control trailer for a port (R383). -/
def withRct (l : List Byte) (seq : Word16) (p : PortId) : List Byte :=
  let lsdu := l.length - (etherType l).2 + 6
  l ++ beBytes 2 seq.toNat ++ beBytes 2 ((10 + p.val) * 4096 + lsdu % 4096) ++ beBytes 2 0x88FB

/-- A pair frame of a type that goes before others within a port (R416). -/
def TxFrame.first (f : TxFrame) : Bool := let t := leAt f.bytes 18 1; t == 1 || t == 2

/-- A pair frame behind those that go before it. -/
def insPair : List TxFrame → TxFrame → List TxFrame
  | [], f => [f]
  | x :: t, f => if f.first && !x.first then f :: x :: t else x :: insPair t f

/-- PD_NET is in regulation and the P-die out of reset. -/
def State.netRuns (s : State) : Bool := s.power.pRun && bitAt s.power.domOn 3

/-- The payload of a pair frame: header, body, CRC (R416). -/
def pairPayload (type : Nat) (r : RegionId) (seq : Word32) (body : List Byte) : List Byte :=
  let l := beBytes 1 type ++ beBytes 1 r.val ++ beBytes 2 body.length ++ beBytes 4 seq.toNat ++ body
  l ++ beBytes 4 (crc32 l).toNat

/-- A pair frame handed to both ports that have link (R391, R416). -/
def pairSend (type : Nat) (r : RegionId) (seq : Word32) (body : List Byte) (s : State) : State :=
  if !s.netRuns || !s.rb rPairCfg 0 then s else
  let l := padFrame (s.partnerMac ++ s.mac ++ beBytes 2 0x8100 ++ beBytes 2 (7 * 8192 + s.rf rNetPairCfg 16 12) ++
    beBytes 2 (s.rf rNetPairCfg 0 16) ++ pairPayload type r seq body)
  let n := s.net.prpSeq
  let s := s.modNet fun x => { x with prpSeq := n + 1 }
  forAll (fun (p : PortId) t => t.modPort p fun q =>
    if q.link then { q with pairQ := insPair q.pairQ { bytes := withRct l n p, pair := true } } else q) s

end Sys2Proof.Machine
end

