-- ==== Sys2Proof/Machine/Filter.lean ====
section
/-!
DEFINITION. Filter chains and trigger units (R295 to R309). Capture stands in Capture.lean.
-/
namespace Sys2Proof.Machine

open Sys2Proof

/-! ## One chain's stages (R296 to R302) -/

/-- A chain's settings as its stages use them. `h p t` is tap t of phase p, with phase 64 as R301 says. -/
structure ChainCfg where
  n : Nat
  rank : Nat
  dcEn : Bool
  k : Nat
  freeze : Bool
  r : Nat
  taps : List Int
  shift : Int
  inc : Int
  h : Nat → Nat → Int
  hShift : Int
  delta : Int
  stepTh : Int

/-- A number put into a rising list. -/
def insInt : List Int → Int → List Int
  | [], x => [x]
  | y :: t, x => if x ≤ y then x :: y :: t else y :: insInt t x

/-- Stage 1: the value of rank RANK among the last n inputs (R296). -/
def rankStage (n rank : Nat) (hist : List Int) (x : Int) : Int × List Int :=
  let w := (x :: hist).take n
  let full := w ++ List.replicate (n - w.length) 0
  ((full.foldl insInt []).getD rank 0, w)

/-- The CIC's registers after one input: four integrators in series that wrap; exact for every R (R297; notes/assumptions/28.md). -/
def integrate : List (BitVec 80) → BitVec 80 → List (BitVec 80)
  | [], _ => []
  | a :: t, x => (a + x) :: integrate t (a + x)

/-- Four combs in series: the output and the new delays (R296, R297). -/
def combs : List (BitVec 80) → BitVec 80 → BitVec 80 × List (BitVec 80)
  | [], x => (x, [])
  | d :: t, x => let q := combs t (x - d); (q.1, x :: q.2)

/-- A sum of taps over a history, each product exact and each sum saturated (R297). -/
def tapSum : List Int → List Int → Int → Int → Int
  | c :: cs, x :: xs, s, a => tapSum cs xs s (accAdd a (mulTap x c s))
  | _, _, _, a => a

/-- A chain restarts: counts to zero, the skew taken anew; for causes 0 and 1 the histories too (R298, R299, R302). -/
def Chain.begin (c : Chain) (g : ChainCfg) (cause : Fin 5) (x : Int) : Chain :=
  let c := { c with
    cause := cause, restart := none, restartCnt := satInc c.restartCnt, taken := [0, 0, 0, 0, 0], settle := 0, settled := false
    delta := g.delta }
  if cause.val ≤ 1 then
    { c with rank := [], dc := loadSig x, integ := [0, 0, 0, 0], comb := [0, 0, 0, 0], cicCount := 0, comp := [], resamp := [] }
  else c

/-- The restart that a sample brings, if any: one that waits, a gap of the set counts or an OVR, a step (R298). -/
def Chain.restartAt (c : Chain) (g : ChainCfg) (x : Int) (count : Word32) (ovr : Bool) : Option (Fin 5) :=
  match c.restart with
  | some r => some r
  | none =>
    if ovr || (match c.prevCount with | some n => count != n + 1 | none => false) then some 4
    else match c.prevX with
      | some y => if g.stepTh ≠ 0 ∧ g.stepTh < (x - y).natAbs then some 3 else none
      | none => none

/-- Stage 5 as far as the CIC outputs reach: outputs in accumulator units, oldest first (R301). -/
def Chain.resample (g : ChainCfg) : Nat → Chain → Chain × List Int
  | 0, c => (c, [])
  | fuel + 1, c =>
    let tau := c.tau + g.inc
    let te := tau - c.delta
    let i : Int := te / 2 ^ 24
    if (c.cicIndex : Int) < i then (c, [])
    else
      let f : Nat := (te % 2 ^ 24).toNat
      let p : Nat := f / 2 ^ 18
      let w : Int := ((f % 2 ^ 18 : Nat) : Int)
      let xs := (c.resamp.drop ((c.cicIndex : Int) - i).toNat).take 16
      let a := tapSum ((List.range 16).map (g.h p)) xs g.hShift 0
      let b := tapSum ((List.range 16).map (g.h (p + 1))) xs g.hShift 0
      let y := sat40 (((2 ^ 18 - w) * a + w * b) / 2 ^ 18)
      let q := Chain.resample g fuel { c with tau := tau }
      (q.1, y :: q.2)

/-- One input sample through stages 1 to 5: the outputs that it completes, and whether they are valid (R296 to R301). -/
def Chain.input (c : Chain) (g : ChainCfg) (x : Int) (count : Word32) (ovr : Bool) : Chain × List Int × Bool :=
  let c := match c.restartAt g x count ovr with | some r => c.begin g r x | none => c
  let c := { c with prevX := some x, prevCount := some count, frozen := g.freeze }
  let take (j : Nat) (v : Bool) : Nat := c.taken.getD j 0 + b2n v
  let s1 := rankStage g.n g.rank c.rank x
  let t1 := take 0 true
  let v1 := decide (g.n ≤ t1)
  let a := loadSig s1.1
  let y2 := if g.dcEn then sat40 (a - c.dc) else a
  let dc := if g.dcEn && !g.freeze then sat40 (c.dc + (a - c.dc) / 2 ^ g.k) else c.dc
  let t2 := take 1 v1
  let v2 := v1 && decide ((if g.dcEn && !g.freeze then 2 ^ (g.k + 2) else 1) ≤ t2)
  let t3 := take 2 v2
  let v3 := v2 && decide (4 * g.r ≤ t3)
  let integ := integrate c.integ (BitVec.ofInt 80 y2)
  let due := decide (g.r ≤ c.cicCount + 1)
  let c := { c with rank := s1.2, dc := dc, integ := integ, cicCount := if due then 0 else c.cicCount + 1 }
  if !due then ({ c with taken := [t1, t2, t3, c.taken.getD 3 0, c.taken.getD 4 0] }, [], false)
  else
    let q := combs c.comb (integ.getD 3 0)
    let y3 := if g.r = 1 then y2 else sat40 (q.1.toInt / 2 ^ ceilLog2 (g.r ^ 4))
    let comp := (y3 :: c.comp).take 64
    let y4 := tapSum g.taps comp g.shift 0
    let t4 := take 3 v3
    let v4 := v3 && decide (g.taps.length ≤ t4)
    let t5 := take 4 v4
    let v5 := v4 && decide (16 ≤ t5)
    let c := { c with
      comb := q.2, comp := comp, resamp := (y4 :: c.resamp).take 24, cicIndex := c.cicIndex + 1, taken := [t1, t2, t3, t4, t5] }
    let o := Chain.resample g 4 c
    (o.1, o.2, v5)

/-! ## A chain's settings from its registers (R324, R325) -/

/-- T_in: ticks between the sets of a channel's bank (R295). -/
def State.setInterval (s : State) (b : BankId) : Nat :=
  let w := s.reg (rAdcCtrl b)
  if fld w 0 2 = 2 then 40 * (fld w 8 8 + 1)
  else match regionNo (fld w 4 4) with
    | some r => s.period r / 10
    | none => s.rf (rAdcTimer b) 0 24

/-- The bank of a channel (R262). -/
def bankOf (c : ChanId) : BankId := ⟨c.val / 16, by omega⟩

/-- The channel of a chain. -/
def State.chainChan (s : State) (n : ChainId) : ChanId :=
  ⟨s.rf (rFltSrc n) 0 6, by simp only [State.rf, fld]; exact Nat.mod_lt _ (by decide)⟩

/-- CIC ratio of a chain. -/
def State.chainR (s : State) (n : ChainId) : Nat := s.rf (rFltCfg n) 14 10 + 1

/-- Tap h[p][t] of a resampler bank, h[64][t] being h[0][t - 1] (R301, R325). -/
def State.rsTap (s : State) (bank p t : Nat) : Int :=
  let at16 (k : Nat) : Int := sx 16 (s.rf (rFltRsb bank (k / 2)) (16 * (k % 2)) 16)
  if p < 64 then at16 (16 * p + t) else if t = 0 then 0 else at16 (t - 1)

/-- The skew of R302, in units of 2^-24 of a CIC output interval. -/
def State.chainDelta (s : State) (n : ChainId) : Int :=
  let c := s.chainChan n
  let ps := (Config.fltSkew c).toInt + sx 16 (s.rf (rFltDelay n) 0 16)
  roundConv (ps * 2 ^ 24) (2500 * s.chainR n * s.setInterval (bankOf c))

/-- The settings of chain n. -/
def State.chainCfg (s : State) (n : ChainId) : ChainCfg :=
  let w := s.reg (rFltCfg n)
  let bank := fld w 31 1
  { n := 2 * fld w 1 3 + 1, rank := fld w 4 4, dcEn := bitAt w 8, k := fld w 9 5, freeze := s.rb (rFltSrc n) 6, r := s.chainR n
    taps := (List.range (fld w 24 7)).map fun t => sx 16 (s.rf (rFltComp n (t / 2)) (16 * (t % 2)) 16)
    shift := sx 5 (s.rf (rFltCfg2 n) 0 5), inc := s.rf (rFltInc n) 0 32, h := s.rsTap bank
    hShift := sx 5 (s.rf rFltRsbCtrl (8 * bank) 5), delta := s.chainDelta n, stepTh := s.rf (rFltCfg2 n) 16 16 }

/-! ## Trigger units (R304 to R309) -/

/-- Condition of a sample, and the unit with its history and primed state after it (R305). DIR 0b11 acts as 0b00. -/
def TrigUnit.eval (t : TrigUnit) (kind dir : Nat) (ua : Nat) (b : Int) (span : Nat) (x : Int) : Bool × TrigUnit :=
  let a := sx 16 ua
  let up := dir != 1
  let down := dir == 1 || dir == 2
  let t' := { t with hist := (x :: t.hist).take 255 }
  match kind with
  | 1 => ((up && decide (a ≤ x)) || (down && decide (x ≤ a)), t')
  | 2 =>
    let fu := t.primedUp && decide (a ≤ x)
    let fd := t.primedDown && decide (x ≤ a)
    ((up && fu) || (down && fd),
      { t' with primedUp := decide (x < a - b) || (t.primedUp && !fu), primedDown := decide (a + b < x) || (t.primedDown && !fd) })
  | 3 =>
    match t.hist with
    | [] => (false, t')
    | y :: _ =>
      let inX := decide (a ≤ x) && decide (x ≤ b)
      let inY := decide (a ≤ y) && decide (y ≤ b)
      ((up && inY && !inX) || (down && !inY && inX), t')
  | 4 =>
    match t.hist[span - 1]? with
    | none => (false, t')
    | some y => ((up && decide ((ua : Int) ≤ x - y)) || (down && decide (x - y ≤ -(ua : Int))), t')
  | _ => (false, t')

/-- Fires made known: the event of each, at most one a millisecond, and its notice on VC3 (R309, R323). What such an event itself fires is made
known with the next. -/
def trgWaiting (s : State) : State :=
  forList (fun (n : Notice) t =>
    let t := if t.onceMs t.trigs[n.unit].lastEvent then
        (raise (srcTrig n.unit) evTrigFired (BitVec.ofNat 32 n.unit.val) 0 t).modTrig n.unit fun x => { x with lastEvent := some t.now }
      else t
    mrSend .p 3 (.notice n) t) s.events.trgWait (s.modEvents fun v => { v with trgWait := [] })

/-- One sample of a unit's input (R305, R307). -/
def trgSample (u : TrigId) (x : Int) (tick : Nat) (s : State) : State :=
  let s := trgTake u s
  let w := s.reg (rCapTrgCtrl u)
  let th := s.reg (rCapTrgTh u)
  let q := s.trigs[u].eval (fld w 0 3) (fld w 3 2) (fld th 0 16) (sx 16 (fld th 16 16)) (s.rf (rCapTrgPar u) 0 8) x
  let p := trgStep u q.1 (s.modTrig u fun _ => q.2)
  if p.1 then trgWaiting (fire 8 u tick p.2) else p.2

/-- The units that watch a channel or a chain (R304). -/
def State.watchers (s : State) (chain : Bool) (n : Nat) : List TrigId :=
  (List.finRange 8).filter fun u =>
    let w := s.reg (rCapTrgCtrl u)
    decide (1 ≤ fld w 0 3) && decide (fld w 0 3 ≤ 4) && bitAt w 7 == chain && (fld w 8 6) % (if chain then 16 else 64) == n

/-- A sample of a channel or chain at the units that watch it. -/
def trgInput (chain : Bool) (n : Nat) (x : Int) (tick : Nat) (s : State) : State :=
  forList (fun u t => trgSample u x tick t) (s.watchers chain n) s

/-- A suppressed chain output is not evaluated; the history starts again at the next valid one (R304). -/
def trgGap (n : Nat) (s : State) : State :=
  forList (fun u t => (trgTake u t).modTrig u fun x => { x with hist := [], primedUp := false, primedDown := false }) (s.watchers true n) s

/-- A write to a register of a trigger unit: it takes effect at the next input sample; an event or combine unit, or one that is off,
takes it at once (R306, R308; notes/assumptions/27.md). -/
def writeTrg (u : TrigId) (off : Nat) (v : Word32) (s : State) : State :=
  let s := (writeWord off v s).modTrig u fun t => { t with written := true }
  let bad := s.trgInvalid u
  let s := if bad && !s.trigs[u].cfgErr then raise (srcTrig u) evTrigCfgInvalid (BitVec.ofNat 32 u.val) 0 s else s
  let s := s.modTrig u fun t => { t with cfgErr := bad }
  if 1 ≤ s.trgKind u ∧ s.trgKind u ≤ 4 then s else trgTake u s

/-- TRIGGER_CONFIG_WRITE: register w of the unit (R326). -/
def execTriggerConfigWrite (u : TrigId) (w : Fin 4) (v : Word32) (s : State) : Host.Outcome State Fault Refusal :=
  let off := 0x40000 + 0x40 * u.val + 4 * w.val
  .next (hostWord .p off v (writeTrg u off v) s)

/-- A write of CAP_TRG_CMD: REARM arms a FIRED unit (R307). -/
def writeTrgCmd (u : TrigId) (v : Word32) (s : State) : State :=
  if bitAt v 0 ∧ s.trigs[u].state = .fired then s.modTrig u fun t => { t with state := .armed } else s

/-- REARM. -/
def execRearm (u : TrigId) (v : Word32) (s : State) : Host.Outcome State Fault Refusal :=
  .next (hostWord .p (0x40014 + 0x40 * u.val) v (writeTrgCmd u v) s)

/-- TRIGGER_HOLD_OFF_END: a time hold-off is over (R307). -/
def execTriggerHoldOffEnd (u : TrigId) (s : State) : Host.Outcome State Fault Refusal :=
  let t := s.trigs[u]
  .next (if t.state = .holdOff ∧ !s.rb (rCapTrgCtrl u) 6 ∧ t.holdEnd ≤ s.now then s.modTrig u fun t => { t with state := .armed } else s)

/-! ## Chains in the module (R295, R298, R300, R303) -/

/-- A chain's unsent outputs as one VC3 frame (R303). -/
def chainFlush (n : ChainId) (s : State) : State :=
  let c := s.chains[n]
  if c.unsent.isEmpty then s
  else
    (mrSend .p 3 (.chain { chain := n, valid := c.unsentValid, outputs := c.unsent, ticks := c.unsentTicks
                           first := c.outIndex - BitVec.ofNat 32 c.unsent.length }) s).modChain n
      fun c => { c with unsent := [], unsentTicks := [] }

/-- One output of a chain: counted, sent, seen by the trigger units; a suppressed one carries 0 (R300, R303, R304). -/
def chainOut (n : ChainId) (valid : Bool) (y : Int) (s : State) : State :=
  let s := if s.chains[n].unsentValid = valid then s else chainFlush n s
  let v := if valid then storeSig y else 0
  let done := valid && !s.chains[n].settled
  let s := s.modChain n fun c =>
    { c with
      valid := valid, settled := c.settled || valid, settle := if valid || c.settled then c.settle else c.settle + 1
      unsentAt := if c.unsent.isEmpty then s.now else c.unsentAt, unsent := c.unsent ++ [sigWord v], unsentTicks := c.unsentTicks ++ [s.now], unsentValid := valid
      outIndex := c.outIndex + 1, outTicks := (s.now :: c.outTicks).take 128 }
  let s := if 126 ≤ s.chains[n].unsent.length then chainFlush n s else s
  let c := s.chains[n]
  let s := if done then raise (srcChain n) evChainSettled (BitVec.ofNat 32 c.cause.val) c.settle s else s
  if valid then trgInput true n.val v s.now s else trgGap n.val s

/-- A result of a chain's channel at its input (R295). -/
def chainInput (n : ChainId) (x : Int) (count : Word32) (ovr : Bool) (s : State) : State :=
  let q := s.chains[n].input (s.chainCfg n) x count ovr
  forList (fun y t => chainOut n q.2.2 y t) q.2.1 (s.modChain n fun _ => q.1)

/-- The chains that take a channel. -/
def State.chainsOn (s : State) (c : ChanId) : List ChainId :=
  (List.finRange 16).filter fun n => s.rb (rFltCfg n) 0 && s.chainChan n == c

/-- A write of FLT_SRC: a change of CH is a channel switch, a cleared FREEZE an unfreeze, each a restart at the next input; a set FREEZE
acts at the next input (R298). -/
def writeFltSrc (n : ChainId) (v : Word32) (s : State) : State :=
  let old := s.reg (rFltSrc n)
  let t := writeWord (rFltSrc n) v s
  let new := t.reg (rFltSrc n)
  if fld old 0 6 ≠ fld new 0 6 then
    t.modChain n fun c => { c with restart := some 1, prevX := none, prevCount := none }
  else if bitAt old 6 && !bitAt new 6 then t.modChain n fun c => { c with restart := some (c.restart.getD 2) }
  else t

/-- CHANNEL_SWITCH. -/
def execChannelSwitch (n : ChainId) (v : Word32) (s : State) : Host.Outcome State Fault Refusal :=
  .next (hostWord .p (rFltSrc n) v (writeFltSrc n v) s)

/-- FREEZE. -/
def execFreeze (n : ChainId) (v : Word32) (s : State) : Host.Outcome State Fault Refusal :=
  .next (hostWord .p (rFltSrc n) v (writeFltSrc n v) s)

/-- UNFREEZE. -/
def execUnfreeze (n : ChainId) (v : Word32) (s : State) : Host.Outcome State Fault Refusal :=
  .next (hostWord .p (rFltSrc n) v (writeFltSrc n v) s)

/-- CHAIN_FRAME_FLUSH: FLUSH ticks after the oldest unsent output (R303). -/
def execChainFrameFlush (n : ChainId) (s : State) : Host.Outcome State Fault Refusal :=
  let c := s.chains[n]
  .next (if !c.unsent.isEmpty && decide (c.unsentAt + s.rf (rFltOut n) 0 16 ≤ s.now) then chainFlush n s else s)

end Sys2Proof.Machine
end

