-- ==== Sys2Proof/Machine/Operands.lean ====
section
/-!
DEFINITION. Descriptors: their fields (R338), the opcodes, operand bytes and reserved bytes of R344, R345, R311, R318 and R319, and the
first two checks of R339.
-/
namespace Sys2Proof.Machine

open Sys2Proof

/-- OPCODE of a descriptor (R338). -/
def dOpcode (d : List Byte) : Nat := leAt d 0 2
/-- FLAGS of a descriptor. -/
def dFlags (d : List Byte) : Nat := leAt d 2 2
/-- HOST_TAG of a descriptor. -/
def dTag (d : List Byte) : Word32 := BitVec.ofNat 32 (leAt d 4 4)
/-- AT_TIME of a descriptor. -/
def dAtTime (d : List Byte) : Word64 := BitVec.ofNat 64 (leAt d 8 8)
/-- A byte of a descriptor. -/
def dByte (d : List Byte) (i : Nat) : Nat := leAt d i 1

/-- An opcode of R344: its code, whether AT_TIME may be nonzero, and its operand bytes as (first byte, number, defined bits). -/
structure OpRow where
  code : Nat
  timed : Bool
  fields : List (Nat × Nat × Nat)

/-- The opcodes of R344. CTX_WRITE's bytes from 24 on and REGION_COMMIT's entries are judged by `definedBits`. -/
def opTable : List OpRow :=
  [ ⟨0x00, true, []⟩,
    ⟨0x01, true, [(16, 1, 255), (17, 1, 1), (18, 4, 255)]⟩,
    ⟨0x02, true, [(16, 1, 255), (18, 4, 255), (24, 8, 255)]⟩,
    ⟨0x03, true, [(16, 1, 255)]⟩,
    ⟨0x04, true, [(16, 1, 255)]⟩,
    ⟨0x05, true, [(16, 2, 255)]⟩,
    ⟨0x06, true, [(16, 2, 255)]⟩,
    ⟨0x10, true, [(16, 2, 3), (18, 2, 255), (20, 1, 15), (22, 22, 255)]⟩,
    ⟨0x11, false, [(16, 1, 255), (17, 1, 1), (24, 12, 255)]⟩,
    ⟨0x12, true, [(16, 1, 255)]⟩,
    ⟨0x13, true, [(16, 1, 255), (18, 1, 255), (19, 1, 31), (20, 30, 255), (50, 2, 31), (52, 12, 255)]⟩,
    ⟨0x14, true, [(16, 1, 255)]⟩,
    ⟨0x20, true, [(16, 10, 255), (26, 1, 7)]⟩,
    ⟨0x21, false, [(16, 10, 255)]⟩,
    ⟨0x22, true, [(16, 16, 255), (32, 1, 7)]⟩,
    ⟨0x30, false, [(16, 1, 255), (20, 4, 255)]⟩,
    ⟨0x31, false, [(16, 1, 255), (17, 1, 31)]⟩,
    ⟨0x40, true, [(16, 1, 255)]⟩,
    ⟨0x41, false, [(16, 1, 255)]⟩,
    ⟨0x50, true, [(16, 2, 255)]⟩,
    ⟨0x51, true, [(16, 2, 255), (18, 1, 1)]⟩,
    ⟨0x7F, false, [(16, 1, 255), (17, 1, 1)]⟩ ]

/-- The row of an opcode. -/
def opRow (code : Nat) : Option OpRow := opTable.find? fun r => r.code == code

/-- Defined bits of byte b of CTX_WRITE beyond its fixed fields: with INLINE the data bytes within the length, else the address
(R345). -/
def writeBits (d : List Byte) (b : Nat) : Nat :=
  if dByte d 17 % 2 = 1 then (if 32 ≤ b ∧ b < 32 + leAt d 20 2 then 255 else 0)
  else if 24 ≤ b ∧ b < 32 then 255 else 0

/-- Defined bits of byte b of REGION_COMMIT beyond its fixed fields: entries within the count, bits 1 and 0 of their byte 1 (R345). -/
def entryBits (d : List Byte) (b : Nat) : Nat :=
  if 24 ≤ b ∧ (b - 24) / 8 < min 5 (dByte d 17) then (if (b - 24) % 8 = 1 then 3 else 255) else 0

/-- The defined bits of an operand byte. -/
def definedBits (r : OpRow) (d : List Byte) (b : Nat) : Nat :=
  match r.fields.find? fun f => decide (f.1 ≤ b) && decide (b < f.1 + f.2.1) with
  | some f => f.2.2
  | none => if r.code = 0x01 then writeBits d b else if r.code = 0x06 then entryBits d b else 0

/-- The first reserved operand byte that is not 0 (R339, R345). -/
def reservedByte (r : OpRow) (d : List Byte) : Option Nat :=
  ((List.range 48).map (· + 16)).find? fun b => dByte d b &&& (255 - definedBits r d b) != 0

/-- Checks 1 and 2 of R339: the status and DETAIL of the first that fails. -/
def formCheck (d : List Byte) : Option (Word16 × Word32) :=
  match opRow (dOpcode d) with
  | none => some (stBadOpcode, BitVec.ofNat 32 (dOpcode d))
  | some r =>
    if 2 ≤ dFlags d then some (stRange, 2)
    else if dAtTime d ≠ 0 ∧ !r.timed then some (stRange, 8)
    else (reservedByte r d).map fun b => (stRange, BitVec.ofNat 32 b)

/-- Lateness of a descriptor accepted at a time, none where its AT_TIME has not passed or it is immediate (R348). -/
def lateness (d : List Byte) (accept : Word64) : Option Word32 :=
  let a := (dAtTime d).toNat
  if a = 0 ∨ accept.toNat + 4000 ≤ a then none
  else some (BitVec.ofNat 32 (min 0xFFFFFFFF (accept.toNat + 4000 - a)))

/-- A host buffer of n bytes at an address with the given alignment lies within the 64-bit address space. -/
def hostSpan (addr : Nat) (n : Nat) : Bool := decide (addr + n ≤ 2 ^ 64)

/-- The command of a timed entry is due: corrected local time has reached its AT_TIME (R349, R350). -/
def State.atTimeReached (s : State) (k : Slot) : Bool := decide ((dAtTime (s.desc k)).toNat ≤ s.cTimeNs.toNat)

/-- The entry was timed at acceptance. -/
def State.isTimed (s : State) (k : Slot) : Bool := match s.entry k with | some e => e.timed | none => false

/-- Entry x comes before e in AT_TIME order and then ASN order (R350). -/
def State.dueBefore (s : State) (x e : JEntry) : Bool :=
  let a := (dAtTime (s.desc x.slot)).toNat
  let b := (dAtTime (s.desc e.slot)).toNat
  decide (a < b) || (a == b && x.asn != e.asn && asnAtOrAfter e.asn x.asn)

/-- An entry put in its place by AT_TIME and then ASN. -/
def State.insDue (s : State) (e : JEntry) : List JEntry → List JEntry
  | [] => [e]
  | x :: t => if s.dueBefore e x then e :: x :: t else x :: s.insDue e t

/-- The order in which entries that fall on one instant take effect: those that a forward step has passed in AT_TIME order and then ASN order
(R350), then the others in ASN order, in which the journal lists them (R346). -/
def State.inOrder (s : State) (l : List JEntry) : List JEntry :=
  let jumped (e : JEntry) : Bool := match s.workOf e.slot with | some w => w.jumped | none => false
  (l.filter jumped).foldr s.insDue [] ++ l.filter fun e => !jumped e

/-- A timed command of the queue may take effect as far as the queue goes: its acceptance is acknowledged, the engine runs, the journal can be
reached and no replay runs (R349, R360, R366). -/
def State.timedWork (s : State) (k : Slot) : Bool :=
  (match s.entry k, s.workOf k with
  | some e, some w => e.state == .accepted && e.timed && w.kind == .timed && !(s.rings.unacked.contains k)
  | _, _ => false) && s.ringsRun && s.pReach && !s.rings.replaying

/-- The accepted work of a slot put into application. -/
def applying (k : Slot) (s : State) : State := modWork k (fun w => { w with kind := .applying }) s

/-- A meaning of an immediate command's row: applied where its turn has come. -/
def immediate (k : Slot) (opcode : Nat) (f : State → State) (s : State) : Host.Outcome State Fault Refusal :=
  .next (if s.mayApply k opcode then settle s (f s) else s)

end Sys2Proof.Machine
end

