-- ==== Sys2Proof/Machine/Region.lean ====
section
/-!
DEFINITION. PWM regions (spec/06_pwm_regions.md): phases, commits, boundaries, island wraps, gate edges and trips; loss of the C-die
(R29, R30). The region trigger stands with the ADC banks, the receipt of a duty frame with pairing.
-/
namespace Sys2Proof.Machine

open Sys2Proof

/-! ## Phases (R215 to R218) -/

/-- The phase of a code (R215). -/
def phaseOf : Nat → Option Phase
  | 0 => some .off
  | 1 => some .start
  | 2 => some .run
  | 3 => some .test
  | 4 => some .recovery
  | _ => none

/-- The code of a phase (R215). -/
def Phase.code : Phase → Nat
  | .off => 0 | .start => 1 | .run => 2 | .test => 3 | .recovery => 4

/-- REGION_MODE is accepted: the package state of R530; a mirror letter's carrier never runs (R412). -/
def State.modeAccepted (s : State) (r : RegionId) : Bool :=
  (s.power.dev == .ready || s.power.dev == .run || s.power.dev == .service) && !s.isMirror r

/-- REGION_MODE is permitted: accepted, and a change that R216 permits. -/
def State.modeAllowed (s : State) (r : RegionId) (p : Phase) : Bool :=
  let f := s.regions[r].phase
  s.modeAccepted r && !(f == .off && (p == .run || p == .recovery)) && !(p == .recovery && f != .run)

/-- Delays of a unit in fine steps (R199, R230). -/
def State.rise (s : State) (u : UnitId) : Nat := fld (s.reg (if isHigh u then rPwmDtH (islandOf u) else rPwmDtL (islandOf u))) 0 12
def State.fallDelay (s : State) (u : UnitId) : Nat := fld (s.reg (if isHigh u then rPwmDtH (islandOf u) else rPwmDtL (islandOf u))) 16 12
/-- Minimum pulse of a unit (R230). -/
def State.minPulse (s : State) (u : UnitId) : Nat := s.rf (rPwmMinp (islandOf u)) (if isHigh u then 0 else 16) 16

/-- The checks of a REGION_MODE that leaves OFF (R41, R194, R196, R214, R217). -/
def State.mayStart (s : State) (r : RegionId) : Bool :=
  let p := s.period r
  p % 10 == 0 && decide (8000 ≤ p) && decide (p ≤ 16736000) && decide (s.rf (rPwmTrigpos r) 0 21 < p / 10) &&
    (s.islandsOf r).all (fun i =>
      decide (2 * (s.minPulse (unitH i) + s.minPulse (unitL i) + s.rise (unitH i) + s.rise (unitL i)) ≤ p)) &&
    (!s.isPaired r || decide (160000 ≤ p))

/-- An island as its region's carrier starts (R197, R210, R230). -/
def Island.begin (i : Island) (fine p ph : Nat) : Island :=
  let f := if p = 0 then ph else ph % p
  { i with
    shPhase := BitVec.ofNat 24 f, actPhase := BitVec.ofNat 24 f, phase := BitVec.ofNat 24 f, shPhaseNew := false
    haveCmp := false, started := false, lastWrap := fine, nextWrap := fine + f, len := p }

/-- The carrier starts in this tick, which is the first boundary, of count 0 (R108, R217). -/
def startCarrier (r : RegionId) (p : Phase) (s : State) : State :=
  let s := forList (fun i t => t.modIsland i fun x => x.begin t.fine (t.period r) (t.rf (rPwmPhase i) 0 24)) (s.islandsOf r) s
  let s := s.modRegion r fun g =>
    { g with phase := p, bcount := 0, lastBoundary := some s.now, triggered := false, lateCnt := 0, replacedCnt := 0, tripCnt := 0,
             missed := 0, frameSeen := true, lossSince := none, lost := false, lossInhibit := false, recLeft := none, offReq := false }
  let s := unstand (srcRegion r) evRegionDutyLost s
  let s := s.modLoop fun l => { l with sets := upd l.sets r fun _ => [], relSets := upd l.relSets r fun _ => [] }
  if s.isPaired r then
    s.modPairRegion r fun q =>
      { q with wanted := true, mayReturn := false, copies := [], probation := [], missLocal := 0, missPartner := 0, standby := .absent, partnerActive := false
               held := true, localFailed := false, partnerFailed := false, resyncAt := none, discarded := 0, matching := 0 }
  else s

/-- A phase change of a region whose carrier runs (R218): TRIP_CNT returns to 0 on entry to START, TEST or RECOVERY; leaving TEST clears
the force bits of the region's sources (R459). The automatic return ends with the change (R219; notes/assumptions/165.md). -/
def changePhase (r : RegionId) (p : Phase) (s : State) : State :=
  (if p = .test then s else leaveTest r s).modRegion r fun g =>
    { g with phase := p, recLeft := none, tripCnt := if p = .start ∨ p = .test ∨ p = .recovery then 0 else g.tripCnt }

/-- "REGION_MODE applied" (R228). -/
def raiseMode (r : RegionId) (s : State) : State := raise (srcRegion r) evRegionModeApplied 0 0 s

/-- A REGION_MODE takes effect on a region in OFF; it completes with STATE where package safe becomes held in the same tick (R216, R217,
R532). -/
def modeFromOff (r : RegionId) (p : Phase) (k : Slot) (s : State) : State :=
  if !s.modeAllowed r p then finishFail k stState 0 s
  else if p = .off then finishOk k (s.regions[r].bcount.setWidth 64) (raiseMode r s)
  else if s.safeComing then finishFail k stState 0 s
  else if s.mayStart r then finishOk k 0 (raiseMode r (startCarrier r p s))
  else finishFail k stRange 0xFFFF s

/-- REGION_MODE as it is applied: its effect where no boundary follows; else it waits for the boundary, at which the change is judged
(R216 to R218, R349). -/
def doRegionMode (k : Slot) (s : State) : State :=
  let d := s.desc k
  match regionNo (leAt d 16 1), phaseOf (leAt d 17 1) with
  | none, _ => finishFail k stRange 16 s
  | some _, none => finishFail k stRange 17 s
  | some r, some p =>
    if !s.modeAccepted r then finishFail k stState 0 s
    else if s.regions[r].phase = .off then modeFromOff r p k s
    else
      modWork k (fun w => { w with kind := .applying }) (s.modRegion r fun g => { g with modeReqs := g.modeReqs ++ [(p, k)] })

/-- REGION_MODE. -/
def execRegionMode (slot : Slot) (s : State) : Host.Outcome State Fault Refusal :=
  .next (if s.mayApply slot 0x05 then settle s (doRegionMode slot s) else s)

/-! ## REGION_COMMIT (R204, R208, R209, R345) -/

/-- Bytes of entry j of a REGION_COMMIT. -/
def commitBytes (d : List Byte) (j : Nat) : List Byte := bytesAt d (24 + 8 * j) 8

/-- The first operand of a REGION_COMMIT out of range, as its descriptor offset (R345). -/
def commitRange (d : List Byte) : Option Nat :=
  let n := leAt d 17 1
  if 8 ≤ leAt d 16 1 then some 16
  else if n = 0 ∨ 5 < n then some 17
  else (List.range n).findSome? fun j =>
    let i := leAt d (24 + 8 * j) 1
    if 24 ≤ i then some (24 + 8 * j)
    else if (List.range j).any fun m => leAt d (24 + 8 * m) 1 = i then some (24 + 8 * j)
    else if leAt d (25 + 8 * j) 1 % 4 = 0 then some (25 + 8 * j)
    else none

/-- The entries of a REGION_COMMIT, at most the five that a descriptor holds. -/
def commitEntries (d : List Byte) : List CommitEntry :=
  (List.range (min 5 (leAt d 17 1))).filterMap fun j => parseEntry (commitBytes d j)

/-- A context writes the island's duty or phase (R209). -/
def State.ctxWrites (s : State) (i : IslandId) : Bool :=
  !(s.destWriters 1 i.val).isEmpty || !(s.destWriters 2 i.val).isEmpty

/-- The first check of a REGION_COMMIT to region r that fails: STATE, then the first operand out of range (R193, R209, R339, R345). -/
def State.commitCheck (s : State) (r : RegionId) (d : List Byte) : Option (Word16 × Word32) :=
  if s.regions[r].phase = .off ∨
      (commitEntries d).any (fun e => s.regionOf e.island != some r || s.driveMode e.island == 3 || s.ctxWrites e.island) then
    some (stState, 0)
  else (commitRange d).map fun o => (stRange, BitVec.ofNat 32 o)

/-- The values of a checked commit written; it completes when they are transferred (R204). -/
def commitWritten (k : Slot) (r : RegionId) (s : State) : State :=
  modWork k (fun w => { w with kind := .lent }) (s.modRegion r fun g => { g with commits := g.commits ++ [k] })

/-- Entries of the commits of higher ASN than a command's that wait for the transfer of region r (R207, R346). -/
def State.pendingOver (s : State) (r : RegionId) (k : Slot) : List CommitEntry :=
  match s.entry k with
  | none => []
  | some e =>
    (s.rings.journal.filter fun x => s.regions[r].commits.contains x.slot && x.asn != e.asn && asnAtOrAfter x.asn e.asn).flatMap fun x =>
      commitEntries (s.desc x.slot)

/-- REGION_COMMIT as it is applied: the region number (R345), its checks, then its values to the shadow set (R193, R204, R208, R209). One that a
replay applies again while its values still wait in the shadow set only waits on (R205, R366). -/
def doRegionCommit (k : Slot) (s : State) : State :=
  let d := s.desc k
  match regionNo (leAt d 16 1) with
  | none => finishFail k stRange 16 s
  | some r =>
    if s.regions[r].commits.contains k then modWork k (fun w => { w with kind := .lent }) s
    else match s.commitCheck r d with
    | some f => finishFail k f.1 f.2 s
    | none => commitWritten k r (writeCommit r (s.pendingOver r k) (commitEntries d) (!s.isTimed k) s)

/-- REGION_COMMIT. -/
def execRegionCommit (slot : Slot) (s : State) : Host.Outcome State Fault Refusal :=
  .next (if s.mayApply slot 0x06 then settle s (doRegionCommit slot s) else s)

/-! ## The boundary (R195, R198, R205, R210, R218) -/

/-- Edges of an island's present carrier period placed anew by its length L: of the period's own edges only those change that R198 moves or
drops, so an edge spilled from the period before and the off edge of a suppressed unit stand (R198, R212). -/
def replaceUnits (i : IslandId) (l p : Nat) (s : State) : State :=
  let x := s.islands[i]
  let c := x.cmp.toNat
  if c = 0 ∨ p ≤ c then s else
  let h := unitH i
  let w := unitL i
  let stays := decide (l ≤ c)
  let onH := (x.lastWrap + s.rise h, true)
  let offH := (x.lastWrap + c + s.fallDelay h, false)
  let onL := (x.lastWrap + c + s.rise w, true)
  let pendH := (s.units[h].edges).contains onH
  let pendL := (s.units[w].edges).contains onL
  let wH : Int := (min c l : Nat) - (s.rise h : Int) + s.fallDelay h
  let wL : Int := (l : Int) - c - s.rise w + s.fallDelay w
  let noH := pendH && decide (wH < s.minPulse h)
  let noL := pendL && (stays || decide (wL < s.minPulse w))
  let s := s.modUnit h fun u =>
    { u with
      edges := if noH then u.edges.filter (fun e => e != onH && e != offH) else if stays then u.edges.filter (· != offH) else u.edges
      carry := if noH then BitVec.ofNat 24 (min (min c l) p) else u.carry
      suppressed := u.suppressed || noH
      offAtEnd := u.suppressed || noH || !stays }
  s.modUnit w fun u =>
    { u with
      edges := if noL then u.edges.filter (· != onL) else u.edges
      carry := if noL then BitVec.ofNat 24 (min (l - c) p) else u.carry
      suppressed := u.suppressed || noL
      offAtEnd := u.suppressed || noL || stays }

/-- The transfer of an island's shadows at a boundary in fine step `b` (R197, R198, R205). -/
def transferIsland (b p : Nat) (i : IslandId) (s : State) : State :=
  let x := s.islands[i]
  let old := x.phase.toNat
  let new := if x.shPhaseNew then x.shPhase.toNat else x.actPhase.toNat
  let s := s.modIsland i fun x =>
    { x with
      actCmp := if x.shCmpNew then x.shCmp else x.actCmp
      actPhase := BitVec.ofNat 24 new
      haveCmp := x.haveCmp || x.shCmpNew
      shCmpNew := false, shPhaseNew := false }
  if new = old then s else
    let l := p + new - old
    let s := s.modIsland i fun x => { x with phase := BitVec.ofNat 24 new, nextWrap := b + new, len := l }
    replaceUnits i l p s

/-- A REGION_MODE that takes effect at the boundary (R216, R218, R351). -/
def applyMode (r : RegionId) (q : Phase × Slot) (s : State) : State :=
  if s.regions[r].phase = .off then modeFromOff r q.1 q.2 s
  else if !s.modeAllowed r q.1 then finishFail q.2 stState 0 s
  else
    let n := s.regions[r].bcount.setWidth 64
    let s := raiseMode r s
    if q.1 = .off then finishOk q.2 n (stopRegion r (s.modRegion r fun g => { g with modeReqs := [] }))
    else finishOk q.2 n (changePhase r q.1 s)

/-- A region may swap: it is a local paired region with a SYNCED standby (R430). -/
def State.maySwap (s : State) (r : RegionId) : Bool := s.isPaired r && s.pair.regions[r].standby == .synced

/-- The regions of a PAIR_SWAP's mask that do not show it as applied: all of them, but where a replay applies again what has swapped a region
already (R367, R577). -/
def State.swapLeft (s : State) (k : Slot) : List RegionId :=
  (s.swapMask k).filter fun r => match s.entry k with | some e => !(s.rings.regionWords[r]).shows e | none => true

/-- PAIR_SWAP as it is applied: its check, which a swap of a region before a replay has passed, then it waits for the boundary of each region
left (R430). -/
def doPairSwap (k : Slot) (s : State) : State :=
  let l := s.swapMask k
  let left := s.swapLeft k
  if left.length = l.length ∧ l.any fun r => !s.maySwap r then finishFail k stState 0 s
  else if left.isEmpty then finishOk k 0 s
  else applying k (forList (fun r t => t.modRegion r fun g => { g with swapReq := g.swapReq ++ [k] }) left s)

/-- Region r shows the swap as applied, whose outcome record stands before it; what the swap overtakes on the region is marked first (R363,
R577). -/
def recordSwap (r : RegionId) (k : Slot) (s : State) : State :=
  match s.entry k with
  | none => s
  | some e =>
    let s := markOvertaken { e with opcode := 0x05, targetIndex := BitVec.ofNat 8 r.val } s
    (s.write 0x02 (outcomeAddr k) (outcomeRecord e.asn stOk 0 (s.regions[r].bcount.setWidth 64))).modRings fun g =>
      { g with regionWords := upd g.regionWords r fun w => w.record (s.overtaken e) e.asn }

/-- A swap of active and standby that takes effect at the boundary. The first boundary of the command decides for its whole mask: with a region that
may not swap it completes with STATE and nothing changes; a region whose standby is lost after that stays as it is. The command completes when
no region of its mask still waits (R430; notes/assumptions/136.md). -/
def applySwap (r : RegionId) (k : Slot) (s : State) : State :=
  if s.swapWhole k && (s.swapMask k).any fun q => !s.maySwap q then failSwap k s
  else
    endSwap r k (if s.maySwap r then recordSwap r k (s.modPairRegion r fun p => { p with partnerActive := !p.partnerActive }) else s)

/-- The active die has failed while the standby is SYNCED: the standby becomes active (R425). -/
def failover (r : RegionId) (s : State) : State :=
  let p := s.pair.regions[r]
  if s.isPaired r && p.standby == .synced && (if p.partnerActive then p.partnerFailed else p.localFailed) then
    raise 151 evConfFailover (BitVec.ofNat 32 r.val) (BitVec.ofNat 32 (b2n (!p.partnerActive)))
      (s.modPairRegion r fun p => { p with partnerActive := !p.partnerActive, standby := .absent, held := p.partnerActive })
  else s

/-- What a boundary of count n means for the copies of a paired region: missed numbers counted, the copy of n + 1 written, older ones
forgotten, the end of "no valid duty source" (R421, R424, R426). -/
def boundaryCopies (r : RegionId) (n : Word32) (s : State) : State :=
  if !s.isPaired r then s else
  let p := s.pair.regions[r]
  let got := p.copies.find? fun c => c.seq == n
  let miss (f : DutyCopy → Bool) (k : Nat) : Nat := match got with | some c => if f c then 0 else k + 1 | none => k + 1
  let good := if got.isSome then p.goodSeqs + 1 else 0
  let s := s.modPairRegion r fun p =>
    { p with
      missLocal := miss DutyCopy.fromLocal p.missLocal
      missPartner := miss DutyCopy.fromPartner p.missPartner
      goodSeqs := good
      copies := p.copies.filter fun c => c.seq != n
      probation := p.probation.filter fun x => x.1 != n }
  let s := match s.pair.regions[r].copies.find? fun c => c.seq == n + 1 && !c.written with
    | none => s
    | some c =>
      (commitFrame (parseBody r (n + 1) c.body) false s).modPairRegion r fun p =>
        { p with copies := p.copies.map fun x => if x.seq = n + 1 then { x with written := true } else x }
  if s.regions[r].sourceInhibit && decide (2 ≤ good) then
    let s := s.modRegion r fun g => { g with sourceInhibit := false }
    if (List.finRange 8).any fun q => s.regions[q].sourceInhibit then s else unstand 151 evConfNoSource s
  else s

/-- Some unit of the region is held by a cycle-by-cycle trip. -/
def State.cycTripped (s : State) (r : RegionId) : Bool :=
  (List.finRange 48).any fun u => s.regionOf (islandOf u) == some r && s.units[u].tripCyc != 0

/-- Discrete values that the boundary's transfer carries (R168, R549). -/
def transferDiscrete (r : RegionId) (s : State) : State :=
  let g := s.regions[r]
  let s := match g.nextDrive with
    | none => s
    | some v => { s with drive := v, cdrvOff := s.cdrvOff && !(v && !s.drive) }
  s.modRegion r fun g => { g with hold := g.nextHold.getD g.hold, nextHold := none, nextDrive := none }

/-- The regions that an action on regions names. -/
def State.namedRegions (s : State) (k : Slot) : List RegionId :=
  if s.opcodeOf k = 0x40 then maskRegions (dByte (s.desc k) 16) else (regionNo (dByte (s.desc k) 16)).toList

/-- The timed actions on region r that take effect at its boundary in tick t, the first at or after their AT_TIME (R208, R218, R349, R430); in
their order (R346, R350). -/
def State.boundaryDue (s : State) (r : RegionId) (t : Nat) : List JEntry :=
  s.inOrder (s.rings.journal.filter fun e =>
    (e.opcode == 0x05 || e.opcode == 0x06 || e.opcode == 0x40) && s.timedWork e.slot && (s.namedRegions e.slot).contains r &&
      decide (s.ticksUntil (dAtTime (s.desc e.slot)) ≤ (t : Int) - s.now))

/-- A timed action of region r as its boundary comes: a commit is checked and written in time for the transfer, a change of phase or a swap joins
those that wait for the boundary (R208, R346, R349, R351). -/
def startDue (r : RegionId) (e : JEntry) (s : State) : State :=
  if e.opcode = 0x05 then doRegionMode e.slot s
  else if e.opcode = 0x40 then doPairSwap e.slot s
  else
    match s.commitCheck r (s.desc e.slot) with
    | some f => finishFail e.slot f.1 f.2 s
    | none => commitWritten e.slot r (forList (writeEntry r (s.pendingOver r e.slot)) (commitEntries (s.desc e.slot)) s)

/-- What a boundary of count n brings to a command that waited for it: a commit completes, a swap and a change of phase take effect. -/
def atBoundary (r : RegionId) (n : Word32) (commits : List Slot) (modes : List (Phase × Slot)) (e : JEntry) (s : State) : State :=
  if commits.contains e.slot then finishHeld e.slot stOk 0 (n.setWidth 64) true s
  else if s.regions[r].swapReq.contains e.slot then applySwap r e.slot s
  else match modes.find? fun q => q.2 == e.slot with
    | some q => applyMode r q s
    | none => s

/-- REGION_BOUNDARY: the timed actions that fall due, the transfer as one action, the boundary count, then the commands that take effect at the
boundary, in their order (R205, R346). -/
def boundary (r : RegionId) (t : Nat) (s : State) : State :=
  let s := forList (startDue r) (s.boundaryDue r t) s
  let n := s.regions[r].bcount + 1
  let p := s.period r
  let s := forList (transferIsland (10 * t) p) (s.islandsOf r) s
  let s := transferDiscrete r s
  let commits := s.regions[r].commits
  let modes := s.regions[r].modeReqs
  let l := s.inOrder (s.rings.journal.filter fun e =>
    commits.contains e.slot || s.regions[r].swapReq.contains e.slot || modes.any fun q => q.2 == e.slot)
  let s := s.modRegion r fun g =>
    { g with
      bcount := n, lastBoundary := some t, triggered := false, commits := [], modeReqs := []
      missed := if g.frameSeen then 0 else g.missed + 1, frameSeen := false
      recLeft := g.recLeft.map (· - 1)
      tripReported := g.tripReported && g.tripped, tripped := s.cycTripped r }
  let s := forList (atBoundary r n commits modes) l (failover r (boundaryCopies r n s))
  if s.regions[r].offReq then stopRegion r s else s

/-- REGION_BOUNDARY. -/
def execRegionBoundary (r : RegionId) (s : State) : Host.Outcome State Fault Refusal :=
  .next (match s.nextBoundary r with
    | some t => if t ≤ s.now && s.carrierRuns r && s.power.pRun then settle s (boundary r t s) else s
    | none => s)

/-- RECOVERY_END: the automatic return from RECOVERY to RUN (R219). -/
def execRecoveryEnd (r : RegionId) (s : State) : Host.Outcome State Fault Refusal :=
  .next (if s.regions[r].phase = .recovery ∧ s.regions[r].recLeft = some 0 then settle s (changePhase r .run s) else s)

/-! ## Trips (R221 to R228) -/

/-- A trip counted for region r (R227). -/
def countTrip (r : RegionId) (n : TripId) (s : State) : State :=
  let g := s.regions[r]
  let counting := g.phase == .start || g.phase == .test || g.phase == .recovery
  let cnt := if counting then satInc g.tripCnt else g.tripCnt
  let reached := counting && decide (s.rf (rPwmTripcfg r) 0 8 ≤ cnt.toNat) && !g.tripLatch
  let s := s.modRegion r fun g => { g with tripCnt := cnt, tripTot := satInc g.tripTot, tripLatch := g.tripLatch || reached }
  if reached then raise (srcRegion r) evRegionTripLimit (BitVec.ofNat 32 n.val) 0 s else s

/-- Trip source n acts on region r by the region's map (R222 to R224, R228). -/
def tripRegion (n : TripId) (r : RegionId) (s : State) : State :=
  let us := s.mapUnits r n
  if us.isEmpty then s else
  let latch := s.mapLatches r n
  let s := forList (fun u t => t.modUnit u fun x =>
    { x with
      tripCyc := if latch then x.tripCyc else x.tripCyc ||| BitVec.ofNat 16 (2 ^ n.val)
      tripLatch := if latch then x.tripLatch ||| BitVec.ofNat 16 (2 ^ n.val) else x.tripLatch
      adaptFrozen := true }) us s
  let s :=
    if latch then raise (srcRegion r) evRegionLatchTrip (BitVec.ofNat 32 n.val) 0 s
    else
      let t := if s.regions[r].tripReported then s else raise (srcRegion r) evRegionCycTrip (BitVec.ofNat 32 n.val) 0 s
      t.modRegion r fun g => { g with tripReported := true, tripped := true }
  countTrip r n s

/-- TRIP_ASSERT: a source whose input asserts turns off its mapped units (R223, R224). -/
def execTripAssert (n : TripId) (s : State) : Host.Outcome State Fault Refusal :=
  .next (if s.tripInput n && !s.tripActive[n] && s.power.pRun then
      settle s (forAll (tripRegion n) { s with tripActive := upd s.tripActive n fun _ => true })
    else s)

/-! ## The island wrap (R197, R199 to R213) -/

/-- What the wrap releases of a unit: trips whose source is deasserted, the hold of R250 after the soft turn-off, UVLO after a whole
period of a good rail, a finished self-test, and the wait of R210 (R223, R238, R250, R255). -/
def wrapRelease (u : UnitId) (s : State) : State :=
  let x := s.units[u]
  let cyc := x.tripCyc.toNat
  let still := BitVec.ofNat 16 (((List.finRange 16).filter fun n => cyc.testBit n.val && s.tripActive[n]).foldl (fun a n => a + 2 ^ n.val) 0)
  let testing := (s.islands[islandOf u]).testLeft.any fun n => n == comparator u false || n == comparator u true
  let s := s.modUnit u fun x =>
    { x with
      tripCyc := still
      desatHold := x.desatHold && x.softOff.isSome
      uvloHeld := x.uvlo || (x.uvloHeld && !x.uvloClean)
      uvloClean := !x.uvlo
      uvloCnt := if x.uvlo || (x.uvloHeld && !x.uvloClean) then satInc x.uvloCnt else x.uvloCnt
      testHold := x.testHold && testing }
  s.modUnit u fun x => { x with waitWrap := x.waitWrap && (s.heldForTest u || x.tripCyc != 0 || x.tripLatch != 0) }

/-- A unit that its island holds off at the end of a period counts as off there: it resumes with its turn-on edge (R199, R210, R238,
R250). -/
def endHeld (u : UnitId) (s : State) : State := if s.islandHolds u then dropCommand u s else s

/-- Edges put in the order of their time, after those already due no later. -/
def insEdge : List (Nat × Bool) → Nat × Bool → List (Nat × Bool)
  | [], e => [e]
  | x :: t, e => if e.1 < x.1 then e :: x :: t else x :: insEdge t e

/-- Edges of the high unit in a period that begins at fine step w (R199, R200, R212). -/
def edgesH (w c p rise fall : Nat) (off supp : Bool) : List (Nat × Bool) :=
  if c = 0 then (if off then [] else [(w + fall, false)])
  else if p ≤ c then (if off then [(w + rise, true)] else [])
  else if supp then (if off then [] else [(w + fall, false)])
  else (if off then [(w + rise, true)] else []) ++ [(w + c + fall, false)]

/-- Edges of the low unit in a period that begins at fine step w (R199, R200, R212). -/
def edgesL (w c p rise fall : Nat) (off supp : Bool) : List (Nat × Bool) :=
  if c = 0 then (if off then [(w + rise, true)] else [])
  else if p ≤ c then (if off then [] else [(w + fall, false)])
  else (if off then [] else [(w + fall, false)]) ++ (if supp then [] else [(w + c + rise, true)])

/-- C' of R211 for a committed compare: 0 % and 100 % clear the carries. -/
def applied (c carryH carryL p : Nat) : Nat :=
  if c = 0 then 0 else if p ≤ c then 0xFFFFFF
  else (clampI 0 p ((c : Int) + carryH - carryL)).toNat

/-- The new carrier period of island i, which begins at its wrap at fine step w (R199 to R213). -/
def wrapPeriod (i : IslandId) (p : Nat) (s : State) : State :=
  let x := s.islands[i]
  let w := x.nextWrap
  let h := unitH i
  let l := unitL i
  let c := applied x.actCmp.toNat s.units[h].carry.toNat s.units[l].carry.toNat p
  let mid := decide (0 < c) && decide (c < p)
  let wH : Int := (c : Int) - s.rise h + s.fallDelay h
  let wL : Int := (p : Int) - c - s.rise l + s.fallDelay l
  let sH := mid && decide (wH < s.minPulse h)
  let sL := mid && decide (wL < s.minPulse l)
  let ends := decide (p ≤ c)
  let heldH := s.cmdStops h
  let heldL := s.cmdStops l
  let eH := if heldH then [] else edgesH w c p (s.rise h) (s.fallDelay h) s.units[h].offAtEnd sH
  let eL := if heldL then [] else edgesL w c p (s.rise l) (s.fallDelay l) s.units[l].offAtEnd sL
  let s := s.modUnit h fun u =>
    { u with edges := eH.foldl insEdge u.edges, suppressed := sH, offAtEnd := heldH || sH || !ends
             carry := if sH then BitVec.ofNat 24 (min c p) else 0 }
  let s := s.modUnit l fun u =>
    { u with edges := eL.foldl insEdge u.edges, suppressed := sL, offAtEnd := heldL || sL || ends
             carry := if sL then BitVec.ofNat 24 (min (p - c) p) else 0 }
  s.modIsland i fun x =>
    { x with lastWrap := w, nextWrap := w + p, len := p, cmp := BitVec.ofNat 24 c }

/-- Trips that still hold units of the island are counted again (R227). -/
def recountTrips (r : RegionId) (i : IslandId) (s : State) : State :=
  forAll (fun n t =>
    if t.tripActive[n] && !t.mapLatches r n && (t.mapUnits r n).any (fun u => islandOf u == i) then countTrip r n t else t) s

/-- The island wrap of island i in region r. -/
def wrap (i : IslandId) (r : RegionId) (s : State) : State :=
  let s := dropTrips s
  let s := endHeld (unitL i) (endHeld (unitH i) s)
  let s := s.modIsland i fun x => { x with started := x.started || x.haveCmp, linkHold := x.linkHold && !x.link }
  let s := wrapRelease (unitL i) (wrapRelease (unitH i) s)
  let s := recountTrips r i s
  wrapPeriod i (s.period r) s

/-- ISLAND_WRAP: due within this tick, after the boundary that comes at or before it. -/
def execIslandWrap (i : IslandId) (s : State) : Host.Outcome State Fault Refusal :=
  .next (match s.regionOf i with
    | none => s
    | some r =>
      match s.regions[r].lastBoundary with
      | none => s
      | some b =>
        let w := (s.islands[i]).nextWrap
        if w < s.fine + 10 ∧ w < 10 * b + s.period r ∧ s.power.pRun then settle s (wrap i r s) else s)

/-! ## Gate edges (R199, R203, R242) -/

/-- The island's command to a unit changes; its strength change takes effect and a freeze of adaptive drive ends with the first edge
(R243, R246), blanking starts with an on command (R248), which ends the sink strength of a soft turn-off (R249). -/
def commandUnit (u : UnitId) (on : Bool) (s : State) : State :=
  s.modUnit u fun x =>
    { x with
      cmdOn := on, onAt := if on then some s.now else none, armed := false, adaptFrozen := false
      softSnk := if on && !s.unitHeld u then none else x.softSnk
      armedOff := if x.armed && !on then some s.now else none }

/-- UNIT_EDGE: the unit's next edge, due within this tick. -/
def execUnitEdge (u : UnitId) (s : State) : Host.Outcome State Fault Refusal :=
  .next (match s.units[u].edges with
    | [] => s
    | e :: rest =>
      if e.1 < s.fine + 10 ∧ s.power.pRun then
        let t := commandUnit u e.2 (s.modUnit u fun x => { x with edges := rest })
        settle s (gateIsland (islandOf u) t)
      else s)

/-! ## Loss of the C-die (R29, R30) -/

/-- C_DIE_LOSS_DETECT: power-good has fallen, the link has failed, or no valid duty frame came for two consecutive periods. -/
def execCDieLossDetect (r : RegionId) (s : State) : Host.Outcome State Fault Refusal :=
  let g := s.regions[r]
  .next (if s.carrierRuns r && s.power.pRun && !g.lost && (!s.power.powerGood || !s.linkUp || decide (2 ≤ g.missed)) then
      s.modRegion r fun g => { g with lost := true, lossSince := some s.now }
    else s)

/-- Duty frames for the region have resumed: within the hold time a gap is reported, after it the condition of the inhibit ends (R29,
R30). A paired region whose copies never stopped has no gap to report (notes/assumptions/152.md). -/
def resumeFrames (r : RegionId) (s : State) : State :=
  let g := s.regions[r]
  let t := s.modRegion r fun g => { g with frameSeen := true, lost := false, lossSince := none, lossInhibit := false }
  if !g.lost then t
  else if g.lossSince.isSome then
    (if s.isPaired r ∧ g.missed = 0 then t else raise (srcRegion r) evRegionDutyGap (BitVec.ofNat 32 g.missed) 0 t)
  else unstand (srcRegion r) evRegionDutyLost t

/-- A die whose copies hold the region at the end of the hold time: the partner's active one, or the SYNCED standby, which takes over
(R29, R425). -/
def State.stillFed (s : State) (r : RegionId) : Bool :=
  let p := s.pair.regions[r]
  (p.partnerActive && !p.partnerFailed) || (p.standby == .synced && !(if p.partnerActive then p.localFailed else p.partnerFailed))

/-- HOLD_TIME_END: the region takes its pair partner's duties, or is inhibited (R29, R425, R426). -/
def execHoldTimeEnd (r : RegionId) (s : State) : Host.Outcome State Fault Refusal :=
  .next (match s.regions[r].lossSince with
    | none => s
    | some t =>
      if s.now < t + usTicks (s.rf rPairHold 0 8) then s
      else
        let c := s.modRegion r fun g => { g with lossSince := none }
        if s.isPaired r ∧ s.stillFed r then c
        else if s.isPaired r then
          settle s (stand 151 evConfNoSource
            (raise 151 evConfNoSource (BitVec.ofNat 32 r.val) 0 (c.modRegion r fun g => { g with sourceInhibit := true })))
        else
          settle s (stand (srcRegion r) evRegionDutyLost
            (raise (srcRegion r) evRegionDutyLost 0 0 (c.modRegion r fun g => { g with lossInhibit := true }))))

end Sys2Proof.Machine
end

