-- ==== Sys2Proof/Machine/Adc.lean ====
section
/-!
DEFINITION. ADC banks and window comparators (spec/08_adc_banks.md), and the region trigger that starts their sets (R196, R283).
Voltages at the inputs are in microvolts.
-/
namespace Sys2Proof.Machine

open Sys2Proof

/-- PD_ANA is in regulation and the P-die out of reset. -/
def State.anaRuns (s : State) : Bool := s.power.pRun && bitAt s.power.domOn 2

/-- The banks convert: from the Seal on, while PD_ANA is powered (R265). -/
def State.converts (s : State) : Bool := s.power.sealed && s.anaRuns

def State.injSrc (s : State) (b : BankId) : Nat := s.rf (rAdcInj b) 16 4

/-- The code of an input voltage (R264). -/
def codeOf (uv : Int) : Word16 := BitVec.ofInt 16 (sat16 (roundConv (uv * 32768) 10000000))

/-- Channel j of a bank. -/
def chanOf (b : BankId) (j : Fin 16) : ChanId := ⟨16 * b.val + j.val, by omega⟩

/-- The slice that serves channel j: its own, or the spare while it stands in (R275, R278). -/
def Bank.slice (x : Bank) (j : Nat) : Nat := if x.spareFor.toNat = j then 16 else j

/-- Channel j has neither its own sound slice nor a free sound spare (R278). -/
def Bank.lostChan (x : Bank) (j : Nat) : Bool := bitAt x.failed (x.slice j)

/-! ## Triggers (R266 to R268, R271, R283) -/

/-- The channels of a mask in rising order. -/
def maskChans (m : Word16) : List (Fin 16) := (List.finRange 16).filter fun j => bitAt m j.val

/-- The lowest channel of a bank's mask: the DETAIL of an event that concerns several (R291, notes/assumptions/104.md). -/
def firstChan (b : BankId) (m : Word16) : Word32 := BitVec.ofNat 32 (16 * b.val + (maskChans m).head?.elim 0 Fin.val)

/-- The channels of a bank's regular sets (R266). -/
def State.setMask (s : State) (b : BankId) : Word16 := BitVec.ofNat 16 (s.rf (rAdcChen b) 0 16)

/-- A dropped trigger of a bank's regular path (R268, R291). -/
def overrun (b : BankId) (s : State) : State :=
  let told := s.banks[b].ovrReported
  let s := s.modBank b fun x => { x with ovrCnt := satInc x.ovrCnt, ovrNext := true, ovrReported := true }
  if told then s else raise (srcBank b 0) evBank0Overrun (firstChan b (s.setMask b)) 0 s

/-- A dropped regular trigger that its region numbered: no set carries that count (R268, R282, R309). -/
def dropTrigger (b : BankId) (src : Option (RegionId × Word32)) (s : State) : State :=
  match src with
  | some p => renumber b p.2 (overrun b s)
  | none => overrun b s

/-- A dropped trigger of a bank's injected path (R271, R291). -/
def injOverrun (b : BankId) (s : State) : State :=
  let told := s.banks[b].injOvrReported
  let s := s.modBank b fun x => { x with injOvr := satInc x.injOvr, injOvrNext := true, injOvrReported := true }
  if told then s else raise (srcBank b 0) evBank0Overrun (firstChan b (BitVec.ofNat 16 (s.rf (rAdcInj b) 0 16))) 0 s

/-- A trigger of a bank's regular path (R266, R268). -/
def bankTrigger (b : BankId) (delay : Nat) (src : Option (RegionId × Word32)) (s : State) : State :=
  if s.banks[b].delay.isSome then dropTrigger b src s
  else s.modBank b fun x => { x with delay := some { due := s.now + delay, region := src } }

/-- The carrier whose boundary n triggered a set still runs: no release follows once the region has stopped (R218). -/
def State.stillReleases (s : State) (r : RegionId) (n : Word32) : Bool :=
  s.carrierRuns r && decide ((s.regions[r].bcount - n).toNat < 2 ^ 31)

/-- A paired region's set kept for the period's sample frame, which leaves with the set that carries RELEASE (R417). -/
def pairSample (x : SampleSet) (s : State) : State :=
  if x.regionValid && s.isPaired x.region && x.kind != 2 then
    let keep := (s.regions[x.region]).periodSets.filter fun y => y.count == x.count
    let all := (List.finRange 4).flatMap fun (b : BankId) => (keep ++ [x]).filter fun y => y.bank == b
    if x.release then
      (pairSend 1 x.region x.count (all.flatMap SampleSet.bytes) s).modRegion x.region fun g => { g with periodSets := [] }
    else s.modRegion x.region fun g => { g with periodSets := all }
  else s

/-- REGION_TRIGGER: the counter reaches the trigger position (R196); a region that no bank names sends its empty set (R108, R283). -/
def regionTrigger (r : RegionId) (s : State) : State :=
  let n := s.regions[r].bcount
  let s := s.modRegion r fun g => { g with triggered := true }
  let s := if !s.converts then s else forAll (fun (b : BankId) t =>
    let t := if t.injSrc b = r.val then t.modBank b fun x => { x with injReq := x.injReq ++ [some (r, n)] } else t
    if t.adcMode b = 1 ∧ t.adcSrc b = r.val then bankTrigger b (t.rf (rAdcDelay b) 0 16) (some (r, n)) t else t) s
  if (s.releaseBank r).isNone then
    let x : SampleSet := { kind := 3, regionValid := true, release := true, region := r, count := n }
    mrSend .p 1 (.samples [x]) (pairSample x s)
  else s

/-- REGION_TRIGGER. -/
def execRegionTrigger (r : RegionId) (s : State) : Host.Outcome State Fault Refusal :=
  let g := s.regions[r]
  .next (match g.lastBoundary with
    | none => s
    | some t =>
      if s.carrierRuns r && !g.triggered && s.power.pRun && decide (t + s.rf (rPwmTrigpos r) 0 21 ≤ s.now) then
        settle s (regionTrigger r s)
      else s)

/-- BANK_TIMER: the bank timer expires, or a continuous set is due (R266, R270). -/
def execBankTimer (b : BankId) (s : State) : Host.Outcome State Fault Refusal :=
  .next (if !s.converts then s else
    let x := s.banks[b]
    let cont := decide (x.contNext ≤ s.now) && s.adcMode b == 2
    let timer := decide (x.timerNext ≤ s.now)
    let t := if cont then bankTrigger b 0 none (s.modBank b fun x => { x with contNext := s.now + 40 * (s.rf (rAdcCtrl b) 8 8 + 1) }) else s
    settle s (if timer then
      let t := t.modBank b fun x => { x with timerNext := s.now + s.rf (rAdcTimer b) 0 24 }
      let t := if s.injSrc b = 8 then t.modBank b fun x => { x with injReq := x.injReq ++ [none] } else t
      if s.adcMode b = 1 ∧ s.adcSrc b = 8 then bankTrigger b (s.rf (rAdcDelay b) 0 16) none t else t
    else t))

/-! ## Open wire (R279, R280) -/

/-- One conversion of a channel at its open-wire detector; the flag after it. -/
def openWire (c : ChanId) (code : Word16) (s : State) : State :=
  let b := bankOf c
  let j := c.val % 16
  let w := s.reg (rAdcOw b j)
  let n := fld w 8 8
  let mode := fld w 0 2
  let x := s.channels[c]
  let rev := mode == 2 && x.reversed
  let v := code.toInt
  let suspect := (mode == 1 || mode == 2) && (if rev then decide (v ≤ -0x7000) else decide (0x7000 ≤ v))
  let seen := suspect && (x.revSeen || (decide (0 < x.suspect) && mode == 2 && x.sinceRev == 0))
  let flag := bitAt (s.banks[b]).owFlag j
  let up := !flag && suspect && decide (n ≤ x.suspect + 1) && (mode != 2 || seen)
  let down := flag && !suspect && decide (n ≤ x.normal + 1)
  let turn := decide (255 ≤ x.sinceRev)
  let s := s.modChan c fun x =>
    { x with
      suspect := if suspect then x.suspect + 1 else 0, normal := if suspect then 0 else x.normal + 1, revSeen := seen
      reversed := mode == 2 && (if turn then !x.reversed else x.reversed)
      sinceRev := if mode != 2 || turn then 0 else x.sinceRev + 1 }
  if up then raise (srcBank b 3) evBank3OpenWire (BitVec.ofNat 32 c.val) 0
      (s.modBank b fun y => { y with owFlag := y.owFlag ||| BitVec.ofNat 16 (2 ^ j) })
  else if down then raise (srcBank b 3) evBank3OpenWireCleared (BitVec.ofNat 32 c.val) 0
      (s.modBank b fun y => { y with owFlag := y.owFlag &&& ~~~(BitVec.ofNat 16 (2 ^ j)) })
  else s

/-- Open-wire detection over the results of a set. -/
def openWires (b : BankId) (m : Word16) (codes : List Word16) (s : State) : State :=
  forList (fun p t => openWire (chanOf b p.1) p.2 t) ((maskChans m).zip codes) s

/-- The open-wire mask of a set: flagged channels and lost ones (R278, R280, R281). -/
def State.owOf (s : State) (b : BankId) (m : Word16) : Word16 :=
  BitVec.ofNat 16 ((maskChans m).foldl (fun a j =>
    if bitAt (s.banks[b]).owFlag j.val || (s.banks[b]).lostChan j.val then a + 2 ^ j.val else a) 0)

/-! ## The result queue (R285, R286) -/

/-- One result at the queue: dropped at 2048 entries, which is reported once until the level falls below 1024. Both events carry the
result's channel, which the entry's TAG holds (R291). -/
def enqueue (b : BankId) (e : Word32) (s : State) : State :=
  if 2048 ≤ (s.banks[b]).queue.length then
    let told := (s.banks[b]).fullReported
    let s := s.modBank b fun x => { x with dropCnt := satInc x.dropCnt, fullReported := true }
    if told then s else raise (srcBank b 0) evBank0QueueFull (BitVec.ofNat 32 (fld e 16 6)) 0 s
  else
    let s := s.modBank b fun x => { x with queue := x.queue ++ [e] }
    let x := s.banks[b]
    if s.rf (rAdcQcfg b) 0 12 ≤ x.queue.length ∧ !x.threshReported then
      raise (srcBank b 0) evBank0QueueThreshold (BitVec.ofNat 32 (fld e 16 6)) 0 (s.modBank b fun x => { x with threshReported := true })
    else s

/-- The results of a set whose channels are set in Q_EN, in rising channel order (R285). -/
def enqueueSet (b : BankId) (m ow : Word16) (codes : List Word16) (ovr : Bool) (stamp : Word32) (s : State) : State :=
  forList (fun p t =>
    if t.rb (rAdcChen b) (16 + p.1.val) then
      enqueue b (packWord [(0, 16, p.2.toNat), (16, 6, (chanOf b p.1).val), (22, 1, b2n ovr), (23, 1, b2n (bitAt ow p.1.val)),
        (24, 8, stamp.toNat)]) t
    else t) ((maskChans m).zip codes) s

/-- A read of ADC_QDATA: the oldest entry, removed; 0 from an empty queue (R286). -/
def readQdata (b : BankId) (s : State) : State :=
  match (s.banks[b]).queue with
  | [] => readAs 0 s
  | e :: rest =>
    readAs e (s.modBank b fun x =>
      { x with queue := rest, fullReported := x.fullReported && decide (1024 ≤ rest.length)
               threshReported := x.threshReported && decide (s.rf (rAdcQcfg b) 0 12 ≤ rest.length) })

/-- ADC_QDATA_READ. -/
def execAdcQdataRead (b : BankId) (s : State) : Host.Outcome State Fault Refusal :=
  .next (hostAccess .p (0x30030 + 0x1000 * b.val) 0 true (readQdata b) s)

/-! ## Regular sets (R263 to R270, R281 to R287) -/

/-- Codes of the channels of a mask; a lost channel reads 0 (R264, R278). -/
def State.codes (s : State) (b : BankId) (m : Word16) (uv : Vector Int 16) : List Word16 :=
  (maskChans m).map fun j => if (s.banks[b]).lostChan j.val then 0 else codeOf uv[j]

/-- Slices that convert for both of two masks. -/
def sharesSlices (m n : Word16) : Bool := (m &&& n) != 0

/-- A lost injected conversion: entries of 0x8000 with OVR, no sample set (R273); an OVR it would have carried falls to the path's next
set (R282). -/
def injLost (b : BankId) (s : State) : State :=
  match (s.banks[b]).inj with
  | none => s
  | some c =>
    let s := s.modBank b fun x => { x with inj := none, injLost := satInc x.injLost, injOvrNext := x.injOvrNext || c.ovr }
    let s := enqueueSet b c.mask (s.owOf b c.mask) (c.codes.map fun _ => 0x8000) true c.count s
    raise (srcBank b 3) evBank3InjLost (firstChan b c.mask) 0 s

/-- A regular set takes precedence on the slices an injected conversion uses: restarted once, lost the second time (R273). -/
def preempt (b : BankId) (m : Word16) (s : State) : State :=
  match (s.banks[b]).inj with
  | none => s
  | some c =>
    if !sharesSlices m c.mask || decide (c.start + 40 ≤ s.now) then s
    else if s.now < c.start then s.modBank b fun x => { x with inj := some { c with start := s.now + 40 } }
    else if 1 ≤ c.preempted then injLost b s
    else s.modBank b fun x => { x with inj := some { c with start := s.now + 40, preempted := c.preempted + 1 } }

/-- A regular set samples (R266, R281 to R283). -/
def sample (b : BankId) (d : Delay) (latched : Bool) (uv : Vector Int 16) (s : State) : State :=
  let m := s.setMask b
  let x := s.banks[b]
  let c : Conv :=
    { start := s.now, codes := s.codes b m uv, mask := m, ovr := x.ovrNext, latched := latched, regionValid := d.region.isSome
      region := (d.region.map Prod.fst).getD 0, count := (d.region.map Prod.snd).getD x.setCount }
  preempt b m (s.modBank b fun x =>
    { x with running := some c, ovrNext := false, ovrReported := x.ovrReported && x.ovrNext
             setCount := if d.region.isSome then x.setCount else x.setCount + 1 })

/-- The packed sets of a bank sent as one frame (R284). -/
def flushPacked (b : BankId) (s : State) : State :=
  let l := (s.banks[b]).packed
  if l.isEmpty then s else (mrSend .p 1 (.samples l) s).modBank b fun x => { x with packed := [] }

/-- A completed set on its way to the C-die: alone, or packed with others of its bank (R284). A set sent alone follows the packed sets of its
bank that wait, so that their order stays (DEDUCED, notes/assumptions/105.md). -/
def sendSet (x : SampleSet) (s : State) : State :=
  let s := pairSample x s
  if x.regionValid || x.kind == 2 then mrSend .p 1 (.samples [x]) (flushPacked x.bank s)
  else
    let s := s.modBank x.bank fun y => { y with packed := y.packed ++ [x], packedAt := if y.packed.isEmpty then s.now else y.packedAt }
    if 4 ≤ (s.banks[x.bank]).packed.length then flushPacked x.bank s else s

/-- The running set of a bank completes: open wires, queue, chains and trigger units, sample set (R285, R287, R295, R304). -/
def setComplete (b : BankId) (s : State) : State :=
  match (s.banks[b]).running with
  | none => s
  | some c =>
    let s := openWires b c.mask c.codes s
    let ow := s.owOf b c.mask
    let s := enqueueSet b c.mask ow c.codes c.ovr c.count s
    let cs := (maskChans c.mask).zip c.codes
    let s := forList (fun p t =>
      let ch := chanOf b p.1
      forList (fun n u => chainInput n p.2.toInt c.count c.ovr u) (t.chainsOn ch) t) cs s
    let s := forList (fun p t => trgInput false (chanOf b p.1).val p.2.toInt c.start t) cs s
    let release := c.regionValid && s.releaseBank c.region == some b && s.stillReleases c.region c.count
    sendSet { bank := b, kind := if s.adcMode b = 2 then 1 else 0, ovr := c.ovr, latched := c.latched, release := release
              region := c.region, regionValid := c.regionValid, mask := c.mask, owMask := ow, count := c.count, results := c.codes, tick := c.start }
      (s.modBank b fun x => { x with running := none, recent := ((c.start, c.count) :: x.recent).take 32 })

/-- The bank's running set has ended by now (R269). -/
def State.setDue (s : State) (b : BankId) : Bool :=
  match (s.banks[b]).running with
  | some c => decide (c.start + 40 ≤ s.now)
  | none => false

/-- The sampling instant of a bank's running set. -/
def State.setStart (s : State) (b : BankId) : Option Nat := (s.banks[b]).running.map Conv.start

/-- A bank's running set completes behind those of lower banks that sampled in the same tick: such sets leave in bank order (R283,
notes/assumptions/105.md). -/
def setsComplete (b : BankId) (s : State) : State :=
  setComplete b (forAll (fun (c : BankId) t => if c < b ∧ t.setStart c = t.setStart b then setComplete c t else t) s)

/-- SET_COMPLETE: 40 ticks after the sampling instant (R287). -/
def execSetComplete (b : BankId) (s : State) : Host.Outcome State Fault Refusal :=
  .next (if s.setDue b && s.converts then settle s (setsComplete b s) else s)

/-- A sampling instant of the regular path: it samples, is latched behind a running set, or is an overrun (R269). -/
def samplingInstant (b : BankId) (uv : Vector Int 16) (s : State) : State :=
  let s := if s.setDue b then setsComplete b s else s
  let x := s.banks[b]
  match x.running, x.latch, x.delay with
  | none, some d, _ => sample b d true uv (s.modBank b fun x => { x with latch := none })
  | none, none, some d => if d.due ≤ s.now then sample b d false uv (s.modBank b fun x => { x with delay := none }) else s
  | some _, none, some d =>
    if d.due ≤ s.now then s.modBank b fun x => { x with delay := none, latch := some d, latchCnt := satInc x.latchCnt } else s
  | some _, some _, some d => if d.due ≤ s.now then dropTrigger b d.region (s.modBank b fun x => { x with delay := none }) else s
  | _, _, none => s

/-- SAMPLING_INSTANT: `uv` are the inputs of the bank's sixteen channels. -/
def execSamplingInstant (b : BankId) (uv : Vector Int 16) (s : State) : Host.Outcome State Fault Refusal :=
  .next (if s.converts && (s.adcMode b == 1 || s.adcMode b == 2) then settle s (samplingInstant b uv s) else s)

/-- PACKED_FRAME_FLUSH: 80 ticks after the first packed set completed (R284). -/
def execPackedFrameFlush (b : BankId) (s : State) : Host.Outcome State Fault Refusal :=
  let x := s.banks[b]
  .next (if !x.packed.isEmpty && decide (x.packedAt + 80 ≤ s.now) && s.anaRuns then flushPacked b s else s)

/-! ## Injected conversions (R271 to R274) -/

/-- A write of ADC_INJ_SW: GO gives an injected trigger (R271). -/
def writeInjSw (b : BankId) (v : Word32) (s : State) : State :=
  if bitAt v 0 && s.converts then s.modBank b fun x => { x with injReq := x.injReq ++ [none] } else s

/-- GO. -/
def execGo (b : BankId) (v : Word32) (s : State) : Host.Outcome State Fault Refusal :=
  .next (hostWord .p (0x30018 + 0x1000 * b.val) v (writeInjSw b v) s)

/-- INJECTED_TRIGGER: a trigger that a source has given starts the delay, or is an overrun (R271). -/
def execInjectedTrigger (b : BankId) (s : State) : Host.Outcome State Fault Refusal :=
  .next (match (s.banks[b]).injReq with
    | [] => s
    | q :: rest =>
      if !s.converts || !(s.adcMode b == 1 || s.adcMode b == 2) then s.modBank b fun x => { x with injReq := rest }
      else
        let t := s.modBank b fun x => { x with injReq := rest }
        if (s.banks[b]).injDelay.isSome then settle s (injOverrun b t)
        else t.modBank b fun x => { x with injDelay := some { due := s.now + s.rf (rAdcInjDelay b) 0 16, region := q } })

/-- The injected hold samples; the slices convert it when a regular set on them has ended (R272, R273). -/
def injSample (b : BankId) (d : Delay) (latched : Bool) (uv : Vector Int 16) (s : State) : State :=
  let m : Word16 := BitVec.ofNat 16 (s.rf (rAdcInj b) 0 16)
  let start := match (s.banks[b]).running with
    | some c => if sharesSlices m c.mask then max s.now (c.start + 40) else s.now
    | none => s.now
  s.modBank b fun x =>
    { x with
      inj := some { start := start, codes := s.codes b m uv, mask := m, ovr := x.injOvrNext, latched := latched
                    regionValid := d.region.isSome, region := (d.region.map Prod.fst).getD 0
                    count := (d.region.map Prod.snd).getD x.setCount }
      injOvrNext := false, injOvrReported := x.injOvrReported && x.injOvrNext }

/-- INJECTED_SAMPLING_INSTANT: R269 with the injected path's own delay unit and count (R271, R272). -/
def injSamplingInstant (b : BankId) (uv : Vector Int 16) (s : State) : State :=
  let x := s.banks[b]
  match x.inj, x.injLatch, x.injDelay with
  | none, some d, _ => injSample b d true uv (s.modBank b fun x => { x with injLatch := none })
  | none, none, some d => if d.due ≤ s.now then injSample b d false uv (s.modBank b fun x => { x with injDelay := none }) else s
  | some _, none, some d =>
    if d.due ≤ s.now then s.modBank b fun x => { x with injDelay := none, injLatch := some d } else s
  | some _, some _, some d => if d.due ≤ s.now then injOverrun b (s.modBank b fun x => { x with injDelay := none }) else s
  | _, _, none => s

/-- INJECTED_SAMPLING_INSTANT. -/
def execInjectedSamplingInstant (b : BankId) (uv : Vector Int 16) (s : State) : Host.Outcome State Fault Refusal :=
  .next (if s.converts then settle s (injSamplingInstant b uv s) else s)

/-- An injected conversion's results: open wires, queue, an injected sample set (R274). -/
def injComplete (b : BankId) (c : Conv) (s : State) : State :=
  let s := openWires b c.mask c.codes s
  let ow := s.owOf b c.mask
  let n := if c.regionValid then c.count else (s.banks[b]).setCount
  let s := enqueueSet b c.mask ow c.codes c.ovr n s
  sendSet { bank := b, kind := 2, ovr := c.ovr, latched := c.latched, region := c.region, regionValid := c.regionValid
            mask := c.mask, owMask := ow, count := n, results := c.codes, tick := c.start }
    ((if c.regionValid then s else renumber b n s).modBank b fun x =>
      { x with inj := none, setCount := if c.regionValid then x.setCount else x.setCount + 1 })

/-- INJECTED_CONVERSION_COMPLETE. -/
def execInjectedConversionComplete (b : BankId) (s : State) : Host.Outcome State Fault Refusal :=
  .next (match (s.banks[b]).inj with
    | none => s
    | some c => if c.start + 40 ≤ s.now ∧ s.converts then settle s (injComplete b c s) else s)

/-! ## Background calibration (R275 to R278) -/

/-- A regular set of the bank runs or begins in this tick: one that has not ended, a latched one, an instant or a continuous set that is due
(R269, R270, R276). -/
def State.setInTick (s : State) (b : BankId) : Bool :=
  let x := s.banks[b]
  (x.running.isSome && !s.setDue b) || x.latch.isSome || x.delay.any (fun d => decide (d.due ≤ s.now)) ||
    (s.adcMode b == 2 && decide (x.contNext ≤ s.now))

/-- Hand-over and hand-back of channel j: no regular set runs in the tick and no injected conversion of the channel is pending (R276). -/
def State.mayHand (s : State) (b : BankId) (j : Nat) : Bool :=
  let x := s.banks[b]
  let inj := x.injDelay.isSome || x.injLatch.isSome || x.inj.isSome || !x.injReq.isEmpty
  !s.setInTick b && !(inj && s.rb (rAdcInj b) j)

/-- CALIBRATION_STEP_START (R275). -/
def execCalibrationStepStart (b : BankId) (s : State) : Host.Outcome State Fault Refusal :=
  let x := s.banks[b]
  .next (if s.converts && s.rb (rAdcCal b) 15 && !x.stopped && x.cal == .idle && decide (x.calNext ≤ s.now) then
      s.modBank b fun x => { x with cal := if x.calSlice = 16 then .measuring else .tracking, calAt := s.now }
    else s)

/-- CALIBRATION_HAND_OVER: at least 400 ticks after the step's start (R275, R276). -/
def execCalibrationHandOver (b : BankId) (s : State) : Host.Outcome State Fault Refusal :=
  let x := s.banks[b]
  .next (if s.converts && x.cal == .tracking && decide (x.calAt + 400 ≤ s.now) && s.mayHand b x.calSlice.val then
      s.modBank b fun x => { x with cal := .measuring, calAt := s.now, spareFor := BitVec.ofNat 5 x.calSlice.val }
    else s)

/-- The slice after j in the rotation. -/
def nextSlice (j : Fin 17) : Fin 17 := if h : j.val < 16 then ⟨j.val + 1, by omega⟩ else 0

/-- A measured slice is out of its calibration range (R278). -/
def sliceFailed (b : BankId) (s : State) : State :=
  let x := s.banks[b]
  let j := x.calSlice
  let s := s.modBank b fun x =>
    { x with failed := x.failed ||| BitVec.ofNat 17 (2 ^ j.val), stopped := true, cal := .idle }
  if j = 16 then s
  else if bitAt x.failed 16 then
    stand (srcBank b 1) evBank1SliceFailed (raise (srcBank b 1) evBank1SliceFailed (BitVec.ofNat 32 (16 * b.val + j.val)) 0
      (s.modBank b fun x => { x with spareFor := 0x1F }))
  else raise (srcBank b 1) evBank1SliceReplaced (BitVec.ofNat 32 j.val) 0 s

/-- CALIBRATION_MEASUREMENT_END: 8000 ticks of measurement give new coefficients, judged against the range (R275, R278). The spare's own step
ends here, and with it the spare takes its own (DEDUCED, notes/assumptions/103.md). -/
def execCalibrationMeasurementEnd (b : BankId) (inRange : Bool) (coef : Word32) (s : State) : Host.Outcome State Fault Refusal :=
  let x := s.banks[b]
  .next (if s.converts && x.cal == .measuring && decide (x.calAt + 8000 ≤ s.now) then
      (if !inRange then settle s (sliceFailed b s)
      else if x.calSlice = 16 then
        s.modBank b fun x => { x with cal := .idle, calSlice := 0, coefs := x.coefs.set 16 coef, calNext := s.now + msTicks (s.rf (rAdcCal b) 0 10) }
      else s.modBank b fun x => { x with cal := .measured, newCoef := coef })
    else s)

/-- CALIBRATION_HAND_BACK: the slice serves its channel again, with its new coefficients (R275 to R277). -/
def execCalibrationHandBack (b : BankId) (s : State) : Host.Outcome State Fault Refusal :=
  let x := s.banks[b]
  .next (if s.converts && x.cal == .measured && s.mayHand b x.calSlice.val then
      s.modBank b fun x =>
        { x with cal := .idle, spareFor := 0x1F, coefs := x.coefs.set x.calSlice x.newCoef, calSlice := nextSlice x.calSlice, calNext := s.now + msTicks (s.rf (rAdcCal b) 0 10) }
    else s)

/-! ## Window comparators (R288 to R290) -/

/-- The threshold code of an input: the top 12 bits of its code (R288). -/
def code12 (uv : Int) : Int := (codeOf uv).toInt / 16

/-- The comparator's mode asserts at an input (R288). -/
def State.winAsserts (s : State) (c : ChanId) (uv : Int) : Bool :=
  let w := s.reg (rAdcWin (bankOf c) (c.val % 16))
  let x := code12 uv
  let hi := sx 12 (fld w 12 12)
  let lo := sx 12 (fld w 0 12)
  match fld w 24 2 with
  | 1 => decide (hi < x)
  | 2 => decide (x < lo)
  | 3 => decide (hi < x ∨ x < lo ∨ hi ≤ lo)
  | _ => false

/-- The input lies inside every threshold of the mode by HYST (R288). -/
def State.winReleases (s : State) (c : ChanId) (uv : Int) : Bool :=
  let w := s.reg (rAdcWin (bankOf c) (c.val % 16))
  let x := code12 uv
  let h := fld w 26 4
  let hi := decide (x < sx 12 (fld w 12 12) - h)
  let lo := decide (sx 12 (fld w 0 12) + h < x)
  match fld w 24 2 with
  | 1 => hi
  | 2 => lo
  | 3 => hi && lo
  | _ => true

/-- A comparator's output given a value. -/
def setWindow (c : ChanId) (on : Bool) (s : State) : State :=
  let m : Word16 := BitVec.ofNat 16 (2 ^ (c.val % 16))
  s.modBank (bankOf c) fun x =>
    { x with winState := if on then x.winState ||| m else x.winState &&& ~~~m, winLatched := if on then x.winLatched ||| m else x.winLatched }

/-- A comparator's output asserts, with its event (R290). -/
def assertWindow (ch : ChanId) (s : State) : State :=
  let t := setWindow ch true s
  if s.onceMs (s.channels[ch]).winEvent then
    (raise (srcBank (bankOf ch) 2) evBank2Window (BitVec.ofNat 32 ch.val) 0 t).modChan ch fun x => { x with winEvent := some s.now }
  else t

/-- A comparator whose settings alone decide its output: deasserted with MODE 0b00, asserted with MODE 0b11 and LO at or above HI (R288). -/
def standWindow (ch : ChanId) (s : State) : State :=
  let w := s.reg (rAdcWin (bankOf ch) (ch.val % 16))
  match fld w 24 2 with
  | 0 => if s.window ch then setWindow ch false s else s
  | 3 => if s.anaRuns && !s.window ch && decide (sx 12 (fld w 12 12) ≤ sx 12 (fld w 0 12)) then assertWindow ch s else s
  | _ => s

/-- A write of ADC_WIN (R288). -/
def writeWin (ch : ChanId) (off : Nat) (v : Word32) (s : State) : State := standWindow ch (writeWord off v s)

/-- WINDOW_COMPARATOR_ASSERTED: the input crosses a threshold of the mode (R288, R290). -/
def execWindowComparatorAsserted (ch : ChanId) (uv : Int) (s : State) : Host.Outcome State Fault Refusal :=
  .next (if s.anaRuns && !s.window ch && s.winAsserts ch uv then settle s (assertWindow ch s) else s)

/-- WINDOW_COMPARATOR_RELEASE (R288). -/
def execWindowComparatorRelease (ch : ChanId) (uv : Int) (s : State) : Host.Outcome State Fault Refusal :=
  .next (if s.anaRuns && s.window ch && s.winReleases ch uv then settle s (setWindow ch false s) else s)

/-- A write of ADC_WINST: LATCHED is W1C (R290, R293). -/
def writeWinst (b : BankId) (v : Word32) (s : State) : State :=
  s.modBank b fun x => { x with winLatched := x.winLatched &&& ~~~(v.setWidth 16) }

end Sys2Proof.Machine
end

