-- ==== Sys2Proof/Machine/Cq.lean ====
section
/-!
DEFINITION. Rings as the module sees them: their settings (R328, R329, R356), room in a CQ (R337, R342), an entry written to a CQ
(R341, R362), and the stop of an SQ (R335).
-/
namespace Sys2Proof.Machine

open Sys2Proof

/-- Slots of an SQ and of a CQ (R328). -/
def State.sqSize (s : State) (q : SqId) : Nat := 2 ^ s.rf (rSysSqCfg q) 0 4
def State.cqSize (s : State) (m : CqId) : Nat := 2 ^ s.rf (rSysCqCfg m) 0 4
/-- The SQ or CQ is enabled (R356). -/
def State.sqEn (s : State) (q : SqId) : Bool := s.rb (rSysSqCfg q) 7
def State.cqEn (s : State) (m : CqId) : Bool := s.rb (rSysCqCfg m) 7
/-- Target CQ of an SQ (R356). -/
def State.sqCq (s : State) (q : SqId) : CqId := ⟨s.rf (rSysSqCfg q) 4 3, by simp only [State.rf, fld]; exact Nat.mod_lt _ (by decide)⟩

/-- Address of a ring's slot for an index (R328, R329). -/
def State.sqAddr (s : State) (q : SqId) (i : Word32) : Word64 :=
  s.addr64 (rSysSqBaseLo q) (rSysSqBaseHi q) + BitVec.ofNat 64 (64 * (i.toNat % s.sqSize q))
def State.cqAddr (s : State) (m : CqId) (i : Word32) : Word64 :=
  s.addr64 (rSysCqBaseLo m) (rSysCqBaseHi m) + BitVec.ofNat 64 (32 * (i.toNat % s.cqSize m))

/-- The phase of a CQ index: 1 on the first pass, 0 on the second, and so on (R341). -/
def State.cqPhase (s : State) (m : CqId) (i : Word32) : Bool := i.toNat / s.cqSize m % 2 == 0

/-- Free slots of a CQ (R337). -/
def State.cqFree (s : State) (m : CqId) : Nat := s.cqSize m - (s.rings.cq[m].nextIdx - s.rings.cq[m].hostIdx).toNat

/-- Accepted commands aimed at a CQ that have not posted their completion and hold no index yet (R337). -/
def State.cqOwed (s : State) (m : CqId) : Nat := (s.rings.journal.filter fun e => e.cq == m && !e.ciValid).length

/-- The CQ has a slot beyond those reserved for completions (R337, R342). -/
def State.cqRoom (s : State) (m : CqId) : Bool := decide (s.cqOwed m < s.cqFree m)

/-- Bytes 10 and 11 of a CQ slot: ring number, EVENT, PHASE (R340, R437). -/
def ringField (n : Nat) (event phase : Bool) : List Byte := leBytes 2 (n + 8 * b2n event + 0x8000 * b2n phase)

/-- An entry written to index i of a CQ as one 32-byte write, and DEV_IDX of its line after it (R334, R341, R362). An urgent entry is an
event record of severity FAULT or CRITICAL (R354). -/
def writeCq (m : CqId) (i : Word32) (l : List Byte) (urgent : Bool) (s : State) : State :=
  let s := hostWrite (s.cqAddr m i) l s
  let c := s.rings.cq[m]
  let w := if asnAtOrAfter (i + 1) c.writtenIdx then i + 1 else c.writtenIdx
  let s := s.modCq m fun x =>
    { x with
      writtenIdx := w, unsignalled := x.unsignalled + 1, oldest := if x.unsignalled = 0 then s.now else x.oldest
      urgent := x.urgent || urgent }
  hostWrite (s.lineAddr (8 + m.val) + 32) (leBytes 4 w.toNat) s

/-- The SQ stops (R335); its Weirs are released (R512) by `dropSq`. A SQ already stopped changes nothing. -/
def markStopped (q : SqId) (s : State) : State := s.modSq q fun x => { x with stopped := true, fetched := none }

end Sys2Proof.Machine
end

