-- ==== Sys2Proof/Machine/Time.lean ====
section
/-!
DEFINITION. The time unit (R399 to R407, R410): TIME_ADJUST, lock, and the reads with a side effect.
-/
namespace Sys2Proof.Machine

open Sys2Proof

/-! ## Lock (R406, R407) -/

/-- LOCKED clears; lock then needs N fresh commands (R407). -/
def loseLock (s : State) : State :=
  let was := s.time.locked
  let s := s.modTime fun t => { t with locked := false, good := 0 }
  if was then raise 149 evTimeLockLost 0 0 s else s

/-- TIMEOUT_MS has passed with no TIME_ADJUST applied (R407). -/
def State.lockExpired (s : State) : Bool :=
  s.time.locked && decide (s.time.lastAdjust + msTicks (s.rf rTimeLockCfg 4 12) ≤ s.now)

/-- TIME_LOCK_LOST. -/
def execTimeLockLost (s : State) : Host.Outcome State Fault Refusal := .next (if s.lockExpired then settle s (loseLock s) else s)

/-- An applied command at the lock judgement: a step of absolute value `step` (R406, R407). -/
def judgeLock (step : Nat) (s : State) : State :=
  if s.rf rTimeLockCfg 16 16 < step then loseLock s
  else
    let s := s.modTime fun t => { t with good := t.good + 1 }
    if !s.time.locked ∧ s.rf rTimeLockCfg 0 4 ≤ s.time.good then raise 149 evTimeLockAcquired 0 0 (s.modTime fun t => { t with locked := true })
    else s

/-- A write of TIME_LOCK_CFG (R407). -/
def writeLockCfg (v : Word32) (s : State) : State := loseLock (writeWord rTimeLockCfg v s)

/-- TIME_LOCK_CFG_WRITE. -/
def execTimeLockCfgWrite (v : Word32) (s : State) : Host.Outcome State Fault Refusal :=
  .next (hostWord .p rTimeLockCfg v (writeLockCfg v) s)

/-! ## TIME_ADJUST (R400 to R402) -/

/-- 200 ppm in units of 2^-48 (R401). -/
def rhoLimit : Nat := 0xD1B71758E

/-- Offset base, anchor and rate after an adjustment in this tick (R401). -/
def adjusted (s : State) (rate : Option Int) (step : Option Int) : Int × Nat × Int :=
  let t := s.time
  let b := match rate with | some _ => s.fixNow | none => t.base
  let a := match rate with | some _ => t.count.toNat | none => t.anchor
  (match step with | some x => b + x * 65536 | none => b, a, rate.getD t.rho)

/-- B, r_A and rho written; those before the first adjustment of this tick stay for its timestamps (R393, R401). -/
def setTime (p : Int × Nat × Int) (s : State) : State :=
  s.modTime fun t =>
    let t := if t.lastAdjust = s.now then t else { t with oldBase := t.base, oldAnchor := t.anchor, oldRho := t.rho }
    { t with base := p.1, anchor := p.2.1, rho := p.2.2, lastAdjust := s.now }

/-- The C-die's copy of B, r_A and rho brought to the P-die's (R403). -/
def syncTime (s : State) : State :=
  s.modTime fun t => { t with cBase := t.base, cAnchor := t.anchor, cRho := t.rho, cCount := t.count }

/-- A step has changed the C-die's time, which stood at `was`: timed commands whose AT_TIME it has passed take effect in AT_TIME order (R350). -/
def markJumped (was : Word64) (s : State) : State :=
  s.modRings fun r =>
    { r with work := r.work.map fun w =>
        let a := dAtTime (s.desc w.slot)
        if w.kind = .timed ∧ was < a ∧ a ≤ s.cTimeNs then { w with jumped := true } else w }

/-- TIME_ADJUST as it is applied (R401, R402). -/
def doTimeAdjust (k : Slot) (s : State) : State :=
  let d := s.desc k
  let step := sx 64 (leAt d 16 8)
  let rho := sx 64 (leAt d 24 8)
  let f := dByte d 32
  let stepV := f.testBit 0
  let rateV := f.testBit 1
  let force := f.testBit 2
  if force && s.power.dev != .service then finishFail k stState 0 s
  else if rateV && decide (rhoLimit < rho.natAbs) then finishFail k stRange 24 s
  else if stepV && !force && decide (s.rf rTimeJump 0 32 < step.natAbs) then
    raise 149 evTimeStepRefused 0 0 (finishFail k stRange 0x10 (s.modTime fun t => { t with stepRefused := true }))
  else
    let now := s.timeNs
    let was := s.cTimeNs
    let s := if s.lockExpired then loseLock s else s
    let s := syncTime (setTime (adjusted s (if rateV then some rho else none) (if stepV then some step else none)) s)
    let s := if stepV then markJumped was s else s
    let s := if stepV && force then raise 149 evTimeForcedStep 0 0 (loseLock s) else judgeLock (if stepV then step.natAbs else 0) s
    finishOk k now s

/-- TIME_ADJUST. -/
def execTimeAdjust (slot : Slot) (s : State) : Host.Outcome State Fault Refusal := immediate slot 0x22 (doTimeAdjust slot) s

/-! ## Discontinuity (R404) -/

/-- One AO period of 1/32768 s in units of 2^-16 ns. -/
def aoFix : Nat := 2000000000

/-- The counter starts again from 0 after an outage measured on the AO count; corrected time goes on from where it stood, advanced by the
outage, which is corrected by the last error of the AO clock measured before it (R526); lock is lost (R404). -/
def timeRestart (s : State) : State :=
  let n := s.time.ao.toNat - s.time.aoOutage
  let out := (n * aoFix : Int) * 10000 / (10000 + s.power.aoErr.toInt)
  let b := s.fixNow + out
  let s := s.modTime fun t =>
    { t with count := 0, base := b, anchor := 0, oldBase := b, oldAnchor := 0, oldRho := t.rho, discont := true }
  let s := if s.linkUp then syncTime s else s
  raise 149 evTimeDiscontinuity (BitVec.ofInt 32 (out / (65536 * 1000))) 0 (loseLock s)

/-! ## Registers (R410, R545) -/

/-- A read of TIME_NOW_LO: the low word, the high word latched (R410). -/
def readTimeNow (s : State) : State :=
  readAs (s.timeNs.setWidth 32) (s.modTime fun t => { t with nowHi := (s.timeNs >>> 32).setWidth 32 })

/-- TIME_NOW_READ. -/
def execTimeNowRead (s : State) : Host.Outcome State Fault Refusal := .next (hostAccess .p 0x68000 0 true readTimeNow s)

/-- A read of PWR_AO_TIME_LO: the low word, the high half latched (R545). -/
def readAoTime (s : State) : State :=
  readAs (s.time.ao.setWidth 32) (s.modTime fun t => { t with aoHi := (s.time.ao >>> 32).setWidth 16 })

/-- AO_TIME_READ. -/
def execAoTimeRead (s : State) : Host.Outcome State Fault Refusal := .next (hostAccess .p 0x1030 0 true readAoTime s)

/-- A write of TIME_STATUS: STEP_REFUSED and DISCONT are W1C (R410). -/
def writeTimeStatus (v : Word32) (s : State) : State :=
  s.modTime fun t => { t with stepRefused := t.stepRefused && !bitAt v 1, discont := t.discont && !bitAt v 2 }

end Sys2Proof.Machine
end

