-- ==== Sys2Proof/Machine/Net.lean ====
section
/-!
DEFINITION. The network ports (R380 to R398, R408): PRP, host frames, transmit timestamps. Pair frames that arrive stand in `Pair.inbox`
for the rows of Pair.lean.
-/
namespace Sys2Proof.Machine

open Sys2Proof

/-! ## Frames -/

/-- The port has link: its PHY's, while PD_NET works (R380, R518). -/
def State.linkOf (s : State) (p : PortId) : Bool := s.net.ports[p].link && s.netRuns

/-- UDP destination port of the datagram that starts at an offset. -/
def udpPort (l : List Byte) (o : Nat) : Nat := ofBe (bytesAt l (o + 2) 2)

/-- A PTP frame (R394). -/
def isPtp (l : List Byte) : Bool :=
  let e := etherType l
  let o := e.2
  e.1 == 0x88F7 ||
    (e.1 == 0x0800 && leAt l (o + 9) 1 == 17 &&
      (let q := udpPort l (o + 4 * (leAt l o 1 % 16)); q == 319 || q == 320)) ||
    (e.1 == 0x86DD && leAt l (o + 6) 1 == 17 && (let q := udpPort l (o + 40); q == 319 || q == 320))

/-- Bytes of a frame replaced from an offset on. -/
def splice (l : List Byte) (o : Nat) (x : List Byte) : List Byte := l.take o ++ x ++ l.drop (o + x.length)

/-- One-step insertion at time t: Sync and Pdelay_Resp over EtherType 0x88F7 with twoStepFlag clear (R395). Message layout of
IEEE 1588-2019 (PRESUMED, notes/assumptions/37.md). -/
def oneStep (t : Word64) (l : List Byte) : List Byte :=
  let e := etherType l
  let o := e.2
  let type := leAt l o 1 % 16
  if e.1 ≠ 0x88F7 ∨ (leAt l (o + 6) 1).testBit 1 then l
  else if type = 0 then splice l (o + 34) (beBytes 6 (t.toNat / 1000000000) ++ beBytes 4 (t.toNat % 1000000000))
  else if type = 3 then
    splice l (o + 8) (beBytes 8 ((ofBe (bytesAt l (o + 8) 8) + t.toNat * 65536) % 2 ^ 64))
  else l

/-- A well-formed redundancy control trailer: sequence number and LAN identifier (R383, R384). -/
def rctOf (l : List Byte) : Option (Word16 × Nat) :=
  let n := l.length
  let t := l.drop (n - 6)
  let w := ofBe (bytesAt t 2 2)
  if 20 ≤ n ∧ ofBe (bytesAt t 4 2) = 0x88FB ∧ (w / 4096 = 10 ∨ w / 4096 = 11) ∧ w % 4096 = (n - (etherType l).2) % 4096 then
    some (BitVec.ofNat 16 (ofBe (bytesAt t 0 2)), w / 4096)
  else none

/-- The PRP supervision address (R381). -/
def State.supAddr (s : State) : List Byte := [0x01, 0x15, 0x4E, 0x00, 0x01, BitVec.ofNat 8 (s.rf rNetPrpCfg 0 8)]

/-- A received frame's destination is one of R381. -/
def State.accepts (s : State) (dst : List Byte) : Bool :=
  dst == s.mac || dst == List.replicate 6 0xFF || dst == s.supAddr ||
    (List.range 16).any (fun k => s.rb (rNetMcastHi k) 16 && dst == s.macOf (rNetMcastLo k) (rNetMcastHi k)) ||
    (s.rb rNetCfg 0 && (dst == [0x01, 0x1B, 0x19, 0, 0, 0] || dst == [0x01, 0x80, 0xC2, 0, 0, 0x0E]))

/-! ## NET_TX (R387, R388, R396) -/

/-- The ports that PATH names (R344); the reserved 0b11 is held against the link of both, its RANGE coming after STATE (R339, R387). -/
def pathPorts (path : Nat) : List PortId := if path = 1 then [0] else if path = 2 then [1] else [0, 1]

/-- The frame's length lets it be read from host memory (R387). -/
def txLenOk (d : List Byte) : Bool := decide (14 ≤ leAt d 24 2) && decide (leAt d 24 2 ≤ 1518)

/-- The first check of R387 that fails of those that need no frame, STATE before RANGE and the first operand out of range (R339), as STATUS and
DETAIL. -/
def txPre (d : List Byte) (links : Bool) : Option (Word16 × Word32) :=
  if !links then some (stState, 1)
  else if !txLenOk d then some (stRange, 24)
  else if dByte d 26 % 4 = 3 then some (stRange, 26)
  else none

/-- The first check of R387 that fails, given the frame's bytes. -/
def txCheck (d : List Byte) (l : List Byte) (links : Bool) (etype : Nat) : Option (Word16 × Word32) :=
  (txPre d links).or
    (if dByte d 26 % 4 = 0 ∧ !isPtp l ∧ 1512 < leAt d 24 2 then some (stRange, 0xFFFF)
    else if (etherType l).1 = etype then some (stRange, 16)
    else none)

/-- Frames at a port that owe a timestamp not taken yet (R396). -/
def Port.owing (q : Port) : Nat := ((q.hostQ ++ q.sending.toList).filter fun f => f.stamp.isSome && !f.stamped).length

/-- The lowest timestamp tag that owes nothing (R396). -/
def State.freeTag (s : State) : Option (Fin 16) := (List.finRange 16).find? fun t => s.net.tagOwed[t] == 0

/-- The ports of a NET_TX that have link. -/
def State.txPorts (s : State) (d : List Byte) : List PortId := (pathPorts (dByte d 26 % 4)).filter fun p => s.linkOf p

/-- The waits of a NET_TX with TS_REQ are over (R396). -/
def State.txMay (s : State) (d : List Byte) : Bool :=
  dByte d 26 / 4 % 2 == 0 || (s.txPorts d).all fun p => decide ((s.net.ports[p]).owing < 4)

/-- A frame put into a queue of host frames: at its end, that of a timed NET_TX before all but the timed ones (R388). -/
def enqueueTx (f : TxFrame) (l : List TxFrame) : List TxFrame :=
  if f.timed then l.takeWhile (·.timed) ++ f :: l.dropWhile (·.timed) else l ++ [f]

/-- A frame handed to the queues of its ports: with an RCT under PATH 0b00 unless it is a PTP frame (R383, R387, R394). -/
def queueFrame (ports : List PortId) (rct : Bool) (f : TxFrame) (s : State) : State :=
  let l := padFrame f.bytes
  let n := s.net.prpSeq
  let s := if rct then s.modNet fun x => { x with prpSeq := n + 1 } else s
  forList (fun p t => t.modPort p fun q => { q with hostQ := enqueueTx { f with bytes := if rct then withRct l n p else l } q.hostQ }) ports s

/-- NET_TX as it is applied, with its frame read from host memory (R387, R388, R396). It completes when every port has taken the frame. -/
def doNetTx (k : Slot) (s : State) : State :=
  let d := s.desc k
  let l := ((s.workOf k).bind Work.data).getD []
  let ports := s.txPorts d
  match txCheck d l (!ports.isEmpty) (s.rf rNetPairCfg 0 16) with
  | some f => finishFail k f.1 f.2 s
  | none =>
    let asn := match s.entry k with | some e => e.asn | none => 0
    let rct := dByte d 26 % 4 == 0 && !isPtp l
    if dByte d 26 / 4 % 2 = 0 then applying k (queueFrame ports rct { bytes := l, cmd := some k, timed := s.isTimed k } s)
    else match s.freeTag with
      | none => s
      | some t =>
        let g := s.net.tagGen[t] + 1
        let s := s.modNet fun x => { x with tagGen := upd x.tagGen t fun _ => g, tagOwed := upd x.tagOwed t fun _ => ports.length }
        applying k (queueFrame ports rct { bytes := l, cmd := some k, stamp := some (asn, BitVec.ofNat 4 t.val, g), timed := s.isTimed k } s)

/-- RESULT of a NET_TX: the tag and generation of its timestamps (R344). -/
def stampResult (f : TxFrame) : Word64 :=
  match f.stamp with
  | some p => BitVec.ofNat 64 (p.2.1.toNat + 16 * p.2.2.toNat)
  | none => 0

/-- A NET_TX that waits for data, or whose data has come, or whose read failed (R345, R576). -/
def State.dataReady (s : State) (k : Slot) : Bool :=
  match s.workOf k with
  | some w => w.data.isSome || w.dmaFailed
  | none => false

/-- A command whose data could not be read ends (R576). -/
def dataFailed (k : Slot) (s : State) : Bool := match s.workOf k with | some w => w.dmaFailed | none => false

/-- NET_TX: the checks that need no frame, the frame read from host memory once, the wait of TS_REQ, the rest (R387, R396, R576;
notes/assumptions/7.md). -/
def runNetTx (k : Slot) (s : State) : State :=
  let d := s.desc k
  match txPre d (!(s.txPorts d).isEmpty) with
  | some f => finishFail k f.1 f.2 s
  | none =>
    if !s.dataReady k then fetchData k (BitVec.ofNat 64 (leAt d 16 8)) s
    else if dataFailed k s then finishFail k stAbortedFault 0xFFFF0003 s
    else if s.txMay d then doNetTx k s else s

/-- NET_TX. -/
def execNetTx (slot : Slot) (s : State) : Host.Outcome State Fault Refusal := immediate slot 0x20 (runNetTx slot) s

/-- A port has taken or dropped a NET_TX's frame: the command completes when no port holds it any more (R388). -/
def txDone (f : TxFrame) (p : PortId) (took : Bool) (s : State) : State :=
  match f.cmd with
  | none => s
  | some k =>
    let old := (s.net.txTook.lookup k).getD 0
    let bits := if took then old ||| 2 ^ p.val else old
    if (List.finRange 2).any fun q => (s.net.ports[q]).hostQ.any fun g => g.cmd == some k then
      s.modNet fun x => { x with txTook := (k, bits) :: x.txTook.filter fun e => e.1 ≠ k }
    else
      finish k stOk (BitVec.ofNat 32 bits) (stampResult f) true (s.modNet fun x => { x with txTook := x.txTook.filter fun e => e.1 ≠ k })

/-- PORT_FRAME_BOUNDARY: the frame on the wire is at its end, and the next one starts, a pair frame before any host frame (R392). -/
def portBoundary (p : PortId) (s : State) : State :=
  let q := s.net.ports[p]
  let s := if q.sending.isSome then s.modPort p fun q => { q with sending := none, txFrames := q.txFrames + 1 } else s
  match q.pairQ, q.hostQ with
  | f :: rest, _ => s.modPort p fun q => { q with pairQ := rest, sending := some f }
  | [], f :: rest => txDone f p true (s.modPort p fun q => { q with hostQ := rest, sending := some { f with cmd := none } })
  | [], [] => s

/-- PORT_FRAME_BOUNDARY: a frame ends only after its start-of-frame delimiter has passed (R393). -/
def execPortFrameBoundary (p : PortId) (s : State) : Host.Outcome State Fault Refusal :=
  let q := s.net.ports[p]
  .next (if s.linkOf p && (match q.sending with | some f => f.stamped | none => true) then settle s (portBoundary p s) else s)

/-! ## Transmit timestamps (R393 to R398) -/

/-- Corrected local time for a timestamp: in the tick of a TIME_ADJUST the time before it (R393). -/
def State.stampNs (s : State) : Word64 :=
  let t := s.time
  if t.lastAdjust = s.now then BitVec.ofInt 64 ((correctedFix t.count t.oldBase t.oldAnchor t.oldRho).tdiv 65536) else s.timeNs

/-- A tag's timestamp has entered the queue or been dropped (R396). -/
def payTag (t : BitVec 4) (s : State) : State :=
  s.modNet fun x => { x with tagOwed := upd x.tagOwed t.toFin fun n => n - 1 }

/-- A transmit timestamp at its queue (R397, R398). -/
def queueStamp (e : TxStamp) (s : State) : State :=
  let s := payTag e.tag s
  if 16 ≤ s.net.txq.length then
    let told := s.net.txqReported
    let s := s.modNet fun x => { x with txqDrop := satInc x.txqDrop, txqReported := true }
    if told then s else raise 148 evTxqOverflow 0 0 s
  else s.modNet fun x => { x with txq := x.txq ++ [e] }

/-- TX_TIMESTAMP: the start-of-frame delimiter of the frame being sent passes the interface (R393, R395, R396). -/
def txTimestamp (p : PortId) (f : TxFrame) (s : State) : State :=
  let t := s.stampNs
  let bytes := if s.rb rNetCfg 1 && !f.pair then oneStep t f.bytes else f.bytes
  let s := s.modPort p fun q => { q with sending := some { f with bytes := bytes, stamped := true } }
  match f.stamp with
  | none => s
  | some x => queueStamp { ts := t.setWidth 32, asn := x.1, tag := x.2.1, gen := x.2.2, port := BitVec.ofNat 2 (p.val + 1) } s

/-- TX_TIMESTAMP. -/
def execTxTimestamp (p : PortId) (s : State) : Host.Outcome State Fault Refusal :=
  .next (match (s.net.ports[p]).sending with
    | some f => if f.stamped || !s.netRuns then s else settle s (txTimestamp p f s)
    | none => s)

/-- A read of TIME_TXQ_E0: the oldest timestamp, the rest of its entry latched; 0 and no latch from an empty queue (R397). -/
def readTxq (s : State) : State :=
  match s.net.txq with
  | [] => readAs 0 (s.modNet fun x => { x with txqLatch := none })
  | e :: rest =>
    readAs e.ts (s.modNet fun x =>
      { x with txq := rest, txqLatch := some e, txqReported := x.txqReported && decide (8 ≤ rest.length) })

/-- TIME_TXQ_E0_READ. -/
def execTimeTxqE0Read (s : State) : Host.Outcome State Fault Refusal := .next (hostAccess .p 0x68020 0 true readTxq s)

/-! ## Receive buffers (R389) -/

/-- A filled buffer's frame reaches host memory, while the C-die and the host can be reached and no replay is to run; else it waits (R365, R389,
R576). -/
def deliverOne (e : RxDone) (s : State) : State :=
  if s.pReach && s.power.cRun && !s.rings.replaying && s.host.up && !s.host.endpointReset then
    finish e.buf.slot e.status e.detail e.result true (hostWrite e.buf.addr e.data s)
  else s.modNet fun x => { x with rxHeld := x.rxHeld ++ [e] }

/-- The frames that wait for delivery tried again, oldest first. -/
def deliverHeld (s : State) : State :=
  forList deliverOne s.net.rxHeld (s.modNet fun x => { x with rxHeld := [] })

/-- A buffer in its place by the ASN of its posting (R389). -/
def insBuf (b : RxBuf) : List RxBuf → List RxBuf
  | [] => [b]
  | x :: t => if x.asn != b.asn && asnAtOrAfter x.asn b.asn then b :: x :: t else x :: insBuf b t

/-- NET_RX_POST as it is applied: the buffer is lent to the receive unit (R389). -/
def doNetRxPost (k : Slot) (s : State) : State :=
  let d := s.desc k
  let n := leAt d 24 2
  if 256 ≤ s.net.bufs.length then finishFail k stState 0x100 s
  else if !hostSpan (leAt d 16 8) n then finishFail k stRange 16 s
  else if n < 64 ∨ 2048 < n then finishFail k stRange 24 s
  else
    let asn := match s.entry k with | some e => e.asn | none => 0
    modWork k (fun w => { w with kind := .lent })
      (s.modNet fun x => { x with bufs := insBuf { slot := k, asn := asn, addr := BitVec.ofNat 64 (leAt d 16 8), len := n } x.bufs, nobufReported := false })

/-- NET_RX_POST. -/
def execNetRxPost (slot : Slot) (s : State) : Host.Outcome State Fault Refusal := immediate slot 0x21 (doNetRxPost slot) s

/-- A frame for the host: into the first buffer, or dropped (R389). -/
def hostFrame (p : PortId) (rct : Bool) (l : List Byte) (s : State) : State :=
  match s.net.bufs with
  | [] =>
    let told := s.net.nobufReported
    let s := s.modNet fun x => { x with nobufCnt := satInc x.nobufCnt, nobufReported := true }
    if told then s else raise 147 evRxNoBuffer 0 0 s
  | b :: rest =>
    let n := min l.length b.len
    let clamped := decide (b.len < l.length)
    let flags := p.val + 1 + 4 * b2n rct + 8 * b2n (isPtp l)
    deliverOne
      { buf := b, data := l.take n, status := if clamped then stClamped else stOk, detail := if clamped then BitVec.ofNat 32 l.length else 0
        result := BitVec.ofNat 64 (n + 2 ^ 16 * flags + 2 ^ 32 * (s.stampNs.setWidth 32).toNat) }
      (s.modNet fun x => { x with bufs := rest })

/-! ## Reception (R381, R384 to R386, R390, R391) -/

/-- A copy at the duplicate discard: whether it is to be delivered (R384, R385). -/
def prpCopy (src : BitVec 48) (seq : Word16) (s : State) : Bool × State :=
  match s.net.nodes.find? fun n => n.mac == src with
  | some n =>
    let live := n.seen.filter fun e => decide (s.now ≤ e.2 + msTicks 400)
    let dup := live.any fun e => e.1 == seq
    (!dup, s.modNet fun x =>
      { x with
        dup := if dup then x.dup + 1 else x.dup
        nodes := x.nodes.map fun m => if m.mac = src then { m with last := s.now, seen := if dup then live else live ++ [(seq, s.now)] } else m })
  | none =>
    if s.net.nodes.length < 128 then
      (true, s.modNet fun x => { x with nodes := x.nodes ++ [{ mac := src, seen := [(seq, s.now)], last := s.now }] })
    else if s.net.nodeFullFor.contains src then (true, s)
    else (true, raise 146 evPrpTableFull 0 0 (s.modNet fun x => { x with nodeFullFor := src :: x.nodeFullFor }))

/-- A frame has come from a source: its entry in the node table is not idle (R385, R386). -/
def touchNode (src : BitVec 48) (s : State) : State :=
  s.modNet fun x => { x with nodes := x.nodes.map fun m => if m.mac = src then { m with last := s.now } else m }

/-- A copy with the wrong LAN identifier (R384, R408). -/
def wrongLan (p : PortId) (s : State) : State :=
  let last := s.net.wrongLanEvent
  let s := s.modPort p fun q => { q with wrongLan := satInc q.wrongLan }
  if s.onceSecond last then (raise 146 evPrpWrongLan 0 0 s).modNet fun x => { x with wrongLanEvent := some s.now } else s

/-- A pair frame: to the pairing hardware if its CRC and length are good and its source is the partner (R391, R416). -/
def pairFrame (l : List Byte) (s : State) : State :=
  if bytesAt l 6 6 ≠ s.partnerMac then
    let last := s.net.foreignEvent
    let s := s.modNet fun x => { x with foreignCnt := satInc x.foreignCnt }
    if s.onceSecond last then (raise 147 evRxForeign 0 0 s).modNet fun x => { x with foreignEvent := some s.now } else s
  else
    let y := l.drop (etherType l).2
    let n := ofBe (bytesAt y 2 2)
    let body := y.take (8 + n)
    let type := leAt y 0 1
    if s.rb rPairCfg 0 && decide (1 ≤ type) && decide (type ≤ 7) && decide (12 + n ≤ y.length) && BitVec.ofNat 32 (ofBe (bytesAt y (8 + n) 4)) == crc32 body then
      s.modPair fun x => { x with inbox := x.inbox ++ [body], lastRx := s.now }
    else
      let s := s.modPair fun x => { x with frameErr := x.frameErr + 1 }
      if type = 2 then staleCopy s else s

/-- A frame whose trailer, if any, has been removed, at its destination (R386, R390, R391). -/
def deliverFrame (p : PortId) (rct : Bool) (l : List Byte) (s : State) : State :=
  if (etherType l).1 = s.rf rNetPairCfg 0 16 then pairFrame l s
  else if bytesAt l 0 6 = s.supAddr then (if s.rb rNetPrpCfg 8 then hostFrame p rct l s else s)
  else hostFrame p rct l s

/-- FRAME_RECEIVE: a frame without its FCS arrives at a port. -/
def frameReceive (p : PortId) (l : List Byte) (fcsOk : Bool) (s : State) : State :=
  if !fcsOk then s.modPort p fun q => { q with fcsErr := satInc q.fcsErr }
  else
    let s := s.modPort p fun q => { q with rxFrames := q.rxFrames + 1, lastRx := s.now, silent := false }
    if !s.accepts (bytesAt l 0 6) then s.modPort p fun q => { q with filtered := satInc q.filtered }
    else
      let s := touchNode (BitVec.ofNat 48 (ofBe (bytesAt l 6 6))) s
      match rctOf l with
      | none => deliverFrame p false l s
      | some t =>
        let s := if t.2 = 10 + p.val then s else wrongLan p s
        let q := if isPtp l then (true, s) else prpCopy (BitVec.ofNat 48 (ofBe (bytesAt l 6 6))) t.1 s
        if q.1 then deliverFrame p true (l.take (l.length - 6)) q.2 else q.2

/-- FRAME_RECEIVE: a frame of any length; one that ends within its destination address names none of R381's. -/
def execFrameReceive (p : PortId) (frame : List Byte) (fcsOk : Bool) (s : State) : Host.Outcome State Fault Refusal :=
  .next (if s.linkOf p then settle s (frameReceive p frame fcsOk s) else s)

/-- SUPERVISION_FRAME_SEND: every LIFE_MS a PRP-1 supervision frame of TLV type 20 on both ports (R386). Layout of IEC 62439-3
(PRESUMED, notes/assumptions/37.md). -/
def execSupervisionFrameSend (s : State) : Host.Outcome State Fault Refusal :=
  .next (if s.netRuns && decide (s.net.lastSup + msTicks (s.rf rNetPrpCfg 16 16) ≤ s.now) then
      let l := s.supAddr ++ s.mac ++ beBytes 2 0x88FB ++ beBytes 2 0x0001 ++ beBytes 2 s.net.supSeq.toNat ++ [20, 6] ++ s.mac ++ [0, 0]
      queueFrame ((List.finRange 2).filter fun p => s.linkOf p) true { bytes := l }
        (s.modNet fun x => { x with lastSup := s.now, supSeq := x.supSeq + 1 })
    else s)

/-- LAN_SILENT: nothing received for three supervision intervals while the other port has received frames (R386). -/
def execLanSilent (p : PortId) (s : State) : Host.Outcome State Fault Refusal :=
  let span := 3 * msTicks (s.rf rNetPrpCfg 16 16)
  let q := s.net.ports[p]
  let o := s.net.ports[(1 - p : PortId)]
  .next (if s.netRuns && !q.silent && decide (q.lastRx + span ≤ s.now) && decide (s.now < o.lastRx + span) && decide (q.lastRx < o.lastRx) then
      settle s (raise (srcPort p) evPortSilent 0 0 (s.modPort p fun q => { q with silent := true }))
    else s)

/-- PRP_NODE_EXPIRE: an entry without traffic for 60 s is forgotten (R385). -/
def execPrpNodeExpire (node : BitVec 48) (s : State) : Host.Outcome State Fault Refusal :=
  .next (if s.net.nodes.any fun n => n.mac == node && decide (n.last + sTicks 60 ≤ s.now) then
      s.modNet fun x => { x with nodes := x.nodes.filter (fun n => n.mac ≠ node), nodeFullFor := [] }
    else s)

/-! ## Link (R380, R408) -/

/-- LINK_UP. -/
def execLinkUp (p : PortId) (s : State) : Host.Outcome State Fault Refusal :=
  .next (if s.netRuns && !(s.net.ports[p]).link then
      settle s (raise (srcPort p) evPortUp 0 0 (unstand (srcPort p) evPortDown (s.modPort p fun q => { q with link := true })))
    else s)

/-- A port drops what it holds: a frame's timestamp is dropped with it, a NET_TX whose every port has taken or dropped it completes
(R388, R396). -/
def dropFrames (p : PortId) (s : State) : State :=
  let q := s.net.ports[p]
  let owed := (q.hostQ ++ q.sending.toList).filterMap fun f => if f.stamped then none else f.stamp.map fun x => x.2.1
  let s := forList payTag owed (s.modPort p fun q => { q with hostQ := [], pairQ := [], sending := none })
  forList (fun f t => txDone f p false t) q.hostQ s

/-- LINK_DOWN. -/
def execLinkDown (p : PortId) (s : State) : Host.Outcome State Fault Refusal :=
  .next (if (s.net.ports[p]).link then
      settle s (stand (srcPort p) evPortDown (raise (srcPort p) evPortDown 0 0 (dropFrames p (s.modPort p fun q => { q with link := false }))))
    else s)

end Sys2Proof.Machine
end

