-- ==== Sys2Proof/Machine/Island.lean ====
section
/-!
DEFINITION. Driver islands and switch protection (spec/07_driver_islands.md). The gate edges and the wrap stand in Region.lean.
-/
namespace Sys2Proof.Machine

open Sys2Proof

/-- Register side of a unit: 0 high, 1 low (R261). -/
def side (u : UnitId) : Nat := if isHigh u then 0 else 1

/-- Strengths at the island's start (R243, R247, R258). -/
def startStrengths (u : UnitId) (s : State) : State :=
  let w := s.reg (rIslAdaptLim (islandOf u) (side u))
  s.modUnit u fun x =>
    { x with src := BitVec.ofNat 4 (fld w 0 4), snk := BitVec.ofNat 4 (fld w 4 4), srcLim := 0, snkLim := 0,
             srcLimDone := false, snkLimDone := false, softSnk := if x.softOff.isSome then x.softSnk else none }

/-- A unit's gate off by soft turn-off at SOFT_STEP, which a running one already is (R249, R251). A unit that is off has nothing to turn
off. -/
def softTurnOff (u : UnitId) (desat : Bool) (s : State) : State :=
  let step : BitVec 4 := BitVec.ofNat 4 (s.rf (rIslDesat (islandOf u) (side u)) 18 4)
  s.modUnit u fun x =>
    { x with
      softSnk := if x.softOff.isNone && (x.gate || desat) then some step else x.softSnk
      softOff := x.softOff.or (if x.gate || desat then some s.now else none)
      softIsDesat := desat || (x.softIsDesat && x.softOff.isSome)
      gate := false }

/-- The UVLO signal asserts at the P-die: its event, and its condition (R238, R444). -/
def uvloSeen (u : UnitId) (s : State) : State :=
  stand (srcUnit u) evUnitUvlo (raiseFull (srcUnit u) evUnitUvlo 0 0 (some (.island (islandOf u))) false s)

/-- A unit's UVLO as the P-die finds it when it evaluates the island again (R240, R257). -/
def uvloFound (u : UnitId) (s : State) : State :=
  if !s.uvloSignal u then unstand (srcUnit u) evUnitUvlo s
  else if evUnitUvlo.code ∈ (s.events.src[srcUnit u]).standing then s
  else uvloSeen u s

/-- The P-die evaluates the island's signals again: the lost link has ended (R240, R257, R452). -/
def evaluate (i : IslandId) (s : State) : State :=
  let s := unstand (srcIsland i) evIslandLinkLost (s.modIsland i fun x => { x with evaluated := true })
  uvloFound (unitL i) (uvloFound (unitH i) s)

/-! ## The island link (R240, R241) -/

/-- A link loss from either side holds both units off; the P-die reports the loss of the return link it evaluates (R240). -/
def linkLost (i : IslandId) (atIsland : Bool) (s : State) : State :=
  let seen := !atIsland && (s.islands[i]).evaluated
  let s := s.modIsland i fun x =>
    { x with link := false, linkHold := true, evaluated := x.evaluated && atIsland, returnUp := x.returnUp && atIsland }
  if seen then
    stand (srcIsland i) evIslandLinkLost (raiseFull (srcIsland i) evIslandLinkLost 0 0 (some (.island i)) false s)
  else s

/-- ISLAND_LINK_LOST. -/
def execIslandLinkLost (i : IslandId) (atIsland : Bool) (s : State) : Host.Outcome State Fault Refusal :=
  let x := s.islands[i]
  .next (if (x.link || (!atIsland && x.returnUp)) && s.power.pRun then settle s (linkLost i atIsland s) else s)

/-- ISLAND_LINK_RELOCK: configuration and strengths reloaded; a READY island's signals are evaluated again (R241). -/
def execIslandLinkRelock (i : IslandId) (s : State) : Host.Outcome State Fault Refusal :=
  let x := s.islands[i]
  .next (if !(x.link && x.returnUp) && x.bias && s.power.pRun then
      let t := s.modIsland i fun x => { x with link := true, returnUp := true }
      settle s (if x.ready then evaluate i t else t)
    else s)

/-! ## The interlock (R242) -/

/-- ISLAND_INTERLOCK: the second on command has arrived. -/
def execIslandInterlock (i : IslandId) (s : State) : Host.Outcome State Fault Refusal :=
  let x := s.islands[i]
  .next (if s.units[unitH i].cmdOn && s.units[unitL i].cmdOn && !x.ilkActive then
      let off (u : UnitId) (t : State) : State := t.modUnit u fun g => { g with gate := false }
      let t := off (unitL i) (off (unitH i) s)
      let t := t.modIsland i fun y => { y with ilkActive := true, ilkCnt := satInc y.ilkCnt }
      let due := match x.ilkEvent with | none => true | some n => decide (n + msTicks 10 ≤ s.now)
      settle s (if due then (raise (srcIsland i) evIslandInterlock 0 0 t).modIsland i fun y => { y with ilkEvent := some s.now } else t)
    else s)

/-! ## Adaptive drive (R243 to R247) -/

/-- One step of adaptive drive: the direction a measured time calls for with target T and band B (R245). -/
def stepWanted (t tgt band : Nat) : Int := if tgt + band < t then 1 else if t + band < tgt then -1 else 0

/-- The strength after a step (R245). -/
def stepStrength (cur lo hi : Nat) (d : Int) : Nat :=
  if d = 1 ∧ cur < hi then cur + 1 else if d = -1 ∧ lo < cur then cur - 1 else cur

/-- The count of measurements that called for a further step at a limit (R247). -/
def stepCount (n d : Int) (moved : Bool) : Int := if moved || d == 0 then 0 else if 0 ≤ n * d then n + d else d

/-- The return link of an island carries its readings to the P-die (R239). -/
def State.returns (s : State) (i : IslandId) : Bool := (s.islands[i]).bias && (s.islands[i]).returnUp

/-- A valid measurement moves the strength of its edge kind (R245, R247). -/
def adapt (u : UnitId) (on : Bool) (t : Nat) (s : State) : State :=
  let tgt := s.reg (rIslAdaptTgt (islandOf u) (side u))
  let lim := s.reg (rIslAdaptLim (islandOf u) (side u))
  let x := s.units[u]
  let cur := if on then x.src.toNat else x.snk.toNat
  let d := stepWanted t (fld tgt (if on then 0 else 12) 12) (16 * fld tgt 24 4)
  let new := stepStrength cur (fld lim (if on then 8 else 16) 4) (fld lim (if on then 12 else 20) 4) d
  let moved := new != cur
  let n := stepCount (if on then x.srcLim else x.snkLim) d moved
  let done := !moved && (if on then x.srcLimDone else x.snkLimDone)
  let report := n.natAbs == 64 && !done
  let s := s.modUnit u fun x =>
    if on then { x with src := BitVec.ofNat 4 new, srcLim := n, srcLimDone := done || report }
    else { x with snk := BitVec.ofNat 4 new, snkLim := n, snkLimDone := done || report }
  if report then raise (srcUnit u) evUnitStrengthAtLimit 0 0 s else s

/-- Adaptive drive takes a unit's measurements: enabled and none of R246's cases. -/
def State.adapts (s : State) (u : UnitId) : Bool :=
  let x := s.units[u]
  let i := islandOf u
  s.rb (rIslAdaptLim i (side u)) 24 && !x.adaptFrozen && x.tripCyc == 0 && x.tripLatch == 0 && x.softOff.isNone && !x.testHold &&
    !(s.units[unitH i].cmdOn && s.units[unitL i].cmdOn)

/-- SWITCHING_TIME_MEASURED: `vLeg` in mV, `fine` the time between the thresholds, `cross` that from the edge command to the crossing of
the second one, both in fine steps (R244). It reaches the P-die while the return link is locked (R239). -/
def execSwitchingTimeMeasured (u : UnitId) (turnOn : Bool) (vLeg : Nat) (fine cross : Nat) (s : State) : Host.Outcome State Fault Refusal :=
  .next (if !s.returns (islandOf u) || !s.power.pRun then s else
    let valid := decide (50000 ≤ vLeg) && decide (1 ≤ fine) && decide (fine ≤ 4095) && decide (cross ≤ 4095)
    let t := s.modUnit u fun x =>
      if turnOn then { x with tonValid := valid, ton := if valid then BitVec.ofNat 12 fine else x.ton }
      else { x with toffValid := valid, toff := if valid then BitVec.ofNat 12 fine else x.toff }
    settle s (if valid && s.adapts u then adapt u turnOn fine t else t))

/-! ## UVLO (R237, R238) -/

/-- V_ON of an island in mV (R233). -/
def State.vOn (s : State) (i : IslandId) : Nat := 15000 + 500 * s.rf (rIslCfg i) 0 4

/-- UVLO: the unit's on rail, in mV, is below V_ON - 2.5 V and the comparator asserts; the island turns the unit off and holds it off
(R237, R238). A comparator under test reports nothing (R255). -/
def execUvlo (u : UnitId) (rail : Nat) (s : State) : Host.Outcome State Fault Refusal :=
  .next (if s.units[u].uvlo || decide (s.vOn (islandOf u) ≤ rail + 2500) then s else
    let t := (softTurnOff u false s).modUnit u fun x => { x with uvlo := true, uvloHeld := true, uvloClean := false }
    settle s (if t.uvloSignal u then uvloSeen u t else t))

/-- UVLO_RELEASE: the rail, in mV, is above V_ON - 2.0 V again (R237). -/
def execUvloRelease (u : UnitId) (rail : Nat) (s : State) : Host.Outcome State Fault Refusal :=
  .next (if s.units[u].uvlo && decide (s.vOn (islandOf u) < rail + 2000) then
      let t := s.modUnit u fun x => { x with uvlo := false }
      settle s (if (s.islands[islandOf u]).evaluated then unstand (srcUnit u) evUnitUvlo t else t)
    else s)

/-! ## Desaturation (R248 to R252) -/

/-- DESATURATION_ARMED: BLANK ticks after the on command that the island holds, which an interlock or a hold at the island does not end
(R242, R248; notes/assumptions/153.md). -/
def execDesaturationArmed (u : UnitId) (s : State) : Host.Outcome State Fault Refusal :=
  let x := s.units[u]
  let w := s.reg (rIslDesat (islandOf u) (side u))
  .next (match x.onAt with
    | none => s
    | some t =>
      if x.cmdOn && !x.armed && bitAt w 31 && decide (t + fld w 0 11 ≤ s.now) then s.modUnit u fun x => { x with armed := true } else s)

/-- A detection: soft turn-off of this unit only, its hold, its signal and its event (R249 to R252, R259). -/
def desaturate (u : UnitId) (s : State) : State :=
  let t := (softTurnOff u true s).modUnit u fun x =>
    { x with armed := false, armedOff := none, onAt := none, desatHold := true, desatSig := true, desatSigEnd := none, desatCnt := satInc x.desatCnt }
  if t.desatSignal u then raiseFull (srcUnit u) evUnitDesaturation 0 0 (some (.island (islandOf u))) false t else t

/-- DESATURATION: the armed comparator reads a sense voltage, in mV, above THRESH, or did in the tick of the off command (R248, R251). -/
def execDesaturation (u : UnitId) (sense : Nat) (s : State) : Host.Outcome State Fault Refusal :=
  let x := s.units[u]
  let above := decide (100 * s.rf (rIslDesat (islandOf u) (side u)) 11 7 < sense)
  .next (if above && (x.armed || x.armedOff == some s.now) then settle s (desaturate u s) else s)

/-- SOFT_TURN_OFF_END: step 6 of R252; the signal deasserts 24 ticks later. -/
def execSoftTurnOffEnd (u : UnitId) (s : State) : Host.Outcome State Fault Refusal :=
  .next (match s.units[u].softOff with
    | none => s
    | some t =>
      if s.now < t + 8 + s.rf (rIslDesat (islandOf u) (side u)) 22 8 then s
      else settle s (s.modUnit u fun x =>
        { x with softOff := none, softIsDesat := false, softSnk := some 15, desatSigEnd := if x.softIsDesat then some (s.now + 24) else x.desatSigEnd }))

/-! ## Comparator self-test (R253 to R255) -/

/-- The unit of a comparator in the order of ISL_TEST.START. -/
def testUnit (i : IslandId) (n : Fin 4) : UnitId := if n.val % 2 = 0 then unitH i else unitL i

/-- A comparator's two bits of ISL_TEST.RESULT (R261). -/
def setResult (w : BitVec 8) (n : Fin 4) (v : Nat) : BitVec 8 :=
  BitVec.ofNat 8 (w.toNat - fld w (2 * n.val) 2 * 4 ^ n.val + v * 4 ^ n.val)

/-- A write of ISL_TEST: the requested comparators of held-off units are tested in bit order, the others refused (R253, R254). A write
while a test runs has no effect (notes/assumptions/25.md). -/
def writeIslTest (i : IslandId) (v : Word32) (s : State) : State :=
  if !(s.islands[i]).testLeft.isEmpty then s else
  let asked := (List.finRange 4).filter fun n => bitAt v n.val
  let ok := asked.filter fun n => s.heldForTest (testUnit i n)
  let no := asked.filter fun n => !s.heldForTest (testUnit i n)
  let s := s.modIsland i fun x =>
    { x with
      testLeft := ok, testAt := s.now
      testResult := no.foldl (fun w n => setResult w n 3) (ok.foldl (fun w n => setResult w n 0) x.testResult) }
  forList (fun n t => t.modUnit (testUnit i n) fun x => { x with testHold := true }) ok s

/-- COMPARATOR_SELF_TEST. -/
def execComparatorSelfTest (i : IslandId) (v : Word32) (s : State) : Host.Outcome State Fault Refusal :=
  .next (hostWord .p (0x20034 + 0x100 * i.val) v (writeIslTest i v) s)

/-- COMPARATOR_TEST_DONE: 6400 ticks after its start; a UVLO that has asserted meanwhile is reported now (R238, R254, R255). -/
def execComparatorTestDone (i : IslandId) (pass : Bool) (s : State) : Host.Outcome State Fault Refusal :=
  let x := s.islands[i]
  .next (match x.testLeft with
    | [] => s
    | n :: rest =>
      if s.now < x.testAt + 6400 then s else
      let t := s.modIsland i fun x => { x with testLeft := rest, testAt := s.now, testResult := setResult x.testResult n (if pass then 1 else 2) }
      let t := if pass then t else raise (srcUnit (testUnit i n)) evUnitSelfTestFailed 0 0 t
      settle s (if 2 ≤ n.val ∧ (t.islands[i]).evaluated then uvloFound (testUnit i n) t else t))

/-! ## Temperature (R256) -/

/-- One threshold of a temperature sensor in 0.25 degC: the event once, its condition while above it, armed again 5 degC below. -/
def tempStep (k : SourceId) (d : EvDef) (now limit : Int) (reported : Bool) (s : State) : Bool × State :=
  let t := if limit ≤ now then stand k d (if reported then s else raise k d 0 0 s) else unstand k d s
  (decide (limit ≤ now) || (reported && decide (limit - 20 < now)), t)

/-- ISLAND_OVER_TEMPERATURE: a new reading of the sensor, two's complement in 0.25 degC, which the return link carries, before READY
too (R239, R257). -/
def execIslandOverTemperature (i : IslandId) (temp : BitVec 12) (s : State) : Host.Outcome State Fault Refusal :=
  let x := s.islands[i]
  .next (if !s.returns i || !s.power.pRun then s else
    let w := tempStep (srcIsland i) evIslandOverTempWarn temp.toInt (4 * s.rf (rIslCfg i) 8 8 : Nat) x.tempWarned s
    let o := tempStep (srcIsland i) evIslandOverTemp temp.toInt 600 x.tempOver w.2
    settle s (o.2.modIsland i fun x => { x with temp := temp, tempWarned := w.1, tempOver := o.1 }))

/-! ## Island start and block reset (R257, R258) -/

/-- The bias switch turns on: step 1 of R257. -/
def startIsland (i : IslandId) (s : State) : State :=
  let s := s.modIsland i fun x =>
    { x with bias := true, ready := false, link := false, returnUp := false, evaluated := false, linkHold := true,
             startAt := some s.now, startFailed := false }
  startStrengths (unitL i) (startStrengths (unitH i) s)

/-- ISLAND_START: where bias is permitted to an assigned island whose switch is open. -/
def execIslandStart (i : IslandId) (s : State) : Host.Outcome State Fault Refusal :=
  .next (if s.biasWanted i && !(s.islands[i]).bias then settle s (startIsland i s) else s)

/-- ISLAND_READY: link locked, rails above the UVLO release thresholds, self-test passed (R257). -/
def execIslandReady (i : IslandId) (s : State) : Host.Outcome State Fault Refusal :=
  let x := s.islands[i]
  .next (if x.bias && x.startAt.isSome && !x.startFailed && s.power.pRun then
      let t := s.modIsland i fun x => { x with ready := true, link := true, returnUp := true, startAt := none, testResult := 0x55 }
      let rail (u : UnitId) (t : State) : State := t.modUnit u fun g => { g with uvlo := false }
      settle s (evaluate i (rail (unitL i) (rail (unitH i) t)))
    else s)

/-- ISLAND_START_FAILED: 10 ms without READY, or a comparator that failed the start self-test, which its unit reports too; bias stays on
and both units held off (R255, R257). -/
def execIslandStartFailed (i : IslandId) (failed : Option (Fin 4)) (s : State) : Host.Outcome State Fault Refusal :=
  let x := s.islands[i]
  .next (match x.startAt with
    | none => s
    | some t =>
      if x.bias && !x.startFailed && (failed.isSome || decide (t + msTicks 10 ≤ s.now)) then
        let s' := s.modIsland i fun x =>
          { x with startFailed := true, testResult := match failed with | some n => setResult x.testResult n 2 | none => x.testResult }
        let s' := match failed with | some n => raise (srcUnit (testUnit i n)) evUnitSelfTestFailed 0 0 s' | none => s'
        settle s (raise (srcIsland i) evIslandStartFailed 0 0 s')
      else s)

/-- Both units of the island are held off in the sense of R253 (R258). -/
def State.bothHeld (s : State) (i : IslandId) : Bool := s.heldForTest (unitH i) && s.heldForTest (unitL i)

/-- A write of ISL_CTRL: a block reset is asked for, or refused (R258). -/
def writeIslCtrl (i : IslandId) (v : Word32) (s : State) : State :=
  if !bitAt v 0 then s
  else s.modIsland i fun x => if s.bothHeld i then { x with resetReq := true } else { x with rebiasRefused := true }

/-- REBIAS. -/
def execRebias (i : IslandId) (v : Word32) (s : State) : Host.Outcome State Fault Refusal :=
  .next (hostWord .p (0x20038 + 0x100 * i.val) v (writeIslCtrl i v) s)

/-- ISLAND_BLOCK_RESET: bias removed; hold and carries cleared, strengths at START, no counter cleared (R258). A soft turn-off that runs
completes (R251). -/
def execIslandBlockReset (i : IslandId) (s : State) : Host.Outcome State Fault Refusal :=
  .next (if (s.islands[i]).resetReq && s.power.pRun then
      let t := s.modIsland i fun x =>
        { x with resetReq := false, resetAt := some s.now, bias := false, ready := false, startAt := none, startFailed := false }
      let t := closeDebug t
      let clear (u : UnitId) (t : State) : State :=
        startStrengths u (t.modUnit u fun x => { x with desatHold := false, uvloHeld := x.uvlo, carry := 0, gate := false })
      settle s (clear (unitL i) (clear (unitH i) t))
    else s)

/-- ISLAND_BIAS_RESTORE: 10 ms after the removal; the start begins where bias is wanted (R257, R258). -/
def execIslandBiasRestore (i : IslandId) (s : State) : Host.Outcome State Fault Refusal :=
  .next (match (s.islands[i]).resetAt with
    | none => s
    | some n =>
      if s.now < n + msTicks 10 then s
      else
        let t := s.modIsland i fun x => { x with resetAt := none }
        settle s (if t.biasWanted i then startIsland i t else t))

/-- A write of ISL_STATUS: REBIAS_REFUSED is W1C (R261). -/
def writeIslStatus (i : IslandId) (v : Word32) (s : State) : State :=
  s.modIsland i fun x => { x with rebiasRefused := x.rebiasRefused && !bitAt v 7 }

end Sys2Proof.Machine
end

