-- ==== Sys2Proof/Machine/Cache.lean ====
section
/-!
DEFINITION. The context cache: residence, prefetch, replacement and write-back (R173 to R178).
-/
namespace Sys2Proof.Machine

open Sys2Proof

/-- STATE [3] of a header (R165). -/
def setResident (c : CtxId) (b : Bool) (s : State) : State :=
  let x := s.ctxNat c 3 1
  throughCtx c 3 [BitVec.ofNat 8 (x % 8 + 8 * b2n b + x / 16 * 16)] s

/-- An entry leaves the cache, its changed bytes written back (R176, R178, R180). -/
def evict (c : CtxId) (s : State) : State :=
  if s.resident c then (setResident c false (writeBack c s)).modLoop fun l => { l with cache := l.cache.filter fun e => e.ctx ≠ c } else s

/-- Tick of a context's next release, as the module predicts it (R176). -/
def State.nextRelease (s : State) (c : CtxId) : Option Nat :=
  let n := s.ctxDivider c
  if n = 0 then none
  else match s.ctxRegion c with
  | some r => (s.regions[r].lastBoundary).map fun b => b + (n - s.regions[r].bcount.toNat % n) * (s.period r / 10)
  | none => some (if s.loop.begun then s.loop.slotAt + (n - s.loop.slot.toNat % n) * 1000 else s.loop.slotAt)

/-- Slots from the present one to the slot of the next release. -/
def State.slotsAhead (s : State) (c : CtxId) : Option Nat := (s.nextRelease c).map fun t => (t - s.loop.slotAt) / 1000

/-- The entry that a prefetch replaces where none is free: unpinned, no run in progress, the timebase slot of its own release furthest
ahead, among equals the higher context number (R176). -/
def State.victim (s : State) : Option CtxId :=
  let far (e : CacheEntry) : Nat × Nat := match s.slotsAhead e.ctx with | some t => (0, t) | none => (1, 0)
  let after (a b : CacheEntry) : Bool :=
    let x := far a
    let y := far b
    decide (y.1 < x.1) || (x.1 == y.1 && (decide (y.2 < x.2) || (x.2 == y.2 && decide (b.ctx.val < a.ctx.val))))
  ((s.loop.cache.filter fun e => !e.pinned && !(s.loop.rt[e.ctx]).released).foldl
    (fun (a : Option CacheEntry) e => match a with | none => some e | some b => if after e b then some e else a) none).map CacheEntry.ctx

/-- Cache entries in use or claimed by a prefetch (R176). -/
def State.claimed (s : State) : Nat :=
  s.loop.cache.length + ((List.finRange 256).filter fun c => (s.loop.rt[c]).prefetching).length

/-- Prefetches that the reserved slots alone complete within one timebase slot (R497). -/
def ArbCfg.assured (c : ArbCfg) : Nat := 38 * c.leRsv.toNat / 47

/-- Prefetches in flight. -/
def State.inFlight (s : State) : Nat := ((List.finRange 256).filter fun c => (s.loop.rt[c]).prefetching).length

/-- A prefetch that competes for arbitrated slots is in flight: lines of requester LE count for it (R497). -/
def State.beyondInFlight (s : State) : Bool := (List.finRange 256).any fun c => (s.loop.rt[c]).prefetching && (s.loop.rt[c]).beyond

/-- Lines of an entry (R162). -/
def entryLines : Nat := 32

/-- Room made in the cache: a victim goes, or with none a prefetch in flight gives up its claim (R173, R175, R176;
notes/assumptions/99.md). -/
def makeRoom (s : State) : State :=
  if s.claimed < 96 then s
  else match s.victim with
  | some c => evict c s
  | none =>
    match (List.finRange 256).find? fun c => (s.loop.rt[c]).prefetching with
    | some c => s.modRt c fun x => { x with prefetching := false }
    | none => s

/-- An entry read from package memory into the cache (R173, R175, R176, R376). -/
def loadEntry (c : CtxId) (s : State) : State :=
  let s := (readMem (ctxAddr c) 2048 0 0 s).2
  setResident c true (s.modLoop fun l => { l with cache := l.cache ++ [{ ctx := c, pinned := s.ctxPin c }] })

/-- A pinned context's entry loaded where the cache has room for it, which it makes if it can: the cache never holds more than 96 (R173, R175). -/
def loadRoom (c : CtxId) (s : State) : State :=
  let t := makeRoom s
  if t.claimed < 96 then loadEntry c t else t

/-- The storage error of a resident entry as a read finds it: captured in domain 3 and reported; a corrected one is written back corrected, an
uncorrectable one makes the entry non-resident, and what was not written back is lost with it (R160, R454 to R456, R178;
notes/assumptions/102.md). -/
def readEntry (c : CtxId) (s : State) : State :=
  match (s.cacheOf c).bind CacheEntry.err with
  | none => s
  | some e =>
    let p := s.fresh
    let ok := decide (e.2 ≤ 2)
    let s := captureError 3 (BitVec.ofNat 48 (ctxAddr c + e.1)) 8 (if ok then 0 else 8) (p.1.setWidth 48) (if ok then BitVec.ofNat 4 e.2 else 0xF)
      p.2
    if ok then
      raise 122 evCacheCorrected 0 0
        (s.modLoop fun l => { l with cache := l.cache.map fun x => if x.ctx = c then { x with err := none } else x })
    else
      let s := (setResident c false s).modLoop fun l => { l with cache := l.cache.filter fun x => x.ctx ≠ c }
      raise 122 evCacheUncorrectable 0 0 (s.modRt c fun x =>
        { (s.loop.rtSaved[c]) with
          released := x.released, inPeriod := x.inPeriod, release := x.release, prevIn := x.prevIn, prevLinks := x.prevLinks
          links := x.links, fb := x.fb, seen := x.seen, skipReported := x.skipReported, overrunReported := x.overrunReported })

/-- A prefetch claims its cache entry, where there is room; of one beyond the reserve the lines count from here (R176, R497). -/
def issuePrefetch (c : CtxId) (s : State) : State :=
  let beyond := decide (s.arb.active.assured ≤ s.inFlight)
  if s.claimed < 96 then
    let s := if beyond && !s.beyondInFlight then
        s.modArb fun a => { a with leLines := 0 }
      else s
    s.modRt c fun x => { x with prefetching := true, beyond := beyond }
  else s

/-- PREFETCH_ISSUE: at the start of the slot before that of the next release, and not while a refresh has the memory (R176,
R495). -/
def execPrefetchIssue (c : CtxId) (s : State) : Host.Outcome State Fault Refusal :=
  .next (if s.leRuns && s.ctxEnabled c && !s.ctxPin c && !s.resident c && !(s.loop.rt[c]).prefetching && !s.refreshing &&
      s.slotsAhead c == some 1 then
      settle s (issuePrefetch c (makeRoom s))
    else s)

/-- The lines of a prefetch have moved: in the reserved slots, or as requester LE has been granted arbitrated slots (R494, R497); none moves while a
refresh has the memory (R495). -/
def State.mayLand (s : State) (c : CtxId) : Bool :=
  !s.refreshing && (!(s.loop.rt[c]).beyond || decide (entryLines ≤ s.arb.leLines))

/-- PREFETCH_LANDED: the entry is resident (R176). -/
def execPrefetchLanded (c : CtxId) (s : State) : Host.Outcome State Fault Refusal :=
  .next (if s.leRuns && (s.loop.rt[c]).prefetching && s.mayLand c then
      let t := if (s.loop.rt[c]).beyond then s.modArb fun a => { a with leLines := a.leLines - entryLines } else s
      let t := t.modRt c fun x => { x with prefetching := false, beyond := false }
      settle s (if t.ctxEnabled c then loadEntry c t else t)
    else s)

/-- WRITEBACK_SWEEP: state words and VALUE fields of pinned entries, every 400 slots (R178). -/
def execWritebackSweep (s : State) : Host.Outcome State Fault Refusal :=
  .next (if s.leRuns && !s.refreshing && decide (400 ≤ (s.loop.slot - s.loop.sweptAt).toNat) then
      settle s ((forList (fun (e : CacheEntry) t => writeBack e.ctx t) (s.loop.cache.filter CacheEntry.pinned) s).modLoop fun l =>
        { l with sweptAt := l.slot })
    else s)

end Sys2Proof.Machine
end

