-- ==== Sys2Proof/Machine/Signal.lean ====
section
/-!
DEFINITION. Numbers formed by a run with the mark that forming them saturated (R130), exact parameter values (R45), coefficients (R49),
the sine unit (R52), timers (R575) and ramps (R135).
-/
namespace Sys2Proof.Machine

open Sys2Proof

/-! ## Numbers with the SAT mark (R127, R128, R130) -/

/-- A number of a run, and whether anything that formed it saturated. -/
structure Q where
  v : Int
  sat : Bool := false
deriving DecidableEq, Repr, Inhabited

/-- Saturation to n bits, marked. -/
def Q.lim (n : Nat) (x : Int) (f : Bool) : Q := { v := satBits n x, sat := f || satBits n x != x }

/-- A signal loaded into an accumulator. -/
def qSig (x : Int) : Q := { v := loadSig x }
/-- A state word loaded into an accumulator (R128). -/
def qLoad (x : Int) : Q := Q.lim 40 x false
def qAdd (a b : Q) : Q := Q.lim 40 (a.v + b.v) (a.sat || b.sat)
def qNeg (a : Q) : Q := Q.lim 40 (-a.v) a.sat
/-- A contribution taken away (R127; notes/assumptions/145.md). -/
def qSub (a b : Q) : Q := Q.lim 40 (a.v - b.v) (a.sat || b.sat)
/-- A signal times a parameter (R127). -/
def qMul (x : Q) (p : Int × Int) : Q := Q.lim 40 (mulParam x.v p.1 p.2) x.sat
/-- An accumulator value of any size taken into an accumulator (R127). -/
def qAcc (x : Int) : Q := Q.lim 40 x false
/-- A signal times a signal, shifted by e places (R127). -/
def qMulSig (x y : Q) (e : Int) : Q := Q.lim 40 (shiftI (2 * x.v * y.v) e) (x.sat || y.sat)
/-- A store to 16 bits (R128). -/
def qStore (a : Q) : Q := Q.lim 16 (roundConv a.v 65536) a.sat
/-- The nearest value within limits; no saturation in the sense of R130. -/
def qClamp (lo hi : Q) (a : Q) : Q := { v := clampI lo.v hi.v a.v, sat := lo.sat || hi.sat || a.sat }
/-- A marked signal of a 16-bit value. -/
def qIn (x : Int) : Q := { v := x }

/-! ## Parameters (R45, R49) -/

/-- A parameter word as an integer of 2^-30 (R169). -/
def fixOfWord (w : Nat) : Int := sx 16 w * 2 ^ (sx 5 (w / 2 ^ 16) + 15).toNat

/-- The exact value of a parameter word. -/
def qOfWord (w : Nat) : ℚ := fixOfWord w / (2 ^ 30 : Int)

/-- A parameter word in accumulator units of a signal whose 1.0 p.u. is 2 to the power 14 + e (R44): e is 2 for a frequency deviation, 0 for
a voltage, -1 for a current or a power. -/
def accOfWord (w : Nat) (e : Int) : Q := Q.lim 40 (shiftI (fixOfWord w) e) false

/-- The exact value of a parameter. -/
def State.pq (s : State) (c : CtxId) (k : Nat) : ℚ := qOfWord (s.paramWord c k)

/-- A parameter as mantissa and shift, its shift moved by e places. -/
def State.pms (s : State) (c : CtxId) (k : Nat) (e : Int) : Int × Int := (s.paramM c k, s.paramS c k + e)

/-- A parameter in accumulator units. -/
def State.pAcc (s : State) (c : CtxId) (k : Nat) (e : Int) : Q := accOfWord (s.paramWord c k) e

/-- Rounding of a rational (round_conv of R128). -/
def roundQ (x : ℚ) : Int := roundConv x.num x.den

/-- A coefficient in the parameter format: the smallest shift from -15 to 15 at which the rounded mantissa fits, else shift 15 and a
saturated mantissa (R49). -/
def coefOf (v : ℚ) : Int × Int :=
  match (List.range 31).find? fun i => let m := roundQ (v * 2 ^ (30 - i)); decide (-32768 ≤ m) && decide (m ≤ 32767) with
  | some i => (roundQ (v * 2 ^ (30 - i)), (i : Int) - 15)
  | none => (sat16 (roundQ v), 15)

/-- The parameter word of a mantissa and a shift (R169). -/
def packParam (p : Int × Int) : Nat := (BitVec.ofInt 16 p.1).toNat + 65536 * ((BitVec.ofInt 5 p.2).toNat)

/-! ## Run interval (R49, R107, R111) -/

/-- Interval between two boundaries of a context's region, or between two timebase slots, in fine steps. -/
def State.clockStep (s : State) (c : CtxId) : Nat := match s.ctxRegion c with | some r => s.period r | none => 10000

/-- Run interval in fine steps of 250 ps. -/
def State.runFine (s : State) (c : CtxId) : Nat := s.ctxDivider c * s.clockStep c

/-- Run interval in seconds. -/
def State.ts (s : State) (c : CtxId) : ℚ := (s.runFine c : ℚ) / 4000000000

/-! ## The sine unit (R52) -/

/-- Entry j of the table (R52). -/
def sinTable (j : Nat) : Int :=
  let k := j % 1024
  let q := k % 512
  let v := roundQ (32767 * sinQ (if q ≤ 256 then q else 512 - q))
  if k < 512 then v else -v

/-- Sine of a 16-bit angle (R52). -/
def sinUnit (u : Nat) : Int :=
  let j := u % 65536 / 64
  let f : Int := (u % 64 : Nat)
  sat16 (sinTable j + roundConv ((sinTable (j + 1) - sinTable j) * f) 64)

/-- Cosine of a 16-bit angle (R52). -/
def cosUnit (u : Nat) : Int := sinUnit (u + 0x4000)

/-! ## Timers (R189, R575) -/

/-- A timer started at a release. -/
def timerAt (n : Word32) : Int := (2 ^ 32 + n.toNat : Nat)

/-- The timer runs. -/
def timerOn (w : Nat) : Bool := w.testBit 32

/-- A time of t seconds has passed from the timer's start to release n of context c (R575). -/
def State.timerMet (s : State) (c : CtxId) (w : Nat) (n : Word32) (t : ℚ) : Bool :=
  timerOn w && decide (t * 4000000000 ≤ ((n - BitVec.ofNat 32 w).toNat : ℚ) * s.clockStep c)

/-- The timer in a state word was met at the context's last run. -/
def State.timerDue (s : State) (c : CtxId) (k : Nat) (t : ℚ) : Bool :=
  match (s.loop.rt[c]).lastRun with
  | some n => s.timerMet c (s.swBits c k) n t
  | none => false

/-- A timer of a condition: started at the first run at which it holds, cleared at a run at which it does not (R575). -/
def timerStep (w : Nat) (holds : Bool) (n : Word32) : Int := if !holds then 0 else if timerOn w then w else timerAt n

/-! ## Ramps (R135, R189) -/

/-- A ramp: accumulator, step, runs left. -/
structure Ramp where
  acc : Int := 0
  step : Int := 0
  left : Nat := 0
deriving DecidableEq, Repr, Inhabited

/-- The ramp in three state words from word k on. -/
def State.ramp (s : State) (c : CtxId) (k : Nat) : Ramp :=
  { acc := sat40 (s.sw c k), step := sat40 (s.sw c (k + 1)), left := s.swBits c (k + 2) % 2 ^ 32 }

/-- Loading the ramp's words saturates (R128, R130). -/
def State.rampSat (s : State) (c : CtxId) (k : Nat) : Bool := (qLoad (s.sw c k)).sat || (qLoad (s.sw c (k + 1))).sat

/-- A ramp's words written. -/
def setRamp (c : CtxId) (k : Nat) (r : Ramp) (s : State) : State := setSw c (k + 2) r.left (setSw c (k + 1) r.step (setSw c k r.acc s))

/-- A ramp begun between two signals over t seconds of runs of ts seconds. -/
def rampBegin (start target : Int) (t ts : ℚ) : Ramp :=
  let n := (max 1 (if ts = 0 then 1 else roundQ (t / ts))).toNat
  { acc := loadSig start, step := roundConv ((target - start) * 65536) n, left := n % 2 ^ 32 }

/-- One run of a ramp toward a target: at its last run the target exactly. -/
def Ramp.next (r : Ramp) (target : Int) : Ramp :=
  if r.left = 0 then { r with acc := loadSig target }
  else if r.left = 1 then { r with acc := loadSig target, left := 0 }
  else { r with acc := sat40 (r.acc + r.step), left := r.left - 1 }

/-- Adding the step at this run saturates the accumulator (R130). -/
def Ramp.sats (r : Ramp) : Bool := decide (1 < r.left) && sat40 (r.acc + r.step) != r.acc + r.step

/-- The ramp's output. -/
def Ramp.out (r : Ramp) : Int := storeSig r.acc

/-- The ramp's output, with the mark that storing it saturated. -/
def Ramp.outQ (r : Ramp) : Q := qStore { v := r.acc }

end Sys2Proof.Machine
end

