-- ==== Sys2Proof/Machine/Slots.lean ====
section
/-!
DEFINITION. What an input slot of a context names and reads (R117 to R119, R414).
-/
namespace Sys2Proof.Machine

open Sys2Proof

/-- Producer context and output slot of an input slot, where it reads a context output (R117). -/
def State.producer (s : State) (c : CtxId) (n : Nat) : Option (CtxId × Nat) :=
  let w := s.inSource c n
  if w / 2 ^ 14 = 3 then some (⟨w % 2048 / 8, by omega⟩, w % 8) else none

/-- The producer of an input slot, where it is a context of the template. -/
def State.peer (s : State) (c : CtxId) (n template : Nat) : Option CtxId :=
  (s.producer c n).bind fun p => if s.ctxTemplate p.1 = template then some p.1 else none

/-! ## Inputs (R117 to R119, R414) -/

/-- The value and the open-wire flag of a channel in a sample set, if the set contains it. -/
def SampleSet.channel (x : SampleSet) (ch : Nat) : Option (Word16 × Bool) :=
  if x.bank.val ≠ ch / 16 ∨ x.kind = 3 then none
  else (((maskBits 16 x.mask.toNat).zip x.results).find? fun p => p.1 == ch % 16).map fun p => (p.2, x.owMask.getLsbD (ch % 16))

/-- What an ADC slot of a context reads: the releasing set, else the latest value; for a paired or mirror region the sets of the period
alone (R118, R414). -/
def State.adcRead (s : State) (c : CtxId) (ch : Nat) : Option (Word16 × Bool) :=
  let latest := some (s.loop.adcLatest.toList.getD ch (0, false))
  match s.ctxRegion c with
  | none => latest
  | some r =>
    let l := s.loop.relSets[r]
    if s.isPaired r || s.isMirror r then
      (l.filter fun x => x.count == (s.loop.rt[c]).release).findSome? fun x => x.channel ch
    else ((l.find? fun x => x.release).bind fun x => x.channel ch).or latest

/-- What an input slot reads at the run's first cycle, with the open-wire flag, none for a channel missing from the sets of a paired
period, for which the spec states no value. -/
def State.slotRead (s : State) (c : CtxId) (n : Nat) : Option (Word16 × Bool) :=
  let w := s.inSource c n
  match w / 2 ^ 14 with
  | 1 => s.adcRead c (w % 64)
  | 2 => some (s.loop.chainLatest.toList.getD (w % 16) 0, false)
  | 3 =>
    if w.testBit 13 then some (((s.loop.rt[c]).prevIn).getD n 0, false)
    else some (s.outVal ⟨w % 2048 / 8, by omega⟩ (w % 8), false)
  | _ => some (0, false)


/-- The slot reads its producer as it stood at the present release (R119). -/
def State.slotPrev (s : State) (c : CtxId) (n : Nat) : Bool := (s.inSource c n).testBit 13

/-- Slot of a harmonic or correlation link (R185). -/
def State.blockSlot (s : State) (c : CtxId) : Nat := if s.ctxTemplate c = 0x05 then 10 else 0

/-- Runs of the VSM that a meter's p feeds: the interval in boundary counts over which the meter averages with P0 = 0 (R46, R47;
notes/assumptions/95.md). -/
def State.meterSpan (s : State) (c : CtxId) : Nat :=
  match (s.enabledOfTemplate 0x01).find? fun v => (s.producer v 0).map Prod.fst == some c with
  | some v => max 1 (s.ctxDivider v)
  | none => max 1 (s.ctxDivider c)

/-- N_blend of the region's VSM, in region periods (R157). -/
def State.regionBlend (s : State) (c : CtxId) : Nat :=
  match (s.ctxRegion c).bind fun r => (s.ctxsOf r).find? fun d => s.ctxTemplate d == 0x01 with
  | some v => max 1 (s.paramInt v 31)
  | none => 1

/-- What the link slots of context c would read of their producers now, and the parameters of the linked contexts (R119, R131, R185). -/
def State.linkNow (s : State) (c : CtxId) : LinkVals :=
  let rt (o : Option CtxId) : CtxRt := match o with | some p => s.loop.rt[p] | none => {}
  let vsm := s.peer c 3 0x01
  let syn := s.peer c 4 0x0C
  let seq := s.peer c 3 0x0D
  let bank := if s.ctxTemplate c = 0x05 then s.peer c 10 0x08 else none
  { block := (rt (if s.ctxTemplate c = 0x05 then bank else s.peer c 0 0x03)).block
    streak := (rt (s.peer c 2 0x06)).streak
    lowRuns := ((rt vsm).vsm).lowRuns
    factorZero := match vsm with | some v => s.swBits v 5 % 16 == 6 && s.outVal v 6 == 0 | none => false
    busW := match s.peer c 1 0x01 with | some v => (s.outVal v 1).toInt | none => 0
    winMet := match syn with | some d => timerOn (s.swBits d 0) | none => false
    syncErr := (rt syn).syncErr
    volts := match (s.ctxRegion c).bind fun r => (s.ctxsOf r).find? fun d => s.ctxTemplate d == 0x05 with
      | some d => (List.range 3).map (s.outVal d)
      | none => []
    droop := (s.peer c 7 0x02).map fun d => ((s.ramp d 1).out, (s.loop.rt[d]).term)
    eStart := match seq with | some q => storeSig (sat40 (s.sw q 7)) | none => 0
    current := (seq.bind fun q => s.slotRead q 5).map Prod.fst
    droopLims := (s.peer c 7 0x02).map fun d => (s.paramWord d 6, s.paramWord d 7)
    bsWords := seq.map fun q => (s.paramWord q 4, s.paramWord q 5)
    harmonics := match bank with | some b => (List.range 8).filter fun j => s.paramInt b j != 0 | none => []
    meterSpan := s.meterSpan c
    blendSpan := s.regionBlend c }

/-- What the link slots of context c read at the first cycle of a run: slots with PREV as their producers stood at the release (R119,
R121). -/
def State.linksRead (s : State) (c : CtxId) : LinkVals :=
  let now := s.linkNow c
  let old := (s.loop.rt[c]).prevLinks
  let at_ (n : Nat) : LinkVals := if s.slotPrev c n then old else now
  { now with
    block := (at_ (s.blockSlot c)).block, streak := (at_ 2).streak, lowRuns := (at_ 3).lowRuns, factorZero := (at_ 3).factorZero
    busW := (at_ 1).busW, winMet := (at_ 4).winMet, syncErr := (at_ 4).syncErr, droop := (at_ 7).droop, eStart := (at_ 3).eStart }

/-- The link values of a context's run, as read at its first cycle. -/
def State.links (s : State) (c : CtxId) : LinkVals := (s.loop.rt[c]).links

end Sys2Proof.Machine
end

