-- ==== Sys2Proof/Machine/Vsm.lean ====
section
/-!
DEFINITION. Template 0x01, the virtual synchronous machine (R47 to R52, R60 to R64, R71 to R82, R95, R99 to R103, R184, R189). How the
equations are laid over the 16-bit signals and 40-bit accumulators is notes/assumptions/39.md; how the sequencer's request is
encoded, 40.md.
-/
namespace Sys2Proof.Machine

open Sys2Proof

/-- What a template's run answers: the state with its state words, its output values, and the SAT mark. -/
structure RunRes where
  s : State
  outs : List (Nat × Int) := []
  sat : Bool := false

/-- A setpoint's ramp at this run (R134, R135, R188): parameter k with ramp time kT, counterpart slot, first state word, unit e. -/
def setpoint (c : CtxId) (ins : List Int) (k kT slot word : Nat) (e : Int) (s : State) : Q × State :=
  let goal := qStore (s.pAcc c k e)
  let target := goal.v
  let r := s.ramp c word
  let rt := s.loop.rt[c]
  let r :=
    if k ∈ rt.changed then
      rampBegin (if r.left ≠ 0 ∨ (s.ctxLost c).testBit slot then r.out else ins.getD slot 0) target (s.pq c kT) (s.ts c)
    else r
  let q := r.next target
  let s := s.modRt c fun x =>
    { x with changed := x.changed.filter (· ≠ k), rampDone := if r.left = 1 then word :: x.rampDone else x.rampDone }
  ({ q.outQ with sat := q.outQ.sat || goal.sat || r.sats || s.rampSat c word }, setRamp c word q s)

/-- The state words of a VSM (R189). -/
structure Vsm where
  w : Int
  ww : Int
  pf : Int
  th : Nat
  dwa : Int
  mode : Nat
  om : Nat
  n : Nat
  blend : Bool
  limit : Bool
  ret : Nat
  lw : Int
  le : Int
  ct : Nat
  frz : Nat
  a2 : Nat
  re : Ramp
  rw : Ramp
  rv : Ramp
  xw : Int
  xe : Int
  xx : Int
  held : Int
  sn : Nat
  tExit : Nat
  tRes : Nat
  low : Nat
  h : VsmRt

/-- The VSM's words read (R189). -/
def State.vsm (s : State) (c : CtxId) : Vsm :=
  let m := s.swBits c 5
  { w := sat40 (s.sw c 0), ww := sat40 (s.sw c 1), pf := sat40 (s.sw c 2), th := s.swBits c 3 % 2 ^ 32, dwa := sat40 (s.sw c 4)
    mode := m % 16, om := m / 2 ^ 4 % 16, n := m / 2 ^ 8 % 256, blend := m.testBit 16, limit := m.testBit 17, ret := m / 2 ^ 20 % 16
    lw := sat40 (s.sw c 6), le := sat40 (s.sw c 7), ct := s.swBits c 8, frz := s.swBits c 9, a2 := s.swBits c 10
    re := s.ramp c 14, rw := s.ramp c 17, rv := s.ramp c 20, xw := sat40 (s.sw c 23), xe := sat40 (s.sw c 24), xx := sat40 (s.sw c 25)
    held := sat40 (s.sw c 26), sn := s.swBits c 27, tExit := s.swBits c 28, tRes := s.swBits c 29, low := s.swBits c 30
    h := (s.loop.rt[c]).vsm }

/-- The VSM's words written (R189). -/
def putVsm (c : CtxId) (v : Vsm) (s : State) : State :=
  let m : Nat := v.mode + 2 ^ 4 * (if v.blend then v.om else 0) + 2 ^ 8 * min 255 v.n + 2 ^ 16 * b2n v.blend + 2 ^ 17 * b2n v.limit + 2 ^ 20 * v.ret
  let s := forList (fun p t => setSw c p.1 p.2 t)
    [(0, v.w), (1, v.ww), (2, v.pf), (3, (v.th : Int)), (4, v.dwa), (5, (m : Int)), (6, v.lw), (7, v.le), (8, (v.ct : Int)),
     (9, (v.frz : Int)), (10, (v.a2 : Int)), (23, v.xw), (24, v.xe), (25, v.xx), (26, v.held), (27, (v.sn : Int)),
     (28, (v.tExit : Int)), (29, (v.tRes : Int)), (30, (v.low : Int))] s
  (setRamp c 14 v.re (setRamp c 17 v.rw (setRamp c 20 v.rv s))).modRt c fun x => { x with vsm := v.h }

/-! ## The sag curve (R71, R72) -/

/-- Value at time t of the curve with points (time, value), held after the last. -/
def curveAt (t : ℚ) : List (ℚ × ℚ) → ℚ
  | [] => 0
  | [p] => p.2
  | p :: q :: l => if t < q.1 then (if q.1 - p.1 = 0 then p.2 else p.2 + (t - p.1) / (q.1 - p.1) * (q.2 - p.2)) else curveAt t (q :: l)

/-- The points of parameter rows t_j and y_j. -/
def State.curvePts (s : State) (c : CtxId) (k : Nat) : List (ℚ × ℚ) := (List.range 4).map fun j => (s.pq c (19 + j), s.pq c (k + j))

/-- Time since entry of the gap mode in seconds. -/
def State.gapTime (s : State) (c : CtxId) (ct : Nat) : ℚ := ct * s.ts c

/-- Index of the last curve point reached (R72). -/
def State.shedLevel (s : State) (c : CtxId) (ct : Nat) : Nat :=
  ((List.range 4).filter fun j => decide (s.pq c (19 + j) ≤ s.gapTime c ct)).length

/-- Frequency reference of the curve, a signal. -/
def State.curveW (s : State) (c : CtxId) (ct : Nat) : Q := Q.lim 16 (roundQ (curveAt (s.gapTime c ct) (s.curvePts c 23) * 65536)) false

/-- Voltage reference of the curve, a signal. -/
def State.curveV (s : State) (c : CtxId) (ct : Nat) : Q := Q.lim 16 (roundQ (curveAt (s.gapTime c ct) (s.curvePts c 27) * 16384)) false

/-- E of the Q-V droop with v_set replaced by the reference v, within the droop's limits (R53, R71). -/
def State.droopWith (s : State) (c : CtxId) (v : Int) : Q :=
  match (s.links c).droop, (s.links c).droopLims with
  | some d, some w => qStore (qClamp (accOfWord w.1 0) (accOfWord w.2 0) (qAdd (qSig v) { v := d.2 }))
  | _, _ => qIn v

/-- v_set of the Q-V droop that slot 7 names as its ramp stands, else the slot's value (R73). -/
def State.vSet (s : State) (c : CtxId) (e : Int) : Int := ((s.links c).droop.map Prod.fst).getD e

/-! ## The swing equation (R48 to R51) -/

/-- Coefficients k_f, c_h, c_w, c_p and theta_step (R49). -/
structure VsmCoef where
  kf : Int × Int
  ch : Int × Int
  cw : Int × Int
  cp : Int × Int
  step : Nat

def State.vsmCoef (s : State) (c : CtxId) : VsmCoef :=
  let t := s.ts c
  { kf := coefOf (1 / s.pq c 6), ch := coefOf (t / (2 * s.pq c 3)), cw := coefOf (t / s.pq c 5), cp := coefOf (t / s.pq c 7)
    step := (roundQ (s.ctxFB c * t * 2 ^ 32)).toNat % 2 ^ 32 }

/-- w after one run of the swing equation: power setpoint p, reference ref, with the power error replaced by 0 in the current-envelope
mode (R48, R50, R60). -/
def State.swing (s : State) (c : CtxId) (k : VsmCoef) (v : Vsm) (w : Int) (p : Int) (ref : Q) (noPower : Bool) : Q :=
  if s.pq c 6 = 0 then ref else
  let d1 := qStore (qSub ⟨w, false⟩ ref)
  let d2 := qStore (qSub ⟨w, false⟩ ⟨v.ww, false⟩)
  let a := if noPower then qIn 0 else qSub (qSig p) ⟨v.pf, false⟩
  let a := qSub a (qMul d1 (k.kf.1, k.kf.2 - 3))
  let a := qSub a (qMul d2 (s.pms c 4 (-3)))
  qAdd ⟨w, false⟩ (qMul (qStore a) (k.ch.1, k.ch.2 + 3))

/-- Limits of w_out for 45 Hz and 65 Hz, accumulator units (R51). -/
def State.wLimits (s : State) (c : CtxId) : Int × Int :=
  let f : ℚ := s.ctxFB c
  (roundQ ((45 / f - 1) * 2 ^ 32), roundQ ((65 / f - 1) * 2 ^ 32))

/-- w within the limits of w_out, given dw_a (R51). -/
def State.wLimited (s : State) (c : CtxId) (dwa w : Int) : Int := let l := s.wLimits c; clampI (l.1 - dwa) (l.2 - dwa) w

/-! ## Requests and mode status (R77, R78; notes/assumptions/40.md) -/

/-- A word in the layout of the mode status slot (R78). -/
def statusWord (mode phase : Nat) (blend limit drive fb : Bool) : Nat :=
  mode + 2 ^ 4 * phase + 2 ^ 8 * b2n blend + 2 ^ 9 * b2n limit + 2 ^ 10 * b2n drive + 2 ^ 11 * b2n fb

/-- The word of a 16-bit signal. -/
def sigNat (x : Int) : Nat := (BitVec.ofInt 16 x).toNat

/-! ## Hand-over (R81, R95, R99 to R103) -/

/-- The ramps of E and of R73 ended: neither the mode nor an outgoing mode uses them. -/
def Vsm.endRamps (v : Vsm) : Vsm :=
  { v with re := { v.re with left := 0 }, rw := { v.rw with left := 0 }, rv := { v.rv with left := 0 } }

/-- The VSM at a transition to mode m, with the outputs of this run: the incoming mode's integrators back-calculated, the blend started
where both modes drive the output, and what the mode needs on entry. θ is set only on entry to synchronise. The
ramps of an outgoing mode run on while the blend uses them (R74, R101). -/
def handOver (c : CtxId) (m : Nat) (ins : List Int) (s : State) (v : Vsm) : Vsm :=
  let blends := v.mode != 0 && m != 0 && m != 2 && m != 1
  let outW := v.h.outW
  let v1 :=
    if blends then
      { v with om := v.mode, n := 0, blend := true, limit := false
               xw := if v.blend then loadSig outW else v.w, xe := loadSig v.h.outE, xx := loadSig v.h.outX
               lw := loadSig outW, le := loadSig v.h.outE
               w := sat40 (loadSig outW - v.dwa)
               h := { v.h with outHeld := v.blend, outPhase := v.h.phase } }
    else { v with blend := false, n := 0, limit := false }
  let v2 := { v1 with mode := m, ret := if m = 4 then v.mode else 0, h := { v1.h with phase := if m = 1 then (if v.mode = 2 then 2 else 1) else 0 } }
  let vbus := ins.getD 6 0
  match m with
  | 2 => { v2 with th := sigNat (ins.getD 4 0) * 65536, w := loadSig (ins.getD 5 0), lw := loadSig (ins.getD 5 0), le := loadSig vbus }
  | 3 =>
    if v.mode = 4 then { v2 with re := rampBegin vbus (ins.getD 7 0) (s.pq c 36) (s.ts c) }
    else if v.mode = 5 then
      let vset := s.vSet c (ins.getD 7 0)
      { v2 with rw := rampBegin (s.curveW c v.ct).v (qStore (s.pAcc c 2 2)).v (s.pq c 18) (s.ts c)
                rv := rampBegin (s.curveV c v.ct).v vset (s.pq c 18) (s.ts c) }
    else v2
  | 4 => { v2 with held := loadSig v.h.outE }
  | 5 =>
    let v3 := { v2 with ct := if v.rw.left ≠ 0 ∨ v.rv.left ≠ 0 then v.ct else 0, tRes := 0 }
    if v1.h.outHeld then v3.endRamps else v3
  | 6 => { v2 with held := loadSig v.h.outE, sn := 0 }
  | _ => v2

/-- The transition that this run's conditions call for, the first in the order of R82 (R60, R71, R75, R81). A stopped VSM enters LISTEN first
where the sequencer is ahead of it, and goes on from there at its next runs. -/
def State.vsmNext (s : State) (c : CtxId) (v : Vsm) (req : Nat) (u : Int) : Option Nat :=
  let rm := req % 16
  let drive := req.testBit 10
  let early := v.mode == 2 || (v.mode == 1 && decide (v.h.phase ≤ 2))
  let below (k : Nat) : Bool := decide (loadSig u < (s.pAcc c k 0).v)
  if v.mode ≠ 0 ∧ v.mode ≠ 6 ∧ (rm = 6 ∨ (below 16 ∧ drive ∧ !early)) then some 6
  else if rm = 0 ∧ v.mode ≠ 0 then some 0
  else if 2 ≤ v.low ∧ (v.mode = 3 ∨ v.mode = 4 ∨ (v.mode = 1 ∧ 4 ≤ v.h.phase)) then some 5
  else if v.mode = 3 ∧ 2 ≤ v.a2 then some 4
  else if (rm = 1 ∧ v.mode = 2) ∨ (1 ≤ rm ∧ rm ≤ 3 ∧ v.mode = 0) then some 1
  else if rm = 2 ∧ v.mode = 1 then some 2
  else if rm = 3 ∧ (v.mode = 1 ∨ v.mode = 2) then some 3
  else none

/-- The shed level reported where it has changed (R72). -/
def reportShed (c : CtxId) (level : Nat) (s : State) : State :=
  let v := (s.loop.rt[c]).vsm
  if v.shed = level then s
  else raise (s.srcOf c) evCtxShedLevel (BitVec.ofNat 32 level) 0 (s.modRt c fun x => { x with vsm := { x.vsm with shed := level } })

/-- A transition made: the words written, its event (R61, R72). -/
def transition (c : CtxId) (m : Nat) (ins : List Int) (s : State) : State :=
  let v := s.vsm c
  let s := putVsm c (handOver c m ins s v) s
  let s := if m = 4 then raiseFull (s.srcOf c) evCtxEnvEntered 0 0 ((s.ctxRegion c).map ShadowObj.region) false s else s
  let level := if m = 5 then s.shedLevel c (s.vsm c).ct else 0
  setOutVal c 5 (BitVec.ofNat 16 level) (reportShed c level s)

/-! ## The run -/

/-- The stop factor in Q15 (R103). -/
def State.stopFactor (s : State) (c : CtxId) (v : Vsm) : Int :=
  if v.mode ≠ 6 then 32767
  else if s.pq c 34 = 0 then 0
  else max 0 (roundQ (32767 * (1 - v.sn * s.ts c / s.pq c 34)))

/-- E_start of the sequencer that serves the VSM (R89). -/
def State.eStart (s : State) (c : CtxId) : Int := (s.links c).eStart

/-- x_bs of the sequencer that serves the VSM (R89). -/
def State.xBs (s : State) (c : CtxId) : Q := match (s.links c).bsWords with | some w => qStore (accOfWord w.2 0) | none => qIn 0

/-- The black-start phase taken from the request: phase RAMP starts the E ramp; HOLD, once the ramp is complete, is kept (R89). -/
def takePhase (c : CtxId) (req : Nat) (eDroop : Int) (s : State) (v : Vsm) : Vsm :=
  let rp := req / 16 % 16
  if v.mode ≠ 1 ∨ req % 16 ≠ 1 ∨ (v.h.phase = 5 ∧ rp = 4) ∨ rp = v.h.phase then v
  else
    let t := match (s.links c).bsWords with | some w => qOfWord w.1 | none => 0
    { v with h := { v.h with phase := rp }, re := if rp = 4 then rampBegin (s.eStart c) eDroop t (s.ts c) else v.re }

/-- Frequency output of a mode (R48, R77). -/
def wOf (v : Vsm) (mode : Nat) (w : Int) (wref : Q) : Q := if mode = 0 then qStore wref else qStore (qAdd ⟨w, false⟩ ⟨v.dwa, false⟩)

/-- Magnitude output of a mode (R53, R60, R61, R71, R73, R89, R95, R103). -/
def State.eOf (s : State) (c : CtxId) (v : Vsm) (mode phase : Nat) (ins : List Int) : Q :=
  let e := ins.getD 7 0
  if mode = 2 then qIn (ins.getD 6 0)
  else if mode = 4 ∨ mode = 6 then qIn (storeSig v.held)
  else if mode = 5 then let y := s.curveV c v.ct; let e := s.droopWith c y.v; { e with sat := e.sat || y.sat }
  else if mode = 1 ∧ phase < 4 then qIn (s.eStart c)
  else if mode = 1 then qIn (if phase = 4 ∧ v.re.left ≠ 0 then v.re.out else e)
  else if mode = 3 then
    (if v.re.left ≠ 0 then qIn v.re.out else if v.rv.left ≠ 0 then s.droopWith c v.rv.out else qIn e)
  else qIn 0

/-- Added reactance of a mode (R89). -/
def State.xOf (s : State) (c : CtxId) (mode phase : Nat) : Q := if mode = 1 ∧ 3 ≤ phase then s.xBs c else qIn 0

/-- w of a mode at the next run, before the limit (R48, R71, R73, R77, R95, R103). -/
def State.advance (s : State) (c : CtxId) (k : VsmCoef) (v : Vsm) (mode : Nat) (w pset : Int) : Q :=
  let wref := s.pAcc c 2 2
  if mode = 0 then wref
  else if mode = 2 then ⟨w, false⟩
  else
    let ref := if mode = 5 then (let y := s.curveW c v.ct; { qSig y.v with sat := y.sat }) else if mode = 3 ∧ v.rw.left ≠ 0 then ⟨v.rw.acc, false⟩ else wref
    s.swing c k v w (if mode = 5 ∨ mode = 6 then 0 else pset) ref (mode == 4)

/-- Blended value of R101. -/
def blended (out inn : Int) (n nb : Nat) : Int := sat16 (roundQ (out + min 1 ((n : ℚ) / nb) * (inn - out)))

/-- One run of the rate limiter: the output moves by at most `d` (R101). -/
def limited (last want d : Int) : Int := last + clampI (-d) d (want - last)

/-- The anchor correction after the run of release n. Under lock it integrates in the grid-forming mode with ANCHOR set; without lock it
decays once T_freeze has ended. In the current-envelope, gap, synchronise and black-start modes and during a blend it is held (R62 to R64;
notes/assumptions/94.md). The second part marks a saturation (R130). -/
def State.anchor (s : State) (c : CtxId) (n : Word32) (v : Vsm) (wOut : Int) : Vsm × Bool :=
  if s.time.locked then
    let v := { v with frz := 0, h := { v.h with decaying := false, unlocked := none } }
    if (s.paramInt c 8).testBit 0 ∧ v.mode = 3 ∧ !v.blend then
      let rho := ((65536 + wOut) * s.time.cRho) / 2 ^ 32
      let d := qStore (qSub (s.pAcc c 9 2) (qAdd (qSig wOut) (Q.lim 40 rho false)))
      let m := s.pAcc c 11 2
      let a := qClamp (qNeg m) m (qAdd ⟨v.dwa, false⟩ (qMul d (coefOf (s.ts c / s.pq c 10))))
      ({ v with dwa := a.v }, a.sat)
    else (v, false)
  else
    let held := v.blend || v.mode == 1 || v.mode == 2 || v.mode == 4 || v.mode == 5
    let v := { v with frz := if v.h.unlocked.isSome then v.frz + 1 else 0, h := { v.h with unlocked := v.h.unlocked.or (some n) } }
    if v.h.decaying && !held then
      let d := qMul (qStore ⟨v.dwa, false⟩) (coefOf (s.ts c / s.pq c 13))
      let a := qSub ⟨v.dwa, false⟩ d
      ({ v with dwa := a.v }, a.sat)
    else (v, false)

/-- Consecutive runs with stage 2 of the envelope active in every region period since the run before (R60): `full` tells that it was. -/
def stage2Runs (before : Nat) (active full : Bool) : Nat := if !active then 0 else if full then before + 1 else 1

/-- The current that the VSM's sequencer reads is below 0.02 p.u. (R104). -/
def State.lowCurrent (s : State) (c : CtxId) : Bool :=
  match (s.links c).current with
  | some x => decide (50 * x.toInt < 8192)
  | none => false

/-- The words of a VSM as a run begins with them, the request taken: the synchroniser's w read, the gap curve's time and that since entry to soft stop, the
ramps and the blend count stepped (R71, R95, R101, R103, R135). S8 keeps the curve time at which the gap mode was left (R74, R189). -/
def vsmBegin (c : CtxId) (ins : List Int) (s : State) (v : Vsm) : Vsm :=
  let i (k : Nat) : Int := ins.getD k 0
  let wSync := s.wLimited c v.dwa (loadSig (i 8))
  let vset := s.vSet c (i 7)
  { v with
    w := if v.mode = 2 then wSync else v.w
    xw := if v.blend && !v.h.outHeld && v.om == 2 then wSync else v.xw
    ct := if v.mode = 5 then v.ct + 1 else v.ct
    sn := if v.mode = 6 then v.sn + 1 else v.sn
    re := if v.re.left ≠ 0 then v.re.next (i 7) else v.re
    rw := if v.rw.left ≠ 0 then v.rw.next (qStore (s.pAcc c 2 2)).v else v.rw
    rv := if v.rv.left ≠ 0 then v.rv.next vset else v.rv
    n := if v.blend then v.n + s.ctxDivider c else v.n }

/-- The VSM with the gap curve's time of its outgoing mode: the runs of the blend count on from the time kept (R71, R101). -/
def State.outgoing (s : State) (c : CtxId) (v : Vsm) : Vsm := { v with ct := v.ct + v.n / s.ctxDivider c }

/-- The three outputs of a VSM that a hand-over blends, before the blend: w_out, E and the added reactance, of the incoming mode and of the
outgoing one (R101, R102). -/
def State.vsmOuts (s : State) (c : CtxId) (ins : List Int) (v : Vsm) : (Q × Q × Q) × (Q × Q × Q) :=
  let wref := s.pAcc c 2 2
  ((wOf v v.mode v.w wref, s.eOf c v v.mode v.h.phase ins, s.xOf c v.mode v.h.phase),
   if v.h.outHeld then (qIn (storeSig v.xw), qIn (storeSig v.xe), qIn (storeSig v.xx))
   else (wOf v v.om v.xw wref, s.eOf c (s.outgoing c v) v.om v.h.outPhase ins, s.xOf c v.om v.h.outPhase))

/-- Blend and rate limiter of a run (R101). -/
def State.vsmLimit (s : State) (c : CtxId) (wi ei xi wo eo xo : Int) (v : Vsm) : Vsm :=
  let nb := max 1 (s.paramInt c 31)
  let mix (o i : Int) : Int := if v.blend then blended o i v.n nb else i
  let yw := mix wo wi
  let ye := mix eo ei
  let acts := v.blend || v.limit
  let lw := if acts then limited v.lw (loadSig yw) (roundQ (s.pq c 32 * s.ts c * 2 ^ 32)) else loadSig yw
  let le := if acts then limited v.le (loadSig ye) (roundQ (s.pq c 33 * s.ts c * 2 ^ 30)) else loadSig ye
  { v with
    lw := lw, le := le, limit := acts && (lw != loadSig yw || le != loadSig ye)
    h := { v.h with outW := storeSig lw, outE := storeSig le, outX := mix xo xi, resW := loadSig yw - lw, resE := loadSig ye - le } }

/-- The integration of a run, with the limit of R51 on w at the next run, and the counts of its conditions (R47, R48, R51, R60, R71, R73,
R104). -/
def State.vsmIntegrate (s : State) (c : CtxId) (n : Word32) (ins : List Int) (k : VsmCoef) (pset : Int) (v : Vsm) : Vsm × Bool × Bool :=
  let i (j : Nat) : Int := ins.getD j 0
  let a := s.advance c k v v.mode v.w pset
  let v1r := s.anchor c n v v.h.outW
  let v1 := v1r.1
  let w1 := if v.mode = 0 then a.v else s.wLimited c v1.dwa a.v
  let raw := if v.mode = 2 then loadSig (i 8) else a.v
  let hit := v.mode != 0 && s.wLimited c v1.dwa raw != raw
  let x := s.advance c k (s.outgoing c v) v.om v.xw pset
  let dww := qStore (qSub ⟨v.w, false⟩ ⟨v.ww, false⟩)
  let dpf := qStore (qSub (qSig (i 0)) ⟨v.pf, false⟩)
  let ww := qAdd ⟨v.ww, false⟩ (qMul dww k.cw)
  let pf := qAdd ⟨v.pf, false⟩ (qMul dpf k.cp)
  let stage2 := (sigNat (i 2)).testBit 0
  let full := (s.peer c 2 0x06).isNone || decide (s.ctxDivider c ≤ (s.links c).streak)
  let u := loadSig (i 1)
  ({ v1 with
     w := w1
     xw := if v.blend && !v.h.outHeld then s.wLimited c v1.dwa x.v else v.xw
     ww := ww.v, pf := pf.v
     th := (v.th + (roundConv ((65536 + v.h.outW) * k.step) 65536).toNat) % 2 ^ 32
     a2 := stage2Runs v.a2 stage2 full
     low := if u < (s.pAcc c 14 0).v then v.low + 1 else 0
     tExit := (timerStep v.tExit (!stage2) n).toNat
     tRes := (timerStep v.tRes (decide ((s.pAcc c 15 0).v ≤ u)) n).toNat
     h := { v1.h with atLimit := hit, lowRuns := if v.mode = 6 && s.lowCurrent c then v.h.lowRuns + 1 else 0 } },
   hit, a.sat || x.sat || v1r.2 || dww.sat || dpf.sat || ww.sat || pf.sat)

/-- A run of the VSM: outputs, integration, conditions (R47 to R51, R62, R71, R77, R78, R101, R184). The status slot is that of the outgoing mode
(notes/assumptions/158.md). -/
def vsmRun (c : CtxId) (n : Word32) (ins : List Int) (s : State) : RunRes :=
  let i (k : Nat) : Int := ins.getD k 0
  let req := sigNat (i 3)
  let k := s.vsmCoef c
  let sp := setpoint c ins 0 1 0 11 (-1) s
  let s := sp.2
  let v0 := takePhase c req (i 7) s (s.vsm c)
  let done := (if v0.re.left = 1 then [14] else []) ++ (if v0.rw.left = 1 then [17] else []) ++ (if v0.rv.left = 1 then [20] else [])
  let v := vsmBegin c ins s v0
  let o := s.vsmOuts c ins v
  let v := s.vsmLimit c o.1.1.v o.1.2.1.v o.1.2.2.v o.2.1.v o.2.2.1.v o.2.2.2.v v
  let r := s.vsmIntegrate c n ins k sp.1.v v
  let u := i 1
  let permit := decide ((s.pAcc c 15 0).v ≤ loadSig u)
  let factor := s.stopFactor c v
  let level := if v.mode = 5 then s.shedLevel c v.ct else 0
  let s := putVsm c r.1 s
  let s := s.modRt c fun x => { x with rampDone := done ++ x.rampDone }
  let s := if r.2.1 && !v.h.atLimit then raise (s.srcOf c) evCtxFreqLimit 0 0 s else s
  let s := reportShed c level s
  let status := statusWord v.mode (if v.mode = 1 then v.h.phase else 0) v.blend v.limit (req.testBit 10) (req.testBit 11)
  let s := match s.vsmNext c r.1 req u with | some m => transition c m ins s | none => s
  { s := s
    outs := [(0, (v.th / 65536 : Nat)), (1, v.h.outW), (2, v.h.outE), (3, v.h.outX), (4, (status : Nat)),
             (5, ((s.loop.rt[c]).vsm.shed : Nat)), (6, factor), (7, if permit then 32767 else 0)]
    sat := r.2.2 || sp.1.sat || v0.re.sats || v0.rw.sats || v0.rv.sats || o.1.1.sat || o.1.2.1.sat || o.1.2.2.sat ||
      (v.blend && (o.2.1.sat || o.2.2.1.sat || o.2.2.2.sat)) }

end Sys2Proof.Machine
end

