-- ==== Sys2Proof/Machine/Forming.lean ====
section
/-!
DEFINITION. Templates 0x02, 0x05, 0x06, 0x0C, 0x0D and 0x12 (R53 to R58, R79 to R98, R103 to R105, R187), and the templates whose
equations the spec does not give, whose results are free values (notes/assumptions/41.md).
-/
namespace Sys2Proof.Machine

open Sys2Proof

/-! ## Transforms (R43) -/

/-- A rational near enough to the root of 3 that no rounding of this file depends on the difference. -/
def sqrt3Q : ℚ := 17320508075688772935274463415058723669428052538103 / 10000000000000000000000000000000000000000000000000

/-- Of the amplitude-invariant transform of phase values: 3 α, √3 β and 3 times the zero component (R43). -/
def clarke (a b c : Int) : Int × Int × Int := (2 * a - b - c, b - c, a + b + c)

/-- 9 times p of R43, and 3 √3 q, in products of signals. -/
def powers (v i : Int × Int × Int) : Int × Int :=
  (v.1 * i.1 + 3 * (v.2.1 * i.2.1) + 2 * (v.2.2 * i.2.2), v.2.1 * i.1 - v.1 * i.2.1)

/-- Root of a rational below 2^126, rounded to the nearest integer. -/
def rootQ (x : ℚ) : Nat := (isqrt (4 * x).floor.toNat + 1) / 2

/-- Magnitude of a vector of phase values (notes/assumptions/95.md). -/
def magnitude (x : Int × Int × Int) : Nat := rootQ ((x.1 * x.1 : Int) / 9 + (x.2.1 * x.2.1 : Int) / 3)

/-- Phase values of α, β and 0. -/
def phases (al be z : Int) : List Int :=
  [al + z, roundQ (z - (al : ℚ) / 2 + sqrt3Q / 2 * be), roundQ (z - (al : ℚ) / 2 - sqrt3Q / 2 * be)]

/-! ## Q-V droop (R53) -/

def droopRun (c : CtxId) (ins : List Int) (s : State) : RunRes :=
  let a := setpoint c ins 0 1 1 1 0 s
  let b := setpoint c ins 2 3 0 4 (-1) a.2
  let s := b.2
  let qf : Q := qLoad (s.sw c 0)
  let dq := qStore (qSub (qSig b.1.v) qf)
  let term := qMul dq (s.pms c 4 1)
  let out := qStore (qClamp (s.pAcc c 6 0) (s.pAcc c 7 0) (qAdd (qSig a.1.v) term))
  let d := qStore (qSub (qSig (ins.getD 0 0)) qf)
  let qn := qAdd qf (qMul d (coefOf (s.ts c / s.pq c 5)))
  { s := (setSw c 0 qn.v s).modRt c fun x => { x with term := term.v }, outs := [(0, out.v)]
    sat := a.1.sat || b.1.sat || out.sat || qn.sat }

/-! ## Virtual impedance (R54 to R56, R185, R186) -/

/-- The adaptation ramp of r_pos, if one runs (R70, R186). -/
def State.adaptRamp (s : State) (c : CtxId) : Option Ramp := (s.loop.rt[c]).adapt.map fun a => { acc := a.1, step := a.2.1, left := a.2.2 }

/-- r_pos of a run in accumulator units, and the ramp that is left (R135, R136). -/
def State.rPos (s : State) (c : CtxId) : Q × Option Ramp :=
  match s.adaptRamp c with
  | none => (s.pAcc c 0 0, none)
  | some r =>
    let q := r.next (qStore (s.pAcc c 0 0)).v
    if q.left = 0 then (s.pAcc c 0 0, none) else ({ v := q.acc, sat := r.sats }, some q)

/-- The adaptation ramp kept after a run. -/
def putAdapt (c : CtxId) (r : Option Ramp) (s : State) : State :=
  s.modRt c fun x => { x with adapt := r.map fun q => (q.acc, q.step, q.left) }

/-- The harmonic drops of one axis: component 3 j + axis of each enabled harmonic times R_h (R55). -/
def State.harmDrop (s : State) (c : CtxId) (on : List Nat) (block : List Word16) (axis : Nat) : Q :=
  on.foldl (fun a j => qAdd a (qMul (qIn (block.getD (3 * j + axis) 0).toInt) (s.pms c (6 + j) 1))) { v := 0 }

/-- The drop of a current i over a parameter p, in p.u. of Z_b, scaled with 1 + w (R54): an exact product. -/
def qDrop (i w : Int) (p : Int × Int) : Q := qAcc (shiftI (i * (65536 + w) * p.1) (p.2 - 14))

/-- The drop over an added resistance or reactance, a signal of 0x4000 per Z_b, scaled with 1 + w (R54, R56, R89;
notes/assumptions/96.md). -/
def qDropSig (i w a : Int) : Q := qAcc (shiftI (i * (65536 + w) * a) (-13))

/-- The drop over r_pos, whose adaptation ramp is an accumulator value (R70). -/
def qDropAcc (i : Int) (r : Q) : Q := { qAcc (shiftI (i * r.v) (-13)) with sat := r.sat || (qAcc (shiftI (i * r.v) (-13))).sat }

def impedanceRun (c : CtxId) (ins : List Int) (s : State) : RunRes :=
  let i (k : Nat) : Int := ins.getD k 0
  let th := sigNat (i 0)
  let w := i 2
  let rp := s.rPos c
  let rDrop (k : Nat) (x : Int) : Q := qAdd (qDrop x 0 (s.pms c k 0)) (qDropSig x 0 (i 8))
  let rpDrop (x : Int) : Q := qAdd (if rp.2.isSome then qDropAcc x rp.1 else qDrop x 0 (s.pms c 0 0)) (qDropSig x 0 (i 8))
  let xDrop (k : Nat) (x : Int) : Q := qAdd (qDrop x w (s.pms c k 0)) (qDropSig x w (i 9))
  let block := (s.links c).block
  let last := qStore (qLoad (s.sw c 0))
  let on := (s.links c).harmonics
  let tr : ℚ := s.clockStep c / 4000000000
  let cz := coefOf (s.pq c 5 / (2 * piQ * s.ctxFB c * tr))
  let dz := qDrop (i 7 - last.v) 0 cz
  let a := qMulSig (qIn (i 1)) (qIn (cosUnit th)) 0
  let b := qMulSig (qIn (i 1)) (qIn (sinUnit th)) 0
  let a := qSub (qSub a (qSub (rpDrop (i 3)) (xDrop 1 (i 4)))) (qAdd (rDrop 2 (i 5)) (xDrop 3 (i 6)))
  let b := qSub (qSub b (qAdd (rpDrop (i 4)) (xDrop 1 (i 3)))) (qSub (rDrop 2 (i 6)) (xDrop 3 (i 5)))
  let z := qSub (qNeg (rDrop 4 (i 7))) dz
  let oa := qStore (qSub a (s.harmDrop c on block 0))
  let ob := qStore (qSub b (s.harmDrop c on block 1))
  let oz := qStore (qSub z (s.harmDrop c on block 2))
  { s := putAdapt c rp.2 (setSw c 0 (loadSig (i 7)) s), outs := [(0, oa.v), (1, ob.v), (2, oz.v)]
    sat := oa.sat || ob.sat || oz.sat || last.sat }

/-! ## Current envelope (R56 to R59) -/

/-- t_ov in quarters of a region period (R58). -/
def State.tOv (s : State) (c : CtxId) : Nat := 4 * s.swBits c 0 + (s.loop.rt[c]).quarter

/-- T_peak in quarters of a region period, rounded up. -/
def State.tPeak (s : State) (c : CtxId) : Nat := if s.ts c = 0 then 0 else (4 * s.pq c 4 / s.ts c).ceil.toNat

/-- T_peak has been reached and the fold-back has not started (R58). -/
def State.foldDue (s : State) (c : CtxId) : Bool := decide (s.tPeak c ≤ s.tOv c) && !(s.loop.rt[c]).folding && decide (0 < s.tOv c)

/-- The overload timer after a run at which the current is above or at most I_cont (R58): up by a period, to T_peak, or down by a quarter. -/
def overloadStep (c : CtxId) (above : Bool) (s : State) : State :=
  let t := s.tOv c
  let t := if above then max t (min (t + 4) (s.tPeak c)) else t - 1
  let s := setSw c 0 (t / 4 : Nat) (s.modRt c fun x => { x with quarter := t % 4 })
  if t = 0 then setSw c 3 0 (s.modRt c fun x => { x with folding := false })
  else if (s.loop.rt[c]).folding then setSw c 3 (s.swBits c 3 + 1 : Nat) s
  else s

/-- i_lim and in_lim before the stop factor: I_peak, or between I_peak and I_cont during fold-back, in_lim in the same proportion (R58). -/
def State.foldLimits (s : State) (c : CtxId) : Q × Q :=
  let f : ℚ := if (s.loop.rt[c]).folding then (if s.pq c 7 = 0 then 1 else min 1 (s.swBits c 3 * s.ts c / s.pq c 7)) else 0
  let pk := s.pq c 3
  let cur := pk - f * (pk - s.pq c 5)
  (qAcc (roundQ (cur * 2 ^ 29)), qAcc (roundQ (s.pq c 6 * (if pk = 0 then 1 else cur / pk) * 2 ^ 29)))

/-- A limit of stage 2 with the stop factor of R103, which is 1 at 0x7FFF. -/
def stopLimit (lim : Q) (factor : Int) : Q := qStore (if factor = 32767 then lim else qMulSig (qStore lim) (qIn factor) 0)

/-- |i|: the largest of the three phase currents (R56, R58; notes/assumptions/97.md). -/
def phaseMax (a b c : Int) : Nat := max (absN a) (max (absN b) (absN c))

def envelopeRun (c : CtxId) (ins : List Int) (s : State) : RunRes :=
  let i (k : Nat) : Int := ins.getD k 0
  let imag := phaseMax (i 3) (i 4) (i 5)
  let mag := qSig (imag : Int)
  let stage1 := decide ((s.pAcc c 0 (-1)).v < mag.v)
  let r := if stage1 then qStore (qClamp { v := 0 } (s.pAcc c 2 0) (qMul (qStore (qSub mag (s.pAcc c 0 (-1)))) (s.pms c 1 1))) else qIn 0
  let above := decide ((s.pAcc c 5 (-1)).v < mag.v)
  let s := overloadStep c above s
  let folding := (s.loop.rt[c]).folding
  let lims := s.foldLimits c
  let ilim := stopLimit lims.1 (i 7)
  let inlim := stopLimit lims.2 (i 7)
  let p := phases (i 0) (i 1) (i 2)
  let ref (k : Nat) : Q := Q.lim 16 (p.getD k 0) false
  let iN := qStore (qNeg (qAdd (qAdd (qSig (ref 0).v) (qSig (ref 1).v)) (qSig (ref 2).v)))
  let big := phaseMax (ref 0).v (ref 1).v (ref 2).v
  let s1 : Option Int := if ilim.v < (big : Int) then some (divSig ilim.v big) else none
  let s2 : Option Int := if inlim.v < (absN iN.v : Int) then some (divSig inlim.v (absN iN.v)) else none
  let k : Option Int := match s1, s2 with | some a, some b => some (min a b) | some a, none => some a | none, b => b
  let scale (x : Int) : Q := match k with | some y => qStore (qMulSig (qIn x) (qIn y) 0) | none => qIn x
  let open_ : Int := if ilim.v < (imag : Int) then divSig ilim.v imag else 32767
  let status := b2n k.isSome + 2 * b2n stage1 + 4 * b2n folding
  let o (j : Nat) : Q := scale (i j)
  { s := (setSw c 2 lims.2.v (setSw c 1 lims.1.v s)).modRt c fun x => { x with streak := if k.isSome then x.streak + 1 else 0 }
    outs := [(0, (o 0).v), (1, (o 1).v), (2, (o 2).v), (3, r.v), (4, (status : Nat)), (5, ilim.v), (6, open_)]
    sat := r.sat || ilim.sat || inlim.sat || (ref 0).sat || (ref 1).sat || (ref 2).sat || iN.sat || (o 0).sat || (o 1).sat || (o 2).sat }

/-! ## Synchroniser (R95, R96) -/

/-- A difference of angles wrapped to half a revolution either way. -/
def wrapHalf (x : ℚ) : ℚ := x - ⌊x + 1 / 2⌋

/-- The windows of R96 are all met. -/
def State.windowsMet (s : State) (c : CtxId) (dth w wb v vb : Int) (permit : Bool) : Bool :=
  let dw : ℚ := (w - wb) / 65536
  let pred := wrapHalf (dth / 65536 - dw * s.ctxFB c * s.pq c 7)
  decide (|pred| ≤ s.pq c 0 / 360) && decide (|dw| ≤ s.pq c 1) && decide (|((v - vb : Int) : ℚ) / 16384| ≤ s.pq c 2) &&
    decide (s.pq c 3 ≤ (vb : ℚ) / 16384) && permit

def synchroniserRun (c : CtxId) (n : Word32) (ins : List Int) (s : State) : RunRes :=
  let i (k : Nat) : Int := ins.getD k 0
  let dth := sx 16 (sigNat (i 0) + 65536 - sigNat (i 5))
  let lim := s.pAcc c 6 2
  let ws := qStore (qAdd (qSig (i 1)) (qClamp (qNeg lim) lim (qMul (qIn dth) (s.pms c 5 0))))
  let met := s.windowsMet c dth (i 6) (i 1) (i 3) (i 2) (decide (0 < i 7))
  let s := setSw c 0 (timerStep (s.swBits c 0) met n) s
  let s := s.modRt c fun x => { x with syncErr := (dth, i 6 - i 1, |i 3 - i 2|) }
  { s := s, outs := [(0, if met && s.outVal c 0 != 0 then 32767 else 0), (1, dth), (2, ws.v)], sat := ws.sat }

/-! ## Black-start sequencer (R79 to R98, R103 to R105) -/

/-- The sequencer's words and what it keeps beside them (R189). -/
structure Seqr where
  phase : Nat
  rose : Bool
  dead : Nat
  tms : Nat
  delay : Nat
  cont : Nat
  hold : Nat
  win : Nat
  est : Int
  x : SeqRt
  /-- Events of this step, oldest first, and whether CMD is cleared and a kept START completes. -/
  evs : List (EvDef × Nat × Nat) := []
  clearCmd : Bool := false

def State.seqr (s : State) (c : CtxId) : Seqr :=
  let m := s.swBits c 0
  { phase := m % 256, rose := m.testBit 9, dead := s.swBits c 1 % 2 ^ 33, tms := s.swBits c 2 % 65536, delay := s.swBits c 3 % 2 ^ 33
    cont := s.swBits c 4 % 2 ^ 33, hold := s.swBits c 5 % 2 ^ 33, win := s.swBits c 6 % 2 ^ 33, est := s.sw c 7, x := (s.loop.rt[c]).seqr }

/-- The units of the region are held by region hold: while stopped, in LISTEN and DELAY, and in CLOSE with the drive off (R77, R88,
R89). -/
def Seqr.holds (q : Seqr) : Bool :=
  q.x.stage == .stopped || (q.x.stage == .blackStart && (decide (q.phase ≤ 2) || (q.phase == 3 && !q.x.drive)))

/-- Mode asked of the VSM (notes/assumptions/40.md). -/
def SeqStage.mode : SeqStage → Nat
  | .stopped => 0
  | .blackStart => 1
  | .synchronise => 2
  | .running => 3
  | .softStop => 6

/-- Outputs O0 to O2 of the sequencer. -/
def Seqr.outs (q : Seqr) (fb : Bool) : List (Nat × Int) :=
  [(0, if q.x.drive then 32767 else 0),
   (1, (statusWord q.x.stage.mode (if q.x.stage = .blackStart then q.phase else 0) false false q.x.drive fb : Nat)),
   (2, if q.holds then 32767 else 0)]


def putSeqr (c : CtxId) (fb : Bool) (q : Seqr) (s : State) : State :=
  let m : Nat := q.phase + 2 ^ 8 * b2n (!q.x.kept.isEmpty) + 2 ^ 9 * b2n q.rose
  let s := forList (fun p t => setSw c p.1 p.2 t)
    [(0, (m : Int)), (1, (q.dead : Int)), (2, (q.tms : Int)), (3, (q.delay : Int)), (4, (q.cont : Int)), (5, (q.hold : Int)),
     (6, (q.win : Int)), (7, q.est)] s
  let s := s.modRt c fun x => { x with seqr := q.x }
  let s := if q.x.warned then stand (s.srcOf c) evCtxBusFbLost s else settleBusFb (s.srcOf c) s
  let s := if q.clearCmd then throughCtx c 0x100 [0, 0, 0, 0] s else s
  let s := forList (fun e t => raise (t.srcOf c) e.1 (BitVec.ofNat 32 e.2.1) (BitVec.ofNat 32 e.2.2) t) q.evs s
  forList (fun o t => setOutVal c o.1 (sigWord o.2) t) (q.outs fb) s

def Seqr.event (q : Seqr) (e : EvDef) (d a : Nat) : Seqr := { q with evs := q.evs ++ [(e, d, a)] }

/-- Drive off at release n: T_cont of R104 runs from here. -/
def Seqr.driveOff (q : Seqr) (n : Word32) : Seqr :=
  if q.x.drive then { q with cont := (timerAt n).toNat, x := { q.x with drive := false, closed := false } } else q

/-- Drive on at release n (R89, R96): T_cont of R90 runs from here. -/
def Seqr.driveOn (q : Seqr) (n : Word32) (energise : Bool) : Seqr :=
  let q := { q with cont := (timerAt n).toNat, x := { q.x with drive := true, closed := false } }
  if energise then q.event evCtxDriveOn 0 0 else q

def Seqr.stop (q : Seqr) : Seqr := { q with phase := 0, dead := 0, x := { q.x with stage := .stopped } }
def Seqr.listen (q : Seqr) : Seqr := { q with phase := 1, dead := 0, x := { q.x with stage := .blackStart } }
def Seqr.sync (q : Seqr) : Seqr := { q with phase := 0, dead := 0, win := 0, x := { q.x with stage := .synchronise } }

/-- CLOSE with the drive off: the drive goes on when the DC link permits and the bus is still dead (R84, R88, R91). -/
def Seqr.closeStep (q : Seqr) (n : Word32) (live permit lost : Bool) : Seqr :=
  if q.x.stage = .blackStart ∧ q.phase = 3 ∧ !q.x.drive ∧ permit ∧ !lost ∧ !q.x.weld then
    (if live then q.listen else q.driveOn n true)
  else q

/-- What a sequencer reads at a run. -/
structure SeqIn where
  vbus : Int
  live : Bool
  fb : Bool
  mode : Nat
  phase : Nat
  close : Bool
  permit : Bool
  lost : Bool

def State.seqIn (s : State) (c : CtxId) (ins : List Int) : SeqIn :=
  let i (k : Nat) : Int := ins.getD k 0
  { vbus := i 0, live := decide (16384 ≤ 10 * i 0), fb := decide ((s.pAcc c 8 1).v ≤ loadSig (i 2))
    mode := sigNat (i 3) % 16, phase := sigNat (i 3) / 16 % 16, close := decide (0 < i 4)
    permit := decide (0 < i 6), lost := (s.ctxLost c).testBit 0 }

/-- The current has been below 0.02 p.u. at two consecutive runs of the VSM that the sequencer serves, in soft stop (R104). -/
def State.currentLow (s : State) (c : CtxId) : Bool := decide (2 ≤ (s.links c).lowRuns)

/-- The condition of R91: closed while the drive is off, and T_cont past since it went off (R104). -/
def State.weldSeen (s : State) (c : CtxId) (q : Seqr) (fb : Bool) (n : Word32) : Bool :=
  !q.x.drive && fb && !q.x.weld && (!timerOn q.cont || s.timerMet c q.cont n (s.pq c 7))

/-- The run of a sequencer, but for the happenings that have rows of their own (R79, R80, R83, R84, R88, R91 to R93, R96, R97, R104). -/
def seqStep (c : CtxId) (n : Word32) (y : SeqIn) (s : State) (q : Seqr) : Seqr :=
  let cmd := s.paramInt c 0
  let inhibited := match s.ctxRegion c with | some r => s.showsInhibit r || s.latched r | none => false
  let q := if y.lost && !q.x.warned then q.event evCtxBusFbLost 0 0 else q
  let q := { q with x := { q.x with warned := y.lost } }
  let q := if q.x.drive && inhibited then ((q.driveOff n).stop).event evCtxSequenceStopped 0 0 else q
  let q := if q.x.drive && y.fb then { q with x := { q.x with closed := true } } else q
  let q := if q.x.drive && q.x.closed then { q with cont := (timerStep q.cont (!y.fb) n).toNat } else q
  let q :=
    if s.weldSeen c q y.fb n then
      let q := { q with x := { q.x with weld := true } }.event evCtxWelded 0 0
      if q.x.stage = .synchronise then q.listen else q
    else q
  let q :=
    if cmd = 2 then
      let q := { q with clearCmd := true }
      if q.x.drive then { q with phase := 0, x := { q.x with stage := .softStop } } else q.stop
    else q
  let q :=
    if q.x.drive && q.x.stage != .softStop && y.mode == 6 then { q with phase := 0, x := { q.x with stage := .softStop } } else q
  let q :=
    if q.x.stage = .softStop then
      (if q.x.drive then (if s.currentLow c then q.driveOff n else q)
       else if y.fb then q else q.stop)
    else q
  let q := if cmd = 1 ∧ q.x.stage = .stopped ∧ y.mode = 0 then { q.listen with clearCmd := true } else q
  let q :=
    if q.x.stage = .synchronise then
      (if !q.x.drive then
        let q := { q with dead := (timerStep q.dead (!y.live && !y.lost) n).toNat }
        if y.close && y.permit && !y.lost && !q.x.weld then { q.driveOn n false with win := 0 }
        else
          { q with win := (timerStep q.win (!(s.links c).winMet) n).toNat }
       else if y.fb then
        let e := (s.links c).syncErr
        { q with cont := 0, x := { q.x with closed := true, stage := .running } }.event evCtxSyncClose (sigNat e.1) (sigNat e.2.1)
       else q)
    else q
  let q :=
    if q.x.stage = .blackStart ∧ q.phase = 1 then
      (if y.live then (if q.x.weld then { q with dead := 0 } else q.sync)
       else { q with dead := (timerStep q.dead (!y.live && !y.lost) n).toNat })
    else q
  let q := if q.x.stage = .blackStart ∧ q.phase = 2 ∧ y.live then { q with rose := true } else q
  let q := q.closeStep n y.live y.permit y.lost
  let q :=
    if q.x.stage = .blackStart ∧ q.phase = 3 ∧ q.x.drive ∧ y.fb then
      { q with phase := 4, cont := 0, x := { q.x with closed := true } }
    else q
  if q.x.stage = .blackStart ∧ 4 ≤ q.phase ∧ 1 < y.mode then { q with phase := 0, x := { q.x with stage := .running } }
  else if q.x.stage = .blackStart ∧ q.phase = 4 ∧ y.mode = 1 ∧ y.phase = 5 then { q with phase := 5, hold := (timerAt n).toNat }
  else q

/-- Setpoints of R188 as (parameter, ramp time, counterpart slot, unit), in the table's order. -/
def setpointsOf (t : Nat) : List (Nat × Nat × Nat × Int) :=
  match t with
  | 0x01 => [(0, 1, 0, -1)]
  | 0x02 => [(0, 1, 1, 0), (2, 3, 0, -1)]
  | 0x09 => [(0, 1, 0, 0)]
  | 0x0A => [(0, 1, 0, 0)]
  | 0x0B => [(0, 1, 1, -1), (2, 3, 0, 0)]
  | 0x10 => [(0, 1, 0, 1)]
  | _ => []

/-! ## A CTX_WRITE's effect (R134, R164, R181, R186) -/

/-- The byte of an entry is device-written (R139, R165, R167). -/
def deviceByte (b : Nat) : Bool :=
  b == 3 || (decide (8 ≤ b) && decide (b < 12)) || (decide (22 ≤ b) && decide (b < 44)) ||
    (decide (0xC0 ≤ b) && decide (b < 0x100) && (b % 8 == 2 || b % 8 == 3)) ||
    (decide (0x7F0 ≤ b) && decide (b < 0x7F6))

/-- The bytes that a write leaves: host data, with device-written bytes kept (R181). -/
def State.maskedData (s : State) (c : CtxId) (off : Nat) (data : List Byte) : List Byte :=
  data.zipIdx.map fun p => if deviceByte (off + p.2) then s.ctxByte c (off + p.2) else p.1

/-- The data of a CTX_WRITE: inline, or as read from host memory (R345). -/
def State.writeData (s : State) (k : Slot) : List Byte :=
  let d := s.desc k
  if (leAt d 17 1).testBit 0 then bytesAt d 32 (leAt d 20 2)
  else (((s.workOf k).bind Work.data).getD []).take (leAt d 20 2)

/-- A write applied to an entry: the bytes, the setpoints of an enabled context that it has changed (R134), the end of an adaptation of
r_pos (R186). -/
def applyWrite (c : CtxId) (off : Nat) (data : List Byte) (s : State) : State :=
  let set := (setpointsOf (s.ctxTemplate c)).map Prod.fst
  let before := set.map (s.paramWord c)
  let hits := decide (off < 0x104) && decide (0x100 < off + data.length)
  let s := throughCtx c off (s.maskedData c off data) s
  let moved := (set.zip before).filterMap fun p => if s.paramWord c p.1 = p.2 then none else some p.1
  s.modRt c fun x =>
    { x with
      changed := if s.ctxEnabled c then x.changed ++ moved.filter (fun k => !x.changed.contains k) else x.changed
      adapt := if hits && s.ctxTemplate c == 0x05 then none else x.adapt }

/-- The kept STARTs applied, each CTX_WRITE whole, and completed (R80). -/
def completeKept (c : CtxId) (s : State) : State :=
  let l := (s.loop.rt[c]).seqr.kept
  forList (fun k t => finishOk k 0 (applyWrite c (leAt (t.desc k) 18 2) (t.writeData k) t)) l
    (s.modRt c fun x => { x with seqr := { x.seqr with kept := [] } })

def sequencerRun (c : CtxId) (n : Word32) (ins : List Int) (s : State) : RunRes :=
  let y := s.seqIn c ins
  let x := (s.loop.rt[c]).seqr
  let s := if !x.kept.isEmpty && x.stage == .stopped && y.mode == 0 then completeKept c s else s
  let q := seqStep c n y s (s.seqr c)
  { s := putSeqr c y.fb q s, outs := q.outs y.fb, sat := (s.pAcc c 8 1).sat }

/-! ## Table and limiter (R187) -/

/-- Interpolation between table points given as (x, y) signals, none beyond the ends, where the spec states no value. -/
def tableAt (x : Int) : List (Int × Int) → Option Int
  | p :: q :: l =>
    if x < p.1 then none
    else if x ≤ q.1 then some (p.2 + (if q.1 - p.1 = 0 then 0 else roundQuot ((q.2 - p.2) * (x - p.1)) (q.1 - p.1)))
    else tableAt x (q :: l)
  | _ => none

/-- Parameter k as a signal in the scale of the input. -/
def State.pSigQ (s : State) (c : CtxId) (k : Nat) : Q := qStore (s.pAcc c k 1)
def State.pSig (s : State) (c : CtxId) (k : Nat) : Int := (s.pSigQ c k).v

/-- The parameters of a table that a run uses. -/
def State.tableParams (s : State) (c : CtxId) : List Nat :=
  [1, 2, 3] ++ if s.paramInt c 0 = 0 then [] else (List.range (2 * s.paramInt c 4)).map (5 + ·)

/-! ## Templates whose equations the spec does not state (R131, R184, R187; notes/assumptions/41.md) -/

/-- The values that R131 lets a run depend on beside its slots and its release: header fields and parameters. -/
def State.runParams (s : State) (c : CtxId) : List Nat :=
  [s.ctxSB c, s.ctxVLL c, s.ctxFB c, s.ctxUB c, s.runFine c] ++ (List.range 192).map (s.paramWord c)

/-- Word w of what a run of release n leaves: a free value, the same for the same parameters, state, inputs and count (R131). -/
def State.runWord (s : State) (c : CtxId) (n : Word32) (ins : List Int) (w : Nat) : Word64 :=
  Config.runWord (s.ctxTemplate c) w (s.runParams c) ((List.range 120).map (s.swBits c)) ins n.toNat

/-- The same as a signal. -/
def State.runSig (s : State) (c : CtxId) (n : Word32) (ins : List Int) (w : Nat) : Int := sx 16 (s.runWord c n ins w).toNat

def tableRun (c : CtxId) (n : Word32) (ins : List Int) (s : State) : RunRes :=
  let x := ins.getD 0 0
  let pts := (List.range (s.paramInt c 4)).map fun j => (s.pSig c (5 + 2 * j), s.pSig c (6 + 2 * j))
  let y := if s.paramInt c 0 = 0 then x else (tableAt x pts).getD (s.runSig c n ins 0)
  let y := clampI (s.pSig c 1) (s.pSig c 2) y
  let d := s.pSig c 3
  let last := qStore (qLoad (s.sw c 0))
  let y := if d = 0 then y else limited last.v y d
  { s := setSw c 0 (loadSig y) s, outs := [(0, y)]
    sat := ((s.tableParams c).any fun k => (s.pSigQ c k).sat) || (d != 0 && last.sat) }

/-- State words that are integrators or filter words of such a template, and its free outputs; setpoints follow the words (R189,
notes/assumptions/41.md). -/
def freeWords (t b : Nat) : Nat × Nat :=
  match t with
  | 0x03 => (6, 4)
  | 0x04 => (4, 4)
  | 0x07 => (4, 4)
  | 0x08 => (48, 2)
  | 0x09 => (2, 2)
  | 0x0A => (1, 2)
  | 0x0B => (2, 2)
  | 0x0E => (8, 4)
  | 0x10 => (2, 1)
  | 0x11 => (2 * b, 2)
  | _ => (0, 0)

/-- State words named by such a template before its setpoints' ramps: 0x03 adds the angle of its injection (R185). -/
def ownWords (t b : Nat) : Nat := (freeWords t b).1 + (if t = 0x03 then 1 else 0)

/-- State words 0 to k - 1 given values. -/
def setWords (c : CtxId) (f : Nat → Int) (k : Nat) (s : State) : State := (List.range k).foldl (fun t j => setSw c j (f j) t) s

/-- The setpoint ramps of a template whose other words are free (R135, R188, R189). -/
def freeSetpoints (c : CtxId) (t k : Nat) (ins : List Int) (s : State) : State :=
  ((setpointsOf t).zipIdx).foldl (fun u p => (setpoint c ins p.1.1 p.1.2.1 p.1.2.2.1 (k + 3 * p.2) p.1.2.2.2 u).2) s

/-- A setpoint ramp of such a template saturates at this run (R130). -/
def State.setpointsSat (s : State) (c : CtxId) (t k : Nat) (ins : List Int) : Bool :=
  ((setpointsOf t).zipIdx).any fun p => (setpoint c ins p.1.1 p.1.2.1 p.1.2.2.1 (k + 3 * p.2) p.1.2.2.2 s).1.sat

/-- The duty limit of the leg current regulator, P3 of a period (R184; notes/assumptions/98.md). -/
def State.dutyLimit (s : State) (c : CtxId) : Int := clampI 0 32767 (s.pSig c 3)

/-- Limits that a template's map states for an output: duties up to P3, the current reference up to P6 either way, PID output from P6 to P7,
phase shift from 0 to P4 of a revolution, charger phase one of its three codes (R184, R187; notes/assumptions/147.md). -/
def State.limitOut (s : State) (c : CtxId) (t k : Nat) (x : Int) : Int :=
  if t = 0x04 then clampI 0 (s.dutyLimit c) x
  else if t = 0x09 ∧ k = 0 then let i := (qStore (s.pAcc c 6 (-1))).v; clampI (-i) i x
  else if t = 0x10 then clampI (s.pSig c 6) (s.pSig c 7) x
  else if t = 0x0A ∧ k = 0 then clampI 0 (min 32767 (roundQ (s.pq c 4 * 65536))) x
  else if t = 0x0B ∧ k = 1 then (if x % 3 = 0 then 0 else if x % 3 = 1 then 0x4000 else 0x7FFF)
  else x

/-- A run of a template whose results the spec does not state: its words, its outputs and its SAT mark are free values of R131. With `keep`
its words stay as they are. -/
def freeRun (c : CtxId) (n : Word32) (ins : List Int) (keep : Bool) (s : State) : RunRes :=
  let t := s.ctxTemplate c
  let w := freeWords t (s.paramInt c 0)
  let f := s.runWord c n ins
  let t1 := if keep then s else setWords c (fun j => sx 40 (f (16 + j)).toNat) w.1 s
  { s := freeSetpoints c t (ownWords t (s.paramInt c 0)) ins t1
    outs := (List.range w.2).map fun j => (j, s.limitOut c t j (sx 16 (f j).toNat))
    sat := (f 8).getLsbD 0 || t1.setpointsSat c t (ownWords t (s.paramInt c 0)) ins }

/-! ## Sequence separator and meter (R43, R46, R47, R83, R156, R184) -/

/-- The separator: i_0, i_α and i_β by the transform of R43; the sequences are free values. -/
def separatorRun (c : CtxId) (n : Word32) (ins : List Int) (s : State) : RunRes :=
  let r := freeRun c n ins false s
  let k := clarke (ins.getD 0 0) (ins.getD 1 0) (ins.getD 2 0)
  let o (x : ℚ) : Q := Q.lim 16 (roundQ x) false
  let z := o ((k.2.2 : ℚ) / 3)
  let a := o ((k.1 : ℚ) / 3)
  let b := o (k.2.1 / sqrt3Q)
  { r with outs := r.outs ++ [(4, z.v), (5, a.v), (6, b.v)], sat := r.sat || z.sat || a.sat || b.sat }

/-- In open-loop operation the voltage reference at the output of the region's virtual impedance stands for each lost voltage input (R156). -/
def State.meterVolts (s : State) (c : CtxId) (ins : List Int) : List Int :=
  let v := (List.range 3).map fun k => ins.getD k 0
  let w (k : Nat) : Int := ((s.links c).volts.getD k 0).toInt
  if s.ctxState c ≠ 3 ∨ (s.links c).volts.isEmpty then v
  else
    let p := phases (w 0) (w 1) (w 2)
    (v.zip p).zipIdx.map fun x => if (s.ctxLost c).testBit x.2 then sat16 x.1.2 else x.1.1

/-- The meter's window ends with this run: at the VSM's release, or at a wrap of the angle I6, or 20 ms after its start while I6 has not
moved (R46, R83). -/
def State.meterEnds (s : State) (c : CtxId) (n : Word32) (ins : List Int) (count : Nat) : Bool :=
  let th := sigNat (ins.getD 6 0)
  if s.paramInt c 0 = 0 then n.toNat % (s.links c).meterSpan == 0
  else
    let was := s.swBits c 8
    decide (th + 32768 < was % 65536) || (th == was % 65536 && decide ((1 : ℚ) / 50 ≤ count * s.ts c))

/-- The mean of k values from that of the k - 1 before and the last value, all in accumulator units (R127; notes/assumptions/95.md). -/
def qMean (k : Nat) (a : Q) (x : ℚ) : Q := qAdd a (qAcc ((x - a.v) / (max 1 k : Nat)).floor)

/-- A run of the RMS/power meter: the means of its window so far in S0 to S6, in the scale of the signals they give, the runs taken in S7, I6
in S8; its outputs at the window's end (R126 to R128, R189; notes/assumptions/95.md). -/
def meterRun (c : CtxId) (n : Word32) (ins : List Int) (s : State) : RunRes :=
  let vs := s.meterVolts c ins
  let x (k : Nat) : Int := vs.getD k 0
  let v := clarke (x 0) (x 1) (x 2)
  let i := clarke (ins.getD 3 0) (ins.getD 4 0) (ins.getD 5 0)
  let pw := powers v i
  let sq (k : Nat) : ℚ := 2 * (x k * x k : Int)
  let add : List ℚ := [4 * pw.1 / 9, 4 * pw.2 / (3 * sqrt3Q), loadSig (magnitude v), loadSig (magnitude i), sq 0, sq 1, sq 2]
  let count := s.swBits c 7 + 1
  let t := add.zipIdx.map fun a => qMean count (if count = 1 then { v := 0 } else qLoad (s.sw c a.2)) a.1
  let m (k : Nat) : Q := t.getD k { v := 0 }
  let ends := s.meterEnds c n ins count
  let s1 := setSw c 7 (if ends then 0 else count : Nat) (setWords c (fun j => if ends then 0 else (m j).v) 7 s)
  let s1 := setSw c 8 (sigNat (ins.getD 6 0) : Nat) s1
  let sat := t.any Q.sat
  if !ends then { s := s1, sat := sat }
  else
    let big : Int := max (m 4).v (max (m 5).v (m 6).v)
    let o := [qStore (m 0), qStore (m 1), qStore (m 2), qStore (m 3), Q.lim 16 (rootQ big) false]
    { s := s1, outs := o.zipIdx.map fun y => (y.2, y.1.v), sat := sat || o.any Q.sat }

/-! ## Voltage and leg regulators (R57, R66, R156, R157) -/

/-- The voltage regulator: the injection of Impedance Watch, I8 at the frequency I9, is added to its reference (R66); its words stay while
stage 2 is active (R57); its correlation sums are free values (R185). -/
def voltageRun (c : CtxId) (n : Word32) (ins : List Int) (s : State) : RunRes :=
  let i (k : Nat) : Int := ins.getD k 0
  let step := (roundQ ((i 9 : ℚ) / 10 * s.ts c * 2 ^ 32)).toNat
  let th := (s.swBits c 6 + step) % 2 ^ 32
  let u := th / 65536
  let inj (x : Int) : Q := qMulSig (qIn (i 8)) (qIn x) 0
  let a := qStore (qAdd (qSig (i 0)) (inj (cosUnit u)))
  let b := qStore (qAdd (qSig (i 1)) (inj (sinUnit u)))
  let ins := a.v :: b.v :: ins.drop 2
  let r := freeRun c n ins ((sigNat (i 7)).testBit 0) s
  let block := (List.range 8).map fun j => (s.runWord c n ins (9 + j)).setWidth 16
  { r with s := (setSw c 6 (th : Nat) r.s).modRt c fun x => { x with block := block }, sat := r.sat || a.sat || b.sat }

/-- The harmonic bank: its 24 components are free values (R185). -/
def harmonicRun (c : CtxId) (n : Word32) (ins : List Int) (s : State) : RunRes :=
  let r := freeRun c n ins false s
  let block := (List.range 24).map fun j => (s.runWord c n ins (64 + j)).setWidth 16
  { r with s := r.s.modRt c fun x => { x with block := block } }

/-- The quotient of two values rounded to Q15 and saturated; division by 0 gives an end of the range by the sign of x (R129). -/
def qQuot (x y : ℚ) : Q := if y = 0 then { v := if 0 ≤ x then 32767 else -32768, sat := true } else Q.lim 16 (roundQ (32768 * (x / y))) false

/-- Duties of open-loop operation: the phase values of the voltage reference, scaled by stage 2, over the measured DC-link voltage, about
one half, up to the duty limit; the neutral leg at one half (R129, R156, R184; notes/assumptions/98.md). -/
def State.openDuties (s : State) (c : CtxId) (ins : List Int) : List Q :=
  let i (k : Nat) : Int := ins.getD k 0
  let k : ℚ := if i 11 = 32767 then 1 else (i 11 : ℚ) / 32768
  let vb : ℚ := s.ctxVLL c * (rootQ (2 * 2 ^ 40 / 3) : ℚ) / 2 ^ 20
  let u : ℚ := i 7 * s.ctxUB c
  let duty (q : Q) : Q := let d := Q.lim 16 (16384 + q.v) q.sat; { d with v := clampI 0 (s.dutyLimit c) d.v }
  ((phases (i 8) (i 9) (i 10)).map fun v => duty (qQuot (k * v * vb) u)) ++ [duty (qIn 0)]

/-- The leg current regulator: free duties in closed loop, those of R156 in open loop, blended after the return (R157). -/
def legRun (c : CtxId) (n : Word32) (ins : List Int) (s : State) : RunRes :=
  let duties := s.openDuties c ins
  if s.ctxState c = 3 then { s := s, outs := duties.zipIdx.map fun d => (d.2, d.1.v), sat := duties.any Q.sat }
  else
    let r := freeRun c n ins false s
    match (s.loop.rt[c]).reopen with
    | none => r
    | some k =>
      let nb := (s.links c).blendSpan
      { r with
        s := r.s.modRt c fun x => { x with reopen := if nb ≤ k then none else some (k + s.ctxDivider c) }
        outs := r.outs.map fun o => (o.1, blended (duties.getD o.1 (qIn 0)).v o.2 k nb)
        sat := r.sat || duties.any Q.sat }

/-- Impedance Watch is paused outside the grid-forming mode and during a blend (R69). -/
def watchPaused (ins : List Int) : Bool := let m := sigNat (ins.getD 1 0); m % 16 != 3 || m.testBit 8

/-- Bits k - 1 to 0 of the integer nearest to the n-th root of a rational, above those of r. -/
def rootBitsQ : Nat → Nat → ℚ → Nat → Nat
  | 0, _, _, r => r
  | k + 1, n, x, r => let t := r + 2 ^ k; rootBitsQ k n x (if ((2 * t - 1 : Nat) : ℚ) ^ n ≤ 2 ^ n * x then t else r)

/-- Nominal frequency of point i of a sweep in 0.1 Hz: logarithmic spacing with the offset of the Start Rank (R67). -/
def State.nominalFreq (s : State) (c : CtxId) (i : Nat) : Nat :=
  let n := max 1 (s.paramInt c 3 - 1)
  let k : ℚ := 10 * (1 + s.paramInt c 11 / 400)
  rootBitsQ 17 n (k ^ n * s.pq c 1 ^ (n - i) * s.pq c 2 ^ i) 0

/-- The bus frequency in 0.1 Hz: the base frequency with w_out of the VSM whose mode status the Watch reads (R67;
notes/assumptions/46.md). -/
def State.busFreq (s : State) (c : CtxId) : ℚ :=
  10 * s.ctxFB c * (1 + ((s.links c).busW : ℚ) / 65536)

/-- Frequency of point i: a nominal frequency within 1 Hz of a multiple of the bus frequency moves to 1.5 Hz above it (R67). -/
def State.pointFreq (s : State) (c : CtxId) (i : Nat) : Nat :=
  let x := s.nominalFreq c i
  let b := s.busFreq c
  let m := if b ≤ 0 then 0 else (roundQ (x / b) : ℚ) * b
  if m ≠ 0 ∧ |(x : ℚ) - m| ≤ 10 then (roundQ (m + 15)).toNat else x

/-- A point of a sweep begins (R67). -/
def beginPoint (c : CtxId) (i : Nat) (n : Word32) (s : State) : State :=
  let f := s.pointFreq c i
  setSw c 2 (i : Nat) (s.modRt c fun x => { x with pointAt := n, pointF := f })

/-- A run of Impedance Watch: the amplitude and the frequency while a point runs, and the correlation sums of its link, two words of 32 bits
for each part of ΔV and ΔI; a pause discards the point (R66 to R69, R185). -/
def watchRun (c : CtxId) (n : Word32) (ins : List Int) (s : State) : RunRes :=
  let rt := s.loop.rt[c]
  if rt.sweeping && watchPaused ins then { s := s.modRt c fun x => { x with pointAt := n }, outs := [(0, 0)] }
  else if rt.sweeping then
    let b := (s.links c).block
    let w (j : Nat) : Nat := (b.getD j 0).toNat
    let a := qStore (s.pAcc c 0 0)
    { s := (List.range 4).foldl (fun t j => setSw c (3 + j) (sx 32 (w (2 * j) + 65536 * w (2 * j + 1))) t) s
      outs := [(0, a.v), (1, (rt.pointF : Nat))], sat := a.sat }
  else { s := s, outs := [(0, 0)] }

/-! ## The result of a sweep (R68, R190; notes/assumptions/46.md) -/

/-- Sine of an angle of u / 2^17 revolutions, u below 2^15: a quarter of a revolution. -/
def fineSin (u : Nat) : ℚ := let x := 2 * piQ * u / 131072; sinSeries x 20 x 0

/-- Bits k - 1 to 0, above those of r, of the greatest u at which the direction of u / 2^17 of a revolution lies at or below (x, y) of the
first quadrant. -/
def quarterBits : Nat → ℚ → ℚ → Nat → Nat
  | 0, _, _, r => r
  | k + 1, x, y, r =>
    let t := r + 2 ^ k
    quarterBits k x y (if x * fineSin t ≤ y * fineSin (32768 - t) then t else r)

/-- Angle of the vector (x, y) in 2^-16 of a revolution, from -2^15 to 2^15, rounded to the nearest. -/
def angleOf (x y : ℚ) : Int :=
  let a : Int := (((quarterBits 15 |x| |y| 0) + 1) / 2 : Nat)
  let a := if x < 0 then 32768 - a else a
  if y < 0 then -a else a

/-- L(f) = Z_o / Z_bus of a point from its correlation sums, as magnitude in 2^-16 and angle; none where ΔI is below 0.05 % of I_b or
Z_bus is 0 (R68). -/
def State.pointGain (s : State) (c : CtxId) (f : Nat) : Option (Nat × Int) :=
  let vr : ℚ := s.sw c 3
  let vi : ℚ := s.sw c 4
  let ir : ℚ := s.sw c 5
  let ii : ℚ := s.sw c 6
  let words (o : Option CtxId) : List Nat := match o with | some d => (List.range 14).map (s.paramWord d) | none => []
  let z := Config.outputImpedance (words (some ⟨s.paramInt c 10 % 256, Nat.mod_lt _ (by decide)⟩)) (words (s.peer c 0 0x03)) f
  let zr : ℚ := (z.1.toInt : ℚ) / 65536
  let zi : ℚ := (z.2.toInt : ℚ) / 65536
  let d := vr * vr + vi * vi
  if (ir * ir + ii * ii) * 2000 ^ 2 < 2 ^ 32 ∨ d = 0 then none
  else
    let yr := (ir * vr + ii * vi) / d
    let yi := (ii * vr - ir * vi) / d
    let lr := zr * yr - zi * yi
    let li := zr * yi + zi * yr
    some (rootQ ((lr * lr + li * li) * 2 ^ 32), angleOf lr li)

/-- Consecutive valid points of a sweep. -/
def validPairs : List (Nat × Option (Nat × Int)) → List ((Nat × Nat × Int) × (Nat × Nat × Int))
  | l => let v := l.filterMap fun p => p.2.map fun g => (p.1, g.1, g.2); v.zip v.tail

/-- Value at the part t of the way from a to b. -/
def between (a b t : ℚ) : ℚ := a + t * (b - a)

/-- An angle brought within half a revolution of another by whole revolutions, for two that lie in one. -/
def unwrapTo (a b : ℚ) : ℚ := if 32768 < b - a then b - 65536 else if b - a < -32768 then b + 65536 else b

/-- Crossings of |L| through 1 in rising order: phase margin in 2^-16 of a revolution and frequency in 0.1 Hz, by linear interpolation, the
angle's the shorter way between two points. -/
def gainCrossings (l : List (Nat × Option (Nat × Int))) : List (ℚ × ℚ) :=
  (validPairs l).filterMap fun p =>
    let x : ℚ := p.1.2.1
    let y : ℚ := p.2.2.1
    if (65536 ≤ x ∧ y < 65536) ∨ (x < 65536 ∧ 65536 ≤ y) then
      let t := (65536 - x) / (y - x)
      some (32768 - |unwrapTo 0 (between p.1.2.2 (unwrapTo p.1.2.2 p.2.2.2) t)|, between p.1.1 p.2.1 t)
    else none

/-- |L| in 2^-16 where its angle crosses half a revolution, by linear interpolation of the shorter way between two points. -/
def phaseCrossings (l : List (Nat × Option (Nat × Int))) : List ℚ :=
  (validPairs l).filterMap fun p =>
    let a : ℚ := p.1.2.2
    let b := unwrapTo a p.2.2.2
    let m : ℚ := if 0 ≤ a then 32768 else -32768
    if (a < m ∧ m ≤ b) ∨ (b ≤ m ∧ m < a) then some (between p.1.2.1 p.2.2.1 ((m - a) / (b - a))) else none

/-- Bits k - 1 to 0, above those of r, of the greatest g with 10 to the power (2 g - 1) at most x to the power 5120. -/
def dbBits : Nat → ℚ → Nat → Nat
  | 0, _, r => r
  | k + 1, x, r => let t := r + 2 ^ k; dbBits k x (if (10 : ℚ) ^ (2 * t - 1) ≤ x ^ 5120 then t else r)

/-- 20 log10 of x at least 1, in 2^-7 dB, rounded to the nearest. -/
def decibels (x : ℚ) : Nat := dbBits 15 x 0

/-- A gain margin in Q8.7 dB: -20 log10 of the magnitude m / 2^16, saturated (R68, R190). -/
def gainMargin (m : ℚ) : Int :=
  if m ≤ 0 then 32767 else if m ≤ 65536 then (decibels (65536 / m) : Int) else -(decibels (m / 65536) : Int)

/-- The smallest of some values, none of none. -/
def leastBy {α : Type} (f : α → ℚ) : List α → Option α
  | [] => none
  | a :: l => match leastBy f l with | none => some a | some b => some (if f b < f a then b else a)

/-- The result record of a sweep's points (R68, R190): the least margins; a margin without a crossing reads 0x7FFF. -/
def sweepRecord (l : List (Nat × Option (Nat × Int))) : Nat :=
  let valid := (l.filter fun p => p.2.isSome).length
  let g := leastBy Prod.fst (gainCrossings l)
  let h := leastBy (fun m => -m) (phaseCrossings l)
  let pm : Nat := match g with | some x => sigNat (sat16 (roundQ (x.1 * 32767 / 32768))) | none => 0x7FFF
  let gm : Nat := match h with | some m => sigNat (sat16 (gainMargin m)) | none => 0x7FFF
  let fc : Nat := match g with | some x => (roundQ x.2).toNat % 65536 | none => 0
  pm + 2 ^ 16 * gm + 2 ^ 32 * fc + 2 ^ 48 * valid + 2 ^ 56 * b2n (decide (l.length ≤ 2 * valid) && valid != 0) +
    2 ^ 57 * b2n g.isNone + 2 ^ 58 * b2n h.isNone

end Sys2Proof.Machine
end

