-- ==== Sys2Proof/Machine/Microcode.lean ====
section
/-!
DEFINITION. Custom microcode: the code store, its image and the checks of VERIFY (R145 to R150), and template 0x1F.
-/
namespace Sys2Proof.Machine

open Sys2Proof

/-- A word of the code store (R145). -/
def State.codeAt (s : State) (k : Nat) : Word32 := look (fun _ => 0) s.loop.code k

/-! ## Instructions (R147 to R149) -/

def uOp (w : Word32) : Nat := fld w 26 6
def uAcc (w : Word32) : Nat := fld w 24 2
def uOpd1 (w : Word32) : Nat := fld w 12 12
def uOpd2 (w : Word32) : Nat := fld w 0 12

/-- The opcode is defined (R149). -/
def uDefined (w : Word32) : Bool := decide (uOp w ≤ 0x17) || uOp w == 0x3F

/-- Loop cycles of an instruction (R149). -/
def uCycles (w : Word32) : Nat :=
  let o := uOp w
  if o = 0x10 ∨ o = 0x11 then 18 else if o = 0x12 ∨ o = 0x13 then 2 else 1

/-- A signal that may be read, one that may be written, a parameter, a state word (R148). -/
def uReadable (a : Nat) : Bool := decide (a ≤ 0x17) || (decide (0x20 ≤ a) && decide (a ≤ 0x5F))
def uWritable (a : Nat) : Bool := (decide (0x10 ≤ a) && decide (a ≤ 0x17)) || (decide (0x20 ≤ a) && decide (a ≤ 0x5F))
def uParam (a : Nat) : Bool := decide (0x100 ≤ a) && decide (a ≤ 0x1BF)
def uState (a : Nat) : Bool := decide (0x200 ≤ a) && decide (a ≤ 0x277)

/-- Every operand address of an instruction lies in a range of R148 that permits the access. -/
def uAddrOk (w : Word32) : Bool :=
  let o := uOp w
  let a := uOpd1 w
  let b := uOpd2 w
  if o = 0x01 ∨ o = 0x03 ∨ o = 0x04 ∨ o = 0x0D ∨ o = 0x0E ∨ o = 0x11 ∨ o = 0x12 ∨ o = 0x13 ∨ o = 0x15 then uReadable a
  else if o = 0x02 ∨ o = 0x0C ∨ o = 0x14 then uState a
  else if o = 0x05 ∨ o = 0x06 then uReadable a && uParam b
  else if o = 0x07 ∨ o = 0x08 ∨ o = 0x10 then uReadable a && uReadable b
  else if o = 0x0B then uWritable a
  else true

/-- The branch at word i of a code of n words goes forward and stays within the code; its condition is one of R149. -/
def uBranchOk (n i : Nat) (w : Word32) : Bool :=
  uOp w != 0x16 || (decide (uOpd1 w % 8 ≤ 5) && decide (1 ≤ uOpd2 w) && decide (i + 1 + uOpd2 w < n))

/-- Longest path to END from the front of a code suffix, given those of the words after it, none where some path does not reach END. -/
def uPath (w : Word32) (rest : List (Option Nat)) : Option Nat :=
  let next := (rest.head?).join
  if uOp w = 0x3F then some 1
  else if uOp w = 0x16 then
    let far := (rest.getD (uOpd2 w) none).map (· + 1)
    if uOpd1 w % 8 = 0 then far else
    match far, next with
    | some a, some b => some (max a (b + 1))
    | _, _ => none
  else next.map (· + uCycles w)

/-- The longest paths from every word of a code (R150). -/
def uPaths (code : List Word32) : List (Option Nat) := code.foldr (fun w l => uPath w l :: l) []

/-! ## The image (R146) -/

/-- The fields of the image in the code store. -/
structure Image where
  n : Nat
  len : Nat
  entries : List (Nat × Nat)
  code : List Word32

def State.image (s : State) : Image :=
  let n := fld (s.codeAt 1) 16 16
  let len := (s.codeAt 2).toNat
  { n := n, len := len
    entries := (List.range (min n 64)).map fun j => (fld (s.codeAt (4 + 2 * j)) 0 16, fld (s.codeAt (4 + 2 * j)) 16 16)
    code := (List.range (min len 16384)).map fun j => s.codeAt (4 + 2 * n + j) }

/-- The first index at which a check of the code fails. -/
def firstBad (f : Nat → Word32 → Bool) (l : List Word32) : Option Nat := (l.zipIdx.find? fun p => !f p.2 p.1).map Prod.snd

/-- RESULT of the checks in the order of R150, with the word where the first failed (R161). -/
def State.verifyImage (s : State) : Nat × Nat :=
  let m := s.image
  let base := 4 + 2 * m.n
  let words := if base + m.len ≤ 16384 then base + m.len else 16384
  let crc := crc32 (((List.range (words - 4)).map fun j => leBytes 4 (s.codeAt (4 + j)).toNat).flatten)
  if s.codeAt 0 ≠ 0x434D4B53 then (2, 0)
  else if fld (s.codeAt 1) 0 16 ≠ 1 ∨ m.n = 0 ∨ 64 < m.n then (2, 1)
  else if 16384 < base + m.len then (2, 2)
  else if s.codeAt 3 ≠ crc then (3, 3)
  else match firstBad (fun _ w => uDefined w) m.code with
  | some i => (4, base + i)
  | none =>
    match firstBad (fun _ w => uAddrOk w) m.code with
    | some i => (5, base + i)
    | none =>
      match firstBad (fun i w => uBranchOk m.len i w) m.code with
      | some i => (6, base + i)
      | none =>
        let paths := uPaths m.code
        let at_ (e : Nat × Nat) : Option Nat := paths.getD e.1 none
        match m.entries.zipIdx.find? fun p => (at_ p.1).isNone with
        | some p => (7, base + p.1.1)
        | none =>
          match m.entries.zipIdx.find? fun p => decide (2048 < (at_ p.1).getD 0) with
          | some p => (8, base + p.1.1)
          | none =>
            match m.entries.zipIdx.find? fun p => decide ((at_ p.1).getD 0 ≠ p.1.2) with
            | some p => (9, 4 + 2 * p.2)
            | none => (1, 0)

/-- LE_UCODE_DATA written: one word at WORD, which steps; only in SETUP (R145). A store that it changes holds no image that VERIFY has found
valid (R150); RESULT stays (notes/assumptions/164.md). -/
def writeUcode (v : Word32) (s : State) : State :=
  if s.power.sealed then
    if v = s.codeAt s.loop.codeWord.toNat then s else rwsWritten s
  else s.modLoop fun p =>
    { p with code := put (fun _ => 0) p.code p.codeWord.toNat v, codeWord := p.codeWord + 1
             ucodeEntries := if s.codeAt p.codeWord.toNat = v then p.ucodeEntries else [] }

/-- LE_UCODE_DATA_WRITE. -/
def execLeUcodeDataWrite (v : Word32) (s : State) : Host.Outcome State Fault Refusal :=
  .next (hostWord .c rLeUcodeData v (writeUcode v) s)

/-- LE_UCODE_CTRL written: VERIFY starts the checks; after the Seal it acts as an RWS write (R145, R150, R572). -/
def writeUcodeCtrl (v : Word32) (s : State) : State :=
  if !v.getLsbD 0 then s
  else if s.power.sealed then rwsWritten s
  else s.modLoop fun p => { p with ucodeResult := 0xF, ucodeFail := 0, ucodeEntries := [] }

/-- VERIFY. -/
def execVerify (v : Word32) (s : State) : Host.Outcome State Fault Refusal := .next (hostWord .c 0x50038 v (writeUcodeCtrl v) s)

/-- The checks end (R150): the result, and the code store copied to package memory, from which a C-die warm reset reloads it (R536). -/
def verifyDone (s : State) : State :=
  let r := s.verifyImage
  let m := s.image
  let s := s.modLoop fun p =>
    { p with ucodeResult := BitVec.ofNat 4 r.1, ucodeFail := BitVec.ofNat 14 r.2, ucodeEntries := if r.1 = 1 then m.entries else [] }
  let s := s.write 0x01 0x100000 ((List.range 16384).map fun j => leBytes 4 (s.codeAt j).toNat).flatten
  if r.1 = 1 then s else raise 121 evLeUcodeRejected (BitVec.ofNat 32 r.1) (BitVec.ofNat 32 r.2) s

/-- VERIFY_DONE. -/
def execVerifyDone (s : State) : Host.Outcome State Fault Refusal :=
  .next (if s.loop.ucodeResult = 0xF && s.power.cRun then settle s (verifyDone s) else s)

/-! ## Template 0x1F (R148, R149) -/

/-- The machine of a microcode run. -/
structure Ucode where
  acc : List Int := [0, 0, 0, 0]
  temps : List (Nat × Int) := []
  outs : List (Nat × Int) := []
  words : List (Nat × Int) := []
  neg : Bool := false
  zero : Bool := false
  sat : Bool := false
  evs : List Nat := []
  skip : Nat := 0
  done : Bool := false

/-- A signal that the run reads. -/
def Ucode.sig (u : Ucode) (s : State) (c : CtxId) (ins : List Int) (a : Nat) : Int :=
  if a < 0x10 then ins.getD a 0
  else if a < 0x18 then (u.outs.lookup (a - 0x10)).getD (s.outVal c (a - 0x10)).toInt
  else (u.temps.lookup a).getD 0

/-- A state word that the run reads. -/
def Ucode.word (u : Ucode) (s : State) (c : CtxId) (a : Nat) : Int := (u.words.lookup (a - 0x200)).getD (s.sw c (a - 0x200))

/-- The accumulator set. -/
def Ucode.setAcc (u : Ucode) (k : Nat) (q : Q) : Ucode := { u with acc := u.acc.set k q.v, sat := u.sat || q.sat }

/-- One instruction (R149). -/
def uStep (s : State) (c : CtxId) (ins : List Int) (w : Word32) (u : Ucode) : Ucode :=
  if u.done then u else if u.skip ≠ 0 then { u with skip := u.skip - 1 } else
  let k := uAcc w
  let a := uOpd1 w
  let b := uOpd2 w
  let q : Q := { v := u.acc.getD k 0 }
  let x := u.sig s c ins a
  let y := u.sig s c ins b
  let p := (s.paramM c (b - 0x100), s.paramS c (b - 0x100))
  match uOp w with
  | 0x01 => u.setAcc k (qSig x)
  | 0x02 => u.setAcc k (qLoad (u.word s c a))
  | 0x03 => u.setAcc k (qAdd q (qSig x))
  | 0x04 => u.setAcc k (qSub q (qSig x))
  | 0x05 => u.setAcc k (qAdd q (qMul (qIn x) p))
  | 0x06 => u.setAcc k (qSub q (qMul (qIn x) p))
  | 0x07 => u.setAcc k (qAdd q (qMulSig (qIn x) (qIn y) 0))
  | 0x08 => u.setAcc k (qSub q (qMulSig (qIn x) (qIn y) 0))
  | 0x09 => u.setAcc k (Q.lim 40 (shiftI q.v (clampI (-31) 31 (sx 6 b))) false)
  | 0x0A => u.setAcc k (qAdd q { v := u.acc.getD (a % 4) 0 })
  | 0x0B =>
    let r := qStore q
    if a < 0x18 then { u with outs := (a - 0x10, r.v) :: u.outs, sat := u.sat || r.sat }
    else { u with temps := (a, r.v) :: u.temps, sat := u.sat || r.sat }
  | 0x0C => { u with words := (a - 0x200, q.v) :: u.words }
  | 0x0D => u.setAcc k { v := min q.v (loadSig x) }
  | 0x0E => u.setAcc k { v := max q.v (loadSig x) }
  | 0x0F => u.setAcc k (Q.lim 40 |q.v| false)
  | 0x10 => u.setAcc k { v := loadSig (divSig x y), sat := y == 0 || divSig x y != roundQuot (x * 32768) y }
  | 0x11 => u.setAcc k { v := loadSig (rootSig x), sat := decide (x < 0) }
  | 0x12 => u.setAcc k (qSig (sinUnit (sigNat x)))
  | 0x13 => u.setAcc k (qSig (cosUnit (sigNat x)))
  | 0x14 =>
    let v := u.word s c a
    let lo := (v % 2 ^ 32 + q.v % 2 ^ 32) % 2 ^ 32
    { u with words := (a - 0x200, v / 2 ^ 32 * 2 ^ 32 + lo) :: u.words }
  | 0x15 => let d := q.v - loadSig x; { u with neg := decide (d < 0), zero := d == 0 }
  | 0x16 =>
    let t := match a % 8 with | 0 => true | 1 => u.neg | 2 => !u.neg | 3 => u.zero | 4 => !u.zero | _ => u.sat
    if t then { u with skip := b } else u
  | 0x17 => { u with evs := u.evs ++ [b % 256] }
  | 0x3F => { u with done := true }
  | _ => u

/-- A run of custom microcode from its entry: instructions in order, as branches only go forward (R150). -/
def ucodeRun (c : CtxId) (ins : List Int) (s : State) : RunRes :=
  let m := s.image
  let e := (s.loop.ucodeEntries.getD (s.ctxUcode c) (0, 0)).1
  let u := (m.code.drop e).foldl (fun u w => uStep s c ins w u) {}
  let t := forList (fun p t => setSw c p.1 p.2 t) u.words.reverse s
  let t := forList (fun d t => raise (t.srcOf c) evCtxCustom (BitVec.ofNat 32 d) 0 t) u.evs t
  { s := t, outs := u.outs.reverse, sat := u.sat }

/-! ## Every template -/

/-- The run of a context's template at release n with its input values (R46, R184, R187). -/
def templateRun (c : CtxId) (n : Word32) (ins : List Int) (s : State) : RunRes :=
  match s.ctxTemplate c with
  | 0x01 => vsmRun c n ins s
  | 0x02 => droopRun c ins s
  | 0x03 => voltageRun c n ins s
  | 0x04 => legRun c n ins s
  | 0x05 => impedanceRun c ins s
  | 0x06 => envelopeRun c ins s
  | 0x07 => separatorRun c n ins s
  | 0x08 => harmonicRun c n ins s
  | 0x0C => synchroniserRun c n ins s
  | 0x0D => sequencerRun c n ins s
  | 0x0F => meterRun c n ins s
  | 0x12 => tableRun c n ins s
  | 0x13 => watchRun c n ins s
  | 0x1F => ucodeRun c ins s
  | 0x09 | 0x0A | 0x0B | 0x0E | 0x10 | 0x11 => freeRun c n ins false s
  | _ => { s := s }

end Sys2Proof.Machine
end

