-- ==== Sys2Proof/Machine/LoopCheck.lean ====
section
/-!
DEFINITION. What CTX_WRITE, CTX_ENABLE and an image load check of context entries (R45, R46, R49, R55, R66, R85, R120 to R125, R151,
R164 to R174, R179, R181, R185, R414).
-/
namespace Sys2Proof.Machine

open Sys2Proof

/-! ## Parameters (R43, R45, R184, R187) -/

/-- A parameter's range: bounds in engineering units, and whether 0 is allowed beside them. -/
structure PRange where
  k : Nat
  lo : ℚ
  hi : ℚ
  zero : Bool := false

/-- Parameters marked "int" of a template. -/
def intParams (t : Nat) : List Nat :=
  match t with
  | 0x01 => [8, 31]
  | 0x08 => [0, 1, 2, 3, 4, 5, 6, 7]
  | 0x0D => [0, 1]
  | 0x0F => [0]
  | 0x11 => [0]
  | 0x12 => [0, 4]
  | 0x13 => [3, 9, 10, 11]
  | _ => []

/-- Ranges that stand by themselves, VSM. -/
def rangesVsm : List PRange :=
  [⟨0, -1, 1, false⟩, ⟨1, 0, 60, false⟩, ⟨3, 1/20, 10, false⟩, ⟨4, 0, 400, false⟩, ⟨5, 1/10, 10, false⟩, ⟨6, 1/1000, 1/10, true⟩,
   ⟨7, 1/2000, 1/50, false⟩, ⟨8, 0, 1, false⟩, ⟨10, 1, 600, false⟩, ⟨11, 0, 1/50, false⟩, ⟨12, 0, 60, false⟩, ⟨13, 10, 600, false⟩,
   ⟨14, 3/10, 95/100, false⟩, ⟨15, 0, 1, false⟩, ⟨16, 2/10, 1, false⟩, ⟨17, 1/1000, 1/10, false⟩, ⟨18, 1/100, 5, false⟩] ++
  [⟨19, 0, 0, false⟩, ⟨20, 0, 10, false⟩, ⟨21, 0, 10, false⟩, ⟨22, 0, 10, false⟩, ⟨23, -1/10, 0, false⟩, ⟨24, -1/10, 0, false⟩,
   ⟨25, -1/10, 0, false⟩, ⟨26, -1/10, 0, false⟩, ⟨27, 1/2, 1, false⟩, ⟨28, 1/2, 1, false⟩, ⟨29, 1/2, 1, false⟩, ⟨30, 1/2, 1, false⟩,
   ⟨31, 1, 64, false⟩, ⟨32, 1/1000, 1, false⟩, ⟨33, 1/100, 10, false⟩, ⟨34, 5/1000, 2, false⟩, ⟨35, 1/1000, 1/10, false⟩,
   ⟨36, 1/100, 1/2, false⟩]

/-- Ranges of the other templates. -/
def rangesOf (t : Nat) : List PRange :=
  match t with
  | 0x01 => rangesVsm
  | 0x02 => [⟨0, 8/10, 115/100, false⟩, ⟨1, 0, 60, false⟩, ⟨2, -1, 1, false⟩, ⟨3, 0, 60, false⟩, ⟨4, 0, 1/10, false⟩,
             ⟨5, 1/2000, 1/50, false⟩, ⟨6, 0, 1, false⟩, ⟨7, 1, 13/10, false⟩]
  | 0x05 => (List.range 6).map (fun k => ⟨k, 0, 1, false⟩) ++ (List.range 8).map fun k => ⟨6 + k, 0, 2, false⟩
  | 0x06 => [⟨0, 1/2, 2, false⟩, ⟨1, 0, 2, false⟩, ⟨2, 0, 2, false⟩, ⟨3, 1, 3, false⟩, ⟨4, 1/1000, 1/10, false⟩, ⟨5, 1/2, 3/2, false⟩,
             ⟨6, 1/2, 3, false⟩, ⟨7, 1/1000, 1/10, false⟩]
  | 0x07 => [⟨0, 1, 100, false⟩]
  | 0x08 => (List.range 8).map (fun k => ⟨k, 2, 40, true⟩) ++ [⟨8, 1, 20, false⟩]
  | 0x09 => [⟨1, 0, 60, false⟩]
  | 0x0A => [⟨1, 0, 60, false⟩, ⟨4, 0, 1/2, false⟩]
  | 0x0B => [⟨1, 0, 60, false⟩, ⟨3, 0, 60, false⟩]
  | 0x0C => [⟨0, 1, 30, false⟩, ⟨1, 2/10000, 1/100, false⟩, ⟨2, 1/100, 1/10, false⟩, ⟨3, 1/2, 1, false⟩, ⟨4, 1/1000, 2/10, false⟩,
             ⟨5, 1/100, 1, false⟩, ⟨6, 2/10000, 1/100, false⟩, ⟨7, 0, 1/10, false⟩]
  | 0x0D => [⟨0, 0, 2, false⟩, ⟨1, 0, 15, false⟩, ⟨2, 1/10, 2, false⟩, ⟨3, 1/10000, 4/1000, false⟩, ⟨4, 1/10, 5, false⟩, ⟨5, 0, 2, false⟩,
             ⟨6, 0, 5, false⟩, ⟨7, 1/100, 1/2, false⟩]
  | 0x0F => [⟨0, 0, 1, false⟩]
  | 0x10 => [⟨1, 0, 60, false⟩]
  | 0x11 => [⟨0, 1, 8, false⟩]
  | 0x12 => [⟨0, 0, 1, false⟩, ⟨4, 2, 32, false⟩]
  | 0x13 => [⟨0, 5/10000, 5/1000, false⟩, ⟨1, 20, 2000, false⟩, ⟨2, 20, 2000, false⟩, ⟨3, 8, 64, false⟩, ⟨4, 1, 3600, false⟩,
             ⟨5, 10, 80, false⟩, ⟨6, 0, 1, false⟩, ⟨7, 0, 1, false⟩, ⟨8, 1/1000, 5/100, false⟩, ⟨9, 0, 1, false⟩, ⟨10, 0, 255, false⟩,
             ⟨11, 0, 15, false⟩]
  | _ => []

/-- The value of a parameter in engineering units. -/
def State.pval (s : State) (c : CtxId) (t k : Nat) : ℚ := if k ∈ intParams t then s.paramInt c k else s.pq c k

/-- Limits of a parameter that depend on another one or on the base frequency (R51, R71, R187; the tables of chapters 2 and 5). -/
def State.paramRel (s : State) (c : CtxId) (t k : Nat) : Bool :=
  let v := s.pq c
  let f : ℚ := s.ctxFB c
  if t = 0x01 then
    (if k = 2 ∨ k = 9 then decide (45 / f - 1 ≤ v k) && decide (v k ≤ 65 / f - 1)
     else if k = 15 then decide (v 14 + 2/100 ≤ v 15)
     else if k = 16 then decide (v 16 ≤ v 14 - 5/100)
     else if 20 ≤ k ∧ k ≤ 22 then decide (v (k - 1) < v k)
     else true)
  else if t = 0x06 ∧ k = 5 then decide (v 5 ≤ v 3)
  else if t = 0x12 ∧ 7 ≤ k ∧ k ≤ 4 + 2 * s.paramInt c 4 ∧ k % 2 = 1 then decide (v (k - 2) < v k)
  else if t = 0x13 ∧ k = 2 then decide (v 1 < v 2)
  else if t = 0x13 ∧ k = 7 then decide (v 6 ≤ v 7)
  else true

/-- Parameters on which the limits of parameter k depend. -/
def relatedParams (t k : Nat) : List Nat :=
  if t = 0x01 then (if k = 15 ∨ k = 16 then [14] else if 20 ≤ k ∧ k ≤ 22 then [k - 1] else [])
  else if t = 0x06 ∧ k = 5 then [3]
  else if t = 0x12 ∧ 7 ≤ k ∧ k % 2 = 1 then [k - 2, 4]
  else if t = 0x13 ∧ k = 2 then [1]
  else if t = 0x13 ∧ k = 7 then [6]
  else []

/-- A parameter word's reserved bits and shift (R169), and its range under the entry's template (R45). -/
def State.paramOk (s : State) (c : CtxId) (k : Nat) : Bool :=
  let w := s.paramWord c k
  let t := s.ctxTemplate c
  let v := s.pval c t k
  decide (w < 2 ^ 21) && w / 2 ^ 16 != 16 && !(decide (k ∈ intParams t) && w / 2 ^ 16 != 0) &&
    (match (rangesOf t).find? fun r => r.k == k with
    | some r => (r.zero && v == 0) || (decide (r.lo ≤ v) && decide (v ≤ r.hi))
    | none => true) &&
    s.paramRel c t k

/-! ## Header, slots (R165 to R167, R151) -/

/-- A code of the template maps, or 0x00. -/
def templateCode (t : Nat) : Bool := decide (t ≤ 0x13) || t == 0x1F

/-- DIVIDER lies in the range for the BOUND flag (R165). -/
def State.dividerOk (s : State) (c : CtxId) : Bool :=
  decide (1 ≤ s.ctxDivider c) && decide (s.ctxDivider c ≤ (if s.ctxBound c then 256 else 400))

/-- The feedback fields of a slot within R151, but for the order of RANGE_LO and RANGE_HI. -/
def State.fbCountsOk (s : State) (c : CtxId) (n : Nat) : Bool :=
  s.inClass c n == 0 || (decide (1 ≤ s.inRangeN c n) && s.inFreezeN c n != 1)

/-- RANGE_LO is less than RANGE_HI (R151). -/
def State.fbRangeOk (s : State) (c : CtxId) (n : Nat) : Bool := s.inClass c n == 0 || decide (s.inLo c n < s.inHi c n)

/-- The reserved bits of an Impedance Watch's result record are 0 (R190). -/
def State.stateOk (s : State) (c : CtxId) : Bool := s.ctxTemplate c != 0x13 || decide (s.ctxNat c 0x407 1 < 8)

/-- The 4-byte word of an entry at an offset holds legal host fields (R8, R151, R165 to R169). -/
def State.wordOk (s : State) (c : CtxId) (off : Nat) : Bool :=
  let b (i : Nat) : Nat := s.ctxNat c (off + i) 1
  if off = 0 then s.stateOk c && templateCode (b 0) && decide (b 1 < 4) && decide (b 2 < 8)
  else if off = 4 then s.dividerOk c
  else if off = 16 then b 3 == 0
  else if off = 44 then s.ctxNat c 44 4 == 0
  else if 0x40 ≤ off ∧ off < 0xC0 then
    (let n := (off - 0x40) / 8
     if off % 8 = 0 then s.inSource c n / 2 ^ 11 % 4 == 0 && s.fbRangeOk c n
     else b 2 / 4 % 4 == 0 && s.fbCountsOk c n)
  else if 0xC0 ≤ off ∧ off < 0x100 then
    (if off % 8 = 0 then s.ctxNat c off 2 / 2 ^ 5 % 2 ^ 9 == 0 else s.ctxNat c off 4 == 0)
  else if 0x100 ≤ off ∧ off < 0x400 then s.paramOk c ((off - 0x100) / 4)
  else if off = 0x404 then s.stateOk c
  else true

/-- The words judged with a word: the other word of an input slot, DIVIDER with BOUND, parameters whose limits depend on it. -/
def State.judged (s : State) (c : CtxId) (off len w : Nat) : Bool :=
  let inSpan (x : Nat) : Bool := decide (off ≤ x) && decide (x < off + len)
  inSpan w || (w == 4 && inSpan 0) || (decide (0x40 ≤ w) && decide (w < 0xC0) && inSpan (if w % 8 = 0 then w + 4 else w - 4)) ||
    (decide (0x100 ≤ w) && decide (w < 0x400) &&
      (relatedParams (s.ctxTemplate c) ((w - 0x100) / 4)).any fun k => inSpan (0x100 + 4 * k))

/-- The first word out of range of the entry as a write of `len` bytes at `off` has left it (R181). -/
def State.badWord (s : State) (c : CtxId) (off len : Nat) : Option Nat :=
  ((List.range 256).map (4 * ·)).find? fun w => s.judged c off len w && !s.wordOk c w

/-! ## Coefficients and the rules of templates (R49, R66, R85) -/

/-- The coefficients of a VSM or a Q-V droop within R49; with m_p = 0, H, D and T_w are unused (R50). -/
def State.coefsOk (s : State) (c : CtxId) : Bool :=
  let t := s.ts c
  let v := s.pq c
  match s.ctxTemplate c with
  | 0x01 =>
    decide (v 7 ≠ 0 ∧ t / v 7 ≤ 1/4) &&
      (v 6 == 0 || (decide (v 3 ≠ 0 ∧ t / (2 * v 3) * (1 / v 6 + v 4) ≤ 1/2) && decide (v 5 ≠ 0 ∧ t / v 5 ≤ 1/4)))
  | 0x02 => decide (v 5 ≠ 0 ∧ t / v 5 ≤ 1/4)
  | _ => true

/-- t_rank is at least 256 t_hash in a sequencer (R85). -/
def State.ranksOk (s : State) (c : CtxId) : Bool := s.ctxTemplate c != 0x0D || decide (256 * s.pq c 3 ≤ s.pq c 2)

/-- P11 of every enabled Impedance Watch equals P1 of every enabled sequencer (R185). -/
def State.startRanksOk (s : State) : Bool :=
  (s.enabledOfTemplate 0x0D).all fun q => (s.enabledOfTemplate 0x13).all fun w => s.paramInt w 11 == s.paramInt q 1

/-! ## Links and admission (R119 to R125) -/

/-- The producers of a context's same-run links: enabled contexts bound to the same region, read without PREV (R119). -/
def State.producers (s : State) (c : CtxId) : List CtxId :=
  (List.range 16).filterMap fun n =>
    (s.producer c n).bind fun p =>
      if !(s.inSource c n).testBit 13 && s.ctxEnabled p.1 && (s.ctxRegion c).isSome && s.ctxRegion p.1 == s.ctxRegion c then some p.1 else none

/-- A slot names an output of its own context without PREV (R120). -/
def State.selfLink (s : State) (c : CtxId) : Bool :=
  (List.range 16).any fun n => !(s.inSource c n).testBit 13 && (match s.producer c n with | some p => p.1 == c | none => false)

/-- Enabled harmonics of a resonator bank. -/
def State.harmonics (s : State) (c : CtxId) : Nat := ((List.range 8).filter fun k => s.paramInt c k != 0).length

/-- Run cost of a context (R122, R185). -/
def State.costOf (s : State) (c : CtxId) : Nat :=
  match s.ctxTemplate c with
  | 0x01 => 48 | 0x02 => 16 | 0x03 => 64 | 0x04 => 48
  | 0x05 => 40 + 6 * (match s.peer c 10 0x08 with | some b => s.harmonics b | none => 0)
  | 0x06 => 56 | 0x07 => 56 | 0x08 => 16 + 20 * s.harmonics c
  | 0x09 => 24 | 0x0A => 32 | 0x0B => 32 | 0x0C => 32 | 0x0D => 24 | 0x0E => 40 | 0x0F => 32 | 0x10 => 16
  | 0x11 => 8 + 6 * s.paramInt c 0
  | 0x12 => 24 | 0x13 => 96
  | 0x1F => (s.loop.ucodeEntries.getD (s.ctxUcode c) (0, 0)).2 + 12
  | _ => 0

/-- Longest summed cost of a chain of same-run links that ends in c, none where it is longer than the fuel: a cycle (R120, R123). -/
def State.pathCost (s : State) : Nat → CtxId → Option Nat
  | 0, _ => none
  | n + 1, c =>
    (s.producers c).foldl (fun (a : Option Nat) p =>
      match a, State.pathCost s n p with
      | some x, some y => some (max x (y + s.costOf c))
      | _, _ => none) (some (s.costOf c))

/-- Paths of the contexts of a region, none where a cycle closes. -/
def State.pathsOf (s : State) (r : RegionId) : Option (List Nat) :=
  let l := s.ctxsOf r
  l.foldr (fun c a => match a, s.pathCost (l.length + 1) c with | some x, some y => some (y :: x) | _, _ => none) (some [])

/-- W_r and L_r of R123; L_r is 0 where a cycle closes. -/
def State.loadOf (s : State) (r : RegionId) : Nat × Nat :=
  (((s.ctxsOf r).map s.costOf).sum, ((s.pathsOf r).getD []).foldl max 0)

/-- Number of lanes of a region. -/
def State.lanesOf (s : State) (r : RegionId) : Nat := popcount 8 (s.rf (rLeLanes r) 0 8)

/-- The region is admissible (R123), with no cycle (R120). -/
def State.admissible (s : State) (r : RegionId) : Bool :=
  let m := s.lanesOf r
  let p := s.loadOf r
  (s.pathsOf r).isSome && m != 0 && decide (p.2 ≤ 480) && decide (p.1 + (m - 1) * p.2 ≤ 480 * m)

/-- The shortest interval between two releases of a region in periods, 0 where it has none: the least common measure of two of its
dividers, for multiples of two dividers come that near and no nearer (R125). -/
def State.releaseGap (s : State) (r : RegionId) : Nat :=
  let l := (s.ctxsOf r).map s.ctxDivider
  l.foldl (fun a x => l.foldl (fun b y => let g := Nat.gcd x y; if b = 0 then g else min b g) a) 0

/-- Availability of a lane (R125): the shortest interval between releases of the region in loop cycles of 1.25 ns. -/
def State.laneAvail (s : State) (lane : Nat) : ℚ :=
  match (List.finRange 8).find? fun (r : RegionId) => s.rb (rLeLanes r) lane with
  | none => 1
  | some r =>
    let i : ℚ := ((s.releaseGap r * s.period r : Nat) : ℚ) / 5
    if s.releaseGap r = 0 then 1 else if i = 0 then 0 else 1 - 480 / i

/-- The timebase load and its limit in lanes (R125). -/
def State.tbLoad (s : State) : ℚ × ℚ :=
  (((s.enabledCtxs.filter fun c => !s.ctxBound c).map fun c => (s.costOf c : ℚ) / (2000 * s.ctxDivider c)).sum,
   9/10 * ((maskBits 8 (s.rf rLeTbLanes 0 8)).map s.laneAvail).sum)

/-- LE_TB_LOAD.LIMIT shows the limit from the first change of a lane mask or of the enabled contexts on (R161; notes/assumptions/101.md). -/
def showTbLimit (s : State) : State := s.modLoop fun l => { l with tbShown := true }

/-- The timebase load is within its limit. -/
def State.tbOk (s : State) : Bool := decide (s.tbLoad.1 ≤ s.tbLoad.2)

/-- COST written (R165). -/
def storeCost (c : CtxId) (s : State) : State := throughCtx c 22 (leBytes 2 (s.costOf c)) s

/-! ## CTX_ENABLE (R46, R55, R66, R151, R168, R174, R179, R185, R414) -/

/-- The output destinations of a context are legal, given that it is enabled in s (R168, R193). -/
def State.destsOk (s : State) (c : CtxId) : Bool :=
  (List.range 8).all fun n =>
    let k := s.outKind c n
    let i := s.outIndex c n
    k == 0 || (s.ctxBound c &&
      (if k = 3 then
        decide (i ≤ 1) &&
          (((s.destWriters 3 i).filter fun d => i == 0 || s.ctxRegion d == s.ctxRegion c).all (· == c))
       else if h : i < 24 then
        s.regionOf ⟨i, h⟩ == s.ctxRegion c && s.driveMode ⟨i, h⟩ != 3 && (s.destWriters k i).all (· == c)
       else false))

/-- Harmonic and correlation links name their producers (R185). -/
def State.linksOk (s : State) (c : CtxId) : Bool :=
  let link (slot t out : Nat) : Bool :=
    s.inSource c slot / 2 ^ 14 == 0 ||
      (match s.producer c slot with | some p => s.ctxTemplate p.1 == t && p.2 == out | none => false)
  match s.ctxTemplate c with
  | 0x05 => link 10 0x08 0
  | 0x13 => link 0 0x03 3
  | _ => true

/-- The release rate is 10 kHz or more (R174). -/
def State.fastCtx (s : State) (c : CtxId) : Bool :=
  if s.ctxBound c then decide (s.runFine c ≤ 400000) else decide (s.ctxDivider c ≤ 40)

/-- Pinned contexts: enabled with PIN set. -/
def State.pinnedCtxs (s : State) : List CtxId := s.enabledCtxs.filter s.ctxPin

/-- PIN stands as R174 asks, c itself not counted among those pinned already. -/
def State.pinOk (s : State) (c : CtxId) : Bool :=
  let must := s.fastCtx c || (match s.ctxRegion c with | some r => s.isPaired r || s.isMirror r | none => false)
  (!must || s.ctxPin c) && decide ((s.pinnedCtxs.filter (· ≠ c)).length < 96)

/-- No harmonic lies above a tenth of the region's switching frequency (R55). -/
def State.harmonicsOk (s : State) (c : CtxId) : Bool :=
  s.ctxTemplate c != 0x08 || (List.range 8).all fun k => decide (s.paramInt c k * s.ctxFB c * 10 * s.clockStep c ≤ 4000000000)

/-- The inputs of a context bound to a paired region (R414). -/
def State.pairedInputsOk (s : State) (c : CtxId) (r : RegionId) : Bool :=
  (List.range 16).all fun n =>
    let w := s.inSource c n
    match w / 2 ^ 14 with
    | 1 =>
      let ch := w % 64
      let b := ch / 16
      s.rf (rAdcCtrl b) 0 2 == 1 && s.rf (rAdcCtrl b) 4 4 == r.val && (s.reg (rAdcChen b)).getLsbD (ch % 16)
    | 2 => false
    | 3 => (match s.producer c n with | some p => s.ctxRegion p.1 == some r | none => true)
    | _ => true

/-- Every check of CTX_ENABLE that ends with RANGE, judged on the state in which the context is enabled with its COST (R179). -/
def State.enableOk (s : State) (c : CtxId) : Bool :=
  let t := s.ctxTemplate c
  t != 0 && (t != 0x1F || decide (s.ctxUcode c < s.loop.ucodeEntries.length)) && s.dividerOk c &&
    !((t == 0x03 || t == 0x04 || t == 0x06) && s.ctxBound c && s.ctxDivider c != 1) &&
    s.coefsOk c && s.harmonicsOk c &&
    (t != 0x13 || (decide (5/10000 ≤ s.pq c 0) && decide (s.pq c 0 ≤ 5/1000))) && s.ranksOk c && !s.selfLink c &&
    (match s.ctxRegion c with
    | some r => s.admissible r && (!s.isPaired r || s.pairedInputsOk c r)
    | none => true) && s.tbOk &&
    (List.range 16).all (fun n => s.fbRangeOk c n && s.fbCountsOk c n) && s.destsOk c && s.pinOk c && s.linksOk c && s.startRanksOk

/-! ## CTX_WRITE (R164, R181) -/

/-- The areas of a span may be written in the present state (R164, R181). -/
def State.areasOk (s : State) (c : CtxId) (off len : Nat) : Bool :=
  let l := (List.range len).map (off + ·)
  let dis := s.ctxState c == 0
  let t := s.ctxTemplate c
  !(l.all deviceByte) && l.all fun b =>
    decide (b < 0x7C0) &&
      (dis || (decide (0x40 ≤ b) && decide (b < 0xC0)) || (decide (0x100 ≤ b) && decide (b < 0x400)) || (deviceByte b && decide (b < 0x40))) &&
      !(t == 0x01 && b == 0x428) && !(t == 0x0D && b == 0x400)

/-- A write changes a region's load or one of its links and leaves it inadmissible (R120, R123). -/
def State.breaksRegion (s s0 : State) (r : RegionId) : Bool :=
  !(s.admissible r || (s.loadOf r == s0.loadOf r && (s.ctxsOf r).all fun c => s.producers c == s0.producers c))

/-- Checks over several fields that a write to the entry may fail (R49, R85, R120, R123, R185); s0 is the state before it. -/
def State.writeJoint (s s0 : State) (c : CtxId) (off len : Nat) : Bool :=
  let hits (k : Nat) : Bool := decide (off < 0x104 + 4 * k) && decide (0x100 + 4 * k < off + len)
  let t := s.ctxTemplate c
  let map := decide (off < 0xC0) && decide (0x40 < off + len)
  (!(t == 0x01 && [3, 4, 5, 6, 7].any hits) && !(t == 0x02 && hits 5) || s.coefsOk c) &&
    (!(t == 0x0D && (hits 2 || hits 3)) || s.ranksOk c) &&
    (!map || !s.selfLink c) &&
    (s.startRanksOk || !s0.startRanksOk) &&
    !((List.finRange 8).any fun r => s.breaksRegion s0 r)

/-! ## Image (R171, R172) -/

/-- The reserved bits and host fields of an image entry, judged in the table as the load would leave it. -/
def imageEntryOk (l : List Byte) : Bool :=
  let s := State.reset.store 0 l
  let c : CtxId := 0
  let w (k : Nat) : Nat := leAt l (0x100 + 4 * k) 4
  templateCode (leAt l 0 1) && decide (leAt l 1 1 < 4) && decide (leAt l 2 1 < 8) && s.dividerOk c &&
    decide (leAt l 3 1 < 32) && leAt l 19 1 == 0 && leAt l 44 4 == 0 &&
    [1, 32, 33].all (fun k => decide (leAt l (0x7C0 + k) 1 < 32)) && leAt l (0x7C0 + 42) 2 == 0 &&
    (List.range 10).all (fun k => leAt l (0x7C0 + 54 + k) 1 == 0) &&
    (List.range 16).all (fun n => s.inSource c n / 2 ^ 11 % 4 == 0 && leAt l (0x46 + 8 * n) 1 / 4 % 4 == 0) &&
    (List.range 8).all (fun n => leAt l (0xC0 + 8 * n) 2 / 2 ^ 5 % 2 ^ 9 == 0 && leAt l (0xC4 + 8 * n) 4 == 0) &&
    (leAt l 0 1 != 0x13 || decide (leAt l 0x407 1 < 8)) &&
    (List.range 192).all fun k => decide (w k < 2 ^ 21) && w k / 2 ^ 16 != 16

/-- An entry of an image as it is loaded: device-written fields zero (R165, R172). -/
def clearDevice (l : List Byte) : List Byte := l.zipIdx.map fun p => if deviceByte p.2 then 0 else p.1

/-- RESULT and FAIL_ENTRY of a table image, 1 where every check passes (R171, R172, R191). -/
def imageResult (l : List Byte) : Nat × Nat :=
  if leAt l 0 4 ≠ 0x54434B53 ∨ leAt l 4 2 ≠ 1 then (2, 0)
  else if BitVec.ofNat 32 (leAt l 8 4) ≠ crc32 (l.drop 16) then (3, 0)
  else if leAt l 6 2 ≠ 0 ∨ leAt l 12 4 ≠ 0 then (4, 0)
  else match (List.range 256).find? fun j => !imageEntryOk ((l.drop (16 + 2048 * j)).take 2048) with
    | some j => (4, j)
    | none => (1, 0)

end Sys2Proof.Machine
end

