-- ==== Sys2Proof/Machine/Probe.lean ====
section
/-!
DEFINITION. Probes (R137 to R144): the injection of each release, the records, and the end of a probe.
-/
namespace Sys2Proof.Machine

open Sys2Proof

/-! ## The probe block (R139) -/

/-- A field of a context's probe block. -/
def State.pb (s : State) (c : CtxId) (off n : Nat) : Nat := s.ctxNat c (0x7C0 + off) n

/-- Bytes of a probe block written. -/
def setPb (c : CtxId) (off : Nat) (l : List Byte) (s : State) : State := throughCtx c (0x7C0 + off) l s

/-- The probe that runs on a context (R137). -/
def State.probeOf (s : State) (c : CtxId) : Option (Fin 16) := (List.finRange 16).find? fun n => (s.loop.probes[n]).ctx == some c

/-- Number and generation as results and events give them (R137). -/
def probeId (n : Fin 16) (gen : BitVec 4) : Nat := n.val + 16 * gen.toNat

/-- A probe ends with a STATUS: "probe done" (R143). -/
def endProbe (c : CtxId) (status : Nat) (s : State) : State :=
  match s.probeOf c with
  | none => s
  | some n =>
    raise 123 evProbeDone (BitVec.ofNat 32 n.val) ((s.loop.probes[n]).gen.setWidth 32)
      ((setPb c 53 [BitVec.ofNat 8 status] s).modProbe n fun p => { p with ctx := none, inj := 0 })

/-! ## The injected signal (R140) -/

/-- Taps of the LFSR of an order. -/
def prbsTaps : Nat → List Nat
  | 7 => [7, 6]
  | 8 => [8, 6, 5, 4]
  | 9 => [9, 5]
  | 10 => [10, 7]
  | 11 => [11, 9]
  | 12 => [12, 11, 10, 4]
  | 13 => [13, 12, 11, 8]
  | 14 => [14, 13, 12, 2]
  | 15 => [15, 14]
  | _ => []

/-- One shift of the LFSR: stage k is bit k - 1, the sum of the taps enters stage 1 (notes/assumptions/43.md). -/
def prbsShift (order x : Nat) : Nat :=
  let f := ((prbsTaps order).filter fun t => x.testBit (t - 1)).length % 2
  (2 * x + f) % 2 ^ order

/-- The initial register: 0 is taken as 1. -/
def prbsSeed (order seed : Nat) : Nat := let x := seed % 2 ^ order; if x = 0 then 1 else x

/-- Bits k - 1 to 0 of the integer nearest to the n-th root of x, above those of r. -/
def rootBits : Nat → Nat → Nat → Nat → Nat
  | 0, _, _, r => r
  | k + 1, n, x, r => let t := r + 2 ^ k; rootBits k n x (if (2 * t - 1) ^ n ≤ 2 ^ n * x then t else r)

/-- Phase step of point i of a sweep, rounded to the nearest integer. -/
def State.sweepStep (s : State) (c : CtxId) (i : Nat) : Nat :=
  let a := s.pb c 12 4
  let b := s.pb c 16 4
  let n := s.pb c 24 2 - 1
  if s.pb c 26 1 = 0 then (roundQ ((a : ℚ) + ((b : ℚ) - a) * i / n)).toNat else rootBits 33 n (a ^ (n - i) * b ^ i) 0

/-- Releases of injection after the delay. -/
def State.probeRuns (s : State) (c : CtxId) : Nat :=
  match s.pb c 0 1 with
  | 1 => s.pb c 8 4
  | 2 => s.pb c 24 2 * s.pb c 20 4
  | 3 => s.pb c 8 4
  | _ => 0

/-- AMP as a signal. -/
def State.probeAmp (s : State) (c : CtxId) : Int := sx 16 (s.pb c 2 2)

/-- Injection of run j after the delay of a running probe; the PRBS bit is the last stage (R140; notes/assumptions/160.md). -/
def State.injection (s : State) (c : CtxId) (p : Probe) : Int :=
  let a := s.probeAmp c
  match s.pb c 0 1 with
  | 1 => a
  | 2 => (qStore (qMulSig (qIn a) (qIn (sinUnit (p.phase.toNat / 65536))) 0)).v
  | 3 => if p.lfsr.testBit (s.pb c 27 1 - 1) then a else sat16 (-a)
  | _ => 0

/-- The probe's sequence advances with a release: the injection of this release, then the phase or the register moved on (R140, R141). -/
def advanceProbe (c : CtxId) (s : State) : State :=
  match s.probeOf c with
  | none => s
  | some n =>
    let p := s.loop.probes[n]
    let delay := s.pb c 4 4
    let j := p.releases - delay
    let on := decide (delay ≤ p.releases) && decide (j < s.probeRuns c)
    let inj := if on then s.injection c p else 0
    s.modProbe n fun p =>
      { p with
        releases := p.releases + 1
        inj := inj
        phase := if on && s.pb c 0 1 == 2 then p.phase + BitVec.ofNat 32 (s.sweepStep c (j / s.pb c 20 4)) else p.phase
        lfsr := if on && s.pb c 0 1 == 3 && (j + 1) % s.pb c 30 2 == 0 then prbsShift (s.pb c 27 1) p.lfsr else p.lfsr }

/-- The injection into an input slot, or into output slot k as 16 + k, at the present release (R141). -/
def State.injAt (s : State) (c : CtxId) (slot : Nat) : Int :=
  match s.probeOf c with
  | some n => if s.pb c 1 1 % 32 = slot then (s.loop.probes[n]).inj else 0
  | none => 0

/-! ## Records (R142, R143) -/

/-- A record of 8 bytes (R142; notes/assumptions/163.md). -/
def probeRecord (inj : Int) (r0 r1 : Word16) (release : Word32) (skipped sat : Bool) : List Byte :=
  leBytes 2 (sigWord inj).toNat ++ leBytes 2 r0.toNat ++ leBytes 2 r1.toNat ++ leBytes 1 release.toNat ++ leBytes 1 (b2n skipped + 2 * b2n sat)

/-- After a release whose run has completed or been skipped: its record where one is due, and the end of the probe (R142, R143). `resp`
gives the value of a slot. -/
def recordProbe (c : CtxId) (resp : Nat → Word16) (skipped sat : Bool) (s : State) : State :=
  match s.probeOf c with
  | none => s
  | some n =>
    let p := s.loop.probes[n]
    let k := p.releases - 1
    let cnt := s.pb c 48 4
    let due := k % max 1 (s.pb c 34 2) == 0
    let room := decide (cnt < s.pb c 44 4)
    let s :=
      if due && room then
        setPb c 48 (leBytes 4 (cnt + 1)) (s.write 0x00 (s.pb c 36 6 + 8 * cnt)
          (probeRecord p.inj (resp (s.pb c 32 1 % 32)) (resp (s.pb c 33 1 % 32)) (s.loop.rt[c]).release skipped sat))
      else s
    if s.pb c 4 4 + s.probeRuns c ≤ p.releases then endProbe c 1 s
    else if s.pb c 44 4 ≤ s.pb c 48 4 then endProbe c 2 s
    else s

end Sys2Proof.Machine
end

