-- ==== Sys2Proof/Machine/Run.lean ====
section
/-!
DEFINITION. Runs of the Loop Engine: what input slots read (R117 to R121), feedback detection and its reactions (R151 to R159), the run
and its effects (R121, R130), and the duty frame (R110, R201, R202).
-/
namespace Sys2Proof.Machine

open Sys2Proof

/-! ## Inputs (R117 to R119, R121, R414) -/

/-- The values of the 16 input slots and their open-wire flags. -/
def readInputs (c : CtxId) (s : State) : List (Word16 × Bool) × State :=
  (List.range 16).foldl (fun (a : List (Word16 × Bool) × State) n =>
    match a.2.slotRead c n with
    | some v => (a.1 ++ [v], a.2)
    | none => let f := a.2.fresh; (a.1 ++ [(f.1.setWidth 16, false)], f.2)) ([], s)

/-- What slots with PREV read in a release: the values as they stand now (R119). -/
def State.prevValues (s : State) (c : CtxId) : List Word16 :=
  (List.range 16).map fun n => match s.producer c n with | some p => s.outVal p.1 p.2 | none => 0

/-! ## Detectors (R152, R153) -/

/-- A unit of the slot's reference region has changed state since the context's previous run (R152). -/
def State.refSwitched (s : State) (c : CtxId) (n : Nat) : Bool :=
  let seen := (s.loop.rt[c]).seen
  let moved (r : RegionId) : Bool := s.loop.switched[r] != seen.getD r.val 0
  let b : BankId := ⟨s.inSource c n % 64 / 16, by omega⟩
  if s.rf (rAdcCtrl b) 0 2 = 1 ∧ s.rf (rAdcCtrl b) 4 4 < 8 then (match regionNo (s.rf (rAdcCtrl b) 4 4) with | some r => moved r | none => false)
  else match s.ctxRegion c with
  | some r => moved r
  | none => (List.finRange 8).any moved

/-- The detectors of one slot at a run: their counts, whether one fires, and whether one other than the frozen detector does. -/
def State.detect (s : State) (c : CtxId) (n : Nat) (f : FbSlot) (v : Word16) (ow : Bool) : FbSlot × Bool × Bool :=
  let adc := s.inSource c n / 2 ^ 14 == 1
  let out := decide (v.toInt < s.inLo c n) || decide (s.inHi c n < v.toInt)
  let range := if out then min 15 (f.range + 1) else 0
  let step := b2n (s.refSwitched c n)
  let same := if f.last = some v then min 255 (f.same + step) else step
  let open_ := (adc && ow) || (out && decide (s.inRangeN c n ≤ range))
  let fired := open_ || (adc && s.inFreezeN c n != 0 && s.refSwitched c n && decide (s.inFreezeN c n ≤ same))
  ({ f with range := range, same := same, last := some v, clean := if fired then 0 else min 64 (f.clean + 1) }, fired, open_)

/-- LOST after the detectors of a run, with the detectors' counts, and the slots newly lost, each marked if the frozen detector alone has
found it. -/
def State.detectAll (s : State) (c : CtxId) (vals : List (Word16 × Bool)) : List FbSlot × Nat × List (Nat × Bool) :=
  let rt := s.loop.rt[c]
  let lost := s.ctxLost c
  (List.range 16).foldl (fun (a : List FbSlot × Nat × List (Nat × Bool)) n =>
    if s.inClass c n = 0 then (a.1 ++ [({} : FbSlot)], a.2)
    else
      let v := vals.getD n (0, false)
      let p := s.detect c n (rt.fb.getD n {}) v.1 v.2
      let was := lost.testBit n
      let now := p.2.1 || (was && decide (p.1.clean < 64))
      (a.1 ++ [{ p.1 with cls := if now then s.inClass c n else 0 }], a.2.1 + (if now then 2 ^ n else 0), if now && !was then a.2.2 ++ [(n, !p.2.2)] else a.2.2)) ([], 0, [])

/-- LOST written. -/
def setLost (c : CtxId) (v : Nat) (s : State) : State := if s.ctxLost c = v then s else throughCtx c 34 (leBytes 2 v) s

/-! ## Reactions (R154 to R159) -/

/-- The region runs open-loop (R154). -/
def State.openLoop (s : State) (r : RegionId) : Bool := s.loop.openLoop[r]

/-- A region enters or leaves open-loop operation (R154, R157). -/
def setOpenLoop (r : RegionId) (b : Bool) (s : State) : State := s.modLoop fun l => { l with openLoop := upd l.openLoop r fun _ => b }

/-- The class of a lost slot: its present one, or that under which it was flagged where a write has set it to 0 (R153). -/
def State.lostClass (s : State) (c : CtxId) (n : Nat) : Nat :=
  if !(s.ctxLost c).testBit n then 0
  else if s.inClass c n = 0 then ((s.loop.rt[c]).fb.getD n {}).cls else s.inClass c n

/-- A slot of a class is flagged lost in a context. -/
def State.ctxClassLost (s : State) (c : CtxId) (cls : Nat) : Bool := (List.range 16).any fun n => s.lostClass c n == cls

/-- A slot of a class is flagged lost in some enabled context of a region. -/
def State.classLost (s : State) (r : RegionId) (cls : Nat) : Bool := (s.ctxsOf r).any fun c => s.ctxClassLost c cls

/-- A context of a region returns from open-loop operation: the voltage regulator's words are back-calculated, a free value, and the leg
regulator's blend starts (R157). A held one stays as it is and resumes without a blend (R154, R158). -/
def closeLoop (d : CtxId) (s : State) : State :=
  if s.ctxState d ≠ 3 then s else
  let s := setCtxState d 1 s
  if s.ctxTemplate d = 0x03 then
    setWords d (fun j => sx 40 (s.runWord d (s.loop.rt[d]).release (((s.loop.rt[d]).ins).map BitVec.toInt) (32 + j)).toNat) 6 s
  else if s.ctxTemplate d = 0x04 then s.modRt d fun x => { x with reopen := some 0 }
  else s

/-- A slot is lost that holds its context under "feedback lost": of class 3, or of class 1 without open-loop operation, or of any class in an
unbound context (R154). -/
def State.heldSlot (s : State) (c : CtxId) (n : Nat) : Bool :=
  let k := s.lostClass c n
  match s.ctxRegion c with
  | some r => k == 3 || (k == 1 && !(s.ctxsOf r).any fun d => s.ctxTemplate d == 0x01)
  | none => k != 0

/-- The condition of "feedback lost" ends when no such slot of an enabled context of the source is left (R153, R444). -/
def settleHeldFb (k : SourceId) (s : State) : State :=
  if evCtxFbHeld.code ∉ (s.events.src[k]).standing then s
  else if (List.finRange 256).any fun c => s.ctxEnabled c && s.srcOf c == k && (List.range 16).any (s.heldSlot c) then s
  else unstand k evCtxFbHeld s

/-- Conditions of R154's events that have ended, and the return of a region to closed-loop operation (R157). -/
def settleLost (c : CtxId) (s : State) : State :=
  let s := settleHeldFb (s.srcOf c) s
  match s.ctxRegion c with
  | none => s
  | some r =>
    let s := if s.classLost r 2 then s else unstand (srcCtx (some r)) evCtxCurrentFbLost s
    if s.openLoop r && !s.classLost r 1 then
      let s := setOpenLoop r false (forList closeLoop (s.ctxsOf r) s)
      raise (srcCtx (some r)) evCtxFbRestored 0 0 (unstand (srcCtx (some r)) evCtxVoltageFbLost s)
    else s

/-- A context held for lost feedback: it does not run, its probe ends (R154). -/
def holdCtx (c : CtxId) (s : State) : State := endProbe c 4 (setCtxState c 2 s)

/-- The window that covers a finding of newly lost slots of the given classes: the region's, where the frozen detector alone has found
them all (R450, R453). -/
def State.frozenWindow (s : State) (c : CtxId) (new : List (Nat × Bool)) (classes : List Nat) : Option ShadowObj :=
  if (new.filter fun p => classes.contains (s.inClass c p.1)).all Prod.snd then (s.ctxRegion c).map ShadowObj.region else none

/-- The reaction to slots found newly lost at one run (R154, R155). The sequencer keeps running in place of being held (R159). What a narrower
class leaves once the wider one has ended is notes/assumptions/157.md. -/
def loseFeedback (c : CtxId) (new : List (Nat × Bool)) (s : State) : State :=
  let cls := new.map fun p => s.inClass c p.1
  let src := s.srcOf c
  let own := s.ctxTemplate c == 0x0D
  match s.ctxRegion c with
  | some r =>
    let current := cls.contains 2
    let opens := cls.contains 1 && (s.ctxsOf r).any fun d => s.ctxTemplate d == 0x01
    let other := !own && cls.any fun k => k == 3 || (k == 1 && !opens)
    let s := if opens then
        stand src evCtxVoltageFbLost (raiseFull src evCtxVoltageFbLost 0 0 (s.frozenWindow c new [1]) false
          (setOpenLoop r true (forList (fun d t => if t.ctxState d = 1 then setCtxState d 3 t else t) (s.ctxsOf r) s)))
      else s
    if current then
      let s := stand src evCtxCurrentFbLost (raiseFull src evCtxCurrentFbLost 0 0 (s.frozenWindow c new [2]) false s)
      if own then s else (holdCtx c s).modRt c fun x => { x with heldCurrent := true }
    else if other && !opens then stand src evCtxFbHeld (raiseFull src evCtxFbHeld 0 0 (s.frozenWindow c new [1, 3]) false (holdCtx c s))
    else s
  | none => if own || cls.isEmpty then s else stand src evCtxFbHeld (raise src evCtxFbHeld 0 0 (holdCtx c s))

/-- The detectors of a run, or of a release of a held context, and what follows from them (R152 to R155, R157). -/
def runDetectors (c : CtxId) (vals : List (Word16 × Bool)) (s : State) : State :=
  let p := s.detectAll c vals
  let s := (setLost c p.2.1 s).modRt c fun x => { x with fb := p.1, seen := s.loop.switched.toList }
  settleLost c (if p.2.2.isEmpty then s else loseFeedback c p.2.2 s)

/-! ## The run (R121, R130, R141, R165) -/

/-- STATE [4] and [3] and the counts of the header after a run. -/
def countRun (c : CtxId) (sat : Bool) (s : State) : State :=
  let b := s.ctxNat c 3 1
  let s := throughCtx c 3 [BitVec.ofNat 8 (b % 16 + 16 * b2n sat)] (stepCtx32 c 24 s)
  if sat then stepCtx16 c 30 s else s

/-- What a response slot of a probe holds: an input slot's value as read or an output slot's as stored. -/
def State.response (s : State) (c : CtxId) (vals : List Word16) (slot : Nat) : Word16 :=
  if slot < 16 then vals.getD slot 0 else s.outVal c (slot - 16)

/-- A run of a released context with the values that its slots read at its first cycle: its outputs become visible together (R121). A probe's injection
into an output saturates, without SAT (R141; notes/assumptions/162.md). -/
def runWith (c : CtxId) (vals : List Word16) (s : State) : State :=
  let n := (s.loop.rt[c]).release
  let ins := vals.zipIdx.map fun p => sat16 (p.1.toInt + s.injAt c p.2)
  let inj (k : Nat) : Int := s.injAt c (16 + k)
  let quiet := s.ctxState c == 3 && s.ctxTemplate c == 0x03
  let r : RunRes := if quiet then { s := s } else templateRun c n ins s
  let s := forList (fun o t => setOutVal c o.1 (sigWord (sat16 (sx 16 (sigNat o.2) + inj o.1))) t) r.outs r.s
  let s := (countRun c r.sat s).modRt c fun x => { x with ins := ins.map sigWord, lastRun := some n }
  recordProbe c (s.response c vals) false r.sat s

/-! ## Lanes (R106, R113, R115, R116, R121) -/

/-- Lanes on which a context may run, as a mask (R113). -/
def State.laneMask (s : State) (c : CtxId) : Nat :=
  match s.ctxRegion c with | some r => s.rf (rLeLanes r) 0 8 | none => s.rf rLeTbLanes 0 8

/-- A lane has taken the context's run (R106). -/
def State.onLane (s : State) (c : CtxId) : Bool := s.loop.lanes.toList.any fun l => l.run == some c || l.paused == some c

/-- Ready: released, every same-run producer released in the same period has completed, and no lane has taken the run (R115, R119). -/
def State.ready (s : State) (c : CtxId) : Bool :=
  (s.loop.rt[c]).released && !s.onLane c &&
    (s.producers c).all fun p => !((s.loop.rt[p]).inPeriod && (s.loop.rt[p]).released)

/-- A run skipped for a missed prefetch or an entry lost to a storage error (R160, R177). -/
def skipRun (c : CtxId) (s : State) : State :=
  let first := !(s.loop.rt[c]).skipReported
  let s := (stepCtx16 c 28 s).modLoop fun l => { l with missCnt := satInc l.missCnt }
  let s := if first then raise 122 evCacheMiss 0 0 s else s
  let s := s.modRt c fun x => { x with skipReported := true }
  let p := State.freshN 2 s
  let resp (slot : Nat) : Word16 := if slot < 16 then (p.1.getD (slot % 2) 0).setWidth 16 else s.outVal c (slot - 16)
  recordProbe c resp true false p.2

/-- A lane changed. -/
def modLane (k : Fin 8) (f : Lane → Lane) (s : State) : State := s.modLoop fun l => { l with lanes := upd l.lanes k f }

/-- The first cycle of a run on a lane: its entry is read, its inputs are read and checked; a context held by what they show does not run,
and a run whose entry is lost is skipped (R121, R152 to R154, R160). -/
def startRun (k : Fin 8) (c : CtxId) (s : State) : State :=
  let s := readEntry c s
  if !s.resident c then
    let s := (skipRun c s).modRt c fun x => { x with released := false }
    if s.ctxPin c then loadRoom c s else s
  else
  let p := readInputs c s
  let s := runDetectors c p.1 p.2
  if s.ctxState c = 2 then s.modRt c fun x => { x with released := false }
  else modLane k (fun l => { l with run := some c }) (s.modRt c fun x => { x with vals := p.1.map Prod.fst, links := s.linksRead c })

/-- The next thing a lane does, the contexts of `l` being ready in rising order: a free lane takes region work first, a region release
pre-empts a timebase run, a pre-empted run resumes, a free lane takes timebase work (R115, R116). -/
def laneStep (l : List CtxId) (s : State) : Option State :=
  let region := l.filter s.ctxBound
  let first (ok : Fin 8 → Bool) (w : List CtxId) : Option (Fin 8 × CtxId) :=
    (List.finRange 8).findSome? fun k => if ok k then (w.find? fun c => (s.laneMask c).testBit k).map (k, ·) else none
  let free (k : Fin 8) : Bool := (s.loop.lanes[k]).run.isNone
  let timebase (k : Fin 8) : Bool := match (s.loop.lanes[k]).run with | some d => !s.ctxBound d | none => false
  match first free region with
  | some p => some (startRun p.1 p.2 s)
  | none =>
    match first timebase region with
    | some p => some (startRun p.1 p.2 (modLane p.1 (fun x => { run := none, paused := x.run }) s))
    | none =>
      match (List.finRange 8).find? fun k => free k && (s.loop.lanes[k]).paused.isSome with
      | some k => some (modLane k (fun x => { run := x.paused, paused := none }) s)
      | none => (first free (l.filter fun c => !s.ctxBound c)).map fun p => startRun p.1 p.2 s

/-- Runs dispatched until no lane has anything more to take. -/
def dispatchN : Nat → State → State
  | 0, s => s
  | n + 1, s =>
    match laneStep ((List.finRange 256).filter s.ready) s with
    | some t => dispatchN n t
    | none => s

/-- The lanes take what is ready, while the Loop Engine runs (R115). -/
def dispatch (s : State) : State := if s.leRuns then dispatchN 600 s else s

/-- A run's last cycle: its results, its lane free, and what becomes ready with it taken (R115, R119, R121). -/
def completeRun (c : CtxId) (s : State) : State :=
  let s := runWith c (s.loop.rt[c]).vals s
  let s := s.modRt c fun x => { x with released := false }
  dispatch (s.modLoop fun l => { l with lanes := l.lanes.map fun x => if x.run = some c then { x with run := none } else x })

/-- The context's run is on a lane and not pre-empted. -/
def State.runReady (s : State) (c : CtxId) : Bool := s.leRuns && s.loop.lanes.toList.any fun l => l.run == some c

/-- CONTEXT_RUN_COMPLETE. -/
def execContextRunComplete (c : CtxId) (s : State) : Host.Outcome State Fault Refusal :=
  .next (if s.runReady c then settle s (completeRun c s) else s)

/-! ## The duty frame (R110, R201, R202) -/

/-- Compare of a duty value (R201). -/
def dutyCompare (d : Int) (p : Nat) : BitVec 24 :=
  if d ≤ 0 then 0 else if d = 0x7FFF then 0xFFFFFF
  else let x := roundConv (d * p) 32768; if x = p then 0xFFFFFF else BitVec.ofInt 24 x

/-- Phase offset of a value read as an unsigned fraction (R202). -/
def phaseOffset (u : Word16) (p : Nat) : BitVec 24 :=
  let x := (roundConv (u.toNat * p) 65536).toNat
  BitVec.ofNat 24 (if p = 0 then x else x % p)

/-- Value that one of the contexts writes to a destination. -/
def State.writtenBy (s : State) (l : List CtxId) (kind index : Nat) : Option Word16 :=
  l.findSome? fun c => ((List.range 8).find? fun n => s.outKind c n == kind && s.outIndex c n == index).map (s.outVal c)

/-- The contexts of a region that were released in the present period and write an output of the region. -/
def State.periodWriters (s : State) (r : RegionId) : List CtxId := (s.ctxsOf r).filter fun c => (s.loop.rt[c]).inPeriod && s.writesOut c

/-- The frame that answers period n of region r. -/
def State.dutyFrame (s : State) (r : RegionId) (n : Word32) : DutyFrame :=
  let p := s.period r
  let w := s.periodWriters r
  let on (o : Option Word16) : Bool := match o with | some v => v != 0 | none => false
  { region := r, seq := n
    entries := (List.finRange 24).filterMap fun i =>
      let e : CommitEntry :=
        { island := i, cmp := (s.writtenBy w 1 i).map fun v => dutyCompare v.toInt p, phase := (s.writtenBy w 2 i).map fun v => phaseOffset v p }
      if e.cmp.isSome || e.phase.isSome then some e else none
    inhibit := s.classLost r 2
    hold := on (s.writtenBy (s.ctxsOf r) 3 1)
    drive := s.frameDrive r (on (s.writtenBy (s.ctxsOf r) 3 0)) }

/-- DUTY_FRAME_SEND: the sample set has been received and every released writer has completed (R110). -/
def execDutyFrameSend (r : RegionId) (s : State) : Host.Outcome State Fault Refusal :=
  .next (match s.loop.owed[r] with
    | none => s
    | some n =>
      if s.leRuns && (s.periodWriters r).all fun c => !(s.loop.rt[c]).released then
        (mrSend .c 0 (.duty (s.dutyFrame r n)) s).modLoop fun l => { l with owed := upd l.owed r fun _ => none }
      else s)

end Sys2Proof.Machine
end

