-- ==== Sys2Proof/Machine/CtxCmd.lean ====
section
/-!
DEFINITION. Ring commands on contexts and probes: CTX_WRITE, CTX_READ, CTX_ENABLE, CTX_DISABLE, PROBE_START, PROBE_STOP (R132, R133,
R137 to R144, R179 to R183, R80, R413 to R415, R420).
-/
namespace Sys2Proof.Machine

open Sys2Proof

/-! ## The context and the moment (R132, R133, R349) -/

/-- The context that byte 16 of a descriptor names. -/
def dCtx (d : List Byte) : CtxId := ⟨dByte d 16 % 256, Nat.mod_lt _ (by decide)⟩

/-- The opcode acts on a context (R349, R364). -/
def ctxOpcode (op : Nat) : Bool := (decide (1 ≤ op) && decide (op ≤ 4)) || op == 0x13 || op == 0x14

/-- The context of a command's slot, none for a PROBE_STOP that names no running probe. -/
def State.ctxTarget (s : State) (k : Slot) : Option CtxId :=
  if s.opcodeOf k = 0x14 then (s.namedProbe (s.desc k)).map Prod.snd else some (dCtx (s.desc k))

/-- The context runs: it is enabled and not held. -/
def State.ctxRuns (s : State) (c : CtxId) : Bool := s.ctxState c == 1 || s.ctxState c == 3

/-- The context has release points (R133). -/
def State.hasReleases (s : State) (c : CtxId) : Bool :=
  s.leRuns && s.ctxDivider c != 0 && (match s.ctxRegion c with | some r => s.carrierRuns r | none => true)

/-- Last boundary count of the region of the context that a command names (R420). -/
def State.boundCount (s : State) (d : List Byte) : Word32 :=
  match s.ctxRegion (dCtx d) with | some r => s.regions[r].bcount | none => 0

/-- A command may act on the context now: between two runs, and for a context that does not run only where it has no release points,
which otherwise take it (R132, R133). -/
def State.ctxFree (s : State) (c : CtxId) : Bool := !(s.loop.rt[c]).released && (s.ctxRuns c || !s.hasReleases c)

/-- The context is a mirror: bound to a mirror letter (R413). -/
def State.mirrored (s : State) (c : CtxId) : Bool := match s.ctxRegion c with | some r => s.isMirror r | none => false

/-! ## CTX_WRITE (R80, R181, R420) -/

/-- Step 1 of R181: the first operand out of range, as its descriptor offset. -/
def writeRange (d : List Byte) : Option Nat :=
  let off := leAt d 18 2
  let len := leAt d 20 2
  let inl := (dByte d 17).testBit 0
  if off % 4 ≠ 0 ∨ 0x800 ≤ off then some 18
  else if len % 4 ≠ 0 ∨ len < 4 ∨ (if inl then 32 else 2048) < len ∨ 0x800 < off + len then some 20
  else if !inl ∧ (leAt d 24 8 % 4 ≠ 0 ∨ !hostSpan (leAt d 24 8) len) then some 24
  else none

/-- The data of a CTX_WRITE is here, or none is needed (R345, R576). -/
def State.dataHere (s : State) (k : Slot) : Bool :=
  let d := s.desc k
  s.opcodeOf k != 1 || (dByte d 17).testBit 0 || (writeRange d).isSome ||
    (match s.workOf k with | some w => w.data.isSome || w.dmaFailed | none => false)

/-- Ticks from a boundary to the release of its period: the trigger position, and where a bank carries RELEASE its delay and the conversion
(R196, R269, R283). -/
def State.releaseOffset (s : State) (r : RegionId) : Nat :=
  s.rf (rPwmTrigpos r) 0 21 + match s.releaseBank r with | some b => s.rf (rAdcDelay b) 0 16 + 40 | none => 0

/-- The apply count of a write to a paired context: the first release that is still to come, at or after its at-time and at least 3 above the
last boundary count known at acceptance (R420). -/
def State.applyCount (s : State) (k : Slot) (r : RegionId) (c : CtxId) : Word32 :=
  let g := s.regions[r]
  let n := max 1 (s.ctxDivider c)
  let p := max 1 (s.period r / 10)
  let b : Int := (g.lastBoundary.getD s.now : Nat)
  let wait : Int := if s.isTimed k then s.ticksUntil (dAtTime (s.desc k)) else 0
  let first := b + s.releaseOffset r
  let ahead := (-((-((s.now : Int) + wait - first)) / (p : Int))).toNat
  let known := match s.workOf k with | some w => (g.bcount - w.count).toNat | none => 0
  let m := g.bcount.toNat + max (3 - known) (max (b2n (decide (first ≤ s.now))) (if s.isTimed k then ahead else 0))
  BitVec.ofNat 32 ((m + n - 1) / n * n)

/-- Body of a parameter frame (R417; notes/assumptions/44.md). -/
def paramBody (c : CtxId) (off : Nat) (data : List Byte) : List Byte :=
  beBytes 2 c.val ++ beBytes 2 off ++ beBytes 2 data.length ++ data

/-- A checked write to a context of a paired region whose carrier runs: held for its apply count, and sent to the partner (R420). -/
def holdWrite (k : Slot) (c : CtxId) (r : RegionId) (off : Nat) (data : List Byte) (s : State) : State :=
  let n := s.applyCount k r c
  let s := s.modPair fun p => { p with held := p.held ++ [{ slot := some k, ctx := c, apply := n, off := off, data := data }] }
  let s := if s.pReach then pairSend 5 r n (paramBody c off data) s else s
  applying k s

/-- A held write applied, and the owner's command completed (R420). -/
def applyHeld (h : ParamHeld) (s : State) : State :=
  let s := applyWrite h.ctx h.off h.data (s.modPair fun p => { p with held := p.held.filter (· ≠ h) })
  match h.slot with | some k => finishOk k 0 s | none => s

/-- A write makes START of an enabled sequencer's CMD (R79). -/
def State.writesStart (s : State) (c : CtxId) (off : Nat) (data : List Byte) : Bool :=
  s.ctxTemplate c == 0x0D && s.ctxEnabled c && decide (off ≤ 0x100) && decide (0x100 < off + data.length) &&
    leAt data (0x100 - off) 2 == 1

/-- CTX_WRITE as it is applied: the checks of R181 in order, the data read from host memory where the checks that need none have passed, then
the write (R345; notes/assumptions/7.md). The sequencer's stage decides what a START finds (R80; notes/assumptions/159.md). -/
def doCtxWrite (k : Slot) (s : State) : State :=
  let d := s.desc k
  let c := dCtx d
  let off := leAt d 18 2
  let data := s.writeData k
  let failed := ((s.workOf k).map Work.dmaFailed).getD false
  let len := if s.dataHere k && !failed then data.length else leAt d 20 2
  match writeRange d with
  | some o => finishFail k stRange (BitVec.ofNat 32 o) s
  | none =>
    if s.mirrored c || !s.areasOk c off len then finishFail k stState 0 s
    else if !s.dataHere k then fetchData k (BitVec.ofNat 64 (leAt d 24 8)) s
    else if failed then finishFail k stAbortedFault 0xFFFF0003 s
    else
      let t := applyWrite c off data s
      match t.badWord c off len with
      | some w => finishFail k stRange (BitVec.ofNat 32 (0x10000 + w)) s
      | none =>
        if !t.writeJoint s c off len then finishFail k stRange 0xFFFF s
        else
          let start := s.writesStart c off data
          let stage := ((s.loop.rt[c]).seqr).stage
          if start && stage == .softStop then
            modWork k (fun w => { w with kind := .applying, handled := true })
              (s.modRt c fun x => { x with seqr := { x.seqr with kept := x.seqr.kept ++ [k] } })
          else if start && stage != .stopped then finishFail k stState 0 s
          else match s.ctxRegion c with
          | some r => if s.isPaired r && s.carrierRuns r then holdWrite k c r off data s else finishOk k 0 t
          | none => finishOk k 0 t

/-- A write held for a region whose carrier no longer runs is applied at once, since no release will come (R133). -/
def applyOrphan (k : Slot) (s : State) : State :=
  match s.pair.held.find? fun h => h.slot == some k with
  | some h => (match s.ctxRegion h.ctx with | some r => if s.carrierRuns r then s else applyHeld h s | none => applyHeld h s)
  | none => s

/-- A timed command of lower ASN on the same context falls due before the context's next run: both take effect at that run, in ASN order
(R346, R349). -/
def State.timedAhead (s : State) (k : Slot) (c : CtxId) : Bool :=
  match s.entry k, s.nextRelease c with
  | some e, some t => s.rings.journal.any fun x =>
      x.slot != k && x.asn != e.asn && asnAtOrAfter e.asn x.asn && ctxOpcode x.opcode.toNat && s.ctxTarget x.slot == some c &&
        s.timedWork x.slot && decide (s.ticksUntil (dAtTime (s.desc x.slot)) ≤ (t : Int) - s.now)
  | _, _ => false

/-- A command on a context by its row: its turn has come, the context is free, and no timed command goes before it. -/
def ctxRow (k : Slot) (op : Nat) (f : State → State) (s : State) : Host.Outcome State Fault Refusal :=
  let free := match s.ctxTarget k with | some c => s.ctxFree c && !s.timedAhead k c | none => true
  if free then immediate k op f s else .next s

/-- CTX_WRITE. -/
def execCtxWrite (slot : Slot) (s : State) : Host.Outcome State Fault Refusal :=
  if (s.pair.held.any fun h => h.slot == some slot) then .next (applyOrphan slot s) else ctxRow slot 0x01 (doCtxWrite slot) s

/-! ## CTX_READ (R182) -/

/-- The first operand of a CTX_READ out of range. -/
def readRange (d : List Byte) : Option Nat :=
  let off := leAt d 18 2
  let len := leAt d 20 2
  if off % 4 ≠ 0 ∨ 0x800 ≤ off then some 18
  else if len % 4 ≠ 0 ∨ len < 4 ∨ 2048 < len ∨ 0x800 < off + len then some 20
  else if leAt d 24 8 % 4 ≠ 0 ∨ !hostSpan (leAt d 24 8) len then some 24
  else none

/-- Bytes that a read returns: an angle word reads its bits [63:32] as 0 (R170, R182). -/
def State.readBytes (s : State) (c : CtxId) (off n : Nat) : List Byte :=
  let angle (b : Nat) : Bool :=
    (s.ctxTemplate c == 0x01 && decide (0x41C ≤ b) && decide (b < 0x420)) || (s.ctxTemplate c == 0x03 && decide (0x434 ≤ b) && decide (b < 0x438))
  (s.ctxBytes c off n).zipIdx.map fun p => if angle (off + p.2) then 0 else p.1

/-- CTX_READ as it is applied. -/
def doCtxRead (k : Slot) (s : State) : State :=
  let d := s.desc k
  match readRange d with
  | some o => finishFail k stRange (BitVec.ofNat 32 o) s
  | none =>
    let data := s.readBytes (dCtx d) (leAt d 18 2) (leAt d 20 2)
    finishOk k (BitVec.ofNat 64 (ofLe (data.take 8))) (hostWrite (BitVec.ofNat 64 (leAt d 24 8)) data s)

/-- The PCIe link takes writes: a CTX_READ waits for it (R576). -/
def State.hostUp (s : State) : Bool := s.host.up && !s.host.endpointReset

/-- CTX_READ. -/
def execCtxRead (slot : Slot) (s : State) : Host.Outcome State Fault Refusal :=
  if s.hostUp then ctxRow slot 0x02 (doCtxRead slot) s else .next s

/-! ## CTX_ENABLE and CTX_DISABLE (R175, R179, R180, R189, R415) -/

/-- State words that a template names (R189), from word 0 on; all words where it names them all. -/
def namedWords (t b : Nat) : Nat :=
  match t with
  | 0x01 => 31
  | 0x02 => 7
  | 0x05 => 1
  | 0x06 => 4
  | 0x0C => 1
  | 0x0D => 8
  | 0x0F => 9
  | 0x12 => 1
  | 0x13 => 7
  | 0x1F => 120
  | _ => min 120 (ownWords t b + 3 * (setpointsOf t).length)

/-- Words of bit fields with the bits that the map names: the mode word, angle words, timers, the sequencer's words and the sweep count
(R170, R189). -/
def namedBits (t : Nat) : List (Nat × Nat) :=
  match t with
  | 0x01 => [(3, 2 ^ 32 - 1), (5, 0xF3FFFF), (28, 2 ^ 33 - 1), (29, 2 ^ 33 - 1)]
  | 0x03 => [(6, 2 ^ 32 - 1)]
  | 0x0C => [(0, 2 ^ 33 - 1)]
  | 0x0D => [(0, 0x3FF), (1, 2 ^ 33 - 1), (2, 0xFFFF), (3, 2 ^ 33 - 1), (4, 2 ^ 33 - 1), (5, 2 ^ 33 - 1), (6, 2 ^ 33 - 1)]
  | 0x13 => [(0, 2 ^ 59 - 1), (1, 0xFFFF)]
  | _ => []

/-- State words after CTX_ENABLE: the words and the bits that the template does not name are 0, and a VSM and a sequencer begin stopped (R77,
R189; notes/assumptions/45.md). -/
def clearWords (c : CtxId) (s : State) : State :=
  let t := s.ctxTemplate c
  let k := namedWords t (s.paramInt c 0)
  let s := s.write 0x00 (ctxAddr c + 0x400 + 8 * k) (List.replicate (8 * (120 - k)) 0)
  let s := forList (fun p u => setSw c p.1 ((u.swBits c p.1 &&& p.2 : Nat) : Int) u) (namedBits t) s
  if t = 0x01 then setSw c 5 0 s else if t = 0x0D then setSw c 0 0 s else s

/-- A command needs region OFF where the context belongs to a paired region (R415). -/
def State.pairedBusy (s : State) (c : CtxId) : Bool :=
  match s.ctxRegion c with | some r => s.isPaired r && s.carrierRuns r | none => false

/-- CTX_ENABLE as it is applied. A pinned context waits while every cache entry is pinned or runs (R173, R175). -/
def doCtxEnable (k : Slot) (s : State) : State :=
  let c := dCtx (s.desc k)
  if s.mirrored c || s.pairedBusy c || s.ctxState c != 0 || (s.ctxTemplate c == 0x1F && s.loop.ucodeEntries.isEmpty) then finishFail k stState 0 s
  else
    let open_ := match s.ctxRegion c with | some r => s.openLoop r | none => false
    let t := storeCost c (setCtxState c (if open_ then 3 else 1) s)
    if !t.enableOk c then finishFail k stRange 0xFFFF s
    else
      let room := makeRoom t
      if t.ctxPin c && decide (96 ≤ room.claimed) then s
      else
        let t := (setLost c 0 (clearWords c (if t.ctxPin c then room else t))).modRt c fun x => { seen := t.loop.switched.toList, block := x.block }
        let t := saveRt c (if t.ctxPin c then loadEntry c t else t)
        finishOk k (BitVec.ofNat 64 (t.ctxCost c)) (showTbLimit t)

/-- CTX_ENABLE. -/
def execCtxEnable (slot : Slot) (s : State) : Host.Outcome State Fault Refusal := ctxRow slot 0x03 (doCtxEnable slot) s

/-- A context disabled: its probe ends, its state is written back and its cache entry freed, kept STARTs are discarded (R80, R180). -/
def disableCtx (c : CtxId) (s : State) : State :=
  let s := showTbLimit (setCtxState c 0 (evict c (endProbe c 5 s)))
  let kept := ((s.loop.rt[c]).seqr).kept
  let r := s.ctxRegion c
  let s := forList (fun k t => finishFail k stState 0 t) kept (saveRt c (s.modRt c fun x => { block := x.block }))
  let s := settleBusFb (srcCtx r) (settleHeldFb (srcCtx r) s)
  match r with
  | none => s
  | some r =>
    let s := if s.classLost r 2 then s else unstand (srcCtx (some r)) evCtxCurrentFbLost s
    match (s.ctxsOf r).head? with
    | some d => settleLost d s
    | none => setOpenLoop r false (unstand (srcCtx (some r)) evCtxVoltageFbLost s)

/-- CTX_DISABLE as it is applied. -/
def doCtxDisable (k : Slot) (s : State) : State :=
  let c := dCtx (s.desc k)
  let drives := s.writesOut c && (match s.ctxRegion c with | some r => !(s.showsInhibit r || s.latched r) | none => false)
  if s.mirrored c || s.pairedBusy c || drives || s.ctxState c == 0 then finishFail k stState 0 s
  else finishOk k 0 (disableCtx c s)

/-- CTX_DISABLE. -/
def execCtxDisable (slot : Slot) (s : State) : Host.Outcome State Fault Refusal := ctxRow slot 0x04 (doCtxDisable slot) s

/-! ## PROBE_START and PROBE_STOP (R66, R137 to R144, R162) -/

/-- Probe-block bytes 0 to 41 of a PROBE_START (R344). -/
def probeOperands (d : List Byte) : List Byte := bytesAt d 18 42

/-- The first operand of a PROBE_START out of range, as its descriptor offset (R139, R162; notes/assumptions/43.md). -/
def probeRange (d : List Byte) : Option Nat :=
  let b := probeOperands d
  let mode := leAt b 0 1
  let addr := leAt b 36 6
  let len := leAt d 60 4
  let slotBad (i : Nat) : Bool := decide (24 ≤ leAt b i 1 % 32)
  if 3 < mode then some 18
  else if slotBad 1 then some 19
  else if mode = 2 ∧ (leAt b 24 2 < 2 ∨ 1024 < leAt b 24 2) then some 42
  else if mode = 2 ∧ 1 < leAt b 26 1 then some 44
  else if mode = 3 ∧ (leAt b 27 1 < 7 ∨ 15 < leAt b 27 1) then some 45
  else if mode = 3 ∧ leAt b 30 2 = 0 then some 48
  else if slotBad 32 then some 50
  else if slotBad 33 then some 51
  else if leAt b 34 2 = 0 then some 52
  else if addr % 8 ≠ 0 ∨ reservedSpan addr ∨ 2 ^ 32 < addr + 8 * len then some 54
  else none

/-- The lowest probe number that does not run. -/
def State.freeProbe (s : State) : Option (Fin 16) := (List.finRange 16).find? fun n => (s.loop.probes[n]).ctx.isNone

/-- PROBE_START as it is applied; AMP is held to AMP_MAX by its size (R138; notes/assumptions/161.md). -/
def doProbeStart (k : Slot) (s : State) : State :=
  let d := s.desc k
  let c := dCtx d
  if s.mirrored c || s.ctxState c == 0 || s.ctxTemplate c == 0x13 || (s.probeOf c).isSome then finishFail k stState 0 s
  else match s.freeProbe with
  | none => finishFail k stState 0 s
  | some n =>
    match probeRange d with
    | some o => finishFail k stRange (BitVec.ofNat 32 o) s
    | none =>
      let b := probeOperands d
      let lim := s.rf rLeProbeLimit 0 16
      let clamp := decide (lim < (sx 16 (leAt b 2 2)).natAbs)
      let b := if clamp then b.take 2 ++ leBytes 2 lim ++ b.drop 4 else b
      let gen := (s.loop.probes[n]).gen + 1
      let s := setPb c 0 (b ++ [0, 0] ++ bytesAt d 60 4 ++ leBytes 4 0 ++ leBytes 1 (probeId n gen) ++ List.replicate 11 0) s
      let s := s.modProbe n fun _ => { ctx := some c, last := c, gen := gen, lfsr := prbsSeed (leAt b 27 1) (leAt b 28 2) }
      finish k (if clamp then stClamped else stOk) 0 (BitVec.ofNat 64 (probeId n gen)) true s

/-- PROBE_START. -/
def execProbeStart (slot : Slot) (s : State) : Host.Outcome State Fault Refusal := ctxRow slot 0x13 (doProbeStart slot) s

/-- PROBE_STOP as it is applied; its target is the context whose probe it stops, also where the probe was not running at acceptance (R183,
R364). -/
def doProbeStop (k : Slot) (s : State) : State :=
  match s.namedProbe (s.desc k) with
  | none => finishFail k stState 0 s
  | some p =>
    if s.mirrored p.2 then finishFail k stState 0 s
    else finishOk k 0 (endProbe p.2 3 (modEntry k (fun e => { e with targetClass := 1, targetIndex := BitVec.ofNat 8 p.2.val }) s))

/-- PROBE_STOP. -/
def execProbeStop (slot : Slot) (s : State) : Host.Outcome State Fault Refusal := ctxRow slot 0x14 (doProbeStop slot) s

/-- A command on a context, by its opcode. -/
def doCtxCommand (k : Slot) (s : State) : State :=
  match s.opcodeOf k with
  | 0x01 => doCtxWrite k s
  | 0x02 => doCtxRead k s
  | 0x03 => doCtxEnable k s
  | 0x04 => doCtxDisable k s
  | 0x13 => doProbeStart k s
  | 0x14 => doProbeStop k s
  | _ => s

end Sys2Proof.Machine
end

