-- ==== Sys2Proof/Machine/Release.lean ====
section
/-!
DEFINITION. Releases (R107 to R112, R133, R153, R158, R177): of a region's contexts by its sample set, and of unbound contexts by the
timebase; the commands that take effect at a release point; the heartbeat (R461).
-/
namespace Sys2Proof.Machine

open Sys2Proof

/-! ## Commands at a release point (R132, R133, R349, R420) -/

/-- A timed command of the queue whose at-time has come may be applied. -/
def State.timedReady (s : State) (k : Slot) : Bool := s.timedWork k && s.atTimeReached k

/-- The command of a slot takes effect at this release point of one of the contexts. -/
def State.atRelease (s : State) (l : List CtxId) (k : Slot) : Bool :=
  ctxOpcode (s.opcodeOf k) && (s.opcodeOf k != 2 || s.hostUp) &&
    (match s.ctxTarget k with
    | some c => l.contains c && (s.timedReady k || (s.turn k && (!s.ctxRuns c || s.timedAhead k c)))
    | none => false)

/-- The commands on the contexts of a release point, in the order of one instant (R346, R350). -/
def applyAtRelease (l : List CtxId) (s : State) : State :=
  forList (fun (e : JEntry) t => if t.atRelease l e.slot || (s.atRelease l e.slot && t.turn e.slot) then doCtxCommand e.slot t else t)
    (s.inOrder s.rings.journal) s

/-- Held writes of a paired or mirror region whose apply count is this release (R420). -/
def applyCounted (l : List CtxId) (n : Word32) (s : State) : State :=
  forList (fun h t => if h.apply = n ∧ l.contains h.ctx then applyHeld h t else t) s.pair.held s

/-! ## One context (R107, R141, R153, R158, R177) -/

/-- Flags of slots without detection are cleared (R153). -/
def clearUndetected (c : CtxId) (s : State) : State :=
  let keep := ((List.range 16).filter fun n => (s.ctxLost c).testBit n && s.inClass c n != 0).foldl (fun a n => a + 2 ^ n) 0
  if keep = s.ctxLost c then s else settleLost c (setLost c keep s)

/-- A held context whose flags have cleared resumes, once its region's inhibit has ended where current feedback was lost (R158). -/
def resumeHeld (c : CtxId) (s : State) : State :=
  let inh := match s.ctxRegion c with | some r => s.inhibited r || s.latched r | none => false
  if s.ctxState c = 2 ∧ s.ctxLost c = 0 ∧ !((s.loop.rt[c]).heldCurrent && inh) then
    let open_ := match s.ctxRegion c with | some r => s.openLoop r | none => false
    (setCtxState c (if open_ then 3 else 1) s).modRt c fun x => { x with heldCurrent := false }
  else s

/-- A context released at count n (R107); one that is not resident is skipped, and a pinned one loaded where there is room (R175, R177). -/
def releaseCtx (n : Word32) (c : CtxId) (s : State) : State :=
  let s := throughCtx c 36 (leBytes 4 n.toNat) s
  let prev := s.prevValues c
  let now := s.linkNow c
  let s := s.modRt c fun x => { x with release := n, inPeriod := true, prevIn := prev, prevLinks := now }
  let s := resumeHeld c (clearUndetected c s)
  let s := advanceProbe c s
  if s.ctxState c = 2 then
    let p := readInputs c s
    runDetectors c p.1 p.2
  else if s.resident c then s.modRt c fun x => { x with released := true }
  else if s.ctxPin c then loadRoom c (skipRun c s)
  else skipRun c s

/-! ## Regions (R108 to R110) -/

/-- Contexts bound to region r, enabled or not, that have a release point at boundary count n. -/
def State.boundAt (s : State) (r : RegionId) (n : Word32) : List CtxId :=
  (List.finRange 256).filter fun c => s.ctxRegion c == some r && s.ctxDivider c != 0 && n.toNat % s.ctxDivider c == 0

/-- The release of region r at boundary count n with the sample sets that brought it. -/
def releaseRegion (r : RegionId) (n : Word32) (sets : List SampleSet) (s : State) : State :=
  let s := s.modLoop fun l => { l with relSets := upd l.relSets r fun _ => sets }
  let s := forList (fun c t => t.modRt c fun x => { x with inPeriod := false }) (s.ctxsOf r) s
  let l := s.boundAt r n
  let s := applyCounted l n (applyAtRelease l s)
  let s := forList (releaseCtx n) ((s.boundAt r n).filter s.ctxEnabled) s
  dispatch (s.modLoop fun l => { l with owed := upd l.owed r fun _ => some n })

/-- The previous release of the region has been answered. -/
def State.regionIdle (s : State) (r : RegionId) : Bool :=
  (s.loop.owed[r]).isNone && (s.ctxsOf r).all fun c => !(s.loop.rt[c]).released

/-- The sets received up to and with the first that carries RELEASE, and those after it. -/
def splitRelease : List SampleSet → Option (List SampleSet × SampleSet × List SampleSet)
  | [] => none
  | x :: t => if x.release then some ([x], x, t) else (splitRelease t).map fun p => (x :: p.1, p.2)

/-- This die computes the letter's duties: an unpaired region, or a paired or mirror letter of which it holds valid state (R428). -/
def State.computes (s : State) (r : RegionId) : Bool := !(s.isPaired r || s.isMirror r) || (s.pair.regions[r]).held

/-- The sample sets of a period kept for the catch-up of a resynchronisation; one more than 1024 shows that the limit is passed (R428,
R429). A local die that no resynchronisation awaits keeps none and only applies the writes held for this count (R420). -/
def keepSets (r : RegionId) (n : Word32) (sets : List SampleSet) (s : State) : State :=
  let p := s.pair.regions[r]
  if s.isPaired r && !p.wanted && p.resyncAt.isNone then applyCounted (s.boundAt r n) n s
  else s.modPairRegion r fun p => { p with keptSets := (p.keptSets ++ [(n, sets)]).drop (p.keptSets.length + 1 - 1025) }

/-- The oldest kept release run; with the last one the die has caught up, and its duty copy of that period is the first it sends
(R428). -/
def catchUpRelease (r : RegionId) (s : State) : State :=
  match (s.pair.regions[r]).keptSets with
  | [] => s.modPairRegion r fun p => { p with catching := false, held := true }
  | x :: t =>
    let s := releaseRegion r x.1 x.2 (s.modPairRegion r fun p => { p with keptSets := t, catching := !t.isEmpty, held := t.isEmpty })
    if t.isEmpty then s else s.modLoop fun l => { l with owed := upd l.owed r fun _ => none }

/-- CONTEXT_RELEASE: a sample set with RELEASE has been received (R108), or a kept release of a resynchronisation is due (R428). -/
def execContextRelease (r : RegionId) (s : State) : Host.Outcome State Fault Refusal :=
  .next (if !s.leRuns || !s.regionIdle r then s
    else if s.pReach && !s.isMirror r && s.regions[r].phase == .off then s.modLoop fun l => { l with sets := upd l.sets r fun _ => [] }
    else match splitRelease (s.loop.sets[r]) with
    | some p =>
      let t := s.modLoop fun l => { l with sets := upd l.sets r fun _ => p.2.2 }
      settle s (if s.computes r then releaseRegion r p.2.1.count p.1 t else keepSets r p.2.1.count p.1 t)
    | none => if (s.pair.regions[r]).catching then settle s (catchUpRelease r s) else s)

/-! ## The timebase (R111, R112) -/

/-- Unbound contexts, enabled or not, with a release point in slot n. -/
def State.unboundAt (s : State) (n : Word32) : List CtxId :=
  (List.finRange 256).filter fun c => !s.ctxBound c && s.ctxDivider c != 0 && n.toNat % s.ctxDivider c == 0

/-- A release dropped because the previous run has not completed (R112). -/
def dropRelease (c : CtxId) (s : State) : State :=
  let first := !(s.loop.rt[c]).overrunReported
  let s := (stepCtx16 c 32 s).modLoop fun l => { l with tbOverrun := satInc l.tbOverrun }
  let s := if first then raise 120 evCtxTbOverrun 0 0 s else s
  s.modRt c fun x => { x with overrunReported := true }

/-- Tick at which the next timebase slot begins: slot 0 as the C-die leaves reset (R111). -/
def State.nextSlotAt (s : State) : Nat := if s.loop.begun then s.loop.slotAt + 1000 else s.loop.slotAt

/-- A timebase slot begins. -/
def beginSlot (s : State) : State :=
  let n := if s.loop.begun then s.loop.slot + 1 else 0
  let s := s.modLoop fun l => { l with slot := n, slotAt := s.nextSlotAt, begun := true }
  let l := s.unboundAt n
  let s := applyAtRelease (l.filter fun c => !(s.loop.rt[c]).released) s
  dispatch (forList (fun c t => if (t.loop.rt[c]).released then dropRelease c t else releaseCtx n c t)
    ((s.unboundAt n).filter s.ctxEnabled) s)

/-- TIMEBASE_SLOT: every 2000 loop cycles (R111). -/
def execTimebaseSlot (s : State) : Host.Outcome State Fault Refusal :=
  .next (if s.leRuns && decide (s.nextSlotAt ≤ s.now) then settle s (beginSlot s) else s)

/-! ## Heartbeat (R461) -/

/-- LOOP_ENGINE_HEARTBEAT_LOST: no dispatch of a timebase slot has completed for 20 slots. -/
def execLoopEngineHeartbeatLost (s : State) : Host.Outcome State Fault Refusal :=
  .next (if s.leRuns && decide (s.loop.slotAt + 20000 ≤ s.now) then
      settle s ((raiseFull 121 evLeHeartbeat 0 0 (some .cDie) false s).modLoop fun l => { l with slotAt := s.now })
    else s)

/-! ## Samples and chain outputs received (R108, R118) -/

/-- A sample set reaches the Loop Engine: the latest values, and where it belongs to a region's period, its place before the release. -/
def loopSet (x : SampleSet) (s : State) : State :=
  let vals := (maskBits 16 x.mask.toNat).zip x.results
  let s := s.modLoop fun l =>
    { l with adcLatest := if x.kind = 3 then l.adcLatest else vals.foldl (fun v p =>
        let i := 16 * x.bank.val + p.1
        if h : i < 64 then v.set i (p.2, x.owMask.getLsbD p.1) h else v) l.adcLatest }
  if x.regionValid ∧ (x.kind = 0 ∨ x.kind = 3) then s.modLoop fun l => { l with sets := upd l.sets x.region fun q => q ++ [x] } else s

/-- A frame of chain outputs reaches the Loop Engine (R118). -/
def loopChain (f : ChainFrame) (s : State) : State :=
  if f.valid then
    match f.outputs.getLast? with
    | some v => s.modLoop fun l => { l with chainLatest := upd l.chainLatest f.chain fun _ => v }
    | none => s
  else s

end Sys2Proof.Machine
end

