-- ==== Sys2Proof/Machine/Pair.lean ====
section
/-!
DEFINITION. Mirrored control between paired packages (spec/13_mirrored_control.md): duty frames and copies at Confluence, sample
frames, hellos, the referee, resynchronisation, PAIR_SWAP and PAIR_RESYNC (R201 to R204, R411 to R433).
-/
namespace Sys2Proof.Machine

open Sys2Proof

/-! ## Pair frames received (R416, R417) -/

/-- The local mirror letter of the partner's region r (R411). -/
def State.mirrorLetter (s : State) (r : RegionId) : Option RegionId :=
  (List.finRange 8).find? fun m => s.isMirror m && s.mirrorOf m == r

/-- The oldest pair frame, if it is of a type: region, SEQ and body (R416). -/
def State.pairHead (s : State) (type : Nat) : Option (RegionId × Word32 × List Byte) :=
  match s.pair.inbox with
  | [] => none
  | l :: _ =>
    if leAt l 0 1 = type then
      some (⟨leAt l 1 1 % 8, Nat.mod_lt _ (by decide)⟩, BitVec.ofNat 32 (ofBe (bytesAt l 4 4)), l.drop 8)
    else none

/-- The oldest pair frame taken. -/
def popPair (s : State) : State := s.modPair fun p => { p with inbox := p.inbox.drop 1 }

/-- A row that takes a pair frame of its type. -/
def pairRow (type : Nat) (f : RegionId → Word32 → List Byte → State → State) (s : State) : Host.Outcome State Fault Refusal :=
  .next (match s.pairHead type with
    | none => s
    | some x => if s.netRuns then settle s (f x.1 x.2.1 x.2.2 (popPair s)) else s)

/-! ## Duty frames and copies (R201 to R204, R417, R421) -/

/-- A copy of region r at Confluence; one that counts is a valid duty frame for R29 and R30. -/
def confluence (r : RegionId) (seq : Word32) (body : List Byte) (partner : Bool) (s : State) : State :=
  let ok := s.copyDue r seq && (s.pair.regions[r]).counts partner
  let s := receiveCopy r seq body partner s
  if ok then resumeFrames r s else s

/-- A duty frame of the local C-die at its P-die: of a mirror letter it goes to the partner, of a paired region it is a copy, else it is
one commit (R204, R417, R421). A mirror letter whose die has sent 64 copies since its catch-up counts itself SYNCED
(notes/assumptions/47.md). Frames of a region whose carrier does not run are discarded. -/
def dutyFrameReceive (f : DutyFrame) (s : State) : State :=
  let r := f.region
  if s.isMirror r then
    let s := pairSend 2 (s.mirrorOf r) (f.seq + 2) (dutyBody f) s
    let p := s.pair.regions[r]
    if p.resyncAt.isSome ∧ p.held then
      if 63 ≤ p.matching then
        raise 152 evResyncDone (BitVec.ofNat 32 p.rxEpoch.toNat) 0 (s.modPairRegion r fun p =>
          { p with standby := .synced, matching := 0, discarded := 0, resyncAt := none })
      else s.modPairRegion r fun p => { p with matching := p.matching + 1 }
    else s
  else if s.isPaired r then confluence r (f.seq + 2) (dutyBody f) false s
  else if s.carrierRuns r then resumeFrames r (commitFrame f true s)
  else s

/-- DUTY_FRAME_RECEIVE: the oldest duty frame for the region that Millrace has delivered. -/
def execDutyFrameReceive (r : RegionId) (s : State) : Host.Outcome State Fault Refusal :=
  .next (match s.dutyIn.find? fun f => f.region == r with
    | none => s
    | some f => if s.power.pRun then settle s (dutyFrameReceive f { s with dutyIn := s.dutyIn.erase f }) else s)

/-- A partner's duty copy: invalid where its length is not that of its entry count (R417, R421). -/
def dutyCopyReceive (r : RegionId) (seq : Word32) (body : List Byte) (s : State) : State :=
  if !s.isPaired r then s
  else if 24 < leAt body 0 1 ∨ body.length ≠ 4 + 8 * leAt body 0 1 then staleCopy s
  else confluence r seq body true s

/-- DUTY_COPY_RECEIVE. -/
def execDutyCopyReceive (s : State) : Host.Outcome State Fault Refusal := pairRow 2 dutyCopyReceive s

/-! ## Sample frames (R412, R414, R417, R428) -/

/-- The sample sets that bytes spell (R281); `fuel` bounds their number. -/
def parseSets : Nat → List Byte → List SampleSet
  | 0, _ => []
  | k + 1, l =>
    if l.length < 12 then [] else
    let b0 := leAt l 0 1
    let b1 := leAt l 1 1
    let m := ofBe (bytesAt l 2 2)
    let n := popcount 16 m
    { bank := ⟨b0 % 4, Nat.mod_lt _ (by decide)⟩
      kind := BitVec.ofNat 2 (b0 / 4), ovr := b0.testBit 4, latched := b0.testBit 5, release := b0.testBit 6
      region := ⟨b1 % 8, Nat.mod_lt _ (by decide)⟩
      regionValid := b1.testBit 3, mask := BitVec.ofNat 16 m, owMask := BitVec.ofNat 16 (ofBe (bytesAt l 4 2))
      count := BitVec.ofNat 32 (ofBe (bytesAt l 8 4))
      results := (List.range n).map fun i => BitVec.ofNat 16 (ofBe (bytesAt l (12 + 2 * i) 2)) } :: parseSets k (l.drop (12 + 2 * n))

/-- SAMPLE_FRAME_RECEIVE: the mirror contexts of the region are released, or the sets kept for the catch-up (R412, R428). The frame waits
while the letter's previous release is not answered. -/
def execSampleFrameReceive (s : State) : Host.Outcome State Fault Refusal :=
  .next (match s.pairHead 1 with
    | none => s
    | some x =>
      if !s.netRuns then s
      else match s.mirrorLetter x.1 with
      | none => popPair s
      | some m =>
        if s.linkUp && s.leRuns && (s.pair.regions[m]).held && !s.regionIdle m then s
        else
          let t := (popPair s).modPairRegion m fun p => { p with lastFrame := s.now }
          if !(s.linkUp && s.leRuns) then t
          else
            let l := parseSets x.2.2.length x.2.2
            settle s (if s.computes m then releaseRegion m x.2.1 l t else keepSets m x.2.1 l t))

/-! ## Hellos (R417, R418) -/

/-- What a digest says of one region, by its number at its owner, from the local letter that holds it. -/
def State.digestOf (s : State) (num r : RegionId) : List Byte :=
  beBytes 1 num.val ++ beBytes 4 (s.period r) ++
    ((s.ctxsOf r).flatMap fun c => beBytes 1 c.val ++ beBytes 1 (s.ctxTemplate c) ++ beBytes 2 (s.ctxDivider c))

/-- Digest of the local paired regions (R417). -/
def State.ownDigest (s : State) : Word32 :=
  crc32 (((List.finRange 8).filter s.isPaired).flatMap fun r => s.digestOf r r)

/-- Digest that the partner's hello must carry: of the regions that the local mirror letters copy. -/
def State.mirrorDigest (s : State) : Word32 :=
  crc32 ((List.finRange 8).flatMap fun r => match s.mirrorLetter r with | some m => s.digestOf r m | none => [])

/-- Every mirror letter holds valid state and its region is live: the partner's digest can be compared (notes/assumptions/48.md). -/
def State.digestKnown (s : State) : Bool :=
  (List.finRange 8).all fun m => !s.isMirror m || ((s.pair.regions[m]).held && decide (s.now < (s.pair.regions[m]).lastFrame + msTicks 1))

/-- Body of a hello: send time, send time and arrival time of the last hello received, digest (R417; notes/assumptions/48.md). -/
def State.helloBody (s : State) : List Byte :=
  let e := s.pair.echo.getD (0, 0)
  beBytes 8 s.timeNs.toNat ++ beBytes 8 e.1.toNat ++ beBytes 8 e.2.toNat ++ beBytes 4 s.ownDigest.toNat

/-- HELLO_SEND: every 1 ms. -/
def execHelloSend (s : State) : Host.Outcome State Fault Refusal :=
  .next (if s.netRuns && s.rb rPairCfg 0 && s.power.sealed && decide (s.pair.lastHello + msTicks 1 ≤ s.now) then
      (pairSend 3 0 0 s.helloBody s).modPair fun p => { p with lastHello := s.now }
    else s)

/-- PAIR_LAT.LAT: the largest latency over the last second (R433). -/
def State.latency (s : State) : Nat :=
  ((s.pair.lats.filter fun x => decide (s.now ≤ x.1 + sTicks 1)).map Prod.snd).foldl max 0

/-- A latency measured, and the event where it is above the limit, once per second (R418, R432). -/
def measureLatency (lat : Nat) (s : State) : State :=
  let s := s.modPair fun p =>
    { p with lats := p.lats.filter (fun x => decide (s.now ≤ x.1 + sTicks 1) && decide (lat < x.2)) ++ [(s.now, lat)] }
  if s.rf rPairLat 16 16 < s.latency ∧ s.onceSecond s.pair.latEvent then
    (raise 150 evPairLatency 0 0 s).modPair fun p => { p with latEvent := some s.now }
  else s

/-- A resynchronisation asked for in every region whose standby is absent (R427). -/
def wantResync (s : State) : State :=
  forAll (fun r t =>
    let p := t.pair.regions[r]
    if (t.isPaired r && t.carrierRuns r && p.standby == .absent && p.resyncAt.isNone) || (t.isMirror r && p.partnerActive) then
      t.modPairRegion r fun p => { p with wanted := true }
    else t) s

/-- A hello: latency, digest, partner up; a digest that cannot be compared leaves the last verdict (R418; notes/assumptions/48.md). -/
def helloReceive (body : List Byte) (s : State) : State :=
  let now := s.timeNs.toNat
  let sent := ofBe (bytesAt body 0 8)
  let back := ofBe (bytesAt body 8 8)
  let there := ofBe (bytesAt body 16 8)
  let s := s.modPair fun p => { p with echo := some (BitVec.ofNat 64 sent, BitVec.ofNat 64 now) }
  let s := if back = 0 then s
    else measureLatency (clampI 0 0xFFFF (((now : Int) - back - ((sent : Int) - there)) / 5)).toNat s
  let bad := if s.digestKnown then BitVec.ofNat 32 (ofBe (bytesAt body 24 4)) != s.mirrorDigest else s.pair.mismatch
  if bad then
    let s := if s.pair.mismatch then s else stand 150 evPairMismatch (raise 150 evPairMismatch 0 0 s)
    let s := if s.pair.up then raise 150 evPairPartnerDown 0 0 s else s
    s.modPair fun p => { p with mismatch := true, up := false }
  else
    let s := unstand 150 evPairMismatch s
    let was := s.pair.up
    let s := s.modPair fun p => { p with mismatch := false, up := true }
    if was then s else wantResync (raise 150 evPairPartnerUp 0 0 s)

/-- HELLO_RECEIVE. -/
def execHelloReceive (s : State) : Host.Outcome State Fault Refusal := pairRow 3 (fun _ _ b t => helloReceive b t) s

/-- PARTNER_DOWN: no frame from the partner for 10 ms (R418). -/
def execPartnerDown (s : State) : Host.Outcome State Fault Refusal :=
  .next (if s.netRuns && s.pair.up && decide (s.pair.lastRx + msTicks 10 ≤ s.now) then
      settle s (raise 150 evPairPartnerDown 0 0 (s.modPair fun p => { p with up := false }))
    else s)

/-! ## The referee (R424 to R426) -/

/-- A PAIR_RESYNC that waits for region r ends: one of its resynchronisations has failed (R431). -/
def abortResync (r : RegionId) (s : State) : State :=
  match (s.pair.regions[r]).resyncCmd with
  | none => s
  | some k =>
    let s := forAll (fun q t => t.modPairRegion q fun p => if p.resyncCmd = some k then { p with resyncCmd := none } else p) s
    finish k stAbortedFault (BitVec.ofNat 32 (2 ^ r.val)) 0 true s

/-- A control die is taken as failed for region r. The active die with a SYNCED standby is replaced at the next boundary; a
resynchronisation under way ends with the active die; a failed standby becomes absent (R424 to R426, R431). -/
def dieFailed (r : RegionId) (partner : Bool) (s : State) : State :=
  let p := s.pair.regions[r]
  let s := s.modPairRegion r fun p =>
    if partner then { p with partnerFailed := true, mayReturn := true } else { p with localFailed := true, mayReturn := true }
  if p.partnerActive = partner then
    if p.standby = .resync ∨ p.resyncAt.isSome then
      abortResync r (s.modPairRegion r fun p =>
        { p with standby := .absent, resyncAt := none, wanted := false, chunks := [], probation := [], matching := 0, discarded := 0
                 held := !p.partnerActive, catching := false })
    else s
  else if p.standby = .absent then s
  else
    raise 151 evConfStandbyLost (BitVec.ofNat 32 r.val) 0
      (s.modPairRegion r fun p => { p with standby := .absent, probation := [], matching := 0, held := p.held && partner, catching := false })

/-- The referee finds a die failed: no valid copy for two numbers, for the local die a loss of power-good, of the link or die safe, for the
partner's no frame for two periods (R424). -/
def State.refereeFinds (s : State) (r : RegionId) (partner : Bool) : Bool :=
  let p := s.pair.regions[r]
  let source := p.partnerActive == partner || p.standby == .synced
  if partner then
    !p.partnerFailed && ((source && decide (2 ≤ p.missPartner)) || decide (s.pair.lastRx + 2 * (s.period r / 10) ≤ s.now))
  else
    !p.localFailed && ((source && decide (2 ≤ p.missLocal)) || !s.power.powerGood || !s.linkUp || s.power.cSafe.isSome)

/-- CONTROL_DIE_FAILED. -/
def execControlDieFailed (r : RegionId) (partner : Bool) (s : State) : Host.Outcome State Fault Refusal :=
  let p := s.pair.regions[r]
  .next (if s.power.pRun && s.isPaired r && s.carrierRuns r && (p.partnerActive == partner || p.standby != .absent) && s.refereeFinds r partner then
      settle s (dieFailed r partner s)
    else s)

/-- A fault declaration of the partner's C-die: it is failed for the local paired region; a mirror letter that holds valid state takes
over as active (R424, R425; notes/assumptions/47.md). -/
def faultDeclared (r : RegionId) (s : State) : State :=
  let s := if s.isPaired r && s.carrierRuns r && !(s.pair.regions[r]).partnerFailed then dieFailed r true s else s
  match s.mirrorLetter r with
  | some m => s.modPairRegion m fun p => if p.held then { p with partnerActive := true } else p
  | none => s

/-- FAULT_DECLARATION_RECEIVE. -/
def execFaultDeclarationReceive (s : State) : Host.Outcome State Fault Refusal := pairRow 4 (fun r _ _ t => faultDeclared r t) s

/-- Count of the last release of letter r: the snapshot stands after its run. -/
def State.lastCount (s : State) (r : RegionId) : Word32 :=
  match (s.loop.relSets[r]).find? SampleSet.release with
  | some x => x.count
  | none => s.regions[r].bcount

/-- Fault declarations of the local C-die with a cause code, for its paired regions, whose P-die takes it as failed, and for those it mirrors,
whose carrier runs at the owner: there the count is that of the last release (R412, R417, R424). -/
def declareFault (cause : Nat) (s : State) : State :=
  if !s.pReach then s
  else forAll (fun r t =>
    if t.isPaired r then
      let t := pairSend 4 r t.regions[r].bcount (beBytes 1 cause) t
      if t.carrierRuns r && !(t.pair.regions[r]).localFailed then dieFailed r false t else t
    else if t.isMirror r then pairSend 4 (t.mirrorOf r) (t.lastCount r) (beBytes 1 cause) t
    else t) s

/-! ## Parameter frames (R420) -/

/-- A parameter frame held for its apply count (R420, R428). -/
def parameterFrame (r : RegionId) (n : Word32) (body : List Byte) (s : State) : State :=
  match s.mirrorLetter r with
  | none => s
  | some _ =>
    let c : CtxId := ⟨ofBe (bytesAt body 0 2) % 256, Nat.mod_lt _ (by decide)⟩
    let off := ofBe (bytesAt body 2 2)
    let len := ofBe (bytesAt body 4 2)
    if 0x800 < off + len ∨ body.length ≠ 6 + len then s
    else s.modPair fun p => { p with held := p.held ++ [{ ctx := c, apply := n, off := off, data := body.drop 6 }] }

/-- PARAMETER_FRAME_RECEIVE. -/
def execParameterFrameReceive (s : State) : Host.Outcome State Fault Refusal :=
  pairRow 5 (fun r n b t => if t.pReach && t.power.cRun then parameterFrame r n b t else t) s

/-! ## Checkpoints (R427, R428) -/

/-- Contexts whose entries are bound to letter r. -/
def State.entriesOf (s : State) (r : RegionId) : List CtxId := (List.finRange 256).filter fun c => s.ctxRegion c == some r

/-- The local die is the active one of letter r and can take a snapshot between two runs; a mirror letter's die is told by the occurrence itself
that it is (R427; notes/assumptions/47.md). -/
def State.maySnapshot (s : State) (r : RegionId) : Bool :=
  let p := s.pair.regions[r]
  ((s.isPaired r && !p.partnerActive) || s.isMirror r) && p.held && s.leRuns && s.pReach && s.netRuns && s.regionIdle r

/-- The snapshot of letter r sent as chunks and commit in a new epoch (R417, R427; notes/assumptions/49.md). -/
def sendCheckpoint (r : RegionId) (s : State) : State :=
  let e := s.pair.opened + 1
  let owner := if s.isMirror r then s.mirrorOf r else r
  let n := s.lastCount r
  let l := s.entriesOf r
  let blob := l.flatMap fun c => s.ctxBytes c 0 0x800
  let head := beBytes 2 e.toNat
  let chunk (c : CtxId) (half : Nat) (t : State) : State :=
    pairSend 6 owner n (head ++ beBytes 4 (0x800 * c.val + half) ++ s.ctxBytes c half 0x400) t
  let t := forList (fun c t => chunk c 0x400 (chunk c 0 t)) l (s.modPair fun p => { p with opened := e })
  let t := pairSend 7 owner n (head ++ beBytes 4 blob.length ++ beBytes 4 (crc32 blob).toNat) t
  t.modPairRegion r fun p => { p with rxEpoch := e, snapCount := n }

/-- Something may start a resynchronisation of the owner's region r: what this package knows of, the return of a die that had failed, or
a new epoch of one under way; that a mirror letter's die has become the active one, and a partner's return or discarded epoch, come in no
frame and are the row's occurrence (R425, R427, R429; notes/assumptions/47.md). -/
def State.mayResync (s : State) (r : RegionId) : Bool :=
  let p := s.pair.regions[r]
  s.pair.up && decide (p.discarded < 3) &&
    (p.wanted || p.mayReturn || (p.standby == .resync && p.resyncAt.isSome) || s.isMirror r)

/-- RESYNCHRONISATION_START: the active die sends its snapshot in a new epoch, a local die that is standby begins to wait for it
(R427). -/
def execResynchronisationStart (r : RegionId) (s : State) : Host.Outcome State Fault Refusal :=
  let p := s.pair.regions[r]
  let start (t : State) : State :=
    t.modPairRegion r fun p =>
      { p with wanted := false, mayReturn := false, standby := .resync, matching := 0, probation := [], resyncAt := p.resyncAt.or (some s.now) }
  .next (if !s.mayResync r then s
    else if s.isPaired r && s.carrierRuns r && p.partnerActive && (p.wanted || (s.leRuns && s.pReach)) then
      start (s.modPairRegion r fun p => { p with chunks := [], held := false, catching := false })
    else if s.maySnapshot r && (s.isMirror r || s.carrierRuns r) then
      (if s.isMirror r then (sendCheckpoint r s).modPairRegion r fun p => { p with wanted := false, partnerActive := true }
       else start (sendCheckpoint r s))
    else s)

/-- The letter that receives a checkpoint of the owner's region r: the paired region whose active die is the partner's, else the mirror
letter. -/
def State.receiver (s : State) (r : RegionId) : Option RegionId :=
  if s.isPaired r && (s.pair.regions[r]).partnerActive then some r else s.mirrorLetter r

/-- A chunk put among those received, by rising offset; one of the same offset is replaced. -/
def insChunk : List (Nat × List Byte) → Nat → List Byte → List (Nat × List Byte)
  | [], o, d => [(o, d)]
  | x :: t, o, d => if o < x.1 then (o, d) :: x :: t else if o = x.1 then (o, d) :: t else x :: insChunk t o d

/-- An epoch opens at its receiver: what the die held is no longer valid (R428). -/
def PairRegion.openEpoch (p : PairRegion) (e : Word16) (n : Word32) (owner : Bool) (now : Nat) : PairRegion :=
  { p with
    rxEpoch := e, snapCount := n, chunks := [], standby := .resync, held := false, catching := false, matching := 0
    partnerActive := owner, resyncAt := p.resyncAt.or (some now) }

/-- A checkpoint chunk stored apart from the table; the first of an epoch opens it (R428). -/
def checkpointChunk (r : RegionId) (n : Word32) (body : List Byte) (s : State) : State :=
  match s.receiver r with
  | none => s
  | some m =>
    let e := BitVec.ofNat 16 (ofBe (bytesAt body 0 2))
    s.modPairRegion m fun p =>
      let p := if p.rxEpoch = e ∧ !p.chunks.isEmpty then p else p.openEpoch e n (s.isPaired m) s.now
      { p with chunks := insChunk p.chunks (ofBe (bytesAt body 2 4)) (body.drop 6) }

/-- CHECKPOINT_CHUNK_RECEIVE. -/
def execCheckpointChunkReceive (s : State) : Host.Outcome State Fault Refusal :=
  pairRow 6 (fun r n b t => if t.pReach && t.leRuns then checkpointChunk r n b t else t) s

/-- Count n is after the snapshot's. -/
def afterSnap (n snap : Word32) : Bool := decide (0 < (n - snap).toNat) && decide ((n - snap).toNat < 2 ^ 31)

/-- One entry of a checked checkpoint written into the table: REGION names the letter, the ASN words stay those of this package's journal
(R364, R413, R428; notes/assumptions/49.md). -/
def restoreEntry (m : RegionId) (c : CtxId) (data : List Byte) (s : State) : State :=
  let w := s.ctxWords c
  let s := s.modLoop fun l => { l with cache := l.cache.filter fun e => e.ctx ≠ c }
  let s := storeCtxWords c w (s.write 0x00 (ctxAddr c) (data.take 2 ++ leBytes 1 m.val ++ data.drop 3))
  let s := (setResident c false s).modRt c fun _ => { seen := s.loop.switched.toList }
  if s.ctxEnabled c && s.ctxPin c then loadRoom c s else s

/-- The entries of a checkpoint in the table of letter m (R428). -/
def restoreEntries (m : RegionId) (l : List (CtxId × List Byte)) (s : State) : State :=
  forList (fun x t => restoreEntry m x.1 x.2 t) l
    (s.modLoop fun y => { y with cache := y.cache.filter fun e => !l.any fun x => x.1 == e.ctx })

/-- The table with restored entries: the letter's lanes admit its enabled contexts, and no more than 96 are pinned (R123, R174, R412,
R413; notes/assumptions/142.md). -/
def State.holdsRestored (s : State) (m : RegionId) : Bool :=
  (s.admissible m || !s.enabledCtxs.any fun c => s.ctxRegion c == some m) && decide (s.pinnedCtxs.length ≤ 96)

/-- A checkpoint commit: checked, the entries written, held writes that the snapshot contains dropped, the catch-up begun; the commit of a
checkpoint without entries opens its epoch (R428, R429). -/
def checkpointCommit (r : RegionId) (n : Word32) (body : List Byte) (s : State) : State :=
  match s.receiver r with
  | none => s
  | some m =>
    let e := BitVec.ofNat 16 (ofBe (bytesAt body 0 2))
    let s := s.modPairRegion m fun p =>
      if p.rxEpoch ≠ e ∧ ofBe (bytesAt body 2 4) = 0 then p.openEpoch e n (s.isPaired m) s.now else p
    let p := s.pair.regions[m]
    let blob := p.chunks.flatMap Prod.snd
    let part (c : CtxId) : List Byte := (p.chunks.filter fun x => x.1 / 0x800 == c.val).flatMap Prod.snd
    let kept := p.keptSets.filter fun x => afterSnap x.1 n
    let l := (List.finRange 256).filter fun c => (part c).length == 0x800
    let t := restoreEntries m (l.map fun c => (c, part c)) s
    if p.rxEpoch ≠ e ∨ blob.length ≠ ofBe (bytesAt body 2 4) ∨ crc32 blob ≠ BitVec.ofNat 32 (ofBe (bytesAt body 6 4)) ∨
        kept.any (fun x => decide (1024 < (x.1 - n).toNat)) ∨ !t.holdsRestored m then
      discardEpoch m s
    else
      let s := t
      let old := s.pair.held.filter fun h => l.contains h.ctx && !afterSnap h.apply n
      let s := s.modPair fun x => { x with held := x.held.filter fun h => !old.contains h, epoch := e, opened := e }
      let s := forList (fun (h : ParamHeld) t => match h.slot with | some k => finishOk k 0 t | none => t) old s
      s.modPairRegion m fun p =>
        { p with chunks := [], keptSets := kept, catching := !kept.isEmpty, held := kept.isEmpty, matching := 0, probation := [] }

/-- CHECKPOINT_COMMIT_RECEIVE. -/
def execCheckpointCommitReceive (s : State) : Host.Outcome State Fault Refusal :=
  pairRow 7 (fun r n b t => if t.pReach && t.leRuns then checkpointCommit r n b t else t) s

/-- RESYNCHRONISATION_FAILED: three epochs discarded, or 250 ms without SYNCED; the receiver stays absent (R429, R431). -/
def execResynchronisationFailed (r : RegionId) (s : State) : Host.Outcome State Fault Refusal :=
  let p := s.pair.regions[r]
  .next (match p.resyncAt with
    | none => s
    | some t =>
      if decide (p.discarded < 3) && decide (s.now < t + msTicks 250) then s
      else
        let own := s.isMirror r || p.partnerActive
        settle s (abortResync r (raise 152 evResyncFailed (BitVec.ofNat 32 r.val) 0 (s.modPairRegion r fun p =>
          { p with standby := .absent, wanted := false, resyncAt := none, discarded := 0, matching := 0, chunks := [], probation := []
                   keptSets := [], held := p.held && !own, catching := false }))))

/-! ## Commands (R430, R431) -/

/-- PAIR_SWAP. -/
def execPairSwap (slot : Slot) (s : State) : Host.Outcome State Fault Refusal := immediate slot 0x40 (doPairSwap slot) s

/-- PAIR_RESYNC as it is applied: its checks, then a resynchronisation of each region named (R431). -/
def doPairResync (k : Slot) (s : State) : State :=
  let l := maskRegions (dByte (s.desc k) 16)
  if !s.pair.up || l.any (fun r => !s.isPaired r || (s.pair.regions[r]).resyncAt.isSome) then finishFail k stState 0 s
  else if l.isEmpty then finishOk k (s.pair.epoch.setWidth 64) s
  else applying k (forList (fun r t => t.modPairRegion r fun p =>
    { p with wanted := true, resyncAt := some s.now, resyncCmd := some k, discarded := 0
             standby := if p.standby = .synced then .resync else p.standby, held := p.held && !p.partnerActive }) l s)

/-- PAIR_RESYNC. -/
def execPairResync (slot : Slot) (s : State) : Host.Outcome State Fault Refusal := immediate slot 0x41 (doPairResync slot) s

end Sys2Proof.Machine
end

