-- ==== Sys2Proof/Machine/Events.lean ====
section
/-!
DEFINITION. The event system (spec/14_faults_and_events.md): collection and event records (R437, R438, R342), recovery and FAULT_CLEAR
(R445 to R449), shadow windows (R450), force bits (R458, R459), check-bit injection (R457).
-/
namespace Sys2Proof.Machine

open Sys2Proof

/-! ## Collection and records (R342, R437, R438) -/

/-- The CQ of event records (R342). -/
def State.evtCq (s : State) : CqId := ⟨s.rf rSysEvtRoute 0 3, by simp only [State.rf, fld]; exact Nat.mod_lt _ (by decide)⟩

/-- The record of a collected event, which took the given sequence number, in index i of its CQ (R437). -/
def State.recordBytes (s : State) (e : Event) (seq i : Word32) : List Byte :=
  let react := if e.consequential then Reaction.none else s.reactionFor e
  leBytes 2 e.source.val ++ leBytes 1 (e.sev.code + 4 * b2n e.consequential + 8 * b2n e.forced) ++
    leBytes 1 (react.rank + 8 * b2n (e.fixed && react != .none)) ++ leBytes 4 seq.toNat ++ leBytes 2 e.code.toNat ++
    ringField 0 true (s.cqPhase s.evtCq i) ++ leBytes 4 e.detail.toNat ++ leBytes 8 e.time.toNat ++ leBytes 4 e.arg.toNat ++
    leBytes 1 e.cause.toNat ++ leBytes 1 (s.events.src[e.source]).recovCnt.toNat ++ leBytes 2 0

/-- A record that finds no slot is dropped and counted; the event of the ring engine once until the count has stayed unchanged for 1 s
(R342, R355). -/
def dropRecord (s : State) : State :=
  let tell := !s.rings.dropReported || decide (s.rings.lastDrop + sTicks 1 ≤ s.now)
  let s := s.modRings fun r => { r with dropCnt := satInc r.dropCnt, dropReported := true, lastDrop := s.now }
  if tell then raise 136 evRingRecordsDropped 0 0 s else s

/-- The record of an event, if it is to have one and its severity is recorded (R342, R462). -/
def recordEvent (e : Event) (seq : Word32) (s : State) : State :=
  if !e.recorded ∨ e.sev.code < s.rf (rEvtCfg e.source) 4 2 then s
  else
    let m := s.evtCq
    if s.cqRoom m then
      let i := s.rings.cq[m].nextIdx
      writeCq m i (s.recordBytes e seq i) (decide (2 ≤ e.sev.code)) (s.modCq m fun c => { c with nextIdx := i + 1 })
    else dropRecord s

/-- An uncorrectable error that the C-die has found in what it keeps: package memory, the journal or a cached entry (R417;
notes/assumptions/47.md). -/
def Event.ownError (e : Event) : Bool :=
  !e.forced && ((e.source == 160 && e.code == evMemUncorrectable.code) || (e.source == 161 && e.code == evJrnlLost.code) ||
    (e.source == 122 && e.code == evCacheUncorrectable.code))

/-- An event collected: its sequence number, its fault state and reaction unless the P-die has applied them, the trigger units that watch
its source where it is the C-die's and the link carries it to them (R305), its record: records must have been written at its raising and be
written still (R342, R438, R444). A C-die that enters die safe or has found an uncorrectable error declares its fault to the partner
(R417). -/
def collect (e : Event) (s : State) : State :=
  let n := s.events.seq
  let was := s.power.cSafe
  let e := { e with recorded := e.recorded && s.recordsRun }
  let s := s.modEvents fun v => { v with seq := n + 1 }
  let s := if e.applied then s else applyEvent e s
  let s := if (was.isNone && s.power.cSafe.isSome) || e.ownError then declareFault e.source.val s else s
  recordEvent e n (if srcDie e.source = .c ∧ s.pReach then trgWaiting (trgEvent e.source e.sev s) else s)

/-- EVENT_COLLECT: fires that P-die events have brought are made known (R309), and the C-die collects the oldest event raised (R438). -/
def execEventCollect (s : State) : Host.Outcome State Fault Refusal :=
  let s := if s.power.pRun then trgWaiting s else s
  .next (match s.events.raised with
    | [] => s
    | e :: t => if s.power.cRun then settle s (collect e (s.modEvents fun v => { v with raised := t })) else s)

/-- What the P-die has raised and the C-die not collected goes into the P-die's buffer with its reaction applied (R438). -/
def bufferEvents (s : State) : State :=
  let l := s.events.raised.filter fun e => srcDie e.source == .p
  let s := s.modEvents fun v => { v with raised := v.raised.filter fun e => srcDie e.source != .p }
  forList (fun (e : Event) t =>
    let t := if e.applied then t else applyEvent e t
    t.modEvents fun v =>
      if v.pbuf.length < 256 then { v with pbuf := v.pbuf ++ [{ e with applied := true }] }
      else { v with pbufLost := satInc v.pbufLost, pbufLostNew := v.pbufLostNew + 1 }) l s

/-- The buffered events are delivered in order and come under R342 now; a loss is reported (R342, R438). -/
def deliverEvents (s : State) : State :=
  let n := s.events.pbufLostNew
  let s := s.modEvents fun v =>
    { v with raised := v.raised ++ v.pbuf.map (fun e => { e with recorded := s.recordsRun }), pbuf := [], pbufLostNew := 0 }
  if n = 0 then s else raise 136 evRingPLost (BitVec.ofNat 32 n) 0 s

/-! ## Recovery (R445, R446, R449) -/

/-- The fault state of source k is auto-recovering (R445, R446). -/
def Source.recovers (f : Source) : Bool := f.state == .fault && decide (f.reaction.rank ≤ Reaction.regionInhibit.rank)

/-- Start of a source's quiet period, but for the events of this tick, which come after a recovery in it (R445, R449). -/
def Source.quietSince (f : Source) (now : Nat) : Nat := if f.quietAt = now then f.quietWas else f.quietAt

/-- A forced event of the source falls in this tick, whether or not it has been collected. -/
def State.forcedNow (s : State) (k : SourceId) : Bool :=
  let t := if srcDie k = .p then s.timeNs else s.cTimeNs
  (s.events.fresh.any fun x => x.1 == s.now && x.2.source == k && x.2.forced) ||
    s.events.raised.any fun e => e.source == k && e.time == t && e.forced

/-- The source's condition is present, but for what has begun in this tick, which comes after a clear or recovery in it (R444,
R449). -/
def State.conditionBefore (s : State) (k : SourceId) : Bool :=
  let f := s.events.src[k]
  (f.force && !s.forcedNow k) || (!f.standing.isEmpty && decide (f.stoodAt < s.now)) ||
    (if h : 72 ≤ k.val ∧ k.val < 80 then
      let r : RegionId := ⟨k.val - 72, by omega⟩
      s.latchTripPresent r && decide (s.regions[r].latchAt < s.now)
    else false)

/-- FAULT_RECOVERED: the quiet period has passed with the condition absent; events of this tick re-enter the fault state (R445, R449). -/
def execFaultRecovered (k : SourceId) (s : State) : Host.Outcome State Fault Refusal :=
  let f := s.events.src[k]
  .next (if f.recovers && !s.conditionBefore k && decide (f.quietSince s.now + msTicks (s.rf (rEvtRecov k) 0 16) ≤ s.now) then
      settle s (reenter k (raise k evRecovered 0 0 (s.modSrc k fun f =>
        { f with
          state := .clear, reaction := .none, recovCnt := satInc f.recovCnt
          recovered := s.now :: f.recovered.filter fun t => decide (s.now ≤ t + sTicks (s.rf (rEvtRecov k) 20 12)) })))
    else s)

/-- SHADOW_WINDOW_END: the windows of the object whose time has passed are closed (R450). -/
def execShadowWindowEnd (w : ShadowObj) (s : State) : Host.Outcome State Fault Refusal :=
  .next (s.modEvents fun v => { v with shadows := v.shadows.filter fun x =>
    !(x.obj == w && (match x.ends with | some t => decide (t ≤ s.now) | none => false)) })

/-! ## FAULT_CLEAR (R447, R448) -/

/-- What FAULT_CLEAR also does for a region source whose condition is absent: latching trips whose sources are deasserted are released, the
latch at the trip limit ends, TRIP_CNT returns to 0 (R224, R227, R448). -/
def clearRegionTrips (r : RegionId) (s : State) : State :=
  let s := s.modRegion r fun g => { g with tripCnt := 0, tripLatch := false }
  forAll (fun u t =>
    if t.regionOf (islandOf u) = some r then
      t.modUnit u fun x =>
        { x with tripLatch := BitVec.ofNat 16 (((List.finRange 16).filter fun n => x.tripLatch.getLsbD n.val && t.tripActive[n]).foldl
            (fun a n => a + 2 ^ n.val) 0) }
    else t) s

/-- The contactors taken as welded by sequencers of the source are taken so no longer (R91). -/
def clearWelds (k : SourceId) (s : State) : State :=
  forAll (fun c t =>
    if t.ctxTemplate c = 0x0D ∧ srcCtx (t.ctxRegion c) = k ∧ ((t.loop.rt[c]).seqr).weld then
      t.modRt c fun x => { x with seqr := { x.seqr with weld := false } }
    else t) s

/-- FAULT_CLEAR of one source whose condition is absent; its events of this tick re-enter the fault state (R448, R449). -/
def clearSource (k : SourceId) (s : State) : State :=
  let was := s.events.src[k].state
  let s := s.modSrc k fun f => { f with state := .clear, reaction := .none, recovCnt := 0, recovered := [] }
  let s := if h : 72 ≤ k.val ∧ k.val < 80 then clearRegionTrips ⟨k.val - 72, by omega⟩ s else s
  let s := if 112 ≤ k.val ∧ k.val ≤ 120 then clearWelds k s else s
  reenter k (if was = .clear then s else raise k evCleared 0 0 s)

/-- Sources that FAULT_CLEAR of all names. -/
def allSources : List SourceId := (List.finRange 192).filter fun k => !reservedSource k.val

/-- FAULT_CLEAR as it is applied (R448). -/
def doFaultClear (k : Slot) (s : State) : State :=
  let n := leAt (s.desc k) 16 2
  if n = 0xFFFF then
    let refused := allSources.filter s.conditionBefore
    let named := allSources.filter fun j => !s.conditionBefore j
    let cleared := named.filter fun j => s.events.src[j].state != .clear
    finishOk k (BitVec.ofNat 64 (cleared.length + 65536 * refused.length)) (forList clearSource named s)
  else if h : n < 192 then
    if reservedSource n then finishFail k stRange 16 s
    else if s.conditionBefore ⟨n, h⟩ then finishFail k stState (BitVec.ofNat 32 n) s
    else
      let was := s.events.src[(⟨n, h⟩ : SourceId)].state
      finishOk k (BitVec.ofNat 64 (b2n (was != .clear))) (clearSource ⟨n, h⟩ s)
  else finishFail k stRange 16 s

/-- FAULT_CLEAR. -/
def execFaultClear (slot : Slot) (s : State) : Host.Outcome State Fault Refusal := immediate slot 0x50 (doFaultClear slot) s

/-! ## Forcing (R458, R459) -/

/-- A force bit given a value: setting it raises the forced event once, clearing it ends the condition (R458). -/
def setForce (k : SourceId) (on : Bool) (s : State) : State :=
  if reservedSource k.val then s
  else if on then
    if s.events.src[k].force then s
    else raiseFull k (forcedEvent k) 0 0 none true (s.modSrc k fun f => { f with force := true })
  else unforce k s

/-- The region of a source, for EVENT_FORCE in RUN (R459). -/
def State.srcRegionOf (s : State) (k : SourceId) : Option RegionId :=
  match srcObj k with
  | .unit u => s.regionOf (islandOf u)
  | .island i => s.regionOf i
  | .region r => some r
  | .none => none

/-- A source may be forced: in SERVICE, or in RUN with INJ set and its region in TEST (R459). -/
def State.mayForce (s : State) (k : SourceId) : Bool :=
  s.power.dev == .service ||
    (s.power.dev == .run && s.rb (rEvtCfg k) 6 &&
      (match s.srcRegionOf k with | some r => s.regions[r].phase == .test | none => false))

/-- EVENT_FORCE as it is applied: STATE before RANGE (R339, R458, R459); a number that is no source can be forced in no state but SERVICE. -/
def doEventForce (k : Slot) (s : State) : State :=
  let d := s.desc k
  let n := leAt d 16 2
  if h : n < 192 then
    if !s.mayForce ⟨n, h⟩ then finishFail k stState 0 s
    else if reservedSource n then finishFail k stRange 16 s
    else finishOk k 0 (setForce ⟨n, h⟩ ((dByte d 18).testBit 0) s)
  else if s.power.dev = .service then finishFail k stRange 16 s
  else finishFail k stState 0 s

/-- EVENT_FORCE. -/
def execEventForce (slot : Slot) (s : State) : Host.Outcome State Fault Refusal := immediate slot 0x51 (doEventForce slot) s

/-- EVT_FORCE_w as it reads. -/
def State.forceWord (s : State) (w : Fin 6) : Word32 :=
  BitVec.ofNat 32 (((List.finRange 192).filter fun k => k.val / 32 == w.val && s.events.src[k].force).foldl (fun a k => a + 2 ^ (k.val % 32)) 0)

/-- A write to EVT_FORCE_w: before the Seal each bit is taken; after it nothing changes but the event of R7 (R458, R459). -/
def writeForce (w : Fin 6) (v : Word32) (s : State) : State :=
  let l := (List.finRange 192).filter fun k => k.val / 32 == w.val && !reservedSource k.val
  if s.power.sealed then
    (if l.any fun k => v.getLsbD (k.val % 32) != s.events.src[k].force then rwsWritten s else s)
  else forList (fun k t => setForce k (v.getLsbD (k.val % 32)) t) l s

/-- EVT_FORCE_WRITE. -/
def execEvtForceWrite (w : Fin 6) (v : Word32) (s : State) : Host.Outcome State Fault Refusal :=
  .next (hostWord .c (0x4C40 + 4 * w.val) v (writeForce w v) s)

/-! ## Injection (R457) -/

/-- Injection is possible: SETUP and SERVICE. -/
def State.mayInject (s : State) : Bool := s.power.dev == .setup || s.power.dev == .service

/-- A write to EVT_INJ_CTRL: its RW fields in SETUP and SERVICE, COUNT limited to its target's range; ARM arms one injection there and is
refused elsewhere (R457, R463). -/
def writeInjCtrl (v : Word32) (s : State) : State :=
  if s.mayInject then
    let top := if fld v 0 2 = 2 then 5 else 4
    let s := keepWord rEvtInjCtrl (setFld (v &&& 0xFF) 2 3 (min top (fld v 2 3))) s
    if bitAt v 8 && fld v 0 2 != 3 then s.modEvents fun e => { e with inj := { e.inj with armed := true } } else s
  else if bitAt v 8 then s.modEvents fun e => { e with inj := { e.inj with refused := true } }
  else s

/-- A write to EVT_INJ_ADDR (R463). -/
def writeInjAddr (v : Word32) (s : State) : State := if s.mayInject then keepWord rEvtInjAddr v s else s

/-- ARM: a write to EVT_INJ_CTRL. -/
def execArm (v : Word32) (s : State) : Host.Outcome State Fault Refusal := .next (hostWord .c rEvtInjCtrl v (writeInjCtrl v) s)

/-- INJECTION_APPLY: the next frame of a virtual channel, the oldest of it on the wire, is sent COUNT times with inverted CRC. A line of package
memory or of the journal takes its injection in the write to it (R457). -/
def execInjectionApply (s : State) : Host.Outcome State Fault Refusal :=
  let w := s.reg rEvtInjCtrl
  let n := fld w 2 3
  let d : Die := if bitAt w 7 then .c else .p
  .next (if !s.injects 2 then s
    else
      match (s.mr d).wire.find? fun f => f.vc.val == fld w 5 2 with
      | some f =>
        let mark (l : List MrFrame) (n : Nat) : List MrFrame := l.map fun g => if g.seq = f.seq then { g with invert := n } else g
        (injected s).modMr d fun m => { m with wire := mark m.wire n, sent := mark m.sent (n - 1) }
      | none => s)

end Sys2Proof.Machine
end

