-- ==== Sys2Proof/Machine/Arb.lean ====
section
/-!
DEFINITION. The memory arbiter and the Weir locks (spec/16_arbiter_and_weirs.md).
-/
namespace Sys2Proof.Machine

open Sys2Proof

/-! ## Settings (R498, R505) -/

/-- The settings may become active: the order is a permutation, LE_RSV and BURST_MAX lie in their ranges (R505). -/
def ArbCfg.valid (c : ArbCfg) : Bool :=
  ((List.range 5).all fun n => c.order.toList.any fun x => x.toNat == n) && decide (c.leRsv.toNat ≤ 4) &&
    decide (1 ≤ c.burstMax.toNat) && decide (c.burstMax.toNat ≤ 32)

/-- A write to ARB_ORDER_SH: one index per requester (R516). -/
def writeArbOrder (v : Word32) (s : State) : State :=
  s.modArb fun a => { a with shadow := { a.shadow with order := Vector.ofFn fun i : Fin 5 => BitVec.ofNat 3 (fld v (4 * i.val) 3) } }

/-- A write to ARB_CFG_SH (R516). -/
def writeArbCfg (v : Word32) (s : State) : State :=
  s.modArb fun a => { a with shadow := { a.shadow with leRsv := BitVec.ofNat 3 (fld v 0 3), burstMax := BitVec.ofNat 6 (fld v 8 6) } }

/-- A commit that is refused (R505, R515). -/
def refuseCommit (s : State) : State :=
  raise 164 evArbCommitRefused 0 0 (s.modArb fun a => { a with commitErr := true, commitPending := false })

/-- A write to ARB_COMMIT: GO asks for the copy at the next frame boundary, or is refused (R505). -/
def writeArbCommit (v : Word32) (s : State) : State :=
  if !bitAt v 0 then s
  else if s.arb.shadow.valid then s.modArb fun a => { a with commitPending := true }
  else refuseCommit s

/-- ARB_COMMIT. -/
def execArbCommit (v : Word32) (s : State) : Host.Outcome State Fault Refusal := .next (hostWord .c 0x80008 v (writeArbCommit v) s)

/-- Number of the memory slot of this tick, counted from time zero: 21 slots in 32 ticks, of which one at most begins in a tick (R494;
notes/assumptions/78.md). -/
def State.memSlot (s : State) : Nat := s.now * 21 / 32

/-- ARB_COMMIT_APPLY: as a frame begins both shadows become active, if they are still valid; PTR, back-offs and a burst that holds the grant
stay (R505). -/
def execArbCommitApply (s : State) : Host.Outcome State Fault Refusal :=
  .next (if !(s.arb.commitPending && s.power.cRun && s.memSlot % 16 == 0) then s
    else if s.arb.shadow.valid then s.modArb fun a => { a with active := a.shadow, commitPending := false }
    else settle s (refuseCommit s))

/-! ## Arbitration (R499 to R501) -/

/-- Back-offs after one more arbitrated slot. -/
def Arb.countDown (a : Arb) : Arb := { a with backoff := a.backoff.map (· - 1) }

/-- The requester with a given index that requests. -/
def Arb.asks (a : Arb) (req : List (Fin 5)) (n : Nat) : Option (Fin 5) := req.find? fun i => (a.active.order[i]).toNat == n

/-- The winner among those that request: the one at PTR, else that of the lowest index (R499). -/
def Arb.winner (a : Arb) (req : List (Fin 5)) : Option (Fin 5) := (a.asks req a.ptr).or ((List.range 8).findSome? (a.asks req))

/-- The requesters of a slot: those that request and are not in back-off (R501). -/
def Arb.requesters (a : Arb) (requests : BitVec 5) : List (Fin 5) :=
  (List.finRange 5).filter fun i => bitAt requests i.val && a.backoff[i] == 0

/-- An arbitrated slot with no burst: winner, PTR, losers' back-off (R499 to R501). Back-offs of those that sit the slot out count down. -/
def Arb.arbitrate (a : Arb) (requests : BitVec 5) (now : Nat) : Arb :=
  let req := a.requesters requests
  let a := a.countDown
  match a.winner req with
  | none => a
  | some w =>
    let n := a.active.burstMax.toNat
    { a with
      ptr := ((a.active.order[w]).toNat + 1) % 5
      losses := Vector.ofFn fun i : Fin 5 => if i = w then 0 else if req.contains i then a.losses[i] + 1 else a.losses[i]
      backoff := Vector.ofFn fun i : Fin 5 => if i ≠ w ∧ req.contains i then min 64 (2 ^ a.losses[i]) else a.backoff[i]
      grant := some (w, n - 1)
      progressAt := now }

/-- An arbitrated slot that a burst with n lines left holds: it moves a line (R500). -/
def Arb.burst (a : Arb) (w : Fin 5) (n now : Nat) : Arb := { a.countDown with grant := some (w, n - 1), progressAt := now }

/-- The requester whose burst holds the slot: it has lines left and requests; after its last line a grant stands only until the next arbitrated
slot (R500). -/
def Arb.holder (a : Arb) (q : BitVec 5) : Option (Fin 5 × Nat) := a.grant.filter fun g => decide (0 < g.2) && bitAt q g.1.val

/-- A slot of the frame belongs to the capture writer (R494). -/
def captureSlot (slot : Fin 16) : Bool := slot.val % 4 == 0

/-- A slot of the frame is reserved for Loop Engine prefetch and write-back: the first LE_RSV of 2, 6, 10, 14 (R494). -/
def ArbCfg.prefetchSlot (c : ArbCfg) (slot : Fin 16) : Bool := slot.val % 4 == 2 && decide (slot.val / 4 < c.leRsv.toNat)

/-- A slot goes to the arbiter: no capture slot, no reserved slot that prefetch uses (R494, R496). -/
def ArbCfg.arbitrated (c : ArbCfg) (slot : Fin 16) (prefetch : Bool) : Bool := !captureSlot slot && !(c.prefetchSlot slot && prefetch)

/-- A requester has traffic to move: descriptor copies, prefetches beyond the reserve and state words to be written back, frames, data of
commands and the table image, the patrol (R498). -/
def State.hasTraffic (s : State) (i : Fin 5) : Bool :=
  match i with
  | 0 => !s.rings.unacked.isEmpty
  | 1 => s.loop.cache.any (fun e => !e.overlay.isEmpty) || (List.finRange 256).any fun c => (s.loop.rt[c]).prefetching && (s.loop.rt[c]).beyond
  | 2 => !s.net.rxHeld.isEmpty || (List.finRange 2).any (fun p => !(s.net.ports[p]).hostQ.isEmpty) || s.rings.journal.any (fun e => e.opcode == 0x20 && e.state == .accepted)
  | 3 => s.loop.imageLoading || s.rings.journal.any fun e => e.state == .accepted && (e.opcode == 0x01 || e.opcode == 0x02 || e.opcode == 0x11)
  | 4 => true

/-- The requests of a slot: of those that the row names, the ones with traffic (R498). -/
def State.requestsOf (s : State) (requests : BitVec 5) : BitVec 5 :=
  BitVec.ofNat 5 (((List.finRange 5).filter fun i => bitAt requests i.val && s.hasTraffic i).foldl (fun a i => a + 2 ^ i.val) 0)

/-- The frame stands at a slot that has not been arbitrated, and neither refresh nor a debug access, which takes it at the line boundary, has
the memory (R494, R495, R503). -/
def State.slotOpen (s : State) (slot : Fin 16) : Bool :=
  s.power.cRun && s.memSlot % 16 == slot.val && s.arb.slotDone != some s.memSlot && !s.refreshing && s.dbgBlock.busy.isNone

/-- The requester that moves a line in an arbitrated slot: the winner or the one whose burst goes on. -/
def Arb.mover (a : Arb) (q : BitVec 5) : Option (Fin 5) :=
  match a.holder q with
  | some g => some g.1
  | none => a.winner (a.requesters q)

/-- ARBITER_GRANT: a slot of the frame, whether prefetch moves a line in it where it is reserved, and the requests that stand in it. A burst
holds the arbitrated slots while its requester has lines to move (R494, R499, R500). No slot is arbitrated while a refresh or a debug access
takes the memory (R503); a line of requester LE counts for its prefetches (R497). -/
def execArbiterGrant (slot : Fin 16) (prefetch : Bool) (requests : BitVec 5) (s : State) : Host.Outcome State Fault Refusal :=
  .next (if !s.slotOpen slot || !s.arb.active.arbitrated slot (prefetch && decide (0 < s.inFlight)) then s
    else
      let q := s.requestsOf requests
      let le := if s.arb.mover q = some 1 && s.beyondInFlight then s.arb.leLines + 1 else s.arb.leLines
      s.modArb fun a =>
        let b := match a.holder q with
          | some g => a.burst g.1 g.2 s.now
          | none => ({ a with grant := none }).arbitrate q s.now
        { b with slotDone := some s.memSlot, leLines := le })

/-- REFRESH: in each 3.9 µs refresh takes the whole memory for at most 150 ns (R495). -/
def execRefresh (s : State) : Host.Outcome State Fault Refusal :=
  let due := match s.arb.refreshAt with | some t => decide (t + 1560 ≤ s.now) | none => true
  .next (if due && s.power.cRun then s.modArb fun a => { a with refreshAt := some s.now } else s)

/-! ## Weirs (R506 to R514) -/

/-- The Weirs an owner holds. -/
def State.weirsOf (s : State) (o : OwnerId) : List WeirId := (List.finRange 32).filter fun n => s.weirs[n].owner == some o

/-- The SQ of a slot's entry as a Weir owner. -/
def State.ownerOf (s : State) (k : Slot) : OwnerId := match s.entry k with | some e => ⟨e.sq.val, by omega⟩ | none => 0

/-- RESULT of a grant (R344): the Weir, its generation, SUSPECT. -/
def grantResult (n : WeirId) (w : Weir) : Word64 := BitVec.ofNat 64 (n.val + 2 ^ 8 * (w.gen.toNat + 16 * b2n w.suspect))

/-- A grant: the owner, the next generation; an SQ's command completes (R345, R352, R508). -/
def grantWeir (n : WeirId) (o : OwnerId) (cmd : Option Slot) (s : State) : State :=
  let s := s.modWeir n fun w => { w with owner := some o, gen := w.gen + 1 }
  match cmd with
  | some k => finishOk k (grantResult n s.weirs[n]) s
  | none => s

/-- A Weir released, with its SUSPECT flag as given: it passes to the first waiter (R508, R513). -/
def passWeir (n : WeirId) (suspect : Bool) (s : State) : State :=
  match s.weirs[n].waiters with
  | [] => s.modWeir n fun w => { w with owner := none, suspect := suspect }
  | x :: t => grantWeir n x.1 x.2.1 (s.modWeir n fun w => { w with owner := none, suspect := suspect, waiters := t })

/-- A waiter put behind those that began before it; in one tick the lower owner code comes first (R508). -/
def insWaiter (x : OwnerId × Option Slot × Nat) : List (OwnerId × Option Slot × Nat) → List (OwnerId × Option Slot × Nat)
  | [] => [x]
  | y :: t => if y.2.2 = x.2.2 ∧ x.1 < y.1 then x :: y :: t else y :: insWaiter x t

/-- WEIR_ACQUIRE as it is applied: its checks, then the grant or the wait (R345, R507, R508). -/
def doWeirAcquire (k : Slot) (s : State) : State :=
  let b := dByte (s.desc k) 16
  if h : b < 32 then
    let n : WeirId := ⟨b, h⟩
    let o := s.ownerOf k
    if (s.weirsOf o).any fun m => decide (n ≤ m) then finishFail k stRank 0 s
    else if s.weirs[n].owner.isNone then grantWeir n o (some k) s
    else
      (modWork k (fun w => { w with kind := .applying }) s).modWeir n fun w =>
        { w with waiters := insWaiter (o, some k, s.now) w.waiters }
  else finishFail k stRange 16 s

/-- WEIR_ACQUIRE. -/
def execWeirAcquire (slot : Slot) (s : State) : Host.Outcome State Fault Refusal := immediate slot 0x30 (doWeirAcquire slot) s

/-- WEIR_RELEASE as it is applied (R345, R353, R513). -/
def doWeirRelease (k : Slot) (s : State) : State :=
  let d := s.desc k
  let b := dByte d 16
  if h : b < 32 then
    let n : WeirId := ⟨b, h⟩
    let w := s.weirs[n]
    if w.owner = some (s.ownerOf k) ∧ w.gen.toNat = dByte d 17 % 16 then
      passWeir n (w.suspect && !(dByte d 17).testBit 4) (finishOk k 0 s)
    else finishFail k stState 0 s
  else finishFail k stState 0 s

/-- WEIR_RELEASE. -/
def execWeirRelease (slot : Slot) (s : State) : Host.Outcome State Fault Refusal := immediate slot 0x31 (doWeirRelease slot) s

/-- WEIR_ACQUIRE_TIMED_OUT: the command ends with STATE and the Weir is not taken (R345, R515). -/
def execWeirAcquireTimedOut (slot : Slot) (s : State) : Host.Outcome State Fault Refusal :=
  .next (match (List.finRange 32).find? fun n => s.weirs[n].waiters.any fun x => x.2.1 == some slot with
    | none => s
    | some n =>
      let us := leAt (s.desc slot) 20 4
      let since := match s.weirs[n].waiters.find? fun x => x.2.1 == some slot with | some x => x.2.2 | none => 0
      if us = 0 ∨ s.now < since + usTicks us then s
      else
        let o := s.ownerOf slot
        settle s (raise 165 evWeirTimedOut (BitVec.ofNat 32 n.val) (BitVec.ofNat 32 o.val)
          (finish slot stState 1 0 true (s.modWeir n fun w => { w with waiters := w.waiters.filter fun x => x.2.1 != some slot }))))

/-- The owner has been reset or has faulted: every Weir it holds is released at once, flagged SUSPECT and passed on (R512). -/
def releaseWeirs (o : OwnerId) (s : State) : State :=
  let l := s.weirsOf o
  if l.isEmpty then s
  else
    raise 165 evWeirReleased (BitVec.ofNat 32 o.val) (BitVec.ofNat 32 (l.foldl (fun a n => a + 2 ^ n.val) 0))
      (forList (fun n t => passWeir n true t) l s)

/-- The owner stands reset or stopped: an SQ stopped or the C-die in reset, channel 2 absent, the P-die in reset or PD_NET off (R512). -/
def State.ownerDown (s : State) (o : OwnerId) : Bool :=
  if h : o.val < 8 then !s.power.cRun || (s.rings.sq[(⟨o.val, h⟩ : SqId)]).stopped
  else if o.val = 8 then s.saf.wire == .absent
  else !s.netRuns

/-- WEIRS_RELEASED: every cause of R512 releases the Weirs at once in its own row; the row releases what a grant has given since then to an owner
that still stands reset or stopped (notes/assumptions/129.md). -/
def execWeirsReleased (w : OwnerId) (s : State) : Host.Outcome State Fault Refusal :=
  .next (if s.ownerDown w then settle s (releaseWeirs w s) else s)

/-! ## The arbiter watchdog (R504) -/

/-- R455 code of a requester, in the order journal, Loop Engine, network buffers, host DMA, patrol scrubber (R498). -/
def requesterCode (i : Fin 5) : BitVec 8 := #[0x02, 0x00, 0x03, 0x01, 0x07].getD i.val 0

/-- The command of an opcode that is being moved: that of the oldest read of host memory. -/
def State.movedCommand (s : State) (op : Nat) : Option Slot :=
  s.host.reads.findSome? fun r => match r.use with | .command k => if s.opcodeOf k = op then some k else none | _ => none

/-- The command that host DMA moves: a CTX_WRITE that is being read, else the oldest CTX_READ or CAPTURE_COPY that has not been applied
(R498, R504). -/
def State.movedDma (s : State) : Option Slot :=
  (s.movedCommand 0x01).or
    ((s.rings.journal.find? fun e => e.state == .accepted && (e.opcode == 0x02 || e.opcode == 0x11) && s.startable e.slot).map JEntry.slot)

/-- The NET_TX that the network engine moves: one being read, else that of the first frame that waits at a port (R388, R504). -/
def State.movedFrame (s : State) : Option Slot :=
  (s.movedCommand 0x20).or ((List.finRange 2).findSome? fun p => (s.net.ports[p]).hostQ.findSome? TxFrame.cmd)

/-- The command being moved ends, its host read with it (R504). -/
def abortMoved (k : Option Slot) (s : State) : State :=
  match k with
  | none => s
  | some k => finishFail k stAbortedFault 0xFFFF0002 (s.modHost fun h => { h with reads := h.reads.filter fun r => r.use != .command k })

/-- The frames of a command leave the ports' queues; a timestamp owed for one comes no more (R397). -/
def dropCommandFrames (k : Option Slot) (s : State) : State :=
  if k.isNone then s
  else
    let owed := (List.finRange 2).flatMap fun p =>
      ((s.net.ports[p]).hostQ.filter fun f => f.cmd == k).filterMap fun f => if f.stamped then none else f.stamp.map fun x => x.2.1
    forList payTag owed (s.modNet fun n =>
      { n with
        txTook := n.txTook.filter fun e => k != some e.1
        ports := n.ports.map fun (q : Port) => { q with hostQ := q.hostQ.filter fun f => f.cmd != k } })

/-- The network engine resets: a received frame being moved is dropped and counted, its buffer lent again; a NET_TX being moved ends; its
Weirs are released (R504, R512). -/
def resetNetEngine (s : State) : State :=
  let s := match s.net.rxHeld with
    | [] => s
    | e :: t =>
      let p : PortId := if fld e.result 16 2 = 2 then 1 else 0
      (s.modNet fun x => { x with rxHeld := t, bufs := e.buf :: x.bufs }).modPort p fun q => { q with filtered := satInc q.filtered }
  let k := s.movedFrame
  releaseWeirs 9 (abortMoved k (dropCommandFrames k s))

/-- The descriptor copy of the oldest entry that waits for it is written again (R360, R504). -/
def rewriteCopy (s : State) : State :=
  match s.rings.unacked.head? with
  | some k => s.write 0x02 (descAddr k) (s.desc k)
  | none => s

/-- The prefetch that moves through arbitrated slots is abandoned: of several the one whose release comes first (R176, R504;
notes/assumptions/155.md). -/
def abandonPrefetch (s : State) : State :=
  let l := (List.finRange 256).filter fun c => (s.loop.rt[c]).prefetching && (s.loop.rt[c]).beyond
  let due (c : CtxId) : Nat := (s.nextRelease c).getD 0
  match l.find? fun c => l.all fun d => decide (due c ≤ due d) with
  | none => s
  | some c => (s.modRt c fun x => { x with prefetching := false, beyond := false }).modArb fun a => { a with leLines := 0 }

/-- The reset of the stuck requester (R504). The scrubber only restarts its line, of which the state holds nothing. -/
def resetRequester (i : Fin 5) (s : State) : State :=
  match i with
  | 0 => rewriteCopy s
  | 1 => abandonPrefetch s
  | 2 => resetNetEngine s
  | 3 => abortMoved s.movedDma s
  | _ => s

/-- ARBITER_WATCHDOG: a burst has moved no line for 10 µs (R504). -/
def execArbiterWatchdog (s : State) : Host.Outcome State Fault Refusal :=
  .next (match s.arb.grant with
    | none => s
    | some g =>
      if s.now < s.arb.progressAt + usTicks 10 ∨ !s.power.cRun then s
      else
        let c := requesterCode g.1
        let t := s.modArb fun a =>
          { a with ptr := 0, losses := Vector.replicate 5 0, backoff := Vector.replicate 5 0, grant := none, wdCnt := satInc a.wdCnt, wdReq := c }
        settle s (resetRequester g.1 (raise 164 evArbWatchdog (BitVec.ofNat 32 c.toNat) 0 t)))

end Sys2Proof.Machine
end

