-- ==== Sys2Proof/Machine/Image.lean ====
section
/-!
DEFINITION. Loading a table image in SETUP (R163, R171, R172, R191).
-/
namespace Sys2Proof.Machine

open Sys2Proof

/-- LE_IMAGE_CTRL written: LOAD starts a load; after the Seal it acts as an RWS write (R172, R572). -/
def writeImageCtrl (v : Word32) (s : State) : State :=
  if !v.getLsbD 0 then s
  else if s.power.sealed then rwsWritten s
  else if s.loop.imageLoading then s
  else s.modLoop fun l => { l with imageLoading := true, imageResult := 0xF, imageFail := 0 }

/-- LOAD. -/
def execLoad (v : Word32) (s : State) : Host.Outcome State Fault Refusal := .next (hostWord .c rLeImageCtrl v (writeImageCtrl v) s)

/-- The entries of an image, device-written fields zero. -/
def imageEntries (l : List Byte) : List Byte := ((List.range 256).map fun j => clearDevice ((l.drop (16 + 2048 * j)).take 2048)).flatten

/-- The image has been read, or its read has failed: a read that does not bring the 524 304 bytes of R171 is a failed one (R172, R576;
notes/assumptions/4.md). -/
def imageDone (image : Option (List Byte)) (s : State) : State :=
  let s := s.modLoop fun l => { l with imageLoading := false }
  match image.filter fun l => l.length == 524304 with
  | none =>
    let p := s.fresh
    hostError (p.2.addr64 rLeImageAddrLo rLeImageAddrHi) 0x10 false (p.1.setWidth 3) (p.2.modLoop fun l => { l with imageResult := 5 })
  | some l =>
    let r := imageResult l
    let s := s.modLoop fun p => { p with imageResult := BitVec.ofNat 4 r.1, imageFail := BitVec.ofNat 8 r.2 }
    if r.1 = 1 then
      (s.write 0x01 0 (imageEntries l)).modLoop fun p => { p with cache := [], rt := Vector.replicate 256 {}, rtSaved := Vector.replicate 256 {} }
    else s

/-- IMAGE_LOAD_DONE. -/
def execImageLoadDone (image : Option (List Byte)) (s : State) : Host.Outcome State Fault Refusal :=
  .next (if s.loop.imageLoading && s.power.cRun then settle s (imageDone image s) else s)

end Sys2Proof.Machine
end

