-- ==== Sys2Proof/Machine/Capture.lean ====
section
/-!
DEFINITION. Capture sessions (R310 to R323): arming, recording, the trigger, the end of a session and the copy to host memory.
-/
namespace Sys2Proof.Machine

open Sys2Proof

/-! ## A session's figures (R313, R315, R316, R321) -/

/-- Record size in bytes (R313). -/
def recSize (minmax : Bool) (mask : Nat) : Nat := (if minmax then 4 else 2) * popcount 16 mask

def Session.recSize (x : Session) : Nat := Machine.recSize x.minmax x.mask.toNat

/-- Capacity in records of a buffer (R313). -/
def capacity (len size : Nat) : Nat := (len - 64) / size

def Session.cap (x : Session) : Nat := capacity x.bufLen x.recSize

/-- Post-trigger records that end the session: POST, clamped to the capacity (R315, R316). -/
def Session.postGoal (x : Session) : Nat := min x.post x.cap

/-- POST exceeds the capacity (R316). -/
def Session.clamped (x : Session) : Bool := decide (x.cap < x.post)

/-- The records that the session is to store are all taken. -/
def Session.full (x : Session) : Bool := match x.trigRec with | some t => decide (t + x.postGoal ≤ x.taken) | none => false

/-- PRE stored, POST stored and START as they now stand (R314 to R316). -/
def Session.counts (x : Session) : Nat × Nat × Nat :=
  match x.trigRec with
  | some t =>
    let pre := if x.clamped then 0 else min x.pre t
    (pre, min (x.taken - t) x.postGoal, (t - pre) % x.cap)
  | none =>
    let pre := min (min x.pre x.taken) x.cap
    (pre, 0, (x.taken - pre) % x.cap)

/-- Record number of the oldest stored record. -/
def Session.oldest (x : Session) : Nat := match x.trigRec with | some t => t - x.counts.1 | none => x.taken - x.counts.1

/-- Header FLAGS (R314). -/
def Session.flags (x : Session) : Nat :=
  b2n x.stopped + 2 * b2n x.preShort + 4 * b2n x.gapFlag + 8 * b2n x.minmax + 16 * b2n x.triggered

/-- Number and generation as commands and results give them (R310). -/
def sessId (k : SessId) (gen : BitVec 4) : Nat := k.val + 16 * gen.toNat

/-- The session header (R314). -/
def Session.header (x : Session) (k : SessId) : List Byte :=
  let first := match x.gapRecs.find? fun g => decide (x.oldest ≤ g) with | some g => g - x.oldest | none => 0
  leBytes 2 x.status.toNat ++ leBytes 1 (sessId k x.gen) ++ leBytes 1 x.flags ++ leBytes 2 x.recSize ++ leBytes 2 0 ++
    leBytes 4 x.pre ++ leBytes 4 x.post ++ leBytes 4 x.prog.1 ++ leBytes 4 x.prog.2.1 ++ leBytes 4 x.cap ++ leBytes 4 x.prog.2.2.1 ++
    leBytes 8 x.trigTime.toNat ++ leBytes 4 x.trigId.toNat ++ leBytes 4 x.prog.2.2.2 ++ leBytes 4 first ++ leBytes 12 0

/-- The progress fields brought up to date. -/
def Session.progress (x : Session) : Session := { x with prog := (x.counts.1, x.counts.2.1, x.counts.2.2, x.gaps) }

/-- Bytes per record and ticks per record of a session's stream, as a fraction (R295, R321). -/
def State.capRate (s : State) (chains minmax : Bool) (bank : BankId) (mask interval : Nat) : Nat × Nat :=
  let size := recSize minmax mask
  let k := if minmax then interval else 1
  if chains then
    match (List.finRange 16).find? fun n => mask.testBit n.val with
    | some n => (size * 2 ^ 24, s.setInterval (bankOf (s.chainChan n)) * s.chainR n * s.rf (rFltInc n) 0 32 * k)
    | none => (0, 1)
  else (size, s.setInterval bank * k)

/-- The sum of two fractions. -/
def addFrac (a b : Nat × Nat) : Nat × Nat := (a.1 * b.2 + b.1 * a.2, a.2 * b.2)

/-- The summed write rate of all armed and triggered sessions, in bytes per tick (R321). -/
def State.capSum (s : State) : Nat × Nat :=
  (s.sessions.toList.filter Session.active).foldl
    (fun a x => addFrac a (s.capRate x.chains x.minmax x.bank x.mask.toNat (if x.minmax then x.interval else 1))) (0, 1)

/-- CAP_BW.RATE in MB/s (R321): 1 byte a tick is 400 MB/s. -/
def State.capBw (s : State) : Nat := let f := s.capSum; if f.2 = 0 then 0xFFFF else f.1 * 400 / f.2

/-! ## CAPTURE_ARM (R310 to R312) -/

/-- The lowest number not in use. -/
def State.freeSession (s : State) : Option SessId := (List.finRange 16).find? fun k => (s.sessions[k]).state == .free

/-- Two spans of bytes overlap. -/
def overlaps (a n b m : Nat) : Bool := decide (a < b + m) && decide (b < a + n)

/-- The operands of a CAPTURE_ARM as the session holds them. -/
def armOperands (d : List Byte) (x : Session) : Session :=
  { x with
    chains := dByte d 16 % 2 = 1, minmax := dByte d 16 / 2 % 2 = 1, bank := ⟨dByte d 17 % 4, Nat.mod_lt _ (by decide)⟩
    mask := BitVec.ofNat 16 (leAt d 18 2), trigger := BitVec.ofNat 4 (dByte d 20)
    interval := if dByte d 16 / 2 % 2 = 1 then leAt d 22 2 else 1
    bufAddr := leAt d 24 8, bufLen := leAt d 32 4, pre := leAt d 36 4, post := leAt d 40 4 }

/-- Every selected chain is enabled, of one source bank, R and INC (R312). -/
def State.chainsAgree (s : State) (mask : Nat) : Bool :=
  let l := (List.finRange 16).filter fun n => mask.testBit n.val
  l.all fun n => s.rb (rFltCfg n) 0 &&
    l.all fun m => bankOf (s.chainChan n) == bankOf (s.chainChan m) && s.chainR n == s.chainR m &&
      s.rf (rFltInc n) 0 32 == s.rf (rFltInc m) 0 32

/-- The first check of R312 that fails, as the DETAIL of its RANGE. -/
def State.armRange (s : State) (x : Session) : Option Nat :=
  let m := x.mask.toNat
  let t := x.trigger.toNat
  let size := x.recSize
  let mode := s.rf (rAdcCtrl x.bank) 0 2
  if m = 0 then some 18
  else if 8 ≤ t ∧ t ≠ 15 then some 20
  else if !x.chains ∧ !(mode = 1 ∨ mode = 2) then some 17
  else if !x.chains ∧ m &&& (s.rf (rAdcChen x.bank) 0 16) ≠ m then some 18
  else if x.chains ∧ !s.chainsAgree m then some 18
  else if x.bufAddr % 64 ≠ 0 ∨ 2 ^ 32 < x.bufAddr + x.bufLen ∨ reservedSpan x.bufAddr ∨
      s.sessions.toList.any (fun y => y.state != .free && overlaps x.bufAddr x.bufLen y.bufAddr y.bufLen) then some 24
  else if x.bufLen % 64 ≠ 0 ∨ x.bufLen < 64 ∨ capacity x.bufLen size < 1 then some 32
  else if x.post = 0 then some 40
  else if x.post ≤ x.cap ∧ x.cap < x.pre + x.post then some 0xFFFF
  else if t = 15 ∧ x.pre ≠ 0 then some 0xFFFF
  else if x.minmax ∧ x.interval < 2 then some 22
  else
    let f := addFrac s.capSum (s.capRate x.chains x.minmax x.bank m x.interval)
    if f.1 ≤ 10 * f.2 then none else some 0xFFFF

/-- CAPTURE_ARM as it is applied: the session armed, its generation stepped (R310, R312, R315, R352). -/
def doCaptureArm (k : Slot) (s : State) : State :=
  match s.freeSession with
  | none => finishFail k stState 0 s
  | some n =>
    let d := s.desc k
    let old := s.sessions[n]
    let at0 := if s.isTimed k then dAtTime d else 0
    let x := armOperands d
      { gen := old.gen + 1, words := old.words, armTick := s.now, progressAt := s.now, state := .armed, atTime := at0 }
    match s.armRange x with
    | some o => finishFail k stRange (BitVec.ofNat 32 o) s
    | none =>
      let x := if x.trigger = 15 then
          { x with state := .triggered, triggered := true, trigRec := some 0, trigTime := if at0 = 0 then s.cTimeNs else at0 }
        else x
      let s := modEntry k (fun e => { e with targetIndex := BitVec.ofNat 8 n.val }) s
      finishOk k (BitVec.ofNat 64 (sessId n x.gen + 2 ^ 32 * x.cap)) (s.modSess n fun _ => x)

/-- CAPTURE_ARM. -/
def execCaptureArm (slot : Slot) (s : State) : Host.Outcome State Fault Refusal := immediate slot 0x10 (doCaptureArm slot) s

/-! ## Recording (R313, R315, R322) -/

/-- Bytes of a signal. -/
def sigBytes (v : Int) : List Byte := leBytes 2 (BitVec.ofInt 16 v).toNat

/-- The record of the present interval: a gap record where no sample of it came (R313, R322). -/
def Session.recordBytes (x : Session) : List Byte :=
  let n := popcount 16 x.mask.toNat
  if x.acc.isEmpty then (List.replicate n (if x.minmax then sigBytes 0x7FFF ++ sigBytes (-0x8000) else sigBytes (-0x8000))).flatten
  else x.acc.flatMap fun p => if x.minmax then sigBytes p.1 ++ sigBytes p.2 else sigBytes p.1

/-- Running minima and maxima with one more sample. -/
def mergeSample (acc : List (Int × Int)) (v : List Int) : List (Int × Int) :=
  if acc.isEmpty then v.map fun x => (x, x) else acc.zipWith (fun p x => (min p.1 x, max p.2 x)) v

/-- One position of a session's stream, with its sample or lost: the record is written when its interval is complete. -/
def takePosition (k : SessId) (v : Option (List Int)) (s : State) : State :=
  let x := s.sessions[k]
  if !x.active || x.full then s else
  let x := { x with acc := match v with | some l => mergeSample x.acc l | none => x.acc, accCount := x.accCount + 1 }
  if x.accCount < x.interval then s.modSess k fun _ => x
  else
    let gap := x.acc.isEmpty
    let n := x.taken
    (captureStore (x.bufAddr + 64 + n % x.cap * x.recSize) x.recordBytes s).modSess k fun _ =>
      { x with acc := [], accCount := 0, taken := n + 1, gapFlag := x.gapFlag || gap, gaps := x.gaps + b2n gap
               gapRecs := if gap then x.gapRecs ++ [n] else x.gapRecs }

/-- Difference of two identities near each other: set counts and output indexes, counted on to 32 bits (R303, R314; DEDUCED, log 141). -/
def idDiff (a b : Word32) : Int := (a - b).toInt

/-- Samples of a session's stream that its present record position comes after (R313). -/
def Session.position (x : Session) : Nat := x.taken * x.interval + x.accCount

/-- An identity behind the last one taken, counted without wrap; the first one of a session is counted from 2^32 on. -/
def Session.unwrap (x : Session) (id : Word32) : Nat :=
  match x.lastId with
  | none => 2 ^ 32 + id.toNat
  | some l => x.seen + (id - l).toNat

/-- The identity of the next position: a run of consecutive identities goes on, or a new one begins; with the first one, how far the sample
before it lies back (R309, R315). -/
def Session.mark (x : Session) (id : Word32) : Session :=
  let n := x.unwrap id
  { x with
    lastId := some id
    seen := n
    floor := if x.lastId.isNone then x.before.map fun b => n - (id - b).toNat else x.floor
    segs := if x.lastId = some (id - 1) then x.segs else (n, x.position) :: x.segs
    trigId := if x.lastId.isNone ∧ x.trigRec = some 0 then id else x.trigId }

/-- A position whose sample was lost, with its identity: a gap (R322). -/
def takeGap (k : SessId) (id : Word32) (s : State) : State := takePosition k none (s.modSess k fun y => y.mark id)

/-- The identities that a session's stream has lost since its last sample: those of lost sets; of chain outputs all that lie between, as their
indexes leave none out (R303, R322). -/
def Session.missing (x : Session) (id : Word32) : List Word32 :=
  if !x.chains then x.lost
  else match x.lastId with
    | none => x.lost.filter fun l => decide (0 < idDiff id l)
    | some l => (List.range (idDiff id l - 1).toNat).map fun j => l + BitVec.ofNat 32 (j + 1)

/-- A sample of identity `id` taken at a tick reaches a session: recorded from the arm instant on, behind what was lost before it (R315,
R322). -/
def takeSample (k : SessId) (id : Word32) (v : List Int) (tick : Nat) (s : State) : State :=
  let x := s.sessions[k]
  if !x.active then s
  else if x.lastId.isNone && x.lost.isEmpty && !s.sinceArm x tick then s.modSess k fun y => { y with before := some id }
  else
    let t := forList (takeGap k) (x.missing id) s
    takePosition k (some v) (t.modSess k fun y => { (y.startedAt (s.timeNsAt tick)).mark id with lost := [] })

/-- A regular or continuous sample set reaches the capture writer (R313). -/
def captureSet (x : SampleSet) (s : State) : State :=
  forAll (fun (k : SessId) t =>
    let y := t.sessions[k]
    if y.takes x then
      let v := ((maskBits 16 x.mask.toNat).zip x.results).filterMap fun p => if y.mask.toNat.testBit p.1 then some p.2.toInt else none
      takeSample k x.count v x.tick t
    else t) s

/-- The chains of a session, rising. -/
def Session.chainList (x : Session) : List ChainId := (List.finRange 16).filter fun n => bitAt x.mask n.val

/-- Position `id` of a chain session, if every chain has given its output: the record, and older outputs forgotten (R313). -/
def joinChains (k : SessId) (id : Word32) (tick : Nat) (s : State) : State :=
  let x := s.sessions[k]
  let v := x.chainList.map fun n => (x.chainBuf.find? fun e => e.1 == n && e.2.1 == id).map fun e => e.2.2.1.toInt
  if v.all Option.isSome then
    takeSample k id (v.map fun o => o.getD 0) tick
      (s.modSess k fun y => { y with chainBuf := y.chainBuf.filter fun e => decide (0 < idDiff e.2.1 id) })
  else s

/-- A frame of chain outputs reaches the capture writer (R303, R313). -/
def captureChain (f : ChainFrame) (s : State) : State :=
  forAll (fun (k : SessId) t =>
    let y := t.sessions[k]
    if y.active && y.chains && bitAt y.mask f.chain.val then
      (f.outputs.zip f.ticks).zipIdx.foldl (fun u p =>
        let id : Word32 := f.first + BitVec.ofNat 32 p.2
        joinChains k id p.1.2 (u.modSess k fun z => { z with chainBuf := z.chainBuf ++ [(f.chain, id, p.1.1, p.1.2)] })) t
    else t) s

/-- A trigger notice reaches the capture writer (R309, R315). -/
def captureNotice (n : Notice) (s : State) : State :=
  forAll (fun (k : SessId) t =>
    let y := t.sessions[k]
    if y.state == .armed && y.trigger.toNat == n.unit.val then t.modSess k fun z => { z with notices := z.notices ++ [n] } else t) s

/-! ## Trigger and end (R315 to R318, R322) -/

/-- The identity that a notice gives post-trigger record 0 of a session (R309, R315). -/
def Session.noticeId (x : Session) (n : Notice) : Word32 :=
  if x.chains then n.outIndexes.getD (x.chainList.head?.elim 0 Fin.val) 0 else n.setCounts.getD x.bank.val 0

/-- Identity and position of the first sample at or after an identity, both counted without wrap, by the runs of identities, newest first, and
the sample behind the newest; none where it lies before the first run. -/
def findSample (n : Nat) : List (Nat × Nat) → Nat × Nat → Option (Nat × Nat)
  | [], _ => none
  | g :: t, past =>
    if n < g.1 then findSample n t g
    else some (if g.2 + (n - g.1) < past.2 then (n, g.2 + (n - g.1)) else past)

/-- Post-trigger record 0 of a session by a notice's identity, counted without wrap: the sample of that identity or the first after it, where
sets without that identity lie between; none where it lies before the arm instant (R309, R315). -/
def Session.place (x : Session) (n : Nat) : Option (Nat × Nat) :=
  match x.segs.getLast? with
  | none => none
  | some g =>
    if g.1 ≤ n then findSample n x.segs (n, x.position)
    else if x.floor.any fun c => decide (c < n) then some g else none

/-- The identity of a notice that names the last sample taken or one before it, counted without wrap. -/
def Session.noticeAt (x : Session) (n : Notice) : Nat := x.seen - ((x.lastId.getD 0) - x.noticeId n).toNat

/-- The oldest notice judged: it is the trigger, or lies before the arm instant and is ignored (R315). -/
def judgeNotice (k : SessId) (n : Notice) (s : State) : State :=
  let x := s.sessions[k]
  match x.place (x.noticeAt n) with
  | none => s.modSess k fun y => { y with notices := y.notices.drop 1 }
  | some p => s.modSess k fun y =>
    { y with state := .triggered, triggered := true, trigRec := some (p.2 / y.interval), notices := [], trigTime := n.time
             trigId := BitVec.ofNat 32 (p.1 - p.2 % y.interval) }

/-- CAPTURE_TRIGGER: an armed session judges the oldest notice of its unit, once it has taken the sample the notice names or a later one. -/
def execCaptureTrigger (k : SessId) (s : State) : Host.Outcome State Fault Refusal :=
  let x := s.sessions[k]
  .next (match x.notices, x.lastId with
    | n :: _, some l => if x.state = .armed ∧ s.power.cRun ∧ 0 ≤ idDiff l (x.noticeId n) then judgeNotice k n s else s
    | _, _ => s)

/-- The event of a session that has ended (R317, R323). -/
def captureEvent (x : Session) : EvDef :=
  if x.status = stAbortedFault then evSessDoneAborted
  else if x.status = stClamped ∨ x.gapFlag then evSessDoneClamped
  else evSessDoneOk

/-- PRE stored is less than PRE, and no clamp has given the pre-trigger records up (R315, R316). -/
def Session.short (x : Session) : Bool := decide (x.prog.1 < x.pre) && !(x.triggered && x.clamped)

/-- The header of an ended session written and its event raised (R314, R317). -/
def captureReport (k : SessId) (s : State) : State :=
  let x := s.sessions[k]
  raise (srcSess k) (captureEvent x) (BitVec.ofNat 32 k.val) (BitVec.ofNat 32 x.gen.toNat) (captureStore x.bufAddr (x.header k) s)

/-- A session ends with a status: header, "capture done", and the CAPTURE_STOP commands that waited (R317, R318). -/
def endSession (k : SessId) (st : Word16) (stopped : Bool) (s : State) : State :=
  let stops := (s.sessions[k]).stopReq
  let s := s.modSess k fun x =>
    let x := x.progress
    { x with state := .ended, status := st, stopped := stopped, stopReq := [], notices := [], acc := [], accCount := 0
             preShort := x.short }
  forList (fun c t => finishOk c 0 t) stops (captureReport k s)

/-- A P-die reset ends every running session (R322). -/
def abortSessions (s : State) : State :=
  forAll (fun (k : SessId) t => if (t.sessions[k]).active then endSession k stAbortedFault false t else t) s

/-- A C-die reset ends every running session; header and event wait for its return, and the progress fields stand as last written
(R322). -/
def orphanSessions (s : State) : State :=
  forAll (fun (k : SessId) t => t.modSess k fun x =>
    if x.active then
      { x with state := .ended, status := stAbortedFault, owed := true, stopReq := [], notices := [], acc := [], accCount := 0, preShort := x.short }
    else x) s

/-- The headers and events that a C-die reset left owed (R322). -/
def reportOrphans (s : State) : State :=
  forAll (fun (k : SessId) t => if (t.sessions[k]).owed then (captureReport k t).modSess k fun x => { x with owed := false } else t) s

/-- CAPTURE_DONE: the last record is taken, or a CAPTURE_STOP waits at a record boundary (R315, R316, R318). -/
def execCaptureDone (k : SessId) (s : State) : Host.Outcome State Fault Refusal :=
  let x := s.sessions[k]
  .next (if !x.active || !s.power.cRun then s
    else if x.full then settle s (endSession k (if x.clamped then stClamped else stOk) false s)
    else if !x.stopReq.isEmpty ∧ x.accCount = 0 then settle s (endSession k stOk true s)
    else s)

/-- CAPTURE_PROGRESS_WRITE: every 1 ms while the session runs (R314). -/
def execCaptureProgressWrite (k : SessId) (s : State) : Host.Outcome State Fault Refusal :=
  let x := s.sessions[k]
  .next (if x.active && s.power.cRun && decide (x.progressAt + msTicks 1 ≤ s.now) then
      let y := { x.progress with progressAt := s.now }
      let h := y.header k
      settle s ((captureStore (y.bufAddr + 44) (bytesAt h 44 4) (captureStore (y.bufAddr + 28) (bytesAt h 28 4)
        (captureStore (y.bufAddr + 16) (bytesAt h 16 8) s))).modSess k fun _ => y)
    else s)

/-! ## CAPTURE_STOP and CAPTURE_COPY (R318, R319) -/

/-- The session that byte 16 of a descriptor names, if its number is in use with that generation (R318, R353). -/
def State.namedSession (s : State) (d : List Byte) : Option SessId :=
  let k : SessId := ⟨dByte d 16 % 16, Nat.mod_lt _ (by decide)⟩
  let x := s.sessions[k]
  if x.state ≠ .free ∧ x.gen.toNat = dByte d 16 / 16 then some k else none

/-- CAPTURE_STOP as it is applied. -/
def doCaptureStop (k : Slot) (s : State) : State :=
  match s.namedSession (s.desc k) with
  | none => finishFail k stState 0 s
  | some n =>
    if (s.sessions[n]).active then applying k (s.modSess n fun x => { x with stopReq := x.stopReq ++ [k] })
    else finishOk k 0 (s.modSess n fun x => { x with state := .free })

/-- CAPTURE_STOP. -/
def execCaptureStop (slot : Slot) (s : State) : Host.Outcome State Fault Refusal := immediate slot 0x12 (doCaptureStop slot) s

/-- Records stored of an ended session. -/
def Session.stored (x : Session) : Nat := x.prog.1 + x.prog.2.1

/-- The spans of package memory that a copy reads, in order: the header, the records to the end of the data area, the rest (R319). -/
def Session.spans (x : Session) : List (Nat × Nat) :=
  let size := x.recSize
  let start := x.prog.2.2.1
  let n := min x.stored (x.cap - start)
  [(x.bufAddr, 64), (x.bufAddr + 64 + start * size, n * size), (x.bufAddr + 64, (x.stored - n) * size)]

/-- The spans read: the address of the first uncorrectable line. -/
def readSpans : List (Nat × Nat) → State → Option Nat × State
  | [], s => (none, s)
  | p :: t, s =>
    if p.2 = 0 then readSpans t s
    else
      let q := readMem p.1 p.2 1 0 s
      let r := readSpans t q.2
      (q.1.or r.1, r.2)

/-- CAPTURE_COPY as it is applied. -/
def doCaptureCopy (k : Slot) (s : State) : State :=
  let d := s.desc k
  match s.namedSession d with
  | none => finishFail k stState 0 s
  | some n =>
    let x := s.sessions[n]
    let size := 64 + x.stored * x.recSize
    if x.state ≠ .ended then finishFail k stState 0 s
    else if leAt d 24 8 % 64 ≠ 0 ∨ !hostSpan (leAt d 24 8) size then finishFail k stRange 24 s
    else if leAt d 32 4 < size then finishFail k stRange 32 s
    else
      let q := readSpans x.spans (flushCapture s)
      let data := x.spans.flatMap fun p => q.2.bytes p.1 p.2
      let s := hostWrite (BitVec.ofNat 64 (leAt d 24 8)) data q.2
      let s := if dByte d 17 % 2 = 1 then s.modSess n fun y => { y with state := .free } else s
      match q.1 with
      | none => finishOk k (BitVec.ofNat 64 size) s
      | some a => finish k stAbortedFault (BitVec.ofNat 32 (64 * (a / 64) - x.bufAddr)) (BitVec.ofNat 64 size) true s

/-- CAPTURE_COPY; while the PCIe link is down or a refresh has the memory it waits (R495, R576). -/
def execCaptureCopy (slot : Slot) (s : State) : Host.Outcome State Fault Refusal :=
  if s.host.up && !s.host.endpointReset && !s.refreshing then immediate slot 0x11 (doCaptureCopy slot) s else .next s

end Sys2Proof.Machine
end

