-- ==== Sys2Proof/Machine/Rings.lean ====
section
/-!
DEFINITION. The ring engine (spec/10_host_rings.md) and the journal's acceptance and posting (R357 to R362): polling, acceptance,
completions, MSI-X, host memory reads and the PCIe link. Timed actions and replay stand in Replay.lean.
-/
namespace Sys2Proof.Machine

open Sys2Proof

/-! ## NOP and BARRIER (R344, R347) -/

/-- NOP. -/
def execNop (slot : Slot) (s : State) : Host.Outcome State Fault Refusal := immediate slot 0x00 (finishOk slot 0) s

/-- Every command of lower ASN on the barrier's rings has finished its application, timed ones only with TIMED (R347). -/
def State.barrierMet (s : State) (k : Slot) : Bool :=
  match s.entry k with
  | none => false
  | some e =>
    s.rings.journal.all fun x =>
      x.slot == k || !asnAtOrAfter e.asn x.asn || !(s.barrierMask e).testBit x.sq.val || x.state != .accepted ||
        (x.timed && !(dByte (s.desc k) 17).testBit 0) || (match s.workOf x.slot with | some w => !w.unfinished | none => true)

/-- BARRIER as it is applied: it completes when its condition has been met. -/
def doBarrier (k : Slot) (s : State) : State := if s.barrierMet k then finishOk k 0 s else s

/-- BARRIER. -/
def execBarrier (slot : Slot) (s : State) : Host.Outcome State Fault Refusal := immediate slot 0x7F (doBarrier slot) s

/-! ## Stopping and restarting an SQ (R335, R512) -/

/-- An SQ stops, with its cause: it accepts nothing, and its Weirs are released (R335, R355, R512). -/
def stopSq (q : SqId) (cause : Nat) (s : State) : State :=
  if s.rings.sq[q].stopped then s
  else stand (srcSq q) evSqStopped (raise (srcSq q) evSqStopped (BitVec.ofNat 32 cause) 0 (releaseWeirs ⟨q.val, by omega⟩ (markStopped q s)))

/-- A failed read of an SQ's doorbell line: the third in a row stops it with cause 2; none counts inside a C-die reset window (R335,
R452). -/
def failedLine (q : SqId) (s : State) : State :=
  if (s.openWindow .cDie).isSome then s
  else
    let n := s.rings.sq[q].failedLines + 1
    let s := s.modSq q fun x => { x with failedLines := n }
    if 3 ≤ n then stopSq q 2 s else s

/-- A failed read of an SQ's descriptors: as `failedLine`, with a count of its own and cause 3 (R335, R452). -/
def failedDesc (q : SqId) (s : State) : State :=
  if (s.openWindow .cDie).isSome then s
  else
    let n := s.rings.sq[q].failedDescs + 1
    let s := s.modSq q fun x => { x with failedDescs := n }
    if 3 ≤ n then stopSq q 3 s else s

/-- A stopped SQ restarts: it takes DEV_IDX as its start and reads its line again (R335); a restart is a reset of the ring as a Weir
owner (R512); an SQ stopped by a failed read-back has the replay's read-back repeated first (R369). -/
def restartSq (q : SqId) (s : State) : State :=
  if s.rings.sq[q].stopped then
    let s := unstand (srcSq q) evSqStopped
      (s.modSq q fun x => { x with stopped := false, failedLines := 0, failedDescs := 0, fetched := none, waitReported := false })
    let s := if s.rings.sq[q].readBackFailed then s.modRings fun r => { r with replaying := true } else s
    raise (srcSq q) evSqRestarted 0 0 (releaseWeirs ⟨q.val, by omega⟩ (hostRead (.sqLine q) (s.lineAddr q.val) s))
  else s

/-- RESTART: a write to SYS_RING_CTRL (R335, R356). -/
def execRestart (mask : BitVec 8) (s : State) : Host.Outcome State Fault Refusal :=
  .next (hostWord .c 0x2214 (mask.setWidth 32) (forAll fun q t => if bitAt mask q.val then restartSq q t else t) s)

/-! ## Polling and reads of host memory (R332 to R335, R576) -/

/-- DOORBELL_POLL: the lines of all enabled rings are read, and the rounds of acceptance begin anew at SQ0 (R333, R336). -/
def execDoorbellPoll (s : State) : Host.Outcome State Fault Refusal :=
  .next (if s.ringsRun && s.power.sealed && decide (s.rings.polled + usTicks (s.rf rSysDbPoll 0 10) ≤ s.now) then
      let s := s.modRings fun r => { r with polled := s.now, turn := 0, takenInTurn := 0 }
      let s := forAll (fun q t => if t.sqEn q then hostRead (.sqLine q) (t.lineAddr q.val) t else t) s
      forAll (fun m t => if t.cqEn m then hostRead (.cqLine m) (t.lineAddr (8 + m.val)) t else t) s
    else s)

/-- The next announced descriptor of an SQ is read, if none has been and the SQ runs (R336). -/
def fetchNext (q : SqId) (s : State) : State :=
  let x := s.rings.sq[q]
  if x.stopped || x.fetched.isSome || x.hostIdx == x.acceptedIdx || !s.sqEn q || s.host.reads.any (fun r => r.use == .descriptor q) then s
  else hostRead (.descriptor q) (s.sqAddr q x.acceptedIdx) s

/-- An SQ's doorbell line has been read: an index out of range stops the SQ (R335). -/
def sqLineRead (q : SqId) (data : List Byte) (s : State) : State :=
  let h := BitVec.ofNat 32 (leAt data 0 4)
  let s := s.modSq q fun x => { x with hostIdx := h, failedLines := 0 }
  if s.sqSize q < (h - s.rings.sq[q].devIdx).toNat then stopSq q 1 s else fetchNext q s

/-- A CQ's doorbell line has been read: the head, and any change of it (R332, R461). -/
def cqLineRead (m : CqId) (data : List Byte) (s : State) : State :=
  let h := BitVec.ofNat 32 (leAt data 0 4)
  let moved := h != s.rings.cq[m].hostIdx
  let s := s.modCq m fun x => { x with hostIdx := h }
  if moved then s.modHost fun x => { x with lastHead := s.now, silentReported := false } else s

/-- What a read of host memory brings (R333, R336, R345). -/
def readDone (u : DmaUse) (data : List Byte) (s : State) : State :=
  match u with
  | .sqLine q => sqLineRead q data s
  | .cqLine m => cqLineRead m data s
  | .descriptor q => s.modSq q fun x => if x.stopped then x else { x with fetched := some (bytesAt data 0 64), failedDescs := 0 }
  | .command k =>
    let d := s.desc k
    let n := if s.opcodeOf k = 0x01 then leAt d 20 2 else leAt d 24 2
    modWork k (fun w => { w with data := some (bytesAt data 0 n) }) s

/-- Requester code of a read (R455). -/
def State.readCode (s : State) : DmaUse → BitVec 8
  | .sqLine q => BitVec.ofNat 8 q.val
  | .descriptor q => BitVec.ofNat 8 q.val
  | .cqLine m => BitVec.ofNat 8 (8 + m.val)
  | .command k => if s.opcodeOf k = 0x20 then 0x12 else 0x10

/-- A failed read of host memory: recorded and reported, and its effect on the ring or the command (R335, R461, R576). -/
def readFailed (r : DmaRead) (status : BitVec 3) (s : State) : State :=
  let det := match r.use with | .command _ => none | _ => some ShadowObj.cDie
  let s := raiseFull 137 evHostDmaError 0 0 det false
    (captureError 2 (r.addr.setWidth 48) (s.readCode r.use) 8 (status.setWidth 48) 0 s)
  match r.use with
  | .sqLine q => failedLine q s
  | .descriptor q => fetchNext q (failedDesc q s)
  | .cqLine _ => s
  | .command k => modWork k (fun w => { w with dmaFailed := true }) s

/-- HOST_DMA_READ_COMPLETE: a read returns, successful with status 0, else failed (R576). -/
def execHostDmaReadComplete (id : Nat) (status : BitVec 3) (data : List Byte) (s : State) : Host.Outcome State Fault Refusal :=
  .next (match s.host.reads.find? fun r => r.id == id with
    | none => s
    | some r =>
      let t := s.modHost fun h => { h with reads := h.reads.filter fun x => x.id != id }
      settle s (if status = 0 then readDone r.use data t else readFailed r status t))

/-- HOST_DMA_ERROR: a read has not returned for 50 µs and fails (R461). -/
def execHostDmaError (id : Nat) (s : State) : Host.Outcome State Fault Refusal :=
  .next (match s.host.reads.find? fun r => r.id == id with
    | none => s
    | some r =>
      if s.now < r.issued + usTicks 50 then s
      else settle s (readFailed r 7 (s.modHost fun h => { h with reads := h.reads.filter fun x => x.id != id })))

/-- HOST_SILENT: no CQ head index has changed for the host liveness timeout (R461). -/
def execHostSilent (s : State) : Host.Outcome State Fault Refusal :=
  let ms := s.rf rEvtHostwd 0 16
  .next (if ms ≠ 0 ∧ s.ringsRun ∧ !s.host.silentReported ∧ s.host.lastHead + msTicks ms ≤ s.now then
      settle s (raise 137 evHostSilent 0 0 (s.modHost fun h => { h with silentReported := true }))
    else s)

/-! ## The PCIe link (R541, R576) -/

/-- The endpoint reset: its link is to be trained again, and its MSI-X table and pending bits return to their reset values (R354, R541, R568). -/
def HostLink.resetEndpoint (h : HostLink) : HostLink := { h with endpointReset := true, msixTable := [], msixPending := 0 }

/-- A reset of the endpoint: every SQ stops with cause doorbell read (R541). -/
def endpointResets (s : State) : State :=
  raise 184 evCdieEndpointReset 0 0
    (forAll (fun q t => if t.sqEn q && t.power.sealed then stopSq q 2 t else t) (s.modHost HostLink.resetEndpoint))

/-- The PCIe endpoint can be trained: in WAKING from 8.0 ms on (R534). -/
def State.endpointReady (s : State) : Bool := s.awake || (s.power.dev == .waking && decide (s.power.wakeAt + msTicks 8 ≤ s.now))

/-- PCIE_ENDPOINT_RESET: only the endpoint is reset, from when its link can be trained on (R534, R541, R544). -/
def execPcieEndpointReset (s : State) : Host.Outcome State Fault Refusal :=
  .next (if !s.endpointReady then s else settle s (endpointResets (closeDebug (s.modPower fun p => { p with lastReset := 5 }))))

/-- PCIE_LINK_DOWN (R461, R576). -/
def execPcieLinkDown (s : State) : Host.Outcome State Fault Refusal :=
  .next (if s.host.up then
      settle s (stand 137 evHostLinkDown (raise 137 evHostLinkDown 0 0 (s.modHost fun h => { h with up := false })))
    else s)

/-- PCIE_LINK_RETURN: the writes that waited are issued in their order, frames that waited are delivered (R389, R576). -/
def execPcieLinkReturn (s : State) : Host.Outcome State Fault Refusal :=
  .next (if (s.host.up && !s.host.endpointReset) || !s.endpointReady then s
    else
      let t := unstand 137 evHostLinkDown (s.modHost fun h =>
        { h with up := true, endpointReset := false, issued := h.waiting.reverse ++ h.issued, waiting := [] })
      settle s (deliverHeld t))

/-- POSTED_WRITE_ERROR_REPORTED (R576). -/
def execPostedWriteErrorReported (addr : BitVec 64) (req : BitVec 8) (s : State) : Host.Outcome State Fault Refusal :=
  .next (settle s (hostError addr req true 0 s))

/-! ## Acceptance (R336, R337, R339, R348, R349, R355, R357 to R360, R375) -/

/-- The oldest ASN that is not posted. -/
def State.oldestAsn (s : State) : Word32 :=
  s.rings.journal.foldl (fun a e => if e.state != .posted && asnAtOrAfter a e.asn then e.asn else a) s.rings.nextAsn

/-- A descriptor of SQ q can be accepted: a free journal entry, room in the target CQ, no unposted ASN 2^30 or more behind (R337,
R375). -/
def State.acceptRoom (s : State) (q : SqId) : Bool :=
  decide (s.rings.journal.length < 8192) && s.cqRoom (s.sqCq q) && decide ((s.rings.nextAsn - s.oldestAsn).toNat < 2 ^ 30)

/-- SQ q has an announced descriptor that it could accept now or once it has been read. -/
def State.sqWorks (s : State) (q : SqId) : Bool :=
  let x := s.rings.sq[q]
  s.sqEn q && !x.stopped && !x.readBackFailed && x.hostIdx != x.acceptedIdx && s.acceptRoom q

/-- The SQ whose turn it is in the rounds of R336: up to eight descriptors of each SQ that has any, in the order SQ0 to SQ7. -/
def State.sqTurn (s : State) : Option SqId :=
  let first : List SqId := if s.rings.takenInTurn < 8 then [s.rings.turn] else []
  let rest : List SqId := (List.range 8).map fun i => ⟨(s.rings.turn.val + 1 + i) % 8, Nat.mod_lt _ (by decide)⟩
  (first ++ rest).find? s.sqWorks

/-- Words that lie 2^30 or more before an ASN are set to that ASN less 2^30 (R375). -/
def AsnWords.age (w : AsnWords) (asn : Word32) : AsnWords :=
  let f (x : Word32) : Word32 := if 2 ^ 30 ≤ (asn - x).toNat then asn - BitVec.ofNat 32 (2 ^ 30) else x
  { h := f w.h, o := f w.o }

/-- The ageing of every target word at an ASN that is a multiple of 2^28 (R375). -/
def ageWords (asn : Word32) (s : State) : State :=
  if asn.toNat % 2 ^ 28 ≠ 0 then s else
  let s := (List.range 256).foldl (fun t c => storeCtxWords c ((t.ctxWords c).age asn) t) s
  let s := s.modRings fun r =>
    { r with
      regionWords := r.regionWords.map (·.age asn), portWords := r.portWords.map (·.age asn)
      timeWords := r.timeWords.age asn, faultWords := r.faultWords.age asn }
  let s := { s with
    sessions := s.sessions.map fun (x : Session) => { x with words := x.words.age asn }
    weirs := s.weirs.map fun (x : Weir) => { x with words := x.words.age asn } }
  s.modPair fun p => { p with regions := p.regions.map fun (x : PairRegion) => { x with words := x.words.age asn } }

/-- The target of a descriptor as its entry names it; a PROBE_STOP's is the context in which its probe number runs or last ran (R358, R364;
notes/assumptions/135.md). -/
def State.targetOfDesc (s : State) (d : List Byte) : Nat × Nat :=
  let p := s.loop.probes[(⟨dByte d 16 % 16, Nat.mod_lt _ (by decide)⟩ : Fin 16)]
  if dOpcode d = 0x14 then (1, (p.ctx.getD p.last).val) else targetOf (dOpcode d) d

/-- Timed actions pending (R349, R356). -/
def State.timedCount (s : State) : Nat := (s.rings.work.filter fun w => w.kind == .timed).length

/-- Checks 1 to 3 of R339 and the timed queue's room (R348, R349): the status a descriptor ends with at acceptance, if any. -/
def State.acceptCheck (s : State) (d : List Byte) : Option (Word16 × Word32) :=
  (formCheck d).or
    (match lateness d s.cTimeNs with
    | some l => if dFlags d % 2 = 1 then some (stPast, l) else none
    | none => if dAtTime d ≠ 0 ∧ 1024 ≤ s.timedCount then some (stState, 0x400) else none)

/-- A descriptor of SQ q accepted into slot k: copied, stored as ACCEPTED with the next ASN, its work handed to the C-die (R336, R348,
R349, R357 to R360). -/
def acceptInto (q : SqId) (k : Slot) (d : List Byte) (s : State) : State :=
  let asn := s.rings.nextAsn
  let late := lateness d s.cTimeNs
  let timed := (formCheck d).isNone && dAtTime d != 0 && late.isNone
  let t := s.targetOfDesc d
  let bad := s.acceptCheck d
  let e : JEntry :=
    { slot := k, asn := asn, sq := q, cq := s.sqCq q, timed := timed, opcode := BitVec.ofNat 16 (dOpcode d), hostTag := dTag d
      targetClass := BitVec.ofNat 8 t.1, targetIndex := BitVec.ofNat 8 t.2, acceptTime := s.cTimeNs }
  let s := (s.write 0x02 (descAddr k) d).modRings fun r =>
    { r with
      journal := r.journal ++ [e], nextAsn := if asn + 1 = 0 then 1 else asn + 1, unacked := r.unacked ++ [k]
      work := r.work ++ [{ slot := k, kind := if timed then .timed else .ready, late := late, count := s.boundCount d }]
      takenInTurn := if r.turn = q ∧ r.takenInTurn < 8 then r.takenInTurn + 1 else 1, turn := q }
  let s := s.modSq q fun x => { x with acceptedIdx := x.acceptedIdx + 1, fetched := none, waitReported := false }
  let s := ageWords asn (fetchNext q (wroteJournal k.val s))
  match bad with
  | some f =>
    let s := finishFail k f.1 f.2 s
    if f = (stState, 0x400) then raise 136 evRingTimedFull 0 0 s else s
  | none => s

/-- DESCRIPTOR_ACCEPT: the SQ's next descriptor, in its turn, its copy written once no refresh has the memory (R360, R495); an SQ that must wait for journal or CQ space says so once per wait (R336,
R337, R355). -/
def execDescriptorAccept (q : SqId) (s : State) : Host.Outcome State Fault Refusal :=
  let x := s.rings.sq[q]
  .next (match x.fetched with
    | none => s
    | some d =>
      if !(s.ringsRun && s.pReach && s.power.sealed && s.sqEn q && !x.stopped && !x.readBackFailed && !s.replayRuns && !s.refreshing) then s
      else if !s.acceptRoom q then
        (if x.waitReported then s else settle s (raise (srcSq q) evSqWaiting 0 0 (s.modSq q fun y => { y with waitReported := true })))
      else if s.sqTurn ≠ some q then s
      else match s.freeSlot with
        | some k => settle s (acceptInto q k d s)
        | none => s)

/-- The oldest unacknowledged acceptance is acknowledged, and DEV_IDX of the SQ line follows (R334, R360). -/
def ackOne (e : JEntry) (s : State) : State :=
  let n := s.rings.sq[e.sq].devIdx + 1
  let s := (s.modRings fun r => { r with unacked := r.unacked.drop 1 }).modSq e.sq fun x => { x with devIdx := n }
  hostWrite (s.lineAddr e.sq.val + 32) (leBytes 4 n.toNat) s

/-- JOURNAL_ACKNOWLEDGE: acknowledgements come in the order of acceptance (R360). -/
def execJournalAcknowledge (slot : Slot) (s : State) : Host.Outcome State Fault Refusal :=
  .next (match s.rings.unacked.head?, s.entry slot with
    | some k, some e => if k = slot ∧ s.pReach ∧ s.power.cRun then ackOne e s else s
    | _, _ => s)

/-- Acceptances that were never acknowledged: their descriptors keep their SQ slots unaccepted, and the ASN has not been stepped (R360). -/
def rollBack (s : State) : State :=
  match s.rings.unacked with
  | [] => s
  | k :: _ =>
    let l := s.rings.unacked
    let first := match s.entry k with | some e => e.asn | none => s.rings.nextAsn
    let mine (q : SqId) : Nat := (s.rings.journal.filter fun e => e.sq == q && l.contains e.slot).length
    let s := forAll (fun q t => t.modSq q fun x =>
      if mine q = 0 then x else { x with acceptedIdx := x.acceptedIdx - BitVec.ofNat 32 (mine q), fetched := none }) s
    let s := s.modHost fun h => { h with reads := h.reads.filter fun r =>
      match r.use with | .command k => !l.contains k | .descriptor q => mine q == 0 | _ => true }
    s.modRings fun r =>
      { r with
        nextAsn := first, unacked := [], journal := r.journal.filter (fun e => !l.contains e.slot)
        work := r.work.filter (fun w => !l.contains w.slot), finished := r.finished.filter (fun k => !l.contains k)
        rePost := r.rePost.filter fun p => !l.contains p.slot }

/-! ## Posting (R340, R341, R346, R362, R368) -/

/-- STATUS, DETAIL and RESULT of an entry's completion: as recorded, or REPLAYED (R340, R368). -/
def State.outcome (s : State) (e : JEntry) : Word16 × Word32 × Word64 :=
  match s.rings.rePost.find? fun p => p.slot == e.slot with
  | none => (e.status, e.detail, e.result)
  | some p =>
    let o := p.kept.getD (e.status, e.result)
    (stReplayed,
      BitVec.ofNat 32 ((if p.lost then 0 else o.1.toNat) + 2 ^ 16 * (if p.reApplied then 2 else 1) + 2 ^ 18 * b2n p.lost + 2 ^ 20 * p.cause.toNat),
      if p.lost then 0 else o.2)

/-- The completion of an entry at index i of its CQ; its TIME is that at which the command completed, of a REPLAYED one that at which it is
written (R340, R368). -/
def State.completion (s : State) (e : JEntry) (i : Word32) : List Byte :=
  let o := s.outcome e
  let time := if s.rings.rePost.any fun p => p.slot == e.slot then s.cTimeNs else e.doneAt
  leBytes 4 e.hostTag.toNat ++ leBytes 4 e.asn.toNat ++ leBytes 2 o.1.toNat ++ ringField e.sq.val false (s.cqPhase e.cq i) ++
    leBytes 4 o.2.1.toNat ++ leBytes 8 time.toNat ++ leBytes 8 o.2.2.toNat

/-- An entry marked POSTED, which frees it (R362). -/
def freeEntry (k : Slot) (s : State) : State :=
  (dropWork k s).modRings fun r =>
    { r with
      journal := r.journal.filter (fun e => e.slot ≠ k), finished := r.finished.filter (· ≠ k)
      unacked := r.unacked.filter (· ≠ k), rePost := r.rePost.filter fun p => p.slot ≠ k }

/-- An entry posted: its index assigned, or the one it has, stored with CI_VALID, the completion written, the entry marked POSTED (R362).
A POSTED entry is freed when the next tick passes with the journal in reach; the mark of one that is not freed by then has been lost
in flight (R366). -/
def postEntry (e : JEntry) (s : State) : State :=
  let i := if e.ciValid then e.cqIdx else s.rings.cq[e.cq].nextIdx
  let l := s.completion e i
  let s := if e.ciValid then s else s.modCq e.cq fun c => { c with nextIdx := i + 1 }
  let s := dropWork e.slot (writeCq e.cq i l false s)
  (modEntry e.slot (fun x => { x with state := .posted, unrecorded := x.state == .accepted, ciValid := true, cqIdx := i }) s).modRings fun r =>
    { r with finished := r.finished.filter (· ≠ e.slot), rePost := r.rePost.filter fun p => p.slot ≠ e.slot }

/-- The journal can no longer be reached: marks in flight are lost (R366). -/
def losePosted (s : State) : State :=
  s.modRings fun r =>
    { r with journal := r.journal.map fun e => if e.state = .posted then { e with state := if e.unrecorded then .accepted else .applied } else e }

/-- A finished command x goes before e to be posted: an immediate one of lower ASN of the same SQ but for REGION_COMMIT and NET_RX_POST (R346),
or where both are posted by a replay the one of lower ASN (R367). -/
def State.postsBefore (s : State) (x e : JEntry) : Bool :=
  x.slot != e.slot && asnAtOrAfter e.asn x.asn && s.rings.finished.contains x.slot &&
    ((x.sq == e.sq && !x.timed && !e.timed && x.opcode != 0x06 && x.opcode != 0x21 && e.opcode != 0x06 && e.opcode != 0x21) ||
      (s.replayPosts x && s.replayPosts e))

/-- A finished command may be posted: it is APPLIED or found applied by a replay, acknowledged, for an immediate command nothing of its line
stands before it, none that finished goes before it, and a replay's are posted in ASN order (R346, R360, R367). -/
def State.postable (s : State) (k : Slot) : Bool :=
  match s.entry k with
  | none => false
  | some e =>
    (e.state == .applied || s.rings.rePost.any fun p => p.slot == k && p.kept.isSome) && !s.rings.unacked.contains k &&
      (e.timed || s.rings.journal.all fun x => !s.standsBefore x e) && (s.rings.journal.all fun x => !s.postsBefore x e) &&
      !(s.replayPosts e && s.replayBefore e)

/-- COMPLETION_POST: completions are posted in the order in which their commands finish (R346, R362). Posting waits for the journal, the
replay and the host (R366, R576). -/
def execCompletionPost (slot : Slot) (s : State) : Host.Outcome State Fault Refusal :=
  .next (if s.ringsRun && s.pReach && s.hostUp && !s.rings.replaying && s.rings.finished.find? s.postable == some slot then
      (match s.entry slot with | some e => postEntry e s | none => s)
    else s)

/-! ## Interrupts (R354) -/

/-- CQ m is to signal: COUNT entries, TIME_US since the oldest, each entry with TIME_US 0, or an urgent record (R354). -/
def State.signalDue (s : State) (m : CqId) : Bool :=
  let c := s.rings.cq[m]
  let us := s.rf (rSysCqInt m) 16 16
  s.power.cRun && s.rb (rSysCqInt m) 7 && decide (0 < c.unsignalled) &&
    (c.urgent || us == 0 || decide (s.rf (rSysCqInt m) 8 8 ≤ c.unsignalled) || decide (c.oldest + usTicks us ≤ s.now))

/-- Reset value of a word of the MSI-X table: every vector is masked (PCIe, PRESUMED; notes/assumptions/80.md). -/
def msixReset (k : Nat) : Word32 := if k % 4 = 3 then 1 else 0

/-- A word of the MSI-X table. -/
def State.msixWord (s : State) (k : Nat) : Word32 := look msixReset s.host.msixTable k

/-- Vector v is masked (R354). -/
def State.msixMasked (s : State) (v : Nat) : Bool := bitAt (s.msixWord (4 * v + 3)) 0

/-- The message of vector v, a posted write, which waits for the link as every write does (R354, R576). -/
def sendMsix (v : Nat) (s : State) : State :=
  hostWrite (BitVec.ofNat 64 ((s.msixWord (4 * v)).toNat + 2 ^ 32 * (s.msixWord (4 * v + 1)).toNat)) (leBytes 4 (s.msixWord (4 * v + 2)).toNat) s

/-- Vector v signalled, or pending while it is masked (R354). -/
def signalVector (v : Nat) (s : State) : State :=
  if s.msixMasked v then s.modHost fun h => { h with msixPending := h.msixPending ||| BitVec.ofNat 32 (2 ^ v) } else sendMsix v s

/-- A word written at byte offset b of BAR2: to the MSI-X table; a vector unmasked while it is pending is sent (R354). -/
def writeMsix (b : Nat) (w : Word32) (s : State) : State :=
  let k := b / 4
  if 128 ≤ k then s
  else
    let x := if k % 4 = 0 then w &&& 0xFFFFFFFC else if k % 4 = 3 then w &&& 1 else w
    let s := s.modHost fun h => { h with msixTable := put msixReset h.msixTable k x }
    if s.msixMasked (k / 4) || !bitAt s.host.msixPending (k / 4) then s
    else sendMsix (k / 4) (s.modHost fun h => { h with msixPending := h.msixPending &&& ~~~(BitVec.ofNat 32 (2 ^ (k / 4))) })

/-- MSIX_SIGNAL. -/
def execMsixSignal (m : CqId) (s : State) : Host.Outcome State Fault Refusal :=
  .next (if s.signalDue m then
      signalVector (s.rf (rSysCqInt m) 0 5) (s.modCq m fun c => { c with unsignalled := 0, urgent := false })
    else s)

/-! ## The patrol scrubber (R377) -/

/-- PATROL_SCRUB: a line of package memory or of the journal is read, and written back if it could be corrected (R376, R377). -/
def execPatrolScrub (journal : Bool) (line : Nat) (s : State) : Host.Outcome State Fault Refusal :=
  .next (if journal then
      (match s.rings.journalErr.find? fun e => e.1 == line with | some e => settle s (readJournal line e.2 0x07 3 s) | none => s)
    else if s.power.cRun && !s.power.selfRefresh && !s.refreshing then
      (match s.memErr.find? fun e => e.1 == line with | some e => settle s (readLine line e.2 0x07 3 s) | none => s)
    else s)

end Sys2Proof.Machine
end

