-- ==== Sys2Proof/Machine/Replay.lean ====
section
/-!
DEFINITION. Timed actions (R349 to R351) and the replay of the journal (R365 to R371).
-/
namespace Sys2Proof.Machine

open Sys2Proof

/-- A command applied, by its opcode (R344). -/
def applyCommand (k : Slot) (s : State) : State :=
  match s.opcodeOf k with
  | 0x00 => finishOk k 0 s
  | 0x05 => doRegionMode k s
  | 0x06 => doRegionCommit k s
  | 0x10 => doCaptureArm k s
  | 0x12 => doCaptureStop k s
  | 0x20 => runNetTx k s
  | 0x22 => doTimeAdjust k s
  | 0x40 => doPairSwap k s
  | 0x50 => doFaultClear k s
  | 0x51 => doEventForce k s
  | _ => doCtxCommand k s

/-! ## Timed actions (R349, R350) -/

/-- A timed NET_TX at its time waits only for the waits of TS_REQ (R396). -/
def State.txDue (s : State) (k : Slot) : Bool :=
  let d := s.desc k
  (txPre d (!(s.txPorts d).isEmpty)).isSome || !s.dataReady k || dataFailed k s || s.txMay d

/-- A timed action of the queue may take effect now by its own rule of R349: one on a region here only where the carrier of a region it names does
not run, else at the boundary; one on a context with release points at a release, but for a write to a paired region, which is given its
apply count ahead (R420). One whose data is being read, or which waits for its ports, is not due and holds up no other (R396). -/
def State.actionDue (s : State) (k : Slot) : Bool :=
  let op := s.opcodeOf k
  s.timedWork k && !(s.host.reads.any fun r => r.use == .command k) &&
    (if op = 0x05 ∨ op = 0x06 ∨ op = 0x40 then
      s.atTimeReached k && ((s.namedRegions k).isEmpty || (s.namedRegions k).any fun r => (s.nextBoundary r).isNone)
    else if ctxOpcode op then
      (op != 2 || s.hostUp) &&
        (match s.ctxTarget k with
        | none => s.atTimeReached k
        | some c =>
          if op = 1 ∧ s.pairedBusy c then true
          else s.atTimeReached k && !s.hasReleases c && !(s.loop.rt[c]).released)
    else if op = 0x20 then s.atTimeReached k && s.txDue k
    else s.atTimeReached k)

/-- Data of a timed CTX_WRITE or NET_TX is read from 50 µs before its AT_TIME, so that it is here in time (notes/assumptions/137.md). -/
def State.fetchDue (s : State) (k : Slot) : Bool :=
  let d := s.desc k
  s.timedWork k && decide ((dAtTime d).toNat ≤ s.cTimeNs.toNat + 50000) &&
    (if s.opcodeOf k = 1 then !s.dataHere k else s.opcodeOf k == 0x20 && txLenOk d && dByte d 26 % 4 != 3 && !s.dataReady k)

/-- The host address of a command's data. -/
def dDataAddr (d : List Byte) : Word64 := BitVec.ofNat 64 (if dOpcode d = 0x20 then leAt d 16 8 else leAt d 24 8)

/-- TIMED_ACTION_DUE: of the actions that are due, the one of the earliest AT_TIME and then ASN (R349, R350); before that its data is read. -/
def execTimedActionDue (slot : Slot) (s : State) : Host.Outcome State Fault Refusal :=
  .next (match s.entry slot with
    | none => s
    | some e =>
      if s.fetchDue slot then fetchData slot (dDataAddr (s.desc slot)) s
      else if s.actionDue slot && !(s.rings.journal.any fun x => x.slot != slot && s.actionDue x.slot && s.dueBefore x e) then
        settle s (applyCommand slot s)
      else s)

/-! ## Replay (R365 to R371) -/

/-- Replay is to run, with its cause (R366, R368). -/
def startReplay (cause : BitVec 4) (s : State) : State :=
  s.modRings fun r => { r with replaying := true, lastCause := cause, replays := satInc r.replays }

/-- The C-die still holds the work of an entry, or its outcome waits for posting (R366). -/
def State.workHeld (s : State) (k : Slot) : Bool := (s.workOf k).isSome || s.rings.finished.contains k

/-- A read-back that failed: recorded and reported as every failed read, its PCIe status a free value; the entry stays unposted, every SQ
that targets the CQ stops (R369, R378, R576). -/
def readBackFailed (e : JEntry) (s : State) : State :=
  let p := s.fresh
  let s := raise 162 evReplayReadBack 0 0 (hostError (s.cqAddr e.cq e.cqIdx) 0x13 false (p.1.setWidth 3) p.2)
  forAll (fun q t =>
    if t.sqEn q && t.sqCq q == e.cq then (stopSq q 4 t).modSq q fun x => { x with readBackFailed := true } else t) s

/-- An entry handed to posting as REPLAYED with SKIPPED, with what its outcome record says where it has none itself. -/
def skipEntry (e : JEntry) (lost : Bool) (kept : Option (Word16 × Word64)) (s : State) : State :=
  s.modRings fun r =>
    { r with
      finished := r.finished ++ [e.slot]
      rePost := r.rePost ++ [{ slot := e.slot, cause := r.lastCause, reApplied := false, lost := lost, kept := kept }] }

/-- An ACCEPTED entry found applied on its target: it stays ACCEPTED until it is posted, with its outcome from the outcome record, lost where that
cannot be read or holds another ASN (R363, R367). -/
def skipApplied (e : JEntry) (s : State) : State :=
  let p := readMem (outcomeAddr e.slot) 32 0x02 0 s
  let l := p.2.bytes (outcomeAddr e.slot) 32
  skipEntry e (p.1.isSome || leAt l 0 4 != e.asn.toNat) (some (BitVec.ofNat 16 (leAt l 4 2), BitVec.ofNat 64 (leAt l 16 8))) p.2

/-- The receive unit holds the buffer of an entry, which a replay leaves to wait for its frame (R365). -/
def State.bufferHeld (s : State) (e : JEntry) : Bool :=
  e.opcode == 0x21 && (s.net.bufs.any (fun b => b.asn == e.asn) || s.net.rxHeld.any fun x => x.buf.asn == e.asn)

/-- Work returned to the C-die by a replay, as it is accepted: LATE as on first application where its AT_TIME had passed at acceptance (R348,
R367). -/
def returnWork (e : JEntry) (kind : WorkKind) (s : State) : State :=
  let late := if e.timed then none else lateness (s.desc e.slot) e.acceptTime
  let count := s.boundCount (s.desc e.slot)
  s.modRings fun r => { r with work := r.work ++ [{ slot := e.slot, kind := kind, replay := some r.lastCause, late := late, count := count, handled := kind != .ready }] }

/-- An entry returned to the C-die: to wait for its frame where the receive unit holds its buffer, to the timed queue while its AT_TIME has not
been reached, or for re-application; with an uncorrectable descriptor copy it is not applied (R365, R367, R371). -/
def returnEntry (e : JEntry) (s : State) : State :=
  if s.bufferHeld e then returnWork e .lent s
  else
    let p := readMem (descAddr e.slot) 64 0x02 0 s
    if p.1.isSome then finishFail e.slot stAbortedFault 0xFFFF0001 p.2
    else returnWork e (if e.timed && !p.2.atTimeReached e.slot then .timed else .ready) p.2

/-- One entry handled by the replay (R367), with what the read-backs returned. -/
def replayEntry (l : List ReadBack) (e : JEntry) (s : State) : State :=
  let held := (l.find? fun b => b.slot == e.slot).bind ReadBack.held
  let written : Bool := match held with | some h => h.1 == e.asn && h.2 == s.cqPhase e.cq e.cqIdx | none => false
  if s.workHeld e.slot then s
  else if e.ciValid ∧ held.isNone then readBackFailed e s
  else if e.ciValid ∧ written then freeEntry e.slot s
  else if e.state = .applied then skipEntry e false none s
  else if s.appliedOnTarget e then skipApplied e s
  else returnEntry e s

/-- JOURNAL_REPLAY: every entry not held by the C-die, in ASN order; journal slots with symbol errors are read first (R366 to R371,
R378). -/
def execJournalReplay (readBack : List ReadBack) (s : State) : Host.Outcome State Fault Refusal :=
  .next (if !(s.rings.replaying && s.pReach && s.power.cRun) then s
    else
      let t := forList (fun (e : Nat × SymErr) t => readJournal e.1 e.2 0x02 0 t) s.rings.journalErr s
      let t := t.modRings fun r => { r with sq := r.sq.map fun x => { x with readBackFailed := false } }
      let todo := t.rings.journal.filter fun e => e.state != .posted && !t.workHeld e.slot
      let t := forList (replayEntry readBack) todo t
      let skipped := (todo.filter fun e => t.rings.rePost.any fun p => p.slot == e.slot && !p.reApplied).length
      let t := t.modRings fun r => { r with replaying := false }
      settle s (deliverHeld (raise 162 evReplayDone (BitVec.ofNat 32 t.rings.lastCause.toNat)
        (BitVec.ofNat 32 skipped) t)))

end Sys2Proof.Machine
end

