-- ==== Sys2Proof/Machine/Millrace.lean ====
section
/-!
DEFINITION. The Millrace link (R12 to R17): which frame a die sends, its receipt, replay and credits, and the link's failure. The link's
return stands in Access.lean.
-/
namespace Sys2Proof.Machine

open Sys2Proof

/-- The other die. -/
def Die.other : Die → Die
  | .p => .c
  | .c => .p

/-- The virtual channel served next: the highest priority that has a frame ready and a credit (R13, R14). -/
def MrDir.nextVc (m : MrDir) : Option (Fin 4) := (List.finRange 4).find? fun v => !(m.waiting[v]).isEmpty && m.credits[v] != 0

/-- A frame put on the wire with the next sequence number, and kept in the replay buffer (R12, R15). -/
def MrDir.launch (m : MrDir) (f : MrFrame) : MrDir :=
  let f := { f with seq := m.nextSeq }
  { m with nextSeq := m.nextSeq + 1, sent := m.sent ++ [f], wire := m.wire ++ [f] }

/-- The next frame put on the wire; it uses one of its channel's credits (R12 to R14). -/
def MrDir.start (m : MrDir) : MrDir :=
  match m.nextVc with
  | none => m
  | some v =>
    match m.waiting[v] with
    | [] => m
    | f :: t =>
      { m with waiting := m.waiting.set v.val t v.isLt, credits := m.credits.set v.val (m.credits[v] - 1) v.isLt }.launch f

/-- The oldest frame asked for again is sent again, as the replay buffer holds it (R15, R457). -/
def MrDir.resend (m : MrDir) : MrDir :=
  match m.again with
  | [] => m
  | f :: t =>
    let f := (m.sent.find? fun g => g.seq == f.seq).getD f
    { m with
      again := t, wire := m.wire ++ [f], replays := if f.seq = m.expect then m.replays + 1 else m.replays
      sent := m.sent.map fun g => if g.seq = f.seq then { g with invert := g.invert - 1 } else g }

/-- The credits that the receiver owes a direction reach its transmitter (R13). -/
def MrDir.credit (m : MrDir) : MrDir := { m with credits := Vector.ofFn fun v => m.credits[v] + m.owed[v], owed := Vector.replicate 4 0 }

/-- The die's transmitter sends its next frame: one asked for again; else, while the replay buffer has room, one of the virtual channels. The
credits that the die owes the other's transmitter go with it, and are no frame (R13 to R15; notes/assumptions/109.md). -/
def sendNext (d : Die) (s : State) : State :=
  let s := s.modMr d.other MrDir.credit
  let m := s.mr d
  if !m.again.isEmpty then { s with replayCnt := satInc s.replayCnt }.modMr d MrDir.resend
  else if 64 ≤ m.sent.length then s
  else s.modMr d MrDir.start

/-- MILLRACE_FRAME_BOUNDARY: the die's transmitter has finished a frame, or has sent none, and sends the next (R14). -/
def execMillraceFrameBoundary (d : Die) (s : State) : Host.Outcome State Fault Refusal :=
  .next (if s.pReach && s.power.cRun then sendNext d s else s)

/-- What a delivered frame brings to the die that receives it. -/
def deliver (p : Payload) (s : State) : State :=
  match p with
  | .samples l => forList (fun x t => captureSet x (loopSet x t)) l s
  | .chain f => captureChain f (loopChain f s)
  | .notice n => captureNotice n s
  | .duty f => { s with dutyIn := s.dutyIn ++ [f] }

/-- A frame delivered: acknowledged, its successor expected, its credit owed (R13, R15). -/
def MrDir.accept (m : MrDir) (f : MrFrame) : MrDir :=
  { m with
    expect := m.expect + 1, replays := 0, sent := m.sent.drop 1, owed := m.owed.set f.vc.val (m.owed[f.vc] + 1) f.vc.isLt }

/-- A replay is asked for from the expected number on; once that frame has been replayed 4 times and none of these is under way any more,
the link is to fail (R15, R16). -/
def MrDir.askAgain (m : MrDir) : MrDir :=
  if m.replays < 4 then { m with again := m.sent }
  else if (m.wire ++ m.again).any fun f => f.seq == m.expect then m
  else { m with exhausted := true }

/-- A frame that arrives with a bad CRC: recorded with received CRC XOR computed CRC, the event of source 163 and a replay asked for (R15,
R454, R456; notes/assumptions/144.md). -/
def badFrame (d : Die) (f : MrFrame) (diff : Word32) (s : State) : State :=
  let s := captureError 1 (BitVec.ofNat 48 f.seq.toNat) (BitVec.ofNat 8 (f.vc.val + (match d with | .p => 0 | .c => 4))) 8
    (diff.setWidth 48) 0 s
  (raise 163 evMillraceFailure 0 0 s).modMr d MrDir.askAgain

/-- The next frame on the wire of the die that sends it arrives, changed by an error pattern, after `skip` frames that never arrive: delivered
in its turn, once; a bad CRC or a number missing before it asks for a replay (R15). -/
def frameArrives (d : Die) (skip : Nat) (err : List Byte) (s : State) : State :=
  let m := s.mr d
  match m.wire.drop skip with
  | [] => s
  | f :: t =>
    let s := s.modMr d fun m => { m with wire := t }
    if f.crcDiff err ≠ 0 then badFrame d f (f.crcDiff err) s
    else if f.seq = m.expect then deliver f.payload (s.modMr d fun m => m.accept f)
    else if m.sent.any fun g => g.seq == f.seq then s.modMr d MrDir.askAgain
    else s

/-- MILLRACE_FRAME_RECEIVE. -/
def execMillraceFrameReceive (d : Die) (skip : Nat) (err : List Byte) (s : State) : Host.Outcome State Fault Refusal :=
  .next (if s.pReach && s.power.cRun then settle s (frameArrives d skip err s) else s)

/-- What a direction still had to deliver is lost (R17). -/
def loseFrames (m : MrDir) (s : State) : State :=
  forList (fun (f : MrFrame) t => losePayload f.payload t) (m.sent ++ m.waiting.toList.flatten) s

/-- The link goes down: frames in flight, and with them those that wait, are lost, and numbers and credits start anew; unacknowledged
acceptances are undone, the P-die keeps its events (R17, R322, R360, R438; notes/assumptions/110.md). -/
def millraceDown (s : State) : State :=
  bufferEvents <| losePosted <| rollBack { loseFrames s.mrP s with linkUp := false, mrP := {}, mrC := {} }

/-- A link failure: counted, and the event of source 163 (R16, R17, R461); inside a C-die reset window it is CONSEQUENTIAL (R450). -/
def linkFails (s : State) : State :=
  if !s.linkUp then s
  else
    stand 163 evMillraceFailure (raiseFull 163 evMillraceFailure 0 0 (some .cDie) false (millraceDown { s with failCnt := satInc s.failCnt }))

/-- The lock bits that a failure of the direction of die d clears: those of the direction that the C-die receives (R17). -/
def dropLock (d : Die) (c : LinkCause) (s : State) : State :=
  if d = .p then { s with lane0 := s.lane0 && c != .lane0, lane1 := s.lane1 && c != .lane1 } else s

/-- MILLRACE_LINK_FAILURE: in the direction of die d a lane has lost lock for 400 ticks, nothing has arrived for as long, or a frame has been
replayed four times without acknowledgement (R16). -/
def execMillraceLinkFailure (d : Die) (cause : LinkCause) (s : State) : Host.Outcome State Fault Refusal :=
  .next (if s.linkUp && (cause != .exhausted || (s.mr d).exhausted) then settle s (linkFails (dropLock d cause s)) else s)

end Sys2Proof.Machine
end

