-- ==== Sys2Proof/Machine/SafetyFns.lean ====
section
/-!
DEFINITION. The steps of the safety functions SF1, SF2 and SF3 and of the outputs of J1 (R464 to R489, R549 to R554). What the channels
judge from the state stands in SafCore.lean, and every step here ends with `settle`.
-/
namespace Sys2Proof.Machine

open Sys2Proof

/-- The domain that feeds a channel is in regulation: PD_CORE or CD_SAF (R464). -/
def State.chPowered (s : State) (c : SafCh) : Bool := bitAt s.power.domOn (if c = 0 then 1 else 8)

/-- The channel judges: powered, and channel 2 out of the C-die's reset (R473, R485). -/
def State.chJudges (s : State) (c : SafCh) : Bool := s.chPowered c && (c == 0 || s.power.cRun)

/-- The source that reports a pair's discrepancy faults, and the event (R492). -/
def SafPair.src : SafPair → SourceId
  | .inh => 176 | .cov => 178
def SafPair.event : SafPair → EvDef
  | .inh => evSf1DiscFault | .cov => evSf3DiscFault

/-- A pair's discrepancy fault holds in a channel. -/
def State.discHeld (s : State) (p : SafPair) : Bool := (s.saf.ch[0]).discFault[p.idx] || (s.saf.ch[1]).discFault[p.idx]

/-! ## Inputs (R468, R469, R472) -/

/-- The channel has read both inputs of a pair since its last reset (R473). -/
def SafChannel.bothSeen (c : SafChannel) (p : SafPair) : Bool :=
  match p with | .inh => c.seen[0] && c.seen[1] | .cov => c.seen[2] && c.seen[3]

/-- The discrepancy timer of a pair after a change of its inputs: it runs while they differ (R469). -/
def SafChannel.runTimer (p : SafPair) (now : Nat) (c : SafChannel) : SafChannel :=
  { c with discSince := upd c.discSince p.idx fun t =>
      if c.readA p = c.readB p ∨ !c.bothSeen p then none else (if t.isSome then t else some now) }

/-- A latched fault notes that both inputs read demand, and clears once they both read no demand after that (R469). -/
def SafChannel.runLatch (p : SafPair) (c : SafChannel) : SafChannel :=
  let k := p.idx
  if !c.discFault[k] then c
  else if !c.readA p && !c.readB p && c.bothSeen p then { c with discBoth := upd c.discBoth k fun _ => true }
  else if c.readA p && c.readB p && c.discBoth[k] then
    { c with discFault := upd c.discFault k (fun _ => false), discBoth := upd c.discBoth k fun _ => false }
  else c

/-- The start-up test's 20 ms run while both inhibit inputs read demand, until it is passed (R472). -/
def SafChannel.runStartup (now : Nat) (c : SafChannel) : SafChannel :=
  { c with startupSince := if !c.startup && !c.readA .inh && !c.readB .inh && c.bothSeen .inh then (if c.startupSince.isSome then c.startupSince else some now) else none }

/-- The channel after it has read an input: a new level, or the first one since its reset. -/
def SafChannel.read (x : SafInput) (noDemand : Bool) (now : Nat) (c : SafChannel) : SafChannel :=
  let c := { c with inputs := upd c.inputs x.idx (fun _ => noDemand), seen := upd c.seen x.idx fun _ => true }
  let c := (c.runTimer .inh now).runTimer .cov now
  ((c.runLatch .inh).runLatch .cov).runStartup now

/-- The end of a pair's discrepancy fault in the last channel that held it (R469, R492). -/
def discCleared (s0 : State) (p : SafPair) (s : State) : State :=
  if s0.discHeld p && !s.discHeld p then
    let s := unstand p.src p.event s
    if p = .inh then raise 176 evSf1DiscCleared 0 0 s else s
  else s

/-- FILT of an input's function in ticks; the feedback inputs, which have no parameter of their own, take the least (R468, R489, R550;
notes/assumptions/111.md). -/
def State.filtTicks (s : State) (x : SafInput) : Nat :=
  match x with
  | .inhA | .inhB => 40000 * s.rf rSafSf1Cfg 16 5
  | .covA | .covB => 40000 * s.rf rSafSf3Cfg 16 5
  | .fbA | .fbB => 80000

/-- SAFETY_INPUT_CHANGE: an input's new level has lasted a number of ticks in a channel, which takes it once that is FILT; after a
C-die reset channel 2 takes the level it finds so (R468, R473). -/
def execSafetyInputChange (c : SafCh) (x : SafInput) (noDemand : Bool) (lasted : Nat) (s : State) : Host.Outcome State Fault Refusal :=
  .next (if s.chJudges c && ((s.saf.ch[c]).inputs[x.idx] != noDemand || !(s.saf.ch[c]).seen[x.idx]) && decide (s.filtTicks x ≤ lasted) then
      settle s (discCleared s .cov (discCleared s .inh (s.modSafCh c (SafChannel.read x noDemand s.now))))
    else s)

/-- DISC of a pair in ms (R489, R493). -/
def State.discMs (s : State) (p : SafPair) : Nat := match p with | .inh => s.rf rSafSf1Cfg 0 9 | .cov => s.rf rSafSf3Cfg 0 9

/-- A channel latches a pair's discrepancy fault (R469, R551). -/
def latchDisc (c : SafCh) (p : SafPair) (s : State) : State :=
  stand p.src p.event (raise p.src p.event 0 0 (s.modSafCh c fun x =>
    { x with discFault := upd x.discFault p.idx (fun _ => true), discBoth := upd x.discBoth p.idx fun _ => !x.readA p && !x.readB p }))

/-- DISCREPANCY_FAULT: the pair's timer has reached DISC in the channel (R469). -/
def execDiscrepancyFault (c : SafCh) (p : SafPair) (s : State) : Host.Outcome State Fault Refusal :=
  let x := s.saf.ch[c]
  .next (if s.power.sealed && s.chJudges c && !x.discFault[p.idx] && decide (x.readA p ≠ x.readB p) &&
      (match x.discSince[p.idx] with | some t => decide (t + msTicks (s.discMs p) ≤ s.now) | none => false) then
      settle s (latchDisc c p s)
    else s)

/-- START_UP_TEST_PASSED: both inhibit inputs have read demand for 20 ms since the channel's power-up (R472). -/
def execStartUpTestPassed (c : SafCh) (s : State) : Host.Outcome State Fault Refusal :=
  let x := s.saf.ch[c]
  .next (if s.chJudges c && !x.startup && (match x.startupSince with | some t => decide (t + msTicks 20 ≤ s.now) | none => false) then
      settle s (raise 176 evSf1Passed 0 0 (s.modSafCh c fun y => { y with startup := true, startupSince := none }))
    else s)

/-- A loop supply pulses again: 100 ms after its own last pulse, 50 ms after the other's (R550). -/
def State.supplyPulses (s : State) (sup : SoId) (c : SafCh) : Bool :=
  let x := s.saf.ch[c]
  periodic (msTicks 100) x.supAt[sup] s.now && periodic (msTicks 50) x.supAt[1 - sup] s.now

/-- SUPPLY_PULSE_TEST: an input of the channel that reads no demand and does not follow its own loop supply's pulse, or follows the
other's, latches its pair's discrepancy fault; a feedback input, which has no pair, reads demand (R550, R551; notes/assumptions/143.md). -/
def execSupplyPulseTest (sup : SoId) (c : SafCh) (followed : BitVec 6) (s : State) : Host.Outcome State Fault Refusal :=
  let x := s.saf.ch[c]
  let wrong (i : Fin 6) : Bool := x.inputs[i] && (followed.getLsbD i.val != decide (i.val % 2 = sup.val))
  let t := if (wrong 0 || wrong 1) && !x.discFault[0] then latchDisc c .inh s else s
  let t := if (wrong 2 || wrong 3) && !x.discFault[1] then latchDisc c .cov t else t
  let t := if wrong 4 then t.modSafCh c (SafChannel.read .fbA false s.now) else t
  let t := if wrong 5 then t.modSafCh c (SafChannel.read .fbB false s.now) else t
  .next (if s.chJudges c && s.supplyPulses sup c then
      settle s (t.modSafCh c fun y => { y with supAt := upd y.supAt sup fun _ => some s.now })
    else s)

/-! ## The enable wire and the gates (R466, R467, R474, R485, R486) -/

/-- What the wire can be decoded as: absent exactly while power-good is low; from absent after a C-die reset back to enable only when
channel 2 rejoins; enable only while channel 2 runs the wave (R466, R485). -/
def State.wireCan (s : State) (w : WireState) : Bool :=
  match w with
  | .absent => !s.power.powerGood
  | .enable => s.power.powerGood && s.saf.wave && !(s.ch2Absent && s.saf.absentSince.isSome)
  | .demand => s.power.powerGood && !(s.ch2Absent && s.saf.absentSince.isSome)

/-- The wire decoded as absent: channel 2 is absent from now on (R485). -/
def wireAbsent (s : State) : State :=
  s.modSaf fun f => { f with wire := .absent, absentSince := if f.wire = .absent ∧ f.absentSince.isSome then f.absentSince else some s.now }

/-- Channel 2 in a reset of the C-die: it keeps the result of its start-up test, a run of the test breaks off, and it checks itself and reads
its inputs afresh before it rejoins (R473). -/
def SafChannel.inReset (c : SafChannel) : SafChannel :=
  { c with
    inputs := Vector.replicate 6 false, seen := Vector.replicate 6 false, discSince := Vector.replicate 2 none, startupSince := none, selfOk := false, checkedAt := none
    pulse := Vector.replicate 2 false }

/-- A half-period of the wave within its bounds (R466). -/
def goodHalf (n : Nat) : Bool := decide (3000 ≤ n) && decide (n ≤ 5000)

/-- What the decoder makes of the wave: its half-periods in ticks, the newest first, and the ticks since its last edge (R466). -/
def State.decodeWave (s : State) (halves : List Nat) (idle : Nat) : WireState :=
  if !s.power.powerGood then .absent
  else if 16000 ≤ idle || !(halves.take 8).all goodHalf then .demand
  else if 8 ≤ halves.length then .enable
  else s.saf.wire

/-- SECOND_PATH_DECODE: the decoder works wherever channel 1 does, through a P-die warm reset too (R466, R487, R540). -/
def execSecondPathDecode (halves : List Nat) (idle : Nat) (s : State) : Host.Outcome State Fault Refusal :=
  let w := s.decodeWave halves idle
  .next (if s.chPowered 0 && s.wireCan w then
      settle s (if w = .absent then wireAbsent s else s.modSaf fun f => { f with wire := w, absentSince := none })
    else s)

/-- Every island assigned to a region shows READY (R474). -/
def State.islandsReady (s : State) : Bool := (List.finRange 24).all fun i => (s.regionOf i).isNone || s.islands[i].ready

/-- GATE_ENABLE: path 1 is lifted at the first tick at which every assigned island is READY, or 10 ms after bias returned (R474). -/
def execGateEnable (s : State) : Host.Outcome State Fault Refusal :=
  .next (if s.saf.path1Block && s.saf.biasPermit && !s.path1Acts && s.mayEnable &&
      (match s.saf.biasAt with | some t => s.islandsReady || decide (t + 4000000 ≤ s.now) | none => false) then
      settle s (s.modSaf fun f => { f with path1Block := false })
    else s)

/-- CHANNEL_2_REJOINED: its checks are done and its wave, which its own judgement permits, decodes as enable; channel 2 reports its
absence and channel 1 the rejoining (R473, R485, R486). -/
def execChannel2Rejoined (s : State) : Host.Outcome State Fault Refusal :=
  .next (match s.saf.absentSince with
    | none => s
    | some t =>
      if s.ch2Absent && s.power.powerGood && s.chPowered 0 && s.waveOk then
        let c := s.modSaf fun f => { f with wire := .enable, absentSince := none, ch2Timeout := false }
        let c := raise 180 evCh2Absent (BitVec.ofNat 32 ((s.now - t) / 400000)) 0 c
        settle s (unstand 181 evPathAbsentLong (raise 181 evPathRejoined 0 0 c))
      else s)

/-- CHANNEL_2_ABSENT_TOO_LONG: the absence has passed T_ABSENT (R486). -/
def execChannel2AbsentTooLong (s : State) : Host.Outcome State Fault Refusal :=
  .next (if s.power.sealed && s.chPowered 0 && s.ch2Absent && !s.saf.ch2Timeout &&
      (match s.saf.absentSince with | some t => decide (t + 40000000 * s.rf rSafCh2Cfg 0 7 < s.now) | none => false) then
      settle s (stand 181 evPathAbsentLong (raise 181 evPathAbsentLong 0 0 (s.modSaf fun f => { f with ch2Timeout := true })))
    else s)

/-! ## Channel diagnostics (R487) -/

/-- CHANNEL_2_DID_NOT_FOLLOW_DEMAND: 4 ms after a demand, which may lie in a P-die warm reset, the wire still decodes as enable with
power-good high (R487, R540). -/
def execChannel2DidNotFollowDemand (s : State) : Host.Outcome State Fault Refusal :=
  .next (if s.chPowered 0 && s.sf1Demand 0 && s.power.powerGood && s.saf.wire == .enable && !s.saf.ch2NotFollowed &&
      (match s.saf.demandAt with | some t => decide (t + msTicks 4 ≤ s.now) | none => false) then
      settle s (stand 181 evPathNotFollowed (raise 181 evPathNotFollowed 0 0 (s.modSaf fun f => { f with ch2NotFollowed := true })))
    else s)

/-- No gate is on. -/
def State.gatesOff (s : State) : Bool := (List.finRange 48).all fun u => !s.units[u].gate

/-- A bad readback of path 1 makes path 2 act (R487). -/
def judgePath1 (ok : Bool) (s : State) : State :=
  if ok || s.saf.path1Fault || !s.gatesOff then s
  else stand 181 evPathReadback (raise 181 evPathReadback 0 0 (s.modSaf fun f => { f with path1Fault := true }))

/-- A bad readback of the bias switches and island rails, once path 2 has had its time after a demand, holds path 1 acted (R465, R487). -/
def judgePath2 (off : Bool) (s : State) : State :=
  if off || s.saf.path2Fault || !(match s.saf.demandAt with | some t => decide (t + msTicks 2 ≤ s.now) | none => false) then s
  else stand 181 evPathPath2 (raise 181 evPathPath2 0 0 (s.modSaf fun f => { f with path2Fault := true }))

/-- PATH_1_READBACK_PULSE: the pulse while no gate is on and, at a demand, both readbacks of channel 1 (R487; notes/assumptions/112.md). -/
def execPath1ReadbackPulse (ok railsOff : Bool) (s : State) : Host.Outcome State Fault Refusal :=
  .next (if s.chPowered 0 && (s.saf.demandAt.isSome || periodic (sTicks 1) s.saf.readBackAt s.now) then
      settle s (judgePath2 railsOff (judgePath1 ok (s.modSaf fun f => { f with readBackAt := some s.now })))
    else s)

/-- The tick of a channel's own check. -/
def noteCheck (c : SafCh) (s : State) : State := s.modSafCh c fun x => { x with checkedAt := some s.now }

/-- A self-test of channel 1 has failed since its power-up: both paths stay acted (R487). -/
def State.ch1Failed (s : State) : Bool := evCh1SelfTest.code ∈ (s.events.src[(179 : SourceId)]).standing

/-- CHANNEL_1_SELF_TEST: at power-up, then every 10 ms (R487). -/
def execChannel1SelfTest (ok : Bool) (s : State) : Host.Outcome State Fault Refusal :=
  let t := noteCheck 0 s
  .next (if !s.chPowered 0 || s.ch1Failed || !periodic (msTicks 10) (s.saf.ch[0]).checkedAt s.now then s
    else if ok then settle s (t.modSafCh 0 fun c => { c with selfOk := true })
    else settle s (stand 179 evCh1SelfTest (raise 179 evCh1SelfTest 0 0 (t.modSafCh 0 fun c => { c with selfOk := false }))))

/-- CHANNEL_2_SELF_CHECK: at power-up and after a C-die reset, then every 100 ms; a failure stops the wave (R487). -/
def execChannel2SelfCheck (ok : Bool) (s : State) : Host.Outcome State Fault Refusal :=
  let n := noteCheck 1 s
  .next (if !s.chJudges 1 || !periodic (msTicks 100) (s.saf.ch[1]).checkedAt s.now then s
    else if ok then settle s (unstand 180 evCh2SelfCheck (n.modSafCh 1 fun c => { c with selfOk := true }))
    else
      let t := n.modSafCh 1 fun c => { c with selfOk := false }
      settle s (if evCh2SelfCheck.code ∈ (s.events.src[(180 : SourceId)]).standing then t
        else stand 180 evCh2SelfCheck (raise 180 evCh2SelfCheck 0 0 t)))

/-- SAFE_OUTPUT_READBACK_FAULT: voltage on an output that should be off is its SF2 fault, and the other channel's switch opens
(R487). -/
def execSafeOutputReadbackFault (c : SafCh) (o : SoId) (s : State) : Host.Outcome State Fault Refusal :=
  .next (if s.chJudges c && !s.soDemanded o then
      settle s (s.modSo o fun f => { f with readback := true })
    else s)

/-! ## SF2 (R477 to R484) -/

/-- TI in ticks and TP in ticks (R489, R493). -/
def State.testInterval (s : State) : Nat := 40000000 * s.rf rSafSf2Cfg 8 7
def State.testPulse (s : State) : Nat := 4000 * s.rf rSafSf2Cfg 0 7

/-- The channel's last test instant: channel 1's lie at the starts of its intervals, channel 2's in the middles of its own (R480;
notes/assumptions/149.md). -/
def State.testAt (s : State) (c : SafCh) : Option Nat :=
  let ti := s.testInterval
  let first := (s.saf.ch[c]).testFrom + if c = 0 then 0 else ti / 2
  if s.now < first ∨ ti = 0 then none else some (first + (s.now - first) / ti * ti)

/-- The channel's test is due: it has not tested since its last test instant (R480). -/
def State.testDue (s : State) (c : SafCh) : Bool := s.testAt c |>.any fun t => decide ((s.saf.ch[c]).lastTest < t)

/-- The outputs a channel tests now: those energised at its test instant but for the other channel's pulse (R480, R482). -/
def State.testable (s : State) (c : SafCh) (o : SoId) : Bool :=
  s.soDemanded o && (s.saf.ch[c]).so[o] && (s.testAt c |>.any fun t => decide ((s.saf.so[o]).changedAt ≤ t))

/-- SO_TEST_PULSE: the channel opens its switch in every energised output (R480). -/
def execSoTestPulse (c : SafCh) (s : State) : Host.Outcome State Fault Refusal :=
  let x := s.saf.ch[c]
  .next (if s.power.sealed && s.chJudges c && !(c == 1 && s.ch2Absent) && s.testDue c && !(x.pulse[0] || x.pulse[1]) &&
      (s.testable c 0 || s.testable c 1) then
      settle s (s.modSafCh c fun y => { y with pulse := #v[s.testable c 0, s.testable c 1], pulseAt := s.now, lastTest := s.now })
    else s)

/-- The result of a test of a switch in an output: counted, or the switch taken as stuck closed and the output in an SF2 test fault
(R480, R481). -/
def judgeTest (c : SafCh) (o : SoId) (fell : Bool) (s : State) : State :=
  if fell then s.modSaf fun f => { f with pass := f.pass + 1 }
  else
    let s := (s.modSaf fun f => { f with fail := satInc f.fail }).modSafCh c fun x => { x with stuck := upd x.stuck o fun _ => true }
    stand 177 evSf2TestFailed (raise 177 evSf2TestFailed (BitVec.ofNat 32 o.val) (BitVec.ofNat 32 (c.val + 1))
      (s.modSo o fun f => { f with test := true }))

/-- The output fell below 30 % of the battery voltage within 150 us of the switch's opening (R480). -/
def fellInTime (fall : Option Nat) : Bool := match fall with | some t => decide (t ≤ 60000) | none => false

/-- SO_TEST_PULSE_END: TP has passed; the readback, as the ticks from the opening to the fall of each output, is judged and the switch
closes (R480, R481). -/
def execSoTestPulseEnd (c : SafCh) (fallA fallB : Option Nat) (s : State) : Host.Outcome State Fault Refusal :=
  let x := s.saf.ch[c]
  let t := if x.pulse[0] then judgeTest c 0 (fellInTime fallA) s else s
  let t := if x.pulse[1] then judgeTest c 1 (fellInTime fallB) t else t
  .next (if (x.pulse[0] || x.pulse[1]) && decide (x.pulseAt + s.testPulse ≤ s.now) then
      settle s (t.modSafCh c fun y => { y with pulse := Vector.replicate 2 false })
    else s)

/-- A current in mA has been above a limit for 10 ms (R477, R554). -/
def overloaded (limit milliamps lasted : Nat) : Bool := decide (limit < milliamps) && decide (msTicks 10 ≤ lasted)

/-- SAFE_OUTPUT_OVERLOAD: more than 6 A, or more than 2.5 A for 10 ms (R477). -/
def execSafeOutputOverload (o : SoId) (milliamps lasted : Nat) (s : State) : Host.Outcome State Fault Refusal :=
  .next (if s.soOn o && (decide (6000 < milliamps) || overloaded 2500 milliamps lasted) then
      settle s (stand 177 evSf2Overload (raise 177 evSf2Overload (BitVec.ofNat 32 o.val) 0 (s.modSo o fun f => { f with overload := true })))
    else s)

/-- T_FB in ticks (R489, R493). -/
def State.feedbackTime (s : State) : Nat := msTicks (s.rf rSafSf2Cfg 16 9)

/-- CONTACTOR_FEEDBACK_FAULT: T_FB after the output's last change the channel reads the mirror contact open on a de-energised output or
closed on an energised one (R484). -/
def execContactorFeedbackFault (c : SafCh) (o : SoId) (s : State) : Host.Outcome State Fault Refusal :=
  let f := s.saf.so[o]
  let d := BitVec.ofNat 32 o.val
  .next (if s.power.sealed && s.chJudges c && !(c == 1 && s.ch2Absent) && decide (f.changedAt + s.feedbackTime ≤ s.now) then
      (if !f.energised && !s.mirrorRead c o && !f.welded then
        settle s (stand 177 evSf2Welded (raise 177 evSf2Welded d 0 (s.modSo o fun f => { f with welded := true })))
      else if f.energised && s.mirrorRead c o && !f.notClosed then
        settle s (stand 177 evSf2NotClosed (raise 177 evSf2NotClosed d 0 (s.modSo o fun f => { f with notClosed := true })))
      else s)
    else s)

/-- SF2_FAULT_CLEARED: the mirror contact has read closed for 1 s while the on-request is clear: a welded fault ends (R484). -/
def execSf2FaultCleared (o : SoId) (s : State) : Host.Outcome State Fault Refusal :=
  let f := s.saf.so[o]
  let t := raise 177 evSf2Cleared (BitVec.ofNat 32 o.val) 0 (s.modSo o fun f => { f with welded := false })
  .next (if f.welded && (match f.clearSince with | some t => decide (t + sTicks 1 ≤ s.now) | none => false) then
      settle s (if (t.saf.so[0]).welded || (t.saf.so[1]).welded then t else unstand 177 evSf2Welded t)
    else s)

/-! ## DCH and CDRV (R476, R554) -/

/-- DCH_OVERLOAD: a short, or more than 0.75 A for 10 ms (R554). -/
def execDchOverload (shorted : Bool) (milliamps lasted : Nat) (s : State) : Host.Outcome State Fault Refusal :=
  .next (if s.dchOn && (shorted || overloaded 750 milliamps lasted) then settle s (s.modSaf fun f => { f with dchOver := some s.now }) else s)

/-- DCH_RETRY: 1 s after an overload DCH energises again, unless it is still overloaded (R554). -/
def execDchRetry (again : Bool) (s : State) : Host.Outcome State Fault Refusal :=
  .next (match s.saf.dchOver with
    | none => s
    | some t =>
      if t + sTicks 1 ≤ s.now then settle s (s.modSaf fun f => { f with dchOver := if again then some s.now else none }) else s)

/-- CDRV_OVERLOAD: more than 1.5 A for 10 ms; off until the contactor-drive output next turns on (R554). -/
def execCdrvOverload (milliamps lasted : Nat) (s : State) : Host.Outcome State Fault Refusal :=
  .next (if s.cdrvOn && overloaded 1500 milliamps lasted then settle s { s with cdrvOff := true } else s)

/-! ## Parameters and power-up (R472, R488, R489, R540) -/

/-- A parameter within its range. -/
def inRange (lo hi n : Nat) : Bool := decide (lo ≤ n) && decide (n ≤ hi)

/-- The parameter block is valid: its CRC-32 matches and every value is in its range (R488, R489). -/
def State.paramsValid (s : State) : Bool :=
  crc32 ((s.reg rSafSf1Cfg).toNat |> leBytes 4 |> (· ++ leBytes 4 (s.reg rSafSf2Cfg).toNat ++ leBytes 4 (s.reg rSafSf3Cfg).toNat ++
    leBytes 4 (s.reg rSafCh2Cfg).toNat)) == s.reg rSafParamCrc &&
  inRange 2 30 (s.rf rSafSf1Cfg 16 5) && inRange 5 500 (s.rf rSafSf1Cfg 0 9) &&
  inRange 2 30 (s.rf rSafSf3Cfg 16 5) && inRange 5 500 (s.rf rSafSf3Cfg 0 9) &&
  inRange 20 80 (s.rf rSafSf2Cfg 0 7) && inRange 5 100 (s.rf rSafSf2Cfg 8 7) && inRange 20 500 (s.rf rSafSf2Cfg 16 9) &&
  inRange 1 100 (s.rf rSafCh2Cfg 0 7)

/-- At the Seal each channel copies the block and checks it (R488). -/
def copyParams (s : State) : State :=
  let ok := s.paramsValid
  let s := (s.modSafCh 0 fun c => { c with paramOk := ok, testFrom := s.now }).modSafCh 1 fun c => { c with paramOk := ok, testFrom := s.now }
  if ok then s else stand 179 evCh1ParamInvalid (raise 179 evCh1ParamInvalid 0 0 s)

/-- An SF2 test fault ends with the power-up of the channel whose switch was taken as stuck (R481, R492). -/
def clearTestFaults (s : State) : State :=
  let s := forAll (fun (o : SoId) t =>
    if (t.saf.so[o]).test && !((t.saf.ch[0]).stuck[o] || (t.saf.ch[1]).stuck[o]) then
      raise 177 evSf2Cleared (BitVec.ofNat 32 o.val) 0 (t.modSo o fun f => { f with test := false })
    else t) s
  if (s.saf.so[0]).test || (s.saf.so[1]).test then s else unstand 177 evSf2TestFailed s

/-- A channel powers up: nothing latched, its start-up test to be passed, which is reported once, its parameter block copied again if the
module is sealed; channel 2's switches hold their last state while it is absent (R469, R472, R481, R485, R488, R492, R540). -/
def channelPowerUp (c : SafCh) (s : State) : State :=
  let t := s.modSafCh c fun x =>
    let y : SafChannel := { startupSince := some s.now, paramOk := s.power.sealed && s.paramsValid, testFrom := s.now }
    if c = 1 then { y with so := x.so, dch := x.dch } else y
  raise 176 evSf1Pending 0 0 (clearTestFaults (discCleared s .cov (discCleared s .inh t)))

/-- CD_SAF_RESTARTED: the domain is back, and channel 2 powers up; it is absent until it rejoins (R472, R485, R487, R517). -/
def execCdSafRestarted (s : State) : Host.Outcome State Fault Refusal :=
  .next (if bitAt s.power.domOn 8 || !s.power.cRun then s
    else
      let t := s.modPower fun p => { p with domOn := p.domOn ||| 0x100, powerGood := true }
      let t := channelPowerUp 1 (wireAbsent t)
      let t := unstand 181 evPathNotFollowed (t.modSaf fun f => { f with ch2NotFollowed := false })
      settle s (raise 184 evCdieSafRestarted 0 0 (unstand 180 evCh2SelfCheck t)))

end Sys2Proof.Machine
end

