-- ==== Sys2Proof/Machine/Tick.lean ====
section
/-!
DEFINITION. One tick of 2.5 ns passes: what counts by itself (R4, R399, R526). Everything else that time brings about is a row of the
table of its own.
-/
namespace Sys2Proof.Machine

open Sys2Proof

/-- The P-die's counter runs: the P-die is out of reset and PD_NET in regulation (R399, R404). -/
def State.counterRuns (s : State) : Bool := s.power.pRun && bitAt s.power.domOn 3

/-- The journal takes the POSTED marks that have reached it, which frees their entries (R362). -/
def Rings.freePosted (r : Rings) : Rings := { r with journal := r.journal.filter fun e => e.state != .posted }

/-- Ticks of the n-th AO period: 32.768 kHz within 2 %, that is 11963 to 12451 ticks; which of these, the spec leaves open (R4, R524). -/
def aoTicks (n : Nat) : Nat := 11963 + Config.aoPeriod n % 489

/-- The coarse count of AO periods as one more tick of the present one passes (R526). -/
def TimeUnit.aoTick (t : TimeUnit) (now : Nat) : TimeUnit :=
  if t.aoStart + aoTicks t.ao.toNat ≤ now then { t with ao := t.ao + 1, aoStart := now } else t

/-- The counters of R399 and the coarse count of AO periods step (R526); POSTED entries are free (R362). -/
def stepCounters (s : State) : State :=
  { s with
    rings := if s.pReach then s.rings.freePosted else s.rings
    now := s.now + 1
    time := { s.time.aoTick (s.now + 1) with
      count := if s.counterRuns then s.time.count + 1 else s.time.count
      cCount := s.time.cCount + 1 } }

/-- One tick passes; what the capture writer has buffered goes to memory once a refresh no longer has it (R495). -/
def tick (s : State) : State := if (stepCounters s).refreshing then stepCounters s else flushCapture (stepCounters s)

end Sys2Proof.Machine
end

