-- ==== Sys2Proof/Machine/Power.lean ====
section
/-!
DEFINITION. Resets of the dies, power fail, entry to STABLED and wake (spec/17_power_clocks_reset.md; R28 to R35, R366, R374, R404).
The rows of supply, clocks and domains stand in PowerRows.lean.
-/
namespace Sys2Proof.Machine

open Sys2Proof

/-! ## Registers across a reset (R539, R545, R573) -/

/-- A writable register that AO holds (R545). -/
def aoRegister (off : Nat) : Bool := off == rPwrWakeCfg || off == rPwrWakeTimer

/-- A writable register that a warm reset of the die clears. -/
def dieRegister (d : Die) (off : Nat) : Bool :=
  !aoRegister off && (match regRow off with | some r => r.die == d | none => false)

/-- The die's registers restored from the Seal record, or at their reset words where there is none (R538, R539). -/
def restoreRegs (d : Die) (s : State) : State :=
  { s with
    regs := (s.sealRecord.filter fun p => dieRegister d p.1).foldl (fun l p => put resetWord l p.1 p.2)
      (s.regs.filter fun p => !dieRegister d p.1) }

/-! ## Commands that lose their place (R366) -/

/-- Every command reference that units keep is dropped: the journal no longer holds the commands (R374, R537). -/
def purgeCommands (s : State) : State :=
  let s := s.modRings fun r => { r with work := [], finished := [], rePost := [], unacked := [] }
  let s := s.modHost fun h => { h with reads := [] }
  let s := { s with
    regions := s.regions.map fun (g : Region) => { g with modeReqs := [], commits := [], swapReq := [] }
    sessions := s.sessions.map fun (x : Session) => { x with stopReq := [] }
    weirs := s.weirs.map fun (w : Weir) => { w with waiters := w.waiters.filter fun x => x.2.1.isNone } }
  let s := s.modPair fun p =>
    { p with
      held := p.held.map fun h => { h with slot := none }
      regions := p.regions.map fun (x : PairRegion) => { x with resyncCmd := none } }
  let s := s.modNet fun n =>
    { n with
      bufs := [], rxHeld := [], txTook := []
      ports := n.ports.map fun (q : Port) => { q with hostQ := q.hostQ.map fun f => { f with cmd := none } } }
  s.modLoop fun l => { l with rt := l.rt.map fun (x : CtxRt) => { x with seqr := { x.seqr with kept := [] } } }

/-- Work put back in its line, to be applied again (R366). -/
def applyAgain (k : Slot) (s : State) : State := modWork k (fun w => { w with kind := .ready }) s

/-- An entry reported: posted, or with the host or the C-die out of reach only recorded (R374). -/
def reportEntry (e : JEntry) (s : State) : State :=
  if s.hostUp && s.pReach && s.power.cRun then postEntry e s
  else freeEntry e.slot (captureError 2 ((s.cqAddr e.cq s.rings.cq[e.cq].nextIdx).setWidth 48) (BitVec.ofNat 8 (8 + e.cq.val)) 9 0 0 s)

/-- Acceptances whose journal entries are stored are acknowledged (R360). -/
def ackAll (s : State) : State := forList ackOne (s.rings.unacked.filterMap s.entry) s

/-- The journal emptied, whether or not the host can be reached: APPLIED entries report their recorded outcome, ACCEPTED ones end with a status,
in ASN order; the number of these (R373, R374). -/
def drainJournal (st : Word16) (detail : Word32) (s : State) : Nat × State :=
  let s := ackAll s
  let done := (s.rings.finished.filterMap s.entry).filter fun e => e.state == .applied
  let rest := s.rings.journal.filter fun e => e.state == .applied && !s.rings.finished.contains e.slot
  let open_ := s.rings.journal.filter fun e => e.state == .accepted
  let s := forList reportEntry (done ++ rest) s
  let s := s.modRings fun r => { r with rePost := r.rePost.filter fun p => !open_.any fun e => e.slot == p.slot }
  let s := forList (fun (e : JEntry) t =>
    let e := { e with state := .applied, status := st, detail := detail, result := 0, doneAt := t.cTimeNs }
    reportEntry e (modEntry e.slot (fun _ => e) t)) open_ s
  (open_.length, purgeCommands s)

/-! ## The C-die's warm reset (R28, R366, R485, R538, R539) -/

/-- The regions give up the changes of phase and the swaps that wait for their boundary, which the replay asks for anew. Values of a commit that
have been written stay in the shadow set for their transfer (R205; notes/assumptions/138.md). -/
def dropWaiting (s : State) : State := forAll (fun r t => t.modRegion r fun g => { g with modeReqs := [], swapReq := [] }) s

/-- A NET_TX whose frame a port has taken is complete: what other ports hold of it they send as well; one whose frame no port has taken is taken
from the queues, with its timestamps (R388, R396). -/
def settleTx (s : State) : State :=
  let taken := s.net.txTook
  let holds (t : State) (k : Slot) : List (PortId × TxFrame) :=
    (List.finRange 2).filterMap fun p => ((t.net.ports[p]).hostQ.find? fun f => f.cmd == some k).map fun f => (p, f)
  let s := forList (fun (x : Slot × Nat) t =>
    let l := holds t x.1
    finish x.1 stOk (BitVec.ofNat 32 (l.foldl (fun b q => b ||| 2 ^ q.1.val) x.2)) (match l.head? with | some q => stampResult q.2 | none => 0) true t)
    taken s
  let stays (f : TxFrame) : Bool := match f.cmd with | some k => taken.any fun x => x.1 == k | none => true
  let owed := (List.finRange 2).flatMap fun p => ((s.net.ports[p]).hostQ.filter fun f => !stays f).filterMap fun f => f.stamp.map fun x => x.2.1
  forList payTag owed (s.modNet fun n =>
    { n with txTook := [], ports := n.ports.map fun (q : Port) => { q with hostQ := (q.hostQ.filter stays).map fun f => { f with cmd := none } } })

/-- PAIR_RESYNC commands that wait for a region which the local die leads end with the die's failure (R431). -/
def failResyncs (s : State) : State :=
  forAll (fun r t => if (t.pair.regions[r]).partnerActive then t else abortResync r t) s

/-- Commands in application that the P-die holds for the C-die end with its reset: those that have taken effect are finished, the others are given
up, and the replay applies them anew (R366, R372; notes/assumptions/138.md). -/
def settleHeld (s : State) : State := dropWaiting (settleTx (failResyncs s))

/-- What the C-die's rings lose (R366): their work, what they had read, the stop of an SQ. Head indices stay as last read. -/
def resetRings (r : Rings) : Rings :=
  { r with
    sq := r.sq.map fun x => { x with stopped := false, failedLines := 0, failedDescs := 0, fetched := none, waitReported := false, readBackFailed := false }
    turn := 0, takenInTurn := 0, work := [], finished := [], rePost := [], replaying := false
    dropCnt := 0, dropReported := false }

/-- What the Loop Engine loses: everything but the code store's settings and the generations (R111, R178, R352). -/
def resetLoop (now : Nat) (l : Loop) : Loop :=
  { ({} : Loop) with
    slotAt := now, tbShown := l.tbShown, rtSaved := l.rtSaved, openLoop := l.openLoop
    rt := Vector.ofFn fun c => (if l.cache.any fun e => e.ctx = c then l.rtSaved[c] else l.rt[c]).afterReset
    codeWord := l.codeWord, ucodeResult := l.ucodeResult, ucodeFail := l.ucodeFail, ucodeEntries := l.ucodeEntries
    imageResult := if l.imageLoading then 0 else l.imageResult, imageFail := l.imageFail
    probes := l.probes.map fun (p : Probe) => ({ gen := p.gen, last := p.ctx.getD p.last } : Probe) }

/-- What pairing loses with the C-die: the valid state of the regions it does not lead, snapshots under way (R424 to R428). -/
def resetPairC (s : State) : State :=
  let s := s.modPair fun p => { p with held := [] }
  forAll (fun r t =>
    let lead := !(t.isMirror r || (t.pair.regions[r]).partnerActive)
    t.modPairRegion r fun p => { p with held := p.held && lead, keptSets := [], catching := false, chunks := [], resyncCmd := none }) s

/-- The arbiter as the C-die's reset leaves it: settings kept from the Seal on, nothing granted (R504, R539). -/
def resetArb (sealed : Bool) (a : Arb) : Arb :=
  let c : ArbCfg := {}
  { ({} : Arb) with
    active := if sealed then a.active else c, shadow := if sealed then a.shadow else c, safAt := a.safAt, netAt := a.netAt }

/-- Weir waiters that the C-die's reset loses: commands, and the safety processor (R512, R514). -/
def dropWaiters (s : State) : State :=
  { s with weirs := s.weirs.map fun (w : Weir) => { w with waiters := w.waiters.filter fun x => x.2.1.isNone && x.1 != 8 } }

/-- The C-die's registers with RO and W1C fields; RECOV_CNT counts since the last FAULT_CLEAR (R462, R578). -/
def resetEventRegs (e : Events) : Events := { e with fec := Vector.replicate 4 {}, inj := {} }

/-- The host's accesses that wait are answered: a read with all ones, a write dropped (R568). -/
def answerAccesses (s : State) : State :=
  s.modHost fun h => { h with accesses := [], readValue := if h.accesses.any WaitingAccess.read then 0xFFFFFFFF else h.readValue }

/-- Events that C-die sources have raised are collected before the reset: they are collected as they are raised (R438). -/
def collectOwn (s : State) : State :=
  let l := s.events.raised.filter fun e => srcDie e.source == .c
  forList collect l (s.modEvents fun v => { v with raised := v.raised.filter fun e => srcDie e.source != .c })

/-- A C-die warm reset starts: power-good falls and channel 2 is absent, its window opens, the link fails, running sessions end, every
SQ's Weirs and the safety processor's are released, the memory stack goes into self-refresh, the C-die loses its work (R10, R322,
R366, R377, R450, R485, R512, R538). -/
def cDieDown (s : State) : State :=
  if !s.power.cRun then s
  else
    let s := forAll (fun (o : Fin 9) t => releaseWeirs ⟨o.val, by omega⟩ t) (dropWaiters (settleHeld (flushCapture s)))
    let s := closeDebug (openShadow .cDie none 0xFE (collectOwn s))
    let s := linkFails s
    let s := s.modPower fun p => { p with cRun := false, selfRefresh := true, powerGood := false, lastReset := 3, cdieCnt := satInc p.cdieCnt }
    let s := wireAbsent (s.modSafCh 1 SafChannel.inReset)
    let s := resetPairC (clearForces (answerAccesses (orphanSessions (losePosted s))))
    let s := forAll (fun q t => unstand (srcSq q) evSqStopped t) s
    let s := ((s.modRings resetRings).modLoop (resetLoop s.now)).modArb (resetArb s.power.sealed)
    let s := (s.modEvents resetEventRegs).modHost fun h => { h with reads := [], waiting := [] }
    { s with mrP := {}, mrC := {}, lane0 := false, lane1 := false }

/-- The code store reloaded from its copy in package memory (R536). -/
def reloadCode (s : State) : State :=
  let cells := s.mem.filter fun c => decide (0x100000 ≤ c.1) && decide (c.1 < 0x110000)
  s.modLoop fun l =>
    { l with code := cells.foldl (fun t c =>
        let k := (c.1 - 0x100000) / 4
        put (fun _ => 0) t k (look (fun _ => 0) t k ||| BitVec.ofNat 32 (c.2.toNat * 2 ^ (8 * (c.1 % 4))))) [] }

/-- Every enabled context resumes from its words in package memory and what was written back with them; pinned entries are loaded (R175, R178). -/
def resumeContexts (s : State) : State :=
  forList (fun (c : CtxId) t =>
    let t := if t.ctxNat c 3 1 / 8 % 2 = 1 then setResident c false t else t
    if t.ctxEnabled c && t.ctxPin c then loadRoom c t else t)
    ((List.finRange 256).filter fun c => s.ctxEnabled c) s

/-- Package memory initialised (R542): with it go the words of the targets it holds, and every descriptor copy is unreadable. -/
def loseMemory (s : State) : State :=
  let s := { s with
    mem := []
    memErr := s.rings.journal.foldl (fun l (e : JEntry) => putErr l (descAddr e.slot / 64) (complemented 3)) []
    initLines := []
    sessions := s.sessions.map fun (x : Session) => { x with words := {} }
    weirs := s.weirs.map fun (w : Weir) => { w with words := {} } }
  let s := (s.modRings fun r => { r with faultWords := {} }).modLoop fun l => { l with openLoop := Vector.replicate 8 false }
  let s := s.modPower fun p => { p with memLost := false, memInit := false }
  stand 184 evCdieMemLost (raise 184 evCdieMemLost 0 0 s)

/-- The fault states of C-die sources that hold die safe end with the reset (R447). -/
def endDieSafe (s : State) : State :=
  let s := forAll (fun k t =>
    if srcDie k = .c ∧ t.held k = .dieSafe then t.modSrc k fun f => { f with state := .clear, reaction := .none } else t) s
  s.modPower fun p => { p with cSafe := none }

/-- The C-die window runs 50 ms from the end of the reset (R450). -/
def closeCDieWindow (s : State) : State :=
  s.modEvents fun v => { v with shadows := v.shadows.map fun w =>
    if w.obj = .cDie then { w with ends := some (s.now + windowLen .cDie) } else w }

/-- C_DIE_RESET_END: registers from the Seal record, code store and contexts from package memory, replay to run, the headers of ended
sessions (R322, R366, R539). The reset's cause has no code in the spec: a free value. -/
def cDieUp (s : State) : State :=
  let s := s.modPower fun p => { p with cRun := true, selfRefresh := false, powerGood := bitAt p.domOn 8, cLock := true, mLock := true, domOn := p.domOn ||| 0x2E0 }
  let s := s.modSafCh 1 fun c => { c with startupSince := if c.startup || !s.safPowered then none else some s.now }
  let s := closeCDieWindow (endDieSafe (restoreRegs .c s))
  let s := if s.power.memLost then loseMemory s else s
  let s := resumeContexts (reloadCode (s.modLoop fun l => { l with slotAt := s.now }))
  let p := s.fresh
  reportOrphans (startReplay 1 (raise 184 evCdieWarmReset (p.1.setWidth 32) 0 p.2))

/-! ## The P-die's warm reset (R28, R32, R404, R538, R578) -/

/-- The network engine and its ports lose what they hold: waiting frames, buffers, nodes, timestamps; the commands of lent buffers are
applied again. Tags keep their generations (R352, R404, R512). -/
def resetNet (s : State) : State :=
  let s := forAll dropFrames s
  let lent := s.net.bufs.map RxBuf.slot ++ s.net.rxHeld.map fun x => x.buf.slot
  let s := forList applyAgain lent s
  releaseWeirs 9 { s with net := { ({} : Net) with tagGen := s.net.tagGen, ports := Vector.replicate 2 { lastRx := s.now } } }

/-- Pairing on the P-die: Confluence and what it has received; epochs and target words are kept (R404, R577). -/
def resetPairP (s : State) : State :=
  let cmds := (List.finRange 8).filterMap fun r => (s.pair.regions[r]).resyncCmd
  let s := forList applyAgain cmds s
  s.modPair fun p =>
    { ({} : Pair) with
      held := p.held, epoch := p.epoch, opened := p.opened
      regions := p.regions.map fun (x : PairRegion) => ({ words := x.words, held := x.held } : PairRegion) }

/-- Failed slices stay failed until power-on, and with them the spare's place; everything else of a bank returns to its reset value (R278,
R578). -/
def Bank.afterReset (x : Bank) : Bank :=
  { ({} : Bank) with failed := x.failed, stopped := x.stopped, spareFor := if x.stopped then x.spareFor else 0x1F, coefs := x.coefs }

/-- The codes whose condition a P-die reset does not end: a failed slice of a bank (R278). -/
def keptCodes (k : SourceId) (l : List Word16) : List Word16 :=
  if 80 ≤ k.val ∧ k.val < 96 ∧ k.val % 4 = 1 then l.filter fun c => c == evBank1SliceFailed.code else []

/-- Conditions of unit, island, region, bank, chain and port sources, which the P-die no longer sees. -/
def dropConditions (s : State) : State :=
  forAll (fun k t =>
    if k.val < 104 ∨ (144 ≤ k.val ∧ k.val < 153) then
      t.modSrc k fun f => 
        if keptCodes k f.standing = f.standing then f
        else { f with standing := keptCodes k f.standing }.quietFrom t.now
    else t) s

/-- What the P-die's blocks hold is at its reset value; totals that run since power-on stay, and so do the counts of fires and of chain restarts,
which start at the Seal (R324, R326, R578). -/
def resetBlocks (s : State) : State :=
  { s with
    regions := s.regions.map fun (g : Region) => ({ tripTot := g.tripTot } : Region)
    islands := Vector.replicate 24 {}, units := Vector.replicate 48 {}, tripActive := Vector.replicate 16 false, dutyIn := []
    banks := s.banks.map Bank.afterReset, channels := Vector.replicate 64 {}
    chains := s.chains.map fun (x : Chain) => ({ restartCnt := x.restartCnt } : Chain)
    trigs := s.trigs.map fun (x : TrigUnit) => ({ fireCnt := x.fireCnt } : TrigUnit), drive := false, cdrvOff := false
    events := { s.events with trgWait := [] } }

/-- The AO count at which the counter stops (R404). -/
def markOutage (s : State) : State := if s.counterRuns then s.modTime fun t => { t with aoOutage := t.ao.toNat } else s

/-- A P-die warm reset starts: package safe state; sessions end, the link fails, every region stops; path 1 stays acted (R32, R322, R404,
R538, R540). W1C flags and the latch of a read pair return to their reset values (R578). The package will be in SAFE, but in WAKING the
sequence goes on (R528; notes/assumptions/106.md). -/
def pDieDown (s : State) : State :=
  if !s.power.pRun then s
  else
    let s := closeDebug (markOutage (if s.power.cRun then abortSessions s else s))
    let s := forAll (fun r t => if t.regions[r].phase = .off then t else stopRegion r t) s
    let s := resetPairP (resetNet s)
    let s := linkFails s
    let s := s.modPower fun p => { p with pRun := false, lastReset := 4, pdieCnt := satInc p.pdieCnt, domFault := 0 }
    let s := s.modTime fun t => { t with stepRefused := false, discont := false, nowHi := 0 }
    let s := dropConditions (resetBlocks (if s.power.dev = .waking then s else enterDev .safe s))
    { (s.modSaf fun f => { f with path1Block := true }) with mrP := {}, mrC := {}, lane0 := false, lane1 := false }

/-- Bank timers and calibration from now on, as at the Seal (R266, R270, R275; notes/assumptions/31.md). -/
def startBanks (s : State) : State :=
  forAll (fun (b : BankId) t => t.modBank b fun x =>
    { x with
      timerNext := t.now + 1 + t.rf (rAdcTimer b) 0 24, contNext := t.now + 1
      calNext := t.now + msTicks (t.rf (rAdcCal b) 0 10) }) s

/-- Trigger units take their restored configuration (R308, R539). -/
def restartTrigs (s : State) : State :=
  forAll (fun u t => t.modTrig u fun x => { x with cfgErr := t.trgInvalid u, state := if t.trgLive u then .armed else .off }) s

/-- Channel 1 powers up after a loss of PD_CORE; what its own checks had found ends with it (R487, R540). -/
def channel1PowerUp (s : State) : State :=
  let s := unstand 181 evPathPath2 (s.modSaf fun f => { f with path1Fault := false, path2Fault := false })
  channelPowerUp 0 (unstand 181 evPathReadback (unstand 179 evCh1SelfTest s))

/-- The network starts with the P-die or with PD_NET: no silence has lasted yet, and time goes on across the outage (R386, R404). -/
def netUp (s : State) : State :=
  if s.counterRuns then
    timeRestart (s.modNet fun n => { n with ports := n.ports.map fun (q : Port) => { q with lastRx := s.now, silent := false } })
  else s

/-- P_DIE_RESET_END: registers from the Seal record, the counter from 0 with B advanced by the outage, "P-die warm reset" with its
reaction applied by the P-die itself, replay to run (R32, R366, R404, R438, R539, R540). -/
def pDieUp (s : State) : State :=
  let core := bitAt s.power.domOn 1
  let s := restoreRegs .p (s.modPower fun p => { p with pRun := true, pLock := true, domOn := p.domOn ||| 0x6 })
  let s := if core then s else channel1PowerUp s
  let s := forAll standWindow (restartTrigs (startBanks s))
  let s := netUp s
  let p := s.fresh
  startReplay 2 (raise 183 evPdieWarmReset (p.1.setWidth 32) 0 p.2)

/-! ## AO alone: STABLED, wake, power-on (R521, R533 to R538) -/

/-- Elapsed ticks of the start-up sequence. -/
def State.sinceWake (s : State) : Nat := s.now - s.power.wakeAt

/-- The start-up sequence has reached a step's tick, or is over (R534). -/
def State.reached (s : State) (ticks : Nat) : Bool := s.awake || (s.power.dev == .waking && decide (ticks ≤ s.sinceWake))

/-- The part of the power state that AO keeps (R537, R545). -/
def aoPower (p : Power) : Power :=
  { ({} : Power) with
    vbat := p.vbat, low := p.low, lost := p.lost, lostAt := p.lostAt, store := p.store, failed := p.failed, failStabled := p.failStabled, aoErr := p.aoErr
    ridden := p.ridden, fails := p.fails, lastReset := p.lastReset, cdieCnt := p.cdieCnt, pdieCnt := p.pdieCnt
    wakeCause := p.wakeCause, stabledAt := p.stabledAt }

/-- The module as only AO keeps it: journal control block with the accepted and written indices, ASN, EVT_SEQ, generations, B, r_A and rho, the
coarse count, wake registers, ASN words in AO, and what runs since power-on: totals and failed slices (R17, R278, R357, R578); everything else
as at reset, the host's link untrained (R352, R364, R537). What the outside world has been sent stays sent. -/
def aoOnly (s : State) : State :=
  { State.reset with
    pending := s.pending, now := s.now, free := s.free
    regs := s.regs.filter fun p => aoRegister p.1
    power := aoPower s.power
    host := { ({} : HostLink) with up := false, nextId := s.host.nextId, issued := s.host.issued }
    rings := { ({} : Rings) with
      sq := s.rings.sq.map fun (x : Sq) => ({ acceptedIdx := x.acceptedIdx } : Sq)
      cq := s.rings.cq.map fun (x : Cq) => ({ writtenIdx := x.writtenIdx } : Cq)
      replays := s.rings.replays, reapplied := s.rings.reapplied
      nextAsn := s.rings.nextAsn, regionWords := s.rings.regionWords, portWords := s.rings.portWords, timeWords := s.rings.timeWords }
    loop := { ({} : Loop) with probes := s.loop.probes.map fun (p : Probe) => ({ gen := p.gen } : Probe) }
    sessions := s.sessions.map fun (x : Session) => ({ gen := x.gen } : Session)
    weirs := s.weirs.map fun (w : Weir) => ({ gen := w.gen } : Weir)
    net := { ({} : Net) with tagGen := s.net.tagGen }
    time := { s.time with stepRefused := false, nowHi := 0 }
    saf := { ({} : Saf) with ch := Vector.replicate 2 { startupSince := none } }
    pair := { ({} : Pair) with regions := s.pair.regions.map fun (x : PairRegion) => ({ words := x.words } : PairRegion) }
    banks := s.banks.map Bank.afterReset
    regions := s.regions.map fun (g : Region) => ({ tripTot := g.tripTot } : Region)
    events := { ({} : Events) with
      seq := s.events.seq, pbufLost := s.events.pbufLost, src := s.events.src.map fun (f : Source) => ({ eventCnt := f.eventCnt } : Source) }
    failCnt := s.failCnt, replayCnt := s.replayCnt
    memCorr := s.memCorr, memUncorr := s.memUncorr, jrnlCorr := s.jrnlCorr, jrnlUncorr := s.jrnlUncorr }

/-- Every domain but AO is off and no clock but AO's runs, in STABLED and at the start of WAKING (R524, R527). -/
def aoAlone (d : DevState) (s : State) : State :=
  s.modPower fun p =>
    { p with dev := d, domOn := 1, pRun := false, cRun := false, powerGood := false, wakeWire := false
             memsOk := false, pLock := false, cLock := false, mLock := false }

/-- STABLED: every domain but AO is off (R521, R527, R537). -/
def goStabled (s : State) : State :=
  (aoAlone .stabled (aoOnly (markOutage s))).modPower fun p => { p with stabledAt := s.time.ao }

/-- The start-up sequence begins (R528, R534), with the last-reset code and the wake cause it leaves (R545). What the supervisor in AO has
raised in STABLED is delivered with the link, and its power fail stands until the input returns (R438, R519, R520). -/
def wakeUp (last : BitVec 3) (cause : BitVec 6) (s : State) : State :=
  let t := ((aoAlone .waking (aoOnly s)).modPower fun p =>
    { p with lastReset := last, wakeCause := cause, failStabled := false, wakeAt := s.now }).modEvents fun v => { v with pbuf := s.events.pbuf }
  if s.power.failed then stand 182 evSupplyPowerFail t else t

/-! ### The steps of the start-up sequence (R534; notes/assumptions/115.md) -/

/-- Ticks from the wake to a step: domains of the P-die ramp, the reference is ready, the P-die leaves reset, domains of the C-die ramp, the C-die
leaves reset, the PCIe endpoint is ready, the Millrace link is trained, SETUP. -/
def rampTicks : Nat := usTicks 100
def memsTicks : Nat := msTicks 3
def pUpTicks : Nat := usTicks 3200
def cRampTicks : Nat := usTicks 3500
def cUpTicks : Nat := msTicks 6
def linkTicks : Nat := msTicks 24
def startUpTicks : Nat := msTicks 40

/-- The time unit after power-on: every count from 0 but the coarse count, which has run (R399, R526). -/
def TimeUnit.powerOn (t : TimeUnit) : TimeUnit := { ({} : TimeUnit) with ao := t.ao, aoStart := t.aoStart }

/-- Step 4: with PD_CORE channel 1 powers up; with the reference and both its domains the P-die leaves reset, and the time counter starts (R399,
R404, R472). -/
def startPDie (s : State) : State :=
  let s := if bitAt s.power.domOn 1 then channel1PowerUp s else s
  if bitAt s.power.domOn 1 && bitAt s.power.domOn 2 && s.power.memsOk && !s.power.memsHeld then
    let s := s.modPower fun p => { p with pRun := true, pLock := true }
    if s.power.wakeCause = 0x10 then
      (s.modNet fun n => { n with ports := n.ports.map fun (q : Port) => { q with lastRx := s.now } }).modTime TimeUnit.powerOn
    else netUp s
  else s

/-- Step 6: with CD_SAF channel 2 powers up; with the reference and its domains the C-die leaves reset, and power-good rises (R10, R473). The test
that channel 2 waits for has been reported pending with channel 1's (R472). -/
def startCDie (s : State) : State :=
  let s := if bitAt s.power.domOn 8 then s.modSafCh 1 fun _ => { startupSince := some s.now } else s
  if (s.power.domOn &&& 0x2E0) == 0x2E0 && s.power.memsOk && !s.power.memsHeld then
    (s.modPower fun p => { p with cRun := true, cLock := true, mLock := true, powerGood := bitAt p.domOn 8 }).modLoop fun l => { l with slotAt := s.now }
  else s

/-- Step 9: the link is trained where both dies are out of reset; what the P-die has raised is delivered (R438). -/
def trainLink (s : State) : State :=
  if s.power.pRun && s.power.cRun && !s.linkUp then deliverEvents (syncTime { s with linkUp := true, lane0 := true, lane1 := true }) else s

/-- Step 10: SETUP, with the wake and its cause reported (R528, R533, R544). A sequence that a loss has held up ends as soon as both dies and the
link are there. -/
def finishWake (s : State) : State :=
  if s.power.pRun && s.power.cRun && s.linkUp then
    raise 186 evAoWake (s.power.wakeCause.setWidth 32) 0 (s.modPower fun p => { p with dev := .setup })
  else s

/-- What a tick of the start-up sequence brings (R534). -/
def startUp (s : State) : State :=
  let n := s.sinceWake
  if n = rampTicks then s.modPower fun p => { p with domOn := p.domOn ||| 0x1E }
  else if n = memsTicks then s.modPower fun p => { p with memsOk := !p.memsHeld }
  else if n = pUpTicks then startPDie s
  else if n = cRampTicks then s.modPower fun p => { p with domOn := p.domOn ||| 0x3E0, wakeWire := true }
  else if n = cUpTicks then startCDie s
  else if n = linkTicks then trainLink s
  else if startUpTicks ≤ n then finishWake s
  else s

/-- One tick, and what it brings in the start-up sequence (R534). -/
def idle (s : State) : State :=
  let t := tick s
  settle s (if t.power.dev = .waking then startUp t else t)

/-- Power-on: everything at its reset value, and the start-up sequence begins (R533, R538). The model's own tick and free values go on, and
what has been sent stays sent. -/
def powerOn (s : State) : State :=
  (aoAlone .waking { State.reset with
    pending := s.pending, now := s.now, free := s.free, time := { ({} : TimeUnit) with aoStart := s.now }
    saf := { ({} : Saf) with ch := Vector.replicate 2 { startupSince := none } }
    host := { ({} : HostLink) with up := false, nextId := s.host.nextId, issued := s.host.issued } }).modPower
    fun p => { p with wakeAt := s.now }

/-! ## Power fail (R374, R520 to R522) -/

/-- An event whose reaction takes hold in the tick of its raising. -/
def raiseNow (k : SourceId) (d : EvDef) (s : State) : State :=
  let e := { mkEvent k d 0 0 none false s with applied := true }
  applyEvent e (pushEvent e s)

/-- The handling of R374: package safe state, acceptance and application stopped, APPLIED work reported with its recorded status, ACCEPTED work
ended with LOST_POWER. -/
def powerFailHandling (s : State) : State :=
  let p := drainJournal stLostPower 0 ((enterDev .safe s).modRings fun r => { r with rePost := [] })
  raise 162 evReplayPowerFailDone (BitVec.ofNat 32 p.1) 0 p.2

/-- The supervisor signals power fail: counted, and source 182's event with its condition until the input returns (R520). -/
def signalFail (s : State) : State :=
  (stand 182 evSupplyPowerFail (raiseNow 182 evSupplyPowerFail s)).modPower fun p => { p with fails := satInc p.fails, failed := true }

/-- POWER_FAIL: in WAKING and SETUP the module goes to STABLED, where the supervisor in AO signals it; in the polled states it handles the fail
(R520, R522). -/
def powerFail (s : State) : State :=
  if s.power.dev = .waking ∨ s.power.dev = .setup then signalFail (goStabled (s.modPower fun p => { p with failStabled := true }))
  else if s.power.dev = .stabled then signalFail s
  else powerFailHandling (signalFail s)

/-! ## PWR_CMD (R531, R537, R538) -/

/-- Entry to STABLED: the journal is drained, then the domains go off (R373, R537). -/
def enterStabled (s : State) : State := goStabled (drainJournal stState 0x53 s).2

/-- LEAVE_SERVICE: every region goes to OFF at its next boundary; the state is READY, or SAFE if package safe is held (R528, R529). -/
def leaveService (s : State) : State :=
  let s := { s with regions := s.regions.map fun (g : Region) => if g.phase = .off then g else { g with offReq := true } }
  enterDev (if s.pkgSafeHeld then .safe else .ready) s

/-- A package warm reset: entry to STABLED, AO contents kept but the Seal record, then a wake with cause RESET (R373, R538). -/
def packageReset (s : State) : State := wakeUp 2 0x20 (enterStabled s)

/-- What an action of PWR_CMD does, the states that accept it, and whether it needs every region in OFF (R531). -/
def pwrAction (a : Nat) : Option (List DevState × Bool × (State → State)) :=
  match a with
  | 1 => some ([.ready, .safe], true, enterDev .service)
  | 2 => some ([.service], false, leaveService)
  | 3 => some ([.setup, .ready, .safe, .service], true, enterStabled)
  | 4 => some ([.ready, .run, .safe, .service], false, cDieDown)
  | 5 => some ([.setup, .ready, .safe, .service], true, packageReset)
  | 6 => some ([.service], false, pDieDown)
  | _ => none

/-- CMD_RESULT recorded (R545). -/
def cmdResult (n : BitVec 4) (s : State) : State := s.modPower fun p => { p with cmdResult := n }

/-- A write of PWR_CMD: its outcome recorded; a refused action changes nothing else (R531). -/
def writePwrCmd (v : Word32) (s : State) : State :=
  if fld v 0 16 ≠ 0xC3A5 then cmdResult 2 s
  else match pwrAction (fld v 16 3) with
    | none => cmdResult 5 s
    | some a =>
      if !a.1.contains s.power.dev then cmdResult 3 s
      else if a.2.1 && !s.allOff then cmdResult 4 s
      else a.2.2 (cmdResult 1 s)

/-- A write of PWR_CMD by the row of an action. -/
def pwrCmd (key : BitVec 16) (action : Nat) (s : State) : Host.Outcome State Fault Refusal :=
  let v := BitVec.ofNat 32 (key.toNat + 65536 * action)
  .next (hostWord .p 0x1000 v (writePwrCmd v) s)

/-- ENTER_SERVICE. -/
def execEnterService (key : BitVec 16) (s : State) : Host.Outcome State Fault Refusal := pwrCmd key 1 s
/-- LEAVE_SERVICE. -/
def execLeaveService (key : BitVec 16) (s : State) : Host.Outcome State Fault Refusal := pwrCmd key 2 s
/-- ENTER_STABLED. -/
def execEnterStabled (key : BitVec 16) (s : State) : Host.Outcome State Fault Refusal := pwrCmd key 3 s
/-- PWR_CMD_C_DIE_WARM_RESET. -/
def execPwrCmdCDieWarmReset (key : BitVec 16) (s : State) : Host.Outcome State Fault Refusal := pwrCmd key 4 s
/-- PWR_CMD_PACKAGE_WARM_RESET. -/
def execPwrCmdPackageWarmReset (key : BitVec 16) (s : State) : Host.Outcome State Fault Refusal := pwrCmd key 5 s
/-- PWR_CMD_P_DIE_WARM_RESET. -/
def execPwrCmdPDieWarmReset (key : BitVec 16) (s : State) : Host.Outcome State Fault Refusal := pwrCmd key 6 s

end Sys2Proof.Machine
end

