-- ==== Sys2Proof/Machine/PowerRows.lean ====
section
/-!
DEFINITION. The rows of supply, domains, clocks, resets, wake and temperature (spec/17_power_clocks_reset.md).
-/
namespace Sys2Proof.Machine

open Sys2Proof

/-! ## Supply (R519 to R522) -/

/-- PWR_SUPPLY.VBAT of an input voltage in mV (R545). -/
def vbatOf (mv : Nat) : BitVec 10 := BitVec.ofNat 10 (min 0x3FF (mv / 250))

/-- INPUT_LOW: the input enters the band below 16.8 V; the event once per entry (R519). -/
def execInputLow (mv : Nat) (s : State) : Host.Outcome State Fault Refusal :=
  .next (if s.power.low || s.power.lost || decide (16800 ≤ mv) then s
    else
      settle s (raise 182 evSupplyLow 0 0 (s.modPower fun p => { p with low := true, vbat := vbatOf mv })))

/-- INPUT_LOW_CLEARED: the input is back at 16.8 V or above. -/
def execInputLowCleared (mv : Nat) (s : State) : Host.Outcome State Fault Refusal :=
  .next (if s.power.low && decide (16800 ≤ mv) && !s.power.lost then s.modPower fun p => { p with low := false, vbat := vbatOf mv } else s)

/-- The loss and the return threshold of this module in mV, within the limits of R523 (notes/assumptions/113.md). -/
def lossThreshold : Nat := 13200 + Config.lossTrim % 801
def returnThreshold : Nat := 15500 + Config.returnTrim % 1001

/-- The store's charge in % of full at a usable energy in mJ (R545; notes/assumptions/113.md). -/
def noteStore (mj : Nat) (s : State) : State := s.modPower fun p => { p with store := BitVec.ofNat 8 (Config.storeCharge mj % 101) }

/-- INPUT_LOSS: the input has fallen below the loss threshold, and the module runs from the hold-up store (R519). -/
def execInputLoss (mv mj : Nat) (s : State) : Host.Outcome State Fault Refusal :=
  .next (if s.power.lost || decide (lossThreshold ≤ mv) then s
    else noteStore mj (s.modPower fun p => { p with lost := true, low := true, lostAt := s.now, vbat := vbatOf mv }))

/-- The input is back: the band below 16.8 V is entered anew and reported (R519). -/
def inputBack (mv : Nat) (s : State) : State :=
  let low := decide (mv < 16800)
  let s := s.modPower fun p => { p with lost := false, low := low, vbat := vbatOf mv }
  if low then raise 182 evSupplyLow 0 0 s else s

/-- INPUT_RETURN: the input is at or above the return threshold. An interruption of at most 10 ms is ridden through, counted and reported
with its length in us; after power fail its condition ends (R519, R520). -/
def execInputReturn (mv mj : Nat) (s : State) : Host.Outcome State Fault Refusal :=
  .next (if !s.power.lost || decide (mv < returnThreshold) then s
    else
      let n := s.now - s.power.lostAt
      let t := inputBack mv (noteStore mj s)
      if s.power.failed then settle s (unstand 182 evSupplyPowerFail (t.modPower fun p => { p with failed := false }))
      else if n ≤ msTicks 10 then
        settle s (raise 182 evSupplyRidden (BitVec.ofNat 32 (n / 400)) 0 (t.modPower fun p => { p with ridden := satInc p.ridden }))
      else t)

/-- POWER_FAIL: the input has been lost for 10 ms, or the store has fallen to its handling reserve (R520). -/
def execPowerFail (mj : Nat) (s : State) : Host.Outcome State Fault Refusal :=
  .next (if s.power.lost && !s.power.failed &&
      (decide (s.power.lostAt + msTicks 10 ≤ s.now) || decide (mj ≤ 60 + Config.reserveMargin)) then
      settle s (powerFail (noteStore mj s))
    else s)

/-- STORE_AO_RESERVE: after power fail the usable energy, which excludes the AO reserve, is spent, and the store keeps AO alone (R521,
R523). -/
def execStoreAoReserve (mj : Nat) (s : State) : Host.Outcome State Fault Refusal :=
  .next (if s.power.lost && s.power.failed && s.power.dev != .stabled && mj == 0 then
      settle s (goStabled (noteStore mj (s.modPower fun p => { p with failStabled := true })))
    else s)

/-- POWER_ON_RESET: AO has been lost, and the next supply resets the module (R521, R538). -/
def execPowerOnReset (s : State) : Host.Outcome State Fault Refusal := .next (settle s (powerOn s))

/-! ## Domains (R517, R518, R404, R542) -/

/-- Number of a domain in PWR_DOM_STATUS (R545). -/
def Domain.no : Domain → Nat
  | .ao => 0 | .pdCore => 1 | .pdAna => 2 | .pdNet => 3 | .pdIso => 4 | .cdCore => 5 | .cdLoop => 6 | .cdHost => 7 | .cdSaf => 8 | .mem => 9

/-- PD_NET loses power: its counter stops, its ports and the pairing hardware lose what they hold (R404, R512, R517). -/
def netOff (s : State) : State :=
  let s := forAll (fun (p : PortId) t => if (t.net.ports[p]).link then stand (srcPort p) evPortDown (raise (srcPort p) evPortDown 0 0 t) else t) s
  (resetNet s).modPair fun p => { p with inbox := [], echo := none }

/-- What the loss of a domain brings (R517), with its bits in PWR_DOM_STATUS. -/
def domainLost (d : Domain) (s : State) : State :=
  let bit : BitVec 10 := BitVec.ofNat 10 (2 ^ d.no)
  let mark (s : State) : State := s.modPower fun p => { p with domOn := p.domOn &&& ~~~bit, domFault := p.domFault ||| bit }
  match d with
  | .ao => powerOn s
  | .pdCore => mark (pDieDown s)
  | .pdAna => mark (pDieDown s)
  | .pdNet => mark (netOff (markOutage s))
  | .pdIso =>
    stand 183 evPdieIsoLost (raise 183 evPdieIsoLost 0 0 ((mark s).modPower fun p => { p with isoLostAt := some s.now }))
  | .cdCore => mark (cDieDown s)
  | .cdLoop => mark (cDieDown s)
  | .cdHost => endpointResets (mark (cDieDown s))
  | .cdSaf =>
    let s := (mark s).modPower fun p => { p with powerGood := false }
    releaseWeirs 8 (wireAbsent (s.modSafCh 1 fun c => { c.inReset with startup := false }))
  | .mem => mark (cDieDown (s.modPower fun p => { p with memLost := true }))

/-- DOMAIN_REGULATION_LOSS: of a domain that is on, which in WAKING it is from its step on (R517). -/
def execDomainRegulationLoss (dom : Domain) (s : State) : Host.Outcome State Fault Refusal :=
  .next (if bitAt s.power.domOn dom.no then settle s (domainLost dom s) else s)

/-- PD_NET_RESTARTED, in WAKING not before the domain's step: time goes on across the outage, with the P-die in reset once it leaves it (R404,
R517). -/
def execPdNetRestarted (s : State) : Host.Outcome State Fault Refusal :=
  .next (if bitAt s.power.domOn 3 || !s.reached (rampTicks + 1) || (s.power.sealed && s.rb rPwrDomCfg 0) then s
    else settle s (raise 183 evPdieNetRestarted 0 0 (netUp (s.modPower fun p => { p with domOn := p.domOn ||| 8 }))))

/-- PD_ISO_RESTART: 10 ms after its loss; each island starts under R257 by its own row (R517). -/
def execPdIsoRestart (s : State) : Host.Outcome State Fault Refusal :=
  .next (match s.power.isoLostAt with
    | none => s
    | some t =>
      if s.now < t + msTicks 10 then s
      else settle s (unstand 183 evPdieIsoLost (s.modPower fun p => { p with isoLostAt := none, domOn := p.domOn ||| 0x10 })))

/-! ## Clocks (R525, R526) -/

/-- MEMS_REFERENCE_LOST: no edge for 200 ns, or a difference from the AO clock, in 0.01 %, above 3 %: package safe state, then both dies in
warm reset; R32 governs where both reset (R33, R525; notes/assumptions/114.md). -/
def execMemsReferenceLost (edgelessNs : Nat) (diff : Int) (s : State) : Host.Outcome State Fault Refusal :=
  .next (if !s.power.memsOk || (decide (edgelessNs < 200) && decide (diff.natAbs ≤ 300)) then s
    else
      let t := stand 185 evClockMemsLost (raiseNow 185 evClockMemsLost (s.modPower fun p => { p with memsOk := false, memsHeld := true }))
      settle s (cDieDown (pDieDown t)))

/-- MEMS_REFERENCE_RECOVERED: the reference has run correctly for a time in us, and from 10 ms on the dies may leave reset (R525). -/
def execMemsReferenceRecovered (us : Nat) (s : State) : Host.Outcome State Fault Refusal :=
  .next (if s.power.memsHeld && decide (10000 ≤ us) then
      settle s (unstand 185 evClockMemsLost (s.modPower fun p => { p with memsOk := true, memsHeld := false }))
    else s)

/-- PLL_LOCK_LOST: the PLL's die takes a warm reset (R525). The event's number of the PLL has no code in the spec: a free value. -/
def execPllLockLost (pll : Pll) (s : State) : Host.Outcome State Fault Refusal :=
  let p := s.fresh
  let t := raise 185 evClockPllLost (p.1.setWidth 32) 0 p.2
  .next (match pll with
      | .pDie => if s.power.pLock then settle s (pDieDown (t.modPower fun q => { q with pLock := false })) else s
      | .cDie => if s.power.cLock then settle s (cDieDown (t.modPower fun q => { q with cLock := false })) else s
      | .memory => if s.power.mLock then settle s (cDieDown (t.modPower fun q => { q with mLock := false })) else s)

/-- AO_CLOCK_MEASURE: once per second, the error in units of 0.01 %; above 3 % it is reported (R526). -/
def execAoClockMeasure (err : BitVec 16) (s : State) : Host.Outcome State Fault Refusal :=
  .next (if !s.power.pRun || !s.power.memsOk || !periodic (sTicks 1) s.power.aoMeasuredAt s.now then s
    else
      let t := s.modPower fun p => { p with aoErr := err, aoMeasuredAt := some s.now }
      if 300 < err.toInt.natAbs then settle s (raise 186 evAoDeviation 0 0 t) else t)

/-! ## Resets of the dies (R32, R538, R539) -/

/-- C_DIE_WARM_RESET. -/
def execCDieWarmReset (s : State) : Host.Outcome State Fault Refusal := .next (settle s (cDieDown s))

/-- C_DIE_RESET_END: the reference runs and the C-die leaves reset; in WAKING not before its step (R525, R534). -/
def execCDieResetEnd (s : State) : Host.Outcome State Fault Refusal :=
  .next (if s.power.cRun || !s.reached (cUpTicks + 1) || s.power.memsHeld then s else settle s (cDieUp s))

/-- AUTO_C_DIE_RESET: 1 ms after die safe of the C-die, with AUTO_CWR set (R538). -/
def execAutoCDieReset (s : State) : Host.Outcome State Fault Refusal :=
  .next (match s.power.cSafe with
    | none => s
    | some t => if s.rb rPwrDomCfg 1 && decide (t + msTicks 1 ≤ s.now) then settle s (cDieDown s) else s)

/-- P_DIE_WARM_RESET. -/
def execPDieWarmReset (s : State) : Host.Outcome State Fault Refusal := .next (settle s (pDieDown s))

/-- P_DIE_RESET_END; in WAKING not before its step (R525, R534). -/
def execPDieResetEnd (s : State) : Host.Outcome State Fault Refusal :=
  .next (if s.power.pRun || !s.reached (pUpTicks + 1) || s.power.memsHeld then s else settle s (pDieUp s))

/-! ## Wake and memory (R533 to R535) -/

/-- AO periods since STABLED was entered. -/
def State.stabledFor (s : State) : Nat := (s.time.ao - s.power.stabledAt).toNat

/-- A pin asserted for a number of AO periods wakes the module: 33 of them, or at once where it was asserted at the entry (R533). -/
def State.pinWakes (s : State) (lasted : Nat) : Bool := decide (33 ≤ lasted) || decide (s.stabledFor < lasted)

/-- A wake source may wake the module from STABLED: a pin by the AO periods it has been asserted, the battery by those the input, in mV, has
stayed above VBAT_TH, or by its return after power fail (R521, R533). Power-on and the package warm reset wake it in their own rows. -/
def State.wakes (s : State) (c : WakeCause) (lasted mv : Nat) : Bool :=
  let th := s.rf rPwrWakeCfg 4 10
  s.power.dev == .stabled &&
    (match c with
    | .pinA => s.rb rPwrWakeCfg 0 && s.pinWakes lasted
    | .pinB => s.rb rPwrWakeCfg 1 && s.pinWakes lasted
    | .timer => s.rb rPwrWakeCfg 2 && s.reg rPwrWakeTimer != 0 && decide ((s.reg rPwrWakeTimer).toNat ≤ s.stabledFor)
    | .vbat => (s.power.failStabled && !s.power.lost) || (th != 0 && decide (250 * th < mv) && decide (3277 ≤ lasted))
    | .powerOn => false
    | .reset => false)

/-- PWR_WAKE_CAUSE of a wake source (R545). -/
def WakeCause.bits : WakeCause → BitVec 6
  | .pinA => 1 | .pinB => 2 | .timer => 4 | .vbat => 8 | .powerOn => 0x10 | .reset => 0x20

/-- WAKE: the start-up sequence begins; it ends by itself (R533, R534). -/
def execWake (cause : WakeCause) (lasted mv : Nat) (s : State) : Host.Outcome State Fault Refusal :=
  .next (if s.wakes cause lasted mv then settle s (wakeUp 1 cause.bits s) else s)

/-- MEM_INIT_COMPLETE: every line is initialised (R535). -/
def execMemInitComplete (s : State) : Host.Outcome State Fault Refusal :=
  .next (if s.awake then { s.modPower (fun p => { p with memInit := true }) with initLines := [] } else s)

/-- MODULE_TEMPERATURE: a reading of the baseplate sensor, two's complement in 0.25 degC, against WARN_C and 105 degC (R544). -/
def execModuleTemperature (temp : BitVec 12) (s : State) : Host.Outcome State Fault Refusal :=
  .next (if !s.awake || !s.power.pRun then s
    else
      let w := tempStep 187 evTempWarning temp.toInt (4 * s.rf rPwrTemp 16 8 : Nat) s.power.tempWarned s
      let o := tempStep 187 evTempOver temp.toInt 420 s.power.tempOver w.2
      settle s (o.2.modPower fun p => { p with temp := temp, tempWarned := w.1, tempOver := o.1 }))

end Sys2Proof.Machine
end

