-- ==== Sys2Proof/Machine/Setup.lean ====
section
/-!
DEFINITION. The Setup Seal (R330, R331), the on-requests of the safe outputs (R478) and the debug block (R574).
-/
namespace Sys2Proof.Machine

open Sys2Proof

/-! ## SYS_SEAL (R331, R356) -/

/-- Some span of a list shares a byte with a later one. -/
def anyMeet : List (Nat × Nat) → Bool
  | [] => false
  | a :: t => t.any (fun b => overlaps a.1 a.2 b.1 b.2) || anyMeet t

/-- Base and length in bytes of the enabled rings (R328). -/
def State.ringSpans (s : State) : List (Nat × Nat) :=
  ((List.finRange 8).filter s.sqEn).map (fun (q : SqId) => ((s.addr64 (rSysSqBaseLo q) (rSysSqBaseHi q)).toNat, 64 * s.sqSize q)) ++
  ((List.finRange 8).filter s.cqEn).map (fun (m : CqId) => ((s.addr64 (rSysCqBaseLo m) (rSysCqBaseHi m)).toNat, 32 * s.cqSize m))

/-- Base and length of the doorbell lines (R332). -/
def State.doorbellSpan (s : State) : Nat × Nat := ((s.addr64 rSysDbBaseLo rSysDbBaseHi).toNat, 1024)

/-- CQ named by the route of event records (R356). -/
def State.routeCq (s : State) : CqId := ⟨s.rf rSysEvtRoute 0 3, by simp only [State.rf, fld]; exact Nat.mod_lt _ (by decide)⟩

/-- RESULT of the checks of the Seal, in their order (R331). -/
def State.sealChecks (s : State) (key : Nat) : BitVec 4 :=
  let sqs := (List.finRange 8).filter s.sqEn
  let l := s.ringSpans
  if key ≠ 0x5EA1 then 2
  else if sqs.isEmpty then 3
  else if sqs.any (fun q => !s.cqEn (s.sqCq q)) || (s.rb rSysEvtRoute 3 && !s.cqEn s.routeCq) then 4
  else if (s.doorbellSpan :: l).any fun a => a.1 % 64 != 0 then 5
  else if anyMeet (s.doorbellSpan :: l) then 6
  else if s.loop.imageLoading || s.loop.ucodeResult == 0xF then 7
  else 1

/-- A letter is set in both masks of PAIR_CFG (R411). -/
def State.bothMasks (s : State) : Bool := fld (s.reg rPairCfg) 8 8 &&& fld (s.reg rPairCfg) 16 8 != 0

/-- With NET_OFF set, PD_NET is off from the Seal (R517). -/
def sealNet (s : State) : State :=
  if s.rb rPwrDomCfg 0 then (netOff (markOutage s)).modPower fun p => { p with domOn := p.domOn &&& 0x3F7 } else s

/-- Every ring starts at index 0, and polling with its first period (R330, R331). -/
def sealRings (s : State) : State :=
  (s.modRings fun r => { r with sq := Vector.replicate 8 {}, cq := Vector.replicate 8 {}, turn := 0, takenInTurn := 0, polled := s.now }).modHost
    fun h => { h with lastHead := s.now, silentReported := false }

/-- Every chain restarts with its first input (R298), and FIRE_CNT counts from here (R326). -/
def sealChains (s : State) : State :=
  { s with
    chains := s.chains.map fun (c : Chain) => { c with restart := some 0, prevX := none, prevCount := none }
    trigs := s.trigs.map fun (t : TrigUnit) => { t with fireCnt := 0 } }

/-- The Seal is made: READY, the Seal record, the rings, the banks, the safety parameter blocks (R265, R330, R331, R488, R539). -/
def makeSeal (s : State) : State :=
  let s := s.modPower fun p => { p with sealed := true, sealResult := 1 }
  let s := enterDev .ready { s with sealRecord := s.regs }
  let s := copyParams (sealChains (startBanks (sealRings (sealNet s))))
  if s.bothMasks then raise 150 evPairMismatch 0 0 s else s

/-- A write of SYS_SEAL: outside SETUP no effect (R331). -/
def writeSeal (v : Word32) (s : State) : State :=
  if s.power.dev ≠ .setup then s
  else
    let r := s.sealChecks (fld v 0 16)
    if r = 1 then makeSeal s else s.modPower fun p => { p with sealResult := r }

/-- SETUP_SEAL. -/
def execSetupSeal (v : Word32) (s : State) : Host.Outcome State Fault Refusal := .next (hostWord .c 0x40 v (writeSeal v) s)

/-! ## SAF_SO_REQ (R478, R479, R491) -/

/-- A write of SAF_SO_REQ: the on-requests set or cleared; what they bring is the channels' judgement. -/
def writeSoReq (v : Word32) (s : State) : State := s.modSaf fun f => { f with reqA := bitAt v 0, reqB := bitAt v 1 }

/-- SO_ON_REQUEST. -/
def execSoOnRequest (v : Word32) (s : State) : Host.Outcome State Fault Refusal := .next (hostWord .p 0x78020 v (writeSoReq v) s)

/-! ## The debug block (R574) -/

/-- A write of SYS_DBG: on an SK8256-DA in SERVICE the key opens the block. -/
def writeDbg (v : Word32) (s : State) : State :=
  if Config.isDA && s.power.dev == .service && fld v 0 16 == 0xD8B6 then s.modPower fun p => { p with debugOpen := true } else s

/-- DEBUG_OPEN. -/
def execDebugOpen (v : Word32) (s : State) : Host.Outcome State Fault Refusal := .next (hostWord .c 0x48 v (writeDbg v) s)

/-- A write of DBG_CTRL: an access starts, unless one runs. Which of READ and WRITE a write of both starts is a free value
(notes/assumptions/3.md). -/
def writeDbgCtrl (v : Word32) (s : State) : State :=
  if !s.power.debugOpen || s.dbgBlock.busy.isSome then s
  else match bitAt v 0, bitAt v 1 with
    | false, false => s
    | true, false => { s with dbgBlock := { s.dbgBlock with busy := some false } }
    | false, true => { s with dbgBlock := { s.dbgBlock with busy := some true } }
    | true, true => let p := s.fresh; { p.2 with dbgBlock := { p.2.dbgBlock with busy := some (p.1.getLsbD 0) } }

/-- DBG_READ. -/
def execDbgRead (v : Word32) (s : State) : Host.Outcome State Fault Refusal := .next (hostWord .c 0xF0004 v (writeDbgCtrl v) s)
/-- DBG_WRITE. -/
def execDbgWrite (v : Word32) (s : State) : Host.Outcome State Fault Refusal := .next (hostWord .c 0xF0004 v (writeDbgCtrl v) s)

/-- A write of DBG_ADDR. -/
def writeDbgAddr (v : Word32) (s : State) : State := if s.power.debugOpen then { s with dbgBlock := { s.dbgBlock with addr := v } } else s

/-- A write of a word of the line buffer. -/
def writeDbgLine (w : Fin 16) (v : Word32) (s : State) : State :=
  if s.power.debugOpen then { s with dbgBlock := { s.dbgBlock with line := upd s.dbgBlock.line w fun _ => v } } else s

/-- Address of the debug access's line: bits [5:0] ignored. -/
def State.debugLine (s : State) : Nat := s.dbgBlock.addr.toNat / 64 * 64

/-- The debug port reads its line; that of an uncorrectable one is the uncorrected data (R454, R574). -/
def debugRead (s : State) : State :=
  let s := (readMem s.debugLine 64 0x06 0 s).2
  let l := match s.errLines s.debugLine 64 with | e :: _ => s.stored e.1 e.2 | [] => s.bytes s.debugLine 64
  { s with dbgBlock := { s.dbgBlock with line := Vector.ofFn fun w : Fin 16 => BitVec.ofNat 32 (leAt l (4 * w.val) 4) } }

/-- The debug port writes its line (R503, R574). -/
def debugWrite (s : State) : State := s.write 0x06 s.debugLine (s.dbgBlock.line.toList.map fun w => leBytes 4 w.toNat).flatten

/-- DEBUG_ACCESS_DONE: the line moves and BUSY clears; a refresh goes first, and no capture slot is taken (R494, R503). -/
def execDebugAccessDone (s : State) : Host.Outcome State Fault Refusal :=
  .next (match s.dbgBlock.busy with
    | none => s
    | some w =>
      if s.refreshing || captureSlot (Fin.ofNat 16 s.memSlot) then s else
      let t := if w then debugWrite s else debugRead s
      settle s { t with dbgBlock := { t.dbgBlock with busy := none } })

end Sys2Proof.Machine
end

