-- ==== Sys2Proof/Machine/Access.lean ====
section
/-!
DEFINITION. Writes to registers as the host makes them (R6 to R8, R567 to R573), accesses that wait for the P-die (R568), and the
return of the Millrace link (R17).
-/
namespace Sys2Proof.Machine

open Sys2Proof

/-- A lane mask that shares a lane with another region's (R114). -/
def State.laneTaken (s : State) (r : RegionId) (v : Word32) : Bool :=
  (List.finRange 8).any fun q => q != r && fld (s.reg (rLeLanes q) &&& v) 0 8 != 0

/-- A write of LE_LANES: one that would put a lane into two regions keeps the old value and raises the event (R114). -/
def writeLanes (r : RegionId) (v : Word32) (s : State) : State :=
  if !s.power.sealed && s.laneTaken r v then raise 121 evLeLaneRefused (BitVec.ofNat 32 r.val) 0 s
  else if s.power.sealed then writeWord (rLeLanes r) v s
  else dispatch (showTbLimit (writeWord (rLeLanes r) v s))

/-- A write of LE_TB_LANES (R113, R161). -/
def writeTbLanes (v : Word32) (s : State) : State :=
  if s.power.sealed then writeWord rLeTbLanes v s else dispatch (showTbLimit (writeWord rLeTbLanes v s))

/-- A write of LE_UCODE_ADDR: the word that LE_UCODE_DATA writes next (R145, R161). -/
def writeUcodeAddr (v : Word32) (s : State) : State :=
  if s.power.sealed then (if v.setWidth 14 = s.loop.codeWord then s else rwsWritten s)
  else s.modLoop fun l => { l with codeWord := v.setWidth 14 }

/-- A write of PWR_DOM_STATUS: FAULT is W1C (R545). -/
def writeDomStatus (v : Word32) (s : State) : State :=
  s.modPower fun p => { p with domFault := p.domFault &&& ~~~(BitVec.ofNat 10 (fld v 16 10)) }

/-- A write of EVT_INJ_STATUS: DONE and REFUSED are W1C (R463). -/
def writeInjStatus (v : Word32) (s : State) : State :=
  s.modEvents fun e => { e with inj := { e.inj with done := e.inj.done && !bitAt v 1, refused := e.inj.refused && !bitAt v 2 } }

/-- A write of EVT_FEC_d_INFO: VALID is W1C (R456). -/
def writeFecInfo (d : Fin 4) (v : Word32) (s : State) : State := if bitAt v 31 then clearError d s else s

/-- A write of ARB_STATUS: COMMIT_ERR is W1C (R516). -/
def writeArbStatus (v : Word32) (s : State) : State := s.modArb fun a => { a with commitErr := a.commitErr && !bitAt v 3 }

/-- A write of SYS_RING_CTRL: RESTART (R335). -/
def writeRingCtrl (v : Word32) (s : State) : State := forAll (fun q t => if bitAt v q.val then restartSq q t else t) s

/-- Registers whose write does more than store a word: base, stride, count, and the write of the instance (R567, R570). -/
def writers : List (Nat × Nat × Nat × (Nat → Word32 → State → State)) :=
  [ (0x40, 4, 1, fun _ => writeSeal), (0x48, 4, 1, fun _ => writeDbg), (0x1000, 4, 1, fun _ => writePwrCmd),
    (0x1008, 4, 1, fun _ => writeDomStatus), (0x2214, 4, 1, fun _ => writeRingCtrl),
    (0x4C10, 4, 1, fun _ => writeInjCtrl), (0x4C14, 4, 1, fun _ => writeInjAddr), (0x4C18, 4, 1, fun _ => writeInjStatus),
    (0x4C40, 4, 6, fun i => writeForce (Fin.ofNat 6 i)), (0x4D04, 0x20, 4, fun i => writeFecInfo (Fin.ofNat 4 i)) ] ++
  [ (0x20020, 0x100, 24, fun i => writeIslStatus (Fin.ofNat 24 i)), (0x20034, 0x100, 24, fun i => writeIslTest (Fin.ofNat 24 i)),
    (0x20038, 0x100, 24, fun i => writeIslCtrl (Fin.ofNat 24 i)), (0x30018, 0x1000, 4, fun i => writeInjSw (Fin.ofNat 4 i)),
    (0x30038, 0x1000, 4, fun i => writeWinst (Fin.ofNat 4 i)), (0x38000, 0x100, 16, fun i => writeFltSrc (Fin.ofNat 16 i)),
    (0x40000, 0x40, 8, fun i => writeTrg (Fin.ofNat 8 i) (0x40000 + 0x40 * i)),
    (0x40004, 0x40, 8, fun i => writeTrg (Fin.ofNat 8 i) (0x40004 + 0x40 * i)),
    (0x40008, 0x40, 8, fun i => writeTrg (Fin.ofNat 8 i) (0x40008 + 0x40 * i)),
    (0x4000C, 0x40, 8, fun i => writeTrg (Fin.ofNat 8 i) (0x4000C + 0x40 * i)),
    (0x40014, 0x40, 8, fun i => writeTrgCmd (Fin.ofNat 8 i)) ] ++
  [ (0x50000, 4, 8, fun i => writeLanes (Fin.ofNat 8 i)), (0x50020, 4, 1, fun _ => writeTbLanes), (0x50030, 4, 1, fun _ => writeUcodeAddr),
    (0x50034, 4, 1, fun _ => writeUcode), (0x50038, 4, 1, fun _ => writeUcodeCtrl), (0x50088, 4, 1, fun _ => writeImageCtrl),
    (0x68008, 4, 1, fun _ => writeTimeStatus), (0x6800C, 4, 1, fun _ => writeLockCfg), (0x78020, 4, 1, fun _ => writeSoReq),
    (0x80000, 4, 1, fun _ => writeArbOrder), (0x80004, 4, 1, fun _ => writeArbCfg), (0x80008, 4, 1, fun _ => writeArbCommit),
    (0x80014, 4, 1, fun _ => writeArbStatus), (0xF0000, 4, 1, fun _ => writeDbgAddr), (0xF0004, 4, 1, fun _ => writeDbgCtrl),
    (0xF0040, 4, 16, fun i => writeDbgLine (Fin.ofNat 16 i)) ] ++
  (List.finRange 4).map fun b => (rAdcWin b.val 0, 0x10, 16, fun i => writeWin (chanOf b (Fin.ofNat 16 i)) (rAdcWin b.val i))

/-- The instance of a family of registers that an offset names. -/
def instOf (base stride count off : Nat) : Option Nat :=
  if base ≤ off ∧ (off - base) % stride = 0 ∧ (off - base) / stride < count then some ((off - base) / stride) else none

/-- A word written to a register; to an offset that no register occupies it has no effect (R6 to R8, R567). -/
def regWrite (off : Nat) (v : Word32) (s : State) : State :=
  match writers.findSome? fun w => (instOf w.1 w.2.1 w.2.2.1 off).map fun i => w.2.2.2 i with
  | some f => f v s
  | none => writeWord off v s

/-- The die that holds the registers of an offset (R567). -/
def dieOf (off : Nat) : Die :=
  if (0x1000 ≤ off ∧ off < 0x2000) ∨ (0x10000 ≤ off ∧ off < 0x41000) ∨ (0x60000 ≤ off ∧ off < 0x80000) then .p else .c

/-- Where the model's offsets of BAR2 begin (notes/assumptions/80.md). -/
def bar2 : Nat := 0x100000

/-- A host write of a word as it reaches its register, or the MSI-X table of BAR2, which answers also while the C-die is in reset (R354, R568). -/
def writeReg (off : Nat) (v : Word32) (s : State) : State :=
  if bar2 ≤ off then (if s.hostReaches then writeMsix (off - bar2) v s else s)
  else hostWord (dieOf off) off v (regWrite off v) s

/-- A host write of `size` bytes, at most 8, from `off` on: each register it covers whole is written, lower address first; what it covers of
a register in part is narrower than 32 bits and has no effect (R568; notes/assumptions/4.md for writes across word boundaries). -/
def hostStore (off : Nat) (v : Word64) (size : Nat) (s : State) : State :=
  let first := (off + 3) / 4 * 4
  let low : Word32 := (v >>> (8 * (first - off))).setWidth 32
  if first + 8 ≤ off + min size 8 then writeReg (first + 4) ((v >>> 32).setWidth 32) (writeReg first low s)
  else if first + 4 ≤ off + min size 8 then writeReg first low s
  else s

/-- REGISTER_WRITE. -/
def execRegisterWrite (off : Nat) (v : BitVec 64) (size : Nat) (s : State) : Host.Outcome State Fault Refusal :=
  .next (hostStore off v size s)

/-! ## Accesses that wait (R568) -/

/-- A read with a side effect, of a P-die register. -/
def readEffect (off : Nat) (s : State) : State :=
  match instOf 0x30030 0x1000 4 off with
  | some b => readQdata (Fin.ofNat 4 b) s
  | none => if off = 0x68020 then readTxq s else if off = 0x68000 then readTimeNow s else if off = 0x1030 then readAoTime s else s

/-- An access that has waited is served. -/
def serveAccess (a : WaitingAccess) (s : State) : State :=
  if a.read then readEffect a.off s else settle s (regWrite a.off a.value s)

/-- The accesses that wait are served in order. -/
def serveAccesses (s : State) : State := forList serveAccess s.host.accesses (s.modHost fun h => { h with accesses := [] })

/-- P_DIE_ACCESS_TIMEOUT: the oldest access has waited 200 µs: a read returns all ones, a write is dropped. -/
def execPDieAccessTimeout (s : State) : Host.Outcome State Fault Refusal :=
  .next (match s.host.accesses with
    | [] => s
    | a :: t =>
      if a.arrived + 80000 ≤ s.now then
        let s := s.modHost fun h => { h with accesses := t }
        if a.read then readAs 0xFFFFFFFF s else s
      else s)

/-! ## The link's return (R17) -/

/-- The link is trained and passes frames again, numbers and credits anew: the C-die's time, the buffered events, the replay, the waiting accesses (R17, R366,
R403, R427, R438, R568). -/
def linkReturns (s : State) : State :=
  let s := syncTime { s with linkUp := true, lane0 := true, lane1 := true, mrP := {}, mrC := {} }
  let s := deliverEvents (unstand 163 evMillraceFailure s)
  let s := if s.power.sealed && !s.rings.replaying then startReplay 3 s else s
  serveAccesses (if s.power.sealed then wantResync s else s)

/-- MILLRACE_LINK_UP. -/
def execMillraceLinkUp (s : State) : Host.Outcome State Fault Refusal :=
  .next (if (s.awake || decide (linkTicks < s.sinceWake)) && s.power.pRun && s.power.cRun && !s.linkUp then settle s (linkReturns s) else s)

end Sys2Proof.Machine
end

