-- ==== Sys2Proof/Machine/FormingRows.lean ====
section
/-!
DEFINITION. The happenings of the grid-forming templates that have rows of their own: the black-start sequence (R83 to R98, R104), the
VSM's timed returns (R60, R64, R73, R101), fold-back (R58), ramps (R135) and Impedance Watch's sweeps (R66 to R70, R186, R190). Each
follows the run at whose release its time is met (R575).
-/
namespace Sys2Proof.Machine

open Sys2Proof

/-! ## Shared -/

/-- Inputs of a context's last run, signals. -/
def State.lastIns (s : State) (c : CtxId) : List Int := ((s.loop.rt[c]).ins).map BitVec.toInt

/-- A happening that follows the last run of a context of a template: its release is handed on. -/
def afterRun (c : CtxId) (t : Nat) (may : Word32 → Bool) (f : Word32 → State → State) (s : State) : Host.Outcome State Fault Refusal :=
  .next (match (s.loop.rt[c]).lastRun with
    | none => s
    | some n =>
      if s.leRuns && s.ctxRuns c && !(s.loop.rt[c]).released && s.ctxTemplate c == t && may n then settle s (f n s) else s)

/-- Seconds from release a to release n of a context (R575). -/
def State.span (s : State) (c : CtxId) (a n : Word32) : ℚ := ((n - a).toNat : ℚ) * s.clockStep c / 4000000000

/-- What a sequencer read at its last run. -/
def State.seqLast (s : State) (c : CtxId) : SeqIn := s.seqIn c (s.lastIns c)

/-- A sequencer's words changed after its run. -/
def modSeqr (c : CtxId) (f : Seqr → Seqr) (s : State) : State := putSeqr c (s.seqLast c).fb (f (s.seqr c)) s

/-! ## The start delay (R85, R86) -/

/-- One bit of CRC-16, polynomial 0x1021, not reflected (R86). -/
def crc16Bit (c : Word16) : Word16 := if c.getLsbD 15 then (c <<< 1) ^^^ 0x1021 else c <<< 1

/-- One byte of CRC-16. -/
def crc16Byte (c : Word16) (b : Byte) : Word16 :=
  let x := c ^^^ (b.setWidth 16 <<< 8)
  crc16Bit (crc16Bit (crc16Bit (crc16Bit (crc16Bit (crc16Bit (crc16Bit (crc16Bit x)))))))

/-- CRC-16 of R86. -/
def crc16 (l : List Byte) : Word16 := l.foldl crc16Byte 0xFFFF

/-- The hash of a serial number (R86). -/
def hashOf (serial : Word64) : Nat := (crc16 (leBytes 8 serial.toNat)).toNat % 256

/-- t_start in seconds (R85). -/
def State.tStart (s : State) (c : CtxId) : ℚ := s.paramInt c 1 * s.pq c 2 + hashOf Config.serial * s.pq c 3

/-! ## The black-start sequence -/

/-- BUS_DECLARED_DEAD: below 0.10 p.u. at every run for 200 ms, in LISTEN or while synchronising with the drive off (R81, R83). -/
def State.busDead (s : State) (c : CtxId) : Bool :=
  let q := s.seqr c
  s.timerDue c 1 (1 / 5) && ((q.x.stage == .blackStart && q.phase == 1) || (q.x.stage == .synchronise && !q.x.drive))

/-- The dead declaration: DELAY begins (R83, R85). -/
def declareDead (c : CtxId) (n : Word32) (s : State) : State :=
  let ms := (roundQ (s.tStart c * 1000)).toNat
  modSeqr c (fun q =>
    { q with phase := 2, rose := false, tms := ms % 65536, delay := (timerAt n).toNat, x := { q.x with stage := .blackStart } }.event
      evCtxBusDead 0 0) s

def execBusDeclaredDead (c : CtxId) (s : State) : Host.Outcome State Fault Refusal := afterRun c 0x0D (fun _ => s.busDead c) (declareDead c) s

/-- The decision at the expiry of the start delay (R87, R88, R91). -/
def decideStart (c : CtxId) (n : Word32) (s : State) : State :=
  let y := s.seqLast c
  modSeqr c (fun q =>
    if y.live then (if q.x.weld then q.listen else q.sync)
    else if q.rose || q.x.weld then q.listen
    else ({ q with phase := 3, est := loadSig y.vbus }).closeStep n y.live y.permit y.lost) s

/-- START_DELAY_EXPIRE: not while bus-side feedback is lost (R84, R87). -/
def execStartDelayExpire (c : CtxId) (s : State) : Host.Outcome State Fault Refusal :=
  afterRun c 0x0D (fun _ => let q := s.seqr c; q.x.stage == .blackStart && q.phase == 2 && !(s.seqLast c).lost && s.timerDue c 3 (s.tStart c))
    (decideStart c) s

/-- CONTACTOR_FAILED_TO_CLOSE: not closed T_cont after the drive went on (R90, R97). -/
def execContactorFailedToClose (c : CtxId) (s : State) : Host.Outcome State Fault Refusal :=
  afterRun c 0x0D (fun _ => let q := s.seqr c; q.x.drive && !q.x.closed && !(s.seqLast c).fb && s.timerDue c 4 (s.pq c 7))
    (fun n => modSeqr c fun q => ((q.driveOff n).stop).event evCtxFailedToClose 0 0) s

/-- CONTACTOR_OPENED_WITHOUT_COMMAND: open for T_cont while the drive is on after closing (R92). -/
def execContactorOpenedWithoutCommand (c : CtxId) (s : State) : Host.Outcome State Fault Refusal :=
  afterRun c 0x0D (fun _ => let q := s.seqr c; q.x.drive && q.x.closed && !(s.seqLast c).fb && s.timerDue c 4 (s.pq c 7))
    (fun n => modSeqr c fun q => ((q.driveOff n).stop).event evCtxOpenedWithoutCommand 0 0) s

/-- BS_HOLD_ELAPSED: the hand-over to grid-forming begins (R89). -/
def execBsHoldElapsed (c : CtxId) (s : State) : Host.Outcome State Fault Refusal :=
  afterRun c 0x0D (fun _ => let q := s.seqr c; q.x.stage == .blackStart && q.phase == 5 && s.timerDue c 5 (s.pq c 6))
    (fun _ => modSeqr c fun q => { q with phase := 0, hold := 0, x := { q.x with stage := .running } }) s

/-- SYNC_WINDOWS_HELD: the windows held for T_sync_hold, the close request is set (R96). -/
def execSyncWindowsHeld (c : CtxId) (s : State) : Host.Outcome State Fault Refusal :=
  afterRun c 0x0C (fun _ => s.timerDue c 0 (s.pq c 4) && s.outVal c 0 == 0) (fun _ => setOutVal c 0 0x7FFF) s

/-- SYNC_WINDOWS_NOT_MET for 10 s; the event repeats every further 10 s (R98). -/
def execSyncWindowsNotMet (c : CtxId) (s : State) : Host.Outcome State Fault Refusal :=
  afterRun c 0x0D (fun _ => let q := s.seqr c; q.x.stage == .synchronise && !q.x.drive && s.timerDue c 6 10)
    (fun n => modSeqr c fun q => { q with win := (timerAt n).toNat }.event evCtxSyncNotMet 0 0) s

/-- STOP_FACTOR_ZERO: the drive goes off (R104). -/
def execStopFactorZero (c : CtxId) (s : State) : Host.Outcome State Fault Refusal :=
  afterRun c 0x0D (fun _ => let q := s.seqr c; q.x.stage == .softStop && q.x.drive && (s.links c).factorZero)
    (fun n => modSeqr c fun q => q.driveOff n) s

/-! ## The VSM's timed happenings -/

/-- ENV_EXIT_ELAPSED: stage 2 inactive for T_env_exit, back to the mode it left (R60, R61). -/
def execEnvExitElapsed (c : CtxId) (s : State) : Host.Outcome State Fault Refusal :=
  afterRun c 0x01 (fun _ => (s.vsm c).mode == 4 && s.timerDue c 28 (s.pq c 35)) (fun _ t => transition c (t.vsm c).ret (t.lastIns c) t) s

/-- GAP_RESUME_ELAPSED: the DC link at or above U_gap_out for T_resume (R73). -/
def execGapResumeElapsed (c : CtxId) (s : State) : Host.Outcome State Fault Refusal :=
  afterRun c 0x01 (fun _ => (s.vsm c).mode == 5 && s.timerDue c 29 (s.pq c 17)) (fun _ t => transition c 3 (t.lastIns c) t) s

/-- ANCHOR_FREEZE_END: T_freeze has passed since the first run without lock, dw_a decays (R64, R575). -/
def execAnchorFreezeEnd (c : CtxId) (s : State) : Host.Outcome State Fault Refusal :=
  afterRun c 0x01 (fun n =>
      let h := (s.vsm c).h
      !s.time.locked && !h.decaying && (match h.unlocked with | some a => decide (s.pq c 12 ≤ s.span c a n) | none => false))
    (fun _ => fun t => t.modRt c fun x => { x with vsm := { x.vsm with decaying := true } }) s

/-- RAMP_COMPLETE: a ramp has made its last run (R135); the E ramp of black-start RAMP takes the VSM to HOLD (R81, R89). -/
def execRampComplete (c : CtxId) (s : State) : Host.Outcome State Fault Refusal :=
  match (s.loop.rt[c]).rampDone with
  | [] => .next s
  | w :: l =>
    afterRun c (s.ctxTemplate c) (fun _ => true)
      (fun _ t => t.modRt c fun x =>
        { x with
          rampDone := l
          vsm := if w = 14 ∧ s.ctxTemplate c = 0x01 ∧ (s.vsm c).mode = 1 ∧ x.vsm.phase = 4 then { x.vsm with phase := 5 } else x.vsm }) s

/-- The blend ends on schedule; what the limiter still lacks is the residual, of w_out (output 1) and of E (output 2), in units of the signal,
however small it is (R101). -/
def endBlend (c : CtxId) (s : State) : State :=
  let v := s.vsm c
  let src := s.srcOf c
  let v := if v.mode = 5 then v.endRamps else v
  let s := putVsm c { v with blend := false, n := 0, h := { v.h with outHeld := false } } s
  let s := if v.h.resW = 0 then s else raise src evCtxResidual 1 (BitVec.ofInt 32 (roundConv v.h.resW 65536)) s
  if v.h.resE = 0 then s else raise src evCtxResidual 2 (BitVec.ofInt 32 (roundConv v.h.resE 65536)) s

/-- BLEND_END (R101). -/
def execBlendEnd (c : CtxId) (s : State) : Host.Outcome State Fault Refusal :=
  afterRun c 0x01 (fun _ => let v := s.vsm c; v.blend && decide (s.paramInt c 31 ≤ v.n)) (fun _ => endBlend c) s

/-- FOLD_BACK_START: t_ov has reached T_peak (R58). -/
def execFoldBackStart (c : CtxId) (s : State) : Host.Outcome State Fault Refusal :=
  afterRun c 0x06 (fun _ => s.foldDue c)
    (fun _ t => raiseFull (t.srcOf c) evCtxFoldBack 0 0 ((t.ctxRegion c).map ShadowObj.region) false
      (setSw c 3 0 (t.modRt c fun x => { x with folding := true }))) s

/-! ## Impedance Watch (R66 to R70, R186, R190) -/

/-- T_sweep has passed since the last sweep began, or none has begun. -/
def State.sweepDue (s : State) (c : CtxId) (n : Word32) : Bool :=
  match (s.loop.rt[c]).sweepAt with | none => true | some a => decide (s.pq c 4 ≤ s.span c a n)

/-- SWEEP_START (R67, R69). -/
def execSweepStart (c : CtxId) (s : State) : Host.Outcome State Fault Refusal :=
  afterRun c 0x13 (fun n => !(s.loop.rt[c]).sweeping && !watchPaused (s.lastIns c) && s.sweepDue c n)
    (fun n t => beginPoint c 0 n (t.modRt c fun x => { x with sweeping := true, sweepAt := some n, points := [] })) s

/-- Dwell of the present point in seconds: 5 cycles to settle, then the longer of 20 ms and 8 cycles (R67). -/
def State.dwell (s : State) (c : CtxId) : ℚ :=
  let f : ℚ := (s.loop.rt[c]).pointF / 10
  if f = 0 then 0 else 5 / f + max (1 / 50) (8 / f)

/-- r_pos of a virtual impedance moved to a new value over 100 ms, as a module-made write (R70, R186). -/
def adaptRPos (w c : CtxId) (new : ℚ) (s : State) : State :=
  let p := coefOf new
  let word := packParam p
  if s.paramWord c 0 = word then s
  else
    let start := (qStore (match s.adaptRamp c with | some r => { v := r.acc } | none => s.pAcc c 0 0)).v
    let s := throughCtx c 0x100 (leBytes 4 word) s
    let r := rampBegin start (qStore (s.pAcc c 0 0)).v (1 / 10) (s.ts c)
    raise (s.srcOf w) evCtxDamping (BitVec.ofNat 32 word) 0 (putAdapt c (some r) s)

/-- Valid sweeps in a row whose phase margin has exceeded PM_min + 15 degrees, after one more; a sweep without a phase margin ends the row (R70;
notes/assumptions/119.md). -/
def State.goodRun (s : State) (c : CtxId) (rcd : Nat) : Nat :=
  if !rcd.testBit 57 && decide (s.pq c 5 + 15 < 180 * (rcd % 65536 : Nat) / 32767) then min 4 ((s.loop.rt[c]).goodSweeps + 1) else 0

/-- The context that adaptation writes (R186). -/
def State.adaptTarget (s : State) (c : CtxId) : CtxId := ⟨s.paramInt c 10 % 256, Nat.mod_lt _ (by decide)⟩

/-- Adaptation at the end of a valid sweep (R70). -/
def adaptSweep (c : CtxId) (rcd : Nat) (s : State) : State :=
  let pm : ℚ := 180 * (rcd % 65536 : Nat) / 32767
  let v := s.adaptTarget c
  let r := s.pq v 0
  if s.ctxTemplate v ≠ 0x05 ∨ rcd.testBit 57 then s
  else if pm < s.pq c 5 then (if r < s.pq c 7 then adaptRPos c v (min (r + s.pq c 8) (s.pq c 7)) s else s)
  else if 4 ≤ (s.loop.rt[c]).goodSweeps then (if s.pq c 6 < r then adaptRPos c v (max (r - s.pq c 8) (s.pq c 6)) s else s)
  else s

/-- The end of a sweep: record and count together, then adaptation (R70, R190). -/
def endSweep (c : CtxId) (s : State) : State :=
  let rcd := sweepRecord (s.loop.rt[c]).points
  let s := setSw c 0 (rcd : Nat) (setSw c 1 ((s.swBits c 1 + 1) % 65536 : Nat) s)
  let s := setOutVal c 0 0 (s.modRt c fun x => { x with sweeping := false })
  if !rcd.testBit 56 then s.modRt c fun x => { x with goodSweeps := 0 }
  else
    let s := s.modRt c fun x => { x with goodSweeps := s.goodRun c rcd }
    if (s.paramInt c 9).testBit 0 then adaptSweep c rcd s else s

/-- SWEEP_POINT_END (R67, R68). The end of a sweep waits while the context that it may write runs: a write is applied between two runs
(R132, R186). -/
def execSweepPointEnd (c : CtxId) (s : State) : Host.Outcome State Fault Refusal :=
  afterRun c 0x13 (fun n =>
      (s.loop.rt[c]).sweeping && !watchPaused (s.lastIns c) && decide (s.dwell c ≤ s.span c (s.loop.rt[c]).pointAt n) &&
        (decide (s.swBits c 2 + 1 < s.paramInt c 3) || !s.onLane (s.adaptTarget c)))
    (fun n t =>
      let i := t.swBits c 2 + 1
      let f := (t.loop.rt[c]).pointF
      let g := t.pointGain c f
      let t := t.modRt c fun x => { x with points := x.points ++ [(f, g)] }
      if t.paramInt c 3 ≤ i then endSweep c t else beginPoint c i n t) s

end Sys2Proof.Machine
end

