-- ==== Sys2Proof/Machine/Status.lean ====
section
/-!
DEFINITION. What a read of BAR0 returns (R6, R567, R570): the RO and W1C words of the chapters as functions of the state; every other
register returns its word. A read's side effect has a row of its own. The sets that two devices update under a Weir (R511) follow.
-/
namespace Sys2Proof.Machine

open Sys2Proof

/-! ## Safety and network words (R409, R493) -/

/-- SAF_STATUS (R493). FB_A and FB_B are channel 1's readings (notes/assumptions/75.md). -/
def State.safStatus (s : State) : Word32 :=
  let a := s.saf.ch[0]
  let b := s.saf.ch[1]
  let bits := [a.paramOk && b.paramOk, a.selfOk, !s.ch2Absent, a.startup && b.startup, s.sf1, a.discFault[0] || b.discFault[0], s.sf3,
    a.discFault[1] || b.discFault[1], !s.saf.path1Block && s.saf.biasPermit, s.saf.path1Block, !s.saf.biasPermit, s.soOn 0, s.soOn 1,
    a.inputs[4], a.inputs[5], s.sf2Fault 0 || s.sf2Fault 1, !s.dchOn, s.saf.ch2Timeout]
  packWord ((bits.zipIdx.map fun p => (p.2, 1, b2n p.1)) ++ [(24, 8, 0x12)])

/-- SAF_IN (R493). -/
def State.safIn (s : State) : Word32 :=
  let a := s.saf.ch[0]
  let b := s.saf.ch[1]
  packWord [(0, 1, b2n a.inputs[0]), (1, 1, b2n a.inputs[1]), (2, 1, b2n b.inputs[0]), (3, 1, b2n b.inputs[1]),
    (4, 1, b2n a.inputs[2]), (5, 1, b2n a.inputs[3]), (6, 1, b2n b.inputs[2]), (7, 1, b2n b.inputs[3]),
    (8, 1, b2n a.inputs[4]), (9, 1, b2n a.inputs[5]), (10, 1, b2n b.inputs[4]), (11, 1, b2n b.inputs[5])]

/-- SAF_SO_CNT (R493). -/
def State.safSoCnt (s : State) : Word32 :=
  packWord [(0, 16, s.saf.pass.toNat), (16, 8, s.saf.abandon.toNat), (24, 8, s.saf.fail.toNat)]

/-- The safety set (R511). -/
def State.safSet (s : State) : List Word32 := [s.safStatus, s.safIn, s.safSoCnt]

/-- The network counters: NET_CNT, NET_TX_CNT, NET_RX_CNT of A and B, NET_PRP_CNT (R409, R511). -/
def State.netSet (s : State) : List Word32 :=
  let a := s.net.ports[0]
  let b := s.net.ports[1]
  let cnt (p : Port) : Word32 := packWord [(0, 16, p.fcsErr.toNat), (16, 16, p.filtered.toNat)]
  [cnt a, cnt b, a.txFrames, b.txFrames, a.rxFrames, b.rxFrames,
    packWord [(0, 16, s.net.dup.toNat), (16, 8, a.wrongLan.toNat), (24, 8, b.wrongLan.toNat)]]

/-- SAF_EN and NET_EN of WEIR_DEV_CFG (R516). -/
def State.safEn (s : State) : Bool := s.rb rWeirDevCfg 7
def State.netEn (s : State) : Bool := s.rb rWeirDevCfg 15

/-- A word of the safety set as it reads (R511). -/
def State.safWord (s : State) (n : Nat) : Word32 := (if s.safEn then s.saf.shown else s.safSet).getD n 0
/-- A network counter word as it reads (R511). -/
def State.netWord (s : State) (n : Nat) : Word32 := (if s.netEn then s.net.shown else s.netSet).getD n 0

/-! ## Status words of the chapters -/

/-- The code of a device state (R527). -/
def DevState.code : DevState → Nat
  | .stabled => 0 | .waking => 1 | .setup => 2 | .ready => 3 | .run => 4 | .safe => 5 | .service => 6

/-- A mask of the indexes at which a property holds. -/
def maskOf (n : Nat) (p : Nat → Bool) : Nat := ((List.range n).map fun i => if p i then 2 ^ i else 0).sum

/-- Identity, state and Seal (R356, R545, R569, R574). -/
def readersIdentity : List (Nat × Nat × Nat × (Nat → State → Word32)) :=
  [ (0x0, 4, 1, fun _ _ => packWord [(0, 16, 0x8256), (16, 4, b2n Config.isDA)]), (0x4, 4, 1, fun _ _ => 0x01010101),
    (0x8, 4, 1, fun _ _ => Config.serial.setWidth 32), (0xC, 4, 1, fun _ _ => (Config.serial >>> 32).setWidth 32),
    (0x10, 4, 1, fun _ _ => 0x00010001), (0x40, 4, 1, fun _ s => packWord [(16, 4, s.power.sealResult.toNat)]),
    (0x44, 4, 1, fun _ s => packWord [(0, 3, s.power.dev.code), (3, 1, b2n s.pkgSafe), (4, 1, b2n s.power.sealed), (8, 4, s.power.cmdResult.toNat)]),
    (0x48, 4, 1, fun _ s => packWord [(16, 1, b2n s.power.debugOpen)]) ]

/-- Power, clocks and resets (R545). -/
def readersPower : List (Nat × Nat × Nat × (Nat → State → Word32)) :=
  [ (0x1008, 4, 1, fun _ s => packWord [(0, 10, s.power.domOn.toNat), (10, 1, b2n s.power.memInit), (16, 10, s.power.domFault.toNat)]),
    (0x100C, 4, 1, fun _ s => packWord [(0, 24, maskOf 24 fun i => (s.islands[Fin.ofNat 24 i]).bias)]),
    (0x1010, 4, 1, fun _ s => packWord [(0, 1, b2n s.power.memsOk), (1, 1, b2n s.power.pLock), (2, 1, b2n s.power.cLock),
      (3, 1, b2n s.power.mLock), (16, 16, s.power.aoErr.toNat)]),
    (0x1014, 4, 1, fun _ s => packWord [(0, 10, s.power.vbat.toNat), (16, 1, b2n s.power.low), (17, 1, b2n s.power.lost),
      (18, 1, b2n s.power.lost), (24, 8, s.power.store.toNat)]),
    (0x1018, 4, 1, fun _ s => s.reg rPwrTemp ||| packWord [(0, 12, s.power.temp.toNat)]),
    (0x101C, 4, 1, fun _ s => packWord [(0, 16, s.power.ridden.toNat), (16, 16, s.power.fails.toNat)]),
    (0x1020, 4, 1, fun _ s => packWord [(0, 3, s.power.lastReset.toNat), (8, 8, s.power.cdieCnt.toNat), (16, 8, s.power.pdieCnt.toNat)]),
    (0x102C, 4, 1, fun _ s => s.power.wakeCause.setWidth 32),
    (0x1030, 4, 1, fun _ s => s.time.ao.setWidth 32), (0x1034, 4, 1, fun _ s => s.time.aoHi.setWidth 32) ]

/-- Rings and events (R356, R462, R463). -/
def readersRings : List (Nat × Nat × Nat × (Nat → State → Word32)) :=
  [ (0x220C, 4, 1, fun _ s => s.reg rSysEvtRoute ||| packWord [(16, 16, s.rings.dropCnt.toNat)]),
    (0x2210, 4, 1, fun _ s => packWord [(0, 8, maskOf 8 fun n => (s.rings.sq[Fin.ofNat 8 n]).stopped),
      (8, 11, (s.rings.work.filter fun w => w.kind == .timed).length)]),
    (0x4008, 0x10, 192, fun i s =>
      let f := s.events.src[Fin.ofNat 192 i]
      packWord [(0, 2, match f.state with | .clear => 0 | .fault => 1 | .latched => 2), (2, 3, (s.held (Fin.ofNat 192 i)).rank),
        (5, 1, b2n f.force), (8, 4, f.recovCnt.toNat), (16, 16, f.eventCnt.toNat)]),
    (0x400C, 0x10, 192, fun i s =>
      let f := s.events.src[Fin.ofNat 192 i]
      packWord [(0, 16, f.lastCode.toNat), (16, 2, f.lastSev.code), (18, 1, b2n f.lastCons), (19, 1, b2n f.lastForced)]),
    (0x4C00, 4, 1, fun _ s => s.events.seq),
    (0x4C04, 4, 1, fun _ s => packWord [(0, 9, s.events.pbuf.length), (16, 16, s.events.pbufLost.toNat)]),
    (0x4C18, 4, 1, fun _ s => packWord [(0, 1, b2n s.events.inj.armed), (1, 1, b2n s.events.inj.done), (2, 1, b2n s.events.inj.refused)]),
    (0x4C40, 4, 6, fun i s => s.forceWord (Fin.ofNat 6 i)),
    (0x4C60, 4, 6, fun i s => packWord [(0, 32, maskOf 32 fun j => (s.events.src[Fin.ofNat 192 (32 * i + j)]).state != .clear)]),
    (0x4D00, 0x20, 4, fun i s => (s.events.fec[Fin.ofNat 4 i]).addr.setWidth 32),
    (0x4D04, 0x20, 4, fun i s =>
      let f := s.events.fec[Fin.ofNat 4 i]
      packWord [(0, 16, fld f.addr 32 16), (16, 8, f.req.toNat), (24, 4, f.type.toNat), (31, 1, b2n f.valid)]),
    (0x4D08, 0x20, 4, fun i s => (s.events.fec[Fin.ofNat 4 i]).time.setWidth 32),
    (0x4D0C, 0x20, 4, fun i s => ((s.events.fec[Fin.ofNat 4 i]).time >>> 32).setWidth 32),
    (0x4D10, 0x20, 4, fun i s => (s.events.fec[Fin.ofNat 4 i]).synd.setWidth 32),
    (0x4D14, 0x20, 4, fun i s =>
      let f := s.events.fec[Fin.ofNat 4 i]
      packWord [(0, 16, fld f.synd 32 16), (16, 4, f.nsym.toNat)]),
    (0x4D18, 0x20, 4, fun i s => (s.events.fec[Fin.ofNat 4 i]).cnt) ]

/-- Regions, trip sources and islands (R229 to R231, R261). -/
def readersRegions : List (Nat × Nat × Nat × (Nat → State → Word32)) :=
  [ (0x1000C, 0x800, 8, fun i s =>
      let r : RegionId := Fin.ofNat 8 i
      packWord [(0, 3, (s.regions[r]).phase.code), (3, 1, b2n (s.carrierRuns r)), (4, 1, b2n (s.showsInhibit r)), (5, 1, b2n (s.latched r)),
        (6, 1, b2n (s.regions[r]).hold), (8, 8, (s.regions[r]).tripCnt.toNat)]),
    (0x10010, 0x800, 8, fun i s => (s.regions[Fin.ofNat 8 i]).bcount),
    (0x10014, 0x800, 8, fun i s =>
      packWord [(0, 16, (s.regions[Fin.ofNat 8 i]).lateCnt.toNat), (16, 16, (s.regions[Fin.ofNat 8 i]).replacedCnt.toNat)]),
    (0x10018, 0x800, 8, fun i s => (s.regions[Fin.ofNat 8 i]).clipCnt.setWidth 32),
    (0x1001C, 0x800, 8, fun i s => (s.regions[Fin.ofNat 8 i]).tripTot),
    (0x18014, 0x20, 24, fun i s => (s.islands[Fin.ofNat 24 i]).cmp.setWidth 32),
    (0x18018, 0x20, 24, fun i s => (s.units[unitH (Fin.ofNat 24 i)]).carry.setWidth 32),
    (0x1801C, 0x20, 24, fun i s => (s.units[unitL (Fin.ofNat 24 i)]).carry.setWidth 32),
    (0x1C00C, 0x10, 16, fun i s => packWord [(0, 1, b2n (s.tripInput (Fin.ofNat 16 i)))]),
    (0x20020, 0x100, 24, fun i s =>
      let n : IslandId := Fin.ofNat 24 i
      let x := s.islands[n]
      let h := s.units[unitH n]
      let l := s.units[unitL n]
      packWord [(0, 1, b2n x.ready), (1, 1, b2n x.link), (2, 1, b2n x.bias), (3, 1, b2n (h.uvlo && x.evaluated)), (4, 1, b2n (l.uvlo && x.evaluated)), (5, 1, b2n h.desatHold),
        (6, 1, b2n l.desatHold), (7, 1, b2n x.rebiasRefused), (8, 4, h.src.toNat), (12, 4, (h.softSnk.getD h.snk).toNat), (16, 4, l.src.toNat),
        (20, 4, (l.softSnk.getD l.snk).toNat), (24, 8, x.ilkCnt.toNat)]),
    (0x20024, 0x100, 24, fun i s => tswWord (s.units[unitH (Fin.ofNat 24 i)])),
    (0x20028, 0x100, 24, fun i s => tswWord (s.units[unitL (Fin.ofNat 24 i)])),
    (0x2002C, 0x100, 24, fun i s => (s.islands[Fin.ofNat 24 i]).temp.setWidth 32),
    (0x20030, 0x100, 24, fun i s =>
      let h := s.units[unitH (Fin.ofNat 24 i)]
      let l := s.units[unitL (Fin.ofNat 24 i)]
      packWord [(0, 8, h.desatCnt.toNat), (8, 8, l.desatCnt.toNat), (16, 8, h.uvloCnt.toNat), (24, 8, l.uvloCnt.toNat)]),
    (0x20034, 0x100, 24, fun i s =>
      let x := s.islands[Fin.ofNat 24 i]
      packWord [(8, 8, x.testResult.toNat), (16, 1, b2n (!x.testLeft.isEmpty))]) ]
where
  /-- ISL_TSW of a unit (R261). -/
  tswWord (u : GateUnit) : Word32 := packWord [(0, 12, u.ton.toNat), (12, 12, u.toff.toNat), (24, 1, b2n u.tonValid), (25, 1, b2n u.toffValid)]

/-- ADC banks, chains, trigger units and sessions (R293, R324 to R327). -/
def readersAdc : List (Nat × Nat × Nat × (Nat → State → Word32)) :=
  [ (0x30020, 0x1000, 4, fun i s => let b := s.banks[Fin.ofNat 4 i]; packWord [(0, 16, b.ovrCnt.toNat), (16, 16, b.latchCnt.toNat)]),
    (0x30024, 0x1000, 4, fun i s => let b := s.banks[Fin.ofNat 4 i]; packWord [(0, 16, b.injLost.toNat), (16, 16, b.injOvr.toNat)]),
    (0x30028, 0x1000, 4, fun i s =>
      let b := s.banks[Fin.ofNat 4 i]
      packWord [(0, 5, b.spareFor.toNat), (8, 17, b.failed.toNat), (25, 1, b2n b.stopped)]),
    (0x3002C, 0x1000, 4, fun i s => let b := s.banks[Fin.ofNat 4 i]; packWord [(0, 12, b.queue.length), (16, 16, b.dropCnt.toNat)]),
    (0x30030, 0x1000, 4, fun i s => (s.banks[Fin.ofNat 4 i]).queue.headD 0),
    (0x30038, 0x1000, 4, fun i s => let b := s.banks[Fin.ofNat 4 i]; packWord [(0, 16, b.winLatched.toNat), (16, 16, b.winState.toNat)]),
    (0x3003C, 0x1000, 4, fun i s => (s.banks[Fin.ofNat 4 i]).owFlag.setWidth 32),
    (0x38018, 0x100, 16, fun i s =>
      let c := s.chains[Fin.ofNat 16 i]
      packWord [(0, 1, b2n c.valid), (1, 1, b2n c.frozen), (2, 3, c.cause.val), (16, 16, c.restartCnt.toNat)]),
    (0x3801C, 0x100, 16, fun i s => (s.chains[Fin.ofNat 16 i]).settle),
    (0x3A000, 4, 64, fun i _ => (Config.fltSkew i).setWidth 32),
    (0x40010, 0x40, 8, fun i s =>
      let t := s.trigs[Fin.ofNat 8 i]
      packWord [(0, 2, match t.state with | .off => 0 | .armed => 1 | .holdOff => 2 | .fired => 3), (2, 1, b2n t.cfgErr),
        (16, 16, t.fireCnt.toNat)]),
    (0x41000, 0x20, 16, fun i s =>
      let x := s.sessions[Fin.ofNat 16 i]
      packWord [(0, 3, match x.state with | .free => 0 | .armed => 1 | .triggered => 2 | .ended => 3), (4, 4, x.gen.toNat), (8, 8, x.flags),
        (16, 16, x.status.toNat)]),
    (0x41004, 0x20, 16, fun i s => let x := s.sessions[Fin.ofNat 16 i]; BitVec.ofNat 32 (x.counts.1 + x.counts.2.1)),
    (0x41008, 0x20, 16, fun i s => BitVec.ofNat 32 (s.sessions[Fin.ofNat 16 i]).gaps),
    (0x42000, 4, 1, fun _ s => packWord [(0, 16, s.capBw), (16, 16, 0xFA0)]) ]

/-- A load in units of 2^-12 lane, by truncation, at most 0xFFFF (R161). -/
def loadWord (q : ℚ) : Nat := min 0xFFFF (q * 4096).floor.toNat

/-- The Loop Engine (R161, R191). -/
def readersLoop : List (Nat × Nat × Nat × (Nat → State → Word32)) :=
  [ (0x50030, 4, 1, fun _ s => s.loop.codeWord.setWidth 32), (0x50034, 4, 1, fun _ s => s.codeAt s.loop.codeWord.toNat),
    (0x5003C, 4, 1, fun _ s => packWord [(0, 4, s.loop.ucodeResult.toNat), (8, 7, s.loop.ucodeEntries.length), (16, 14, s.loop.ucodeFail.toNat)]),
    (0x50040, 4, 1, fun _ s => packWord [(0, 16, s.loop.tbOverrun.toNat), (16, 8, (s.loop.cache.filter CacheEntry.pinned).length),
      (24, 8, (s.loop.probes.toList.filter fun p => p.ctx.isSome).length)]),
    (0x50050, 4, 8, fun i s => let p := s.loadOf (Fin.ofNat 8 i); packWord [(0, 16, min 0xFFFF p.1), (16, 16, min 0xFFFF p.2)]),
    (0x50070, 4, 1, fun _ s => packWord [(0, 16, loadWord s.tbLoad.1), (16, 16, if s.loop.tbShown then loadWord s.tbLoad.2 else 0)]),
    (0x50088, 4, 1, fun _ s => packWord [(0, 1, b2n s.loop.imageLoading)]),
    (0x5008C, 4, 1, fun _ s => packWord [(0, 4, s.loop.imageResult.toNat), (8, 8, s.loop.imageFail.toNat)]),
    (0x50090, 4, 1, fun _ s => packWord [(0, 8, s.loop.cache.length), (16, 16, s.loop.missCnt.toNat)]) ]

/-- Network, time and pairing (R409, R410, R433). -/
def readersNet : List (Nat × Nat × Nat × (Nat → State → Word32)) :=
  [ (0x60014, 4, 1, fun _ s => packWord [(0, 9, s.net.bufs.length), (16, 8, s.net.nobufCnt.toNat), (24, 8, s.net.foreignCnt.toNat)]),
    (0x60104, 0x40, 2, fun i s => packWord [(0, 1, b2n (s.net.ports[Fin.ofNat 2 i]).link)]),
    (0x60108, 0x40, 2, fun i s => s.netWord i), (0x6010C, 0x40, 2, fun i s => s.netWord (2 + i)),
    (0x60110, 0x40, 2, fun i s => s.netWord (4 + i)), (0x60300, 4, 1, fun _ s => s.netWord 6),
    (0x68000, 4, 1, fun _ s => s.timeNs.setWidth 32), (0x68004, 4, 1, fun _ s => s.time.nowHi),
    (0x68008, 4, 1, fun _ s => packWord [(0, 1, b2n s.time.locked), (1, 1, b2n s.time.stepRefused), (2, 1, b2n s.time.discont)]),
    (0x68014, 4, 1, fun _ s => BitVec.ofInt 32 s.time.rho), (0x68018, 4, 1, fun _ s => (BitVec.ofInt 64 s.time.rho >>> 32).setWidth 32),
    (0x68020, 4, 1, fun _ s => match s.net.txq with | e :: _ => e.ts | [] => 0),
    (0x68024, 4, 1, fun _ s => match s.net.txqLatch with | some e => e.asn | none => 0),
    (0x68028, 4, 1, fun _ s => match s.net.txqLatch with
      | some e => packWord [(0, 4, e.tag.toNat), (4, 4, e.gen.toNat), (8, 2, e.port.toNat), (31, 1, 1)]
      | none => 0),
    (0x6802C, 4, 1, fun _ s => packWord [(0, 5, s.net.txq.length), (16, 16, s.net.txqDrop.toNat)]),
    (0x70014, 4, 1, fun _ s => s.reg rPairLat ||| packWord [(0, 16, s.latency)]),
    (0x70018, 4, 1, fun _ s => packWord ((List.finRange 8).flatMap fun r =>
      let p := s.pair.regions[r]
      let active := if s.isMirror r then p.partnerActive else s.isPaired r && p.partnerActive
      [(4 * r.val, 2, match p.standby with | .absent => 0 | .resync => 1 | .synced => 2), (4 * r.val + 2, 1, b2n active),
        (4 * r.val + 3, 1, b2n (s.pair.up && (s.isPaired r || s.isMirror r)))])),
    (0x7001C, 4, 1, fun _ s => packWord [(0, 16, s.pair.diverge.toNat), (16, 16, s.pair.stale.toNat)]),
    (0x70020, 4, 1, fun _ s => packWord [(0, 16, s.pair.epoch.toNat), (16, 16, s.pair.epochsDiscarded.toNat)]) ]

/-- A word of the arbiter's settings (R516). -/
def ArbCfg.orderWord (c : ArbCfg) : Word32 := packWord ((List.finRange 5).map fun i => (4 * i.val, 3, (c.order[i]).toNat))
def ArbCfg.cfgWord (c : ArbCfg) : Word32 := packWord [(0, 3, c.leRsv.toNat), (8, 6, c.burstMax.toNat)]

/-- Safety, arbiter, Weirs, Millrace, journal and the debug block (R17, R379, R493, R516, R574). -/
def readersRest : List (Nat × Nat × Nat × (Nat → State → Word32)) :=
  [ (0x78020, 4, 1, fun _ s => packWord [(0, 1, b2n s.saf.reqA), (1, 1, b2n s.saf.reqB)]), (0x78040, 4, 3, fun i s => s.safWord i),
    (0x80000, 4, 1, fun _ s => s.arb.shadow.orderWord), (0x80004, 4, 1, fun _ s => s.arb.shadow.cfgWord),
    (0x8000C, 4, 1, fun _ s => s.arb.active.orderWord), (0x80010, 4, 1, fun _ s => s.arb.active.cfgWord),
    (0x80014, 4, 1, fun _ s => packWord [(0, 3, s.arb.ptr), (3, 1, b2n s.arb.commitErr), (8, 8, s.arb.wdCnt.toNat), (16, 8, s.arb.wdReq.toNat)]),
    (0x80080, 4, 1, fun _ s => packWord [(0, 32, maskOf 32 fun n => (s.weirs[Fin.ofNat 32 n]).owner.isSome)]),
    (0x80084, 4, 1, fun _ s => packWord [(0, 32, maskOf 32 fun n => (s.weirs[Fin.ofNat 32 n]).suspect)]),
    (0x80100, 4, 32, fun i s =>
      let w := s.weirs[Fin.ofNat 32 i]
      packWord [(0, 4, match w.owner with | some o => o.val | none => 0xF), (4, 4, w.gen.toNat), (8, 1, b2n w.suspect), (12, 4, w.waiters.length)]),
    (0x90000, 4, 1, fun _ s => packWord [(0, 1, b2n s.linkUp), (1, 1, b2n s.lane0), (2, 1, b2n s.lane1), (8, 8, s.failCnt.toNat),
      (16, 16, s.replayCnt.toNat)]),
    (0x90100, 4, 1, fun _ s => packWord [(0, 14, (s.rings.journal.filter fun e => e.state != .posted).length), (16, 1, b2n s.replayRuns),
      (20, 4, s.rings.lastCause.toNat)]),
    (0x90104, 4, 1, fun _ s => s.rings.nextAsn),
    (0x90108, 4, 1, fun _ s => packWord [(0, 16, s.rings.replays.toNat), (16, 16, s.rings.reapplied.toNat)]),
    (0x90110, 4, 1, fun _ s => packWord [(0, 16, s.memCorr.toNat), (16, 16, s.memUncorr.toNat)]),
    (0x90114, 4, 1, fun _ s => packWord [(0, 16, s.jrnlCorr.toNat), (16, 16, s.jrnlUncorr.toNat)]),
    (0xF0000, 4, 1, fun _ s => s.dbgBlock.addr), (0xF0004, 4, 1, fun _ s => packWord [(2, 1, b2n s.dbgBlock.busy.isSome)]),
    (0xF0040, 4, 16, fun i s => s.dbgBlock.line[Fin.ofNat 16 i]) ]

/-- Every register with RO, WO or W1C fields. -/
def readers : List (Nat × Nat × Nat × (Nat → State → Word32)) :=
  readersIdentity ++ readersPower ++ readersRings ++ readersRegions ++ readersAdc ++ readersLoop ++ readersNet ++ readersRest

/-- The word that a read of an offset returns; 0 where no register stands (R567, R570). -/
def State.readReg (s : State) (off : Nat) : Word32 :=
  match readers.findSome? fun r => (instOf r.1 r.2.1 r.2.2.1 off).map fun i => r.2.2.2 i s with
  | some w => w
  | none => if (regRow off).isSome then s.reg off else 0

/-- A word of BAR2: of the MSI-X table at 0x0000, of the pending-bit array at 0x1000 (R354). -/
def State.readMsix (s : State) (b : Nat) : Word32 :=
  if b < 0x200 then s.msixWord (b / 4) else if b = 0x1000 then s.host.msixPending else 0

/-- What a host's 32-bit read of an aligned offset returns, none while it waits: all ones during a C-die reset, which BAR2 answers through; a read
of a P-die register waits while the link is down or the P-die in reset, and returns all ones where it is not served within 200 µs (R354, R568). -/
def State.hostReads (s : State) (off : Nat) : Option Word32 :=
  if !s.hostReaches then none
  else if bar2 ≤ off then some (s.readMsix (off - bar2))
  else if !s.power.cRun then some 0xFFFFFFFF
  else if dieOf off = .c || s.pReach then some (s.readReg off)
  else none

/-- A read of `size` bytes: one narrower than 32 bits returns the addressed bytes of its register, one of 64 bits those of two registers, lower
address first; reads with a side effect are rows of their own (R568). -/
def State.hostLoads (s : State) (off size : Nat) : Option (List Byte) :=
  (List.range size).mapM fun i => (s.hostReads ((off + i) / 4 * 4)).map fun w => w.extractLsb' (8 * ((off + i) % 4)) 8

/-! ## Sets updated under a Weir (R511, R513) -/

/-- A device's update of its set: while it holds the Weir it writes the whole set and releases the Weir with SUSPECT cleared; it waits while
another owner holds it. -/
def devUpdate (o : OwnerId) (n : WeirId) (due : Bool) (write : State → State) (s : State) : State :=
  let w := s.weirs[n]
  if w.owner = some o then passWeir n false (write s)
  else if !due || w.waiters.any (fun x => x.1 == o) then s
  else if w.owner.isNone then passWeir n false (write (grantWeir n o none s))
  else s.modWeir n fun w => { w with waiters := insWaiter (o, none, s.now) w.waiters }

/-- The Weirs named by WEIR_DEV_CFG (R516). -/
def State.safWeir (s : State) : WeirId := ⟨s.rf rWeirDevCfg 0 5, by simp only [State.rf, fld]; exact Nat.mod_lt _ (by decide)⟩
def State.netWeir (s : State) : WeirId := ⟨s.rf rWeirDevCfg 8 5, by simp only [State.rf, fld]; exact Nat.mod_lt _ (by decide)⟩

/-- The safety set written. -/
def writeSafSet (s : State) : State :=
  { (s.modSaf fun f => { f with shown := s.safSet }) with arb := { s.arb with safAt := s.now } }

/-- The network counters written. -/
def writeNetSet (s : State) : State :=
  { (s.modNet fun f => { f with shown := s.netSet }) with arb := { s.arb with netAt := s.now } }

/-- SAFETY_SET_UPDATE. -/
def execSafetySetUpdate (s : State) : Host.Outcome State Fault Refusal :=
  .next (if s.safEn && s.safPowered && s.power.cRun && s.pReach && s.awake then
      settle s (devUpdate 8 s.safWeir (decide (s.arb.safAt + msTicks 1 ≤ s.now)) writeSafSet s)
    else s)

/-- NETWORK_COUNTER_UPDATE. -/
def execNetworkCounterUpdate (s : State) : Host.Outcome State Fault Refusal :=
  .next (if s.netEn && s.netRuns && s.power.cRun && s.pReach then
      settle s (devUpdate 9 s.netWeir (decide (s.arb.netAt + sTicks 1 ≤ s.now)) writeNetSet s)
    else s)

end Sys2Proof.Machine
end

