-- ==== Sys2Proof/Machine/Dispatch.lean ====
section
/-!
DEFINITION. What each command does: one arm per row of the table, one direct call of its meaning.
-/
namespace Sys2Proof.Machine

open Sys2Proof

/-- The effect of a command on everything but the queue. -/
def exec (i : Instr) (s : State) : Host.Outcome State Fault Refusal :=
  match i with
  | .nop slot => Sys2Proof.Machine.execNop slot s
  | .ctxWrite slot => Sys2Proof.Machine.execCtxWrite slot s
  | .ctxRead slot => Sys2Proof.Machine.execCtxRead slot s
  | .ctxEnable slot => Sys2Proof.Machine.execCtxEnable slot s
  | .ctxDisable slot => Sys2Proof.Machine.execCtxDisable slot s
  | .regionMode slot => Sys2Proof.Machine.execRegionMode slot s
  | .regionCommit slot => Sys2Proof.Machine.execRegionCommit slot s
  | .captureArm slot => Sys2Proof.Machine.execCaptureArm slot s
  | .captureCopy slot => Sys2Proof.Machine.execCaptureCopy slot s
  | .captureStop slot => Sys2Proof.Machine.execCaptureStop slot s
  | .probeStart slot => Sys2Proof.Machine.execProbeStart slot s
  | .probeStop slot => Sys2Proof.Machine.execProbeStop slot s
  | .netTx slot => Sys2Proof.Machine.execNetTx slot s
  | .netRxPost slot => Sys2Proof.Machine.execNetRxPost slot s
  | .timeAdjust slot => Sys2Proof.Machine.execTimeAdjust slot s
  | .weirAcquire slot => Sys2Proof.Machine.execWeirAcquire slot s
  | .weirRelease slot => Sys2Proof.Machine.execWeirRelease slot s
  | .pairSwap slot => Sys2Proof.Machine.execPairSwap slot s
  | .pairResync slot => Sys2Proof.Machine.execPairResync slot s
  | .faultClear slot => Sys2Proof.Machine.execFaultClear slot s
  | .eventForce slot => Sys2Proof.Machine.execEventForce slot s
  | .barrier slot => Sys2Proof.Machine.execBarrier slot s
  | .setupSeal v => Sys2Proof.Machine.execSetupSeal v s
  | .enterService key => Sys2Proof.Machine.execEnterService key s
  | .leaveService key => Sys2Proof.Machine.execLeaveService key s
  | .enterStabled key => Sys2Proof.Machine.execEnterStabled key s
  | .pwrCmdCDieWarmReset key => Sys2Proof.Machine.execPwrCmdCDieWarmReset key s
  | .pwrCmdPackageWarmReset key => Sys2Proof.Machine.execPwrCmdPackageWarmReset key s
  | .pwrCmdPDieWarmReset key => Sys2Proof.Machine.execPwrCmdPDieWarmReset key s
  | .restart mask => Sys2Proof.Machine.execRestart mask s
  | .leUcodeDataWrite v => Sys2Proof.Machine.execLeUcodeDataWrite v s
  | .verify v => Sys2Proof.Machine.execVerify v s
  | .verifyDone => Sys2Proof.Machine.execVerifyDone s
  | .load v => Sys2Proof.Machine.execLoad v s
  | .imageLoadDone image => Sys2Proof.Machine.execImageLoadDone image s
  | .adcQdataRead b => Sys2Proof.Machine.execAdcQdataRead b s
  | .go b v => Sys2Proof.Machine.execGo b v s
  | .timeTxqE0Read => Sys2Proof.Machine.execTimeTxqE0Read s
  | .timeNowRead => Sys2Proof.Machine.execTimeNowRead s
  | .aoTimeRead => Sys2Proof.Machine.execAoTimeRead s
  | .timeLockCfgWrite v => Sys2Proof.Machine.execTimeLockCfgWrite v s
  | .channelSwitch n v => Sys2Proof.Machine.execChannelSwitch n v s
  | .freeze n v => Sys2Proof.Machine.execFreeze n v s
  | .unfreeze n v => Sys2Proof.Machine.execUnfreeze n v s
  | .triggerConfigWrite u w v => Sys2Proof.Machine.execTriggerConfigWrite u w v s
  | .rearm u v => Sys2Proof.Machine.execRearm u v s
  | .comparatorSelfTest isl v => Sys2Proof.Machine.execComparatorSelfTest isl v s
  | .rebias isl v => Sys2Proof.Machine.execRebias isl v s
  | .arbCommit v => Sys2Proof.Machine.execArbCommit v s
  | .arbCommitApply => Sys2Proof.Machine.execArbCommitApply s
  | .arm v => Sys2Proof.Machine.execArm v s
  | .injectionApply => Sys2Proof.Machine.execInjectionApply s
  | .evtForceWrite w v => Sys2Proof.Machine.execEvtForceWrite w v s
  | .soOnRequest v => Sys2Proof.Machine.execSoOnRequest v s
  | .debugOpen v => Sys2Proof.Machine.execDebugOpen v s
  | .dbgRead v => Sys2Proof.Machine.execDbgRead v s
  | .dbgWrite v => Sys2Proof.Machine.execDbgWrite v s
  | .debugAccessDone => Sys2Proof.Machine.execDebugAccessDone s
  | .registerWrite off v size => Sys2Proof.Machine.execRegisterWrite off v size s
  | .pDieAccessTimeout => Sys2Proof.Machine.execPDieAccessTimeout s
  | .doorbellPoll => Sys2Proof.Machine.execDoorbellPoll s
  | .descriptorAccept q => Sys2Proof.Machine.execDescriptorAccept q s
  | .journalAcknowledge slot => Sys2Proof.Machine.execJournalAcknowledge slot s
  | .timedActionDue slot => Sys2Proof.Machine.execTimedActionDue slot s
  | .completionPost slot => Sys2Proof.Machine.execCompletionPost slot s
  | .msixSignal m => Sys2Proof.Machine.execMsixSignal m s
  | .hostDmaReadComplete id status data => Sys2Proof.Machine.execHostDmaReadComplete id status data s
  | .hostDmaError id => Sys2Proof.Machine.execHostDmaError id s
  | .hostSilent => Sys2Proof.Machine.execHostSilent s
  | .pcieEndpointReset => Sys2Proof.Machine.execPcieEndpointReset s
  | .pcieLinkDown => Sys2Proof.Machine.execPcieLinkDown s
  | .pcieLinkReturn => Sys2Proof.Machine.execPcieLinkReturn s
  | .journalReplay readBack => Sys2Proof.Machine.execJournalReplay readBack s
  | .patrolScrub journal line => Sys2Proof.Machine.execPatrolScrub journal line s
  | .millraceFrameReceive d skip err => Sys2Proof.Machine.execMillraceFrameReceive d skip err s
  | .millraceLinkFailure d cause => Sys2Proof.Machine.execMillraceLinkFailure d cause s
  | .millraceLinkUp => Sys2Proof.Machine.execMillraceLinkUp s
  | .regionBoundary r => Sys2Proof.Machine.execRegionBoundary r s
  | .regionTrigger r => Sys2Proof.Machine.execRegionTrigger r s
  | .islandWrap isl => Sys2Proof.Machine.execIslandWrap isl s
  | .unitEdge u => Sys2Proof.Machine.execUnitEdge u s
  | .tripAssert n => Sys2Proof.Machine.execTripAssert n s
  | .recoveryEnd r => Sys2Proof.Machine.execRecoveryEnd r s
  | .dutyFrameReceive r => Sys2Proof.Machine.execDutyFrameReceive r s
  | .cDieLossDetect r => Sys2Proof.Machine.execCDieLossDetect r s
  | .holdTimeEnd r => Sys2Proof.Machine.execHoldTimeEnd r s
  | .contextRelease r => Sys2Proof.Machine.execContextRelease r s
  | .timebaseSlot => Sys2Proof.Machine.execTimebaseSlot s
  | .contextRunComplete c => Sys2Proof.Machine.execContextRunComplete c s
  | .dutyFrameSend r => Sys2Proof.Machine.execDutyFrameSend r s
  | .prefetchIssue c => Sys2Proof.Machine.execPrefetchIssue c s
  | .prefetchLanded c => Sys2Proof.Machine.execPrefetchLanded c s
  | .writebackSweep => Sys2Proof.Machine.execWritebackSweep s
  | .loopEngineHeartbeatLost => Sys2Proof.Machine.execLoopEngineHeartbeatLost s
  | .busDeclaredDead c => Sys2Proof.Machine.execBusDeclaredDead c s
  | .startDelayExpire c => Sys2Proof.Machine.execStartDelayExpire c s
  | .contactorFailedToClose c => Sys2Proof.Machine.execContactorFailedToClose c s
  | .contactorOpenedWithoutCommand c => Sys2Proof.Machine.execContactorOpenedWithoutCommand c s
  | .bsHoldElapsed c => Sys2Proof.Machine.execBsHoldElapsed c s
  | .syncWindowsHeld c => Sys2Proof.Machine.execSyncWindowsHeld c s
  | .syncWindowsNotMet c => Sys2Proof.Machine.execSyncWindowsNotMet c s
  | .envExitElapsed c => Sys2Proof.Machine.execEnvExitElapsed c s
  | .gapResumeElapsed c => Sys2Proof.Machine.execGapResumeElapsed c s
  | .anchorFreezeEnd c => Sys2Proof.Machine.execAnchorFreezeEnd c s
  | .foldBackStart c => Sys2Proof.Machine.execFoldBackStart c s
  | .stopFactorZero c => Sys2Proof.Machine.execStopFactorZero c s
  | .rampComplete c => Sys2Proof.Machine.execRampComplete c s
  | .blendEnd c => Sys2Proof.Machine.execBlendEnd c s
  | .sweepStart c => Sys2Proof.Machine.execSweepStart c s
  | .sweepPointEnd c => Sys2Proof.Machine.execSweepPointEnd c s
  | .islandLinkLost isl atIsland => Sys2Proof.Machine.execIslandLinkLost isl atIsland s
  | .islandLinkRelock isl => Sys2Proof.Machine.execIslandLinkRelock isl s
  | .islandInterlock isl => Sys2Proof.Machine.execIslandInterlock isl s
  | .switchingTimeMeasured u turnOn vLeg fine cross => Sys2Proof.Machine.execSwitchingTimeMeasured u turnOn vLeg fine cross s
  | .uvlo u rail => Sys2Proof.Machine.execUvlo u rail s
  | .uvloRelease u rail => Sys2Proof.Machine.execUvloRelease u rail s
  | .desaturationArmed u => Sys2Proof.Machine.execDesaturationArmed u s
  | .desaturation u sense => Sys2Proof.Machine.execDesaturation u sense s
  | .softTurnOffEnd u => Sys2Proof.Machine.execSoftTurnOffEnd u s
  | .comparatorTestDone isl pass => Sys2Proof.Machine.execComparatorTestDone isl pass s
  | .islandOverTemperature isl temp => Sys2Proof.Machine.execIslandOverTemperature isl temp s
  | .islandStart isl => Sys2Proof.Machine.execIslandStart isl s
  | .islandReady isl => Sys2Proof.Machine.execIslandReady isl s
  | .islandStartFailed isl failed => Sys2Proof.Machine.execIslandStartFailed isl failed s
  | .islandBlockReset isl => Sys2Proof.Machine.execIslandBlockReset isl s
  | .islandBiasRestore isl => Sys2Proof.Machine.execIslandBiasRestore isl s
  | .bankTimer b => Sys2Proof.Machine.execBankTimer b s
  | .samplingInstant b uv => Sys2Proof.Machine.execSamplingInstant b uv s
  | .setComplete b => Sys2Proof.Machine.execSetComplete b s
  | .injectedTrigger b => Sys2Proof.Machine.execInjectedTrigger b s
  | .injectedSamplingInstant b uv => Sys2Proof.Machine.execInjectedSamplingInstant b uv s
  | .injectedConversionComplete b => Sys2Proof.Machine.execInjectedConversionComplete b s
  | .calibrationStepStart b => Sys2Proof.Machine.execCalibrationStepStart b s
  | .calibrationHandOver b => Sys2Proof.Machine.execCalibrationHandOver b s
  | .calibrationMeasurementEnd b inRange coef => Sys2Proof.Machine.execCalibrationMeasurementEnd b inRange coef s
  | .calibrationHandBack b => Sys2Proof.Machine.execCalibrationHandBack b s
  | .packedFrameFlush b => Sys2Proof.Machine.execPackedFrameFlush b s
  | .windowComparatorAsserted ch uv => Sys2Proof.Machine.execWindowComparatorAsserted ch uv s
  | .windowComparatorRelease ch uv => Sys2Proof.Machine.execWindowComparatorRelease ch uv s
  | .chainFrameFlush n => Sys2Proof.Machine.execChainFrameFlush n s
  | .triggerHoldOffEnd u => Sys2Proof.Machine.execTriggerHoldOffEnd u s
  | .captureTrigger k => Sys2Proof.Machine.execCaptureTrigger k s
  | .captureDone k => Sys2Proof.Machine.execCaptureDone k s
  | .captureProgressWrite k => Sys2Proof.Machine.execCaptureProgressWrite k s
  | .arbiterGrant slot prefetch requests => Sys2Proof.Machine.execArbiterGrant slot prefetch requests s
  | .refresh => Sys2Proof.Machine.execRefresh s
  | .arbiterWatchdog => Sys2Proof.Machine.execArbiterWatchdog s
  | .weirAcquireTimedOut slot => Sys2Proof.Machine.execWeirAcquireTimedOut slot s
  | .weirsReleased w => Sys2Proof.Machine.execWeirsReleased w s
  | .safetySetUpdate => Sys2Proof.Machine.execSafetySetUpdate s
  | .networkCounterUpdate => Sys2Proof.Machine.execNetworkCounterUpdate s
  | .frameReceive p frame fcsOk => Sys2Proof.Machine.execFrameReceive p frame fcsOk s
  | .txTimestamp p => Sys2Proof.Machine.execTxTimestamp p s
  | .supervisionFrameSend => Sys2Proof.Machine.execSupervisionFrameSend s
  | .lanSilent p => Sys2Proof.Machine.execLanSilent p s
  | .prpNodeExpire node => Sys2Proof.Machine.execPrpNodeExpire node s
  | .linkUp p => Sys2Proof.Machine.execLinkUp p s
  | .linkDown p => Sys2Proof.Machine.execLinkDown p s
  | .timeLockLost => Sys2Proof.Machine.execTimeLockLost s
  | .sampleFrameReceive => Sys2Proof.Machine.execSampleFrameReceive s
  | .dutyCopyReceive => Sys2Proof.Machine.execDutyCopyReceive s
  | .helloSend => Sys2Proof.Machine.execHelloSend s
  | .helloReceive => Sys2Proof.Machine.execHelloReceive s
  | .partnerDown => Sys2Proof.Machine.execPartnerDown s
  | .faultDeclarationReceive => Sys2Proof.Machine.execFaultDeclarationReceive s
  | .controlDieFailed r partner => Sys2Proof.Machine.execControlDieFailed r partner s
  | .parameterFrameReceive => Sys2Proof.Machine.execParameterFrameReceive s
  | .resynchronisationStart r => Sys2Proof.Machine.execResynchronisationStart r s
  | .checkpointChunkReceive => Sys2Proof.Machine.execCheckpointChunkReceive s
  | .checkpointCommitReceive => Sys2Proof.Machine.execCheckpointCommitReceive s
  | .resynchronisationFailed r => Sys2Proof.Machine.execResynchronisationFailed r s
  | .eventCollect => Sys2Proof.Machine.execEventCollect s
  | .faultRecovered k => Sys2Proof.Machine.execFaultRecovered k s
  | .shadowWindowEnd w => Sys2Proof.Machine.execShadowWindowEnd w s
  | .safetyInputChange ch x noDemand lasted => Sys2Proof.Machine.execSafetyInputChange ch x noDemand lasted s
  | .discrepancyFault ch pair => Sys2Proof.Machine.execDiscrepancyFault ch pair s
  | .startUpTestPassed ch => Sys2Proof.Machine.execStartUpTestPassed ch s
  | .secondPathDecode halves idle => Sys2Proof.Machine.execSecondPathDecode halves idle s
  | .gateEnable => Sys2Proof.Machine.execGateEnable s
  | .soTestPulse ch => Sys2Proof.Machine.execSoTestPulse ch s
  | .soTestPulseEnd ch fallA fallB => Sys2Proof.Machine.execSoTestPulseEnd ch fallA fallB s
  | .safeOutputOverload o milliamps lasted => Sys2Proof.Machine.execSafeOutputOverload o milliamps lasted s
  | .contactorFeedbackFault ch o => Sys2Proof.Machine.execContactorFeedbackFault ch o s
  | .channel2Rejoined => Sys2Proof.Machine.execChannel2Rejoined s
  | .channel2AbsentTooLong => Sys2Proof.Machine.execChannel2AbsentTooLong s
  | .channel2DidNotFollowDemand => Sys2Proof.Machine.execChannel2DidNotFollowDemand s
  | .path1ReadbackPulse ok railsOff => Sys2Proof.Machine.execPath1ReadbackPulse ok railsOff s
  | .channel1SelfTest ok => Sys2Proof.Machine.execChannel1SelfTest ok s
  | .channel2SelfCheck ok => Sys2Proof.Machine.execChannel2SelfCheck ok s
  | .supplyPulseTest sup ch followed => Sys2Proof.Machine.execSupplyPulseTest sup ch followed s
  | .dchOverload shorted milliamps lasted => Sys2Proof.Machine.execDchOverload shorted milliamps lasted s
  | .dchRetry again => Sys2Proof.Machine.execDchRetry again s
  | .cdrvOverload milliamps lasted => Sys2Proof.Machine.execCdrvOverload milliamps lasted s
  | .inputLow mv => Sys2Proof.Machine.execInputLow mv s
  | .inputLoss mv mj => Sys2Proof.Machine.execInputLoss mv mj s
  | .inputReturn mv mj => Sys2Proof.Machine.execInputReturn mv mj s
  | .powerFail mj => Sys2Proof.Machine.execPowerFail mj s
  | .storeAoReserve mj => Sys2Proof.Machine.execStoreAoReserve mj s
  | .powerOnReset => Sys2Proof.Machine.execPowerOnReset s
  | .domainRegulationLoss dom => Sys2Proof.Machine.execDomainRegulationLoss dom s
  | .pdNetRestarted => Sys2Proof.Machine.execPdNetRestarted s
  | .pdIsoRestart => Sys2Proof.Machine.execPdIsoRestart s
  | .memsReferenceLost edgelessNs diff => Sys2Proof.Machine.execMemsReferenceLost edgelessNs diff s
  | .memsReferenceRecovered us => Sys2Proof.Machine.execMemsReferenceRecovered us s
  | .pllLockLost pll => Sys2Proof.Machine.execPllLockLost pll s
  | .aoClockMeasure err => Sys2Proof.Machine.execAoClockMeasure err s
  | .cDieWarmReset => Sys2Proof.Machine.execCDieWarmReset s
  | .cDieResetEnd => Sys2Proof.Machine.execCDieResetEnd s
  | .autoCDieReset => Sys2Proof.Machine.execAutoCDieReset s
  | .pDieWarmReset => Sys2Proof.Machine.execPDieWarmReset s
  | .pDieResetEnd => Sys2Proof.Machine.execPDieResetEnd s
  | .wake cause lasted mv => Sys2Proof.Machine.execWake cause lasted mv s
  | .memInitComplete => Sys2Proof.Machine.execMemInitComplete s
  | .moduleTemperature temp => Sys2Proof.Machine.execModuleTemperature temp s
  | .sf2FaultCleared o => Sys2Proof.Machine.execSf2FaultCleared o s
  | .safeOutputReadbackFault ch o => Sys2Proof.Machine.execSafeOutputReadbackFault ch o s
  | .cdSafRestarted => Sys2Proof.Machine.execCdSafRestarted s
  | .postedWriteErrorReported addr req => Sys2Proof.Machine.execPostedWriteErrorReported addr req s
  | .portFrameBoundary p => Sys2Proof.Machine.execPortFrameBoundary p s
  | .millraceFrameBoundary d => Sys2Proof.Machine.execMillraceFrameBoundary d s
  | .inputLowCleared mv => Sys2Proof.Machine.execInputLowCleared mv s

end Sys2Proof.Machine
end

