-- ==== Sys2Proof/Safety.lean ====
section
/-!
DEFINITION. What claims call safe: gates off, the package safe state of R34, units held off, register words and tables that hold what they can
hold, and a journal whose slots and ASNs name one entry each.
-/
namespace Sys2Proof

open Sys2Proof.Machine

/-- Every gate output is off. -/
def GatesOff (s : State) : Prop := ∀ u : UnitId, s.units[u].gate = false

/-- The four outputs of package safe state (R34): every unit off, SO_A and SO_B de-energised, the contactor drive off, discharge
requested. -/
structure PackageSafe (s : State) : Prop where
  gates : GatesOff s
  soA : s.soOn 0 = false
  soB : s.soOn 1 = false
  drive : s.cdrvOn = false
  discharge : s.dchOn = false

/-- The RW and RWS bits of the register at an offset; none where no such register stands (R6). -/
def writableBits (off : Nat) : Word32 :=
  match regRow off with
  | some r => r.rws ||| r.rw
  | none => 0

/-- Register words as the register file can hold them: in canonical form, with every reserved bit 0 (R8). -/
def WordsSound (l : List (Nat × Word32)) : Prop := tableWf resetWord l = true ∧ ∀ p ∈ l, p.2 &&& ~~~writableBits p.1 = 0

/-- The register words and the Seal record are sound. -/
def RegsSound (s : State) : Prop := WordsSound s.regs ∧ WordsSound s.sealRecord

/-- Package memory and the symbol errors of memory and journal in canonical form: keys strictly rising, no entry that an absent one stands for
(R376). -/
structure TablesSound (s : State) : Prop where
  mem : Memory.wf s.mem = true
  memErr : tableWf noErr s.memErr = true
  journalErr : tableWf noErr s.rings.journalErr = true

/-- The journal holds a command that is not POSTED in a slot. -/
def Held (s : State) (k : Slot) : Prop := ∃ e ∈ s.rings.journal, e.slot = k ∧ e.state ≠ .posted

/-- The journal names each slot once, and whatever the C-die holds of a command, its work, its place among the finished, what it is posted with,
an acceptance not acknowledged, names one that the journal holds (R359, R360, R362, R366). -/
structure JournalSound (s : State) : Prop where
  slots : s.rings.journal.Pairwise fun x y => x.slot ≠ y.slot
  work : ∀ w ∈ s.rings.work, Held s w.slot
  finished : ∀ k ∈ s.rings.finished, Held s k
  rePost : ∀ p ∈ s.rings.rePost, Held s p.slot
  unacked : ∀ k ∈ s.rings.unacked, Held s k

/-- No two journal entries have one ASN (R359). -/
def AsnsDiffer (s : State) : Prop := s.rings.journal.Pairwise fun x y => x.asn ≠ y.asn

/-- Each unit that something keeps off has its gate off, and each whose command something ends has no command and no edge of the period left to
make (R199, R210, R213, R220, R250). -/
def HeldUnitsOff (s : State) : Prop :=
  ∀ u : UnitId, (s.unitHeld u = true → s.units[u].gate = false) ∧ (s.cmdStops u = true → s.units[u].cmdOn = false ∧ s.units[u].edges = [])

/-- A byte of the context table that belongs to a context's two ASN words, at its offsets 8 and 40 (R364). -/
def ctxWordByte (a : Nat) : Bool :=
  let o := a % 2048
  (decide (8 ≤ o) && decide (o < 12)) || (decide (40 ≤ o) && decide (o < 44))

/-- The commands whose meaning can write a register word or the Seal record: host writes, the Seal, and what resets a die or takes the
module's power. -/
def mayWriteWords : Instr → Bool
  | .registerWrite .. | .setupSeal .. | .channelSwitch .. | .freeze .. | .unfreeze .. | .triggerConfigWrite .. | .timeLockCfgWrite .. => true
  | .arm .. | .enterService .. | .leaveService .. | .enterStabled .. => true
  | .pwrCmdCDieWarmReset .. | .pwrCmdPackageWarmReset .. | .pwrCmdPDieWarmReset .. => true
  | .powerOnReset | .cDieResetEnd | .pDieResetEnd | .wake .. | .powerFail .. | .storeAoReserve .. | .domainRegulationLoss .. | .millraceLinkUp => true
  | _ => false

end Sys2Proof
end

