-- ==== Sys2Proof/WellFormed.lean ====
section
/-!
DEFINITION. Which commands a sender that keeps to the spec's formats sends: operands that the types do not already bound. exec gives every
command its effect, well formed or not (notes/assumptions/4.md).
-/
namespace Sys2Proof

open Sys2Proof.Machine

/-- A host write of 1, 2, 4 or 8 bytes at an aligned offset of BAR0's 1 MiB, or of BAR2's 8 KiB behind it, its value within its size (R354,
R567, R568; notes/assumptions/80.md). -/
def wfAccess (off : Nat) (v : BitVec 64) (size : Nat) : Bool :=
  (size == 1 || size == 2 || size == 4 || size == 8) && decide (off < 0x102000) && off % size == 0 && decide (v.toNat < 2 ^ (8 * size))

/-- An Ethernet frame without its FCS: at least a header, at most 1518 bytes and a redundancy trailer (R380, R383). -/
def wfFrame (frame : List Byte) : Bool := decide (14 ≤ frame.length) && decide (frame.length ≤ 1528)

/-- A table image has the length of R171. -/
def wfImage (image : Option (List Byte)) : Bool := match image with | none => true | some l => l.length == 524304

/-- A line of package memory, or a slot of the journal (R162, R357). -/
def wfLine (journal : Bool) (line : Nat) : Bool := if journal then decide (line < 8192) else decide (line < 2 ^ 26)

/-- The command keeps to the formats. -/
def Instr.wf : Instr → Bool
  | .registerWrite off v size => wfAccess off v size
  | .frameReceive _ frame _ => wfFrame frame
  | .imageLoadDone image => wfImage image
  | .patrolScrub journal line => wfLine journal line
  | .hostDmaReadComplete _ _ data => decide (data.length ≤ 4096)
  | _ => true

end Sys2Proof
end

