-- ==== Sys2Proof/Certificates/Slice0/Obligations.lean ====
section
/-!
DEFINITION. The statements for the provers: each is a Prop about the model, its docstring naming the rules of spec/ that it formalises and
the log entries that it rests on.
-/

open Sys2Proof Sys2Proof.Machine

/-! ## Ring commands -/

/-- R344, R347, R349: NOP completes with OK at its time; BARRIER completes once what it waits for is met, else stays in force unchanged.
The model's choices in it: log entries 7, 24. -/
def Obligations.NopAndBarrierComplete : Prop :=
  (∀ k s, s.mayApply k 0x00 = true → exec (.nop k) s = .next (settle s (finishOk k 0 s))) ∧
  (∀ k s, s.mayApply k 0x7F = true → s.barrierMet k = true → exec (.barrier k) s = .next (settle s (finishOk k 0 s))) ∧
  (∀ k s, s.mayApply k 0x7F = true → s.barrierMet k = false → exec (.barrier k) s = .next (settle s s))

/-- R179 to R182, R188, R132, R133: the context commands on the path without a refusal: the write of a context that runs on no pair, the
read into host memory, the enabling of a context that belongs to no pair whose carrier runs, and the disabling; while the context is in a run, or
takes commands at its release points, the row changes nothing.
The model's choices in it: log entries 7, 24, 45, 72, 93, 99, 101. -/
def Obligations.ContextCommandsComplete : Prop :=
  (∀ k s c, s.ctxTarget k = some c → s.ctxFree c = true → s.timedAhead k c = false → s.dataHere k = true → s.mayApply k 0x01 = true →
    (s.pair.held.any fun h => h.slot == some k) = false → dCtx (s.desc k) = c → writeRange (s.desc k) = none →
    ((s.workOf k).map Work.dmaFailed).getD false = false → s.mirrored c = false →
    (∀ r, s.ctxRegion c = some r → (s.isPaired r && s.carrierRuns r) = false) →
    s.areasOk c (leAt (s.desc k) 18 2) (s.writeData k).length = true →
    (applyWrite c (leAt (s.desc k) 18 2) (s.writeData k) s).badWord c (leAt (s.desc k) 18 2) (s.writeData k).length = none →
    (applyWrite c (leAt (s.desc k) 18 2) (s.writeData k) s).writeJoint s c (leAt (s.desc k) 18 2) (s.writeData k).length = true →
    s.writesStart c (leAt (s.desc k) 18 2) (s.writeData k) = false →
    exec (.ctxWrite k) s = .next (settle s (finishOk k 0 (applyWrite c (leAt (s.desc k) 18 2) (s.writeData k) s)))) ∧
  (∀ k s c, s.hostUp = true → s.ctxTarget k = some c → s.ctxFree c = true → s.timedAhead k c = false →
    s.mayApply k 0x02 = true → readRange (s.desc k) = none →
    exec (.ctxRead k) s = .next (settle s (finishOk k
      (BitVec.ofNat 64 (ofLe ((s.readBytes (dCtx (s.desc k)) (leAt (s.desc k) 18 2) (leAt (s.desc k) 20 2)).take 8)))
      (hostWrite (BitVec.ofNat 64 (leAt (s.desc k) 24 8)) (s.readBytes (dCtx (s.desc k)) (leAt (s.desc k) 18 2) (leAt (s.desc k) 20 2)) s)))) ∧
  (∀ k s c t m u v, s.ctxTarget k = some c → s.ctxFree c = true → s.timedAhead k c = false →
    s.mayApply k 0x03 = true → dCtx (s.desc k) = c →
    s.mirrored c = false → s.pairedBusy c = false → s.ctxState c = 0 → s.ctxTemplate c ≠ 0x1F ∨ s.loop.ucodeEntries ≠ [] →
    t = storeCost c (setCtxState c (if (s.ctxRegion c).any s.openLoop then 3 else 1) s) →
    t.enableOk c = true → m = (if t.ctxPin c then makeRoom t else t) → t.ctxPin c = false ∨ m.claimed < 96 →
    u = (setLost c 0 (clearWords c m)).modRt c (fun x => { seen := t.loop.switched.toList, block := x.block }) →
    v = saveRt c (if u.ctxPin c then loadEntry c u else u) →
    exec (.ctxEnable k) s = .next (settle s (finishOk k (BitVec.ofNat 64 (v.ctxCost c)) (showTbLimit v)))) ∧
  (∀ k s c, s.ctxTarget k = some c → s.ctxFree c = false ∨ s.timedAhead k c = true →
    exec (.ctxEnable k) s = .next s ∧ exec (.ctxDisable k) s = .next s) ∧
  (∀ k s c, s.ctxTarget k = some c → s.ctxFree c = true → s.timedAhead k c = false → s.mayApply k 0x04 = true → dCtx (s.desc k) = c →
    s.mirrored c = false → s.pairedBusy c = false → s.ctxState c ≠ 0 →
    (s.writesOut c = true → ∀ r, s.ctxRegion c = some r → s.showsInhibit r = true ∨ s.latched r = true) →
    exec (.ctxDisable k) s = .next (settle s (finishOk k 0 (disableCtx c s))))

/-- R138, R143, R144: PROBE_START takes a free probe, stores the operands with the new identity and answers it, with CLAMPED where the
amplitude exceeds LE_PROBE_LIMIT; PROBE_STOP ends the named probe with status 3.
The model's choices in it: log entries 7, 24, 43, 135. -/
def Obligations.ProbeCommandsComplete : Prop :=
  (∀ k s c n b, s.ctxTarget k = some c → s.ctxFree c = true → s.timedAhead k c = false → s.mayApply k 0x13 = true → dCtx (s.desc k) = c →
    s.mirrored c = false → s.ctxState c ≠ 0 → s.ctxTemplate c ≠ 0x13 → s.probeOf c = none → s.freeProbe = some n →
    probeRange (s.desc k) = none → b = probeOperands (s.desc k) → (sx 16 (leAt b 2 2)).natAbs ≤ s.rf rLeProbeLimit 0 16 →
    exec (.probeStart k) s = .next (settle s (finish k stOk 0 (BitVec.ofNat 64 (probeId n ((s.loop.probes[n]).gen + 1))) true
      ((setPb c 0 (b ++ [0, 0] ++ bytesAt (s.desc k) 60 4 ++ leBytes 4 0 ++ leBytes 1 (probeId n ((s.loop.probes[n]).gen + 1)) ++
          List.replicate 11 0) s).modProbe n fun _ =>
        { ctx := some c, last := c, gen := (s.loop.probes[n]).gen + 1, lfsr := prbsSeed (leAt b 27 1) (leAt b 28 2) })))) ∧
  (∀ k s c n b, s.ctxTarget k = some c → s.ctxFree c = true → s.timedAhead k c = false → s.mayApply k 0x13 = true → dCtx (s.desc k) = c →
    s.mirrored c = false → s.ctxState c ≠ 0 → s.ctxTemplate c ≠ 0x13 → s.probeOf c = none → s.freeProbe = some n →
    probeRange (s.desc k) = none → s.rf rLeProbeLimit 0 16 < (sx 16 (leAt (probeOperands (s.desc k)) 2 2)).natAbs →
    b = (probeOperands (s.desc k)).take 2 ++ leBytes 2 (s.rf rLeProbeLimit 0 16) ++ (probeOperands (s.desc k)).drop 4 →
    exec (.probeStart k) s = .next (settle s (finish k stClamped 0 (BitVec.ofNat 64 (probeId n ((s.loop.probes[n]).gen + 1))) true
      ((setPb c 0 (b ++ [0, 0] ++ bytesAt (s.desc k) 60 4 ++ leBytes 4 0 ++ leBytes 1 (probeId n ((s.loop.probes[n]).gen + 1)) ++
          List.replicate 11 0) s).modProbe n fun _ =>
        { ctx := some c, last := c, gen := (s.loop.probes[n]).gen + 1, lfsr := prbsSeed (leAt b 27 1) (leAt b 28 2) })))) ∧
  (∀ k s n c, s.mayApply k 0x14 = true → s.namedProbe (s.desc k) = some (n, c) → s.ctxFree c = true → s.timedAhead k c = false →
    s.mirrored c = false → exec (.probeStop k) s = .next (settle s (finishOk k 0 (endProbe c 3
      (modEntry k (fun e => { e with targetClass := 1, targetIndex := BitVec.ofNat 8 c.val }) s)))))

/-- R204, R216, R218: REGION_MODE starts the carrier of a region that is off at once and otherwise waits for the region's next boundary;
REGION_COMMIT writes the shadow registers and waits for the boundary that takes them.
The model's choices in it: log entries 7, 21, 24, 123, 126. -/
def Obligations.RegionCommandsComplete : Prop :=
  (∀ k s r p, s.mayApply k 0x05 = true → regionNo (leAt (s.desc k) 16 1) = some r → phaseOf (leAt (s.desc k) 17 1) = some p →
    s.modeAccepted r = true → s.modeAllowed r p = true → s.regions[r].phase = .off → p ≠ .off → s.safeComing = false → s.mayStart r = true →
    exec (.regionMode k) s = .next (settle s (finishOk k 0 (raiseMode r (startCarrier r p s))))) ∧
  (∀ k s r p, s.mayApply k 0x05 = true → regionNo (leAt (s.desc k) 16 1) = some r → phaseOf (leAt (s.desc k) 17 1) = some p →
    s.modeAccepted r = true → s.regions[r].phase ≠ .off →
    exec (.regionMode k) s = .next (settle s (modWork k (fun w => { w with kind := .applying })
      (s.modRegion r fun g => { g with modeReqs := g.modeReqs ++ [(p, k)] })))) ∧
  (∀ k s r e, s.mayApply k 0x06 = true → commitRange (s.desc k) = none → regionNo (leAt (s.desc k) 16 1) = some r →
    s.regions[r].phase ≠ .off → k ∉ s.regions[r].commits → s.commitCheck r (s.desc k) = none → s.entry k = some e →
    exec (.regionCommit k) s = .next (settle s (modWork k (fun w => { w with kind := .lent })
      ((writeCommit r (s.pendingOver r k) (commitEntries (s.desc k)) (!e.timed) s).modRegion r fun g => { g with commits := g.commits ++ [k] }))))

/-- R312, R318, R319: CAPTURE_ARM takes a free session and answers its identity and capacity; CAPTURE_STOP of an active session waits for
its end, of an ended one frees it; CAPTURE_COPY writes the header and the records to the host and answers their size.
The model's choices in it: log entries 7, 24, 36, 73. -/
def Obligations.CaptureCommandsComplete : Prop :=
  (∀ k s n x, s.mayApply k 0x10 = true → s.freeSession = some n → s.isTimed k = false →
    x = armOperands (s.desc k) { gen := (s.sessions[n]).gen + 1, words := (s.sessions[n]).words, armTick := s.now, progressAt := s.now,
                                 state := .armed, atTime := 0 } →
    s.armRange x = none → x.trigger ≠ 15 →
    exec (.captureArm k) s = .next (settle s (finishOk k (BitVec.ofNat 64 (sessId n x.gen + 2 ^ 32 * x.cap))
      ((modEntry k (fun e => { e with targetIndex := BitVec.ofNat 8 n.val }) s).modSess n fun _ => x)))) ∧
  (∀ k s n, s.mayApply k 0x12 = true → s.namedSession (s.desc k) = some n → (s.sessions[n]).active = true →
    exec (.captureStop k) s = .next (settle s (applying k (s.modSess n fun x => { x with stopReq := x.stopReq ++ [k] })))) ∧
  (∀ k s n, s.mayApply k 0x12 = true → s.namedSession (s.desc k) = some n → (s.sessions[n]).active = false →
    exec (.captureStop k) s = .next (settle s (finishOk k 0 (s.modSess n fun x => { x with state := .free })))) ∧
  (∀ k s n size t, s.host.up = true → s.host.endpointReset = false → s.mayApply k 0x11 = true → s.namedSession (s.desc k) = some n →
    (s.sessions[n]).state = .ended → s.refreshing = false → size = 64 + (s.sessions[n]).stored * (s.sessions[n]).recSize → leAt (s.desc k) 24 8 % 64 = 0 →
    hostSpan (leAt (s.desc k) 24 8) size = true → size ≤ leAt (s.desc k) 32 4 →
    readSpans (s.sessions[n]).spans (flushCapture s) = (none, t) → dByte (s.desc k) 17 % 2 = 0 →
    exec (.captureCopy k) s = .next (settle s (finishOk k (BitVec.ofNat 64 size)
      (hostWrite (BitVec.ofNat 64 (leAt (s.desc k) 24 8)) ((s.sessions[n]).spans.flatMap fun p => t.bytes p.1 p.2) t))))

/-- R387, R389, R401: NET_TX queues its frame at the chosen ports and stays in force until it is sent; NET_RX_POST lends its buffer,
which takes its place in the order of the ASNs;
TIME_ADJUST takes the rate, without a step, at once and answers the time before it.
The model's choices in it: log entries 7, 24, 74, 76, 131. -/
def Obligations.NetworkTimeCommandsComplete : Prop :=
  (∀ k s w l, s.mayApply k 0x20 = true → s.workOf k = some w → w.data = some l → w.dmaFailed = false → dByte (s.desc k) 26 / 4 % 2 = 0 →
    txCheck (s.desc k) l (!(s.txPorts (s.desc k)).isEmpty) (s.rf rNetPairCfg 0 16) = none →
    exec (.netTx k) s = .next (settle s (applying k
      (queueFrame (s.txPorts (s.desc k)) (dByte (s.desc k) 26 % 4 == 0 && !isPtp l) { bytes := l, cmd := some k, timed := s.isTimed k } s)))) ∧
  (∀ k s e, s.mayApply k 0x21 = true → s.net.bufs.length < 256 → hostSpan (leAt (s.desc k) 16 8) (leAt (s.desc k) 24 2) = true →
    64 ≤ leAt (s.desc k) 24 2 → leAt (s.desc k) 24 2 ≤ 2048 → s.entry k = some e →
    exec (.netRxPost k) s = .next (settle s (modWork k (fun w => { w with kind := .lent }) (s.modNet fun x =>
      { x with
        bufs := insBuf { slot := k, asn := e.asn, addr := BitVec.ofNat 64 (leAt (s.desc k) 16 8), len := leAt (s.desc k) 24 2 } x.bufs
        nobufReported := false })))) ∧
  (∀ k s, s.mayApply k 0x22 = true → (dByte (s.desc k) 32).testBit 0 = false → (dByte (s.desc k) 32).testBit 1 = true →
    (dByte (s.desc k) 32).testBit 2 = false → (sx 64 (leAt (s.desc k) 24 8)).natAbs ≤ rhoLimit → s.lockExpired = false →
    exec (.timeAdjust k) s = .next (settle s (finishOk k s.timeNs (judgeLock 0 (syncTime
      (setTime (adjusted s (some (sx 64 (leAt (s.desc k) 24 8))) none) s))))))

/-- R345, R507 to R509, R430, R431: a free Weir of a rank above all that the ring holds is granted, one that another owner holds is waited
for, the owner's release with the right generation passes it on; PAIR_SWAP of synchronised paired regions and PAIR_RESYNC wait for
their end; a replayed PAIR_SWAP asks for the regions that have not swapped yet, and has ended where all have.
The model's choices in it: log entries 7, 24, 78, 136. -/
def Obligations.WeirPairCommandsComplete : Prop :=
  (∀ k s (n : WeirId), s.mayApply k 0x30 = true → dByte (s.desc k) 16 = n.val → (∀ m ∈ s.weirsOf (s.ownerOf k), m < n) →
    s.weirs[n].owner = none → exec (.weirAcquire k) s = .next (settle s (grantWeir n (s.ownerOf k) (some k) s))) ∧
  (∀ k s (n : WeirId), s.mayApply k 0x30 = true → dByte (s.desc k) 16 = n.val → (∀ m ∈ s.weirsOf (s.ownerOf k), m < n) →
    s.weirs[n].owner.isSome = true → exec (.weirAcquire k) s = .next (settle s
      ((modWork k (fun w => { w with kind := .applying }) s).modWeir n fun w =>
        { w with waiters := insWaiter (s.ownerOf k, some k, s.now) w.waiters }))) ∧
  (∀ k s (n : WeirId), s.mayApply k 0x31 = true → dByte (s.desc k) 16 = n.val → s.weirs[n].owner = some (s.ownerOf k) →
    s.weirs[n].gen.toNat = dByte (s.desc k) 17 % 16 → exec (.weirRelease k) s = .next (settle s
      (passWeir n (s.weirs[n].suspect && !(dByte (s.desc k) 17).testBit 4) (finishOk k 0 s)))) ∧
  (∀ k s l, s.mayApply k 0x40 = true → l = maskRegions (dByte (s.desc k) 16) → s.swapLeft k ≠ [] →
    (∀ r ∈ l, s.isPaired r = true ∧ (s.pair.regions[r]).standby = .synced) ∨ (s.swapLeft k).length < l.length →
    exec (.pairSwap k) s = .next (settle s
      (applying k (forList (fun r t => t.modRegion r fun g => { g with swapReq := g.swapReq ++ [k] }) (s.swapLeft k) s)))) ∧
  (∀ k s, s.mayApply k 0x40 = true → s.swapLeft k = [] → maskRegions (dByte (s.desc k) 16) ≠ [] →
    exec (.pairSwap k) s = .next (settle s (finishOk k 0 s))) ∧
  (∀ k s l, s.mayApply k 0x41 = true → l = maskRegions (dByte (s.desc k) 16) → l ≠ [] → s.pair.up = true →
    (∀ r ∈ l, s.isPaired r = true ∧ (s.pair.regions[r]).resyncAt = none) → exec (.pairResync k) s = .next (settle s
      (applying k (forList (fun r t => t.modPairRegion r fun p =>
        { p with wanted := true, resyncAt := some s.now, resyncCmd := some k, discarded := 0
                 standby := if p.standby = .synced then .resync else p.standby, held := p.held && !p.partnerActive }) l s))))

/-- R448, R458, R459: FAULT_CLEAR of one source whose condition has ended clears it and answers whether it was not clear; of 0xFFFF it clears
every source whose condition has ended and answers the numbers cleared and refused; EVENT_FORCE sets or clears a force bit.
The model's choices in it: log entries 7, 24, 77, 86. -/
def Obligations.EventCommandsComplete : Prop :=
  (∀ k s (n : SourceId), s.mayApply k 0x50 = true → leAt (s.desc k) 16 2 = n.val → reservedSource n.val = false → s.conditionBefore n = false →
    exec (.faultClear k) s = .next (settle s
      (finishOk k (BitVec.ofNat 64 (b2n (s.events.src[n].state != .clear))) (clearSource n s)))) ∧
  (∀ k s l, s.mayApply k 0x50 = true → leAt (s.desc k) 16 2 = 0xFFFF → l = allSources.filter (fun j => !s.conditionBefore j) →
    exec (.faultClear k) s = .next (settle s (finishOk k
      (BitVec.ofNat 64 ((l.filter fun j => s.events.src[j].state != .clear).length + 65536 * (allSources.filter s.conditionBefore).length))
      (forList clearSource l s)))) ∧
  (∀ k s (n : SourceId), s.mayApply k 0x51 = true → leAt (s.desc k) 16 2 = n.val → reservedSource n.val = false → s.mayForce n = true →
    exec (.eventForce k) s = .next (settle s (finishOk k 0 (setForce n ((dByte (s.desc k) 18).testBit 0) s))))

/-! ## Host writes and reads of registers -/

/-- R528, R531, R537, R538: a PWR_CMD with the key 0xC3A5 in a device state that its action admits; in another state, with a region not in OFF
where the action requires that, or with another key, it changes nothing but its recorded outcome.
The model's choices in it: log entries 24, 62, 65. -/
def Obligations.PowerCommandsComplete : Prop :=
  ∀ s, s.hostReaches = true → s.power.cRun = true → s.pReach = true →
  (s.power.dev = .ready ∨ s.power.dev = .safe → s.allOff = true →
    exec (.enterService 0xC3A5) s = .next (settle s (enterDev .service (cmdResult 1 s)))) ∧
  (s.power.dev = .service → exec (.leaveService 0xC3A5) s = .next (settle s (leaveService (cmdResult 1 s)))) ∧
  (s.power.dev = .setup ∨ s.power.dev = .ready ∨ s.power.dev = .safe ∨ s.power.dev = .service → s.allOff = true →
    exec (.enterStabled 0xC3A5) s = .next (settle s (enterStabled (cmdResult 1 s))) ∧
    exec (.pwrCmdPackageWarmReset 0xC3A5) s = .next (settle s (packageReset (cmdResult 1 s)))) ∧
  (s.power.dev = .ready ∨ s.power.dev = .run ∨ s.power.dev = .safe ∨ s.power.dev = .service →
    exec (.pwrCmdCDieWarmReset 0xC3A5) s = .next (settle s (cDieDown (cmdResult 1 s)))) ∧
  (s.power.dev = .service → exec (.pwrCmdPDieWarmReset 0xC3A5) s = .next (settle s (pDieDown (cmdResult 1 s)))) ∧
  (∀ key, key ≠ 0xC3A5 → exec (.enterService key) s = .next (settle s (cmdResult 2 s)) ∧ exec (.leaveService key) s = .next (settle s (cmdResult 2 s)) ∧
    exec (.enterStabled key) s = .next (settle s (cmdResult 2 s)) ∧ exec (.pwrCmdCDieWarmReset key) s = .next (settle s (cmdResult 2 s)) ∧
    exec (.pwrCmdPackageWarmReset key) s = .next (settle s (cmdResult 2 s)) ∧ exec (.pwrCmdPDieWarmReset key) s = .next (settle s (cmdResult 2 s))) ∧
  (s.power.dev ≠ .ready → s.power.dev ≠ .safe → exec (.enterService 0xC3A5) s = .next (settle s (cmdResult 3 s))) ∧
  (s.power.dev ≠ .service → exec (.leaveService 0xC3A5) s = .next (settle s (cmdResult 3 s)) ∧
    exec (.pwrCmdPDieWarmReset 0xC3A5) s = .next (settle s (cmdResult 3 s))) ∧
  (s.power.dev = .run → exec (.enterStabled 0xC3A5) s = .next (settle s (cmdResult 3 s)) ∧
    exec (.pwrCmdPackageWarmReset 0xC3A5) s = .next (settle s (cmdResult 3 s))) ∧
  (s.power.dev = .setup → exec (.pwrCmdCDieWarmReset 0xC3A5) s = .next (settle s (cmdResult 3 s))) ∧
  (s.power.dev = .ready ∨ s.power.dev = .safe → s.allOff = false → exec (.enterService 0xC3A5) s = .next (settle s (cmdResult 4 s)) ∧
    exec (.enterStabled 0xC3A5) s = .next (settle s (cmdResult 4 s)) ∧
    exec (.pwrCmdPackageWarmReset 0xC3A5) s = .next (settle s (cmdResult 4 s)))

/-- R331 to R333: the Seal with its key, with every check met: sealed, READY, the Seal record a copy of the register words; with a check
not met the check's number stands in SYS_SEAL and nothing else changes.
The model's choices in it: log entries 24, 31, 84. -/
def Obligations.SealCompletes : Prop :=
  ∀ v s, s.hostReaches = true → s.power.cRun = true → s.power.dev = .setup →
  (s.sealChecks (fld v 0 16) = 1 → exec (.setupSeal v) s = .next (settle s (makeSeal s))) ∧
  (s.sealChecks (fld v 0 16) ≠ 1 →
    exec (.setupSeal v) s = .next (settle s (s.modPower fun p => { p with sealResult := s.sealChecks (fld v 0 16) })))

/-- R145 to R150, R172, R335: the microcode, image and ring-restart commands before the Seal.
The model's choices in it: log entries 6, 71, 85, 150, 151. -/
def Obligations.LoadCommandsComplete : Prop :=
  (∀ v s, s.hostReaches = true → s.power.cRun = true → s.power.sealed = false →
    exec (.leUcodeDataWrite v) s = .next (settle s (s.modLoop fun p =>
      { p with code := put (fun _ => 0) p.code p.codeWord.toNat v, codeWord := p.codeWord + 1
               ucodeEntries := if s.codeAt p.codeWord.toNat = v then p.ucodeEntries else [] }))) ∧
  (∀ v s, s.hostReaches = true → s.power.cRun = true → s.power.sealed = false → v.getLsbD 0 = true →
    exec (.verify v) s = .next (settle s (s.modLoop fun p => { p with ucodeResult := 0xF, ucodeFail := 0, ucodeEntries := [] }))) ∧
  (∀ s, s.loop.ucodeResult = 0xF → s.power.cRun = true → s.verifyImage.1 = 1 →
    exec .verifyDone s = .next (settle s ((s.modLoop fun p =>
      { p with ucodeResult := 1, ucodeFail := BitVec.ofNat 14 s.verifyImage.2, ucodeEntries := s.image.entries }).write 0x01 0x100000
        ((List.range 16384).map fun j => leBytes 4 (s.codeAt j).toNat).flatten))) ∧
  (∀ v s, s.hostReaches = true → s.power.cRun = true → s.power.sealed = false → v.getLsbD 0 = true → s.loop.imageLoading = false →
    exec (.load v) s = .next (settle s (s.modLoop fun l => { l with imageLoading := true, imageResult := 0xF, imageFail := 0 }))) ∧
  (∀ s, s.loop.ucodeResult = 0xF → s.power.cRun = true → s.verifyImage.1 ≠ 1 →
    exec .verifyDone s = .next (settle s (raise 121 evLeUcodeRejected (BitVec.ofNat 32 s.verifyImage.1) (BitVec.ofNat 32 s.verifyImage.2)
      ((s.modLoop fun p =>
        { p with ucodeResult := BitVec.ofNat 4 s.verifyImage.1, ucodeFail := BitVec.ofNat 14 s.verifyImage.2, ucodeEntries := [] }).write 0x01
          0x100000 ((List.range 16384).map fun j => leBytes 4 (s.codeAt j).toNat).flatten)))) ∧
  (∀ l s, l.length = 524304 → s.loop.imageLoading = true → s.power.cRun = true →
    exec (.imageLoadDone (some l)) s = .next
      (settle s (let t := s.modLoop fun p =>
        { p with imageLoading := false, imageResult := BitVec.ofNat 4 (imageResult l).1, imageFail := BitVec.ofNat 8 (imageResult l).2 }
       if (imageResult l).1 = 1 then (t.write 0x01 0 (imageEntries l)).modLoop fun p => { p with cache := [], rt := Vector.replicate 256 {}, rtSaved := Vector.replicate 256 {} }
       else t))) ∧
  (∀ s, s.loop.imageLoading = true → s.power.cRun = true → ∃ d, exec (.imageLoadDone none) s =
    .next (settle s (hostError (s.addr64 rLeImageAddrLo rLeImageAddrHi) 0x10 false d
      { s with free := s.free + 1, loop := { s.loop with imageLoading := false, imageResult := 5 } }))) ∧
  (∀ (q : SqId) t s, s.hostReaches = true → s.power.cRun = true → s.rings.sq[q].stopped = true →
    t = unstand (srcSq q) evSqStopped
      (s.modSq q fun x => { x with stopped := false, failedLines := 0, failedDescs := 0, fetched := none, waitReported := false }) →
    exec (.restart (BitVec.ofNat 8 (2 ^ q.val))) s = .next (settle s (raise (srcSq q) evSqRestarted 0 0 (releaseWeirs ⟨q.val, by omega⟩
      (hostRead (.sqLine q) (s.lineAddr q.val)
        (if s.rings.sq[q].readBackFailed then t.modRings fun r => { r with replaying := true } else t))))))

/-- R286, R397, R410, R545: the reads with a side effect: the oldest queued result leaves the queue, an empty queue reads 0; the low word
of a time latches its high word.
The model's choices in it: log entries 4, 6. -/
def Obligations.ReadsWithEffectComplete : Prop :=
  ∀ s, s.hostReaches = true → s.power.cRun = true → s.pReach = true →
  (∀ (b : BankId) e rest, (s.banks[b]).queue = e :: rest → exec (.adcQdataRead b) s =
    .next (readAs e (s.modBank b fun x =>
      { x with
        queue := rest
        fullReported := x.fullReported && decide (1024 ≤ rest.length)
        threshReported := x.threshReported && decide (s.rf (rAdcQcfg b) 0 12 ≤ rest.length) }))) ∧
  (∀ b : BankId, (s.banks[b]).queue = [] → exec (.adcQdataRead b) s = .next (readAs 0 s)) ∧
  (∀ e rest, s.net.txq = e :: rest → exec .timeTxqE0Read s =
    .next (readAs e.ts (s.modNet fun x =>
      { x with txq := rest, txqLatch := some e, txqReported := x.txqReported && decide (8 ≤ rest.length) }))) ∧
  (s.net.txq = [] → exec .timeTxqE0Read s = .next (readAs 0 (s.modNet fun x => { x with txqLatch := none }))) ∧
  (exec .timeNowRead s = .next (readAs (s.timeNs.setWidth 32) (s.modTime fun t => { t with nowHi := (s.timeNs >>> 32).setWidth 32 }))) ∧
  (exec .aoTimeRead s = .next (readAs (s.time.ao.setWidth 32) (s.modTime fun t => { t with aoHi := (s.time.ao >>> 32).setWidth 16 })))

/-- R271, R253, R258, R307, R505, R478: command bits of P-die and C-die registers: GO asks for an injected set, REARM arms a fired unit, a
comparator test of held units starts, REBIAS of an island whose units are both held asks for the block reset, COMMIT makes a valid
arbiter set pending and is refused otherwise, SO_REQ takes both requests.
The model's choices in it: log entries 14, 24, 25, 32. -/
def Obligations.CommandBitsComplete : Prop :=
  (∀ (b : BankId) v s, s.hostReaches = true → s.power.cRun = true → s.pReach = true → bitAt v 0 = true → s.converts = true →
    exec (.go b v) s = .next (settle s (s.modBank b fun x => { x with injReq := x.injReq ++ [none] }))) ∧
  (∀ (u : TrigId) v s, s.hostReaches = true → s.power.cRun = true → s.pReach = true → bitAt v 0 = true → s.trigs[u].state = .fired →
    exec (.rearm u v) s = .next (settle s (s.modTrig u fun t => { t with state := .armed }))) ∧
  (∀ (i : IslandId) v s, s.hostReaches = true → s.power.cRun = true → s.pReach = true → (s.islands[i]).testLeft = [] →
    (∀ n : Fin 4, bitAt v n.val = s.heldForTest (testUnit i n)) → exec (.comparatorSelfTest i v) s =
      .next (settle s (forList (fun n t => t.modUnit (testUnit i n) fun x => { x with testHold := true })
        ((List.finRange 4).filter fun n => bitAt v n.val) (s.modIsland i fun x =>
          { x with testLeft := (List.finRange 4).filter fun n => bitAt v n.val, testAt := s.now
                   testResult := ((List.finRange 4).filter fun n => bitAt v n.val).foldl (fun w n => setResult w n 0) x.testResult })))) ∧
  (∀ (i : IslandId) v s, s.hostReaches = true → s.power.cRun = true → s.pReach = true → bitAt v 0 = true →
    exec (.rebias i v) s = .next (settle s (s.modIsland i fun x =>
      if s.bothHeld i then { x with resetReq := true } else { x with rebiasRefused := true }))) ∧
  (∀ v s, s.hostReaches = true → s.power.cRun = true → bitAt v 0 = true → s.arb.shadow.valid = true →
    exec (.arbCommit v) s = .next (settle s (s.modArb fun a => { a with commitPending := true }))) ∧
  (∀ v s, s.hostReaches = true → s.power.cRun = true → bitAt v 0 = true → s.arb.shadow.valid = false → exec (.arbCommit v) s =
    .next (settle s (raise 164 evArbCommitRefused 0 0 (s.modArb fun a => { a with commitErr := true, commitPending := false })))) ∧
  (∀ s, s.arb.commitPending = true → s.power.cRun = true → s.memSlot % 16 = 0 → s.arb.shadow.valid = true →
    exec .arbCommitApply s = .next (s.modArb fun a => { a with active := a.shadow, commitPending := false })) ∧
  (∀ v s, s.hostReaches = true → s.power.cRun = true → s.pReach = true →
    exec (.soOnRequest v) s = .next (settle s (s.modSaf fun f => { f with reqA := bitAt v 0, reqB := bitAt v 1 })))

/-- R298, R308, R407: the writes of FLT_n_SRC: another channel restarts the chain with step 1, FREEZE set stores the word and nothing else,
FREEZE cleared restarts with step 2 unless a restart is already due; a write of a trigger unit's register is judged at once; a write
of TIME_LOCK_CFG drops the lock.
The model's choices in it: log entries 6, 27, 30. -/
def Obligations.ChainAndTriggerWritesComplete : Prop :=
  ∀ s, s.hostReaches = true → s.power.cRun = true → s.pReach = true →
  (∀ (n : ChainId) v, fld (s.reg (rFltSrc n)) 0 6 ≠ fld ((writeWord (rFltSrc n) v s).reg (rFltSrc n)) 0 6 →
    exec (.channelSwitch n v) s = .next (settle s ((writeWord (rFltSrc n) v s).modChain n fun c =>
      { c with restart := some 1, prevX := none, prevCount := none }))) ∧
  (∀ (n : ChainId) v, fld (s.reg (rFltSrc n)) 0 6 = fld ((writeWord (rFltSrc n) v s).reg (rFltSrc n)) 0 6 →
    bitAt ((writeWord (rFltSrc n) v s).reg (rFltSrc n)) 6 = true → exec (.freeze n v) s = .next (settle s (writeWord (rFltSrc n) v s))) ∧
  (∀ (n : ChainId) v, fld (s.reg (rFltSrc n)) 0 6 = fld ((writeWord (rFltSrc n) v s).reg (rFltSrc n)) 0 6 →
    bitAt (s.reg (rFltSrc n)) 6 = true → bitAt ((writeWord (rFltSrc n) v s).reg (rFltSrc n)) 6 = false →
    exec (.unfreeze n v) s = .next (settle s ((writeWord (rFltSrc n) v s).modChain n fun c => { c with restart := some (c.restart.getD 2) }))) ∧
  (∀ (u : TrigId) (w : Fin 4) v t, t = (writeWord (0x40000 + 0x40 * u.val + 4 * w.val) v s).modTrig u (fun t => { t with written := true }) →
    t.trgInvalid u = false → (t.modTrig u fun x => { x with cfgErr := false }).trgKind u = 1 →
    exec (.triggerConfigWrite u w v) s = .next (settle s (t.modTrig u fun x => { x with cfgErr := false }))) ∧
  (∀ v, exec (.timeLockCfgWrite v) s = .next (settle s (loseLock (writeWord rTimeLockCfg v s))))

/-- R457, R458, R463: EVT_INJ_CTRL written in SERVICE stores the word with N no more than its target allows and ARM arms; the armed
injection inverts the CRC of the next frame of its Millrace channel, or stores N check symbols of the next line of package memory or slot
of the journal written at its address complemented; before the Seal EVT_FORCE sets force bits.
The model's choices in it: log entries 6, 14, 140. -/
def Obligations.InjectionAndForceComplete : Prop :=
  (∀ v s, s.hostReaches = true → s.power.cRun = true → s.mayInject = true → bitAt v 8 = true → fld v 0 2 ≠ 3 → exec (.arm v) s =
    .next (settle s ((keepWord rEvtInjCtrl (setFld (v &&& 0xFF) 2 3 (min (if fld v 0 2 = 2 then 5 else 4) (fld v 2 3))) s).modEvents fun e =>
      { e with inj := { e.inj with armed := true } }))) ∧
  (∀ d f g s, s.events.inj.armed = true → fld (s.reg rEvtInjCtrl) 0 2 = 2 → d = (if bitAt (s.reg rEvtInjCtrl) 7 then Die.c else Die.p) →
    ((s.mr d).wire.find? fun x => x.vc.val == fld (s.reg rEvtInjCtrl) 5 2) = some f →
    g = (fun (n : Nat) (l : List MrFrame) => l.map fun x => if x.seq = f.seq then { x with invert := n } else x) →
    exec .injectionApply s =
      .next ((s.modEvents fun e => { e with inj := { e.inj with armed := false, done := true } }).modMr d fun m =>
        { m with wire := g (fld (s.reg rEvtInjCtrl) 2 3) m.wire, sent := g (fld (s.reg rEvtInjCtrl) 2 3 - 1) m.sent })) ∧
  (∀ q a (l : List Byte) n (s : State), s.events.inj.armed = true → fld (s.reg rEvtInjCtrl) 0 2 = 0 → n = (s.reg rEvtInjAddr).toNat / 64 →
    a < 64 * n + 64 → 64 * n < a + l.length → s.memErr = [] →
    (s.write q a l).memErr = putErr [] n (complemented (fld (s.reg rEvtInjCtrl) 2 3)) ∧
    (s.write q a l).events.inj = { s.events.inj with armed := false, done := true }) ∧
  (∀ s : State, s.events.inj.armed = true → fld (s.reg rEvtInjCtrl) 0 2 = 1 →
    (wroteJournal (fld (s.reg rEvtInjAddr) 0 13) s).rings.journalErr =
      putErr s.rings.journalErr (fld (s.reg rEvtInjAddr) 0 13) (complemented (fld (s.reg rEvtInjCtrl) 2 3)) ∧
    (wroteJournal (fld (s.reg rEvtInjAddr) 0 13) s).events.inj = { s.events.inj with armed := false, done := true }) ∧
  (∀ (w : Fin 6) v s, s.hostReaches = true → s.power.cRun = true → s.power.sealed = false → exec (.evtForceWrite w v) s =
    .next (settle s (forList (fun k t => setForce k (v.getLsbD (k.val % 32)) t)
      ((List.finRange 192).filter fun k => k.val / 32 == w.val && !reservedSource k.val) s)))

/-- R574: the debug key opens the debug block in SERVICE on the package variant that has it, and on no other; an open, idle block takes a
read or a write, whose end moves one line of package memory, an uncorrectable one as it stands.
The model's choices in it: log entries 3, 81. -/
def Obligations.DebugCompletes : Prop :=
  (∀ v s, s.hostReaches = true → s.power.cRun = true → s.power.dev = .service → fld v 0 16 = 0xD8B6 →
    exec (.debugOpen v) s = .next (settle s (if Config.isDA then s.modPower fun p => { p with debugOpen := true } else s))) ∧
  (∀ v s, s.hostReaches = true → s.power.cRun = true → s.power.debugOpen = true → s.dbgBlock.busy = none → bitAt v 0 = true → bitAt v 1 = false →
    exec (.dbgRead v) s = .next (settle s { s with dbgBlock := { s.dbgBlock with busy := some false } })) ∧
  (∀ v s, s.hostReaches = true → s.power.cRun = true → s.power.debugOpen = true → s.dbgBlock.busy = none → bitAt v 0 = false → bitAt v 1 = true →
    exec (.dbgWrite v) s = .next (settle s { s with dbgBlock := { s.dbgBlock with busy := some true } })) ∧
  (∀ t s, s.dbgBlock.busy = some true → s.refreshing = false → s.memSlot % 4 ≠ 0 →
    t = s.write 0x06 s.debugLine (s.dbgBlock.line.toList.map fun w => leBytes 4 w.toNat).flatten →
    exec .debugAccessDone s = .next (settle s { t with dbgBlock := { t.dbgBlock with busy := none } })) ∧
  (∀ t l s, s.dbgBlock.busy = some false → s.refreshing = false → s.memSlot % 4 ≠ 0 → t = (readMem s.debugLine 64 0x06 0 s).2 →
    l = (match t.errLines t.debugLine 64 with | e :: _ => t.stored e.1 e.2 | [] => t.bytes t.debugLine 64) →
    exec .debugAccessDone s = .next (settle s { t with dbgBlock := { t.dbgBlock with
      line := Vector.ofFn fun w : Fin 16 => BitVec.ofNat 32 (leAt l (4 * w.val) 4)
      busy := none } }))

/-- R6 to R8, R568: a 32-bit host write of a C-die register reaches it at once, of a P-die register as soon as the P-die is reached, else it
waits; a write to BAR2 reaches the MSI-X table, and one that
unmasks a vector with a signal pending sends it; after 200 µs the oldest waiting access is answered, a read with all ones.
The model's choices in it: log entries 6, 80, 82. -/
def Obligations.RegisterWriteCompletes : Prop :=
  (∀ off (v : BitVec 64) s, wfAccess off v 4 = true → off < 0x100000 → s.hostReaches = true → s.power.cRun = true → dieOf off = .c →
    exec (.registerWrite off v 4) s = .next (settle s (regWrite off (v.setWidth 32) s))) ∧
  (∀ off (v : BitVec 64) s, wfAccess off v 4 = true → off < 0x100000 → s.hostReaches = true → s.power.cRun = true → dieOf off = .p →
    s.pReach = true →
    exec (.registerWrite off v 4) s = .next (settle s (regWrite off (v.setWidth 32) s))) ∧
  (∀ off (v : BitVec 64) s, wfAccess off v 4 = true → off < 0x100000 → s.hostReaches = true → s.power.cRun = true → dieOf off = .p →
    s.pReach = false →
    exec (.registerWrite off v 4) s = .next (s.modHost fun h =>
      { h with accesses := h.accesses ++ [{ off := off, read := false, value := v.setWidth 32, arrived := s.now }] })) ∧
  (∀ k w (v : BitVec 64) x s, k < 32 → w < 4 → v.toNat < 2 ^ 32 → s.hostReaches = true →
    x = (if w = 0 then v.setWidth 32 &&& 0xFFFFFFFC else if w = 3 then v.setWidth 32 &&& 1 else v.setWidth 32) →
    bitAt s.host.msixPending k = false → exec (.registerWrite (0x100000 + 16 * k + 4 * w) v 4) s =
      .next (s.modHost fun h => { h with msixTable := put msixReset h.msixTable (4 * k + w) x })) ∧
  (∀ k (v : BitVec 64) t s, k < 32 → v.toNat < 2 ^ 32 → s.hostReaches = true → bitAt s.host.msixPending k = true → v.getLsbD 0 = false →
    t = s.modHost (fun h => { h with msixTable := put msixReset h.msixTable (4 * k + 3) 0
                                     msixPending := h.msixPending &&& ~~~(BitVec.ofNat 32 (2 ^ k)) }) →
    exec (.registerWrite (0x100000 + 16 * k + 12) v 4) s = .next (hostWrite
      (BitVec.ofNat 64 ((t.msixWord (4 * k)).toNat + 2 ^ 32 * (t.msixWord (4 * k + 1)).toNat)) (leBytes 4 (t.msixWord (4 * k + 2)).toNat) t)) ∧
  (∀ s a t, s.host.accesses = a :: t → a.arrived + 80000 ≤ s.now → a.read = false →
    exec .pDieAccessTimeout s = .next (s.modHost fun h => { h with accesses := t })) ∧
  (∀ s a t, s.host.accesses = a :: t → a.arrived + 80000 ≤ s.now → a.read = true →
    exec .pDieAccessTimeout s = .next (s.modHost fun h => { h with accesses := t, readValue := 0xFFFFFFFF }))

/-! ## Rings and journal -/

/-- R333, R337, R339, R349, R355, R360, R362: doorbell lines polled; an accepted descriptor takes the lowest free slot and the next ASN;
the acknowledged acceptance advances the device index; a timed action that is due and first of those due is carried out; a finished
entry is posted; a due signal is sent, or kept pending under its mask.
The model's choices in it: log entries 7, 55, 80, 92, 130, 134, 137. -/
def Obligations.RingStepsComplete : Prop :=
  (∀ s, s.ringsRun = true → s.power.sealed = true → s.rings.polled + usTicks (s.rf rSysDbPoll 0 10) ≤ s.now → exec .doorbellPoll s =
    .next (forAll (fun m t => if t.cqEn m then hostRead (.cqLine m) (t.lineAddr (8 + m.val)) t else t)
      (forAll (fun q t => if t.sqEn q then hostRead (.sqLine q) (t.lineAddr q.val) t else t) (s.modRings fun r => { r with polled := s.now, turn := 0, takenInTurn := 0 })))) ∧
  (∀ (q : SqId) k d s, s.rings.sq[q].fetched = some d → s.ringsRun = true → s.pReach = true → s.power.sealed = true → s.sqEn q = true →
    s.rings.sq[q].stopped = false → s.rings.sq[q].readBackFailed = false → s.replayRuns = false → s.refreshing = false → s.acceptRoom q = true →
    s.sqTurn = some q → s.freeSlot = some k → exec (.descriptorAccept q) s = .next (settle s (acceptInto q k d s))) ∧
  (∀ (k : Slot) rest e s, s.rings.unacked = k :: rest → s.entry k = some e → s.pReach = true → s.power.cRun = true →
    exec (.journalAcknowledge k) s = .next (hostWrite (s.lineAddr e.sq.val + 32) (leBytes 4 (s.rings.sq[e.sq].devIdx + 1).toNat)
      ((s.modRings fun r => { r with unacked := rest }).modSq e.sq fun x => { x with devIdx := s.rings.sq[e.sq].devIdx + 1 }))) ∧
  (∀ (k : Slot) s, (s.entry k).isSome = true → s.fetchDue k = true → exec (.timedActionDue k) s = .next (fetchData k (dDataAddr (s.desc k)) s)) ∧
  (∀ (k : Slot) e s, s.entry k = some e → s.fetchDue k = false → s.actionDue k = true →
    (s.rings.journal.any fun x => x.slot != k && s.actionDue x.slot && s.dueBefore x e) = false →
    exec (.timedActionDue k) s = .next (settle s (applyCommand k s))) ∧
  (∀ (k : Slot) e s, s.ringsRun = true → s.pReach = true → s.hostUp = true → s.rings.replaying = false →
    s.rings.finished.find? s.postable = some k → s.entry k = some e → exec (.completionPost k) s = .next (postEntry e s)) ∧
  (∀ (m : CqId) v s, s.signalDue m = true → v = s.rf (rSysCqInt m) 0 5 → bitAt (s.msixWord (4 * v + 3)) 0 = false →
    exec (.msixSignal m) s = .next (hostWrite
      (BitVec.ofNat 64 ((s.msixWord (4 * v)).toNat + 2 ^ 32 * (s.msixWord (4 * v + 1)).toNat)) (leBytes 4 (s.msixWord (4 * v + 2)).toNat)
      (s.modCq m fun c => { c with unsignalled := 0, urgent := false }))) ∧
  (∀ (m : CqId) s, s.signalDue m = true → bitAt (s.msixWord (4 * s.rf (rSysCqInt m) 0 5 + 3)) 0 = true →
    exec (.msixSignal m) s = .next ((s.modCq m fun c => { c with unsignalled := 0, urgent := false }).modHost fun h =>
      { h with msixPending := h.msixPending ||| BitVec.ofNat 32 (2 ^ s.rf (rSysCqInt m) 0 5) }))

/-- R461, R541, R576: a completed read hands its data to its use, a failed or unanswered one reports an error; the silent host, the endpoint
reset, the link's loss and return and an error of a posted write are reported.
The model's choices in it: log entries 9, 80. -/
def Obligations.HostLinkStepsComplete : Prop :=
  (∀ id data r s, (s.host.reads.find? fun r => r.id == id) = some r → exec (.hostDmaReadComplete id 0 data) s =
    .next (settle s (readDone r.use data (s.modHost fun h => { h with reads := h.reads.filter fun x => x.id != id })))) ∧
  (∀ id data st r s, (s.host.reads.find? fun r => r.id == id) = some r → st ≠ 0 → exec (.hostDmaReadComplete id st data) s =
    .next (settle s (readFailed r st (s.modHost fun h => { h with reads := h.reads.filter fun x => x.id != id })))) ∧
  (∀ id r s, (s.host.reads.find? fun r => r.id == id) = some r → r.issued + usTicks 50 ≤ s.now → exec (.hostDmaError id) s =
    .next (settle s (readFailed r 7 (s.modHost fun h => { h with reads := h.reads.filter fun x => x.id != id })))) ∧
  (∀ s, s.rf rEvtHostwd 0 16 ≠ 0 → s.ringsRun = true → s.host.silentReported = false →
    s.host.lastHead + msTicks (s.rf rEvtHostwd 0 16) ≤ s.now →
    exec .hostSilent s = .next (settle s (raise 137 evHostSilent 0 0 (s.modHost fun h => { h with silentReported := true })))) ∧
  (∀ s, s.endpointReady = true → exec .pcieEndpointReset s = .next (settle s (raise 184 evCdieEndpointReset 0 0
    (forAll (fun q t => if t.sqEn q && t.power.sealed then stopSq q 2 t else t)
      ((closeDebug (s.modPower fun p => { p with lastReset := 5 })).modHost fun h =>
        { h with endpointReset := true, msixTable := [], msixPending := 0 }))))) ∧
  (∀ s, s.host.up = true → exec .pcieLinkDown s =
    .next (settle s (stand 137 evHostLinkDown (raise 137 evHostLinkDown 0 0 (s.modHost fun h => { h with up := false }))))) ∧
  (∀ s, s.host.up = false ∨ s.host.endpointReset = true → s.endpointReady = true → exec .pcieLinkReturn s = .next (settle s (deliverHeld
    (unstand 137 evHostLinkDown (s.modHost fun h =>
      { h with up := true, endpointReset := false, issued := h.waiting.reverse ++ h.issued, waiting := [] }))))) ∧
  (∀ addr req s, exec (.postedWriteErrorReported addr req) s = .next (settle s (hostError addr req true 0 s)))

/-- R365 to R368, R376 to R378: a replay handles every entry of the journal that is not posted and that the C-die does not hold, in the journal's
order, and ends with its event. An entry whose completion is found written is freed; one APPLIED, or ACCEPTED and found applied on its target, is
handed to posting as REPLAYED with SKIPPED, the latter with its outcome record's words; every other is returned to the C-die, to be applied and
posted as RE_APPLIED, or ends aborted where its descriptor copy cannot be read; one whose completion cannot be read back stops its ring. A scrub of a
line with symbol errors reads it: no more than two are corrected and counted, more are not.
The model's choices in it: log entries 3, 79, 130. -/
def Obligations.ReplayAndScrubComplete : Prop :=
  (∀ l s, s.rings.replaying = true → s.pReach = true → s.power.cRun = true → s.rings.journalErr = [] → s.rings.journal = [] →
    s.rings.rePost = [] → ∃ t, exec (.journalReplay l) s = .next (settle s (deliverHeld
      (raise 162 evReplayDone (BitVec.ofNat 32 s.rings.lastCause.toNat) 0 t))) ∧ t.rings.replaying = false ∧ t.rings.journal = []) ∧
  (∀ l s, s.rings.replaying = true → s.pReach = true → s.power.cRun = true → s.rings.journalErr = [] →
    ∃ t todo, todo = (s.rings.journal.filter fun e => e.state != .posted && !s.workHeld e.slot) ∧
      t = forList (replayEntry l) todo (s.modRings fun r => { r with sq := r.sq.map fun x => { x with readBackFailed := false } }) ∧
      exec (.journalReplay l) s = .next (settle s (deliverHeld (raise 162 evReplayDone (BitVec.ofNat 32 t.rings.lastCause.toNat)
        (BitVec.ofNat 32 (todo.filter fun e => t.rings.rePost.any fun p => p.slot == e.slot && !p.reApplied).length)
        (t.modRings fun r => { r with replaying := false }))))) ∧
  (∀ (l : List ReadBack) (b : ReadBack) (e : JEntry) s, (l.find? fun b => b.slot == e.slot) = some b → e.ciValid = true → s.workHeld e.slot = false →
    (b.held = some (e.asn, s.cqPhase e.cq e.cqIdx) → replayEntry l e s = freeEntry e.slot s ∧ (replayEntry l e s).entry e.slot = none) ∧
    (b.held = none → replayEntry l e s = readBackFailed e s) ∧
    (∀ h, b.held = some h → h ≠ (e.asn, s.cqPhase e.cq e.cqIdx) → e.state = .applied → replayEntry l e s = skipEntry e false none s)) ∧
  (∀ l (e : JEntry) s, e.ciValid = false → s.workHeld e.slot = false → s.rings.rePost.all (fun p => p.slot != e.slot) = true →
    (e.state = .applied → ∃ t, t = replayEntry l e s ∧ t.rings.finished = s.rings.finished ++ [e.slot] ∧
      t.outcome e = (stReplayed, BitVec.ofNat 32 (e.status.toNat + 2 ^ 16 + 2 ^ 20 * s.rings.lastCause.toNat), e.result)) ∧
    (e.state = .accepted → s.appliedOnTarget e = true → s.memErr = [] → leAt (s.bytes (outcomeAddr e.slot) 32) 0 4 = e.asn.toNat →
      ∃ t, t = replayEntry l e s ∧ t.rings.finished = s.rings.finished ++ [e.slot] ∧ t.outcome e = (stReplayed,
        BitVec.ofNat 32 (leAt (s.bytes (outcomeAddr e.slot) 32) 4 2 + 2 ^ 16 + 2 ^ 20 * s.rings.lastCause.toNat),
        BitVec.ofNat 64 (leAt (s.bytes (outcomeAddr e.slot) 32) 16 8))) ∧
    (e.state = .accepted → s.appliedOnTarget e = false → s.bufferHeld e = false → s.memErr = [] →
      ∃ w : Work, w.slot = e.slot ∧ w.replay = some s.rings.lastCause ∧
        w.kind = (if e.timed ∧ s.atTimeReached e.slot = false then .timed else .ready) ∧
        replayEntry l e s = s.modRings fun r => { r with work := r.work ++ [w] })) ∧
  (∀ k st d (r : Word64) b e w c s, s.entry k = some e → s.workOf k = some w → w.replay = some c → s.power.cRun = true →
    s.rings.rePost.all (fun p => p.slot != k) = true → ∃ x, (finish k st d r b s).entry k = some x ∧ (finish k st d r b s).outcome x =
      (stReplayed, BitVec.ofNat 32 ((s.lateStatus k st d).1.toNat + 2 ^ 17 + 2 ^ 20 * c.toNat), r)) ∧
  (∀ line (n : SymErr) s, (s.memErr.find? fun e => e.1 == line) = some (line, n) → s.power.cRun = true → s.power.selfRefresh = false →
    s.refreshing = false → n.length ≤ 2 → ∃ t, exec (.patrolScrub false line) s = .next (settle s (raise 160 evMemCorrected 0 0 t)) ∧ t.memErr = s.memErr.filter (fun e => e.1 ≠ line) ∧
      t.memCorr = satInc s.memCorr ∧ t.mem = s.mem) ∧
  (∀ line (n : SymErr) s, (s.memErr.find? fun e => e.1 == line) = some (line, n) → s.power.cRun = true → s.power.selfRefresh = false →
    s.refreshing = false → 2 < n.length → ∃ t, exec (.patrolScrub false line) s = .next (settle s (raise 160 evMemUncorrectable 0 0 t)) ∧ t.memErr = s.memErr ∧
      t.memUncorr = satInc s.memUncorr ∧ t.mem = s.mem) ∧
  (∀ line (n : SymErr) s, (s.rings.journalErr.find? fun e => e.1 == line) = some (line, n) → n.length ≤ 2 →
    ∃ t, exec (.patrolScrub true line) s = .next (settle s (raise 161 evJrnlCorrected 0 0 t)) ∧ t.jrnlCorr = satInc s.jrnlCorr ∧
      t.rings.journal = s.rings.journal ∧ t.rings.journalErr = s.rings.journalErr.filter fun e => e.1 ≠ line) ∧
  (∀ line (n : SymErr) s, (s.rings.journalErr.find? fun e => e.1 == line) = some (line, n) → 2 < n.length →
    ∃ t, exec (.patrolScrub true line) s = .next (settle s (raise 161 evJrnlLost (BitVec.ofNat 32 line) 0 t)) ∧ t.jrnlUncorr = satInc s.jrnlUncorr ∧
      t.rings.journal = (s.rings.journal.filter fun e => e.slot.val ≠ line) ∧ t.rings.journalErr = s.rings.journalErr.filter fun e => e.1 ≠ line)

/-! ## Millrace -/

/-- R13 to R17: an intact frame with the expected number is delivered once, acknowledged and its credit owed; one with a bad CRC is not
delivered but asked for again, captured as the first error of domain 1 unless one stands there, and raises the event of source 163 (R454,
R456); a failed lane, or a frame replayed four times, fails the link; the trained link passes frames again; the transmitter takes the credits
that the other side has issued, and sends a frame asked for again before any other, else the highest virtual channel that has a frame and a
credit.
The model's choices in it: log entries 11, 82, 108, 109, 110, 144. -/
def Obligations.MillraceStepsComplete : Prop :=
  (∀ d skip err f rest s, s.pReach = true → s.power.cRun = true → (s.mr d).wire.drop skip = f :: rest → f.crcDiff err = 0 →
    f.seq = (s.mr d).expect → exec (.millraceFrameReceive d skip err) s =
      .next (settle s (deliver f.payload ((s.modMr d fun m => { m with wire := rest }).modMr d fun m => m.accept f)))) ∧
  (∀ d skip err f rest s, s.pReach = true → s.power.cRun = true → (s.mr d).wire.drop skip = f :: rest → f.crcDiff err ≠ 0 →
    (s.mr d).replays < 4 → ∃ t c, exec (.millraceFrameReceive d skip err) s = .next (settle s t) ∧ (t.mr d).wire = rest ∧
      (t.mr d).expect = (s.mr d).expect ∧ (t.mr d).again = (s.mr d).sent ∧ (t.mr d).owed = (s.mr d).owed ∧ t.loop = s.loop ∧
      t.dutyIn = s.dutyIn ∧ t.sessions = s.sessions ∧ t.events = (raise 163 evMillraceFailure 0 0 c).events ∧
      c = captureError 1 (BitVec.ofNat 48 f.seq.toNat) (BitVec.ofNat 8 (f.vc.val + (match d with | .p => 0 | .c => 4))) 8
        ((f.crcDiff err).setWidth 48) 0 (s.modMr d fun m => { m with wire := rest })) ∧
  (∀ d cause s, s.linkUp = true → cause ≠ .exhausted ∨ (s.mr d).exhausted = true → exec (.millraceLinkFailure d cause) s =
    .next (settle s (stand 163 evMillraceFailure (raiseFull 163 evMillraceFailure 0 0 (some .cDie) false
      (millraceDown { dropLock d cause s with failCnt := satInc s.failCnt }))))) ∧
  (∀ s, s.awake = true → s.power.pRun = true → s.power.cRun = true → s.linkUp = false →
    exec .millraceLinkUp s = .next (settle s (linkReturns s))) ∧
  (∀ d s, s.pReach = true → s.power.cRun = true →
    ((s.mr d).again ≠ [] → ∃ t, t = s.modMr d.other MrDir.credit ∧ exec (.millraceFrameBoundary d) s =
      .next ({ t with replayCnt := satInc t.replayCnt }.modMr d MrDir.resend)) ∧
    ((s.mr d).again = [] → (s.mr d).sent.length < 64 →
      exec (.millraceFrameBoundary d) s = .next ((s.modMr d.other MrDir.credit).modMr d MrDir.start)))

/-! ## Confluence -/

/-- R196, R199, R205, R211, R219, R223: the boundary, trigger and wrap that are due are taken; an edge that is due switches its unit; an
asserted trip input trips every region that maps it; RECOVERY ends in RUN.
The model's choices in it: log entries 4, 24, 122. -/
def Obligations.CarrierStepsComplete : Prop :=
  (∀ (r : RegionId) t s, s.nextBoundary r = some t → t ≤ s.now → s.carrierRuns r = true → s.power.pRun = true →
    exec (.regionBoundary r) s = .next (settle s (boundary r t s))) ∧
  (∀ (r : RegionId) t s, s.regions[r].lastBoundary = some t → s.carrierRuns r = true → s.regions[r].triggered = false → s.power.pRun = true →
    t + s.rf (rPwmTrigpos r) 0 21 ≤ s.now → exec (.regionTrigger r) s = .next (settle s (regionTrigger r s))) ∧
  (∀ (i : IslandId) r b s, s.regionOf i = some r → s.regions[r].lastBoundary = some b → (s.islands[i]).nextWrap < s.fine + 10 →
    (s.islands[i]).nextWrap < 10 * b + s.period r → s.power.pRun = true → exec (.islandWrap i) s = .next (settle s (wrap i r s))) ∧
  (∀ (u : UnitId) e rest s, s.units[u].edges = e :: rest → e.1 < s.fine + 10 → s.power.pRun = true → exec (.unitEdge u) s =
      .next (settle s (gateIsland (islandOf u) (commandUnit u e.2 (s.modUnit u fun x => { x with edges := rest }))))) ∧
  (∀ (n : TripId) s, s.tripInput n = true → s.tripActive[n] = false → s.power.pRun = true → exec (.tripAssert n) s =
    .next (settle s (forAll (tripRegion n) { s with tripActive := upd s.tripActive n fun _ => true }))) ∧
  (∀ (r : RegionId) s, s.regions[r].phase = .recovery → s.regions[r].recLeft = some 0 → exec (.recoveryEnd r) s =
    .next (settle s ((leaveTest r s).modRegion r fun g => { g with phase := .run, recLeft := none })))

/-- R29, R110, R204: a delivered duty frame leaves the queue and is taken; the frame of a period whose writers have run is sent; a region
without a power-good C-die, without a link or with two frames missed is lost, and after the hold time inhibited with its event.
The model's choices in it: log entries 4, 12, 24, 47. -/
def Obligations.DutyFrameStepsComplete : Prop :=
  (∀ (r : RegionId) f s, (s.dutyIn.find? fun f => f.region == r) = some f → s.power.pRun = true →
    exec (.dutyFrameReceive r) s = .next (settle s (dutyFrameReceive f { s with dutyIn := s.dutyIn.erase f }))) ∧
  (∀ (r : RegionId) n s, s.loop.owed[r] = some n → s.leRuns = true → (∀ c ∈ s.periodWriters r, (s.loop.rt[c]).released = false) →
    exec (.dutyFrameSend r) s = .next ((mrSend .c 0 (.duty (s.dutyFrame r n)) s).modLoop fun l =>
      { l with owed := upd l.owed r fun _ => none })) ∧
  (∀ (r : RegionId) s, s.carrierRuns r = true → s.power.pRun = true → s.regions[r].lost = false →
    (s.power.powerGood = false ∨ s.linkUp = false ∨ 2 ≤ s.regions[r].missed) →
    exec (.cDieLossDetect r) s = .next (s.modRegion r fun g => { g with lost := true, lossSince := some s.now })) ∧
  (∀ (r : RegionId) t s, s.regions[r].lossSince = some t → t + usTicks (s.rf rPairHold 0 8) ≤ s.now → s.isPaired r = false →
    exec (.holdTimeEnd r) s = .next (settle s (stand (srcRegion r) evRegionDutyLost (raise (srcRegion r) evRegionDutyLost 0 0
      (s.modRegion r fun g => { g with lossSince := none, lossInhibit := true }))))) ∧
  (∀ (r : RegionId) t s, s.regions[r].lossSince = some t → t + usTicks (s.rf rPairHold 0 8) ≤ s.now → s.isPaired r = true → s.stillFed r = true →
    exec (.holdTimeEnd r) s = .next (s.modRegion r fun g => { g with lossSince := none })) ∧
  (∀ (r : RegionId) t s, s.regions[r].lossSince = some t → t + usTicks (s.rf rPairHold 0 8) ≤ s.now → s.isPaired r = true → s.stillFed r = false →
    exec (.holdTimeEnd r) s = .next (settle s (stand 151 evConfNoSource (raise 151 evConfNoSource (BitVec.ofNat 32 r.val) 0
      (s.modRegion r fun g => { g with lossSince := none, sourceInhibit := true })))))

/-! ## Loop Engine -/

/-- R108, R111, R121, R176, R178, R461: a complete release set releases the contexts of its region, and no set those of a region
in OFF; each timebase slot of 2.5 µs begins; a
released context whose producers have run is run; an entry one slot ahead is prefetched into the cache and landed, one beyond
the lines that the reserve assures once the arbiter has granted it its lines; pinned entries are written back every 400 slots; twenty slots missed are reported.
The model's choices in it: log entries 4, 13, 69, 87, 99. -/
def Obligations.LoopStepsComplete : Prop :=
  (∀ (r : RegionId) s, s.leRuns = true → s.regionIdle r = true → s.pReach = true → s.isMirror r = false → s.regions[r].phase = .off →
    exec (.contextRelease r) s = .next (s.modLoop fun l => { l with sets := upd l.sets r fun _ => [] })) ∧
  (∀ (r : RegionId) p s, s.leRuns = true → s.regionIdle r = true → s.pReach = false ∨ s.isMirror r = true ∨ s.regions[r].phase ≠ .off →
    splitRelease (s.loop.sets[r]) = some p → s.computes r = true →
    exec (.contextRelease r) s = .next (settle s (releaseRegion r p.2.1.count p.1 (s.modLoop fun l =>
      { l with sets := upd l.sets r fun _ => p.2.2 })))) ∧
  (∀ s, s.leRuns = true → s.nextSlotAt ≤ s.now → exec .timebaseSlot s = .next (settle s (beginSlot s))) ∧
  (∀ (c : CtxId) s, s.runReady c = true → exec (.contextRunComplete c) s = .next (settle s (completeRun c s))) ∧
  (∀ (c : CtxId) m t s, s.leRuns = true → s.ctxEnabled c = true → s.ctxPin c = false → s.resident c = false → (s.loop.rt[c]).prefetching = false →
    s.refreshing = false → s.slotsAhead c = some 1 → m = makeRoom s → m.claimed < 96 →
    t = (if 38 * m.arb.active.leRsv.toNat / 47 ≤ m.inFlight ∧ m.beyondInFlight = false then m.modArb fun a => { a with leLines := 0 } else m) →
    exec (.prefetchIssue c) s = .next (settle s (t.modRt c fun x =>
      { x with prefetching := true, beyond := decide (38 * m.arb.active.leRsv.toNat / 47 ≤ m.inFlight) }))) ∧
  (∀ (c : CtxId) t s, s.leRuns = true → (s.loop.rt[c]).prefetching = true → s.refreshing = false →
    (s.loop.rt[c]).beyond = false ∨ 32 ≤ s.arb.leLines →
    t = (if (s.loop.rt[c]).beyond then s.modArb fun a => { a with leLines := a.leLines - 32 } else s).modRt c
      (fun x => { x with prefetching := false, beyond := false }) →
    exec (.prefetchLanded c) s = .next (settle s (if t.ctxEnabled c then loadEntry c t else t))) ∧
  (∀ s, s.leRuns = true → s.refreshing = false → 400 ≤ (s.loop.slot - s.loop.sweptAt).toNat → exec .writebackSweep s =
    .next (settle s ((forList (fun (e : CacheEntry) t => writeBack e.ctx t) (s.loop.cache.filter CacheEntry.pinned) s).modLoop fun l =>
      { l with sweptAt := l.slot }))) ∧
  (∀ s, s.leRuns = true → s.loop.slotAt + 20000 ≤ s.now → exec .loopEngineHeartbeatLost s =
    .next (settle s ((raiseFull 121 evLeHeartbeat 0 0 (some .cDie) false s).modLoop fun l => { l with slotAt := s.now })))

/-- R83, R87 to R92, R96, R98, R104: the sequencer's and the synchroniser's happenings after a completed run, each under its condition: the dead bus
starts the delay, the expired delay decides, the hold ends the black start, the contactor that fails stops the sequence with its
event, the held windows raise the permission, ten seconds without them are reported, a zero stop factor opens the contactor.
The model's choices in it: log entries 13, 66, 68, 121. -/
def Obligations.SequencerStepsComplete : Prop :=
  ∀ (c : CtxId) n s, (s.loop.rt[c]).lastRun = some n → s.leRuns = true → s.ctxRuns c = true → (s.loop.rt[c]).released = false →
  (s.ctxTemplate c = 0x0D →
    (s.busDead c = true → exec (.busDeclaredDead c) s = .next (settle s (declareDead c n s))) ∧
    ((s.seqr c).x.stage = .blackStart → (s.seqr c).phase = 2 → (s.seqLast c).lost = false → s.timerDue c 3 (s.tStart c) = true →
      exec (.startDelayExpire c) s = .next (settle s (decideStart c n s))) ∧
    ((s.seqr c).x.drive = true → (s.seqLast c).fb = false → s.timerDue c 4 (s.pq c 7) = true →
      ((s.seqr c).x.closed = false → exec (.contactorFailedToClose c) s =
        .next (settle s (modSeqr c (fun q => ((q.driveOff n).stop).event evCtxFailedToClose 0 0) s))) ∧
      ((s.seqr c).x.closed = true → exec (.contactorOpenedWithoutCommand c) s =
        .next (settle s (modSeqr c (fun q => ((q.driveOff n).stop).event evCtxOpenedWithoutCommand 0 0) s)))) ∧
    ((s.seqr c).x.stage = .blackStart → (s.seqr c).phase = 5 → s.timerDue c 5 (s.pq c 6) = true → exec (.bsHoldElapsed c) s =
      .next (settle s (modSeqr c (fun q => { q with phase := 0, hold := 0, x := { q.x with stage := .running } }) s))) ∧
    ((s.seqr c).x.stage = .synchronise → (s.seqr c).x.drive = false → s.timerDue c 6 10 = true → exec (.syncWindowsNotMet c) s =
      .next (settle s (modSeqr c (fun q => { q with win := (timerAt n).toNat }.event evCtxSyncNotMet 0 0) s))) ∧
    ((s.seqr c).x.stage = .softStop → (s.seqr c).x.drive = true → (s.links c).factorZero = true → exec (.stopFactorZero c) s =
      .next (settle s (modSeqr c (fun q => q.driveOff n) s)))) ∧
  (s.ctxTemplate c = 0x0C → s.timerDue c 0 (s.pq c 4) = true → s.outVal c 0 = 0 →
    exec (.syncWindowsHeld c) s = .next (settle s (setOutVal c 0 0x7FFF s)))

/-- R58, R60, R64, R67, R68, R73, R101, R135: the grid-forming happenings after a completed run, each under its condition: the mode changes
of the virtual machine, the anchor that begins to decay, the ends of a ramp and of a blend, the fold-back with its event, the sweep's
start and points.
The model's choices in it: log entries 13, 38, 46, 118, 119. -/
def Obligations.FormingStepsComplete : Prop :=
  ∀ (c : CtxId) n s, (s.loop.rt[c]).lastRun = some n → s.leRuns = true → s.ctxRuns c = true → (s.loop.rt[c]).released = false →
  (s.ctxTemplate c = 0x01 →
    ((s.vsm c).mode = 4 → s.timerDue c 28 (s.pq c 35) = true →
      exec (.envExitElapsed c) s = .next (settle s (transition c (s.vsm c).ret (s.lastIns c) s))) ∧
    ((s.vsm c).mode = 5 → s.timerDue c 29 (s.pq c 17) = true →
      exec (.gapResumeElapsed c) s = .next (settle s (transition c 3 (s.lastIns c) s))) ∧
    (∀ a, (s.vsm c).h.unlocked = some a → s.time.locked = false → (s.vsm c).h.decaying = false → s.pq c 12 ≤ s.span c a n →
      exec (.anchorFreezeEnd c) s = .next (settle s (s.modRt c fun x => { x with vsm := { x.vsm with decaying := true } }))) ∧
    ((s.vsm c).blend = true → s.paramInt c 31 ≤ (s.vsm c).n → exec (.blendEnd c) s = .next (settle s (endBlend c s)))) ∧
  (s.ctxTemplate c = 0x06 → s.foldDue c = true → exec (.foldBackStart c) s =
    .next (settle s (raiseFull (s.srcOf c) evCtxFoldBack 0 0 ((s.ctxRegion c).map ShadowObj.region) false
      (setSw c 3 0 (s.modRt c fun x => { x with folding := true }))))) ∧
  (∀ w l, (s.loop.rt[c]).rampDone = w :: l →
    (s.ctxTemplate c ≠ 0x01 ∨ w ≠ 14 ∨ (s.vsm c).mode ≠ 1 ∨ (s.loop.rt[c]).vsm.phase ≠ 4 →
      exec (.rampComplete c) s = .next (settle s (s.modRt c fun x => { x with rampDone := l }))) ∧
    (s.ctxTemplate c = 0x01 → w = 14 → (s.vsm c).mode = 1 → (s.loop.rt[c]).vsm.phase = 4 → exec (.rampComplete c) s =
      .next (settle s (s.modRt c fun x => { x with rampDone := l, vsm := { x.vsm with phase := 5 } })))) ∧
  (s.ctxTemplate c = 0x13 → watchPaused (s.lastIns c) = false →
    ((s.loop.rt[c]).sweeping = false → s.sweepDue c n = true → exec (.sweepStart c) s =
      .next (settle s (beginPoint c 0 n (s.modRt c fun x => { x with sweeping := true, sweepAt := some n, points := [] })))) ∧
    (∀ i t, (s.loop.rt[c]).sweeping = true → s.dwell c ≤ s.span c (s.loop.rt[c]).pointAt n → i = s.swBits c 2 + 1 →
      i < s.paramInt c 3 ∨ s.onLane (s.adaptTarget c) = false → t = s.modRt c (fun x => { x with points := x.points ++ [((s.loop.rt[c]).pointF, s.pointGain c (s.loop.rt[c]).pointF)] }) →
      (i < t.paramInt c 3 → exec (.sweepPointEnd c) s = .next (settle s (beginPoint c i n t))) ∧
      (t.paramInt c 3 ≤ i → exec (.sweepPointEnd c) s = .next (settle s (endSweep c t)))))

/-! ## Islands -/

/-- R240 to R242, R245: the island link lost and locked again; the interlock takes both gates and counts, with its event at most every
10 ms; a measured switching time is kept as valid or not.
The model's choices in it: log entries 16, 24, 26. -/
def Obligations.IslandLinkStepsComplete : Prop :=
  (∀ (i : IslandId) b s, (s.islands[i]).link = true → s.power.pRun = true →
    exec (.islandLinkLost i b) s = .next (settle s (linkLost i b s))) ∧
  (∀ (i : IslandId) t s, (s.islands[i]).link = false ∨ (s.islands[i]).returnUp = false → (s.islands[i]).bias = true → s.power.pRun = true →
    t = s.modIsland i (fun x => { x with link := true, returnUp := true }) →
    exec (.islandLinkRelock i) s = .next (settle s (if (s.islands[i]).ready then evaluate i t else t))) ∧
  (∀ (i : IslandId) n t s, s.units[unitH i].cmdOn = true → s.units[unitL i].cmdOn = true → (s.islands[i]).ilkActive = false →
    (s.islands[i]).ilkEvent = some n → s.now < n + msTicks 10 →
    t = (s.modUnit (unitH i) fun g => { g with gate := false }).modUnit (unitL i) (fun g => { g with gate := false }) →
    exec (.islandInterlock i) s = .next (settle s (t.modIsland i fun y => { y with ilkActive := true, ilkCnt := satInc y.ilkCnt }))) ∧
  (∀ (i : IslandId) t s, s.units[unitH i].cmdOn = true → s.units[unitL i].cmdOn = true → (s.islands[i]).ilkActive = false →
    (∀ n, (s.islands[i]).ilkEvent = some n → n + msTicks 10 ≤ s.now) →
    t = (s.modUnit (unitH i) fun g => { g with gate := false }).modUnit (unitL i) (fun g => { g with gate := false }) →
    exec (.islandInterlock i) s = .next (settle s ((raise (srcIsland i) evIslandInterlock 0 0 (t.modIsland i fun y =>
      { y with ilkActive := true, ilkCnt := satInc y.ilkCnt })).modIsland i fun y => { y with ilkEvent := some s.now }))) ∧
  (∀ (u : UnitId) vLeg fine cross t s, s.returns (islandOf u) = true → s.power.pRun = true → 50000 ≤ vLeg → 1 ≤ fine → fine ≤ 4095 →
    cross ≤ 4095 → t = s.modUnit u (fun x => { x with tonValid := true, ton := BitVec.ofNat 12 fine }) →
    exec (.switchingTimeMeasured u true vLeg fine cross) s = .next (settle s (if s.adapts u then adapt u true fine t else t))) ∧
  (∀ (u : UnitId) vLeg fine cross t s, s.returns (islandOf u) = true → s.power.pRun = true → 50000 ≤ vLeg → 1 ≤ fine → fine ≤ 4095 →
    cross ≤ 4095 → t = s.modUnit u (fun x => { x with toffValid := true, toff := BitVec.ofNat 12 fine }) →
    exec (.switchingTimeMeasured u false vLeg fine cross) s = .next (settle s (if s.adapts u then adapt u false fine t else t))) ∧
  (∀ (u : UnitId) vLeg fine cross s, s.returns (islandOf u) = true → s.power.pRun = true →
    vLeg < 50000 ∨ fine = 0 ∨ 4095 < fine ∨ 4095 < cross →
    exec (.switchingTimeMeasured u false vLeg fine cross) s = .next (settle s (s.modUnit u fun x => { x with toffValid := false })))

/-- R237, R238, R248, R249, R254, R256: undervoltage and its end, desaturation armed and seen, the end of the soft turn-off, the comparator
test's result, the island's temperature.
The model's choices in it: log entries 16, 24, 25, 34, 35, 122. -/
def Obligations.UnitProtectionStepsComplete : Prop :=
  (∀ (u : UnitId) rail t s, s.units[u].uvlo = false → rail + 2500 < s.vOn (islandOf u) →
    t = (softTurnOff u false s).modUnit u (fun x => { x with uvlo := true, uvloHeld := true, uvloClean := false }) →
    exec (.uvlo u rail) s = .next (settle s (if t.uvloSignal u then uvloSeen u t else t))) ∧
  (∀ (u : UnitId) rail s, s.units[u].uvlo = true → s.vOn (islandOf u) < rail + 2000 → (s.islands[islandOf u]).evaluated = true →
    exec (.uvloRelease u rail) s =
    .next (settle s (unstand (srcUnit u) evUnitUvlo (s.modUnit u fun x => { x with uvlo := false })))) ∧
  (∀ (u : UnitId) t s, s.units[u].onAt = some t → s.units[u].cmdOn = true → s.units[u].armed = false →
    bitAt (s.reg (rIslDesat (islandOf u) (side u))) 31 = true → t + fld (s.reg (rIslDesat (islandOf u) (side u))) 0 11 ≤ s.now →
    exec (.desaturationArmed u) s = .next (s.modUnit u fun x => { x with armed := true })) ∧
  (∀ (u : UnitId) sense s, 100 * s.rf (rIslDesat (islandOf u) (side u)) 11 7 < sense →
    s.units[u].armed = true ∨ s.units[u].armedOff = some s.now → exec (.desaturation u sense) s = .next (settle s (desaturate u s))) ∧
  (∀ (u : UnitId) t s, s.units[u].softOff = some t → t + 8 + s.rf (rIslDesat (islandOf u) (side u)) 22 8 ≤ s.now →
    exec (.softTurnOffEnd u) s = .next (settle s (s.modUnit u fun x =>
      { x with softOff := none, softIsDesat := false, softSnk := some 15, desatSigEnd := if x.softIsDesat then some (s.now + 24) else x.desatSigEnd }))) ∧
  (∀ (i : IslandId) n rest s, (s.islands[i]).testLeft = n :: rest → (s.islands[i]).testAt + 6400 ≤ s.now →
    n.val < 2 ∨ (s.islands[i]).evaluated = false → exec (.comparatorTestDone i true) s = .next (settle s (s.modIsland i fun x =>
      { x with testLeft := rest, testAt := s.now, testResult := setResult x.testResult n 1 })) ∧
    exec (.comparatorTestDone i false) s = .next (settle s (raise (srcUnit (testUnit i n)) evUnitSelfTestFailed 0 0 (s.modIsland i fun x =>
      { x with testLeft := rest, testAt := s.now, testResult := setResult x.testResult n 2 })))) ∧
  (∀ (i : IslandId) n rest s, (s.islands[i]).testLeft = n :: rest → (s.islands[i]).testAt + 6400 ≤ s.now → 2 ≤ n.val →
    (s.islands[i]).evaluated = true → exec (.comparatorTestDone i true) s = .next (settle s (uvloFound (testUnit i n) (s.modIsland i fun x =>
      { x with testLeft := rest, testAt := s.now, testResult := setResult x.testResult n 1 })))) ∧
  (∀ (i : IslandId) temp w o s, s.returns i = true → s.power.pRun = true →
    w = tempStep (srcIsland i) evIslandOverTempWarn temp.toInt (4 * s.rf (rIslCfg i) 8 8 : Nat) (s.islands[i]).tempWarned s →
    o = tempStep (srcIsland i) evIslandOverTemp temp.toInt 600 (s.islands[i]).tempOver w.2 → exec (.islandOverTemperature i temp) s =
      .next (settle s (o.2.modIsland i fun x => { x with temp := temp, tempWarned := w.1, tempOver := o.1 })))

/-- R257, R258: an island whose bias is wanted starts; it becomes ready, or fails after 10 ms or by its test, with its event; the block reset
opens its bias switch and clears what its units held, and 10 ms later bias returns.
The model's choices in it: log entries 20, 24, 32. -/
def Obligations.IslandStartStepsComplete : Prop :=
  (∀ (i : IslandId) s, s.biasWanted i = true → (s.islands[i]).bias = false → exec (.islandStart i) s = .next (settle s (startIsland i s))) ∧
  (∀ (i : IslandId) t s, (s.islands[i]).bias = true → (s.islands[i]).startAt.isSome = true → (s.islands[i]).startFailed = false →
    s.power.pRun = true → t = s.modIsland i (fun x => { x with ready := true, link := true, returnUp := true, startAt := none, testResult := 0x55 }) →
    exec (.islandReady i) s = .next (settle s (evaluate i ((t.modUnit (unitH i) fun g => { g with uvlo := false }).modUnit (unitL i)
      fun g => { g with uvlo := false })))) ∧
  (∀ (i : IslandId) t s, (s.islands[i]).startAt = some t → (s.islands[i]).bias = true → (s.islands[i]).startFailed = false →
    (t + msTicks 10 ≤ s.now → exec (.islandStartFailed i none) s =
      .next (settle s (raise (srcIsland i) evIslandStartFailed 0 0 (s.modIsland i fun x => { x with startFailed := true })))) ∧
    ∀ n, exec (.islandStartFailed i (some n)) s = .next (settle s (raise (srcIsland i) evIslandStartFailed 0 0
      (raise (srcUnit (testUnit i n)) evUnitSelfTestFailed 0 0 (s.modIsland i fun x =>
        { x with startFailed := true, testResult := setResult x.testResult n 2 }))))) ∧
  (∀ (i : IslandId) f t s, (s.islands[i]).resetReq = true → s.power.pRun = true →
    f = (fun (u : UnitId) (t : State) => startStrengths u (t.modUnit u fun x =>
      { x with desatHold := false, uvloHeld := x.uvlo, carry := 0, gate := false })) →
    t = closeDebug (s.modIsland i fun x =>
      { x with resetReq := false, resetAt := some s.now, bias := false, ready := false, startAt := none, startFailed := false }) →
    exec (.islandBlockReset i) s = .next (settle s (f (unitL i) (f (unitH i) t)))) ∧
  (∀ (i : IslandId) n t s, (s.islands[i]).resetAt = some n → n + msTicks 10 ≤ s.now → t = s.modIsland i (fun x => { x with resetAt := none }) →
    exec (.islandBiasRestore i) s = .next (settle s (if t.biasWanted i then startIsland i t else t)))

/-! ## Conversion -/

/-- R266, R271, R272, R274, R284, R287: the bank's timers, its sampling instants, the completed set, the injected trigger, its sampling and its
completion, and the flush of packed results.
The model's choices in it: log entries 4, 16, 105. -/
def Obligations.BankStepsComplete : Prop :=
  (∀ (b : BankId) s, s.converts = true → s.now < (s.banks[b]).contNext → (s.banks[b]).timerNext ≤ s.now → s.injSrc b ≠ 8 → s.adcMode b = 1 →
    s.adcSrc b ≠ 8 → exec (.bankTimer b) s = .next (settle s (s.modBank b fun x => { x with timerNext := s.now + s.rf (rAdcTimer b) 0 24 }))) ∧
  (∀ (b : BankId) s, s.converts = true → (s.banks[b]).contNext ≤ s.now → s.adcMode b = 2 → s.now < (s.banks[b]).timerNext →
    exec (.bankTimer b) s = .next (settle s (bankTrigger b 0 none (s.modBank b fun x =>
      { x with contNext := s.now + 40 * (s.rf (rAdcCtrl b) 8 8 + 1) })))) ∧
  (∀ (b : BankId) uv s, s.converts = true → s.adcMode b = 1 ∨ s.adcMode b = 2 →
    exec (.samplingInstant b uv) s = .next (settle s (samplingInstant b uv s))) ∧
  (∀ (b : BankId) s, s.setDue b = true → s.converts = true → exec (.setComplete b) s = .next (settle s (setsComplete b s))) ∧
  (∀ (b : BankId) q rest s, (s.banks[b]).injReq = q :: rest → s.converts = true → s.adcMode b = 1 ∨ s.adcMode b = 2 →
    (s.banks[b]).injDelay = none → exec (.injectedTrigger b) s = .next ((s.modBank b fun x => { x with injReq := rest }).modBank b fun x =>
      { x with injDelay := some { due := s.now + s.rf (rAdcInjDelay b) 0 16, region := q } })) ∧
  (∀ (b : BankId) q rest s, (s.banks[b]).injReq = q :: rest → s.converts = true → s.adcMode b = 1 ∨ s.adcMode b = 2 →
    (s.banks[b]).injDelay.isSome = true → exec (.injectedTrigger b) s = .next (settle s (injOverrun b (s.modBank b fun x => { x with injReq := rest })))) ∧
  (∀ (b : BankId) uv s, s.converts = true → exec (.injectedSamplingInstant b uv) s = .next (settle s (injSamplingInstant b uv s))) ∧
  (∀ (b : BankId) c s, (s.banks[b]).inj = some c → c.start + 40 ≤ s.now → s.converts = true →
    exec (.injectedConversionComplete b) s = .next (settle s (injComplete b c s))) ∧
  (∀ (b : BankId) s, (s.banks[b]).packed ≠ [] → (s.banks[b]).packedAt + 80 ≤ s.now → s.anaRuns = true →
    exec (.packedFrameFlush b) s = .next (flushPacked b s))

/-- R275 to R278: the background calibration of a bank: a step starts with tracking, or for the spare with measuring; the spare takes over;
the measurement ends in range, or fails its slice; the slice takes back and the next is due after the interval.
The model's choices in it: log entries 3, 4, 16, 103. -/
def Obligations.CalibrationStepsComplete : Prop :=
  (∀ (b : BankId) s, s.converts = true → s.rb (rAdcCal b) 15 = true → (s.banks[b]).stopped = false → (s.banks[b]).cal = .idle →
    (s.banks[b]).calNext ≤ s.now → exec (.calibrationStepStart b) s = .next (s.modBank b fun x =>
      { x with cal := if (s.banks[b]).calSlice = 16 then .measuring else .tracking, calAt := s.now })) ∧
  (∀ (b : BankId) s, s.converts = true → (s.banks[b]).cal = .tracking → (s.banks[b]).calAt + 400 ≤ s.now →
    s.mayHand b (s.banks[b]).calSlice.val = true → exec (.calibrationHandOver b) s = .next (s.modBank b fun x =>
      { x with cal := .measuring, calAt := s.now, spareFor := BitVec.ofNat 5 (s.banks[b]).calSlice.val })) ∧
  (∀ (b : BankId) s, s.converts = true → (s.banks[b]).cal = .measuring → (s.banks[b]).calAt + 8000 ≤ s.now →
    ((s.banks[b]).calSlice = 16 → ∀ w, exec (.calibrationMeasurementEnd b true w) s = .next (s.modBank b fun x =>
      { x with cal := .idle, calSlice := 0, coefs := x.coefs.set 16 w, calNext := s.now + msTicks (s.rf (rAdcCal b) 0 10) })) ∧
    ((s.banks[b]).calSlice ≠ 16 → ∀ w, exec (.calibrationMeasurementEnd b true w) s =
      .next (s.modBank b fun x => { x with cal := .measured, newCoef := w })) ∧
    ∀ w, exec (.calibrationMeasurementEnd b false w) s = .next (settle s (sliceFailed b s))) ∧
  (∀ (b : BankId) s, s.converts = true → (s.banks[b]).cal = .measured → s.mayHand b (s.banks[b]).calSlice.val = true →
    exec (.calibrationHandBack b) s = .next (s.modBank b fun x =>
      { x with cal := .idle, spareFor := 0x1F, coefs := x.coefs.set x.calSlice x.newCoef, calSlice := nextSlice x.calSlice
               calNext := s.now + msTicks (s.rf (rAdcCal b) 0 10) }))

/-- R288, R303, R307, R314, R315, R317: the window comparator asserts, with its event at most once a millisecond, and releases; a chain's
unsent results are flushed; a hold-off ends armed; a notice is judged; a full session ends, as does one that is asked to stop; its
progress is written each millisecond.
The model's choices in it: log entries 4, 27, 73. -/
def Obligations.WindowChainCaptureStepsComplete : Prop :=
  (∀ (ch : ChanId) uv s, s.anaRuns = true → s.window ch = false → s.winAsserts ch uv = true → s.onceMs (s.channels[ch]).winEvent = false →
    exec (.windowComparatorAsserted ch uv) s = .next (settle s (setWindow ch true s))) ∧
  (∀ (ch : ChanId) uv s, s.anaRuns = true → s.window ch = false → s.winAsserts ch uv = true → s.onceMs (s.channels[ch]).winEvent = true →
    exec (.windowComparatorAsserted ch uv) s = .next (settle s ((raise (srcBank (bankOf ch) 2) evBank2Window (BitVec.ofNat 32 ch.val) 0
      (setWindow ch true s)).modChan ch fun x => { x with winEvent := some s.now }))) ∧
  (∀ (ch : ChanId) uv s, s.anaRuns = true → s.window ch = true → s.winReleases ch uv = true →
    exec (.windowComparatorRelease ch uv) s = .next (settle s (setWindow ch false s))) ∧
  (∀ (n : ChainId) s, (s.chains[n]).unsent ≠ [] → (s.chains[n]).unsentAt + s.rf (rFltOut n) 0 16 ≤ s.now →
    exec (.chainFrameFlush n) s = .next (chainFlush n s)) ∧
  (∀ (u : TrigId) s, s.trigs[u].state = .holdOff → s.rb (rCapTrgCtrl u) 6 = false → s.trigs[u].holdEnd ≤ s.now →
    exec (.triggerHoldOffEnd u) s = .next (s.modTrig u fun t => { t with state := .armed })) ∧
  (∀ (k : SessId) n rest l s, (s.sessions[k]).notices = n :: rest → (s.sessions[k]).lastId = some l → (s.sessions[k]).state = .armed →
    s.power.cRun = true → 0 ≤ idDiff l ((s.sessions[k]).noticeId n) → exec (.captureTrigger k) s = .next (judgeNotice k n s)) ∧
  (∀ (k : SessId) s, (s.sessions[k]).active = true → s.power.cRun = true → (s.sessions[k]).full = true → exec (.captureDone k) s =
    .next (settle s (endSession k (if (s.sessions[k]).clamped then stClamped else stOk) false s))) ∧
  (∀ (k : SessId) s, (s.sessions[k]).active = true → s.power.cRun = true → (s.sessions[k]).full = false → (s.sessions[k]).stopReq ≠ [] →
    (s.sessions[k]).accCount = 0 → exec (.captureDone k) s = .next (settle s (endSession k stOk true s))) ∧
  (∀ (k : SessId) y s, (s.sessions[k]).active = true → s.power.cRun = true → s.refreshing = false → (s.sessions[k]).progressAt + msTicks 1 ≤ s.now →
    y = { (s.sessions[k]).progress with progressAt := s.now } → exec (.captureProgressWrite k) s =
      .next (settle s ((((s.write 0x04 (y.bufAddr + 16) (bytesAt (y.header k) 16 8)).write 0x04 (y.bufAddr + 28) (bytesAt (y.header k) 28 4)).write 0x04
        (y.bufAddr + 44) (bytesAt (y.header k) 44 4)).modSess k fun _ => y))) ∧
  (∀ (k : SessId) y s, (s.sessions[k]).active = true → s.power.cRun = true → s.refreshing = true →
    (s.sessions[k]).progressAt + msTicks 1 ≤ s.now →
    y = { (s.sessions[k]).progress with progressAt := s.now } → ∃ t, exec (.captureProgressWrite k) s = .next (settle s t) ∧ t.mem = s.mem ∧
      t.sessions[k] = y ∧ t.arb.capBuf = s.arb.capBuf ++ [(y.bufAddr + 16, bytesAt (y.header k) 16 8), (y.bufAddr + 28, bytesAt (y.header k) 28 4),
        (y.bufAddr + 44, bytesAt (y.header k) 44 4)])

/-! ## Memory and arbiter -/

/-- R345, R495, R499, R503, R504, R511, R512: arbitration of a slot, refresh, the watchdog that resets the requester without progress, a Weir
wait timed out, the Weirs of an owner released, and the two device sets written under their Weirs.
The model's choices in it: log entries 4, 78, 129. -/
def Obligations.ArbiterStepsComplete : Prop :=
  (∀ l b q w (m : Fin 5) n k s, s.slotOpen l = true → s.arb.active.arbitrated l (b && decide (0 < s.inFlight)) = true →
    s.arb.grant = some (m, n) → w = s.requestsOf q → 0 < n → bitAt w m.val = true →
    k = (if s.arb.mover w = some 1 ∧ s.beyondInFlight = true then s.arb.leLines + 1 else s.arb.leLines) →
    exec (.arbiterGrant l b q) s = .next (s.modArb fun a => { a.burst m n s.now with slotDone := some s.memSlot, leLines := k })) ∧
  (∀ l b q w k s, s.slotOpen l = true → s.arb.active.arbitrated l (b && decide (0 < s.inFlight)) = true →
    w = s.requestsOf q → (∀ (m : Fin 5) n, s.arb.grant = some (m, n) → 0 < n → bitAt w m.val = false) →
    k = (if s.arb.mover w = some 1 ∧ s.beyondInFlight = true then s.arb.leLines + 1 else s.arb.leLines) →
    exec (.arbiterGrant l b q) s = .next (s.modArb fun a =>
      { ({ a with grant := none } : Arb).arbitrate w s.now with slotDone := some s.memSlot, leLines := k })) ∧
  (∀ s, (∀ t, s.arb.refreshAt = some t → t + 1560 ≤ s.now) → s.power.cRun = true →
    exec .refresh s = .next (s.modArb fun a => { a with refreshAt := some s.now })) ∧
  (∀ (m : Fin 5) n s, s.arb.grant = some (m, n) → s.arb.progressAt + usTicks 10 ≤ s.now → s.power.cRun = true →
    exec .arbiterWatchdog s = .next (settle s (resetRequester m (raise 164 evArbWatchdog (BitVec.ofNat 32 (requesterCode m).toNat) 0
      (s.modArb fun a => { a with ptr := 0, losses := Vector.replicate 5 0, backoff := Vector.replicate 5 0, grant := none
                                  wdCnt := satInc a.wdCnt, wdReq := requesterCode m }))))) ∧
  (∀ (k : Slot) n o w s, ((List.finRange 32).find? fun n => s.weirs[n].waiters.any fun x => x.2.1 == some k) = some n →
    (s.weirs[n].waiters.find? fun x => x.2.1 == some k) = some (o, some k, w) → leAt (s.desc k) 20 4 ≠ 0 →
    w + usTicks (leAt (s.desc k) 20 4) ≤ s.now → exec (.weirAcquireTimedOut k) s =
      .next (settle s (raise 165 evWeirTimedOut (BitVec.ofNat 32 n.val) (BitVec.ofNat 32 (s.ownerOf k).val)
        (finish k stState 1 0 true (s.modWeir n fun w => { w with waiters := w.waiters.filter fun x => x.2.1 != some k }))))) ∧
  (∀ w s, s.ownerDown w = true → exec (.weirsReleased w) s = .next (settle s (releaseWeirs w s))) ∧
  (∀ s, s.safEn = true → s.safPowered = true → s.power.cRun = true → s.pReach = true → s.awake = true →
    s.weirs[s.safWeir].owner = none → s.arb.safAt + msTicks 1 ≤ s.now → (s.weirs[s.safWeir].waiters.any fun x => x.1 == 8) = false →
    exec .safetySetUpdate s = .next (settle s (passWeir s.safWeir false (writeSafSet (grantWeir s.safWeir 8 none s))))) ∧
  (∀ s, s.netEn = true → s.netRuns = true → s.power.cRun = true → s.pReach = true → s.weirs[s.netWeir].owner = none →
    s.arb.netAt + sTicks 1 ≤ s.now → (s.weirs[s.netWeir].waiters.any fun x => x.1 == 9) = false →
    exec .networkCounterUpdate s = .next (settle s (passWeir s.netWeir false (writeNetSet (grantWeir s.netWeir 9 none s)))))

/-! ## Network and time -/

/-- R384 to R386, R392, R396, R408: a frame on a port with a link is received; the timestamp of the frame being sent; the port's next frame; the
supervision frame; a silent LAN and an expired node; the link up and down with their events.
The model's choices in it: log entries 4, 37, 74, 89. -/
def Obligations.NetworkStepsComplete : Prop :=
  (∀ (p : PortId) l ok s, 14 ≤ l.length → l.length ≤ 1528 → s.linkOf p = true →
    exec (.frameReceive p l ok) s = .next (settle s (frameReceive p l ok s))) ∧
  (∀ (p : PortId) f s, (s.net.ports[p]).sending = some f → f.stamped = false → s.netRuns = true →
    exec (.txTimestamp p) s = .next (settle s (txTimestamp p f s))) ∧
  (∀ (p : PortId) s, s.linkOf p = true → (s.net.ports[p]).sending = none → exec (.portFrameBoundary p) s = .next (settle s (portBoundary p s))) ∧
  (∀ s, s.netRuns = true → s.net.lastSup + msTicks (s.rf rNetPrpCfg 16 16) ≤ s.now → exec .supervisionFrameSend s =
    .next (queueFrame ((List.finRange 2).filter fun p => s.linkOf p) true
      { bytes := s.supAddr ++ s.mac ++ beBytes 2 0x88FB ++ beBytes 2 0x0001 ++ beBytes 2 s.net.supSeq.toNat ++ [20, 6] ++ s.mac ++ [0, 0] }
      (s.modNet fun x => { x with lastSup := s.now, supSeq := x.supSeq + 1 }))) ∧
  (∀ (p : PortId) s, s.netRuns = true → (s.net.ports[p]).silent = false →
    (s.net.ports[p]).lastRx + 3 * msTicks (s.rf rNetPrpCfg 16 16) ≤ s.now →
    s.now < (s.net.ports[(1 - p : PortId)]).lastRx + 3 * msTicks (s.rf rNetPrpCfg 16 16) →
    (s.net.ports[p]).lastRx < (s.net.ports[(1 - p : PortId)]).lastRx →
    exec (.lanSilent p) s = .next (settle s (raise (srcPort p) evPortSilent 0 0 (s.modPort p fun q => { q with silent := true })))) ∧
  (∀ m n s, n ∈ s.net.nodes → n.mac = m → n.last + sTicks 60 ≤ s.now → exec (.prpNodeExpire m) s =
    .next (s.modNet fun x => { x with nodes := x.nodes.filter (fun n => n.mac ≠ m), nodeFullFor := [] })) ∧
  (∀ (p : PortId) s, s.netRuns = true → (s.net.ports[p]).link = false →
    exec (.linkUp p) s = .next (settle s (raise (srcPort p) evPortUp 0 0 (unstand (srcPort p) evPortDown (s.modPort p fun q => { q with link := true }))))) ∧
  (∀ (p : PortId) s, (s.net.ports[p]).link = true →
    exec (.linkDown p) s = .next (settle s (stand (srcPort p) evPortDown (raise (srcPort p) evPortDown 0 0
      (dropFrames p (s.modPort p fun q => { q with link := false })))))) ∧
  (∀ s, s.lockExpired = true → exec .timeLockLost s = .next (settle s (loseLock s)))

/-! ## Pairing -/

/-- R417 to R421, R424, R427 to R429: the frames of the pair in their order, the hello each millisecond, the partner that falls silent, the
referee's finding, the start, the chunks and the failure of a resynchronisation.
The model's choices in it: log entries 44, 47, 48, 49, 142. -/
def Obligations.PairStepsComplete : Prop :=
  (∀ r n b m s, s.pairHead 1 = some (r, n, b) → s.netRuns = true → s.mirrorLetter r = some m → s.linkUp = true → s.leRuns = true →
    s.regionIdle m = true → exec .sampleFrameReceive s = .next (settle s
      (let t := (popPair s).modPairRegion m fun p => { p with lastFrame := s.now }
       if s.computes m then releaseRegion m n (parseSets b.length b) t else keepSets m n (parseSets b.length b) t))) ∧
  (∀ r n b s, s.pairHead 2 = some (r, n, b) → s.netRuns = true →
    exec .dutyCopyReceive s = .next (settle s (dutyCopyReceive r n b (popPair s)))) ∧
  (∀ s, s.netRuns = true → s.rb rPairCfg 0 = true → s.power.sealed = true → s.pair.lastHello + msTicks 1 ≤ s.now →
    exec .helloSend s = .next ((pairSend 3 0 0 s.helloBody s).modPair fun p => { p with lastHello := s.now })) ∧
  (∀ r n b s, s.pairHead 3 = some (r, n, b) → s.netRuns = true → exec .helloReceive s = .next (settle s (helloReceive b (popPair s)))) ∧
  (∀ s, s.netRuns = true → s.pair.up = true → s.pair.lastRx + msTicks 10 ≤ s.now →
    exec .partnerDown s = .next (settle s (raise 150 evPairPartnerDown 0 0 (s.modPair fun p => { p with up := false })))) ∧
  (∀ r n b s, s.pairHead 4 = some (r, n, b) → s.netRuns = true →
    exec .faultDeclarationReceive s = .next (settle s (faultDeclared r (popPair s)))) ∧
  (∀ (r : RegionId) b s, s.power.pRun = true → s.isPaired r = true → s.carrierRuns r = true → (s.pair.regions[r]).partnerActive = b →
    s.refereeFinds r b = true → exec (.controlDieFailed r b) s = .next (settle s (dieFailed r b s))) ∧
  (∀ r n b s, s.pairHead 5 = some (r, n, b) → s.netRuns = true → (popPair s).pReach = true → (popPair s).power.cRun = true →
    exec .parameterFrameReceive s = .next (settle s (parameterFrame r n b (popPair s)))) ∧
  (∀ (r : RegionId) s, (s.pair.regions[r]).wanted = true → s.pair.up = true → (s.pair.regions[r]).discarded < 3 → s.isPaired r = true →
    s.mayResync r = true → s.carrierRuns r = true → (s.pair.regions[r]).partnerActive = true → exec (.resynchronisationStart r) s =
      .next ((s.modPairRegion r fun p => { p with chunks := [], held := false, catching := false }).modPairRegion r fun p =>
        { p with wanted := false, mayReturn := false, standby := .resync, matching := 0, probation := [], resyncAt := p.resyncAt.or (some s.now) })) ∧
  (∀ (r : RegionId) s, s.mayResync r = true → s.maySnapshot r = true → (s.isMirror r = true →
      exec (.resynchronisationStart r) s = .next ((sendCheckpoint r s).modPairRegion r fun p => { p with wanted := false, partnerActive := true })) ∧
    (s.isMirror r = false → s.carrierRuns r = true → (s.pair.regions[r]).partnerActive = false →
      exec (.resynchronisationStart r) s = .next ((sendCheckpoint r s).modPairRegion r fun p => { p with
        wanted := false, mayReturn := false, standby := .resync, matching := 0, probation := []
        resyncAt := ((s.pair.regions[r]).resyncAt).or (some s.now) }))) ∧
  (∀ r n b s, s.pairHead 6 = some (r, n, b) → s.netRuns = true → (popPair s).pReach = true → (popPair s).leRuns = true →
    exec .checkpointChunkReceive s = .next (settle s (checkpointChunk r n b (popPair s)))) ∧
  (∀ r n b s, s.pairHead 7 = some (r, n, b) → s.netRuns = true → (popPair s).pReach = true → (popPair s).leRuns = true →
    exec .checkpointCommitReceive s = .next (settle s (checkpointCommit r n b (popPair s)))) ∧
  (∀ (r : RegionId) t s, (s.pair.regions[r]).resyncAt = some t → 3 ≤ (s.pair.regions[r]).discarded ∨ t + msTicks 250 ≤ s.now →
    exec (.resynchronisationFailed r) s = .next (settle s (abortResync r (raise 152 evResyncFailed (BitVec.ofNat 32 r.val) 0
      (s.modPairRegion r fun p =>
        { p with standby := .absent, wanted := false, resyncAt := none, discarded := 0, matching := 0, chunks := [], probation := []
                 keptSets := [], held := p.held && !(s.isMirror r || (s.pair.regions[r]).partnerActive), catching := false })))))

/-! ## Events -/

/-- R438, R445, R450: the oldest raised event is collected; a source that recovers by itself is clear after its quiet time, with its event
and its count; a window that has ended closes.
The model's choices in it: log entries 10, 86, 124, 125. -/
def Obligations.EventStepsComplete : Prop :=
  (∀ e t u s, u = (if s.power.pRun then trgWaiting s else s) → u.events.raised = e :: t → u.power.cRun = true →
    exec .eventCollect s = .next (settle u (collect e (u.modEvents fun v => { v with raised := t })))) ∧
  (∀ (k : SourceId) s, s.events.src[k].recovers = true → s.conditionBefore k = false →
    s.events.src[k].quietSince s.now + msTicks (s.rf (rEvtRecov k) 0 16) ≤ s.now → exec (.faultRecovered k) s =
      .next (settle s (reenter k (raise k evRecovered 0 0 (s.modSrc k fun f =>
        { f with
          state := .clear, reaction := .none, recovCnt := satInc f.recovCnt
          recovered := s.now :: f.recovered.filter fun t => decide (s.now ≤ t + sTicks (s.rf (rEvtRecov k) 20 12)) }))))) ∧
  (∀ w s, ∃ l, exec (.shadowWindowEnd w) s = .next (s.modEvents fun v => { v with shadows := l }) ∧
    ∀ x, x ∈ l ↔ x ∈ s.events.shadows ∧ ¬(x.obj = w ∧ ∃ t, x.ends = some t ∧ t ≤ s.now))

/-! ## Functional safety -/

/-- R466, R468, R469, R472, R474: an input's reading, a discrepancy that has stood its time, the start-up test passed, the second path's
state, and path 1's block ended.
The model's choices in it: log entries 18, 19, 24, 50, 111. -/
def Obligations.SafetyInputStepsComplete : Prop :=
  (∀ (c : SafCh) x b n s, s.chJudges c = true → (s.saf.ch[c]).inputs[x.idx] ≠ b → s.filtTicks x ≤ n → exec (.safetyInputChange c x b n) s =
    .next (settle s (discCleared s .cov (discCleared s .inh (s.modSafCh c (SafChannel.read x b s.now)))))) ∧
  (∀ (c : SafCh) p t s, s.power.sealed = true → s.chJudges c = true → (s.saf.ch[c]).discFault[p.idx] = false →
    (s.saf.ch[c]).readA p ≠ (s.saf.ch[c]).readB p → (s.saf.ch[c]).discSince[p.idx] = some t → t + msTicks (s.discMs p) ≤ s.now →
    exec (.discrepancyFault c p) s = .next (settle s (latchDisc c p s))) ∧
  (∀ (c : SafCh) t s, s.chJudges c = true → (s.saf.ch[c]).startup = false → (s.saf.ch[c]).startupSince = some t → t + msTicks 20 ≤ s.now →
    exec (.startUpTestPassed c) s = .next (settle s (raise 176 evSf1Passed 0 0 (s.modSafCh c fun y =>
      { y with startup := true, startupSince := none })))) ∧
  (∀ l n w s, s.chPowered 0 = true → s.decodeWave l n = w → s.wireCan w = true → w ≠ .absent → exec (.secondPathDecode l n) s =
    .next (settle s (s.modSaf fun f => { f with wire := w, absentSince := none }))) ∧
  (∀ l n s, s.chPowered 0 = true → s.power.powerGood = false → s.wireCan .absent = true →
    exec (.secondPathDecode l n) s = .next (settle s (wireAbsent s))) ∧
  (∀ t s, s.saf.path1Block = true → s.saf.biasPermit = true → s.path1Acts = false → s.mayEnable = true → s.saf.biasAt = some t →
    s.islandsReady = true ∨ t + 4000000 ≤ s.now → exec .gateEnable s = .next (settle s (s.modSaf fun f => { f with path1Block := false })))

/-- R477, R480, R484, R487: the test pulse of a channel's outputs and its end, the overload, the contactor welded or not closed, the cleared
weld, and the read-back that does not follow.
The model's choices in it: log entries 17, 53, 54, 91, 149. -/
def Obligations.SafeOutputStepsComplete : Prop :=
  (∀ (c : SafCh) s, s.power.sealed = true → s.chJudges c = true → (c = 1 → s.ch2Absent = false) → s.testDue c = true →
    (s.saf.ch[c]).pulse = Vector.replicate 2 false → s.testable c 0 = true ∨ s.testable c 1 = true →
    exec (.soTestPulse c) s = .next (settle s (s.modSafCh c fun y =>
      { y with pulse := #v[s.testable c 0, s.testable c 1], pulseAt := s.now, lastTest := s.now }))) ∧
  (∀ (c : SafCh) a b p q t s, (s.saf.ch[c]).pulse = #v[p, q] → p = true ∨ q = true → (s.saf.ch[c]).pulseAt + s.testPulse ≤ s.now →
    t = (let u := if p then judgeTest c 0 (fellInTime a) s else s
         if q then judgeTest c 1 (fellInTime b) u else u) → exec (.soTestPulseEnd c a b) s =
      .next (settle s (t.modSafCh c fun y => { y with pulse := Vector.replicate 2 false }))) ∧
  (∀ (o : SoId) ma n s, s.soOn o = true → 6000 < ma ∨ (2500 < ma ∧ msTicks 10 ≤ n) → exec (.safeOutputOverload o ma n) s = .next (settle s (stand 177 evSf2Overload
    (raise 177 evSf2Overload (BitVec.ofNat 32 o.val) 0 (s.modSo o fun f => { f with overload := true }))))) ∧
  (∀ (c : SafCh) (o : SoId) s, s.power.sealed = true → s.chJudges c = true → (c = 1 → s.ch2Absent = false) →
    (s.saf.so[o]).changedAt + s.feedbackTime ≤ s.now →
    ((s.saf.so[o]).energised = false → s.mirrorRead c o = false → (s.saf.so[o]).welded = false → exec (.contactorFeedbackFault c o) s =
      .next (settle s (stand 177 evSf2Welded (raise 177 evSf2Welded (BitVec.ofNat 32 o.val) 0 (s.modSo o fun f => { f with welded := true }))))) ∧
    ((s.saf.so[o]).energised = true → s.mirrorRead c o = true → (s.saf.so[o]).notClosed = false → exec (.contactorFeedbackFault c o) s =
      .next (settle s (stand 177 evSf2NotClosed (raise 177 evSf2NotClosed (BitVec.ofNat 32 o.val) 0
        (s.modSo o fun f => { f with notClosed := true })))))) ∧
  (∀ (o : SoId) n t s, (s.saf.so[o]).welded = true → (s.saf.so[o]).clearSince = some n → n + sTicks 1 ≤ s.now →
    t = raise 177 evSf2Cleared (BitVec.ofNat 32 o.val) 0 (s.modSo o fun f => { f with welded := false }) →
    exec (.sf2FaultCleared o) s = .next (settle s
      (if (t.saf.so[(0 : SoId)]).welded || (t.saf.so[(1 : SoId)]).welded then t else unstand 177 evSf2Welded t))) ∧
  (∀ (c : SafCh) (o : SoId) s, s.chJudges c = true → s.soDemanded o = false → exec (.safeOutputReadbackFault c o) s =
      .next (settle s (s.modSo o fun f => { f with readback := true })))

/-- R485 to R487, R550, R554: channel 2 that rejoins, stays absent or does not follow; the self-tests and the pulse tests of the paths; the
overloads of DCH and CDRV and the retry of DCH.
The model's choices in it: log entries 19, 24, 50, 51, 52, 112, 128, 143. -/
def Obligations.SecondPathStepsComplete : Prop :=
  (∀ n s, s.saf.absentSince = some n → s.ch2Absent = true → s.power.powerGood = true → s.chPowered 0 = true →
    s.waveOk = true → exec .channel2Rejoined s = .next (settle s (unstand 181 evPathAbsentLong (raise 181 evPathRejoined 0 0
      (raise 180 evCh2Absent (BitVec.ofNat 32 ((s.now - n) / 400000)) 0
        (s.modSaf fun f => { f with wire := .enable, absentSince := none, ch2Timeout := false })))))) ∧
  (∀ n s, s.power.sealed = true → s.chPowered 0 = true → s.ch2Absent = true → s.saf.ch2Timeout = false → s.saf.absentSince = some n →
    n + 40000000 * s.rf rSafCh2Cfg 0 7 < s.now → exec .channel2AbsentTooLong s = .next (settle s (stand 181 evPathAbsentLong
      (raise 181 evPathAbsentLong 0 0 (s.modSaf fun f => { f with ch2Timeout := true }))))) ∧
  (∀ n s, s.chPowered 0 = true → s.sf1Demand 0 = true → s.power.powerGood = true → s.saf.wire = .enable → s.saf.ch2NotFollowed = false →
    s.saf.demandAt = some n → n + msTicks 4 ≤ s.now → exec .channel2DidNotFollowDemand s = .next (settle s (stand 181 evPathNotFollowed
      (raise 181 evPathNotFollowed 0 0 (s.modSaf fun f => { f with ch2NotFollowed := true }))))) ∧
  (∀ s, s.chPowered 0 = true → s.saf.demandAt.isSome = true ∨ periodic (sTicks 1) s.saf.readBackAt s.now = true →
    s.saf.path1Fault = false → (∀ u : UnitId, s.units[u].gate = false) → exec (.path1ReadbackPulse false true) s =
      .next (settle s (stand 181 evPathReadback (raise 181 evPathReadback 0 0
        (s.modSaf fun f => { f with readBackAt := some s.now, path1Fault := true }))))) ∧
  (∀ t s, s.chPowered 0 = true → s.saf.demandAt = some t → t + msTicks 2 ≤ s.now → s.saf.path2Fault = false →
    exec (.path1ReadbackPulse true false) s = .next (settle s (stand 181 evPathPath2 (raise 181 evPathPath2 0 0
      (s.modSaf fun f => { f with readBackAt := some s.now, path2Fault := true }))))) ∧
  (∀ s, s.chPowered 0 = true → s.ch1Failed = false → periodic (msTicks 10) (s.saf.ch[(0 : SafCh)]).checkedAt s.now = true →
    exec (.channel1SelfTest true) s = .next (settle s ((noteCheck 0 s).modSafCh 0 fun c => { c with selfOk := true })) ∧
    exec (.channel1SelfTest false) s = .next (settle s (stand 179 evCh1SelfTest (raise 179 evCh1SelfTest 0 0
      ((noteCheck 0 s).modSafCh 0 fun c => { c with selfOk := false }))))) ∧
  (∀ s, s.chJudges 1 = true → periodic (msTicks 100) (s.saf.ch[(1 : SafCh)]).checkedAt s.now = true →
    exec (.channel2SelfCheck true) s = .next (settle s (unstand 180 evCh2SelfCheck ((noteCheck 1 s).modSafCh 1 fun c => { c with selfOk := true }))) ∧
    (evCh2SelfCheck.code ∉ (s.events.src[(180 : SourceId)]).standing → exec (.channel2SelfCheck false) s =
      .next (settle s (stand 180 evCh2SelfCheck (raise 180 evCh2SelfCheck 0 0 ((noteCheck 1 s).modSafCh 1 fun c =>
        { c with selfOk := false })))))) ∧
  (∀ (o : SoId) (c : SafCh) f s, s.chJudges c = true → s.supplyPulses o c = true →
    (∀ i : Fin 6, (s.saf.ch[c]).inputs[i] = true → f.getLsbD i.val = decide (i.val % 2 = o.val)) →
    exec (.supplyPulseTest o c f) s = .next (settle s (s.modSafCh c fun y => { y with supAt := upd y.supAt o fun _ => some s.now }))) ∧
  (∀ (o : SoId) (c : SafCh) f t s, s.chJudges c = true → s.supplyPulses o c = true →
    (s.saf.ch[c]).inputs[(0 : Fin 6)] = true →
    f.getLsbD 0 ≠ decide (o.val = 0) → (s.saf.ch[c]).discFault[(0 : Fin 2)] = false → t = latchDisc c .inh s →
    (∀ i : Fin 6, 2 ≤ i.val → (s.saf.ch[c]).inputs[i] = false) → exec (.supplyPulseTest o c f) s =
      .next (settle s (t.modSafCh c fun y => { y with supAt := upd y.supAt o fun _ => some s.now }))) ∧
  (∀ b ma n s, s.dchOn = true → b = true ∨ (750 < ma ∧ msTicks 10 ≤ n) → exec (.dchOverload b ma n) s = .next (settle s (s.modSaf fun f => { f with dchOver := some s.now }))) ∧
  (∀ n b s, s.saf.dchOver = some n → n + sTicks 1 ≤ s.now → exec (.dchRetry b) s =
    .next (settle s (s.modSaf fun f => { f with dchOver := if b then some s.now else none }))) ∧
  (∀ ma n s, s.cdrvOn = true → 1500 < ma → msTicks 10 ≤ n → exec (.cdrvOverload ma n) s = .next (settle s { s with cdrvOff := true })) ∧
  (∀ t s, bitAt s.power.domOn 8 = false → s.awake = true → s.power.cRun = true →
    t = channelPowerUp 1 (wireAbsent (s.modPower fun p => { p with domOn := p.domOn ||| 0x100, powerGood := true })) →
    exec .cdSafRestarted s = .next (settle s (raise 184 evCdieSafRestarted 0 0 (unstand 180 evCh2SelfCheck
      (unstand 181 evPathNotFollowed (t.modSaf fun f => { f with ch2NotFollowed := false }))))))

/-! ## Power, clocks and resets -/

/-- R519 to R521: the input supply: low, lost, returned within the hold-up or after the power fail, its low cleared; the power fail and the
end of the store.
The model's choices in it: log entries 16, 62, 64, 113. -/
def Obligations.SupplyStepsComplete : Prop :=
  (∀ mv s, s.power.low = false → s.power.lost = false → mv < 16800 → s.awake = true → exec (.inputLow mv) s =
    .next (settle s (raise 182 evSupplyLow 0 0 (s.modPower fun p => { p with low := true, vbat := vbatOf mv })))) ∧
  (∀ mv s, s.power.low = true → s.power.lost = false → 16800 ≤ mv →
    exec (.inputLowCleared mv) s = .next (s.modPower fun p => { p with low := false, vbat := vbatOf mv })) ∧
  (∃ a b, 13200 ≤ a ∧ a ≤ 14000 ∧ 15500 ≤ b ∧ b ≤ 16500 ∧
    (∀ mv mj s, s.power.lost = false → mv < a → exec (.inputLoss mv mj) s = .next (s.modPower fun p =>
      { p with lost := true, low := true, lostAt := s.now, vbat := vbatOf mv, store := BitVec.ofNat 8 (Config.storeCharge mj % 101) })) ∧
    (∀ mv mj s, s.power.lost = false → a ≤ mv → exec (.inputLoss mv mj) s = .next s) ∧
    (∀ mv mj s, s.power.lost = true → mv < b → exec (.inputReturn mv mj) s = .next s) ∧
    (∀ mv mj t u s, s.power.lost = true → b ≤ mv →
      t = s.modPower (fun p => { p with
        lost := false, low := decide (mv < 16800), vbat := vbatOf mv, store := BitVec.ofNat 8 (Config.storeCharge mj % 101) }) →
      u = (if mv < 16800 then raise 182 evSupplyLow 0 0 t else t) →
      (s.power.failed = false → s.now ≤ s.power.lostAt + msTicks 10 → exec (.inputReturn mv mj) s =
        .next (settle s (raise 182 evSupplyRidden (BitVec.ofNat 32 ((s.now - s.power.lostAt) / 400)) 0
          (u.modPower fun p => { p with ridden := satInc p.ridden })))) ∧
      (s.power.failed = true → exec (.inputReturn mv mj) s =
        .next (settle s (unstand 182 evSupplyPowerFail (u.modPower fun p => { p with failed := false })))))) ∧
  (∀ mj s, s.power.lost = true → s.power.failed = false → s.power.lostAt + msTicks 10 ≤ s.now ∨ mj ≤ 60 →
    exec (.powerFail mj) s = .next (settle s (powerFail (s.modPower fun p =>
      { p with store := BitVec.ofNat 8 (Config.storeCharge mj % 101) })))) ∧
  (∀ s, s.power.lost = true → s.power.failed = true → s.power.dev ≠ .stabled → exec (.storeAoReserve 0) s =
    .next (settle s (goStabled (s.modPower fun p =>
      { p with failStabled := true, store := BitVec.ofNat 8 (Config.storeCharge 0 % 101) }))))

/-- R517, R525, R526, R544: a power domain lost and its restarts; the MEMS reference lost and recovered; a PLL's lock lost; the AO clock
measured; the module's temperature.
The model's choices in it: log entries 57, 58, 60, 61, 114. -/
def Obligations.DomainAndClockStepsComplete : Prop :=
  (∀ d s, bitAt s.power.domOn d.no = true → exec (.domainRegulationLoss d) s = .next (settle s (domainLost d s))) ∧
  (∀ s, bitAt s.power.domOn 3 = false → s.reached (rampTicks + 1) = true →
    s.power.sealed = false ∨ s.rb rPwrDomCfg 0 = false → exec .pdNetRestarted s =
    .next (settle s (raise 183 evPdieNetRestarted 0 0 (netUp (s.modPower fun p => { p with domOn := p.domOn ||| 8 }))))) ∧
  (∀ t s, s.power.isoLostAt = some t → t + msTicks 10 ≤ s.now → exec .pdIsoRestart s =
    .next (settle s (unstand 183 evPdieIsoLost (s.modPower fun p => { p with isoLostAt := none, domOn := p.domOn ||| 0x10 })))) ∧
  (∀ n (d : Int) s, s.power.memsOk = true → 200 ≤ n ∨ 300 < d.natAbs → exec (.memsReferenceLost n d) s = .next (settle s (cDieDown (pDieDown
    (stand 185 evClockMemsLost (raiseNow 185 evClockMemsLost (s.modPower fun p => { p with memsOk := false, memsHeld := true }))))))) ∧
  (∀ us s, s.power.memsHeld = true → 10000 ≤ us → exec (.memsReferenceRecovered us) s =
    .next (settle s (unstand 185 evClockMemsLost (s.modPower fun p => { p with memsOk := true, memsHeld := false })))) ∧
  (∀ s : State,
    (s.power.pLock = true → ∃ d, exec (.pllLockLost .pDie) s =
      .next (settle s (pDieDown ((raise 185 evClockPllLost d 0 s.fresh.2).modPower fun q => { q with pLock := false })))) ∧
    (s.power.cLock = true → ∃ d, exec (.pllLockLost .cDie) s =
      .next (settle s (cDieDown ((raise 185 evClockPllLost d 0 s.fresh.2).modPower fun q => { q with cLock := false })))) ∧
    (s.power.mLock = true → ∃ d, exec (.pllLockLost .memory) s =
      .next (settle s (cDieDown ((raise 185 evClockPllLost d 0 s.fresh.2).modPower fun q => { q with mLock := false }))))) ∧
  (∀ err t s, s.power.pRun = true → s.power.memsOk = true → periodic (sTicks 1) s.power.aoMeasuredAt s.now = true →
    t = s.modPower (fun p => { p with aoErr := err, aoMeasuredAt := some s.now }) →
    (err.toInt.natAbs ≤ 300 → exec (.aoClockMeasure err) s = .next t) ∧
    (300 < err.toInt.natAbs → exec (.aoClockMeasure err) s = .next (settle s (raise 186 evAoDeviation 0 0 t)))) ∧
  (∀ temp w o s, s.awake = true → s.power.pRun = true →
    w = tempStep 187 evTempWarning temp.toInt (4 * s.rf rPwrTemp 16 8 : Nat) s.power.tempWarned s →
    o = tempStep 187 evTempOver temp.toInt 420 s.power.tempOver w.2 → exec (.moduleTemperature temp) s =
      .next (settle s (o.2.modPower fun p => { p with temp := temp, tempWarned := w.1, tempOver := o.1 })))

/-- R32, R404, R533, R535, R538, R539: the resets: power-on, the warm resets of the dies and their ends, the C-die's after a millisecond in
die safe state, the waking, the memory's end of initialisation.
The model's choices in it: log entries 5, 56, 57, 59, 63, 106, 115, 138. -/
def Obligations.ResetStepsComplete : Prop :=
  (∀ s, exec .powerOnReset s = .next (settle s (powerOn s))) ∧
  (∀ s, exec .cDieWarmReset s = .next (settle s (cDieDown s))) ∧
  (∀ s, exec .pDieWarmReset s = .next (settle s (pDieDown s))) ∧
  (∀ s, s.power.cRun = false → s.reached (cUpTicks + 1) = true → s.power.memsHeld = false → exec .cDieResetEnd s = .next (settle s (cDieUp s))) ∧
  (∀ s, s.power.pRun = false → s.reached (pUpTicks + 1) = true → s.power.memsHeld = false → exec .pDieResetEnd s = .next (settle s (pDieUp s))) ∧
  (∀ t s, s.power.cSafe = some t → s.rb rPwrDomCfg 1 = true → t + msTicks 1 ≤ s.now → exec .autoCDieReset s = .next (settle s (cDieDown s))) ∧
  (∀ c n mv s, s.wakes c n mv = true → exec (.wake c n mv) s = .next (settle s (wakeUp 1 c.bits s))) ∧
  (∀ s, s.awake = true → exec .memInitComplete s =
    .next ({ s with initLines := [] }.modPower fun p => { p with memInit := true }))

/-- R32, R352, R357, R359, R537 to R539: what the resets keep. The C-die's and the P-die's warm reset keep the generations of probes and sessions, each
acknowledged entry of the journal with its ASN, the next ASN where no acceptance was unacknowledged, and the context table but for the contexts' ASN
words; the P-die's also EVT_SEQ. With the end of its reset a die's registers have the Seal record's words, the other registers their own, and the Seal
record stays. STABLED, and the wake from it, keep only AO's contents: the next ASN, EVT_SEQ, the generations, the wake registers, and the ASN words
of regions and time; the other registers are at their reset words, journal, memory and Seal record are empty. Power-on leaves none of it.
The model's choices in it: log entries 106, 115, 138. -/
def Obligations.ResetsKeep : Prop :=
  (∀ s t, t = cDieDown s ∨ t = pDieDown s →
    (∀ n : SessId, t.sessions[n].gen = s.sessions[n].gen) ∧ (∀ n : Fin 16, t.loop.probes[n].gen = s.loop.probes[n].gen) ∧
    (∀ e ∈ s.rings.journal, e.slot ∉ s.rings.unacked → ∃ x ∈ t.rings.journal, x.slot = e.slot ∧ x.asn = e.asn) ∧
    (s.rings.unacked = [] → t.rings.nextAsn = s.rings.nextAsn) ∧ t.regs = s.regs ∧ t.sealRecord = s.sealRecord ∧
    (t = pDieDown s → t.events.seq = s.events.seq) ∧
    (Memory.wf s.mem = true → (∀ w ∈ s.arb.capBuf, 0x80000 ≤ w.1) → (∀ n : SessId, 0x80000 ≤ s.sessions[n].bufAddr) →
      ∀ a, a < 0x80000 → ctxWordByte a = false → t.byte a = s.byte a)) ∧
  (∀ s off, RegsSound s → (cDieUp s).sealRecord = s.sealRecord ∧
    (cDieUp s).reg off = if dieRegister .c off then look resetWord s.sealRecord off else s.reg off) ∧
  (∀ s off, RegsSound s → (pDieUp s).sealRecord = s.sealRecord ∧ (pDieUp s).mem = s.mem ∧
    (pDieUp s).reg off = if dieRegister .p off then look resetWord s.sealRecord off else s.reg off) ∧
  (∀ s t, t = goStabled s ∨ (∃ l c, t = wakeUp l c s) →
    t.rings.nextAsn = s.rings.nextAsn ∧ t.rings.journal = [] ∧ t.mem = [] ∧ t.sealRecord = [] ∧ t.events.seq = s.events.seq ∧
    (∀ n : SessId, t.sessions[n].gen = s.sessions[n].gen) ∧ (∀ n : Fin 16, t.loop.probes[n].gen = s.loop.probes[n].gen) ∧
    (∀ n : WeirId, t.weirs[n].gen = s.weirs[n].gen) ∧ t.rings.regionWords = s.rings.regionWords ∧ t.rings.timeWords = s.rings.timeWords ∧
    (∀ off, t.reg off = if aoRegister off then s.reg off else resetWord off)) ∧
  (∀ s, (powerOn s).regs = [] ∧ (powerOn s).sealRecord = [] ∧ (powerOn s).mem = [] ∧ (powerOn s).rings = State.reset.rings ∧
    (powerOn s).sessions = State.reset.sessions ∧ (powerOn s).loop = State.reset.loop ∧ (powerOn s).events = State.reset.events)

/-! ## The step, the queue, the operands -/

/-- A step takes the command at the front of the queue and runs exec on it with the queue's rest. -/
def Obligations.StepRunsFront : Prop :=
  ∀ c rest s, s.pending = c :: rest → step s = exec c { s with pending := rest }

/-- The model's choice (log entries 2, 115): with no command waiting, a step lets one tick of 2.5 ns pass (R4): the module's time base and its
counters advance, posted journal entries are freed, what the capture writer holds goes to memory unless a refresh has it (R495), and nothing
else changes, but that in WAKING each tick carries on the start-up, whose steps end 40 ms after the wake in SETUP once both dies run and
Millrace is trained (R528, R534, R540). -/
def Obligations.EmptyQueueTicks : Prop :=
  ∀ s t u, s.pending = [] → t = { s with
    rings := if s.pReach then s.rings.freePosted else s.rings
    now := s.now + 1
    time := { s.time.aoTick (s.now + 1) with
      count := if s.counterRuns then s.time.count + 1 else s.time.count
      cCount := s.time.cCount + 1 } } → u = (if t.refreshing then t else flushCapture t) →
  (s.power.dev ≠ .waking → step s = .next (settle s u)) ∧
  (s.power.dev = .waking → step s = .next (settle s (startUp u))) ∧
  (s.power.dev = .waking → s.power.wakeAt + 16000000 ≤ s.now + 1 → s.power.pRun = true → s.power.cRun = true → s.linkUp = true →
    (startUp u).power.dev = .setup)

/-- The model's choice (log entry 4): every command, whatever its operands and whatever the state, ends in a next state; none ends in a fault
or a refusal, and so does no step. -/
def Obligations.EveryStepCompletes : Prop :=
  (∀ (c : Instr) s, ∃ t, exec c s = .next t) ∧ (∀ s, ∃ t, step s = .next t)

/-- The model's choice (log entry 4): operands that no sender sends have an effect too: a write of one word at an unaligned offset covers no
register whole and changes nothing, one of two words at such an offset writes the one register that it covers whole; an image of another
length ends like one that could not be read; a frame of any length arrives on a port with a link, and nowhere else. -/
def Obligations.OddOperandsComplete : Prop :=
  (∀ off (v : BitVec 64) size s, off % 4 ≠ 0 → size ≤ 4 → exec (.registerWrite off v size) s = .next s) ∧
  (∀ off (v : BitVec 64) s, off % 4 ≠ 0 → exec (.registerWrite off v 8) s =
    exec (.registerWrite (off + (4 - off % 4)) (v >>> (8 * (4 - off % 4))) 4) s) ∧
  (∀ l s, wfImage (some l) = false → exec (.imageLoadDone (some l)) s = exec (.imageLoadDone none) s) ∧
  (∀ (p : PortId) l ok s, s.linkOf p = true → exec (.frameReceive p l ok) s = .next (settle s (frameReceive p l ok s))) ∧
  (∀ (p : PortId) l ok s, s.linkOf p = false → exec (.frameReceive p l ok) s = .next s)

/-- A command changes everything but the queue: whatever it does, the commands that wait stay as they were. -/
def Obligations.ExecKeepsQueue : Prop :=
  ∀ (c : Instr) s t, exec c s = .next t → t.pending = s.pending

/-! ## Registers -/

/-- Right after reset (R538, R570, R359): SETUP, not sealed, every region in OFF, every register at its reset word, the journal empty and
the next ASN 1, no command waiting, no gate on; the register words, the tables and the journal are sound (R8, R376).
The model's choices in it: log entries 1, 5. -/
def Obligations.ResetState : Prop :=
  State.reset.power.dev = .setup ∧ State.reset.power.sealed = false ∧ (∀ r : RegionId, State.reset.regions[r].phase = .off) ∧
  (∀ off, State.reset.reg off = resetWord off) ∧ State.reset.reg rSysDbPoll = 4 ∧ State.reset.reg (rSysSqCfg 1) = 0x18 ∧
  State.reset.reg (rEvtRecov 0) = 0x3C303E8 ∧ State.reset.rings.journal = [] ∧ State.reset.rings.nextAsn = 1 ∧
  State.reset.pending = [] ∧ PackageSafe State.reset ∧ RegsSound State.reset ∧ TablesSound State.reset ∧ JournalSound State.reset ∧
  HeldUnitsOff State.reset

/-- Every step keeps the register words and the Seal record sound: whatever a command writes, no bit that R6 and R8 do not let be written
is ever stored, and the words keep their canonical form. Every step keeps package memory and the symbol errors of memory and journal in canonical
form (R376). -/
def Obligations.StepKeepsRegsSound : Prop :=
  (∀ s t, RegsSound s → step s = .next t → RegsSound t) ∧ (∀ s t, TablesSound s → step s = .next t → TablesSound t)

/-- R359, R360, R362, R366, R372: every step keeps the journal sound: slots stay pairwise different, and no work, no finished command, nothing to
be posted and no acceptance still to be acknowledged names a slot without its command; where the ASNs of the entries differ and the next ASN is
none of theirs, they still differ after the step. -/
def Obligations.StepKeepsJournalSound : Prop :=
  (∀ s t, JournalSound s → step s = .next t → JournalSound t) ∧
  (∀ s t, JournalSound s → AsnsDiffer s → (∀ e ∈ s.rings.journal, e.asn ≠ s.rings.nextAsn) → step s = .next t → AsnsDiffer t)

/-- R6, R7: a 32-bit host write of a register word before the Seal stores the RW and the RWS bits of the value written, within their limits; one
after the Seal stores the RW bits and leaves every RWS field of that word at its value, whatever is written; no other word changes. The WARN event of
source 136 is raised when, and only when, the package is sealed and the value written to an RWS field differs from its present one. The word is one
with no behaviour of its own, and holds a value that it can hold. R434: a write to a register of a reserved source is ignored.
The model's choices in it: log entries 6. -/
def Obligations.SealedWriteKeepsSettings : Prop :=
  (∀ off (v : BitVec 64) r s, wfAccess off v 4 = true → off < 0x100000 → s.hostReaches = true → s.power.cRun = true →
  dieOf off = .c ∨ s.pReach = true →
  s.power.sealed = true → regRow off = some r → reservedReg off = false →
  (writers.findSome? fun w => instOf w.1 w.2.1 w.2.2.1 off) = none →
  tableWf resetWord s.regs = true → storedWord off (s.reg off) = s.reg off →
  ∃ u, exec (.registerWrite off v 4) s =
      .next (settle s (if (v.setWidth 32 ^^^ s.reg off) &&& r.rws = 0 then u else raise 136 evRingRwsWrite 0 0 u)) ∧
    u.reg off &&& r.rws = s.reg off &&& r.rws ∧ u.reg off &&& r.rw = storedWord off (v.setWidth 32) &&& r.rw ∧
    (∀ o, o ≠ off → u.reg o = s.reg o) ∧ (r.rw = 0 → u = s) ∧
    ∃ l l', u = { s with regs := l, sealRecord := l' } ∧
      (settle s (if (v.setWidth 32 ^^^ s.reg off) &&& r.rws = 0 then u else raise 136 evRingRwsWrite 0 0 u)).regs = l) ∧
  (∀ off (v : BitVec 64) r s, wfAccess off v 4 = true → off < 0x100000 → s.hostReaches = true → s.power.cRun = true →
    dieOf off = .c ∨ s.pReach = true → s.power.sealed = false → regRow off = some r →
    (writers.findSome? fun w => instOf w.1 w.2.1 w.2.2.1 off) = none → tableWf resetWord s.regs = true →
    ∃ u l, exec (.registerWrite off v 4) s = .next (settle s u) ∧ u = { s with regs := l } ∧ u.reg off = storedWord off (v.setWidth 32) ∧
      ∀ o, o ≠ off → u.reg o = s.reg o) ∧
  (∀ off (v : BitVec 64) r s, wfAccess off v 4 = true → off < 0x100000 → s.hostReaches = true → s.power.cRun = true → s.power.sealed = true →
    regRow off = some r → reservedReg off = true → (writers.findSome? fun w => instOf w.1 w.2.1 w.2.2.1 off) = none →
    storedWord off (s.reg off) = s.reg off → exec (.registerWrite off v 4) s = .next (settle s s))

/-- The frame of every other command: no register word changes, and the Seal record stays (R6, R539). -/
def Obligations.RegisterWordsKept : Prop :=
  ∀ (c : Instr) s t, mayWriteWords c = false → exec c s = .next t → t.regs = s.regs ∧ t.sealRecord = s.sealRecord

/-- R567, R568: a write narrower than 32 bits changes nothing; a 64-bit write is two 32-bit writes, the lower address first; an offset that
no register occupies reads 0, and a write to it has no effect. R354: BAR2 reads the MSI-X table at 0x0000 and the pending-bit array at 0x1000, and a
word written to the table is read back. While the C-die is in reset a read answers all ones, one of the P-die out of reach waits.
The model's choices in it: log entries 6. -/
def Obligations.NarrowWideAndEmptyAccesses : Prop :=
  (∀ off (v : BitVec 64) size s, wfAccess off v size = true → size = 1 ∨ size = 2 → exec (.registerWrite off v size) s = .next s) ∧
  (∀ off (v : BitVec 64) s, wfAccess off v 8 = true → ∃ t, exec (.registerWrite off (v &&& 0xFFFFFFFF) 4) s = .next t ∧
    exec (.registerWrite off v 8) s = exec (.registerWrite (off + 4) (v >>> 32) 4) t) ∧
  (∀ off (s : State), regRow off = none → (readers.findSome? fun r => instOf r.1 r.2.1 r.2.2.1 off) = none → s.readReg off = 0) ∧
  (∀ off v s, regRow off = none → (writers.findSome? fun w => instOf w.1 w.2.1 w.2.2.1 off) = none → regWrite off v s = s) ∧
  (∀ b (s : State), s.hostReaches = true → b < 0x200 → s.hostReads (bar2 + b) = some (s.msixWord (b / 4))) ∧
  (∀ s : State, s.hostReaches = true → s.hostReads (bar2 + 0x1000) = some s.host.msixPending) ∧
  (∀ k (v : BitVec 64) (s : State), k < 32 → s.hostReaches = true → tableWf msixReset s.host.msixTable = true →
    ∃ t, exec (.registerWrite (bar2 + 16 * k + 8) v 4) s = .next t ∧ t.msixWord (4 * k + 2) = v.setWidth 32) ∧
  (∀ off (s : State), off < bar2 → s.hostReaches = true → (s.power.cRun = false → s.hostReads off = some 0xFFFFFFFF) ∧
    (s.power.cRun = true → s.hostReads off = if dieOf off = .c ∨ s.pReach = true then some (s.readReg off) else none)) ∧
  (∀ off (s : State), s.hostReaches = false → s.hostReads off = none)

/-- R114: a write of LE_LANES_x that would put a lane into two region masks completes, the register keeps its value, and the Loop Engine's
source raises a WARN event. R572: VERIFY written after the Seal starts no check: only the event of an RWS write after the Seal is raised;
and a write of LE_UCODE_DATA then leaves the code store as it is. R144: PROBE_STOP of a probe number whose present generation is another completes
with STATE, and no probe changes. R530: REGION_MODE in SAFE completes with STATE. -/
def Obligations.RefusedChangesNothing : Prop :=
  (∀ (r : RegionId) (v : BitVec 64) s, wfAccess (rLeLanes r) v 4 = true → s.hostReaches = true → s.power.cRun = true →
    s.power.sealed = false → s.laneTaken r (v.setWidth 32) = true →
    ∃ t, exec (.registerWrite (rLeLanes r) v 4) s = .next t ∧ t = settle s (raise 121 evLeLaneRefused (BitVec.ofNat 32 r.val) 0 s) ∧
      t.regs = s.regs ∧ evLeLaneRefused.sev = .warn) ∧
  (∀ v s, s.hostReaches = true → s.power.cRun = true → s.power.sealed = true →
    (v.getLsbD 0 = true → exec (.verify v) s = .next (settle s (raise 136 evRingRwsWrite 0 0 s))) ∧
    ∃ t, exec (.leUcodeDataWrite v) s = .next t ∧ t.loop.code = s.loop.code) ∧
  (∀ k s, s.mayApply k 0x14 = true → (s.loop.probes[dByte (s.desc k) 16 % 16]'(Nat.mod_lt _ (by decide))).gen.toNat ≠ dByte (s.desc k) 16 / 16 →
    ∃ t, exec (.probeStop k) s = .next t ∧ t = settle s (finishFail k stState 0 s) ∧ t.loop.probes = s.loop.probes) ∧
  (∀ k s r p, s.mayApply k 0x05 = true → s.power.dev = .safe → regionNo (leAt (s.desc k) 16 1) = some r →
    phaseOf (leAt (s.desc k) 17 1) = some p → exec (.regionMode k) s = .next (settle s (finishFail k stState 0 s)))

/-! ## Completion of commands -/

/-- R348, R358, R361, R363: a command that finishes leaves its journal entry APPLIED with its status, detail and result and hands it on to
be posted; where it took effect, its outcome record stands in package memory; the entries of other slots keep all but their mark of
having been overtaken.
The model's choices in it: log entries 7. -/
def Obligations.FinishRecordsOutcome : Prop :=
  ∀ (k : Slot) st d (r : Word64) b e s, s.entry k = some e → s.power.cRun = true →
  (∃ x, (finish k st d r b s).entry k = some x ∧ x.state = .applied ∧ x.status = (s.lateStatus k st d).1 ∧
    x.detail = (s.lateStatus k st d).2 ∧ x.result = r ∧ x.asn = e.asn ∧ x.cq = e.cq ∧ x.cqIdx = e.cqIdx) ∧
  (finish k st d r b s).rings.finished = s.rings.finished ++ [k] ∧
  (∀ (j : Slot) x, j ≠ k → s.entry j = some x → ∃ o, (finish k st d r b s).entry j = some { x with ooo := o }) ∧
  (b = true → Memory.wf s.mem = true → ∀ i (h : i < (outcomeRecord e.asn (s.lateStatus k st d).1 (s.lateStatus k st d).2 r).length),
    (finish k st d r b s).byte (outcomeAddr k + i) = (outcomeRecord e.asn (s.lateStatus k st d).1 (s.lateStatus k st d).2 r)[i]) ∧
  (b = false → (finish k st d r b s).mem = s.mem)

/-- R501: each requester that loses an arbitrated slot backs off for 1 slot after the first loss since its last win, for twice as many after
each further one, at most 64; a win resets the sequence; a requester in back-off does not request, and the slots it sits out are no losses.
PTR moves past the winner's index (R499). -/
def Obligations.LosersBackOff : Prop :=
  ∀ (a : Arb) (q : BitVec 5) now (w : Fin 5), a.winner (a.requesters q) = some w →
  (a.arbitrate q now).ptr = ((a.active.order[w]).toNat + 1) % 5 ∧ (a.arbitrate q now).losses[w] = 0 ∧
  (∀ i : Fin 5, i ≠ w → bitAt q i.val = true → a.backoff[i] = 0 →
    (a.arbitrate q now).losses[i] = a.losses[i] + 1 ∧ (a.arbitrate q now).backoff[i] = min 64 (2 ^ a.losses[i])) ∧
  (∀ i : Fin 5, a.backoff[i] ≠ 0 → i ∉ a.requesters q ∧ (a.arbitrate q now).losses[i] = a.losses[i] ∧
    (a.arbitrate q now).backoff[i] = a.backoff[i] - 1)

/-! ## What holds after every happening -/

/-- The frame of `settle`, which brings about what a change of holds entails: time, the registers, the host link, conversion, the chains, the
ports, the time unit, the arbiter and Millrace stay as they were, and the Loop Engine but for its count of the times at which a unit of a
region has changed state (R152), which goes up by 1 where one has; where no running region has a commit waiting, so do package memory, the
capture sessions and the Weirs: a region stopped in SAFE ends its waiting commits, which records their outcomes (R361, R579).
The model's choices in it: log entries 24. -/
def Obligations.SettleFrame : Prop :=
  ∀ s0 s, let t := settle s0 s
    t.pending = s.pending ∧ t.now = s.now ∧ t.free = s.free ∧ t.regs = s.regs ∧ t.sealRecord = s.sealRecord ∧ t.host = s.host ∧ t.loop = { s.loop with switched := t.loop.switched } ∧
    (∀ r : RegionId, t.loop.switched[r] = s.loop.switched[r] +
      (if (∃ u : UnitId, t.units[u].gate ≠ s0.units[u].gate ∧ s.regionOf (islandOf u) = some r) then 1 else 0)) ∧ t.dutyIn = s.dutyIn ∧ t.banks = s.banks ∧ t.channels = s.channels ∧
    t.chains = s.chains ∧ t.net = s.net ∧ t.time = s.time ∧ t.arb = s.arb ∧ t.mrP = s.mrP ∧ t.mrC = s.mrC ∧ t.linkUp = s.linkUp ∧
    ((∀ r : RegionId, s.regions[r].phase = .off ∨ s.regions[r].commits = []) →
      t.mem = s.mem ∧ t.memErr = s.memErr ∧ t.initLines = s.initLines ∧ t.sessions = s.sessions ∧ t.weirs = s.weirs)

/-- R199, R210, R213, R220, R250: every step keeps it, and what settles any change brings it about, that each unit that a trip, a reaction, a
region hold, phase OFF, UVLO, the hold of its island or its DRIVE mode keeps off has its gate off, and each whose command a hold of the P-die or an
unready island ends has no command and no edge of the period left to make.
The model's choices in it: log entries 24, 88, 122. -/
def Obligations.HeldUnitsAreOff : Prop :=
  (∀ s t, HeldUnitsOff s → step s = .next t → HeldUnitsOff t) ∧ (∀ s0 s, HeldUnitsOff (settle s0 s))

/-- R34, R35: every step keeps it, and what settles any change brings it about, that while the P-die is in reset the outputs of package safe state
have their safe value: every unit off, SO_A and SO_B de-energised, the contactor drive off, discharge requested; so also right after a P-die warm
reset and after power-on.
The model's choices in it: log entries 24. -/
def Obligations.PDieDownIsPackageSafe : Prop :=
  (∀ s t, (s.power.pRun = false → PackageSafe s) → step s = .next t → t.power.pRun = false → PackageSafe t) ∧
  (∀ s0 s, (settle s0 s).power.pRun = false → PackageSafe (settle s0 s)) ∧
  (∀ s, s.awake = true → ∃ t, exec .pDieWarmReset s = .next t ∧ t.power.pRun = false ∧ PackageSafe t) ∧
  (∀ s, ∃ t, exec .powerOnReset s = .next t ∧ PackageSafe t)
end

