-- ==== Sys2Proof/Laws/Frame.lean ====
section
/-!
SUPPORT. The frame of a state: its queue, its register words and its Seal record. Only register writes, the Seal and
what powers a die up touch the last two; nothing but the step touches the first. One lemma per combinator.
-/
namespace Sys2Proof.Machine

open Sys2Proof

/-- The queue, the register words and the Seal record. -/
def State.frame (s : State) : List Instr × List (Nat × Word32) × List (Nat × Word32) := (s.pending, s.regs, s.sealRecord)

/-- If an outcome is a next state, its frame is `y`. -/
def keeps (y : List Instr × List (Nat × Word32) × List (Nat × Word32)) (o : Host.Outcome State Fault Refusal) : Prop :=
  ∀ t, o = .next t → t.frame = y

variable {y : List Instr × List (Nat × Word32) × List (Nat × Word32)}

theorem fold_frame {s : State} (h : s.frame = y) : (s.pending, s.regs, s.sealRecord) = y := h

theorem mk_frame {x0 x1 x2 x3 x4 x5 x6 x7 x8 x9 x10 x11 x12 x13 x14 x15 x16 x17 x18 x19 x20 x21 x22 x23 x24 x25 x26 x27 x28 x29 x30 x31 x32 x33 x34 x35 x36 x37 x38 x39 x40 x41 x42} (h : (x0, x3, x4) = y) :
    (State.mk x0 x1 x2 x3 x4 x5 x6 x7 x8 x9 x10 x11 x12 x13 x14 x15 x16 x17 x18 x19 x20 x21 x22 x23 x24 x25 x26 x27 x28 x29 x30 x31 x32 x33 x34 x35 x36 x37 x38 x39 x40 x41 x42).frame = y := h

theorem ite_frame {c : Prop} [Decidable c] {a b : State} (ha : a.frame = y) (hb : b.frame = y) : (if c then a else b).frame = y := by
  by_cases hc : c
  · rw [if_pos hc]; exact ha
  · rw [if_neg hc]; exact hb

theorem ite_pframe {β : Type} {c : Prop} [Decidable c] {a b : β × State} (ha : a.2.frame = y) (hb : b.2.frame = y) :
    (if c then a else b).2.frame = y := by
  by_cases hc : c
  · rw [if_pos hc]; exact ha
  · rw [if_neg hc]; exact hb

theorem ite_rframe {c : Prop} [Decidable c] {a b : RunRes} (ha : a.s.frame = y) (hb : b.s.frame = y) :
    (if c then a else b).s.frame = y := by
  by_cases hc : c
  · rw [if_pos hc]; exact ha
  · rw [if_neg hc]; exact hb

theorem let_rframe {α : Type} {v : α} {b : α → RunRes} (hb : ∀ x, (b x).s.frame = y) : (have x := v; b x).s.frame = y := hb v

theorem dite_frame {c : Prop} [Decidable c] {a : c → State} {b : ¬c → State} (ha : ∀ h, (a h).frame = y) (hb : ∀ h, (b h).frame = y) :
    (if h : c then a h else b h).frame = y := by
  by_cases hc : c
  · rw [dif_pos hc]; exact ha hc
  · rw [dif_neg hc]; exact hb hc

theorem ite_keeps {c : Prop} [Decidable c] {a b : Host.Outcome State Fault Refusal} (ha : keeps y a) (hb : keeps y b) :
    keeps y (if c then a else b) := by
  by_cases hc : c
  · rw [if_pos hc]; exact ha
  · rw [if_neg hc]; exact hb

theorem next_keeps {s : State} (h : s.frame = y) : keeps y (.next s) := by
  intro t ht
  cases ht
  exact h

theorem refused_keeps {r : Refusal} : keeps y (.refused r) := by
  intro t ht
  cases ht

theorem foldl_frame {α : Type} {f : State → α → State} (h : ∀ t x y, t.frame = y → (f t x).frame = y) :
    ∀ (l : List α) (s : State), s.frame = y → (l.foldl f s).frame = y
  | [], _, e => e
  | x :: l, s, e => by rw [List.foldl_cons]; exact foldl_frame h l _ (h s x _ e)

theorem forAll_frame {n : Nat} {f : Fin n → State → State} {s} (h : ∀ i t y, t.frame = y → (f i t).frame = y) (e : s.frame = y) :
    (forAll f s).frame = y := foldl_frame (fun t i y => h i t y) _ _ e

theorem forList_frame {α : Type} {f : α → State → State} {l s} (h : ∀ i t y, t.frame = y → (f i t).frame = y) (e : s.frame = y) :
    (forList f l s).frame = y := foldl_frame (fun t i y => h i t y) _ _ e

theorem eq_frame {β : Type} {a : β} {t : State} {e : β × State} (h : e = (a, t)) (he : e.2.frame = y) : t.frame = y := by
  subst h
  exact he

end Sys2Proof.Machine
end

