-- ==== Sys2Proof/Laws/FrameOps1.lean ====
section
/-!
SUPPORT. The frame of the operations of Ops, Trigger, Raise, MemProt, Journal, SafCore, Settle, Gate, CtxCore, Confluence, MrCore: each keeps the queue, the register words and the Seal record.
-/
namespace Sys2Proof.Machine

open Sys2Proof

variable {y : List Instr × List (Nat × Word32) × List (Nat × Word32)}

theorem store_frame : ∀ a0 a1 a2, a0.frame = y → (State.store a0 a1 a2).frame = y := by
  intros; unfold State.store
  with_reducible repeat' first | assumption | rfl | (apply mk_frame; apply fold_frame)

theorem fresh_frame : ∀ a0, a0.frame = y → (State.fresh a0).2.frame = y := by
  intros; unfold State.fresh
  with_reducible repeat' first | assumption | rfl | (apply mk_frame; apply fold_frame)

theorem freshN_frame : ∀ a0 a1, a1.frame = y → (State.freshN a0 a1).2.frame = y := by
  intro n s h
  induction n generalizing s with
  | zero => exact h
  | succ n ih => exact ih _ (fresh_frame _ h)

theorem modPower_frame : ∀ a0 a1, a0.frame = y → (State.modPower a0 a1).frame = y := by
  intros; unfold State.modPower
  with_reducible repeat' first | assumption | rfl | (apply mk_frame; apply fold_frame)

theorem modHost_frame : ∀ a0 a1, a0.frame = y → (State.modHost a0 a1).frame = y := by
  intros; unfold State.modHost
  with_reducible repeat' first | assumption | rfl | (apply mk_frame; apply fold_frame)

theorem modRings_frame : ∀ a0 a1, a0.frame = y → (State.modRings a0 a1).frame = y := by
  intros; unfold State.modRings
  with_reducible repeat' first | assumption | rfl | (apply mk_frame; apply fold_frame)

theorem modLoop_frame : ∀ a0 a1, a0.frame = y → (State.modLoop a0 a1).frame = y := by
  intros; unfold State.modLoop
  with_reducible repeat' first | assumption | rfl | (apply mk_frame; apply fold_frame)

theorem modNet_frame : ∀ a0 a1, a0.frame = y → (State.modNet a0 a1).frame = y := by
  intros; unfold State.modNet
  with_reducible repeat' first | assumption | rfl | (apply mk_frame; apply fold_frame)

theorem modTime_frame : ∀ a0 a1, a0.frame = y → (State.modTime a0 a1).frame = y := by
  intros; unfold State.modTime
  with_reducible repeat' first | assumption | rfl | (apply mk_frame; apply fold_frame)

theorem modPair_frame : ∀ a0 a1, a0.frame = y → (State.modPair a0 a1).frame = y := by
  intros; unfold State.modPair
  with_reducible repeat' first | assumption | rfl | (apply mk_frame; apply fold_frame)

theorem modSaf_frame : ∀ a0 a1, a0.frame = y → (State.modSaf a0 a1).frame = y := by
  intros; unfold State.modSaf
  with_reducible repeat' first | assumption | rfl | (apply mk_frame; apply fold_frame)

theorem modArb_frame : ∀ a0 a1, a0.frame = y → (State.modArb a0 a1).frame = y := by
  intros; unfold State.modArb
  with_reducible repeat' first | assumption | rfl | (apply mk_frame; apply fold_frame)

theorem modEvents_frame : ∀ a0 a1, a0.frame = y → (State.modEvents a0 a1).frame = y := by
  intros; unfold State.modEvents
  with_reducible repeat' first | assumption | rfl | (apply mk_frame; apply fold_frame)

theorem modRegion_frame : ∀ a0 a1 a2, a0.frame = y → (State.modRegion a0 a1 a2).frame = y := by
  intros; unfold State.modRegion
  with_reducible repeat' first | assumption | rfl | (apply mk_frame; apply fold_frame)

theorem modIsland_frame : ∀ a0 a1 a2, a0.frame = y → (State.modIsland a0 a1 a2).frame = y := by
  intros; unfold State.modIsland
  with_reducible repeat' first | assumption | rfl | (apply mk_frame; apply fold_frame)

theorem modUnit_frame : ∀ a0 a1 a2, a0.frame = y → (State.modUnit a0 a1 a2).frame = y := by
  intros; unfold State.modUnit
  with_reducible repeat' first | assumption | rfl | (apply mk_frame; apply fold_frame)

theorem modBank_frame : ∀ a0 a1 a2, a0.frame = y → (State.modBank a0 a1 a2).frame = y := by
  intros; unfold State.modBank
  with_reducible repeat' first | assumption | rfl | (apply mk_frame; apply fold_frame)

theorem modChan_frame : ∀ a0 a1 a2, a0.frame = y → (State.modChan a0 a1 a2).frame = y := by
  intros; unfold State.modChan
  with_reducible repeat' first | assumption | rfl | (apply mk_frame; apply fold_frame)

theorem modChain_frame : ∀ a0 a1 a2, a0.frame = y → (State.modChain a0 a1 a2).frame = y := by
  intros; unfold State.modChain
  with_reducible repeat' first | assumption | rfl | (apply mk_frame; apply fold_frame)

theorem modTrig_frame : ∀ a0 a1 a2, a0.frame = y → (State.modTrig a0 a1 a2).frame = y := by
  intros; unfold State.modTrig
  with_reducible repeat' first | assumption | rfl | (apply mk_frame; apply fold_frame)

theorem modSess_frame : ∀ a0 a1 a2, a0.frame = y → (State.modSess a0 a1 a2).frame = y := by
  intros; unfold State.modSess
  with_reducible repeat' first | assumption | rfl | (apply mk_frame; apply fold_frame)

theorem modWeir_frame : ∀ a0 a1 a2, a0.frame = y → (State.modWeir a0 a1 a2).frame = y := by
  intros; unfold State.modWeir
  with_reducible repeat' first | assumption | rfl | (apply mk_frame; apply fold_frame)

theorem modSrc_frame : ∀ a0 a1 a2, a0.frame = y → (State.modSrc a0 a1 a2).frame = y := by
  intros; unfold State.modSrc
  with_reducible repeat' first | assumption | rfl | apply modEvents_frame

theorem modSq_frame : ∀ a0 a1 a2, a0.frame = y → (State.modSq a0 a1 a2).frame = y := by
  intros; unfold State.modSq
  with_reducible repeat' first | assumption | rfl | apply modRings_frame

theorem modCq_frame : ∀ a0 a1 a2, a0.frame = y → (State.modCq a0 a1 a2).frame = y := by
  intros; unfold State.modCq
  with_reducible repeat' first | assumption | rfl | apply modRings_frame

theorem modPort_frame : ∀ a0 a1 a2, a0.frame = y → (State.modPort a0 a1 a2).frame = y := by
  intros; unfold State.modPort
  with_reducible repeat' first | assumption | rfl | apply modNet_frame

theorem modPairRegion_frame : ∀ a0 a1 a2, a0.frame = y → (State.modPairRegion a0 a1 a2).frame = y := by
  intros; unfold State.modPairRegion
  with_reducible repeat' first | assumption | rfl | apply modPair_frame

theorem modSafCh_frame : ∀ a0 a1 a2, a0.frame = y → (State.modSafCh a0 a1 a2).frame = y := by
  intros; unfold State.modSafCh
  with_reducible repeat' first | assumption | rfl | apply modSaf_frame

theorem modSo_frame : ∀ a0 a1 a2, a0.frame = y → (State.modSo a0 a1 a2).frame = y := by
  intros; unfold State.modSo
  with_reducible repeat' first | assumption | rfl | apply modSaf_frame

theorem modRt_frame : ∀ a0 a1 a2, a0.frame = y → (State.modRt a0 a1 a2).frame = y := by
  intros; unfold State.modRt
  with_reducible repeat' first | assumption | rfl | apply modLoop_frame

theorem modProbe_frame : ∀ a0 a1 a2, a0.frame = y → (State.modProbe a0 a1 a2).frame = y := by
  intros; unfold State.modProbe
  with_reducible repeat' first | assumption | rfl | apply modLoop_frame

theorem modMr_frame : ∀ a0 a1 a2, a0.frame = y → (State.modMr a0 a1 a2).frame = y := by
  intros; unfold State.modMr
  with_reducible repeat' first | assumption | rfl | split | intro _ | (apply mk_frame; apply fold_frame)

theorem closeDebug_frame : ∀ a0, a0.frame = y → (closeDebug a0).frame = y := by
  intros; unfold closeDebug
  with_reducible repeat' first | assumption | rfl | (extract_lets +onlyGivenNames q; (refine (fun (hq : q.frame = y) => ?_) ?_; (on_goal 1 => clear_value q); (on_goal 2 => subst q))) | apply modPower_frame | (apply mk_frame; apply fold_frame)

theorem trgTake_frame : ∀ a0 a1, a1.frame = y → (trgTake a0 a1).frame = y := by
  intros; unfold trgTake
  with_reducible repeat' first | assumption | rfl | (extract_lets +onlyGivenNames q; first | (refine (fun (hq : q.frame = y) => ?_) ?_; (on_goal 1 => clear_value q); (on_goal 2 => subst q)) | (refine (fun (hq : q.2.frame = y) => ?_) ?_; (on_goal 1 => clear_value q); (on_goal 2 => subst q)) | clear_value q) | apply ite_frame | apply modTrig_frame

theorem fireOne_frame : ∀ a0 a1 a2, a2.frame = y → (fireOne a0 a1 a2).frame = y := by
  intros; unfold fireOne
  with_reducible repeat' first | assumption | rfl | (extract_lets +onlyGivenNames q; clear_value q) | apply ite_frame | apply modTrig_frame | apply modEvents_frame

theorem trgStep_frame : ∀ a0 a1 a2, a2.frame = y → (trgStep a0 a1 a2).2.frame = y := by
  intros; unfold trgStep
  with_reducible repeat' first | assumption | rfl | (extract_lets +onlyGivenNames q; clear_value q) | apply ite_frame | apply ite_pframe | apply modTrig_frame | split

theorem combine_frame : ∀ a0 a1 a2 a3, a3.frame = y → (combine a0 a1 a2 a3).2.frame = y := by
  intros; unfold combine
  with_reducible repeat' first | assumption | rfl | (extract_lets +onlyGivenNames q; clear_value q) | apply ite_frame | apply ite_pframe | apply modTrig_frame | split

theorem fire_frame : ∀ a0 a1 a2 a3, a3.frame = y → (fire a0 a1 a2 a3).frame = y := by
  intro n
  induction n generalizing y with
  | zero => exact fun u tick s h => fireOne_frame _ _ _ h
  | succ n ih =>
    intro u tick s h
    unfold fire
    refine forList_frame (fun v t y h => ?_) (fireOne_frame _ _ _ h)
    refine ite_frame (forList_frame (fun k t y h => ?_) (combine_frame _ _ _ _ (trgTake_frame _ _ h))) h
    exact ite_frame (ih _ _ _ (trgStep_frame _ _ _ h)) (trgStep_frame _ _ _ h)

theorem trgEvent_frame : ∀ a0 a1 a2, a2.frame = y → (trgEvent a0 a1 a2).frame = y := by
  intros; unfold trgEvent
  with_reducible repeat' first | assumption | rfl | (extract_lets +onlyGivenNames q; first | (refine (fun (hq : q.2.frame = y) => ?_) ?_; (on_goal 1 => clear_value q); (on_goal 2 => subst q)) | clear_value q) | apply ite_frame | refine forList_frame (fun i t y h => ?_) ?_ | apply trgStep_frame | apply trgTake_frame | apply fire_frame

theorem noteTrigger_frame : ∀ a0 a1, a1.frame = y → (noteTrigger a0 a1).frame = y := by
  intros; unfold noteTrigger
  with_reducible repeat' first | assumption | rfl | (extract_lets +onlyGivenNames q; first | (refine (fun (hq : q.frame = y) => ?_) ?_; (on_goal 1 => clear_value q); (on_goal 2 => subst q)) | (refine (fun (hq : q.2.frame = y) => ?_) ?_; (on_goal 1 => clear_value q); (on_goal 2 => subst q)) | clear_value q) | apply ite_frame | apply trgEvent_frame

theorem pushEvent_frame : ∀ a0 a1, a1.frame = y → (pushEvent a0 a1).frame = y := by
  intros; unfold pushEvent
  with_reducible repeat' first | assumption | rfl | (extract_lets +onlyGivenNames q; first | (refine (fun (hq : q.frame = y) => ?_) ?_; (on_goal 1 => clear_value q); (on_goal 2 => subst q)) | clear_value q) | apply ite_frame | apply noteTrigger_frame | apply modSrc_frame | apply modEvents_frame

theorem applyEvent_frame : ∀ a0 a1, a1.frame = y → (applyEvent a0 a1).frame = y := by
  intros; unfold applyEvent
  with_reducible repeat' first | assumption | rfl | (extract_lets +onlyGivenNames q; clear_value q) | apply ite_frame | apply modEvents_frame | apply modPower_frame | apply pushEvent_frame | apply modSrc_frame

theorem reenter_frame : ∀ a0 a1, a1.frame = y → (reenter a0 a1).frame = y := by
  intros; unfold reenter
  with_reducible repeat' first | assumption | rfl | (extract_lets +onlyGivenNames q; clear_value q) | refine forList_frame (fun i t y h => ?_) ?_ | apply applyEvent_frame | apply modEvents_frame

theorem raiseFull_frame : ∀ a0 a1 a2 a3 a4 a5 a6, a6.frame = y → (raiseFull a0 a1 a2 a3 a4 a5 a6).frame = y := by
  intros; unfold raiseFull
  with_reducible repeat' first | assumption | rfl | (extract_lets +onlyGivenNames q; clear_value q) | apply ite_frame | apply applyEvent_frame | apply pushEvent_frame

theorem raise_frame : ∀ a0 a1 a2 a3 a4, a4.frame = y → (raise a0 a1 a2 a3 a4).frame = y := by
  intros; unfold raise
  with_reducible repeat' first | assumption | rfl | apply raiseFull_frame

theorem stand_frame : ∀ a0 a1 a2, a2.frame = y → (stand a0 a1 a2).frame = y := by
  intros; unfold stand
  with_reducible repeat' first | assumption | rfl | apply ite_frame | apply modSrc_frame

theorem unstand_frame : ∀ a0 a1 a2, a2.frame = y → (unstand a0 a1 a2).frame = y := by
  intros; unfold unstand
  with_reducible repeat' first | assumption | rfl | apply ite_frame | apply modSrc_frame

theorem openShadow_frame : ∀ a0 a1 a2 a3, a3.frame = y → (openShadow a0 a1 a2 a3).frame = y := by
  intros; unfold openShadow
  with_reducible repeat' first | assumption | rfl | (extract_lets +onlyGivenNames q; clear_value q) | apply ite_frame | apply modEvents_frame | split

theorem captureError_frame : ∀ a0 a1 a2 a3 a4 a5 a6, a6.frame = y → (captureError a0 a1 a2 a3 a4 a5 a6).frame = y := by
  intros; unfold captureError
  with_reducible repeat' first | assumption | rfl | (extract_lets +onlyGivenNames q; clear_value q) | apply ite_frame | apply modEvents_frame

theorem clearError_frame : ∀ a0 a1, a1.frame = y → (clearError a0 a1).frame = y := by
  intros; unfold clearError
  with_reducible repeat' first | assumption | rfl | apply modEvents_frame

theorem hostError_frame : ∀ a0 a1 a2 a3 a4, a4.frame = y → (hostError a0 a1 a2 a3 a4).frame = y := by
  intros; unfold hostError
  with_reducible repeat' first | assumption | rfl | (extract_lets +onlyGivenNames q; first | (refine (fun (hq : q.frame = y) => ?_) ?_; (on_goal 1 => clear_value q); (on_goal 2 => subst q)) | (refine (fun (hq : q.2.frame = y) => ?_) ?_; (on_goal 1 => clear_value q); (on_goal 2 => subst q)) | clear_value q) | apply ite_frame | apply raise_frame | apply captureError_frame

theorem readLine_frame : ∀ a0 a1 a2 a3 a4, a4.frame = y → (readLine a0 a1 a2 a3 a4).frame = y := by
  intros; unfold readLine
  with_reducible repeat' first | assumption | rfl | (extract_lets +onlyGivenNames q; first | (refine (fun (hq : q.frame = y) => ?_) ?_; (on_goal 1 => clear_value q); (on_goal 2 => subst q)) | clear_value q) | apply ite_frame | apply captureError_frame | apply raise_frame | (apply mk_frame; apply fold_frame)

theorem readMem_frame : ∀ a0 a1 a2 a3 a4, a4.frame = y → (readMem a0 a1 a2 a3 a4).2.frame = y := by
  intros; unfold readMem
  with_reducible repeat' first | assumption | rfl | (extract_lets +onlyGivenNames q; clear_value q) | refine forList_frame (fun i t y h => ?_) ?_ | apply readLine_frame

theorem forgetSlot_frame : ∀ a0 a1, a1.frame = y → (forgetSlot a0 a1).frame = y := by
  intros; unfold forgetSlot
  with_reducible repeat' first | assumption | rfl | (extract_lets +onlyGivenNames q; first | (refine (fun (hq : q.frame = y) => ?_) ?_; (on_goal 1 => clear_value q); (on_goal 2 => subst q)) | clear_value q) | apply ite_frame | apply modRings_frame | apply modHost_frame | apply modPair_frame | apply modNet_frame | apply modLoop_frame | split | intro _ | (apply mk_frame; apply fold_frame)

theorem readJournal_frame : ∀ a0 a1 a2 a3 a4, a4.frame = y → (readJournal a0 a1 a2 a3 a4).frame = y := by
  intros; unfold readJournal
  with_reducible repeat' first | assumption | rfl | (extract_lets +onlyGivenNames q; first | (refine (fun (hq : q.frame = y) => ?_) ?_; (on_goal 1 => clear_value q); (on_goal 2 => subst q)) | clear_value q) | apply ite_frame | apply captureError_frame | apply modRings_frame | apply raise_frame | apply forgetSlot_frame | (apply mk_frame; apply fold_frame)

theorem injected_frame : ∀ a0, a0.frame = y → (injected a0).frame = y := by
  intros; unfold injected
  with_reducible repeat' first | assumption | rfl | apply modEvents_frame

theorem injectLine_frame : ∀ a0 a1 a2, a2.frame = y → (injectLine a0 a1 a2).frame = y := by
  intros; unfold injectLine
  with_reducible repeat' first | assumption | rfl | (extract_lets +onlyGivenNames q; clear_value q) | apply ite_frame | apply injected_frame | (apply mk_frame; apply fold_frame)

theorem write_frame : ∀ a0 a1 a2 a3, a0.frame = y → (State.write a0 a1 a2 a3).frame = y := by
  intros; unfold State.write
  with_reducible repeat' first | assumption | rfl | (extract_lets +onlyGivenNames q; clear_value q) | refine forList_frame (fun i t y h => ?_) ?_ | apply injectLine_frame | apply store_frame | apply readLine_frame

theorem wroteJournal_frame : ∀ a0 a1, a1.frame = y → (wroteJournal a0 a1).frame = y := by
  intros; unfold wroteJournal
  with_reducible repeat' first | assumption | rfl | (extract_lets +onlyGivenNames q; first | (refine (fun (hq : q.frame = y) => ?_) ?_; (on_goal 1 => clear_value q); (on_goal 2 => subst q)) | clear_value q) | apply ite_frame | apply modRings_frame | apply injected_frame

theorem captureStore_frame : ∀ a0 a1 a2, a2.frame = y → (captureStore a0 a1 a2).frame = y := by
  intros; unfold captureStore
  with_reducible repeat' first | assumption | rfl | (extract_lets +onlyGivenNames q; first | (refine (fun (hq : q.frame = y) => ?_) ?_; (on_goal 1 => clear_value q); (on_goal 2 => subst q)) | (refine (fun (hq : q.2.frame = y) => ?_) ?_; (on_goal 1 => clear_value q); (on_goal 2 => subst q)) | clear_value q) | apply ite_frame | apply modArb_frame | apply write_frame

theorem flushCapture_frame : ∀ a0, a0.frame = y → (flushCapture a0).frame = y := by
  intros; unfold flushCapture
  with_reducible repeat' first | assumption | rfl | (extract_lets +onlyGivenNames q; first | (refine (fun (hq : q.frame = y) => ?_) ?_; (on_goal 1 => clear_value q); (on_goal 2 => subst q)) | (refine (fun (hq : q.2.frame = y) => ?_) ?_; (on_goal 1 => clear_value q); (on_goal 2 => subst q)) | clear_value q) | refine forList_frame (fun i t y h => ?_) ?_ | apply write_frame | apply modArb_frame

theorem modEntry_frame : ∀ a0 a1 a2, a2.frame = y → (modEntry a0 a1 a2).frame = y := by
  intros; unfold modEntry
  with_reducible repeat' first | assumption | rfl | (extract_lets +onlyGivenNames q; first | (refine (fun (hq : q.frame = y) => ?_) ?_; (on_goal 1 => clear_value q); (on_goal 2 => subst q)) | (refine (fun (hq : q.2.frame = y) => ?_) ?_; (on_goal 1 => clear_value q); (on_goal 2 => subst q)) | clear_value q) | apply ite_frame | apply wroteJournal_frame | apply modRings_frame

theorem modWork_frame : ∀ a0 a1 a2, a2.frame = y → (modWork a0 a1 a2).frame = y := by
  intros; unfold modWork
  with_reducible repeat' first | assumption | rfl | apply ite_frame | apply modRings_frame

theorem dropWork_frame : ∀ a0 a1, a1.frame = y → (dropWork a0 a1).frame = y := by
  intros; unfold dropWork
  with_reducible repeat' first | assumption | rfl | apply modRings_frame

theorem storeCtxWords_frame : ∀ a0 a1 a2, a2.frame = y → (storeCtxWords a0 a1 a2).frame = y := by
  intros; unfold storeCtxWords
  with_reducible repeat' first | assumption | rfl | (extract_lets +onlyGivenNames q; first | (refine (fun (hq : q.frame = y) => ?_) ?_; (on_goal 1 => clear_value q); (on_goal 2 => subst q)) | (refine (fun (hq : q.2.frame = y) => ?_) ?_; (on_goal 1 => clear_value q); (on_goal 2 => subst q)) | clear_value q) | apply write_frame

theorem recordTarget_frame : ∀ a0 a1, a1.frame = y → (recordTarget a0 a1).frame = y := by
  intros; unfold recordTarget
  with_reducible repeat' first | assumption | rfl | (extract_lets +onlyGivenNames q; clear_value q) | apply ite_frame | refine forList_frame (fun i t y h => ?_) ?_ | apply storeCtxWords_frame | apply modRings_frame | apply modSess_frame | apply modWeir_frame | apply modPairRegion_frame | apply dite_frame | intro _ | split

theorem markOvertaken_frame : ∀ a0 a1, a1.frame = y → (markOvertaken a0 a1).frame = y := by
  intros; unfold markOvertaken
  with_reducible repeat' first | assumption | rfl | (extract_lets +onlyGivenNames q; clear_value q) | apply ite_frame | refine foldl_frame (fun t i y h => ?_) _ _ ?_ | apply modRings_frame

theorem finish_frame : ∀ a0 a1 a2 a3 a4 a5, a5.frame = y → (finish a0 a1 a2 a3 a4 a5).frame = y := by
  intro k st d r f s h
  unfold finish
  split
  · exact h
  · extract_lets e p re record u v
    have hr : ∀ t : State, t.frame = y → (record t).frame = y := fun t ht => ite_frame (write_frame _ _ _ _ ht) ht
    have hu : u.frame = y := ite_frame (recordTarget_frame _ _ (hr _ (markOvertaken_frame _ _ h))) h
    have hv : v.frame = y := dropWork_frame _ _ (modEntry_frame _ _ _ hu)
    exact ite_frame (modRings_frame _ _ hv) hv

theorem finishOk_frame : ∀ a0 a1 a2, a2.frame = y → (finishOk a0 a1 a2).frame = y := by
  intros; unfold finishOk
  with_reducible repeat' first | assumption | rfl | apply finish_frame

theorem finishHeld_frame : ∀ a0 a1 a2 a3 a4 a5, a5.frame = y → (finishHeld a0 a1 a2 a3 a4 a5).frame = y := by
  intros; unfold finishHeld
  with_reducible repeat' first | assumption | rfl | (extract_lets +onlyGivenNames q; first | (refine (fun (hq : q.frame = y) => ?_) ?_; (on_goal 1 => clear_value q); (on_goal 2 => subst q)) | clear_value q) | apply ite_frame | apply finish_frame | apply modRings_frame

theorem finishFail_frame : ∀ a0 a1 a2 a3, a3.frame = y → (finishFail a0 a1 a2 a3).frame = y := by
  intros; unfold finishFail
  with_reducible repeat' first | assumption | rfl | apply finish_frame

theorem hostWrite_frame : ∀ a0 a1 a2, a2.frame = y → (hostWrite a0 a1 a2).frame = y := by
  intros; unfold hostWrite
  with_reducible repeat' first | assumption | rfl | apply ite_frame | apply modHost_frame

theorem hostRead_frame : ∀ a0 a1 a2, a2.frame = y → (hostRead a0 a1 a2).frame = y := by
  intros; unfold hostRead
  with_reducible repeat' first | assumption | rfl | apply modHost_frame

theorem fetchData_frame : ∀ a0 a1 a2, a2.frame = y → (fetchData a0 a1 a2).frame = y := by
  intros; unfold fetchData
  with_reducible repeat' first | assumption | rfl | (extract_lets +onlyGivenNames q; first | (refine (fun (hq : q.frame = y) => ?_) ?_; (on_goal 1 => clear_value q); (on_goal 2 => subst q)) | (refine (fun (hq : q.2.frame = y) => ?_) ?_; (on_goal 1 => clear_value q); (on_goal 2 => subst q)) | clear_value q) | apply ite_frame | apply hostRead_frame

theorem clearByRequest_frame : ∀ a0 a1, a1.frame = y → (clearByRequest a0 a1).frame = y := by
  intros; unfold clearByRequest
  with_reducible repeat' first | assumption | rfl | (extract_lets +onlyGivenNames q; first | (refine (fun (hq : q.frame = y) => ?_) ?_; (on_goal 1 => clear_value q); (on_goal 2 => subst q)) | clear_value q) | apply ite_frame | apply raise_frame | apply modSo_frame | apply unstand_frame

theorem noteOutput_frame : ∀ a0 a1, a1.frame = y → (noteOutput a0 a1).frame = y := by
  intros; unfold noteOutput
  with_reducible repeat' first | assumption | rfl | (extract_lets +onlyGivenNames q; clear_value q) | apply ite_frame | apply modSo_frame

theorem abandonTests_frame : ∀ a0, a0.frame = y → (abandonTests a0).frame = y := by
  intros; unfold abandonTests
  with_reducible repeat' first | assumption | rfl | (extract_lets +onlyGivenNames q; first | (refine (fun (hq : q.frame = y) => ?_) ?_; (on_goal 1 => clear_value q); (on_goal 2 => subst q)) | (refine (fun (hq : q.2.frame = y) => ?_) ?_; (on_goal 1 => clear_value q); (on_goal 2 => subst q)) | clear_value q) | apply ite_frame | refine forAll_frame (fun i t y h => ?_) ?_ | apply raise_frame | apply modSaf_frame | apply modSafCh_frame

theorem noteDemand_frame : ∀ a0, a0.frame = y → (noteDemand a0).frame = y := by
  intros; unfold noteDemand
  with_reducible repeat' first | assumption | rfl | (extract_lets +onlyGivenNames q; clear_value q) | apply ite_frame | apply modSaf_frame

theorem reportDemands_frame : ∀ a0, a0.frame = y → (reportDemands a0).frame = y := by
  intros; unfold reportDemands
  with_reducible repeat' first | assumption | rfl | (extract_lets +onlyGivenNames q; first | (refine (fun (hq : q.frame = y) => ?_) ?_; (on_goal 1 => clear_value q); (on_goal 2 => subst q)) | clear_value q) | apply ite_frame | apply modSaf_frame | apply raise_frame

theorem settlePath1_frame : ∀ a0, a0.frame = y → (settlePath1 a0).frame = y := by
  intros; unfold settlePath1
  with_reducible repeat' first | assumption | rfl | apply modSaf_frame

theorem settlePath2_frame : ∀ a0, a0.frame = y → (settlePath2 a0).frame = y := by
  intros; unfold settlePath2
  with_reducible repeat' first | assumption | rfl | apply ite_frame | apply modSaf_frame

theorem settleSwitches_frame : ∀ a0, a0.frame = y → (settleSwitches a0).frame = y := by
  intros; unfold settleSwitches
  with_reducible repeat' first | assumption | rfl | apply modSaf_frame

theorem settleSaf_frame : ∀ a0, a0.frame = y → (settleSaf a0).frame = y := by
  intros; unfold settleSaf
  with_reducible repeat' first | assumption | rfl | (extract_lets +onlyGivenNames q; first | (refine (fun (hq : q.frame = y) => ?_) ?_; (on_goal 1 => clear_value q); (on_goal 2 => subst q)) | clear_value q) | apply abandonTests_frame | apply clearByRequest_frame | apply noteDemand_frame | apply reportDemands_frame | apply noteOutput_frame | apply settleSwitches_frame | apply settlePath2_frame | apply settlePath1_frame

theorem unforce_frame : ∀ a0 a1, a1.frame = y → (unforce a0 a1).frame = y := by
  intros; unfold unforce
  with_reducible repeat' first | assumption | rfl | apply ite_frame | apply modSrc_frame

theorem clearForces_frame : ∀ a0, a0.frame = y → (clearForces a0).frame = y := by
  intros; unfold clearForces
  with_reducible repeat' first | assumption | rfl | (extract_lets +onlyGivenNames q; first | (refine (fun (hq : q.frame = y) => ?_) ?_; (on_goal 1 => clear_value q); (on_goal 2 => subst q)) | (refine (fun (hq : q.2.frame = y) => ?_) ?_; (on_goal 1 => clear_value q); (on_goal 2 => subst q)) | clear_value q) | refine forAll_frame (fun i t y h => ?_) ?_ | apply unforce_frame

theorem leaveTest_frame : ∀ a0 a1, a1.frame = y → (leaveTest a0 a1).frame = y := by
  intros; unfold leaveTest
  with_reducible repeat' first | assumption | rfl | (extract_lets +onlyGivenNames q; first | (refine (fun (hq : q.frame = y) => ?_) ?_; (on_goal 1 => clear_value q); (on_goal 2 => subst q)) | (refine (fun (hq : q.2.frame = y) => ?_) ?_; (on_goal 1 => clear_value q); (on_goal 2 => subst q)) | clear_value q) | apply ite_frame | refine forAll_frame (fun i t y h => ?_) ?_ | apply unforce_frame

theorem failSwap_frame : ∀ a0 a1, a1.frame = y → (failSwap a0 a1).frame = y := by
  intros; unfold failSwap
  with_reducible repeat' first | assumption | rfl | (extract_lets +onlyGivenNames q; first | (refine (fun (hq : q.frame = y) => ?_) ?_; (on_goal 1 => clear_value q); (on_goal 2 => subst q)) | (refine (fun (hq : q.2.frame = y) => ?_) ?_; (on_goal 1 => clear_value q); (on_goal 2 => subst q)) | clear_value q) | refine forAll_frame (fun i t y h => ?_) ?_ | apply finish_frame | apply modRegion_frame

theorem endSwap_frame : ∀ a0 a1 a2, a2.frame = y → (endSwap a0 a1 a2).frame = y := by
  intros; unfold endSwap
  with_reducible repeat' first | assumption | rfl | (extract_lets +onlyGivenNames q; first | (refine (fun (hq : q.frame = y) => ?_) ?_; (on_goal 1 => clear_value q); (on_goal 2 => subst q)) | clear_value q) | apply ite_frame | apply modRegion_frame | apply finishOk_frame

theorem stopSwap_frame : ∀ a0 a1 a2, a2.frame = y → (stopSwap a0 a1 a2).frame = y := by
  intros; unfold stopSwap
  with_reducible repeat' first | assumption | rfl | (extract_lets +onlyGivenNames q; first | (refine (fun (hq : q.frame = y) => ?_) ?_; (on_goal 1 => clear_value q); (on_goal 2 => subst q)) | (refine (fun (hq : q.2.frame = y) => ?_) ?_; (on_goal 1 => clear_value q); (on_goal 2 => subst q)) | clear_value q) | apply ite_frame | apply failSwap_frame | apply endSwap_frame

theorem stopRegion_frame : ∀ a0 a1, a1.frame = y → (stopRegion a0 a1).frame = y := by
  intros; unfold stopRegion
  with_reducible repeat' first | assumption | rfl | (extract_lets +onlyGivenNames q; first | (refine (fun (hq : q.frame = y) => ?_) ?_; (on_goal 1 => clear_value q); (on_goal 2 => subst q)) | clear_value q) | refine forList_frame (fun i t y h => ?_) ?_ | apply leaveTest_frame | apply finishHeld_frame | apply finish_frame | apply stopSwap_frame | apply modIsland_frame | apply modPairRegion_frame | apply modRegion_frame

theorem enterDev_frame : ∀ a0 a1, a1.frame = y → (enterDev a0 a1).frame = y := by
  intros; unfold enterDev
  with_reducible repeat' first | assumption | rfl | (extract_lets +onlyGivenNames q; first | (refine (fun (hq : q.frame = y) => ?_) ?_; (on_goal 1 => clear_value q); (on_goal 2 => subst q)) | clear_value q) | apply ite_frame | refine forAll_frame (fun i t y h => ?_) ?_ | apply closeDebug_frame | apply modPower_frame | apply clearForces_frame | apply stopRegion_frame

theorem settleDev_frame : ∀ a0, a0.frame = y → (settleDev a0).frame = y := by
  intros; unfold settleDev
  with_reducible repeat' first | assumption | rfl | (extract_lets +onlyGivenNames q; first | (refine (fun (hq : q.frame = y) => ?_) ?_; (on_goal 1 => clear_value q); (on_goal 2 => subst q)) | (refine (fun (hq : q.2.frame = y) => ?_) ?_; (on_goal 1 => clear_value q); (on_goal 2 => subst q)) | clear_value q) | apply ite_frame | apply enterDev_frame | split

theorem openWindows_frame : ∀ a0 a1 a2 a3, a3.frame = y → (openWindows a0 a1 a2 a3).frame = y := by
  intros; unfold openWindows
  with_reducible repeat' first | assumption | rfl | apply openShadow_frame | split

theorem settleRegion_frame : ∀ a0 a1 a2, a2.frame = y → (settleRegion a0 a1 a2).frame = y := by
  intros; unfold settleRegion
  with_reducible repeat' first | assumption | rfl | (extract_lets +onlyGivenNames q; first | (refine (fun (hq : q.frame = y) => ?_) ?_; (on_goal 1 => clear_value q); (on_goal 2 => subst q)) | clear_value q) | apply ite_frame | apply openWindows_frame | apply modSrc_frame | apply modRegion_frame

theorem settleIsland_frame : ∀ a0 a1 a2, a2.frame = y → (settleIsland a0 a1 a2).frame = y := by
  intros; unfold settleIsland
  with_reducible repeat' first | assumption | rfl | (extract_lets +onlyGivenNames q; first | (refine (fun (hq : q.frame = y) => ?_) ?_; (on_goal 1 => clear_value q); (on_goal 2 => subst q)) | clear_value q) | apply ite_frame | apply openWindows_frame | apply modIsland_frame

theorem dropCommand_frame : ∀ a0 a1, a1.frame = y → (dropCommand a0 a1).frame = y := by
  intros; unfold dropCommand
  with_reducible repeat' first | assumption | rfl | apply ite_frame | apply modUnit_frame

theorem settleUnit_frame : ∀ a0 a1, a1.frame = y → (settleUnit a0 a1).frame = y := by
  intros; unfold settleUnit
  with_reducible repeat' first | assumption | rfl | (extract_lets +onlyGivenNames q; first | (refine (fun (hq : q.frame = y) => ?_) ?_; (on_goal 1 => clear_value q); (on_goal 2 => subst q)) | clear_value q) | apply ite_frame | apply modUnit_frame | apply dropCommand_frame

theorem endStopped_frame : ∀ a0 a1, a1.frame = y → (endStopped a0 a1).frame = y := by
  intros; unfold endStopped
  with_reducible repeat' first | assumption | rfl | (extract_lets +onlyGivenNames q; clear_value q) | apply ite_frame | refine foldl_frame (fun t i y h => ?_) _ _ ?_ | apply modUnit_frame | apply modIsland_frame

theorem setGate_frame : ∀ a0 a1 a2, a2.frame = y → (setGate a0 a1 a2).frame = y := by
  intros; unfold setGate
  with_reducible repeat' first | assumption | rfl | apply modUnit_frame

theorem gateIsland_frame : ∀ a0 a1, a1.frame = y → (gateIsland a0 a1).frame = y := by
  intros; unfold gateIsland
  with_reducible repeat' first | assumption | rfl | (extract_lets +onlyGivenNames q; clear_value q) | apply ite_frame | apply setGate_frame | apply modIsland_frame

theorem settleGates_frame : ∀ a0 a1, a1.frame = y → (settleGates a0 a1).frame = y := by
  intros; unfold settleGates
  with_reducible repeat' first | assumption | rfl | (extract_lets +onlyGivenNames q; clear_value q) | apply ite_frame | apply gateIsland_frame

theorem dropTrips_frame : ∀ a0, a0.frame = y → (dropTrips a0).frame = y := by
  intros; unfold dropTrips
  with_reducible repeat' first | assumption | rfl | (apply mk_frame; apply fold_frame)

theorem countSwitched_frame : ∀ a0 a1, a1.frame = y → (countSwitched a0 a1).frame = y := by
  intros; unfold countSwitched
  with_reducible repeat' first | assumption | rfl | (extract_lets +onlyGivenNames q; first | (refine (fun (hq : q.frame = y) => ?_) ?_; (on_goal 1 => clear_value q); (on_goal 2 => subst q)) | (refine (fun (hq : q.2.frame = y) => ?_) ?_; (on_goal 1 => clear_value q); (on_goal 2 => subst q)) | clear_value q) | apply ite_frame | refine forAll_frame (fun i t y h => ?_) ?_ | apply modLoop_frame

theorem settle_frame : ∀ a0 a1, a1.frame = y → (settle a0 a1).frame = y := by
  intros; unfold settle
  with_reducible repeat' first | assumption | rfl | (extract_lets +onlyGivenNames q; first | (refine (fun (hq : q.frame = y) => ?_) ?_; (on_goal 1 => clear_value q); (on_goal 2 => subst q)) | clear_value q) | refine forAll_frame (fun i t y h => ?_) ?_ | apply settleSaf_frame | apply settleDev_frame | apply dropTrips_frame | apply settleRegion_frame | apply settleIsland_frame | apply settleUnit_frame | apply endStopped_frame | apply countSwitched_frame | apply settleGates_frame

theorem readAs_frame : ∀ a0 a1, a1.frame = y → (readAs a0 a1).frame = y := by
  intros; unfold readAs
  with_reducible repeat' first | assumption | rfl | apply modHost_frame

theorem hostAccess_frame : ∀ a0 a1 a2 a3 a4 a5, (∀ x0 y, x0.frame = y → (a4 x0).frame = y) → a5.frame = y → (hostAccess a0 a1 a2 a3 a4 a5).frame = y := by
  intro d off v rd op s hop h
  unfold hostAccess
  exact ite_frame h (ite_frame (ite_frame (readAs_frame _ _ h) h) (ite_frame (hop _ _ h) (modHost_frame _ _ h)))

theorem hostWord_frame : ∀ a0 a1 a2 a3 a4, (∀ x0 y, x0.frame = y → (a3 x0).frame = y) → a4.frame = y → (hostWord a0 a1 a2 a3 a4).frame = y := by
  intro d off v op s hop h
  exact hostAccess_frame _ _ _ _ _ _ (fun t y ht => settle_frame _ _ (hop t y ht)) h

theorem rwsWritten_frame : ∀ a0, a0.frame = y → (rwsWritten a0).frame = y := by
  intros; unfold rwsWritten
  with_reducible repeat' first | assumption | rfl | apply raise_frame

theorem putCtx_frame : ∀ a0 a1 a2 a3, a3.frame = y → (putCtx a0 a1 a2 a3).frame = y := by
  intros; unfold putCtx
  with_reducible repeat' first | assumption | rfl | (extract_lets +onlyGivenNames q; first | (refine (fun (hq : q.frame = y) => ?_) ?_; (on_goal 1 => clear_value q); (on_goal 2 => subst q)) | (refine (fun (hq : q.2.frame = y) => ?_) ?_; (on_goal 1 => clear_value q); (on_goal 2 => subst q)) | clear_value q) | apply ite_frame | apply modLoop_frame | apply write_frame

theorem throughCtx_frame : ∀ a0 a1 a2 a3, a3.frame = y → (throughCtx a0 a1 a2 a3).frame = y := by
  intros; unfold throughCtx
  with_reducible repeat' first | assumption | rfl | (extract_lets +onlyGivenNames q; first | (refine (fun (hq : q.frame = y) => ?_) ?_; (on_goal 1 => clear_value q); (on_goal 2 => subst q)) | (refine (fun (hq : q.2.frame = y) => ?_) ?_; (on_goal 1 => clear_value q); (on_goal 2 => subst q)) | clear_value q) | apply ite_frame | apply write_frame | apply modLoop_frame

theorem saveRt_frame : ∀ a0 a1, a1.frame = y → (saveRt a0 a1).frame = y := by
  intros; unfold saveRt
  with_reducible repeat' first | assumption | rfl | apply modLoop_frame

theorem writeBack_frame : ∀ a0 a1, a1.frame = y → (writeBack a0 a1).frame = y := by
  intros; unfold writeBack
  with_reducible repeat' first | assumption | rfl | (extract_lets +onlyGivenNames q; first | (refine (fun (hq : q.frame = y) => ?_) ?_; (on_goal 1 => clear_value q); (on_goal 2 => subst q)) | (refine (fun (hq : q.2.frame = y) => ?_) ?_; (on_goal 1 => clear_value q); (on_goal 2 => subst q)) | clear_value q) | apply ite_frame | refine forList_frame (fun i t y h => ?_) ?_ | apply saveRt_frame | apply modLoop_frame | apply write_frame | split

theorem setCtxState_frame : ∀ a0 a1 a2, a2.frame = y → (setCtxState a0 a1 a2).frame = y := by
  intros; unfold setCtxState
  with_reducible repeat' first | assumption | rfl | apply throughCtx_frame

theorem stepCtx16_frame : ∀ a0 a1 a2, a2.frame = y → (stepCtx16 a0 a1 a2).frame = y := by
  intros; unfold stepCtx16
  with_reducible repeat' first | assumption | rfl | apply throughCtx_frame

theorem stepCtx32_frame : ∀ a0 a1 a2, a2.frame = y → (stepCtx32 a0 a1 a2).frame = y := by
  intros; unfold stepCtx32
  with_reducible repeat' first | assumption | rfl | apply throughCtx_frame

theorem setOutVal_frame : ∀ a0 a1 a2 a3, a3.frame = y → (setOutVal a0 a1 a2 a3).frame = y := by
  intros; unfold setOutVal
  with_reducible repeat' first | assumption | rfl | apply putCtx_frame

theorem setSw_frame : ∀ a0 a1 a2 a3, a3.frame = y → (setSw a0 a1 a2 a3).frame = y := by
  intros; unfold setSw
  with_reducible repeat' first | assumption | rfl | apply putCtx_frame

theorem settleBusFb_frame : ∀ a0 a1, a1.frame = y → (settleBusFb a0 a1).frame = y := by
  intros; unfold settleBusFb
  with_reducible repeat' first | assumption | rfl | (extract_lets +onlyGivenNames q; first | (refine (fun (hq : q.frame = y) => ?_) ?_; (on_goal 1 => clear_value q); (on_goal 2 => subst q)) | (refine (fun (hq : q.2.frame = y) => ?_) ?_; (on_goal 1 => clear_value q); (on_goal 2 => subst q)) | clear_value q) | apply ite_frame | apply unstand_frame

theorem writeEntry_frame : ∀ a0 a1 a2 a3, a3.frame = y → (writeEntry a0 a1 a2 a3).frame = y := by
  intros; unfold writeEntry
  with_reducible repeat' first | assumption | rfl | (extract_lets +onlyGivenNames q; first | (refine (fun (hq : q.frame = y) => ?_) ?_; (on_goal 1 => clear_value q); (on_goal 2 => subst q)) | clear_value q) | apply ite_frame | apply modRegion_frame | apply modIsland_frame

theorem writeCommit_frame : ∀ a0 a1 a2 a3 a4, a4.frame = y → (writeCommit a0 a1 a2 a3 a4).frame = y := by
  intros; unfold writeCommit
  with_reducible repeat' first | assumption | rfl | (extract_lets +onlyGivenNames q; first | (refine (fun (hq : q.frame = y) => ?_) ?_; (on_goal 1 => clear_value q); (on_goal 2 => subst q)) | clear_value q) | apply ite_frame | refine forList_frame (fun i t y h => ?_) ?_ | apply modRegion_frame | apply writeEntry_frame

theorem commitFrame_frame : ∀ a0 a1 a2, a2.frame = y → (commitFrame a0 a1 a2).frame = y := by
  intros; unfold commitFrame
  with_reducible repeat' first | assumption | rfl | (extract_lets +onlyGivenNames q; first | (refine (fun (hq : q.frame = y) => ?_) ?_; (on_goal 1 => clear_value q); (on_goal 2 => subst q)) | (refine (fun (hq : q.2.frame = y) => ?_) ?_; (on_goal 1 => clear_value q); (on_goal 2 => subst q)) | clear_value q) | apply modRegion_frame | apply writeCommit_frame

theorem staleCopy_frame : ∀ a0, a0.frame = y → (staleCopy a0).frame = y := by
  intros; unfold staleCopy
  with_reducible repeat' first | assumption | rfl | (extract_lets +onlyGivenNames q; first | (refine (fun (hq : q.frame = y) => ?_) ?_; (on_goal 1 => clear_value q); (on_goal 2 => subst q)) | clear_value q) | apply ite_frame | apply modPair_frame | apply raise_frame

theorem diverge_frame : ∀ a0 a1 a2, a2.frame = y → (diverge a0 a1 a2).frame = y := by
  intros; unfold diverge
  with_reducible repeat' first | assumption | rfl | (extract_lets +onlyGivenNames q; first | (refine (fun (hq : q.frame = y) => ?_) ?_; (on_goal 1 => clear_value q); (on_goal 2 => subst q)) | clear_value q) | apply ite_frame | apply raise_frame | apply modPair_frame | apply modPairRegion_frame

theorem discardEpoch_frame : ∀ a0 a1, a1.frame = y → (discardEpoch a0 a1).frame = y := by
  intros; unfold discardEpoch
  with_reducible repeat' first | assumption | rfl | (extract_lets +onlyGivenNames q; first | (refine (fun (hq : q.frame = y) => ?_) ?_; (on_goal 1 => clear_value q); (on_goal 2 => subst q)) | clear_value q) | apply raise_frame | apply modPair_frame | apply modPairRegion_frame

theorem finishResync_frame : ∀ a0 a1, a1.frame = y → (finishResync a0 a1).frame = y := by
  intros; unfold finishResync
  with_reducible repeat' first | assumption | rfl | (extract_lets +onlyGivenNames q; first | (refine (fun (hq : q.frame = y) => ?_) ?_; (on_goal 1 => clear_value q); (on_goal 2 => subst q)) | (refine (fun (hq : q.2.frame = y) => ?_) ?_; (on_goal 1 => clear_value q); (on_goal 2 => subst q)) | clear_value q) | apply ite_frame | apply finishOk_frame

theorem probationMatch_frame : ∀ a0 a1 a2, a2.frame = y → (probationMatch a0 a1 a2).frame = y := by
  intros; unfold probationMatch
  with_reducible repeat' first | assumption | rfl | (extract_lets +onlyGivenNames q; first | (refine (fun (hq : q.frame = y) => ?_) ?_; (on_goal 1 => clear_value q); (on_goal 2 => subst q)) | clear_value q) | apply ite_frame | apply modPairRegion_frame | apply raise_frame | apply modPair_frame | apply finishResync_frame | split

theorem acceptCopy_frame : ∀ a0 a1 a2 a3 a4, a4.frame = y → (acceptCopy a0 a1 a2 a3 a4).frame = y := by
  intros; unfold acceptCopy
  with_reducible repeat' first | assumption | rfl | (extract_lets +onlyGivenNames q; clear_value q) | apply ite_frame | apply commitFrame_frame | apply modPairRegion_frame

theorem creditCopy_frame : ∀ a0 a1 a2 a3, a3.frame = y → (creditCopy a0 a1 a2 a3).frame = y := by
  intros; unfold creditCopy
  with_reducible repeat' first | assumption | rfl | apply ite_frame | apply modPairRegion_frame

theorem countedCopy_frame : ∀ a0 a1 a2 a3 a4, a4.frame = y → (countedCopy a0 a1 a2 a3 a4).frame = y := by
  intros; unfold countedCopy
  with_reducible repeat' first | assumption | rfl | (extract_lets +onlyGivenNames q; first | (refine (fun (hq : q.frame = y) => ?_) ?_; (on_goal 1 => clear_value q); (on_goal 2 => subst q)) | clear_value q) | apply ite_frame | apply modPairRegion_frame | apply acceptCopy_frame | apply creditCopy_frame | apply diverge_frame | apply probationMatch_frame | apply discardEpoch_frame | split

theorem uncountedCopy_frame : ∀ a0 a1 a2 a3 a4, a4.frame = y → (uncountedCopy a0 a1 a2 a3 a4).frame = y := by
  intros; unfold uncountedCopy
  with_reducible repeat' first | assumption | rfl | (extract_lets +onlyGivenNames q; first | (refine (fun (hq : q.frame = y) => ?_) ?_; (on_goal 1 => clear_value q); (on_goal 2 => subst q)) | clear_value q) | apply ite_frame | apply modPairRegion_frame | apply creditCopy_frame | apply probationMatch_frame | apply discardEpoch_frame | apply diverge_frame | split

theorem receiveCopy_frame : ∀ a0 a1 a2 a3 a4, a4.frame = y → (receiveCopy a0 a1 a2 a3 a4).frame = y := by
  intros; unfold receiveCopy
  with_reducible repeat' first | assumption | rfl | (extract_lets +onlyGivenNames q; first | (refine (fun (hq : q.frame = y) => ?_) ?_; (on_goal 1 => clear_value q); (on_goal 2 => subst q)) | (refine (fun (hq : q.2.frame = y) => ?_) ?_; (on_goal 1 => clear_value q); (on_goal 2 => subst q)) | clear_value q) | apply ite_frame | apply staleCopy_frame | apply countedCopy_frame | apply uncountedCopy_frame

theorem loseChain_frame : ∀ a0 a1, a1.frame = y → (loseChain a0 a1).frame = y := by
  intros; unfold loseChain
  with_reducible repeat' first | assumption | rfl | (extract_lets +onlyGivenNames q; clear_value q) | apply ite_frame | refine forAll_frame (fun i t y h => ?_) ?_ | refine forList_frame (fun i t y h => ?_) ?_ | apply modSess_frame

theorem loseSet_frame : ∀ a0 a1, a1.frame = y → (loseSet a0 a1).frame = y := by
  intros; unfold loseSet
  with_reducible repeat' first | assumption | rfl | (extract_lets +onlyGivenNames q; first | (refine (fun (hq : q.frame = y) => ?_) ?_; (on_goal 1 => clear_value q); (on_goal 2 => subst q)) | (refine (fun (hq : q.2.frame = y) => ?_) ?_; (on_goal 1 => clear_value q); (on_goal 2 => subst q)) | clear_value q) | apply ite_frame | refine forAll_frame (fun i t y h => ?_) ?_ | apply modSess_frame

theorem losePayload_frame : ∀ a0 a1, a1.frame = y → (losePayload a0 a1).frame = y := by
  intros; unfold losePayload
  with_reducible repeat' first | assumption | rfl | (extract_lets +onlyGivenNames q; first | (refine (fun (hq : q.frame = y) => ?_) ?_; (on_goal 1 => clear_value q); (on_goal 2 => subst q)) | (refine (fun (hq : q.2.frame = y) => ?_) ?_; (on_goal 1 => clear_value q); (on_goal 2 => subst q)) | clear_value q) | refine forList_frame (fun i t y h => ?_) ?_ | apply loseSet_frame | apply loseChain_frame | split

theorem renumber_frame : ∀ a0 a1 a2, a2.frame = y → (renumber a0 a1 a2).frame = y := by
  intros; unfold renumber
  with_reducible repeat' first | assumption | rfl | (extract_lets +onlyGivenNames q; first | (refine (fun (hq : q.frame = y) => ?_) ?_; (on_goal 1 => clear_value q); (on_goal 2 => subst q)) | clear_value q) | refine forAll_frame (fun i t y h => ?_) ?_ | apply modMr_frame | apply modEvents_frame | apply modSess_frame

end Sys2Proof.Machine
end

