-- ==== Sys2Proof/Laws/FrameOps2.lean ====
section
/-!
SUPPORT. The frame of the operations of MrCore, Filter, Operands, Region, Adc, Cq, Time, Net, Island, Cache, Signal, Vsm, Forming: each keeps the queue, the register words and the Seal record.
-/
namespace Sys2Proof.Machine

open Sys2Proof

variable {y : List Instr × List (Nat × Word32) × List (Nat × Word32)}

theorem mrSend_frame : ∀ a0 a1 a2 a3, a3.frame = y → (mrSend a0 a1 a2 a3).frame = y := by
  intros; unfold mrSend
  with_reducible repeat' first | assumption | rfl | (extract_lets +onlyGivenNames q; first | (refine (fun (hq : q.frame = y) => ?_) ?_; (on_goal 1 => clear_value q); (on_goal 2 => subst q)) | (refine (fun (hq : q.2.frame = y) => ?_) ?_; (on_goal 1 => clear_value q); (on_goal 2 => subst q)) | clear_value q) | apply ite_frame | apply modMr_frame | apply losePayload_frame

theorem pairSend_frame : ∀ a0 a1 a2 a3 a4, a4.frame = y → (pairSend a0 a1 a2 a3 a4).frame = y := by
  intros; unfold pairSend
  with_reducible repeat' first | assumption | rfl | (extract_lets +onlyGivenNames q; first | (refine (fun (hq : q.frame = y) => ?_) ?_; (on_goal 1 => clear_value q); (on_goal 2 => subst q)) | clear_value q) | apply ite_frame | refine forAll_frame (fun i t y h => ?_) ?_ | apply modNet_frame | apply modPort_frame

theorem trgWaiting_frame : ∀ a0, a0.frame = y → (trgWaiting a0).frame = y := by
  intros; unfold trgWaiting
  with_reducible repeat' first | assumption | rfl | (extract_lets +onlyGivenNames q; first | (refine (fun (hq : q.frame = y) => ?_) ?_; (on_goal 1 => clear_value q); (on_goal 2 => subst q)) | clear_value q) | apply ite_frame | refine forList_frame (fun i t y h => ?_) ?_ | apply modTrig_frame | apply raise_frame | apply mrSend_frame | apply modEvents_frame

theorem trgSample_frame : ∀ a0 a1 a2 a3, a3.frame = y → (trgSample a0 a1 a2 a3).frame = y := by
  intros; unfold trgSample
  with_reducible repeat' first | assumption | rfl | (extract_lets +onlyGivenNames q; first | (refine (fun (hq : q.frame = y) => ?_) ?_; (on_goal 1 => clear_value q); (on_goal 2 => subst q)) | (refine (fun (hq : q.2.frame = y) => ?_) ?_; (on_goal 1 => clear_value q); (on_goal 2 => subst q)) | clear_value q) | apply ite_frame | apply trgTake_frame | apply trgStep_frame | apply modTrig_frame | apply trgWaiting_frame | apply fire_frame

theorem trgInput_frame : ∀ a0 a1 a2 a3 a4, a4.frame = y → (trgInput a0 a1 a2 a3 a4).frame = y := by
  intros; unfold trgInput
  with_reducible repeat' first | assumption | rfl | (extract_lets +onlyGivenNames q; first | (refine (fun (hq : q.frame = y) => ?_) ?_; (on_goal 1 => clear_value q); (on_goal 2 => subst q)) | (refine (fun (hq : q.2.frame = y) => ?_) ?_; (on_goal 1 => clear_value q); (on_goal 2 => subst q)) | clear_value q) | refine forList_frame (fun i t y h => ?_) ?_ | apply trgSample_frame

theorem trgGap_frame : ∀ a0 a1, a1.frame = y → (trgGap a0 a1).frame = y := by
  intros; unfold trgGap
  with_reducible repeat' first | assumption | rfl | (extract_lets +onlyGivenNames q; first | (refine (fun (hq : q.frame = y) => ?_) ?_; (on_goal 1 => clear_value q); (on_goal 2 => subst q)) | (refine (fun (hq : q.2.frame = y) => ?_) ?_; (on_goal 1 => clear_value q); (on_goal 2 => subst q)) | clear_value q) | refine forList_frame (fun i t y h => ?_) ?_ | apply modTrig_frame | apply trgTake_frame

theorem writeTrgCmd_frame : ∀ a0 a1 a2, a2.frame = y → (writeTrgCmd a0 a1 a2).frame = y := by
  intros; unfold writeTrgCmd
  with_reducible repeat' first | assumption | rfl | (extract_lets +onlyGivenNames q; first | (refine (fun (hq : q.frame = y) => ?_) ?_; (on_goal 1 => clear_value q); (on_goal 2 => subst q)) | (refine (fun (hq : q.2.frame = y) => ?_) ?_; (on_goal 1 => clear_value q); (on_goal 2 => subst q)) | clear_value q) | apply ite_frame | apply modTrig_frame

theorem chainFlush_frame : ∀ a0 a1, a1.frame = y → (chainFlush a0 a1).frame = y := by
  intros; unfold chainFlush
  with_reducible repeat' first | assumption | rfl | (extract_lets +onlyGivenNames q; clear_value q) | apply ite_frame | apply modChain_frame | apply mrSend_frame

theorem chainOut_frame : ∀ a0 a1 a2 a3, a3.frame = y → (chainOut a0 a1 a2 a3).frame = y := by
  intros; unfold chainOut
  with_reducible repeat' first | assumption | rfl | (extract_lets +onlyGivenNames q; first | (refine (fun (hq : q.frame = y) => ?_) ?_; (on_goal 1 => clear_value q); (on_goal 2 => subst q)) | clear_value q) | apply ite_frame | apply chainFlush_frame | apply modChain_frame | apply raise_frame | apply trgInput_frame | apply trgGap_frame

theorem chainInput_frame : ∀ a0 a1 a2 a3 a4, a4.frame = y → (chainInput a0 a1 a2 a3 a4).frame = y := by
  intros; unfold chainInput
  with_reducible repeat' first | assumption | rfl | (extract_lets +onlyGivenNames q; clear_value q) | refine forList_frame (fun i t y h => ?_) ?_ | apply chainOut_frame | apply modChain_frame

theorem applying_frame : ∀ a0 a1, a1.frame = y → (applying a0 a1).frame = y := by
  intros; unfold applying
  with_reducible repeat' first | assumption | rfl | apply modWork_frame

theorem startCarrier_frame : ∀ a0 a1 a2, a2.frame = y → (startCarrier a0 a1 a2).frame = y := by
  intros; unfold startCarrier
  with_reducible repeat' first | assumption | rfl | (extract_lets +onlyGivenNames q; first | (refine (fun (hq : q.frame = y) => ?_) ?_; (on_goal 1 => clear_value q); (on_goal 2 => subst q)) | clear_value q) | apply ite_frame | refine forList_frame (fun i t y h => ?_) ?_ | apply modIsland_frame | apply modRegion_frame | apply unstand_frame | apply modLoop_frame | apply modPairRegion_frame

theorem changePhase_frame : ∀ a0 a1 a2, a2.frame = y → (changePhase a0 a1 a2).frame = y := by
  intros; unfold changePhase
  with_reducible repeat' first | assumption | rfl | (extract_lets +onlyGivenNames q; first | (refine (fun (hq : q.frame = y) => ?_) ?_; (on_goal 1 => clear_value q); (on_goal 2 => subst q)) | (refine (fun (hq : q.2.frame = y) => ?_) ?_; (on_goal 1 => clear_value q); (on_goal 2 => subst q)) | clear_value q) | apply ite_frame | apply modRegion_frame | apply leaveTest_frame

theorem raiseMode_frame : ∀ a0 a1, a1.frame = y → (raiseMode a0 a1).frame = y := by
  intros; unfold raiseMode
  with_reducible repeat' first | assumption | rfl | apply raise_frame

theorem modeFromOff_frame : ∀ a0 a1 a2 a3, a3.frame = y → (modeFromOff a0 a1 a2 a3).frame = y := by
  intros; unfold modeFromOff
  with_reducible repeat' first | assumption | rfl | (extract_lets +onlyGivenNames q; first | (refine (fun (hq : q.frame = y) => ?_) ?_; (on_goal 1 => clear_value q); (on_goal 2 => subst q)) | (refine (fun (hq : q.2.frame = y) => ?_) ?_; (on_goal 1 => clear_value q); (on_goal 2 => subst q)) | clear_value q) | apply ite_frame | apply finishFail_frame | apply finishOk_frame | apply raiseMode_frame | apply startCarrier_frame

theorem doRegionMode_frame : ∀ a0 a1, a1.frame = y → (doRegionMode a0 a1).frame = y := by
  intros; unfold doRegionMode
  with_reducible repeat' first | assumption | rfl | (extract_lets +onlyGivenNames q; clear_value q) | apply ite_frame | apply finishFail_frame | apply modeFromOff_frame | apply modWork_frame | apply modRegion_frame | split

theorem commitWritten_frame : ∀ a0 a1 a2, a2.frame = y → (commitWritten a0 a1 a2).frame = y := by
  intros; unfold commitWritten
  with_reducible repeat' first | assumption | rfl | (extract_lets +onlyGivenNames q; first | (refine (fun (hq : q.frame = y) => ?_) ?_; (on_goal 1 => clear_value q); (on_goal 2 => subst q)) | (refine (fun (hq : q.2.frame = y) => ?_) ?_; (on_goal 1 => clear_value q); (on_goal 2 => subst q)) | clear_value q) | apply modWork_frame | apply modRegion_frame

theorem doRegionCommit_frame : ∀ a0 a1, a1.frame = y → (doRegionCommit a0 a1).frame = y := by
  intros; unfold doRegionCommit
  with_reducible repeat' first | assumption | rfl | (extract_lets +onlyGivenNames q; clear_value q) | apply ite_frame | apply finishFail_frame | apply modWork_frame | apply commitWritten_frame | apply writeCommit_frame | split

theorem replaceUnits_frame : ∀ a0 a1 a2 a3, a3.frame = y → (replaceUnits a0 a1 a2 a3).frame = y := by
  intros; unfold replaceUnits
  with_reducible repeat' first | assumption | rfl | (extract_lets +onlyGivenNames q; clear_value q) | apply ite_frame | apply modUnit_frame

theorem transferIsland_frame : ∀ a0 a1 a2 a3, a3.frame = y → (transferIsland a0 a1 a2 a3).frame = y := by
  intros; unfold transferIsland
  with_reducible repeat' first | assumption | rfl | (extract_lets +onlyGivenNames q; first | (refine (fun (hq : q.frame = y) => ?_) ?_; (on_goal 1 => clear_value q); (on_goal 2 => subst q)) | clear_value q) | apply ite_frame | apply modIsland_frame | apply replaceUnits_frame

theorem applyMode_frame : ∀ a0 a1 a2, a2.frame = y → (applyMode a0 a1 a2).frame = y := by
  intros; unfold applyMode
  with_reducible repeat' first | assumption | rfl | (extract_lets +onlyGivenNames q; first | (refine (fun (hq : q.frame = y) => ?_) ?_; (on_goal 1 => clear_value q); (on_goal 2 => subst q)) | clear_value q) | apply ite_frame | apply modeFromOff_frame | apply finishFail_frame | apply raiseMode_frame | apply finishOk_frame | apply stopRegion_frame | apply modRegion_frame | apply changePhase_frame

theorem doPairSwap_frame : ∀ a0 a1, a1.frame = y → (doPairSwap a0 a1).frame = y := by
  intros; unfold doPairSwap
  with_reducible repeat' first | assumption | rfl | (extract_lets +onlyGivenNames q; clear_value q) | apply ite_frame | refine forList_frame (fun i t y h => ?_) ?_ | apply finishFail_frame | apply finishOk_frame | apply applying_frame | apply modRegion_frame

theorem recordSwap_frame : ∀ a0 a1 a2, a2.frame = y → (recordSwap a0 a1 a2).frame = y := by
  intros; unfold recordSwap
  with_reducible repeat' first | assumption | rfl | (extract_lets +onlyGivenNames q; first | (refine (fun (hq : q.frame = y) => ?_) ?_; (on_goal 1 => clear_value q); (on_goal 2 => subst q)) | clear_value q) | apply markOvertaken_frame | apply modRings_frame | apply write_frame | split

theorem applySwap_frame : ∀ a0 a1 a2, a2.frame = y → (applySwap a0 a1 a2).frame = y := by
  intros; unfold applySwap
  with_reducible repeat' first | assumption | rfl | (extract_lets +onlyGivenNames q; first | (refine (fun (hq : q.frame = y) => ?_) ?_; (on_goal 1 => clear_value q); (on_goal 2 => subst q)) | (refine (fun (hq : q.2.frame = y) => ?_) ?_; (on_goal 1 => clear_value q); (on_goal 2 => subst q)) | clear_value q) | apply ite_frame | apply failSwap_frame | apply endSwap_frame | apply recordSwap_frame | apply modPairRegion_frame

theorem failover_frame : ∀ a0 a1, a1.frame = y → (failover a0 a1).frame = y := by
  intros; unfold failover
  with_reducible repeat' first | assumption | rfl | (extract_lets +onlyGivenNames q; clear_value q) | apply ite_frame | apply raise_frame | apply modPairRegion_frame

theorem boundaryCopies_frame : ∀ a0 a1 a2, a2.frame = y → (boundaryCopies a0 a1 a2).frame = y := by
  intros; unfold boundaryCopies
  with_reducible repeat' first | assumption | rfl | (extract_lets +onlyGivenNames q; first | (refine (fun (hq : q.frame = y) => ?_) ?_; (on_goal 1 => clear_value q); (on_goal 2 => subst q)) | clear_value q) | apply ite_frame | apply modPairRegion_frame | apply commitFrame_frame | apply modRegion_frame | apply unstand_frame | split

theorem transferDiscrete_frame : ∀ a0 a1, a1.frame = y → (transferDiscrete a0 a1).frame = y := by
  intros; unfold transferDiscrete
  with_reducible repeat' first | assumption | rfl | (extract_lets +onlyGivenNames q; first | (refine (fun (hq : q.frame = y) => ?_) ?_; (on_goal 1 => clear_value q); (on_goal 2 => subst q)) | clear_value q) | apply modRegion_frame | split | intro _ | (apply mk_frame; apply fold_frame)

theorem startDue_frame : ∀ a0 a1 a2, a2.frame = y → (startDue a0 a1 a2).frame = y := by
  intros; unfold startDue
  with_reducible repeat' first | assumption | rfl | (extract_lets +onlyGivenNames q; first | (refine (fun (hq : q.frame = y) => ?_) ?_; (on_goal 1 => clear_value q); (on_goal 2 => subst q)) | (refine (fun (hq : q.2.frame = y) => ?_) ?_; (on_goal 1 => clear_value q); (on_goal 2 => subst q)) | clear_value q) | apply ite_frame | refine forList_frame (fun i t y h => ?_) ?_ | apply doRegionMode_frame | apply doPairSwap_frame | apply finishFail_frame | apply commitWritten_frame | apply writeEntry_frame | split

theorem atBoundary_frame : ∀ a0 a1 a2 a3 a4 a5, a5.frame = y → (atBoundary a0 a1 a2 a3 a4 a5).frame = y := by
  intros; unfold atBoundary
  with_reducible repeat' first | assumption | rfl | (extract_lets +onlyGivenNames q; first | (refine (fun (hq : q.frame = y) => ?_) ?_; (on_goal 1 => clear_value q); (on_goal 2 => subst q)) | (refine (fun (hq : q.2.frame = y) => ?_) ?_; (on_goal 1 => clear_value q); (on_goal 2 => subst q)) | clear_value q) | apply ite_frame | apply finishHeld_frame | apply applySwap_frame | apply applyMode_frame | split

theorem boundary_frame : ∀ a0 a1 a2, a2.frame = y → (boundary a0 a1 a2).frame = y := by
  intros; unfold boundary
  with_reducible repeat' first | assumption | rfl | (extract_lets +onlyGivenNames q; first | (refine (fun (hq : q.frame = y) => ?_) ?_; (on_goal 1 => clear_value q); (on_goal 2 => subst q)) | clear_value q) | apply ite_frame | refine forList_frame (fun i t y h => ?_) ?_ | apply startDue_frame | apply transferIsland_frame | apply transferDiscrete_frame | apply modRegion_frame | apply atBoundary_frame | apply failover_frame | apply boundaryCopies_frame | apply stopRegion_frame

theorem countTrip_frame : ∀ a0 a1 a2, a2.frame = y → (countTrip a0 a1 a2).frame = y := by
  intros; unfold countTrip
  with_reducible repeat' first | assumption | rfl | (extract_lets +onlyGivenNames q; first | (refine (fun (hq : q.frame = y) => ?_) ?_; (on_goal 1 => clear_value q); (on_goal 2 => subst q)) | clear_value q) | apply ite_frame | apply modRegion_frame | apply raise_frame

theorem tripRegion_frame : ∀ a0 a1 a2, a2.frame = y → (tripRegion a0 a1 a2).frame = y := by
  intros; unfold tripRegion
  with_reducible repeat' first | assumption | rfl | (extract_lets +onlyGivenNames q; first | (refine (fun (hq : q.frame = y) => ?_) ?_; (on_goal 1 => clear_value q); (on_goal 2 => subst q)) | clear_value q) | apply ite_frame | refine forList_frame (fun i t y h => ?_) ?_ | apply modUnit_frame | apply raise_frame | apply modRegion_frame | apply countTrip_frame

theorem wrapRelease_frame : ∀ a0 a1, a1.frame = y → (wrapRelease a0 a1).frame = y := by
  intros; unfold wrapRelease
  with_reducible repeat' first | assumption | rfl | (extract_lets +onlyGivenNames q; first | (refine (fun (hq : q.frame = y) => ?_) ?_; (on_goal 1 => clear_value q); (on_goal 2 => subst q)) | clear_value q) | apply ite_frame | refine foldl_frame (fun t i y h => ?_) _ _ ?_ | apply modUnit_frame

theorem endHeld_frame : ∀ a0 a1, a1.frame = y → (endHeld a0 a1).frame = y := by
  intros; unfold endHeld
  with_reducible repeat' first | assumption | rfl | (extract_lets +onlyGivenNames q; first | (refine (fun (hq : q.frame = y) => ?_) ?_; (on_goal 1 => clear_value q); (on_goal 2 => subst q)) | (refine (fun (hq : q.2.frame = y) => ?_) ?_; (on_goal 1 => clear_value q); (on_goal 2 => subst q)) | clear_value q) | apply ite_frame | apply dropCommand_frame

theorem wrapPeriod_frame : ∀ a0 a1 a2, a2.frame = y → (wrapPeriod a0 a1 a2).frame = y := by
  intros; unfold wrapPeriod
  with_reducible repeat' first | assumption | rfl | (extract_lets +onlyGivenNames q; clear_value q) | apply ite_frame | refine foldl_frame (fun t i y h => ?_) _ _ ?_ | apply modUnit_frame | apply modIsland_frame

theorem recountTrips_frame : ∀ a0 a1 a2, a2.frame = y → (recountTrips a0 a1 a2).frame = y := by
  intros; unfold recountTrips
  with_reducible repeat' first | assumption | rfl | (extract_lets +onlyGivenNames q; first | (refine (fun (hq : q.frame = y) => ?_) ?_; (on_goal 1 => clear_value q); (on_goal 2 => subst q)) | (refine (fun (hq : q.2.frame = y) => ?_) ?_; (on_goal 1 => clear_value q); (on_goal 2 => subst q)) | clear_value q) | apply ite_frame | refine forAll_frame (fun i t y h => ?_) ?_ | apply countTrip_frame

theorem wrap_frame : ∀ a0 a1 a2, a2.frame = y → (wrap a0 a1 a2).frame = y := by
  intros; unfold wrap
  with_reducible repeat' first | assumption | rfl | (extract_lets +onlyGivenNames q; first | (refine (fun (hq : q.frame = y) => ?_) ?_; (on_goal 1 => clear_value q); (on_goal 2 => subst q)) | clear_value q) | apply dropTrips_frame | apply endHeld_frame | apply modIsland_frame | apply wrapRelease_frame | apply recountTrips_frame | apply wrapPeriod_frame

theorem commandUnit_frame : ∀ a0 a1 a2, a2.frame = y → (commandUnit a0 a1 a2).frame = y := by
  intros; unfold commandUnit
  with_reducible repeat' first | assumption | rfl | apply ite_frame | apply modUnit_frame

theorem resumeFrames_frame : ∀ a0 a1, a1.frame = y → (resumeFrames a0 a1).frame = y := by
  intros; unfold resumeFrames
  with_reducible repeat' first | assumption | rfl | (extract_lets +onlyGivenNames q; first | (refine (fun (hq : q.frame = y) => ?_) ?_; (on_goal 1 => clear_value q); (on_goal 2 => subst q)) | clear_value q) | apply ite_frame | apply modRegion_frame | apply raise_frame | apply unstand_frame

theorem overrun_frame : ∀ a0 a1, a1.frame = y → (overrun a0 a1).frame = y := by
  intros; unfold overrun
  with_reducible repeat' first | assumption | rfl | (extract_lets +onlyGivenNames q; first | (refine (fun (hq : q.frame = y) => ?_) ?_; (on_goal 1 => clear_value q); (on_goal 2 => subst q)) | clear_value q) | apply ite_frame | apply modBank_frame | apply raise_frame

theorem dropTrigger_frame : ∀ a0 a1 a2, a2.frame = y → (dropTrigger a0 a1 a2).frame = y := by
  intros; unfold dropTrigger
  with_reducible repeat' first | assumption | rfl | (extract_lets +onlyGivenNames q; first | (refine (fun (hq : q.frame = y) => ?_) ?_; (on_goal 1 => clear_value q); (on_goal 2 => subst q)) | (refine (fun (hq : q.2.frame = y) => ?_) ?_; (on_goal 1 => clear_value q); (on_goal 2 => subst q)) | clear_value q) | apply renumber_frame | apply overrun_frame | split

theorem injOverrun_frame : ∀ a0 a1, a1.frame = y → (injOverrun a0 a1).frame = y := by
  intros; unfold injOverrun
  with_reducible repeat' first | assumption | rfl | (extract_lets +onlyGivenNames q; first | (refine (fun (hq : q.frame = y) => ?_) ?_; (on_goal 1 => clear_value q); (on_goal 2 => subst q)) | clear_value q) | apply ite_frame | apply modBank_frame | apply raise_frame

theorem bankTrigger_frame : ∀ a0 a1 a2 a3, a3.frame = y → (bankTrigger a0 a1 a2 a3).frame = y := by
  intros; unfold bankTrigger
  with_reducible repeat' first | assumption | rfl | (extract_lets +onlyGivenNames q; first | (refine (fun (hq : q.frame = y) => ?_) ?_; (on_goal 1 => clear_value q); (on_goal 2 => subst q)) | (refine (fun (hq : q.2.frame = y) => ?_) ?_; (on_goal 1 => clear_value q); (on_goal 2 => subst q)) | clear_value q) | apply ite_frame | apply dropTrigger_frame | apply modBank_frame

theorem pairSample_frame : ∀ a0 a1, a1.frame = y → (pairSample a0 a1).frame = y := by
  intros; unfold pairSample
  with_reducible repeat' first | assumption | rfl | (extract_lets +onlyGivenNames q; clear_value q) | apply ite_frame | apply modRegion_frame | apply pairSend_frame

theorem regionTrigger_frame : ∀ a0 a1, a1.frame = y → (regionTrigger a0 a1).frame = y := by
  intros; unfold regionTrigger
  with_reducible repeat' first | assumption | rfl | (extract_lets +onlyGivenNames q; first | (refine (fun (hq : q.frame = y) => ?_) ?_; (on_goal 1 => clear_value q); (on_goal 2 => subst q)) | clear_value q) | apply ite_frame | refine forAll_frame (fun i t y h => ?_) ?_ | apply modRegion_frame | apply modBank_frame | apply bankTrigger_frame | apply mrSend_frame | apply pairSample_frame

theorem openWire_frame : ∀ a0 a1 a2, a2.frame = y → (openWire a0 a1 a2).frame = y := by
  intros; unfold openWire
  with_reducible repeat' first | assumption | rfl | (extract_lets +onlyGivenNames q; clear_value q) | apply ite_frame | apply modChan_frame | apply raise_frame | apply modBank_frame

theorem openWires_frame : ∀ a0 a1 a2 a3, a3.frame = y → (openWires a0 a1 a2 a3).frame = y := by
  intros; unfold openWires
  with_reducible repeat' first | assumption | rfl | (extract_lets +onlyGivenNames q; first | (refine (fun (hq : q.frame = y) => ?_) ?_; (on_goal 1 => clear_value q); (on_goal 2 => subst q)) | (refine (fun (hq : q.2.frame = y) => ?_) ?_; (on_goal 1 => clear_value q); (on_goal 2 => subst q)) | clear_value q) | refine forList_frame (fun i t y h => ?_) ?_ | apply openWire_frame

theorem enqueue_frame : ∀ a0 a1 a2, a2.frame = y → (enqueue a0 a1 a2).frame = y := by
  intros; unfold enqueue
  with_reducible repeat' first | assumption | rfl | (extract_lets +onlyGivenNames q; first | (refine (fun (hq : q.frame = y) => ?_) ?_; (on_goal 1 => clear_value q); (on_goal 2 => subst q)) | clear_value q) | apply ite_frame | apply modBank_frame | apply raise_frame

theorem enqueueSet_frame : ∀ a0 a1 a2 a3 a4 a5 a6, a6.frame = y → (enqueueSet a0 a1 a2 a3 a4 a5 a6).frame = y := by
  intros; unfold enqueueSet
  with_reducible repeat' first | assumption | rfl | (extract_lets +onlyGivenNames q; first | (refine (fun (hq : q.frame = y) => ?_) ?_; (on_goal 1 => clear_value q); (on_goal 2 => subst q)) | (refine (fun (hq : q.2.frame = y) => ?_) ?_; (on_goal 1 => clear_value q); (on_goal 2 => subst q)) | clear_value q) | apply ite_frame | refine forList_frame (fun i t y h => ?_) ?_ | apply enqueue_frame

theorem readQdata_frame : ∀ a0 a1, a1.frame = y → (readQdata a0 a1).frame = y := by
  intros; unfold readQdata
  with_reducible repeat' first | assumption | rfl | (extract_lets +onlyGivenNames q; first | (refine (fun (hq : q.frame = y) => ?_) ?_; (on_goal 1 => clear_value q); (on_goal 2 => subst q)) | (refine (fun (hq : q.2.frame = y) => ?_) ?_; (on_goal 1 => clear_value q); (on_goal 2 => subst q)) | clear_value q) | apply readAs_frame | apply modBank_frame | split

theorem injLost_frame : ∀ a0 a1, a1.frame = y → (injLost a0 a1).frame = y := by
  intros; unfold injLost
  with_reducible repeat' first | assumption | rfl | (extract_lets +onlyGivenNames q; (refine (fun (hq : q.frame = y) => ?_) ?_; (on_goal 1 => clear_value q); (on_goal 2 => subst q))) | apply modBank_frame | apply enqueueSet_frame | apply raise_frame | split

theorem preempt_frame : ∀ a0 a1 a2, a2.frame = y → (preempt a0 a1 a2).frame = y := by
  intros; unfold preempt
  with_reducible repeat' first | assumption | rfl | (extract_lets +onlyGivenNames q; first | (refine (fun (hq : q.frame = y) => ?_) ?_; (on_goal 1 => clear_value q); (on_goal 2 => subst q)) | (refine (fun (hq : q.2.frame = y) => ?_) ?_; (on_goal 1 => clear_value q); (on_goal 2 => subst q)) | clear_value q) | apply ite_frame | apply modBank_frame | apply injLost_frame | split

theorem sample_frame : ∀ a0 a1 a2 a3 a4, a4.frame = y → (sample a0 a1 a2 a3 a4).frame = y := by
  intros; unfold sample
  with_reducible repeat' first | assumption | rfl | (extract_lets +onlyGivenNames q; clear_value q) | apply ite_frame | apply preempt_frame | apply modBank_frame

theorem flushPacked_frame : ∀ a0 a1, a1.frame = y → (flushPacked a0 a1).frame = y := by
  intros; unfold flushPacked
  with_reducible repeat' first | assumption | rfl | (extract_lets +onlyGivenNames q; clear_value q) | apply ite_frame | apply modBank_frame | apply mrSend_frame

theorem sendSet_frame : ∀ a0 a1, a1.frame = y → (sendSet a0 a1).frame = y := by
  intros; unfold sendSet
  with_reducible repeat' first | assumption | rfl | (extract_lets +onlyGivenNames q; first | (refine (fun (hq : q.frame = y) => ?_) ?_; (on_goal 1 => clear_value q); (on_goal 2 => subst q)) | clear_value q) | apply ite_frame | apply pairSample_frame | apply mrSend_frame | apply flushPacked_frame | apply modBank_frame

theorem setComplete_frame : ∀ a0 a1, a1.frame = y → (setComplete a0 a1).frame = y := by
  intros; unfold setComplete
  with_reducible repeat' first | assumption | rfl | (extract_lets +onlyGivenNames q; first | (refine (fun (hq : q.frame = y) => ?_) ?_; (on_goal 1 => clear_value q); (on_goal 2 => subst q)) | clear_value q) | apply ite_frame | refine forList_frame (fun i t y h => ?_) ?_ | apply openWires_frame | apply enqueueSet_frame | apply chainInput_frame | apply trgInput_frame | apply sendSet_frame | apply modBank_frame | split

theorem setsComplete_frame : ∀ a0 a1, a1.frame = y → (setsComplete a0 a1).frame = y := by
  intros; unfold setsComplete
  with_reducible repeat' first | assumption | rfl | (extract_lets +onlyGivenNames q; first | (refine (fun (hq : q.frame = y) => ?_) ?_; (on_goal 1 => clear_value q); (on_goal 2 => subst q)) | (refine (fun (hq : q.2.frame = y) => ?_) ?_; (on_goal 1 => clear_value q); (on_goal 2 => subst q)) | clear_value q) | apply ite_frame | refine forAll_frame (fun i t y h => ?_) ?_ | apply setComplete_frame

theorem samplingInstant_frame : ∀ a0 a1 a2, a2.frame = y → (samplingInstant a0 a1 a2).frame = y := by
  intros; unfold samplingInstant
  with_reducible repeat' first | assumption | rfl | (extract_lets +onlyGivenNames q; first | (refine (fun (hq : q.frame = y) => ?_) ?_; (on_goal 1 => clear_value q); (on_goal 2 => subst q)) | clear_value q) | apply ite_frame | apply setsComplete_frame | apply sample_frame | apply modBank_frame | apply dropTrigger_frame | split

theorem writeInjSw_frame : ∀ a0 a1 a2, a2.frame = y → (writeInjSw a0 a1 a2).frame = y := by
  intros; unfold writeInjSw
  with_reducible repeat' first | assumption | rfl | (extract_lets +onlyGivenNames q; first | (refine (fun (hq : q.frame = y) => ?_) ?_; (on_goal 1 => clear_value q); (on_goal 2 => subst q)) | (refine (fun (hq : q.2.frame = y) => ?_) ?_; (on_goal 1 => clear_value q); (on_goal 2 => subst q)) | clear_value q) | apply ite_frame | apply modBank_frame

theorem injSample_frame : ∀ a0 a1 a2 a3 a4, a4.frame = y → (injSample a0 a1 a2 a3 a4).frame = y := by
  intros; unfold injSample
  with_reducible repeat' first | assumption | rfl | (extract_lets +onlyGivenNames q; clear_value q) | apply ite_frame | apply modBank_frame

theorem injSamplingInstant_frame : ∀ a0 a1 a2, a2.frame = y → (injSamplingInstant a0 a1 a2).frame = y := by
  intros; unfold injSamplingInstant
  with_reducible repeat' first | assumption | rfl | (extract_lets +onlyGivenNames q; clear_value q) | apply ite_frame | apply injSample_frame | apply modBank_frame | apply injOverrun_frame | split

theorem injComplete_frame : ∀ a0 a1 a2, a2.frame = y → (injComplete a0 a1 a2).frame = y := by
  intros; unfold injComplete
  with_reducible repeat' first | assumption | rfl | (extract_lets +onlyGivenNames q; first | (refine (fun (hq : q.frame = y) => ?_) ?_; (on_goal 1 => clear_value q); (on_goal 2 => subst q)) | clear_value q) | apply ite_frame | apply openWires_frame | apply enqueueSet_frame | apply sendSet_frame | apply modBank_frame | apply renumber_frame

theorem sliceFailed_frame : ∀ a0 a1, a1.frame = y → (sliceFailed a0 a1).frame = y := by
  intros; unfold sliceFailed
  with_reducible repeat' first | assumption | rfl | (extract_lets +onlyGivenNames q; first | (refine (fun (hq : q.frame = y) => ?_) ?_; (on_goal 1 => clear_value q); (on_goal 2 => subst q)) | clear_value q) | apply ite_frame | apply modBank_frame | apply stand_frame | apply raise_frame

theorem setWindow_frame : ∀ a0 a1 a2, a2.frame = y → (setWindow a0 a1 a2).frame = y := by
  intros; unfold setWindow
  with_reducible repeat' first | assumption | rfl | (extract_lets +onlyGivenNames q; clear_value q) | apply ite_frame | apply modBank_frame

theorem assertWindow_frame : ∀ a0 a1, a1.frame = y → (assertWindow a0 a1).frame = y := by
  intros; unfold assertWindow
  with_reducible repeat' first | assumption | rfl | (extract_lets +onlyGivenNames q; first | (refine (fun (hq : q.frame = y) => ?_) ?_; (on_goal 1 => clear_value q); (on_goal 2 => subst q)) | clear_value q) | apply ite_frame | apply setWindow_frame | apply modChan_frame | apply raise_frame

theorem standWindow_frame : ∀ a0 a1, a1.frame = y → (standWindow a0 a1).frame = y := by
  intros; unfold standWindow
  with_reducible repeat' first | assumption | rfl | (extract_lets +onlyGivenNames q; clear_value q) | apply ite_frame | apply setWindow_frame | apply assertWindow_frame | split

theorem writeWinst_frame : ∀ a0 a1 a2, a2.frame = y → (writeWinst a0 a1 a2).frame = y := by
  intros; unfold writeWinst
  with_reducible repeat' first | assumption | rfl | apply modBank_frame

theorem writeCq_frame : ∀ a0 a1 a2 a3 a4, a4.frame = y → (writeCq a0 a1 a2 a3 a4).frame = y := by
  intros; unfold writeCq
  with_reducible repeat' first | assumption | rfl | (extract_lets +onlyGivenNames q; first | (refine (fun (hq : q.frame = y) => ?_) ?_; (on_goal 1 => clear_value q); (on_goal 2 => subst q)) | clear_value q) | apply ite_frame | apply hostWrite_frame | apply modCq_frame

theorem markStopped_frame : ∀ a0 a1, a1.frame = y → (markStopped a0 a1).frame = y := by
  intros; unfold markStopped
  with_reducible repeat' first | assumption | rfl | apply modSq_frame

theorem loseLock_frame : ∀ a0, a0.frame = y → (loseLock a0).frame = y := by
  intros; unfold loseLock
  with_reducible repeat' first | assumption | rfl | (extract_lets +onlyGivenNames q; first | (refine (fun (hq : q.frame = y) => ?_) ?_; (on_goal 1 => clear_value q); (on_goal 2 => subst q)) | clear_value q) | apply ite_frame | apply modTime_frame | apply raise_frame

theorem judgeLock_frame : ∀ a0 a1, a1.frame = y → (judgeLock a0 a1).frame = y := by
  intros; unfold judgeLock
  with_reducible repeat' first | assumption | rfl | (extract_lets +onlyGivenNames q; first | (refine (fun (hq : q.frame = y) => ?_) ?_; (on_goal 1 => clear_value q); (on_goal 2 => subst q)) | clear_value q) | apply ite_frame | apply loseLock_frame | apply modTime_frame | apply raise_frame

theorem setTime_frame : ∀ a0 a1, a1.frame = y → (setTime a0 a1).frame = y := by
  intros; unfold setTime
  with_reducible repeat' first | assumption | rfl | apply ite_frame | apply modTime_frame

theorem syncTime_frame : ∀ a0, a0.frame = y → (syncTime a0).frame = y := by
  intros; unfold syncTime
  with_reducible repeat' first | assumption | rfl | apply modTime_frame

theorem markJumped_frame : ∀ a0 a1, a1.frame = y → (markJumped a0 a1).frame = y := by
  intros; unfold markJumped
  with_reducible repeat' first | assumption | rfl | apply ite_frame | apply modRings_frame

theorem doTimeAdjust_frame : ∀ a0 a1, a1.frame = y → (doTimeAdjust a0 a1).frame = y := by
  intros; unfold doTimeAdjust
  with_reducible repeat' first | assumption | rfl | (extract_lets +onlyGivenNames q; first | (refine (fun (hq : q.frame = y) => ?_) ?_; (on_goal 1 => clear_value q); (on_goal 2 => subst q)) | clear_value q) | apply ite_frame | apply finishFail_frame | apply raise_frame | apply modTime_frame | apply loseLock_frame | apply syncTime_frame | apply setTime_frame | apply markJumped_frame | apply judgeLock_frame | apply finishOk_frame

theorem timeRestart_frame : ∀ a0, a0.frame = y → (timeRestart a0).frame = y := by
  intros; unfold timeRestart
  with_reducible repeat' first | assumption | rfl | (extract_lets +onlyGivenNames q; first | (refine (fun (hq : q.frame = y) => ?_) ?_; (on_goal 1 => clear_value q); (on_goal 2 => subst q)) | clear_value q) | apply ite_frame | apply modTime_frame | apply syncTime_frame | apply raise_frame | apply loseLock_frame

theorem readTimeNow_frame : ∀ a0, a0.frame = y → (readTimeNow a0).frame = y := by
  intros; unfold readTimeNow
  with_reducible repeat' first | assumption | rfl | (extract_lets +onlyGivenNames q; first | (refine (fun (hq : q.frame = y) => ?_) ?_; (on_goal 1 => clear_value q); (on_goal 2 => subst q)) | (refine (fun (hq : q.2.frame = y) => ?_) ?_; (on_goal 1 => clear_value q); (on_goal 2 => subst q)) | clear_value q) | apply readAs_frame | apply modTime_frame

theorem readAoTime_frame : ∀ a0, a0.frame = y → (readAoTime a0).frame = y := by
  intros; unfold readAoTime
  with_reducible repeat' first | assumption | rfl | (extract_lets +onlyGivenNames q; first | (refine (fun (hq : q.frame = y) => ?_) ?_; (on_goal 1 => clear_value q); (on_goal 2 => subst q)) | (refine (fun (hq : q.2.frame = y) => ?_) ?_; (on_goal 1 => clear_value q); (on_goal 2 => subst q)) | clear_value q) | apply readAs_frame | apply modTime_frame

theorem writeTimeStatus_frame : ∀ a0 a1, a1.frame = y → (writeTimeStatus a0 a1).frame = y := by
  intros; unfold writeTimeStatus
  with_reducible repeat' first | assumption | rfl | apply modTime_frame

theorem queueFrame_frame : ∀ a0 a1 a2 a3, a3.frame = y → (queueFrame a0 a1 a2 a3).frame = y := by
  intros; unfold queueFrame
  with_reducible repeat' first | assumption | rfl | (extract_lets +onlyGivenNames q; first | (refine (fun (hq : q.frame = y) => ?_) ?_; (on_goal 1 => clear_value q); (on_goal 2 => subst q)) | clear_value q) | apply ite_frame | refine forList_frame (fun i t y h => ?_) ?_ | apply modNet_frame | apply modPort_frame

theorem doNetTx_frame : ∀ a0 a1, a1.frame = y → (doNetTx a0 a1).frame = y := by
  intros; unfold doNetTx
  with_reducible repeat' first | assumption | rfl | (extract_lets +onlyGivenNames q; first | (refine (fun (hq : q.frame = y) => ?_) ?_; (on_goal 1 => clear_value q); (on_goal 2 => subst q)) | clear_value q) | apply ite_frame | apply finishFail_frame | apply applying_frame | apply queueFrame_frame | apply modNet_frame | split

theorem runNetTx_frame : ∀ a0 a1, a1.frame = y → (runNetTx a0 a1).frame = y := by
  intros; unfold runNetTx
  with_reducible repeat' first | assumption | rfl | (extract_lets +onlyGivenNames q; clear_value q) | apply ite_frame | apply finishFail_frame | apply fetchData_frame | apply doNetTx_frame | split

theorem txDone_frame : ∀ a0 a1 a2 a3, a3.frame = y → (txDone a0 a1 a2 a3).frame = y := by
  intros; unfold txDone
  with_reducible repeat' first | assumption | rfl | (extract_lets +onlyGivenNames q; clear_value q) | apply ite_frame | apply modNet_frame | apply finish_frame | split

theorem portBoundary_frame : ∀ a0 a1, a1.frame = y → (portBoundary a0 a1).frame = y := by
  intros; unfold portBoundary
  with_reducible repeat' first | assumption | rfl | (extract_lets +onlyGivenNames q; first | (refine (fun (hq : q.frame = y) => ?_) ?_; (on_goal 1 => clear_value q); (on_goal 2 => subst q)) | clear_value q) | apply ite_frame | apply modPort_frame | apply txDone_frame | split

theorem payTag_frame : ∀ a0 a1, a1.frame = y → (payTag a0 a1).frame = y := by
  intros; unfold payTag
  with_reducible repeat' first | assumption | rfl | apply modNet_frame

theorem queueStamp_frame : ∀ a0 a1, a1.frame = y → (queueStamp a0 a1).frame = y := by
  intros; unfold queueStamp
  with_reducible repeat' first | assumption | rfl | (extract_lets +onlyGivenNames q; first | (refine (fun (hq : q.frame = y) => ?_) ?_; (on_goal 1 => clear_value q); (on_goal 2 => subst q)) | clear_value q) | apply ite_frame | apply payTag_frame | apply modNet_frame | apply raise_frame

theorem txTimestamp_frame : ∀ a0 a1 a2, a2.frame = y → (txTimestamp a0 a1 a2).frame = y := by
  intros; unfold txTimestamp
  with_reducible repeat' first | assumption | rfl | (extract_lets +onlyGivenNames q; first | (refine (fun (hq : q.frame = y) => ?_) ?_; (on_goal 1 => clear_value q); (on_goal 2 => subst q)) | clear_value q) | apply ite_frame | apply modPort_frame | apply queueStamp_frame | split

theorem readTxq_frame : ∀ a0, a0.frame = y → (readTxq a0).frame = y := by
  intros; unfold readTxq
  with_reducible repeat' first | assumption | rfl | (extract_lets +onlyGivenNames q; first | (refine (fun (hq : q.frame = y) => ?_) ?_; (on_goal 1 => clear_value q); (on_goal 2 => subst q)) | (refine (fun (hq : q.2.frame = y) => ?_) ?_; (on_goal 1 => clear_value q); (on_goal 2 => subst q)) | clear_value q) | apply readAs_frame | apply modNet_frame | split

theorem deliverOne_frame : ∀ a0 a1, a1.frame = y → (deliverOne a0 a1).frame = y := by
  intros; unfold deliverOne
  with_reducible repeat' first | assumption | rfl | (extract_lets +onlyGivenNames q; first | (refine (fun (hq : q.frame = y) => ?_) ?_; (on_goal 1 => clear_value q); (on_goal 2 => subst q)) | (refine (fun (hq : q.2.frame = y) => ?_) ?_; (on_goal 1 => clear_value q); (on_goal 2 => subst q)) | clear_value q) | apply ite_frame | apply finish_frame | apply hostWrite_frame | apply modNet_frame

theorem deliverHeld_frame : ∀ a0, a0.frame = y → (deliverHeld a0).frame = y := by
  intros; unfold deliverHeld
  with_reducible repeat' first | assumption | rfl | (extract_lets +onlyGivenNames q; first | (refine (fun (hq : q.frame = y) => ?_) ?_; (on_goal 1 => clear_value q); (on_goal 2 => subst q)) | (refine (fun (hq : q.2.frame = y) => ?_) ?_; (on_goal 1 => clear_value q); (on_goal 2 => subst q)) | clear_value q) | refine forList_frame (fun i t y h => ?_) ?_ | apply deliverOne_frame | apply modNet_frame

theorem doNetRxPost_frame : ∀ a0 a1, a1.frame = y → (doNetRxPost a0 a1).frame = y := by
  intros; unfold doNetRxPost
  with_reducible repeat' first | assumption | rfl | (extract_lets +onlyGivenNames q; clear_value q) | apply ite_frame | apply finishFail_frame | apply modWork_frame | apply modNet_frame

theorem hostFrame_frame : ∀ a0 a1 a2 a3, a3.frame = y → (hostFrame a0 a1 a2 a3).frame = y := by
  intros; unfold hostFrame
  with_reducible repeat' first | assumption | rfl | (extract_lets +onlyGivenNames q; first | (refine (fun (hq : q.frame = y) => ?_) ?_; (on_goal 1 => clear_value q); (on_goal 2 => subst q)) | clear_value q) | apply ite_frame | apply modNet_frame | apply raise_frame | apply deliverOne_frame | split

theorem prpCopy_frame : ∀ a0 a1 a2, a2.frame = y → (prpCopy a0 a1 a2).2.frame = y := by
  intros; unfold prpCopy
  with_reducible repeat' first | assumption | rfl | (extract_lets +onlyGivenNames q; clear_value q) | apply ite_frame | apply ite_pframe | apply modNet_frame | apply raise_frame | split

theorem touchNode_frame : ∀ a0 a1, a1.frame = y → (touchNode a0 a1).frame = y := by
  intros; unfold touchNode
  with_reducible repeat' first | assumption | rfl | apply ite_frame | apply modNet_frame

theorem wrongLan_frame : ∀ a0 a1, a1.frame = y → (wrongLan a0 a1).frame = y := by
  intros; unfold wrongLan
  with_reducible repeat' first | assumption | rfl | (extract_lets +onlyGivenNames q; first | (refine (fun (hq : q.frame = y) => ?_) ?_; (on_goal 1 => clear_value q); (on_goal 2 => subst q)) | clear_value q) | apply ite_frame | apply modPort_frame | apply modNet_frame | apply raise_frame

theorem pairFrame_frame : ∀ a0 a1, a1.frame = y → (pairFrame a0 a1).frame = y := by
  intros; unfold pairFrame
  with_reducible repeat' first | assumption | rfl | (extract_lets +onlyGivenNames q; first | (refine (fun (hq : q.frame = y) => ?_) ?_; (on_goal 1 => clear_value q); (on_goal 2 => subst q)) | clear_value q) | apply ite_frame | apply modNet_frame | apply raise_frame | apply modPair_frame | apply staleCopy_frame

theorem deliverFrame_frame : ∀ a0 a1 a2 a3, a3.frame = y → (deliverFrame a0 a1 a2 a3).frame = y := by
  intros; unfold deliverFrame
  with_reducible repeat' first | assumption | rfl | (extract_lets +onlyGivenNames q; first | (refine (fun (hq : q.frame = y) => ?_) ?_; (on_goal 1 => clear_value q); (on_goal 2 => subst q)) | (refine (fun (hq : q.2.frame = y) => ?_) ?_; (on_goal 1 => clear_value q); (on_goal 2 => subst q)) | clear_value q) | apply ite_frame | apply pairFrame_frame | apply hostFrame_frame

theorem frameReceive_frame : ∀ a0 a1 a2 a3, a3.frame = y → (frameReceive a0 a1 a2 a3).frame = y := by
  intros; unfold frameReceive
  with_reducible repeat' first | assumption | rfl | (extract_lets +onlyGivenNames q; first | (refine (fun (hq : q.frame = y) => ?_) ?_; (on_goal 1 => clear_value q); (on_goal 2 => subst q)) | (refine (fun (hq : q.2.frame = y) => ?_) ?_; (on_goal 1 => clear_value q); (on_goal 2 => subst q)) | clear_value q) | apply ite_frame | apply modPort_frame | apply touchNode_frame | apply deliverFrame_frame | apply wrongLan_frame | apply prpCopy_frame | split

theorem dropFrames_frame : ∀ a0 a1, a1.frame = y → (dropFrames a0 a1).frame = y := by
  intros; unfold dropFrames
  with_reducible repeat' first | assumption | rfl | (extract_lets +onlyGivenNames q; first | (refine (fun (hq : q.frame = y) => ?_) ?_; (on_goal 1 => clear_value q); (on_goal 2 => subst q)) | clear_value q) | apply ite_frame | refine forList_frame (fun i t y h => ?_) ?_ | apply payTag_frame | apply modPort_frame | apply txDone_frame

theorem startStrengths_frame : ∀ a0 a1, a1.frame = y → (startStrengths a0 a1).frame = y := by
  intros; unfold startStrengths
  with_reducible repeat' first | assumption | rfl | (extract_lets +onlyGivenNames q; clear_value q) | apply ite_frame | apply modUnit_frame

theorem softTurnOff_frame : ∀ a0 a1 a2, a2.frame = y → (softTurnOff a0 a1 a2).frame = y := by
  intros; unfold softTurnOff
  with_reducible repeat' first | assumption | rfl | (extract_lets +onlyGivenNames q; clear_value q) | apply ite_frame | apply modUnit_frame

theorem uvloSeen_frame : ∀ a0 a1, a1.frame = y → (uvloSeen a0 a1).frame = y := by
  intros; unfold uvloSeen
  with_reducible repeat' first | assumption | rfl | (extract_lets +onlyGivenNames q; first | (refine (fun (hq : q.frame = y) => ?_) ?_; (on_goal 1 => clear_value q); (on_goal 2 => subst q)) | (refine (fun (hq : q.2.frame = y) => ?_) ?_; (on_goal 1 => clear_value q); (on_goal 2 => subst q)) | clear_value q) | apply stand_frame | apply raiseFull_frame

theorem uvloFound_frame : ∀ a0 a1, a1.frame = y → (uvloFound a0 a1).frame = y := by
  intros; unfold uvloFound
  with_reducible repeat' first | assumption | rfl | (extract_lets +onlyGivenNames q; first | (refine (fun (hq : q.frame = y) => ?_) ?_; (on_goal 1 => clear_value q); (on_goal 2 => subst q)) | (refine (fun (hq : q.2.frame = y) => ?_) ?_; (on_goal 1 => clear_value q); (on_goal 2 => subst q)) | clear_value q) | apply ite_frame | apply unstand_frame | apply uvloSeen_frame

theorem evaluate_frame : ∀ a0 a1, a1.frame = y → (evaluate a0 a1).frame = y := by
  intros; unfold evaluate
  with_reducible repeat' first | assumption | rfl | (extract_lets +onlyGivenNames q; first | (refine (fun (hq : q.frame = y) => ?_) ?_; (on_goal 1 => clear_value q); (on_goal 2 => subst q)) | clear_value q) | apply unstand_frame | apply modIsland_frame | apply uvloFound_frame

theorem linkLost_frame : ∀ a0 a1 a2, a2.frame = y → (linkLost a0 a1 a2).frame = y := by
  intros; unfold linkLost
  with_reducible repeat' first | assumption | rfl | (extract_lets +onlyGivenNames q; first | (refine (fun (hq : q.frame = y) => ?_) ?_; (on_goal 1 => clear_value q); (on_goal 2 => subst q)) | clear_value q) | apply ite_frame | apply modIsland_frame | apply stand_frame | apply raiseFull_frame

theorem adapt_frame : ∀ a0 a1 a2 a3, a3.frame = y → (adapt a0 a1 a2 a3).frame = y := by
  intros; unfold adapt
  with_reducible repeat' first | assumption | rfl | (extract_lets +onlyGivenNames q; first | (refine (fun (hq : q.frame = y) => ?_) ?_; (on_goal 1 => clear_value q); (on_goal 2 => subst q)) | clear_value q) | apply ite_frame | apply modUnit_frame | apply raise_frame

theorem desaturate_frame : ∀ a0 a1, a1.frame = y → (desaturate a0 a1).frame = y := by
  intros; unfold desaturate
  with_reducible repeat' first | assumption | rfl | (extract_lets +onlyGivenNames q; first | (refine (fun (hq : q.frame = y) => ?_) ?_; (on_goal 1 => clear_value q); (on_goal 2 => subst q)) | clear_value q) | apply ite_frame | apply modUnit_frame | apply softTurnOff_frame | apply raiseFull_frame

theorem writeIslTest_frame : ∀ a0 a1 a2, a2.frame = y → (writeIslTest a0 a1 a2).frame = y := by
  intros; unfold writeIslTest
  with_reducible repeat' first | assumption | rfl | (extract_lets +onlyGivenNames q; first | (refine (fun (hq : q.frame = y) => ?_) ?_; (on_goal 1 => clear_value q); (on_goal 2 => subst q)) | clear_value q) | apply ite_frame | refine forList_frame (fun i t y h => ?_) ?_ | refine foldl_frame (fun t i y h => ?_) _ _ ?_ | apply modIsland_frame | apply modUnit_frame

theorem tempStep_frame : ∀ a0 a1 a2 a3 a4 a5, a5.frame = y → (tempStep a0 a1 a2 a3 a4 a5).2.frame = y := by
  intros; unfold tempStep
  with_reducible repeat' first | assumption | rfl | (extract_lets +onlyGivenNames q; first | (refine (fun (hq : q.frame = y) => ?_) ?_; (on_goal 1 => clear_value q); (on_goal 2 => subst q)) | clear_value q) | apply ite_frame | apply ite_pframe | apply stand_frame | apply raise_frame | apply unstand_frame

theorem startIsland_frame : ∀ a0 a1, a1.frame = y → (startIsland a0 a1).frame = y := by
  intros; unfold startIsland
  with_reducible repeat' first | assumption | rfl | (extract_lets +onlyGivenNames q; first | (refine (fun (hq : q.frame = y) => ?_) ?_; (on_goal 1 => clear_value q); (on_goal 2 => subst q)) | clear_value q) | apply modIsland_frame | apply startStrengths_frame

theorem writeIslCtrl_frame : ∀ a0 a1 a2, a2.frame = y → (writeIslCtrl a0 a1 a2).frame = y := by
  intros; unfold writeIslCtrl
  with_reducible repeat' first | assumption | rfl | (extract_lets +onlyGivenNames q; first | (refine (fun (hq : q.frame = y) => ?_) ?_; (on_goal 1 => clear_value q); (on_goal 2 => subst q)) | (refine (fun (hq : q.2.frame = y) => ?_) ?_; (on_goal 1 => clear_value q); (on_goal 2 => subst q)) | clear_value q) | apply ite_frame | apply modIsland_frame

theorem writeIslStatus_frame : ∀ a0 a1 a2, a2.frame = y → (writeIslStatus a0 a1 a2).frame = y := by
  intros; unfold writeIslStatus
  with_reducible repeat' first | assumption | rfl | apply modIsland_frame

theorem setResident_frame : ∀ a0 a1 a2, a2.frame = y → (setResident a0 a1 a2).frame = y := by
  intros; unfold setResident
  with_reducible repeat' first | assumption | rfl | (extract_lets +onlyGivenNames q; clear_value q) | apply throughCtx_frame

theorem evict_frame : ∀ a0 a1, a1.frame = y → (evict a0 a1).frame = y := by
  intros; unfold evict
  with_reducible repeat' first | assumption | rfl | (extract_lets +onlyGivenNames q; first | (refine (fun (hq : q.frame = y) => ?_) ?_; (on_goal 1 => clear_value q); (on_goal 2 => subst q)) | (refine (fun (hq : q.2.frame = y) => ?_) ?_; (on_goal 1 => clear_value q); (on_goal 2 => subst q)) | clear_value q) | apply ite_frame | apply modLoop_frame | apply setResident_frame | apply writeBack_frame

theorem makeRoom_frame : ∀ a0, a0.frame = y → (makeRoom a0).frame = y := by
  intros; unfold makeRoom
  with_reducible repeat' first | assumption | rfl | (extract_lets +onlyGivenNames q; first | (refine (fun (hq : q.frame = y) => ?_) ?_; (on_goal 1 => clear_value q); (on_goal 2 => subst q)) | (refine (fun (hq : q.2.frame = y) => ?_) ?_; (on_goal 1 => clear_value q); (on_goal 2 => subst q)) | clear_value q) | apply ite_frame | apply evict_frame | apply modRt_frame | split

theorem loadEntry_frame : ∀ a0 a1, a1.frame = y → (loadEntry a0 a1).frame = y := by
  intros; unfold loadEntry
  with_reducible repeat' first | assumption | rfl | (extract_lets +onlyGivenNames q; first | (refine (fun (hq : q.frame = y) => ?_) ?_; (on_goal 1 => clear_value q); (on_goal 2 => subst q)) | clear_value q) | apply readMem_frame | apply setResident_frame | apply modLoop_frame

theorem loadRoom_frame : ∀ a0 a1, a1.frame = y → (loadRoom a0 a1).frame = y := by
  intros; unfold loadRoom
  with_reducible repeat' first | assumption | rfl | (extract_lets +onlyGivenNames q; first | (refine (fun (hq : q.frame = y) => ?_) ?_; (on_goal 1 => clear_value q); (on_goal 2 => subst q)) | clear_value q) | apply ite_frame | apply makeRoom_frame | apply loadEntry_frame

theorem readEntry_frame : ∀ a0 a1, a1.frame = y → (readEntry a0 a1).frame = y := by
  intros; unfold readEntry
  with_reducible repeat' first | assumption | rfl | (extract_lets +onlyGivenNames q; first | (refine (fun (hq : q.frame = y) => ?_) ?_; (on_goal 1 => clear_value q); (on_goal 2 => subst q)) | (refine (fun (hq : q.2.frame = y) => ?_) ?_; (on_goal 1 => clear_value q); (on_goal 2 => subst q)) | clear_value q) | apply ite_frame | apply fresh_frame | apply captureError_frame | apply raise_frame | apply modLoop_frame | apply setResident_frame | apply modRt_frame | split

theorem issuePrefetch_frame : ∀ a0 a1, a1.frame = y → (issuePrefetch a0 a1).frame = y := by
  intros; unfold issuePrefetch
  with_reducible repeat' first | assumption | rfl | (extract_lets +onlyGivenNames q; first | (refine (fun (hq : q.frame = y) => ?_) ?_; (on_goal 1 => clear_value q); (on_goal 2 => subst q)) | clear_value q) | apply ite_frame | apply modArb_frame | apply modRt_frame

theorem setRamp_frame : ∀ a0 a1 a2 a3, a3.frame = y → (setRamp a0 a1 a2 a3).frame = y := by
  intros; unfold setRamp
  with_reducible repeat' first | assumption | rfl | (extract_lets +onlyGivenNames q; first | (refine (fun (hq : q.frame = y) => ?_) ?_; (on_goal 1 => clear_value q); (on_goal 2 => subst q)) | (refine (fun (hq : q.2.frame = y) => ?_) ?_; (on_goal 1 => clear_value q); (on_goal 2 => subst q)) | clear_value q) | apply setSw_frame

theorem setpoint_frame : ∀ a0 a1 a2 a3 a4 a5 a6 a7, a7.frame = y → (setpoint a0 a1 a2 a3 a4 a5 a6 a7).2.frame = y := by
  intros; unfold setpoint
  with_reducible repeat' first | assumption | rfl | (extract_lets +onlyGivenNames q; first | (refine (fun (hq : q.frame = y) => ?_) ?_; (on_goal 1 => clear_value q); (on_goal 2 => subst q)) | clear_value q) | apply ite_frame | apply ite_pframe | apply modRt_frame | apply setRamp_frame

theorem putVsm_frame : ∀ a0 a1 a2, a2.frame = y → (putVsm a0 a1 a2).frame = y := by
  intros; unfold putVsm
  with_reducible repeat' first | assumption | rfl | (extract_lets +onlyGivenNames q; first | (refine (fun (hq : q.frame = y) => ?_) ?_; (on_goal 1 => clear_value q); (on_goal 2 => subst q)) | clear_value q) | apply ite_frame | refine forList_frame (fun i t y h => ?_) ?_ | apply setSw_frame | apply modRt_frame | apply setRamp_frame

theorem reportShed_frame : ∀ a0 a1 a2, a2.frame = y → (reportShed a0 a1 a2).frame = y := by
  intros; unfold reportShed
  with_reducible repeat' first | assumption | rfl | (extract_lets +onlyGivenNames q; clear_value q) | apply ite_frame | apply raise_frame | apply modRt_frame

theorem transition_frame : ∀ a0 a1 a2 a3, a3.frame = y → (transition a0 a1 a2 a3).frame = y := by
  intros; unfold transition
  with_reducible repeat' first | assumption | rfl | (extract_lets +onlyGivenNames q; first | (refine (fun (hq : q.frame = y) => ?_) ?_; (on_goal 1 => clear_value q); (on_goal 2 => subst q)) | clear_value q) | apply ite_frame | apply putVsm_frame | apply raiseFull_frame | apply setOutVal_frame | apply reportShed_frame

theorem vsmRun_frame : ∀ a0 a1 a2 a3, a3.frame = y → (vsmRun a0 a1 a2 a3).s.frame = y := by
  intro c n ins s h
  have key : ∀ (t : State) (q : Option Nat), t.frame = y → (match q with | some m => transition c m ins t | none => t).frame = y := by
    intro t q ht
    cases q
    · exact ht
    · exact transition_frame _ _ _ _ ht
  exact key _ _ (reportShed_frame _ _ _ (ite_frame (raise_frame _ _ _ _ _ (modRt_frame _ _ _ (putVsm_frame _ _ _ (setpoint_frame _ _ _ _ _ _ _ _ h))))
    (modRt_frame _ _ _ (putVsm_frame _ _ _ (setpoint_frame _ _ _ _ _ _ _ _ h)))))

theorem droopRun_frame : ∀ a0 a1 a2, a2.frame = y → (droopRun a0 a1 a2).s.frame = y := by
  intro c ins s h
  unfold droopRun
  extract_lets a b t
  have ht : t.frame = y := setpoint_frame _ _ _ _ _ _ _ _ (setpoint_frame _ _ _ _ _ _ _ _ h)
  clear_value t
  exact setSw_frame _ _ _ _ ht

theorem putAdapt_frame : ∀ a0 a1 a2, a2.frame = y → (putAdapt a0 a1 a2).frame = y := by
  intros; unfold putAdapt
  with_reducible repeat' first | assumption | rfl | apply modRt_frame

theorem impedanceRun_frame : ∀ a0 a1 a2, a2.frame = y → (impedanceRun a0 a1 a2).s.frame = y := by
  intro c ins s h
  exact putAdapt_frame _ _ _ (setSw_frame _ _ _ _ h)

theorem overloadStep_frame : ∀ a0 a1 a2, a2.frame = y → (overloadStep a0 a1 a2).frame = y := by
  intros; unfold overloadStep
  with_reducible repeat' first | assumption | rfl | (extract_lets +onlyGivenNames q; first | (refine (fun (hq : q.frame = y) => ?_) ?_; (on_goal 1 => clear_value q); (on_goal 2 => subst q)) | clear_value q) | apply ite_frame | apply setSw_frame | apply modRt_frame

theorem envelopeRun_frame : ∀ a0 a1 a2, a2.frame = y → (envelopeRun a0 a1 a2).s.frame = y := by
  intros; unfold envelopeRun
  with_reducible repeat' first | assumption | rfl | (extract_lets +onlyGivenNames q; first | (refine (fun (hq : q.frame = y) => ?_) ?_; (on_goal 1 => clear_value q); (on_goal 2 => subst q)) | clear_value q) | apply ite_frame | apply ite_rframe | apply overloadStep_frame | apply modRt_frame | apply setSw_frame

theorem synchroniserRun_frame : ∀ a0 a1 a2 a3, a3.frame = y → (synchroniserRun a0 a1 a2 a3).s.frame = y := by
  intros; unfold synchroniserRun
  with_reducible repeat' first | assumption | rfl | (extract_lets +onlyGivenNames q; first | (refine (fun (hq : q.frame = y) => ?_) ?_; (on_goal 1 => clear_value q); (on_goal 2 => subst q)) | clear_value q) | apply ite_frame | apply ite_rframe | apply setSw_frame | apply modRt_frame

theorem putSeqr_frame : ∀ a0 a1 a2 a3, a3.frame = y → (putSeqr a0 a1 a2 a3).frame = y := by
  intros; unfold putSeqr
  with_reducible repeat' first | assumption | rfl | (extract_lets +onlyGivenNames q; first | (refine (fun (hq : q.frame = y) => ?_) ?_; (on_goal 1 => clear_value q); (on_goal 2 => subst q)) | clear_value q) | apply ite_frame | refine forList_frame (fun i t y h => ?_) ?_ | apply setSw_frame | apply modRt_frame | apply stand_frame | apply settleBusFb_frame | apply throughCtx_frame | apply raise_frame | apply setOutVal_frame

theorem applyWrite_frame : ∀ a0 a1 a2 a3, a3.frame = y → (applyWrite a0 a1 a2 a3).frame = y := by
  intros; unfold applyWrite
  with_reducible repeat' first | assumption | rfl | (extract_lets +onlyGivenNames q; first | (refine (fun (hq : q.frame = y) => ?_) ?_; (on_goal 1 => clear_value q); (on_goal 2 => subst q)) | clear_value q) | apply ite_frame | apply throughCtx_frame | apply modRt_frame

theorem completeKept_frame : ∀ a0 a1, a1.frame = y → (completeKept a0 a1).frame = y := by
  intros; unfold completeKept
  with_reducible repeat' first | assumption | rfl | (extract_lets +onlyGivenNames q; clear_value q) | refine forList_frame (fun i t y h => ?_) ?_ | apply finishOk_frame | apply applyWrite_frame | apply modRt_frame

theorem sequencerRun_frame : ∀ a0 a1 a2 a3, a3.frame = y → (sequencerRun a0 a1 a2 a3).s.frame = y := by
  intros; unfold sequencerRun
  with_reducible repeat' first | assumption | rfl | (extract_lets +onlyGivenNames q; first | (refine (fun (hq : q.frame = y) => ?_) ?_; (on_goal 1 => clear_value q); (on_goal 2 => subst q)) | clear_value q) | apply ite_frame | apply ite_rframe | apply completeKept_frame | apply putSeqr_frame

end Sys2Proof.Machine
end

