-- ==== Sys2Proof/Laws/FrameOps3.lean ====
section
/-!
SUPPORT. The frame of the operations of Forming, Microcode, LoopCheck, Probe, Run, CtxCmd, Release, Pair, Events, Arb, Image, Capture, Rings: each keeps the queue, the register words and the Seal record.
-/
namespace Sys2Proof.Machine

open Sys2Proof

variable {y : List Instr × List (Nat × Word32) × List (Nat × Word32)}

theorem tableRun_frame : ∀ a0 a1 a2 a3, a3.frame = y → (tableRun a0 a1 a2 a3).s.frame = y := by
  intros; unfold tableRun
  with_reducible repeat' first | assumption | rfl | (extract_lets +onlyGivenNames q; clear_value q) | apply ite_frame | apply ite_rframe | apply setSw_frame

theorem setWords_frame : ∀ a0 a1 a2 a3, a3.frame = y → (setWords a0 a1 a2 a3).frame = y := by
  intros; unfold setWords
  with_reducible repeat' first | assumption | rfl | (extract_lets +onlyGivenNames q; first | (refine (fun (hq : q.frame = y) => ?_) ?_; (on_goal 1 => clear_value q); (on_goal 2 => subst q)) | (refine (fun (hq : q.2.frame = y) => ?_) ?_; (on_goal 1 => clear_value q); (on_goal 2 => subst q)) | clear_value q) | refine foldl_frame (fun t i y h => ?_) _ _ ?_ | apply setSw_frame

theorem freeSetpoints_frame : ∀ a0 a1 a2 a3 a4, a4.frame = y → (freeSetpoints a0 a1 a2 a3 a4).frame = y := by
  intros; unfold freeSetpoints
  with_reducible repeat' first | assumption | rfl | (extract_lets +onlyGivenNames q; first | (refine (fun (hq : q.frame = y) => ?_) ?_; (on_goal 1 => clear_value q); (on_goal 2 => subst q)) | (refine (fun (hq : q.2.frame = y) => ?_) ?_; (on_goal 1 => clear_value q); (on_goal 2 => subst q)) | clear_value q) | refine foldl_frame (fun t i y h => ?_) _ _ ?_ | apply setpoint_frame

theorem freeRun_frame : ∀ a0 a1 a2 a3 a4, a4.frame = y → (freeRun a0 a1 a2 a3 a4).s.frame = y := by
  intros; unfold freeRun
  with_reducible repeat' first | assumption | rfl | (extract_lets +onlyGivenNames q; first | (refine (fun (hq : q.frame = y) => ?_) ?_; (on_goal 1 => clear_value q); (on_goal 2 => subst q)) | clear_value q) | apply ite_frame | apply ite_rframe | apply setWords_frame | apply freeSetpoints_frame

theorem separatorRun_frame : ∀ a0 a1 a2 a3, a3.frame = y → (separatorRun a0 a1 a2 a3).s.frame = y := by
  intros; unfold separatorRun
  with_reducible repeat' first | assumption | rfl | (extract_lets +onlyGivenNames q; (refine (fun (hq : q.s.frame = y) => ?_) ?_; (on_goal 1 => clear_value q); (on_goal 2 => subst q))) | apply ite_rframe | apply freeRun_frame

theorem meterRun_frame : ∀ a0 a1 a2 a3, a3.frame = y → (meterRun a0 a1 a2 a3).s.frame = y := by
  intros; unfold meterRun
  with_reducible repeat' first | assumption | rfl | (extract_lets +onlyGivenNames q; first | (refine (fun (hq : q.frame = y) => ?_) ?_; (on_goal 1 => clear_value q); (on_goal 2 => subst q)) | clear_value q) | apply ite_frame | apply ite_rframe | apply setSw_frame | apply setWords_frame

theorem voltageRun_frame : ∀ a0 a1 a2 a3, a3.frame = y → (voltageRun a0 a1 a2 a3).s.frame = y := by
  intros; unfold voltageRun
  with_reducible repeat' first | assumption | rfl | (extract_lets +onlyGivenNames q; first | (refine (fun (hq : q.s.frame = y) => ?_) ?_; (on_goal 1 => clear_value q); (on_goal 2 => subst q)) | clear_value q) | apply ite_rframe | apply freeRun_frame | apply modRt_frame | apply setSw_frame

theorem harmonicRun_frame : ∀ a0 a1 a2 a3, a3.frame = y → (harmonicRun a0 a1 a2 a3).s.frame = y := by
  intros; unfold harmonicRun
  with_reducible repeat' first | assumption | rfl | (extract_lets +onlyGivenNames q; first | (refine (fun (hq : q.s.frame = y) => ?_) ?_; (on_goal 1 => clear_value q); (on_goal 2 => subst q)) | clear_value q) | apply ite_rframe | apply freeRun_frame | apply modRt_frame

theorem legRun_frame : ∀ a0 a1 a2 a3, a3.frame = y → (legRun a0 a1 a2 a3).s.frame = y := by
  intros; unfold legRun
  with_reducible repeat' first | assumption | rfl | (extract_lets +onlyGivenNames q; first | (refine (fun (hq : q.s.frame = y) => ?_) ?_; (on_goal 1 => clear_value q); (on_goal 2 => subst q)) | clear_value q) | apply ite_frame | apply ite_rframe | apply freeRun_frame | apply modRt_frame | split

theorem beginPoint_frame : ∀ a0 a1 a2 a3, a3.frame = y → (beginPoint a0 a1 a2 a3).frame = y := by
  intros; unfold beginPoint
  with_reducible repeat' first | assumption | rfl | (extract_lets +onlyGivenNames q; clear_value q) | apply setSw_frame | apply modRt_frame

theorem watchRun_frame : ∀ a0 a1 a2 a3, a3.frame = y → (watchRun a0 a1 a2 a3).s.frame = y := by
  intros; unfold watchRun
  with_reducible repeat' first | assumption | rfl | (extract_lets +onlyGivenNames q; clear_value q) | apply ite_frame | apply ite_rframe | refine foldl_frame (fun t i y h => ?_) _ _ ?_ | apply modRt_frame | apply setSw_frame

theorem writeUcode_frame : ∀ a0 a1, a1.frame = y → (writeUcode a0 a1).frame = y := by
  intros; unfold writeUcode
  with_reducible repeat' first | assumption | rfl | (extract_lets +onlyGivenNames q; first | (refine (fun (hq : q.frame = y) => ?_) ?_; (on_goal 1 => clear_value q); (on_goal 2 => subst q)) | (refine (fun (hq : q.2.frame = y) => ?_) ?_; (on_goal 1 => clear_value q); (on_goal 2 => subst q)) | clear_value q) | apply ite_frame | apply rwsWritten_frame | apply modLoop_frame

theorem writeUcodeCtrl_frame : ∀ a0 a1, a1.frame = y → (writeUcodeCtrl a0 a1).frame = y := by
  intros; unfold writeUcodeCtrl
  with_reducible repeat' first | assumption | rfl | (extract_lets +onlyGivenNames q; first | (refine (fun (hq : q.frame = y) => ?_) ?_; (on_goal 1 => clear_value q); (on_goal 2 => subst q)) | (refine (fun (hq : q.2.frame = y) => ?_) ?_; (on_goal 1 => clear_value q); (on_goal 2 => subst q)) | clear_value q) | apply ite_frame | apply rwsWritten_frame | apply modLoop_frame

theorem verifyDone_frame : ∀ a0, a0.frame = y → (verifyDone a0).frame = y := by
  intros; unfold verifyDone
  with_reducible repeat' first | assumption | rfl | (extract_lets +onlyGivenNames q; first | (refine (fun (hq : q.frame = y) => ?_) ?_; (on_goal 1 => clear_value q); (on_goal 2 => subst q)) | clear_value q) | apply ite_frame | apply modLoop_frame | apply write_frame | apply raise_frame

theorem ucodeRun_frame : ∀ a0 a1 a2, a2.frame = y → (ucodeRun a0 a1 a2).s.frame = y := by
  intros; unfold ucodeRun
  with_reducible repeat' first | assumption | rfl | (extract_lets +onlyGivenNames q; first | (refine (fun (hq : q.frame = y) => ?_) ?_; (on_goal 1 => clear_value q); (on_goal 2 => subst q)) | clear_value q) | apply ite_rframe | refine forList_frame (fun i t y h => ?_) ?_ | refine foldl_frame (fun t i y h => ?_) _ _ ?_ | apply setSw_frame | apply raise_frame

theorem templateRun_frame : ∀ a0 a1 a2 a3, a3.frame = y → (templateRun a0 a1 a2 a3).s.frame = y := by
  intros; unfold templateRun
  with_reducible repeat' first | assumption | rfl | apply ite_rframe | apply vsmRun_frame | apply droopRun_frame | apply voltageRun_frame | apply legRun_frame | apply impedanceRun_frame | apply envelopeRun_frame | apply separatorRun_frame | apply harmonicRun_frame | apply synchroniserRun_frame | apply sequencerRun_frame | apply meterRun_frame | apply tableRun_frame | apply watchRun_frame | apply ucodeRun_frame | apply freeRun_frame | split

theorem showTbLimit_frame : ∀ a0, a0.frame = y → (showTbLimit a0).frame = y := by
  intros; unfold showTbLimit
  with_reducible repeat' first | assumption | rfl | apply modLoop_frame

theorem storeCost_frame : ∀ a0 a1, a1.frame = y → (storeCost a0 a1).frame = y := by
  intros; unfold storeCost
  with_reducible repeat' first | assumption | rfl | apply throughCtx_frame

theorem setPb_frame : ∀ a0 a1 a2 a3, a3.frame = y → (setPb a0 a1 a2 a3).frame = y := by
  intros; unfold setPb
  with_reducible repeat' first | assumption | rfl | apply throughCtx_frame

theorem endProbe_frame : ∀ a0 a1 a2, a2.frame = y → (endProbe a0 a1 a2).frame = y := by
  intros; unfold endProbe
  with_reducible repeat' first | assumption | rfl | (extract_lets +onlyGivenNames q; first | (refine (fun (hq : q.frame = y) => ?_) ?_; (on_goal 1 => clear_value q); (on_goal 2 => subst q)) | (refine (fun (hq : q.2.frame = y) => ?_) ?_; (on_goal 1 => clear_value q); (on_goal 2 => subst q)) | clear_value q) | apply raise_frame | apply modProbe_frame | apply setPb_frame | split

theorem advanceProbe_frame : ∀ a0 a1, a1.frame = y → (advanceProbe a0 a1).frame = y := by
  intros; unfold advanceProbe
  with_reducible repeat' first | assumption | rfl | (extract_lets +onlyGivenNames q; clear_value q) | apply ite_frame | apply modProbe_frame | split

theorem recordProbe_frame : ∀ a0 a1 a2 a3 a4, a4.frame = y → (recordProbe a0 a1 a2 a3 a4).frame = y := by
  intros; unfold recordProbe
  with_reducible repeat' first | assumption | rfl | (extract_lets +onlyGivenNames q; first | (refine (fun (hq : q.frame = y) => ?_) ?_; (on_goal 1 => clear_value q); (on_goal 2 => subst q)) | clear_value q) | apply ite_frame | apply setPb_frame | apply write_frame | apply endProbe_frame | split

theorem readInputs_frame : ∀ a0 a1, a1.frame = y → (readInputs a0 a1).2.frame = y := by
  intro c s h
  have key : ∀ (l : List Nat) (a : List (Word16 × Bool) × State), a.2.frame = y →
      (l.foldl (fun (a : List (Word16 × Bool) × State) n =>
        match a.2.slotRead c n with
        | some v => (a.1 ++ [v], a.2)
        | none => let f := a.2.fresh; (a.1 ++ [(f.1.setWidth 16, false)], f.2)) a).2.frame = y := by
    intro l
    induction l with
    | nil => exact fun a ha => ha
    | cons n t ih =>
      intro a ha
      refine ih _ ?_
      beta_reduce
      split
      · exact ha
      · exact fresh_frame _ ha
  exact key _ _ h

theorem setLost_frame : ∀ a0 a1 a2, a2.frame = y → (setLost a0 a1 a2).frame = y := by
  intros; unfold setLost
  with_reducible repeat' first | assumption | rfl | (extract_lets +onlyGivenNames q; first | (refine (fun (hq : q.frame = y) => ?_) ?_; (on_goal 1 => clear_value q); (on_goal 2 => subst q)) | (refine (fun (hq : q.2.frame = y) => ?_) ?_; (on_goal 1 => clear_value q); (on_goal 2 => subst q)) | clear_value q) | apply ite_frame | apply throughCtx_frame

theorem setOpenLoop_frame : ∀ a0 a1 a2, a2.frame = y → (setOpenLoop a0 a1 a2).frame = y := by
  intros; unfold setOpenLoop
  with_reducible repeat' first | assumption | rfl | apply modLoop_frame

theorem closeLoop_frame : ∀ a0 a1, a1.frame = y → (closeLoop a0 a1).frame = y := by
  intros; unfold closeLoop
  with_reducible repeat' first | assumption | rfl | (extract_lets +onlyGivenNames q; first | (refine (fun (hq : q.frame = y) => ?_) ?_; (on_goal 1 => clear_value q); (on_goal 2 => subst q)) | clear_value q) | apply ite_frame | apply setCtxState_frame | apply setWords_frame | apply modRt_frame

theorem settleHeldFb_frame : ∀ a0 a1, a1.frame = y → (settleHeldFb a0 a1).frame = y := by
  intros; unfold settleHeldFb
  with_reducible repeat' first | assumption | rfl | (extract_lets +onlyGivenNames q; first | (refine (fun (hq : q.frame = y) => ?_) ?_; (on_goal 1 => clear_value q); (on_goal 2 => subst q)) | (refine (fun (hq : q.2.frame = y) => ?_) ?_; (on_goal 1 => clear_value q); (on_goal 2 => subst q)) | clear_value q) | apply ite_frame | apply unstand_frame

theorem settleLost_frame : ∀ a0 a1, a1.frame = y → (settleLost a0 a1).frame = y := by
  intros; unfold settleLost
  with_reducible repeat' first | assumption | rfl | (extract_lets +onlyGivenNames q; first | (refine (fun (hq : q.frame = y) => ?_) ?_; (on_goal 1 => clear_value q); (on_goal 2 => subst q)) | clear_value q) | apply ite_frame | refine forList_frame (fun i t y h => ?_) ?_ | apply settleHeldFb_frame | apply unstand_frame | apply setOpenLoop_frame | apply closeLoop_frame | apply raise_frame | split

theorem holdCtx_frame : ∀ a0 a1, a1.frame = y → (holdCtx a0 a1).frame = y := by
  intros; unfold holdCtx
  with_reducible repeat' first | assumption | rfl | (extract_lets +onlyGivenNames q; first | (refine (fun (hq : q.frame = y) => ?_) ?_; (on_goal 1 => clear_value q); (on_goal 2 => subst q)) | (refine (fun (hq : q.2.frame = y) => ?_) ?_; (on_goal 1 => clear_value q); (on_goal 2 => subst q)) | clear_value q) | apply endProbe_frame | apply setCtxState_frame

theorem loseFeedback_frame : ∀ a0 a1 a2, a2.frame = y → (loseFeedback a0 a1 a2).frame = y := by
  intros; unfold loseFeedback
  with_reducible repeat' first | assumption | rfl | (extract_lets +onlyGivenNames q; first | (refine (fun (hq : q.frame = y) => ?_) ?_; (on_goal 1 => clear_value q); (on_goal 2 => subst q)) | clear_value q) | apply ite_frame | refine forList_frame (fun i t y h => ?_) ?_ | apply stand_frame | apply raiseFull_frame | apply setOpenLoop_frame | apply setCtxState_frame | apply modRt_frame | apply holdCtx_frame | apply raise_frame | split

theorem runDetectors_frame : ∀ a0 a1 a2, a2.frame = y → (runDetectors a0 a1 a2).frame = y := by
  intros; unfold runDetectors
  with_reducible repeat' first | assumption | rfl | (extract_lets +onlyGivenNames q; first | (refine (fun (hq : q.frame = y) => ?_) ?_; (on_goal 1 => clear_value q); (on_goal 2 => subst q)) | clear_value q) | apply ite_frame | apply modRt_frame | apply setLost_frame | apply settleLost_frame | apply loseFeedback_frame

theorem countRun_frame : ∀ a0 a1 a2, a2.frame = y → (countRun a0 a1 a2).frame = y := by
  intros; unfold countRun
  with_reducible repeat' first | assumption | rfl | (extract_lets +onlyGivenNames q; first | (refine (fun (hq : q.frame = y) => ?_) ?_; (on_goal 1 => clear_value q); (on_goal 2 => subst q)) | clear_value q) | apply ite_frame | apply throughCtx_frame | apply stepCtx32_frame | apply stepCtx16_frame

theorem runWith_frame : ∀ a0 a1 a2, a2.frame = y → (runWith a0 a1 a2).frame = y := by
  intro c vals s h
  unfold runWith
  extract_lets n ins inj quiet r u v
  have hr : r.s.frame = y := ite_rframe h (templateRun_frame _ _ _ _ h)
  have hu : u.frame = y := forList_frame (fun o t y h => setOutVal_frame _ _ _ _ h) hr
  exact recordProbe_frame _ _ _ _ _ (modRt_frame _ _ _ (countRun_frame _ _ _ hu))

theorem skipRun_frame : ∀ a0 a1, a1.frame = y → (skipRun a0 a1).frame = y := by
  intros; unfold skipRun
  with_reducible repeat' first | assumption | rfl | (extract_lets +onlyGivenNames q; first | (refine (fun (hq : q.frame = y) => ?_) ?_; (on_goal 1 => clear_value q); (on_goal 2 => subst q)) | (refine (fun (hq : q.2.frame = y) => ?_) ?_; (on_goal 1 => clear_value q); (on_goal 2 => subst q)) | clear_value q) | apply ite_frame | apply modLoop_frame | apply stepCtx16_frame | apply raise_frame | apply modRt_frame | apply freshN_frame | apply recordProbe_frame

theorem modLane_frame : ∀ a0 a1 a2, a2.frame = y → (modLane a0 a1 a2).frame = y := by
  intros; unfold modLane
  with_reducible repeat' first | assumption | rfl | apply modLoop_frame

theorem startRun_frame : ∀ a0 a1 a2, a2.frame = y → (startRun a0 a1 a2).frame = y := by
  intros; unfold startRun
  with_reducible repeat' first | assumption | rfl | (extract_lets +onlyGivenNames q; first | (refine (fun (hq : q.frame = y) => ?_) ?_; (on_goal 1 => clear_value q); (on_goal 2 => subst q)) | (refine (fun (hq : q.2.frame = y) => ?_) ?_; (on_goal 1 => clear_value q); (on_goal 2 => subst q)) | clear_value q) | apply ite_frame | apply readEntry_frame | apply modRt_frame | apply skipRun_frame | apply loadRoom_frame | apply readInputs_frame | apply runDetectors_frame | apply modLane_frame

theorem dispatchN_frame : ∀ a0 a1, a1.frame = y → (dispatchN a0 a1).frame = y := by
  intro n
  induction n with
  | zero => exact fun s h => h
  | succ n ih =>
    intro s h
    unfold dispatchN
    split
    · rename_i t ht
      refine ih t ?_
      unfold laneStep at ht
      extract_lets region first free timebase at ht
      clear_value region first free timebase
      split at ht
      · cases ht; exact startRun_frame _ _ _ h
      · split at ht
        · cases ht; exact startRun_frame _ _ _ (modLane_frame _ _ _ h)
        · split at ht
          · cases ht; exact modLane_frame _ _ _ h
          · obtain ⟨p, _, hp⟩ := Option.map_eq_some_iff.1 ht
            subst hp
            exact startRun_frame _ _ _ h
    · exact h

theorem dispatch_frame : ∀ a0, a0.frame = y → (dispatch a0).frame = y := by
  intros; unfold dispatch
  with_reducible repeat' first | assumption | rfl | (extract_lets +onlyGivenNames q; first | (refine (fun (hq : q.frame = y) => ?_) ?_; (on_goal 1 => clear_value q); (on_goal 2 => subst q)) | (refine (fun (hq : q.2.frame = y) => ?_) ?_; (on_goal 1 => clear_value q); (on_goal 2 => subst q)) | clear_value q) | apply ite_frame | apply dispatchN_frame

theorem completeRun_frame : ∀ a0 a1, a1.frame = y → (completeRun a0 a1).frame = y := by
  intros; unfold completeRun
  with_reducible repeat' first | assumption | rfl | (extract_lets +onlyGivenNames q; first | (refine (fun (hq : q.frame = y) => ?_) ?_; (on_goal 1 => clear_value q); (on_goal 2 => subst q)) | clear_value q) | apply ite_frame | apply runWith_frame | apply modRt_frame | apply dispatch_frame | apply modLoop_frame

theorem holdWrite_frame : ∀ a0 a1 a2 a3 a4 a5, a5.frame = y → (holdWrite a0 a1 a2 a3 a4 a5).frame = y := by
  intros; unfold holdWrite
  with_reducible repeat' first | assumption | rfl | (extract_lets +onlyGivenNames q; first | (refine (fun (hq : q.frame = y) => ?_) ?_; (on_goal 1 => clear_value q); (on_goal 2 => subst q)) | clear_value q) | apply ite_frame | apply modPair_frame | apply pairSend_frame | apply applying_frame

theorem applyHeld_frame : ∀ a0 a1, a1.frame = y → (applyHeld a0 a1).frame = y := by
  intros; unfold applyHeld
  with_reducible repeat' first | assumption | rfl | (extract_lets +onlyGivenNames q; first | (refine (fun (hq : q.frame = y) => ?_) ?_; (on_goal 1 => clear_value q); (on_goal 2 => subst q)) | clear_value q) | apply applyWrite_frame | apply modPair_frame | apply finishOk_frame | split

theorem doCtxWrite_frame : ∀ a0 a1, a1.frame = y → (doCtxWrite a0 a1).frame = y := by
  intros; unfold doCtxWrite
  with_reducible repeat' first | assumption | rfl | (extract_lets +onlyGivenNames q; first | (refine (fun (hq : q.frame = y) => ?_) ?_; (on_goal 1 => clear_value q); (on_goal 2 => subst q)) | clear_value q) | apply ite_frame | apply finishFail_frame | apply fetchData_frame | apply applyWrite_frame | apply modWork_frame | apply modRt_frame | apply holdWrite_frame | apply finishOk_frame | split | intro _ | (apply mk_frame; apply fold_frame)

theorem applyOrphan_frame : ∀ a0 a1, a1.frame = y → (applyOrphan a0 a1).frame = y := by
  intros; unfold applyOrphan
  with_reducible repeat' first | assumption | rfl | (extract_lets +onlyGivenNames q; first | (refine (fun (hq : q.frame = y) => ?_) ?_; (on_goal 1 => clear_value q); (on_goal 2 => subst q)) | (refine (fun (hq : q.2.frame = y) => ?_) ?_; (on_goal 1 => clear_value q); (on_goal 2 => subst q)) | clear_value q) | apply ite_frame | apply applyHeld_frame | split

theorem doCtxRead_frame : ∀ a0 a1, a1.frame = y → (doCtxRead a0 a1).frame = y := by
  intros; unfold doCtxRead
  with_reducible repeat' first | assumption | rfl | (extract_lets +onlyGivenNames q; clear_value q) | apply finishFail_frame | apply finishOk_frame | apply hostWrite_frame | split

theorem clearWords_frame : ∀ a0 a1, a1.frame = y → (clearWords a0 a1).frame = y := by
  intros; unfold clearWords
  with_reducible repeat' first | assumption | rfl | (extract_lets +onlyGivenNames q; first | (refine (fun (hq : q.frame = y) => ?_) ?_; (on_goal 1 => clear_value q); (on_goal 2 => subst q)) | clear_value q) | apply ite_frame | refine forList_frame (fun i t y h => ?_) ?_ | apply write_frame | apply setSw_frame

theorem doCtxEnable_frame : ∀ a0 a1, a1.frame = y → (doCtxEnable a0 a1).frame = y := by
  intros; unfold doCtxEnable
  with_reducible repeat' first | assumption | rfl | (extract_lets +onlyGivenNames q; first | (refine (fun (hq : q.frame = y) => ?_) ?_; (on_goal 1 => clear_value q); (on_goal 2 => subst q)) | clear_value q) | apply ite_frame | apply finishFail_frame | apply storeCost_frame | apply setCtxState_frame | apply makeRoom_frame | apply modRt_frame | apply setLost_frame | apply clearWords_frame | apply saveRt_frame | apply loadEntry_frame | apply finishOk_frame | apply showTbLimit_frame

theorem disableCtx_frame : ∀ a0 a1, a1.frame = y → (disableCtx a0 a1).frame = y := by
  intros; unfold disableCtx
  with_reducible repeat' first | assumption | rfl | (extract_lets +onlyGivenNames q; first | (refine (fun (hq : q.frame = y) => ?_) ?_; (on_goal 1 => clear_value q); (on_goal 2 => subst q)) | clear_value q) | apply ite_frame | refine forList_frame (fun i t y h => ?_) ?_ | apply showTbLimit_frame | apply setCtxState_frame | apply evict_frame | apply endProbe_frame | apply finishFail_frame | apply saveRt_frame | apply modRt_frame | apply settleBusFb_frame | apply settleHeldFb_frame | apply unstand_frame | apply settleLost_frame | apply setOpenLoop_frame | split

theorem doCtxDisable_frame : ∀ a0 a1, a1.frame = y → (doCtxDisable a0 a1).frame = y := by
  intros; unfold doCtxDisable
  with_reducible repeat' first | assumption | rfl | (extract_lets +onlyGivenNames q; clear_value q) | apply ite_frame | apply finishFail_frame | apply finishOk_frame | apply disableCtx_frame

theorem doProbeStart_frame : ∀ a0 a1, a1.frame = y → (doProbeStart a0 a1).frame = y := by
  intros; unfold doProbeStart
  with_reducible repeat' first | assumption | rfl | (extract_lets +onlyGivenNames q; first | (refine (fun (hq : q.frame = y) => ?_) ?_; (on_goal 1 => clear_value q); (on_goal 2 => subst q)) | clear_value q) | apply ite_frame | apply finishFail_frame | apply setPb_frame | apply modProbe_frame | apply finish_frame | split

theorem doProbeStop_frame : ∀ a0 a1, a1.frame = y → (doProbeStop a0 a1).frame = y := by
  intros; unfold doProbeStop
  with_reducible repeat' first | assumption | rfl | (extract_lets +onlyGivenNames q; first | (refine (fun (hq : q.frame = y) => ?_) ?_; (on_goal 1 => clear_value q); (on_goal 2 => subst q)) | (refine (fun (hq : q.2.frame = y) => ?_) ?_; (on_goal 1 => clear_value q); (on_goal 2 => subst q)) | clear_value q) | apply ite_frame | apply finishFail_frame | apply finishOk_frame | apply endProbe_frame | apply modEntry_frame | split

theorem doCtxCommand_frame : ∀ a0 a1, a1.frame = y → (doCtxCommand a0 a1).frame = y := by
  intros; unfold doCtxCommand
  with_reducible repeat' first | assumption | rfl | apply doCtxWrite_frame | apply doCtxRead_frame | apply doCtxEnable_frame | apply doCtxDisable_frame | apply doProbeStart_frame | apply doProbeStop_frame | split

theorem applyAtRelease_frame : ∀ a0 a1, a1.frame = y → (applyAtRelease a0 a1).frame = y := by
  intros; unfold applyAtRelease
  with_reducible repeat' first | assumption | rfl | (extract_lets +onlyGivenNames q; first | (refine (fun (hq : q.frame = y) => ?_) ?_; (on_goal 1 => clear_value q); (on_goal 2 => subst q)) | (refine (fun (hq : q.2.frame = y) => ?_) ?_; (on_goal 1 => clear_value q); (on_goal 2 => subst q)) | clear_value q) | apply ite_frame | refine forList_frame (fun i t y h => ?_) ?_ | apply doCtxCommand_frame

theorem applyCounted_frame : ∀ a0 a1 a2, a2.frame = y → (applyCounted a0 a1 a2).frame = y := by
  intros; unfold applyCounted
  with_reducible repeat' first | assumption | rfl | (extract_lets +onlyGivenNames q; first | (refine (fun (hq : q.frame = y) => ?_) ?_; (on_goal 1 => clear_value q); (on_goal 2 => subst q)) | (refine (fun (hq : q.2.frame = y) => ?_) ?_; (on_goal 1 => clear_value q); (on_goal 2 => subst q)) | clear_value q) | apply ite_frame | refine forList_frame (fun i t y h => ?_) ?_ | apply applyHeld_frame

theorem clearUndetected_frame : ∀ a0 a1, a1.frame = y → (clearUndetected a0 a1).frame = y := by
  intros; unfold clearUndetected
  with_reducible repeat' first | assumption | rfl | (extract_lets +onlyGivenNames q; clear_value q) | apply ite_frame | refine foldl_frame (fun t i y h => ?_) _ _ ?_ | apply settleLost_frame | apply setLost_frame

theorem resumeHeld_frame : ∀ a0 a1, a1.frame = y → (resumeHeld a0 a1).frame = y := by
  intros; unfold resumeHeld
  with_reducible repeat' first | assumption | rfl | (extract_lets +onlyGivenNames q; clear_value q) | apply ite_frame | apply modRt_frame | apply setCtxState_frame

theorem releaseCtx_frame : ∀ a0 a1 a2, a2.frame = y → (releaseCtx a0 a1 a2).frame = y := by
  intros; unfold releaseCtx
  with_reducible repeat' first | assumption | rfl | (extract_lets +onlyGivenNames q; first | (refine (fun (hq : q.frame = y) => ?_) ?_; (on_goal 1 => clear_value q); (on_goal 2 => subst q)) | (refine (fun (hq : q.2.frame = y) => ?_) ?_; (on_goal 1 => clear_value q); (on_goal 2 => subst q)) | clear_value q) | apply ite_frame | apply throughCtx_frame | apply modRt_frame | apply resumeHeld_frame | apply clearUndetected_frame | apply advanceProbe_frame | apply readInputs_frame | apply runDetectors_frame | apply loadRoom_frame | apply skipRun_frame

theorem releaseRegion_frame : ∀ a0 a1 a2 a3, a3.frame = y → (releaseRegion a0 a1 a2 a3).frame = y := by
  intros; unfold releaseRegion
  with_reducible repeat' first | assumption | rfl | (extract_lets +onlyGivenNames q; first | (refine (fun (hq : q.frame = y) => ?_) ?_; (on_goal 1 => clear_value q); (on_goal 2 => subst q)) | clear_value q) | refine forList_frame (fun i t y h => ?_) ?_ | apply modLoop_frame | apply modRt_frame | apply applyCounted_frame | apply applyAtRelease_frame | apply releaseCtx_frame | apply dispatch_frame

theorem keepSets_frame : ∀ a0 a1 a2 a3, a3.frame = y → (keepSets a0 a1 a2 a3).frame = y := by
  intros; unfold keepSets
  with_reducible repeat' first | assumption | rfl | (extract_lets +onlyGivenNames q; clear_value q) | apply ite_frame | apply applyCounted_frame | apply modPairRegion_frame

theorem catchUpRelease_frame : ∀ a0 a1, a1.frame = y → (catchUpRelease a0 a1).frame = y := by
  intros; unfold catchUpRelease
  with_reducible repeat' first | assumption | rfl | (extract_lets +onlyGivenNames q; first | (refine (fun (hq : q.frame = y) => ?_) ?_; (on_goal 1 => clear_value q); (on_goal 2 => subst q)) | clear_value q) | apply ite_frame | apply modPairRegion_frame | apply releaseRegion_frame | apply modLoop_frame | split

theorem dropRelease_frame : ∀ a0 a1, a1.frame = y → (dropRelease a0 a1).frame = y := by
  intros; unfold dropRelease
  with_reducible repeat' first | assumption | rfl | (extract_lets +onlyGivenNames q; first | (refine (fun (hq : q.frame = y) => ?_) ?_; (on_goal 1 => clear_value q); (on_goal 2 => subst q)) | clear_value q) | apply ite_frame | apply modLoop_frame | apply stepCtx16_frame | apply raise_frame | apply modRt_frame

theorem beginSlot_frame : ∀ a0, a0.frame = y → (beginSlot a0).frame = y := by
  intros; unfold beginSlot
  with_reducible repeat' first | assumption | rfl | (extract_lets +onlyGivenNames q; first | (refine (fun (hq : q.frame = y) => ?_) ?_; (on_goal 1 => clear_value q); (on_goal 2 => subst q)) | clear_value q) | apply ite_frame | refine forList_frame (fun i t y h => ?_) ?_ | apply modLoop_frame | apply applyAtRelease_frame | apply dispatch_frame | apply dropRelease_frame | apply releaseCtx_frame

theorem loopSet_frame : ∀ a0 a1, a1.frame = y → (loopSet a0 a1).frame = y := by
  intros; unfold loopSet
  with_reducible repeat' first | assumption | rfl | (extract_lets +onlyGivenNames q; first | (refine (fun (hq : q.frame = y) => ?_) ?_; (on_goal 1 => clear_value q); (on_goal 2 => subst q)) | clear_value q) | apply ite_frame | refine foldl_frame (fun t i y h => ?_) _ _ ?_ | apply modLoop_frame

theorem loopChain_frame : ∀ a0 a1, a1.frame = y → (loopChain a0 a1).frame = y := by
  intros; unfold loopChain
  with_reducible repeat' first | assumption | rfl | (extract_lets +onlyGivenNames q; first | (refine (fun (hq : q.frame = y) => ?_) ?_; (on_goal 1 => clear_value q); (on_goal 2 => subst q)) | (refine (fun (hq : q.2.frame = y) => ?_) ?_; (on_goal 1 => clear_value q); (on_goal 2 => subst q)) | clear_value q) | apply ite_frame | apply modLoop_frame | split

theorem popPair_frame : ∀ a0, a0.frame = y → (popPair a0).frame = y := by
  intros; unfold popPair
  with_reducible repeat' first | assumption | rfl | apply modPair_frame

theorem confluence_frame : ∀ a0 a1 a2 a3 a4, a4.frame = y → (confluence a0 a1 a2 a3 a4).frame = y := by
  intros; unfold confluence
  with_reducible repeat' first | assumption | rfl | (extract_lets +onlyGivenNames q; first | (refine (fun (hq : q.frame = y) => ?_) ?_; (on_goal 1 => clear_value q); (on_goal 2 => subst q)) | clear_value q) | apply ite_frame | apply receiveCopy_frame | apply resumeFrames_frame

theorem dutyFrameReceive_frame : ∀ a0 a1, a1.frame = y → (dutyFrameReceive a0 a1).frame = y := by
  intros; unfold dutyFrameReceive
  with_reducible repeat' first | assumption | rfl | (extract_lets +onlyGivenNames q; first | (refine (fun (hq : q.frame = y) => ?_) ?_; (on_goal 1 => clear_value q); (on_goal 2 => subst q)) | clear_value q) | apply ite_frame | apply pairSend_frame | apply raise_frame | apply modPairRegion_frame | apply confluence_frame | apply resumeFrames_frame | apply commitFrame_frame

theorem dutyCopyReceive_frame : ∀ a0 a1 a2 a3, a3.frame = y → (dutyCopyReceive a0 a1 a2 a3).frame = y := by
  intros; unfold dutyCopyReceive
  with_reducible repeat' first | assumption | rfl | (extract_lets +onlyGivenNames q; first | (refine (fun (hq : q.frame = y) => ?_) ?_; (on_goal 1 => clear_value q); (on_goal 2 => subst q)) | (refine (fun (hq : q.2.frame = y) => ?_) ?_; (on_goal 1 => clear_value q); (on_goal 2 => subst q)) | clear_value q) | apply ite_frame | apply staleCopy_frame | apply confluence_frame

theorem measureLatency_frame : ∀ a0 a1, a1.frame = y → (measureLatency a0 a1).frame = y := by
  intros; unfold measureLatency
  with_reducible repeat' first | assumption | rfl | (extract_lets +onlyGivenNames q; first | (refine (fun (hq : q.frame = y) => ?_) ?_; (on_goal 1 => clear_value q); (on_goal 2 => subst q)) | clear_value q) | apply ite_frame | apply modPair_frame | apply raise_frame

theorem wantResync_frame : ∀ a0, a0.frame = y → (wantResync a0).frame = y := by
  intros; unfold wantResync
  with_reducible repeat' first | assumption | rfl | (extract_lets +onlyGivenNames q; clear_value q) | apply ite_frame | refine forAll_frame (fun i t y h => ?_) ?_ | apply modPairRegion_frame

theorem helloReceive_frame : ∀ a0 a1, a1.frame = y → (helloReceive a0 a1).frame = y := by
  intros; unfold helloReceive
  with_reducible repeat' first | assumption | rfl | (extract_lets +onlyGivenNames q; first | (refine (fun (hq : q.frame = y) => ?_) ?_; (on_goal 1 => clear_value q); (on_goal 2 => subst q)) | clear_value q) | apply ite_frame | apply modPair_frame | apply measureLatency_frame | apply stand_frame | apply raise_frame | apply unstand_frame | apply wantResync_frame

theorem abortResync_frame : ∀ a0 a1, a1.frame = y → (abortResync a0 a1).frame = y := by
  intros; unfold abortResync
  with_reducible repeat' first | assumption | rfl | (extract_lets +onlyGivenNames q; first | (refine (fun (hq : q.frame = y) => ?_) ?_; (on_goal 1 => clear_value q); (on_goal 2 => subst q)) | clear_value q) | apply ite_frame | refine forAll_frame (fun i t y h => ?_) ?_ | apply modPairRegion_frame | apply finish_frame | split

theorem dieFailed_frame : ∀ a0 a1 a2, a2.frame = y → (dieFailed a0 a1 a2).frame = y := by
  intros; unfold dieFailed
  with_reducible repeat' first | assumption | rfl | (extract_lets +onlyGivenNames q; first | (refine (fun (hq : q.frame = y) => ?_) ?_; (on_goal 1 => clear_value q); (on_goal 2 => subst q)) | clear_value q) | apply ite_frame | apply modPairRegion_frame | apply abortResync_frame | apply raise_frame

theorem faultDeclared_frame : ∀ a0 a1, a1.frame = y → (faultDeclared a0 a1).frame = y := by
  intros; unfold faultDeclared
  with_reducible repeat' first | assumption | rfl | (extract_lets +onlyGivenNames q; first | (refine (fun (hq : q.frame = y) => ?_) ?_; (on_goal 1 => clear_value q); (on_goal 2 => subst q)) | clear_value q) | apply ite_frame | apply dieFailed_frame | apply modPairRegion_frame | split

theorem declareFault_frame : ∀ a0 a1, a1.frame = y → (declareFault a0 a1).frame = y := by
  intros; unfold declareFault
  with_reducible repeat' first | assumption | rfl | (extract_lets +onlyGivenNames q; first | (refine (fun (hq : q.frame = y) => ?_) ?_; (on_goal 1 => clear_value q); (on_goal 2 => subst q)) | clear_value q) | apply ite_frame | refine forAll_frame (fun i t y h => ?_) ?_ | apply pairSend_frame | apply dieFailed_frame

theorem parameterFrame_frame : ∀ a0 a1 a2 a3, a3.frame = y → (parameterFrame a0 a1 a2 a3).frame = y := by
  intros; unfold parameterFrame
  with_reducible repeat' first | assumption | rfl | (extract_lets +onlyGivenNames q; clear_value q) | apply ite_frame | apply modPair_frame | split

theorem sendCheckpoint_frame : ∀ a0 a1, a1.frame = y → (sendCheckpoint a0 a1).frame = y := by
  intro r s h
  unfold sendCheckpoint
  extract_lets e owner n l blob head chunk t u
  have hc : ∀ c k (t : State) y, t.frame = y → (chunk c k t).frame = y := fun c k t y ht => pairSend_frame _ _ _ _ _ ht
  have ht : t.frame = y := forList_frame (fun c t y h => hc _ _ _ _ (hc _ _ _ _ h)) (modPair_frame _ _ h)
  exact modPairRegion_frame _ _ _ (pairSend_frame _ _ _ _ _ ht)

theorem checkpointChunk_frame : ∀ a0 a1 a2 a3, a3.frame = y → (checkpointChunk a0 a1 a2 a3).frame = y := by
  intros; unfold checkpointChunk
  with_reducible repeat' first | assumption | rfl | (extract_lets +onlyGivenNames q; clear_value q) | apply ite_frame | apply modPairRegion_frame | split

theorem restoreEntry_frame : ∀ a0 a1 a2 a3, a3.frame = y → (restoreEntry a0 a1 a2 a3).frame = y := by
  intros; unfold restoreEntry
  with_reducible repeat' first | assumption | rfl | (extract_lets +onlyGivenNames q; first | (refine (fun (hq : q.frame = y) => ?_) ?_; (on_goal 1 => clear_value q); (on_goal 2 => subst q)) | clear_value q) | apply ite_frame | apply modLoop_frame | apply storeCtxWords_frame | apply write_frame | apply modRt_frame | apply setResident_frame | apply loadRoom_frame

theorem restoreEntries_frame : ∀ a0 a1 a2, a2.frame = y → (restoreEntries a0 a1 a2).frame = y := by
  intros; unfold restoreEntries
  with_reducible repeat' first | assumption | rfl | (extract_lets +onlyGivenNames q; first | (refine (fun (hq : q.frame = y) => ?_) ?_; (on_goal 1 => clear_value q); (on_goal 2 => subst q)) | (refine (fun (hq : q.2.frame = y) => ?_) ?_; (on_goal 1 => clear_value q); (on_goal 2 => subst q)) | clear_value q) | refine forList_frame (fun i t y h => ?_) ?_ | apply restoreEntry_frame | apply modLoop_frame

theorem checkpointCommit_frame : ∀ a0 a1 a2 a3, a3.frame = y → (checkpointCommit a0 a1 a2 a3).frame = y := by
  intros; unfold checkpointCommit
  with_reducible repeat' first | assumption | rfl | (extract_lets +onlyGivenNames q; first | (refine (fun (hq : q.frame = y) => ?_) ?_; (on_goal 1 => clear_value q); (on_goal 2 => subst q)) | clear_value q) | apply ite_frame | refine forList_frame (fun i t y h => ?_) ?_ | apply modPairRegion_frame | apply restoreEntries_frame | apply discardEpoch_frame | apply modPair_frame | apply finishOk_frame | split

theorem doPairResync_frame : ∀ a0 a1, a1.frame = y → (doPairResync a0 a1).frame = y := by
  intros; unfold doPairResync
  with_reducible repeat' first | assumption | rfl | (extract_lets +onlyGivenNames q; clear_value q) | apply ite_frame | refine forList_frame (fun i t y h => ?_) ?_ | apply finishFail_frame | apply finishOk_frame | apply applying_frame | apply modPairRegion_frame

theorem dropRecord_frame : ∀ a0, a0.frame = y → (dropRecord a0).frame = y := by
  intros; unfold dropRecord
  with_reducible repeat' first | assumption | rfl | (extract_lets +onlyGivenNames q; first | (refine (fun (hq : q.frame = y) => ?_) ?_; (on_goal 1 => clear_value q); (on_goal 2 => subst q)) | clear_value q) | apply ite_frame | apply modRings_frame | apply raise_frame

theorem recordEvent_frame : ∀ a0 a1 a2, a2.frame = y → (recordEvent a0 a1 a2).frame = y := by
  intros; unfold recordEvent
  with_reducible repeat' first | assumption | rfl | (extract_lets +onlyGivenNames q; clear_value q) | apply ite_frame | apply writeCq_frame | apply modCq_frame | apply dropRecord_frame

theorem collect_frame : ∀ a0 a1, a1.frame = y → (collect a0 a1).frame = y := by
  intros; unfold collect
  with_reducible repeat' first | assumption | rfl | (extract_lets +onlyGivenNames q; first | (refine (fun (hq : q.frame = y) => ?_) ?_; (on_goal 1 => clear_value q); (on_goal 2 => subst q)) | clear_value q) | apply ite_frame | apply modEvents_frame | apply applyEvent_frame | apply declareFault_frame | apply recordEvent_frame | apply trgWaiting_frame | apply trgEvent_frame

theorem bufferEvents_frame : ∀ a0, a0.frame = y → (bufferEvents a0).frame = y := by
  intros; unfold bufferEvents
  with_reducible repeat' first | assumption | rfl | (extract_lets +onlyGivenNames q; first | (refine (fun (hq : q.frame = y) => ?_) ?_; (on_goal 1 => clear_value q); (on_goal 2 => subst q)) | clear_value q) | apply ite_frame | refine forList_frame (fun i t y h => ?_) ?_ | apply modEvents_frame | apply applyEvent_frame

theorem deliverEvents_frame : ∀ a0, a0.frame = y → (deliverEvents a0).frame = y := by
  intros; unfold deliverEvents
  with_reducible repeat' first | assumption | rfl | (extract_lets +onlyGivenNames q; first | (refine (fun (hq : q.frame = y) => ?_) ?_; (on_goal 1 => clear_value q); (on_goal 2 => subst q)) | clear_value q) | apply ite_frame | apply modEvents_frame | apply raise_frame

theorem clearRegionTrips_frame : ∀ a0 a1, a1.frame = y → (clearRegionTrips a0 a1).frame = y := by
  intros; unfold clearRegionTrips
  with_reducible repeat' first | assumption | rfl | (extract_lets +onlyGivenNames q; first | (refine (fun (hq : q.frame = y) => ?_) ?_; (on_goal 1 => clear_value q); (on_goal 2 => subst q)) | clear_value q) | apply ite_frame | refine forAll_frame (fun i t y h => ?_) ?_ | refine foldl_frame (fun t i y h => ?_) _ _ ?_ | apply modRegion_frame | apply modUnit_frame

theorem clearWelds_frame : ∀ a0 a1, a1.frame = y → (clearWelds a0 a1).frame = y := by
  intros; unfold clearWelds
  with_reducible repeat' first | assumption | rfl | (extract_lets +onlyGivenNames q; first | (refine (fun (hq : q.frame = y) => ?_) ?_; (on_goal 1 => clear_value q); (on_goal 2 => subst q)) | (refine (fun (hq : q.2.frame = y) => ?_) ?_; (on_goal 1 => clear_value q); (on_goal 2 => subst q)) | clear_value q) | apply ite_frame | refine forAll_frame (fun i t y h => ?_) ?_ | apply modRt_frame

theorem clearSource_frame : ∀ a0 a1, a1.frame = y → (clearSource a0 a1).frame = y := by
  intros; unfold clearSource
  with_reducible repeat' first | assumption | rfl | (extract_lets +onlyGivenNames q; first | (refine (fun (hq : q.frame = y) => ?_) ?_; (on_goal 1 => clear_value q); (on_goal 2 => subst q)) | clear_value q) | apply ite_frame | apply modSrc_frame | apply clearRegionTrips_frame | apply clearWelds_frame | apply reenter_frame | apply raise_frame | apply dite_frame | intro _

theorem doFaultClear_frame : ∀ a0 a1, a1.frame = y → (doFaultClear a0 a1).frame = y := by
  intros; unfold doFaultClear
  with_reducible repeat' first | assumption | rfl | (extract_lets +onlyGivenNames q; clear_value q) | apply ite_frame | refine forList_frame (fun i t y h => ?_) ?_ | apply finishOk_frame | apply clearSource_frame | apply finishFail_frame | apply dite_frame | intro _

theorem setForce_frame : ∀ a0 a1 a2, a2.frame = y → (setForce a0 a1 a2).frame = y := by
  intros; unfold setForce
  with_reducible repeat' first | assumption | rfl | (extract_lets +onlyGivenNames q; first | (refine (fun (hq : q.frame = y) => ?_) ?_; (on_goal 1 => clear_value q); (on_goal 2 => subst q)) | (refine (fun (hq : q.2.frame = y) => ?_) ?_; (on_goal 1 => clear_value q); (on_goal 2 => subst q)) | clear_value q) | apply ite_frame | apply raiseFull_frame | apply modSrc_frame | apply unforce_frame

theorem doEventForce_frame : ∀ a0 a1, a1.frame = y → (doEventForce a0 a1).frame = y := by
  intros; unfold doEventForce
  with_reducible repeat' first | assumption | rfl | (extract_lets +onlyGivenNames q; clear_value q) | apply ite_frame | apply finishFail_frame | apply finishOk_frame | apply setForce_frame | apply dite_frame | intro _

theorem writeForce_frame : ∀ a0 a1 a2, a2.frame = y → (writeForce a0 a1 a2).frame = y := by
  intros; unfold writeForce
  with_reducible repeat' first | assumption | rfl | (extract_lets +onlyGivenNames q; clear_value q) | apply ite_frame | refine forList_frame (fun i t y h => ?_) ?_ | apply rwsWritten_frame | apply setForce_frame

theorem writeArbOrder_frame : ∀ a0 a1, a1.frame = y → (writeArbOrder a0 a1).frame = y := by
  intros; unfold writeArbOrder
  with_reducible repeat' first | assumption | rfl | apply modArb_frame

theorem writeArbCfg_frame : ∀ a0 a1, a1.frame = y → (writeArbCfg a0 a1).frame = y := by
  intros; unfold writeArbCfg
  with_reducible repeat' first | assumption | rfl | apply modArb_frame

theorem refuseCommit_frame : ∀ a0, a0.frame = y → (refuseCommit a0).frame = y := by
  intros; unfold refuseCommit
  with_reducible repeat' first | assumption | rfl | (extract_lets +onlyGivenNames q; first | (refine (fun (hq : q.frame = y) => ?_) ?_; (on_goal 1 => clear_value q); (on_goal 2 => subst q)) | (refine (fun (hq : q.2.frame = y) => ?_) ?_; (on_goal 1 => clear_value q); (on_goal 2 => subst q)) | clear_value q) | apply raise_frame | apply modArb_frame

theorem writeArbCommit_frame : ∀ a0 a1, a1.frame = y → (writeArbCommit a0 a1).frame = y := by
  intros; unfold writeArbCommit
  with_reducible repeat' first | assumption | rfl | (extract_lets +onlyGivenNames q; first | (refine (fun (hq : q.frame = y) => ?_) ?_; (on_goal 1 => clear_value q); (on_goal 2 => subst q)) | (refine (fun (hq : q.2.frame = y) => ?_) ?_; (on_goal 1 => clear_value q); (on_goal 2 => subst q)) | clear_value q) | apply ite_frame | apply modArb_frame | apply refuseCommit_frame

theorem grantWeir_frame : ∀ a0 a1 a2 a3, a3.frame = y → (grantWeir a0 a1 a2 a3).frame = y := by
  intros; unfold grantWeir
  with_reducible repeat' first | assumption | rfl | (extract_lets +onlyGivenNames q; (refine (fun (hq : q.frame = y) => ?_) ?_; (on_goal 1 => clear_value q); (on_goal 2 => subst q))) | apply modWeir_frame | apply finishOk_frame | split

theorem passWeir_frame : ∀ a0 a1 a2, a2.frame = y → (passWeir a0 a1 a2).frame = y := by
  intros; unfold passWeir
  with_reducible repeat' first | assumption | rfl | (extract_lets +onlyGivenNames q; first | (refine (fun (hq : q.frame = y) => ?_) ?_; (on_goal 1 => clear_value q); (on_goal 2 => subst q)) | (refine (fun (hq : q.2.frame = y) => ?_) ?_; (on_goal 1 => clear_value q); (on_goal 2 => subst q)) | clear_value q) | apply modWeir_frame | apply grantWeir_frame | split

theorem doWeirAcquire_frame : ∀ a0 a1, a1.frame = y → (doWeirAcquire a0 a1).frame = y := by
  intros; unfold doWeirAcquire
  with_reducible repeat' first | assumption | rfl | (extract_lets +onlyGivenNames q; clear_value q) | apply ite_frame | apply finishFail_frame | apply grantWeir_frame | apply modWeir_frame | apply modWork_frame | apply dite_frame | intro _

theorem doWeirRelease_frame : ∀ a0 a1, a1.frame = y → (doWeirRelease a0 a1).frame = y := by
  intros; unfold doWeirRelease
  with_reducible repeat' first | assumption | rfl | (extract_lets +onlyGivenNames q; clear_value q) | apply ite_frame | apply passWeir_frame | apply finishOk_frame | apply finishFail_frame | apply dite_frame | intro _

theorem releaseWeirs_frame : ∀ a0 a1, a1.frame = y → (releaseWeirs a0 a1).frame = y := by
  intros; unfold releaseWeirs
  with_reducible repeat' first | assumption | rfl | (extract_lets +onlyGivenNames q; clear_value q) | apply ite_frame | refine forList_frame (fun i t y h => ?_) ?_ | refine foldl_frame (fun t i y h => ?_) _ _ ?_ | apply raise_frame | apply passWeir_frame

theorem abortMoved_frame : ∀ a0 a1, a1.frame = y → (abortMoved a0 a1).frame = y := by
  intros; unfold abortMoved
  with_reducible repeat' first | assumption | rfl | (extract_lets +onlyGivenNames q; first | (refine (fun (hq : q.frame = y) => ?_) ?_; (on_goal 1 => clear_value q); (on_goal 2 => subst q)) | (refine (fun (hq : q.2.frame = y) => ?_) ?_; (on_goal 1 => clear_value q); (on_goal 2 => subst q)) | clear_value q) | apply finishFail_frame | apply modHost_frame | split

theorem dropCommandFrames_frame : ∀ a0 a1, a1.frame = y → (dropCommandFrames a0 a1).frame = y := by
  intros; unfold dropCommandFrames
  with_reducible repeat' first | assumption | rfl | (extract_lets +onlyGivenNames q; clear_value q) | apply ite_frame | refine forList_frame (fun i t y h => ?_) ?_ | apply payTag_frame | apply modNet_frame

theorem resetNetEngine_frame : ∀ a0, a0.frame = y → (resetNetEngine a0).frame = y := by
  intros; unfold resetNetEngine
  with_reducible repeat' first | assumption | rfl | (extract_lets +onlyGivenNames q; first | (refine (fun (hq : q.frame = y) => ?_) ?_; (on_goal 1 => clear_value q); (on_goal 2 => subst q)) | clear_value q) | apply ite_frame | apply modPort_frame | apply modNet_frame | apply releaseWeirs_frame | apply abortMoved_frame | apply dropCommandFrames_frame | split

theorem rewriteCopy_frame : ∀ a0, a0.frame = y → (rewriteCopy a0).frame = y := by
  intros; unfold rewriteCopy
  with_reducible repeat' first | assumption | rfl | apply write_frame | split

theorem abandonPrefetch_frame : ∀ a0, a0.frame = y → (abandonPrefetch a0).frame = y := by
  intros; unfold abandonPrefetch
  with_reducible repeat' first | assumption | rfl | (extract_lets +onlyGivenNames q; clear_value q) | apply modArb_frame | apply modRt_frame | split

theorem resetRequester_frame : ∀ a0 a1, a1.frame = y → (resetRequester a0 a1).frame = y := by
  intros; unfold resetRequester
  with_reducible repeat' first | assumption | rfl | apply rewriteCopy_frame | apply abandonPrefetch_frame | apply resetNetEngine_frame | apply abortMoved_frame | split

theorem writeImageCtrl_frame : ∀ a0 a1, a1.frame = y → (writeImageCtrl a0 a1).frame = y := by
  intros; unfold writeImageCtrl
  with_reducible repeat' first | assumption | rfl | (extract_lets +onlyGivenNames q; first | (refine (fun (hq : q.frame = y) => ?_) ?_; (on_goal 1 => clear_value q); (on_goal 2 => subst q)) | (refine (fun (hq : q.2.frame = y) => ?_) ?_; (on_goal 1 => clear_value q); (on_goal 2 => subst q)) | clear_value q) | apply ite_frame | apply rwsWritten_frame | apply modLoop_frame

theorem imageDone_frame : ∀ a0 a1, a1.frame = y → (imageDone a0 a1).frame = y := by
  intros; unfold imageDone
  with_reducible repeat' first | assumption | rfl | (extract_lets +onlyGivenNames q; first | (refine (fun (hq : q.frame = y) => ?_) ?_; (on_goal 1 => clear_value q); (on_goal 2 => subst q)) | (refine (fun (hq : q.2.frame = y) => ?_) ?_; (on_goal 1 => clear_value q); (on_goal 2 => subst q)) | clear_value q) | apply ite_frame | apply modLoop_frame | apply fresh_frame | apply hostError_frame | apply write_frame | split

theorem doCaptureArm_frame : ∀ a0 a1, a1.frame = y → (doCaptureArm a0 a1).frame = y := by
  intros; unfold doCaptureArm
  with_reducible repeat' first | assumption | rfl | (extract_lets +onlyGivenNames q; first | (refine (fun (hq : q.frame = y) => ?_) ?_; (on_goal 1 => clear_value q); (on_goal 2 => subst q)) | clear_value q) | apply ite_frame | apply finishFail_frame | apply modEntry_frame | apply finishOk_frame | apply modSess_frame | split

theorem takePosition_frame : ∀ a0 a1 a2, a2.frame = y → (takePosition a0 a1 a2).frame = y := by
  intros; unfold takePosition
  with_reducible repeat' first | assumption | rfl | (extract_lets +onlyGivenNames q; clear_value q) | apply ite_frame | apply modSess_frame | apply captureStore_frame

theorem takeGap_frame : ∀ a0 a1 a2, a2.frame = y → (takeGap a0 a1 a2).frame = y := by
  intros; unfold takeGap
  with_reducible repeat' first | assumption | rfl | (extract_lets +onlyGivenNames q; first | (refine (fun (hq : q.frame = y) => ?_) ?_; (on_goal 1 => clear_value q); (on_goal 2 => subst q)) | (refine (fun (hq : q.2.frame = y) => ?_) ?_; (on_goal 1 => clear_value q); (on_goal 2 => subst q)) | clear_value q) | apply takePosition_frame | apply modSess_frame

theorem takeSample_frame : ∀ a0 a1 a2 a3 a4, a4.frame = y → (takeSample a0 a1 a2 a3 a4).frame = y := by
  intro k id v tick s h
  unfold takeSample
  exact ite_frame h (ite_frame (modSess_frame _ _ _ h)
    (takePosition_frame _ _ _ (modSess_frame _ _ _ (forList_frame (fun _ _ _ h => takeGap_frame _ _ _ h) h))))

theorem captureSet_frame : ∀ a0 a1, a1.frame = y → (captureSet a0 a1).frame = y := by
  intros; unfold captureSet
  with_reducible repeat' first | assumption | rfl | (extract_lets +onlyGivenNames q; clear_value q) | apply ite_frame | refine forAll_frame (fun i t y h => ?_) ?_ | apply takeSample_frame

theorem joinChains_frame : ∀ a0 a1 a2 a3, a3.frame = y → (joinChains a0 a1 a2 a3).frame = y := by
  intros; unfold joinChains
  with_reducible repeat' first | assumption | rfl | (extract_lets +onlyGivenNames q; clear_value q) | apply ite_frame | apply takeSample_frame | apply modSess_frame

theorem captureChain_frame : ∀ a0 a1, a1.frame = y → (captureChain a0 a1).frame = y := by
  intros; unfold captureChain
  with_reducible repeat' first | assumption | rfl | (extract_lets +onlyGivenNames q; clear_value q) | apply ite_frame | refine forAll_frame (fun i t y h => ?_) ?_ | refine foldl_frame (fun t i y h => ?_) _ _ ?_ | apply joinChains_frame | apply modSess_frame

theorem captureNotice_frame : ∀ a0 a1, a1.frame = y → (captureNotice a0 a1).frame = y := by
  intros; unfold captureNotice
  with_reducible repeat' first | assumption | rfl | (extract_lets +onlyGivenNames q; clear_value q) | apply ite_frame | refine forAll_frame (fun i t y h => ?_) ?_ | apply modSess_frame

theorem judgeNotice_frame : ∀ a0 a1 a2, a2.frame = y → (judgeNotice a0 a1 a2).frame = y := by
  intros; unfold judgeNotice
  with_reducible repeat' first | assumption | rfl | (extract_lets +onlyGivenNames q; clear_value q) | apply modSess_frame | split

theorem captureReport_frame : ∀ a0 a1, a1.frame = y → (captureReport a0 a1).frame = y := by
  intros; unfold captureReport
  with_reducible repeat' first | assumption | rfl | (extract_lets +onlyGivenNames q; clear_value q) | apply raise_frame | apply captureStore_frame

theorem endSession_frame : ∀ a0 a1 a2 a3, a3.frame = y → (endSession a0 a1 a2 a3).frame = y := by
  intros; unfold endSession
  with_reducible repeat' first | assumption | rfl | (extract_lets +onlyGivenNames q; first | (refine (fun (hq : q.frame = y) => ?_) ?_; (on_goal 1 => clear_value q); (on_goal 2 => subst q)) | clear_value q) | refine forList_frame (fun i t y h => ?_) ?_ | apply modSess_frame | apply finishOk_frame | apply captureReport_frame

theorem abortSessions_frame : ∀ a0, a0.frame = y → (abortSessions a0).frame = y := by
  intros; unfold abortSessions
  with_reducible repeat' first | assumption | rfl | (extract_lets +onlyGivenNames q; first | (refine (fun (hq : q.frame = y) => ?_) ?_; (on_goal 1 => clear_value q); (on_goal 2 => subst q)) | (refine (fun (hq : q.2.frame = y) => ?_) ?_; (on_goal 1 => clear_value q); (on_goal 2 => subst q)) | clear_value q) | apply ite_frame | refine forAll_frame (fun i t y h => ?_) ?_ | apply endSession_frame

theorem orphanSessions_frame : ∀ a0, a0.frame = y → (orphanSessions a0).frame = y := by
  intros; unfold orphanSessions
  with_reducible repeat' first | assumption | rfl | (extract_lets +onlyGivenNames q; first | (refine (fun (hq : q.frame = y) => ?_) ?_; (on_goal 1 => clear_value q); (on_goal 2 => subst q)) | (refine (fun (hq : q.2.frame = y) => ?_) ?_; (on_goal 1 => clear_value q); (on_goal 2 => subst q)) | clear_value q) | apply ite_frame | refine forAll_frame (fun i t y h => ?_) ?_ | apply modSess_frame

theorem reportOrphans_frame : ∀ a0, a0.frame = y → (reportOrphans a0).frame = y := by
  intros; unfold reportOrphans
  with_reducible repeat' first | assumption | rfl | (extract_lets +onlyGivenNames q; first | (refine (fun (hq : q.frame = y) => ?_) ?_; (on_goal 1 => clear_value q); (on_goal 2 => subst q)) | (refine (fun (hq : q.2.frame = y) => ?_) ?_; (on_goal 1 => clear_value q); (on_goal 2 => subst q)) | clear_value q) | apply ite_frame | refine forAll_frame (fun i t y h => ?_) ?_ | apply modSess_frame | apply captureReport_frame

theorem doCaptureStop_frame : ∀ a0 a1, a1.frame = y → (doCaptureStop a0 a1).frame = y := by
  intros; unfold doCaptureStop
  with_reducible repeat' first | assumption | rfl | (extract_lets +onlyGivenNames q; first | (refine (fun (hq : q.frame = y) => ?_) ?_; (on_goal 1 => clear_value q); (on_goal 2 => subst q)) | (refine (fun (hq : q.2.frame = y) => ?_) ?_; (on_goal 1 => clear_value q); (on_goal 2 => subst q)) | clear_value q) | apply ite_frame | apply finishFail_frame | apply applying_frame | apply modSess_frame | apply finishOk_frame | split

theorem readSpans_frame : ∀ a0 a1, a1.frame = y → (readSpans a0 a1).2.frame = y := by
  intro l s h
  induction l generalizing s with
  | nil => exact h
  | cons p t ih =>
    unfold readSpans
    exact ite_pframe (ih _ h) (ih _ (readMem_frame _ _ _ _ _ h))

theorem doCaptureCopy_frame : ∀ a0 a1, a1.frame = y → (doCaptureCopy a0 a1).frame = y := by
  intros; unfold doCaptureCopy
  with_reducible repeat' first | assumption | rfl | (extract_lets +onlyGivenNames q; first | (refine (fun (hq : q.frame = y) => ?_) ?_; (on_goal 1 => clear_value q); (on_goal 2 => subst q)) | (refine (fun (hq : q.2.frame = y) => ?_) ?_; (on_goal 1 => clear_value q); (on_goal 2 => subst q)) | clear_value q) | apply ite_frame | apply finishFail_frame | apply readSpans_frame | apply flushCapture_frame | apply hostWrite_frame | apply modSess_frame | apply finishOk_frame | apply finish_frame | split

theorem doBarrier_frame : ∀ a0 a1, a1.frame = y → (doBarrier a0 a1).frame = y := by
  intros; unfold doBarrier
  with_reducible repeat' first | assumption | rfl | (extract_lets +onlyGivenNames q; first | (refine (fun (hq : q.frame = y) => ?_) ?_; (on_goal 1 => clear_value q); (on_goal 2 => subst q)) | (refine (fun (hq : q.2.frame = y) => ?_) ?_; (on_goal 1 => clear_value q); (on_goal 2 => subst q)) | clear_value q) | apply ite_frame | apply finishOk_frame

theorem stopSq_frame : ∀ a0 a1 a2, a2.frame = y → (stopSq a0 a1 a2).frame = y := by
  intros; unfold stopSq
  with_reducible repeat' first | assumption | rfl | (extract_lets +onlyGivenNames q; first | (refine (fun (hq : q.frame = y) => ?_) ?_; (on_goal 1 => clear_value q); (on_goal 2 => subst q)) | (refine (fun (hq : q.2.frame = y) => ?_) ?_; (on_goal 1 => clear_value q); (on_goal 2 => subst q)) | clear_value q) | apply ite_frame | apply stand_frame | apply raise_frame | apply releaseWeirs_frame | apply markStopped_frame

theorem failedLine_frame : ∀ a0 a1, a1.frame = y → (failedLine a0 a1).frame = y := by
  intros; unfold failedLine
  with_reducible repeat' first | assumption | rfl | (extract_lets +onlyGivenNames q; first | (refine (fun (hq : q.frame = y) => ?_) ?_; (on_goal 1 => clear_value q); (on_goal 2 => subst q)) | clear_value q) | apply ite_frame | apply modSq_frame | apply stopSq_frame

theorem failedDesc_frame : ∀ a0 a1, a1.frame = y → (failedDesc a0 a1).frame = y := by
  intros; unfold failedDesc
  with_reducible repeat' first | assumption | rfl | (extract_lets +onlyGivenNames q; first | (refine (fun (hq : q.frame = y) => ?_) ?_; (on_goal 1 => clear_value q); (on_goal 2 => subst q)) | clear_value q) | apply ite_frame | apply modSq_frame | apply stopSq_frame

theorem restartSq_frame : ∀ a0 a1, a1.frame = y → (restartSq a0 a1).frame = y := by
  intros; unfold restartSq
  with_reducible repeat' first | assumption | rfl | (extract_lets +onlyGivenNames q; first | (refine (fun (hq : q.frame = y) => ?_) ?_; (on_goal 1 => clear_value q); (on_goal 2 => subst q)) | clear_value q) | apply ite_frame | apply unstand_frame | apply modSq_frame | apply modRings_frame | apply raise_frame | apply releaseWeirs_frame | apply hostRead_frame

theorem fetchNext_frame : ∀ a0 a1, a1.frame = y → (fetchNext a0 a1).frame = y := by
  intros; unfold fetchNext
  with_reducible repeat' first | assumption | rfl | (extract_lets +onlyGivenNames q; clear_value q) | apply ite_frame | apply hostRead_frame

theorem sqLineRead_frame : ∀ a0 a1 a2, a2.frame = y → (sqLineRead a0 a1 a2).frame = y := by
  intros; unfold sqLineRead
  with_reducible repeat' first | assumption | rfl | (extract_lets +onlyGivenNames q; first | (refine (fun (hq : q.frame = y) => ?_) ?_; (on_goal 1 => clear_value q); (on_goal 2 => subst q)) | clear_value q) | apply ite_frame | apply modSq_frame | apply stopSq_frame | apply fetchNext_frame

theorem cqLineRead_frame : ∀ a0 a1 a2, a2.frame = y → (cqLineRead a0 a1 a2).frame = y := by
  intros; unfold cqLineRead
  with_reducible repeat' first | assumption | rfl | (extract_lets +onlyGivenNames q; first | (refine (fun (hq : q.frame = y) => ?_) ?_; (on_goal 1 => clear_value q); (on_goal 2 => subst q)) | clear_value q) | apply ite_frame | apply modCq_frame | apply modHost_frame

end Sys2Proof.Machine
end

