-- ==== Sys2Proof/Laws/FrameOps4.lean ====
section
/-!
SUPPORT. The frame of the operations of Rings, Replay, Millrace, SafetyFns, Tick, Power, PowerRows, Setup, Access, FormingRows, Status: each keeps the queue, the register words and the Seal record.
-/
namespace Sys2Proof.Machine

open Sys2Proof

variable {y : List Instr × List (Nat × Word32) × List (Nat × Word32)}

theorem readDone_frame : ∀ a0 a1 a2, a2.frame = y → (readDone a0 a1 a2).frame = y := by
  intros; unfold readDone
  with_reducible repeat' first | assumption | rfl | (extract_lets +onlyGivenNames q; clear_value q) | apply ite_frame | apply sqLineRead_frame | apply cqLineRead_frame | apply modSq_frame | apply modWork_frame | split

theorem readFailed_frame : ∀ a0 a1 a2, a2.frame = y → (readFailed a0 a1 a2).frame = y := by
  intros; unfold readFailed
  with_reducible repeat' first | assumption | rfl | (extract_lets +onlyGivenNames q; first | (refine (fun (hq : q.frame = y) => ?_) ?_; (on_goal 1 => clear_value q); (on_goal 2 => subst q)) | clear_value q) | apply raiseFull_frame | apply captureError_frame | apply failedLine_frame | apply fetchNext_frame | apply failedDesc_frame | apply modWork_frame | split

theorem endpointResets_frame : ∀ a0, a0.frame = y → (endpointResets a0).frame = y := by
  intros; unfold endpointResets
  with_reducible repeat' first | assumption | rfl | (extract_lets +onlyGivenNames q; first | (refine (fun (hq : q.frame = y) => ?_) ?_; (on_goal 1 => clear_value q); (on_goal 2 => subst q)) | (refine (fun (hq : q.2.frame = y) => ?_) ?_; (on_goal 1 => clear_value q); (on_goal 2 => subst q)) | clear_value q) | apply ite_frame | refine forAll_frame (fun i t y h => ?_) ?_ | apply raise_frame | apply stopSq_frame | apply modHost_frame

theorem ageWords_frame : ∀ a0 a1, a1.frame = y → (ageWords a0 a1).frame = y := by
  intros; unfold ageWords
  with_reducible repeat' first | assumption | rfl | (extract_lets +onlyGivenNames q; first | (refine (fun (hq : q.frame = y) => ?_) ?_; (on_goal 1 => clear_value q); (on_goal 2 => subst q)) | clear_value q) | apply ite_frame | refine foldl_frame (fun t i y h => ?_) _ _ ?_ | apply storeCtxWords_frame | apply modRings_frame | apply modPair_frame | (apply mk_frame; apply fold_frame)

theorem acceptInto_frame : ∀ a0 a1 a2 a3, a3.frame = y → (acceptInto a0 a1 a2 a3).frame = y := by
  intros; unfold acceptInto
  with_reducible repeat' first | assumption | rfl | (extract_lets +onlyGivenNames q; first | (refine (fun (hq : q.frame = y) => ?_) ?_; (on_goal 1 => clear_value q); (on_goal 2 => subst q)) | clear_value q) | apply ite_frame | apply modRings_frame | apply write_frame | apply modSq_frame | apply ageWords_frame | apply fetchNext_frame | apply wroteJournal_frame | apply finishFail_frame | apply raise_frame | split

theorem ackOne_frame : ∀ a0 a1, a1.frame = y → (ackOne a0 a1).frame = y := by
  intros; unfold ackOne
  with_reducible repeat' first | assumption | rfl | (extract_lets +onlyGivenNames q; first | (refine (fun (hq : q.frame = y) => ?_) ?_; (on_goal 1 => clear_value q); (on_goal 2 => subst q)) | clear_value q) | apply modSq_frame | apply modRings_frame | apply hostWrite_frame

theorem rollBack_frame : ∀ a0, a0.frame = y → (rollBack a0).frame = y := by
  intros; unfold rollBack
  with_reducible repeat' first | assumption | rfl | (extract_lets +onlyGivenNames q; first | (refine (fun (hq : q.frame = y) => ?_) ?_; (on_goal 1 => clear_value q); (on_goal 2 => subst q)) | clear_value q) | apply ite_frame | refine forAll_frame (fun i t y h => ?_) ?_ | apply modSq_frame | apply modHost_frame | apply modRings_frame | split

theorem freeEntry_frame : ∀ a0 a1, a1.frame = y → (freeEntry a0 a1).frame = y := by
  intros; unfold freeEntry
  with_reducible repeat' first | assumption | rfl | (extract_lets +onlyGivenNames q; first | (refine (fun (hq : q.frame = y) => ?_) ?_; (on_goal 1 => clear_value q); (on_goal 2 => subst q)) | (refine (fun (hq : q.2.frame = y) => ?_) ?_; (on_goal 1 => clear_value q); (on_goal 2 => subst q)) | clear_value q) | apply modRings_frame | apply dropWork_frame

theorem postEntry_frame : ∀ a0 a1, a1.frame = y → (postEntry a0 a1).frame = y := by
  intros; unfold postEntry
  with_reducible repeat' first | assumption | rfl | (extract_lets +onlyGivenNames q; first | (refine (fun (hq : q.frame = y) => ?_) ?_; (on_goal 1 => clear_value q); (on_goal 2 => subst q)) | clear_value q) | apply ite_frame | apply modCq_frame | apply dropWork_frame | apply writeCq_frame | apply modRings_frame | apply modEntry_frame

theorem losePosted_frame : ∀ a0, a0.frame = y → (losePosted a0).frame = y := by
  intros; unfold losePosted
  with_reducible repeat' first | assumption | rfl | apply ite_frame | apply modRings_frame

theorem sendMsix_frame : ∀ a0 a1, a1.frame = y → (sendMsix a0 a1).frame = y := by
  intros; unfold sendMsix
  with_reducible repeat' first | assumption | rfl | apply hostWrite_frame

theorem signalVector_frame : ∀ a0 a1, a1.frame = y → (signalVector a0 a1).frame = y := by
  intros; unfold signalVector
  with_reducible repeat' first | assumption | rfl | (extract_lets +onlyGivenNames q; first | (refine (fun (hq : q.frame = y) => ?_) ?_; (on_goal 1 => clear_value q); (on_goal 2 => subst q)) | (refine (fun (hq : q.2.frame = y) => ?_) ?_; (on_goal 1 => clear_value q); (on_goal 2 => subst q)) | clear_value q) | apply ite_frame | apply modHost_frame | apply sendMsix_frame

theorem writeMsix_frame : ∀ a0 a1 a2, a2.frame = y → (writeMsix a0 a1 a2).frame = y := by
  intros; unfold writeMsix
  with_reducible repeat' first | assumption | rfl | (extract_lets +onlyGivenNames q; first | (refine (fun (hq : q.frame = y) => ?_) ?_; (on_goal 1 => clear_value q); (on_goal 2 => subst q)) | clear_value q) | apply ite_frame | apply modHost_frame | apply sendMsix_frame

theorem applyCommand_frame : ∀ a0 a1, a1.frame = y → (applyCommand a0 a1).frame = y := by
  intros; unfold applyCommand
  with_reducible repeat' first | assumption | rfl | apply finishOk_frame | apply doRegionMode_frame | apply doRegionCommit_frame | apply doCaptureArm_frame | apply doCaptureStop_frame | apply runNetTx_frame | apply doTimeAdjust_frame | apply doPairSwap_frame | apply doFaultClear_frame | apply doEventForce_frame | apply doCtxCommand_frame | split

theorem startReplay_frame : ∀ a0 a1, a1.frame = y → (startReplay a0 a1).frame = y := by
  intros; unfold startReplay
  with_reducible repeat' first | assumption | rfl | apply modRings_frame

theorem readBackFailed_frame : ∀ a0 a1, a1.frame = y → (readBackFailed a0 a1).frame = y := by
  intro e s h
  unfold readBackFailed
  refine forAll_frame (fun q t y ht => ite_frame (modSq_frame _ _ _ (stopSq_frame _ _ _ ht)) ht) ?_
  exact raise_frame _ _ _ _ _ (hostError_frame _ _ _ _ _ (fresh_frame _ h))

theorem skipEntry_frame : ∀ a0 a1 a2 a3, a3.frame = y → (skipEntry a0 a1 a2 a3).frame = y := by
  intros; unfold skipEntry
  with_reducible repeat' first | assumption | rfl | apply modRings_frame

theorem skipApplied_frame : ∀ a0 a1, a1.frame = y → (skipApplied a0 a1).frame = y := by
  intros; unfold skipApplied
  with_reducible repeat' first | assumption | rfl | (extract_lets +onlyGivenNames q; first | (refine (fun (hq : q.2.frame = y) => ?_) ?_; (on_goal 1 => clear_value q); (on_goal 2 => subst q)) | clear_value q) | apply readMem_frame | apply skipEntry_frame

theorem returnWork_frame : ∀ a0 a1 a2, a2.frame = y → (returnWork a0 a1 a2).frame = y := by
  intros; unfold returnWork
  with_reducible repeat' first | assumption | rfl | (extract_lets +onlyGivenNames q; clear_value q) | apply ite_frame | apply modRings_frame

theorem returnEntry_frame : ∀ a0 a1, a1.frame = y → (returnEntry a0 a1).frame = y := by
  intros; unfold returnEntry
  with_reducible repeat' first | assumption | rfl | (extract_lets +onlyGivenNames q; first | (refine (fun (hq : q.2.frame = y) => ?_) ?_; (on_goal 1 => clear_value q); (on_goal 2 => subst q)) | clear_value q) | apply ite_frame | apply returnWork_frame | apply readMem_frame | apply finishFail_frame

theorem replayEntry_frame : ∀ a0 a1 a2, a2.frame = y → (replayEntry a0 a1 a2).frame = y := by
  intros; unfold replayEntry
  with_reducible repeat' first | assumption | rfl | (extract_lets +onlyGivenNames q; clear_value q) | apply ite_frame | apply readBackFailed_frame | apply freeEntry_frame | apply skipEntry_frame | apply skipApplied_frame | apply returnEntry_frame

theorem sendNext_frame : ∀ a0 a1, a1.frame = y → (sendNext a0 a1).frame = y := by
  intros; unfold sendNext
  with_reducible repeat' first | assumption | rfl | (extract_lets +onlyGivenNames q; first | (refine (fun (hq : q.frame = y) => ?_) ?_; (on_goal 1 => clear_value q); (on_goal 2 => subst q)) | clear_value q) | apply ite_frame | apply modMr_frame | (apply mk_frame; apply fold_frame)

theorem deliver_frame : ∀ a0 a1, a1.frame = y → (deliver a0 a1).frame = y := by
  intros; unfold deliver
  with_reducible repeat' first | assumption | rfl | (extract_lets +onlyGivenNames q; first | (refine (fun (hq : q.frame = y) => ?_) ?_; (on_goal 1 => clear_value q); (on_goal 2 => subst q)) | (refine (fun (hq : q.2.frame = y) => ?_) ?_; (on_goal 1 => clear_value q); (on_goal 2 => subst q)) | clear_value q) | refine forList_frame (fun i t y h => ?_) ?_ | apply captureSet_frame | apply loopSet_frame | apply captureChain_frame | apply loopChain_frame | apply captureNotice_frame | split | intro _ | (apply mk_frame; apply fold_frame)

theorem badFrame_frame : ∀ a0 a1 a2 a3, a3.frame = y → (badFrame a0 a1 a2 a3).frame = y := by
  intros; unfold badFrame
  with_reducible repeat' first | assumption | rfl | (extract_lets +onlyGivenNames q; first | (refine (fun (hq : q.frame = y) => ?_) ?_; (on_goal 1 => clear_value q); (on_goal 2 => subst q)) | clear_value q) | apply captureError_frame | apply modMr_frame | apply raise_frame

theorem frameArrives_frame : ∀ a0 a1 a2 a3, a3.frame = y → (frameArrives a0 a1 a2 a3).frame = y := by
  intro d skip err s h
  unfold frameArrives
  extract_lets m
  split
  · exact h
  · extract_lets t
    have ht : t.frame = y := modMr_frame _ _ _ h
    exact ite_frame (badFrame_frame _ _ _ _ ht) (ite_frame (deliver_frame _ _ (modMr_frame _ _ _ ht))
      (ite_frame (modMr_frame _ _ _ ht) ht))

theorem loseFrames_frame : ∀ a0 a1, a1.frame = y → (loseFrames a0 a1).frame = y := by
  intros; unfold loseFrames
  with_reducible repeat' first | assumption | rfl | (extract_lets +onlyGivenNames q; first | (refine (fun (hq : q.frame = y) => ?_) ?_; (on_goal 1 => clear_value q); (on_goal 2 => subst q)) | (refine (fun (hq : q.2.frame = y) => ?_) ?_; (on_goal 1 => clear_value q); (on_goal 2 => subst q)) | clear_value q) | refine forList_frame (fun i t y h => ?_) ?_ | apply losePayload_frame

theorem millraceDown_frame : ∀ a0, a0.frame = y → (millraceDown a0).frame = y := by
  intros; unfold millraceDown
  with_reducible repeat' first | assumption | rfl | (extract_lets +onlyGivenNames q; first | (refine (fun (hq : q.frame = y) => ?_) ?_; (on_goal 1 => clear_value q); (on_goal 2 => subst q)) | clear_value q) | apply bufferEvents_frame | apply losePosted_frame | apply rollBack_frame | apply loseFrames_frame | (apply mk_frame; apply fold_frame)

theorem linkFails_frame : ∀ a0, a0.frame = y → (linkFails a0).frame = y := by
  intros; unfold linkFails
  with_reducible repeat' first | assumption | rfl | (extract_lets +onlyGivenNames q; first | (refine (fun (hq : q.frame = y) => ?_) ?_; (on_goal 1 => clear_value q); (on_goal 2 => subst q)) | (refine (fun (hq : q.2.frame = y) => ?_) ?_; (on_goal 1 => clear_value q); (on_goal 2 => subst q)) | clear_value q) | apply ite_frame | apply stand_frame | apply raiseFull_frame | apply millraceDown_frame | (apply mk_frame; apply fold_frame)

theorem dropLock_frame : ∀ a0 a1 a2, a2.frame = y → (dropLock a0 a1 a2).frame = y := by
  intros; unfold dropLock
  with_reducible repeat' first | assumption | rfl | (extract_lets +onlyGivenNames q; first | (refine (fun (hq : q.frame = y) => ?_) ?_; (on_goal 1 => clear_value q); (on_goal 2 => subst q)) | (refine (fun (hq : q.2.frame = y) => ?_) ?_; (on_goal 1 => clear_value q); (on_goal 2 => subst q)) | clear_value q) | apply ite_frame | (apply mk_frame; apply fold_frame)

theorem discCleared_frame : ∀ a0 a1 a2, a2.frame = y → (discCleared a0 a1 a2).frame = y := by
  intros; unfold discCleared
  with_reducible repeat' first | assumption | rfl | (extract_lets +onlyGivenNames q; first | (refine (fun (hq : q.frame = y) => ?_) ?_; (on_goal 1 => clear_value q); (on_goal 2 => subst q)) | clear_value q) | apply ite_frame | apply unstand_frame | apply raise_frame

theorem latchDisc_frame : ∀ a0 a1 a2, a2.frame = y → (latchDisc a0 a1 a2).frame = y := by
  intros; unfold latchDisc
  with_reducible repeat' first | assumption | rfl | (extract_lets +onlyGivenNames q; first | (refine (fun (hq : q.frame = y) => ?_) ?_; (on_goal 1 => clear_value q); (on_goal 2 => subst q)) | (refine (fun (hq : q.2.frame = y) => ?_) ?_; (on_goal 1 => clear_value q); (on_goal 2 => subst q)) | clear_value q) | apply stand_frame | apply raise_frame | apply modSafCh_frame

theorem wireAbsent_frame : ∀ a0, a0.frame = y → (wireAbsent a0).frame = y := by
  intros; unfold wireAbsent
  with_reducible repeat' first | assumption | rfl | apply ite_frame | apply modSaf_frame

theorem judgePath1_frame : ∀ a0 a1, a1.frame = y → (judgePath1 a0 a1).frame = y := by
  intros; unfold judgePath1
  with_reducible repeat' first | assumption | rfl | (extract_lets +onlyGivenNames q; first | (refine (fun (hq : q.frame = y) => ?_) ?_; (on_goal 1 => clear_value q); (on_goal 2 => subst q)) | (refine (fun (hq : q.2.frame = y) => ?_) ?_; (on_goal 1 => clear_value q); (on_goal 2 => subst q)) | clear_value q) | apply ite_frame | apply stand_frame | apply raise_frame | apply modSaf_frame

theorem judgePath2_frame : ∀ a0 a1, a1.frame = y → (judgePath2 a0 a1).frame = y := by
  intros; unfold judgePath2
  with_reducible repeat' first | assumption | rfl | (extract_lets +onlyGivenNames q; first | (refine (fun (hq : q.frame = y) => ?_) ?_; (on_goal 1 => clear_value q); (on_goal 2 => subst q)) | (refine (fun (hq : q.2.frame = y) => ?_) ?_; (on_goal 1 => clear_value q); (on_goal 2 => subst q)) | clear_value q) | apply ite_frame | apply stand_frame | apply raise_frame | apply modSaf_frame

theorem noteCheck_frame : ∀ a0 a1, a1.frame = y → (noteCheck a0 a1).frame = y := by
  intros; unfold noteCheck
  with_reducible repeat' first | assumption | rfl | apply modSafCh_frame

theorem judgeTest_frame : ∀ a0 a1 a2 a3, a3.frame = y → (judgeTest a0 a1 a2 a3).frame = y := by
  intros; unfold judgeTest
  with_reducible repeat' first | assumption | rfl | (extract_lets +onlyGivenNames q; first | (refine (fun (hq : q.frame = y) => ?_) ?_; (on_goal 1 => clear_value q); (on_goal 2 => subst q)) | clear_value q) | apply ite_frame | apply modSaf_frame | apply modSafCh_frame | apply stand_frame | apply raise_frame | apply modSo_frame

theorem copyParams_frame : ∀ a0, a0.frame = y → (copyParams a0).frame = y := by
  intros; unfold copyParams
  with_reducible repeat' first | assumption | rfl | (extract_lets +onlyGivenNames q; first | (refine (fun (hq : q.frame = y) => ?_) ?_; (on_goal 1 => clear_value q); (on_goal 2 => subst q)) | clear_value q) | apply ite_frame | apply modSafCh_frame | apply stand_frame | apply raise_frame

theorem clearTestFaults_frame : ∀ a0, a0.frame = y → (clearTestFaults a0).frame = y := by
  intros; unfold clearTestFaults
  with_reducible repeat' first | assumption | rfl | (extract_lets +onlyGivenNames q; first | (refine (fun (hq : q.frame = y) => ?_) ?_; (on_goal 1 => clear_value q); (on_goal 2 => subst q)) | clear_value q) | apply ite_frame | refine forAll_frame (fun i t y h => ?_) ?_ | apply raise_frame | apply modSo_frame | apply unstand_frame

theorem channelPowerUp_frame : ∀ a0 a1, a1.frame = y → (channelPowerUp a0 a1).frame = y := by
  intros; unfold channelPowerUp
  with_reducible repeat' first | assumption | rfl | (extract_lets +onlyGivenNames q; first | (refine (fun (hq : q.frame = y) => ?_) ?_; (on_goal 1 => clear_value q); (on_goal 2 => subst q)) | clear_value q) | apply ite_frame | apply modSafCh_frame | apply raise_frame | apply clearTestFaults_frame | apply discCleared_frame

theorem stepCounters_frame : ∀ a0, a0.frame = y → (stepCounters a0).frame = y := by
  intros; unfold stepCounters
  with_reducible repeat' first | assumption | rfl | (extract_lets +onlyGivenNames q; clear_value q) | apply ite_frame | (apply mk_frame; apply fold_frame)

theorem tick_frame : ∀ a0, a0.frame = y → (tick a0).frame = y := by
  intros; unfold tick
  with_reducible repeat' first | assumption | rfl | (extract_lets +onlyGivenNames q; first | (refine (fun (hq : q.frame = y) => ?_) ?_; (on_goal 1 => clear_value q); (on_goal 2 => subst q)) | (refine (fun (hq : q.2.frame = y) => ?_) ?_; (on_goal 1 => clear_value q); (on_goal 2 => subst q)) | clear_value q) | apply ite_frame | apply stepCounters_frame | apply flushCapture_frame

theorem purgeCommands_frame : ∀ a0, a0.frame = y → (purgeCommands a0).frame = y := by
  intros; unfold purgeCommands
  with_reducible repeat' first | assumption | rfl | (extract_lets +onlyGivenNames q; (refine (fun (hq : q.frame = y) => ?_) ?_; (on_goal 1 => clear_value q); (on_goal 2 => subst q))) | apply modRings_frame | apply modHost_frame | apply modPair_frame | apply modNet_frame | apply modLoop_frame | (apply mk_frame; apply fold_frame)

theorem applyAgain_frame : ∀ a0 a1, a1.frame = y → (applyAgain a0 a1).frame = y := by
  intros; unfold applyAgain
  with_reducible repeat' first | assumption | rfl | apply modWork_frame

theorem reportEntry_frame : ∀ a0 a1, a1.frame = y → (reportEntry a0 a1).frame = y := by
  intros; unfold reportEntry
  with_reducible repeat' first | assumption | rfl | (extract_lets +onlyGivenNames q; first | (refine (fun (hq : q.frame = y) => ?_) ?_; (on_goal 1 => clear_value q); (on_goal 2 => subst q)) | (refine (fun (hq : q.2.frame = y) => ?_) ?_; (on_goal 1 => clear_value q); (on_goal 2 => subst q)) | clear_value q) | apply ite_frame | apply postEntry_frame | apply freeEntry_frame | apply captureError_frame

theorem ackAll_frame : ∀ a0, a0.frame = y → (ackAll a0).frame = y := by
  intros; unfold ackAll
  with_reducible repeat' first | assumption | rfl | (extract_lets +onlyGivenNames q; first | (refine (fun (hq : q.frame = y) => ?_) ?_; (on_goal 1 => clear_value q); (on_goal 2 => subst q)) | (refine (fun (hq : q.2.frame = y) => ?_) ?_; (on_goal 1 => clear_value q); (on_goal 2 => subst q)) | clear_value q) | refine forList_frame (fun i t y h => ?_) ?_ | apply ackOne_frame

theorem drainJournal_frame : ∀ a0 a1 a2, a2.frame = y → (drainJournal a0 a1 a2).2.frame = y := by
  intros; unfold drainJournal
  with_reducible repeat' first | assumption | rfl | (extract_lets +onlyGivenNames q; first | (refine (fun (hq : q.frame = y) => ?_) ?_; (on_goal 1 => clear_value q); (on_goal 2 => subst q)) | clear_value q) | refine forList_frame (fun i t y h => ?_) ?_ | apply ackAll_frame | apply reportEntry_frame | apply modRings_frame | apply modEntry_frame | apply purgeCommands_frame

theorem dropWaiting_frame : ∀ a0, a0.frame = y → (dropWaiting a0).frame = y := by
  intros; unfold dropWaiting
  with_reducible repeat' first | assumption | rfl | (extract_lets +onlyGivenNames q; first | (refine (fun (hq : q.frame = y) => ?_) ?_; (on_goal 1 => clear_value q); (on_goal 2 => subst q)) | (refine (fun (hq : q.2.frame = y) => ?_) ?_; (on_goal 1 => clear_value q); (on_goal 2 => subst q)) | clear_value q) | refine forAll_frame (fun i t y h => ?_) ?_ | apply modRegion_frame

theorem settleTx_frame : ∀ a0, a0.frame = y → (settleTx a0).frame = y := by
  intros; unfold settleTx
  with_reducible repeat' first | assumption | rfl | (extract_lets +onlyGivenNames q; first | (refine (fun (hq : q.frame = y) => ?_) ?_; (on_goal 1 => clear_value q); (on_goal 2 => subst q)) | clear_value q) | refine forList_frame (fun i t y h => ?_) ?_ | refine foldl_frame (fun t i y h => ?_) _ _ ?_ | apply finish_frame | apply payTag_frame | apply modNet_frame

theorem failResyncs_frame : ∀ a0, a0.frame = y → (failResyncs a0).frame = y := by
  intros; unfold failResyncs
  with_reducible repeat' first | assumption | rfl | (extract_lets +onlyGivenNames q; first | (refine (fun (hq : q.frame = y) => ?_) ?_; (on_goal 1 => clear_value q); (on_goal 2 => subst q)) | (refine (fun (hq : q.2.frame = y) => ?_) ?_; (on_goal 1 => clear_value q); (on_goal 2 => subst q)) | clear_value q) | apply ite_frame | refine forAll_frame (fun i t y h => ?_) ?_ | apply abortResync_frame

theorem settleHeld_frame : ∀ a0, a0.frame = y → (settleHeld a0).frame = y := by
  intros; unfold settleHeld
  with_reducible repeat' first | assumption | rfl | (extract_lets +onlyGivenNames q; first | (refine (fun (hq : q.frame = y) => ?_) ?_; (on_goal 1 => clear_value q); (on_goal 2 => subst q)) | (refine (fun (hq : q.2.frame = y) => ?_) ?_; (on_goal 1 => clear_value q); (on_goal 2 => subst q)) | clear_value q) | apply dropWaiting_frame | apply settleTx_frame | apply failResyncs_frame

theorem resetPairC_frame : ∀ a0, a0.frame = y → (resetPairC a0).frame = y := by
  intros; unfold resetPairC
  with_reducible repeat' first | assumption | rfl | (extract_lets +onlyGivenNames q; first | (refine (fun (hq : q.frame = y) => ?_) ?_; (on_goal 1 => clear_value q); (on_goal 2 => subst q)) | clear_value q) | refine forAll_frame (fun i t y h => ?_) ?_ | apply modPair_frame | apply modPairRegion_frame

theorem dropWaiters_frame : ∀ a0, a0.frame = y → (dropWaiters a0).frame = y := by
  intros; unfold dropWaiters
  with_reducible repeat' first | assumption | rfl | (apply mk_frame; apply fold_frame)

theorem answerAccesses_frame : ∀ a0, a0.frame = y → (answerAccesses a0).frame = y := by
  intros; unfold answerAccesses
  with_reducible repeat' first | assumption | rfl | apply ite_frame | apply modHost_frame

theorem collectOwn_frame : ∀ a0, a0.frame = y → (collectOwn a0).frame = y := by
  intros; unfold collectOwn
  with_reducible repeat' first | assumption | rfl | (extract_lets +onlyGivenNames q; clear_value q) | refine forList_frame (fun i t y h => ?_) ?_ | apply collect_frame | apply modEvents_frame

theorem cDieDown_frame : ∀ a0, a0.frame = y → (cDieDown a0).frame = y := by
  intros; unfold cDieDown
  with_reducible repeat' first | assumption | rfl | (extract_lets +onlyGivenNames q; first | (refine (fun (hq : q.frame = y) => ?_) ?_; (on_goal 1 => clear_value q); (on_goal 2 => subst q)) | clear_value q) | apply ite_frame | refine forAll_frame (fun i t y h => ?_) ?_ | apply releaseWeirs_frame | apply dropWaiters_frame | apply settleHeld_frame | apply flushCapture_frame | apply closeDebug_frame | apply openShadow_frame | apply collectOwn_frame | apply linkFails_frame | apply modPower_frame | apply wireAbsent_frame | apply modSafCh_frame | apply resetPairC_frame | apply clearForces_frame | apply answerAccesses_frame | apply orphanSessions_frame | apply losePosted_frame | apply unstand_frame | apply modArb_frame | apply modLoop_frame | apply modRings_frame | apply modHost_frame | apply modEvents_frame | (apply mk_frame; apply fold_frame)

theorem reloadCode_frame : ∀ a0, a0.frame = y → (reloadCode a0).frame = y := by
  intros; unfold reloadCode
  with_reducible repeat' first | assumption | rfl | (extract_lets +onlyGivenNames q; clear_value q) | refine foldl_frame (fun t i y h => ?_) _ _ ?_ | apply modLoop_frame

theorem resumeContexts_frame : ∀ a0, a0.frame = y → (resumeContexts a0).frame = y := by
  intros; unfold resumeContexts
  with_reducible repeat' first | assumption | rfl | (extract_lets +onlyGivenNames q; first | (refine (fun (hq : q.frame = y) => ?_) ?_; (on_goal 1 => clear_value q); (on_goal 2 => subst q)) | clear_value q) | apply ite_frame | refine forList_frame (fun i t y h => ?_) ?_ | apply setResident_frame | apply loadRoom_frame

theorem loseMemory_frame : ∀ a0, a0.frame = y → (loseMemory a0).frame = y := by
  intros; unfold loseMemory
  with_reducible repeat' first | assumption | rfl | (extract_lets +onlyGivenNames q; first | (refine (fun (hq : q.frame = y) => ?_) ?_; (on_goal 1 => clear_value q); (on_goal 2 => subst q)) | clear_value q) | refine foldl_frame (fun t i y h => ?_) _ _ ?_ | apply modLoop_frame | apply modRings_frame | apply modPower_frame | apply stand_frame | apply raise_frame | (apply mk_frame; apply fold_frame)

theorem endDieSafe_frame : ∀ a0, a0.frame = y → (endDieSafe a0).frame = y := by
  intros; unfold endDieSafe
  with_reducible repeat' first | assumption | rfl | (extract_lets +onlyGivenNames q; first | (refine (fun (hq : q.frame = y) => ?_) ?_; (on_goal 1 => clear_value q); (on_goal 2 => subst q)) | clear_value q) | apply ite_frame | refine forAll_frame (fun i t y h => ?_) ?_ | apply modSrc_frame | apply modPower_frame

theorem closeCDieWindow_frame : ∀ a0, a0.frame = y → (closeCDieWindow a0).frame = y := by
  intros; unfold closeCDieWindow
  with_reducible repeat' first | assumption | rfl | apply ite_frame | apply modEvents_frame

theorem resetNet_frame : ∀ a0, a0.frame = y → (resetNet a0).frame = y := by
  intros; unfold resetNet
  with_reducible repeat' first | assumption | rfl | (extract_lets +onlyGivenNames q; first | (refine (fun (hq : q.frame = y) => ?_) ?_; (on_goal 1 => clear_value q); (on_goal 2 => subst q)) | clear_value q) | refine forAll_frame (fun i t y h => ?_) ?_ | refine forList_frame (fun i t y h => ?_) ?_ | apply dropFrames_frame | apply applyAgain_frame | apply releaseWeirs_frame | (apply mk_frame; apply fold_frame)

theorem resetPairP_frame : ∀ a0, a0.frame = y → (resetPairP a0).frame = y := by
  intros; unfold resetPairP
  with_reducible repeat' first | assumption | rfl | (extract_lets +onlyGivenNames q; first | (refine (fun (hq : q.frame = y) => ?_) ?_; (on_goal 1 => clear_value q); (on_goal 2 => subst q)) | clear_value q) | refine forList_frame (fun i t y h => ?_) ?_ | apply applyAgain_frame | apply modPair_frame

theorem dropConditions_frame : ∀ a0, a0.frame = y → (dropConditions a0).frame = y := by
  intros; unfold dropConditions
  with_reducible repeat' first | assumption | rfl | (extract_lets +onlyGivenNames q; first | (refine (fun (hq : q.frame = y) => ?_) ?_; (on_goal 1 => clear_value q); (on_goal 2 => subst q)) | (refine (fun (hq : q.2.frame = y) => ?_) ?_; (on_goal 1 => clear_value q); (on_goal 2 => subst q)) | clear_value q) | apply ite_frame | refine forAll_frame (fun i t y h => ?_) ?_ | apply modSrc_frame

theorem resetBlocks_frame : ∀ a0, a0.frame = y → (resetBlocks a0).frame = y := by
  intros; unfold resetBlocks
  with_reducible repeat' first | assumption | rfl | (extract_lets +onlyGivenNames q; clear_value q) | (apply mk_frame; apply fold_frame)

theorem markOutage_frame : ∀ a0, a0.frame = y → (markOutage a0).frame = y := by
  intros; unfold markOutage
  with_reducible repeat' first | assumption | rfl | (extract_lets +onlyGivenNames q; first | (refine (fun (hq : q.frame = y) => ?_) ?_; (on_goal 1 => clear_value q); (on_goal 2 => subst q)) | (refine (fun (hq : q.2.frame = y) => ?_) ?_; (on_goal 1 => clear_value q); (on_goal 2 => subst q)) | clear_value q) | apply ite_frame | apply modTime_frame

theorem pDieDown_frame : ∀ a0, a0.frame = y → (pDieDown a0).frame = y := by
  intros; unfold pDieDown
  with_reducible repeat' first | assumption | rfl | (extract_lets +onlyGivenNames q; first | (refine (fun (hq : q.frame = y) => ?_) ?_; (on_goal 1 => clear_value q); (on_goal 2 => subst q)) | clear_value q) | apply ite_frame | refine forAll_frame (fun i t y h => ?_) ?_ | apply closeDebug_frame | apply markOutage_frame | apply abortSessions_frame | apply stopRegion_frame | apply resetPairP_frame | apply resetNet_frame | apply linkFails_frame | apply modPower_frame | apply modTime_frame | apply dropConditions_frame | apply resetBlocks_frame | apply enterDev_frame | apply modSaf_frame | (apply mk_frame; apply fold_frame)

theorem startBanks_frame : ∀ a0, a0.frame = y → (startBanks a0).frame = y := by
  intros; unfold startBanks
  with_reducible repeat' first | assumption | rfl | (extract_lets +onlyGivenNames q; first | (refine (fun (hq : q.frame = y) => ?_) ?_; (on_goal 1 => clear_value q); (on_goal 2 => subst q)) | (refine (fun (hq : q.2.frame = y) => ?_) ?_; (on_goal 1 => clear_value q); (on_goal 2 => subst q)) | clear_value q) | refine forAll_frame (fun i t y h => ?_) ?_ | apply modBank_frame

theorem restartTrigs_frame : ∀ a0, a0.frame = y → (restartTrigs a0).frame = y := by
  intros; unfold restartTrigs
  with_reducible repeat' first | assumption | rfl | (extract_lets +onlyGivenNames q; first | (refine (fun (hq : q.frame = y) => ?_) ?_; (on_goal 1 => clear_value q); (on_goal 2 => subst q)) | (refine (fun (hq : q.2.frame = y) => ?_) ?_; (on_goal 1 => clear_value q); (on_goal 2 => subst q)) | clear_value q) | apply ite_frame | refine forAll_frame (fun i t y h => ?_) ?_ | apply modTrig_frame

theorem channel1PowerUp_frame : ∀ a0, a0.frame = y → (channel1PowerUp a0).frame = y := by
  intros; unfold channel1PowerUp
  with_reducible repeat' first | assumption | rfl | (extract_lets +onlyGivenNames q; first | (refine (fun (hq : q.frame = y) => ?_) ?_; (on_goal 1 => clear_value q); (on_goal 2 => subst q)) | clear_value q) | apply unstand_frame | apply modSaf_frame | apply channelPowerUp_frame

theorem netUp_frame : ∀ a0, a0.frame = y → (netUp a0).frame = y := by
  intros; unfold netUp
  with_reducible repeat' first | assumption | rfl | (extract_lets +onlyGivenNames q; first | (refine (fun (hq : q.frame = y) => ?_) ?_; (on_goal 1 => clear_value q); (on_goal 2 => subst q)) | (refine (fun (hq : q.2.frame = y) => ?_) ?_; (on_goal 1 => clear_value q); (on_goal 2 => subst q)) | clear_value q) | apply ite_frame | apply timeRestart_frame | apply modNet_frame

theorem aoAlone_frame : ∀ a0 a1, a1.frame = y → (aoAlone a0 a1).frame = y := by
  intros; unfold aoAlone
  with_reducible repeat' first | assumption | rfl | apply modPower_frame

theorem startPDie_frame : ∀ a0, a0.frame = y → (startPDie a0).frame = y := by
  intros; unfold startPDie
  with_reducible repeat' first | assumption | rfl | (extract_lets +onlyGivenNames q; first | (refine (fun (hq : q.frame = y) => ?_) ?_; (on_goal 1 => clear_value q); (on_goal 2 => subst q)) | clear_value q) | apply ite_frame | apply channel1PowerUp_frame | apply modPower_frame | apply modTime_frame | apply modNet_frame | apply netUp_frame

theorem startCDie_frame : ∀ a0, a0.frame = y → (startCDie a0).frame = y := by
  intros; unfold startCDie
  with_reducible repeat' first | assumption | rfl | (extract_lets +onlyGivenNames q; first | (refine (fun (hq : q.frame = y) => ?_) ?_; (on_goal 1 => clear_value q); (on_goal 2 => subst q)) | clear_value q) | apply ite_frame | apply modSafCh_frame | apply modLoop_frame | apply modPower_frame

theorem trainLink_frame : ∀ a0, a0.frame = y → (trainLink a0).frame = y := by
  intros; unfold trainLink
  with_reducible repeat' first | assumption | rfl | (extract_lets +onlyGivenNames q; first | (refine (fun (hq : q.frame = y) => ?_) ?_; (on_goal 1 => clear_value q); (on_goal 2 => subst q)) | (refine (fun (hq : q.2.frame = y) => ?_) ?_; (on_goal 1 => clear_value q); (on_goal 2 => subst q)) | clear_value q) | apply ite_frame | apply deliverEvents_frame | apply syncTime_frame | (apply mk_frame; apply fold_frame)

theorem finishWake_frame : ∀ a0, a0.frame = y → (finishWake a0).frame = y := by
  intros; unfold finishWake
  with_reducible repeat' first | assumption | rfl | (extract_lets +onlyGivenNames q; first | (refine (fun (hq : q.frame = y) => ?_) ?_; (on_goal 1 => clear_value q); (on_goal 2 => subst q)) | (refine (fun (hq : q.2.frame = y) => ?_) ?_; (on_goal 1 => clear_value q); (on_goal 2 => subst q)) | clear_value q) | apply ite_frame | apply raise_frame | apply modPower_frame

theorem startUp_frame : ∀ a0, a0.frame = y → (startUp a0).frame = y := by
  intro s h
  unfold startUp
  exact ite_frame (modPower_frame _ _ h) (ite_frame (modPower_frame _ _ h) (ite_frame (startPDie_frame _ h) (ite_frame (modPower_frame _ _ h)
    (ite_frame (startCDie_frame _ h) (ite_frame (trainLink_frame _ h) (ite_frame (finishWake_frame _ h) h))))))

theorem idle_frame : ∀ a0, a0.frame = y → (idle a0).frame = y := by
  intros; unfold idle
  with_reducible repeat' first | assumption | rfl | (extract_lets +onlyGivenNames q; first | (refine (fun (hq : q.frame = y) => ?_) ?_; (on_goal 1 => clear_value q); (on_goal 2 => subst q)) | clear_value q) | apply ite_frame | apply tick_frame | apply settle_frame | apply startUp_frame

theorem raiseNow_frame : ∀ a0 a1 a2, a2.frame = y → (raiseNow a0 a1 a2).frame = y := by
  intros; unfold raiseNow
  with_reducible repeat' first | assumption | rfl | (extract_lets +onlyGivenNames q; clear_value q) | apply applyEvent_frame | apply pushEvent_frame

theorem powerFailHandling_frame : ∀ a0, a0.frame = y → (powerFailHandling a0).frame = y := by
  intros; unfold powerFailHandling
  with_reducible repeat' first | assumption | rfl | (extract_lets +onlyGivenNames q; first | (refine (fun (hq : q.2.frame = y) => ?_) ?_; (on_goal 1 => clear_value q); (on_goal 2 => subst q)) | clear_value q) | apply drainJournal_frame | apply modRings_frame | apply enterDev_frame | apply raise_frame

theorem signalFail_frame : ∀ a0, a0.frame = y → (signalFail a0).frame = y := by
  intros; unfold signalFail
  with_reducible repeat' first | assumption | rfl | (extract_lets +onlyGivenNames q; first | (refine (fun (hq : q.frame = y) => ?_) ?_; (on_goal 1 => clear_value q); (on_goal 2 => subst q)) | (refine (fun (hq : q.2.frame = y) => ?_) ?_; (on_goal 1 => clear_value q); (on_goal 2 => subst q)) | clear_value q) | apply modPower_frame | apply stand_frame | apply raiseNow_frame

theorem leaveService_frame : ∀ a0, a0.frame = y → (leaveService a0).frame = y := by
  intros; unfold leaveService
  with_reducible repeat' first | assumption | rfl | (extract_lets +onlyGivenNames q; (refine (fun (hq : q.frame = y) => ?_) ?_; (on_goal 1 => clear_value q); (on_goal 2 => subst q))) | apply ite_frame | apply enterDev_frame | (apply mk_frame; apply fold_frame)

theorem cmdResult_frame : ∀ a0 a1, a1.frame = y → (cmdResult a0 a1).frame = y := by
  intros; unfold cmdResult
  with_reducible repeat' first | assumption | rfl | apply modPower_frame

theorem noteStore_frame : ∀ a0 a1, a1.frame = y → (noteStore a0 a1).frame = y := by
  intros; unfold noteStore
  with_reducible repeat' first | assumption | rfl | apply modPower_frame

theorem inputBack_frame : ∀ a0 a1, a1.frame = y → (inputBack a0 a1).frame = y := by
  intros; unfold inputBack
  with_reducible repeat' first | assumption | rfl | (extract_lets +onlyGivenNames q; first | (refine (fun (hq : q.frame = y) => ?_) ?_; (on_goal 1 => clear_value q); (on_goal 2 => subst q)) | clear_value q) | apply ite_frame | apply modPower_frame | apply raise_frame

theorem netOff_frame : ∀ a0, a0.frame = y → (netOff a0).frame = y := by
  intros; unfold netOff
  with_reducible repeat' first | assumption | rfl | (extract_lets +onlyGivenNames q; first | (refine (fun (hq : q.frame = y) => ?_) ?_; (on_goal 1 => clear_value q); (on_goal 2 => subst q)) | clear_value q) | apply ite_frame | refine forAll_frame (fun i t y h => ?_) ?_ | apply stand_frame | apply raise_frame | apply modPair_frame | apply resetNet_frame

theorem sealNet_frame : ∀ a0, a0.frame = y → (sealNet a0).frame = y := by
  intros; unfold sealNet
  with_reducible repeat' first | assumption | rfl | (extract_lets +onlyGivenNames q; first | (refine (fun (hq : q.frame = y) => ?_) ?_; (on_goal 1 => clear_value q); (on_goal 2 => subst q)) | (refine (fun (hq : q.2.frame = y) => ?_) ?_; (on_goal 1 => clear_value q); (on_goal 2 => subst q)) | clear_value q) | apply ite_frame | apply modPower_frame | apply netOff_frame | apply markOutage_frame

theorem sealRings_frame : ∀ a0, a0.frame = y → (sealRings a0).frame = y := by
  intros; unfold sealRings
  with_reducible repeat' first | assumption | rfl | (extract_lets +onlyGivenNames q; first | (refine (fun (hq : q.frame = y) => ?_) ?_; (on_goal 1 => clear_value q); (on_goal 2 => subst q)) | (refine (fun (hq : q.2.frame = y) => ?_) ?_; (on_goal 1 => clear_value q); (on_goal 2 => subst q)) | clear_value q) | apply modHost_frame | apply modRings_frame

theorem sealChains_frame : ∀ a0, a0.frame = y → (sealChains a0).frame = y := by
  intros; unfold sealChains
  with_reducible repeat' first | assumption | rfl | (apply mk_frame; apply fold_frame)

theorem writeSoReq_frame : ∀ a0 a1, a1.frame = y → (writeSoReq a0 a1).frame = y := by
  intros; unfold writeSoReq
  with_reducible repeat' first | assumption | rfl | apply modSaf_frame

theorem writeDbg_frame : ∀ a0 a1, a1.frame = y → (writeDbg a0 a1).frame = y := by
  intros; unfold writeDbg
  with_reducible repeat' first | assumption | rfl | (extract_lets +onlyGivenNames q; first | (refine (fun (hq : q.frame = y) => ?_) ?_; (on_goal 1 => clear_value q); (on_goal 2 => subst q)) | (refine (fun (hq : q.2.frame = y) => ?_) ?_; (on_goal 1 => clear_value q); (on_goal 2 => subst q)) | clear_value q) | apply ite_frame | apply modPower_frame

theorem writeDbgCtrl_frame : ∀ a0 a1, a1.frame = y → (writeDbgCtrl a0 a1).frame = y := by
  intros; unfold writeDbgCtrl
  with_reducible repeat' first | assumption | rfl | (extract_lets +onlyGivenNames q; first | (refine (fun (hq : q.frame = y) => ?_) ?_; (on_goal 1 => clear_value q); (on_goal 2 => subst q)) | (refine (fun (hq : q.2.frame = y) => ?_) ?_; (on_goal 1 => clear_value q); (on_goal 2 => subst q)) | clear_value q) | apply ite_frame | apply fresh_frame | split | intro _ | (apply mk_frame; apply fold_frame)

theorem writeDbgAddr_frame : ∀ a0 a1, a1.frame = y → (writeDbgAddr a0 a1).frame = y := by
  intros; unfold writeDbgAddr
  with_reducible repeat' first | assumption | rfl | (extract_lets +onlyGivenNames q; clear_value q) | apply ite_frame | (apply mk_frame; apply fold_frame)

theorem writeDbgLine_frame : ∀ a0 a1 a2, a2.frame = y → (writeDbgLine a0 a1 a2).frame = y := by
  intros; unfold writeDbgLine
  with_reducible repeat' first | assumption | rfl | (extract_lets +onlyGivenNames q; clear_value q) | apply ite_frame | (apply mk_frame; apply fold_frame)

theorem debugRead_frame : ∀ a0, a0.frame = y → (debugRead a0).frame = y := by
  intros; unfold debugRead
  with_reducible repeat' first | assumption | rfl | (extract_lets +onlyGivenNames q; first | (refine (fun (hq : q.frame = y) => ?_) ?_; (on_goal 1 => clear_value q); (on_goal 2 => subst q)) | clear_value q) | apply readMem_frame | split | intro _ | (apply mk_frame; apply fold_frame)

theorem debugWrite_frame : ∀ a0, a0.frame = y → (debugWrite a0).frame = y := by
  intros; unfold debugWrite
  with_reducible repeat' first | assumption | rfl | apply write_frame

theorem writeUcodeAddr_frame : ∀ a0 a1, a1.frame = y → (writeUcodeAddr a0 a1).frame = y := by
  intros; unfold writeUcodeAddr
  with_reducible repeat' first | assumption | rfl | (extract_lets +onlyGivenNames q; first | (refine (fun (hq : q.frame = y) => ?_) ?_; (on_goal 1 => clear_value q); (on_goal 2 => subst q)) | (refine (fun (hq : q.2.frame = y) => ?_) ?_; (on_goal 1 => clear_value q); (on_goal 2 => subst q)) | clear_value q) | apply ite_frame | apply rwsWritten_frame | apply modLoop_frame

theorem writeDomStatus_frame : ∀ a0 a1, a1.frame = y → (writeDomStatus a0 a1).frame = y := by
  intros; unfold writeDomStatus
  with_reducible repeat' first | assumption | rfl | apply modPower_frame

theorem writeInjStatus_frame : ∀ a0 a1, a1.frame = y → (writeInjStatus a0 a1).frame = y := by
  intros; unfold writeInjStatus
  with_reducible repeat' first | assumption | rfl | apply modEvents_frame

theorem writeFecInfo_frame : ∀ a0 a1 a2, a2.frame = y → (writeFecInfo a0 a1 a2).frame = y := by
  intros; unfold writeFecInfo
  with_reducible repeat' first | assumption | rfl | (extract_lets +onlyGivenNames q; first | (refine (fun (hq : q.frame = y) => ?_) ?_; (on_goal 1 => clear_value q); (on_goal 2 => subst q)) | (refine (fun (hq : q.2.frame = y) => ?_) ?_; (on_goal 1 => clear_value q); (on_goal 2 => subst q)) | clear_value q) | apply ite_frame | apply clearError_frame

theorem writeArbStatus_frame : ∀ a0 a1, a1.frame = y → (writeArbStatus a0 a1).frame = y := by
  intros; unfold writeArbStatus
  with_reducible repeat' first | assumption | rfl | apply modArb_frame

theorem writeRingCtrl_frame : ∀ a0 a1, a1.frame = y → (writeRingCtrl a0 a1).frame = y := by
  intros; unfold writeRingCtrl
  with_reducible repeat' first | assumption | rfl | (extract_lets +onlyGivenNames q; first | (refine (fun (hq : q.frame = y) => ?_) ?_; (on_goal 1 => clear_value q); (on_goal 2 => subst q)) | (refine (fun (hq : q.2.frame = y) => ?_) ?_; (on_goal 1 => clear_value q); (on_goal 2 => subst q)) | clear_value q) | apply ite_frame | refine forAll_frame (fun i t y h => ?_) ?_ | apply restartSq_frame

theorem readEffect_frame : ∀ a0 a1, a1.frame = y → (readEffect a0 a1).frame = y := by
  intros; unfold readEffect
  with_reducible repeat' first | assumption | rfl | (extract_lets +onlyGivenNames q; first | (refine (fun (hq : q.frame = y) => ?_) ?_; (on_goal 1 => clear_value q); (on_goal 2 => subst q)) | (refine (fun (hq : q.2.frame = y) => ?_) ?_; (on_goal 1 => clear_value q); (on_goal 2 => subst q)) | clear_value q) | apply ite_frame | apply readQdata_frame | apply readTxq_frame | apply readTimeNow_frame | apply readAoTime_frame | split

theorem modSeqr_frame : ∀ a0 a1 a2, a2.frame = y → (modSeqr a0 a1 a2).frame = y := by
  intros; unfold modSeqr
  with_reducible repeat' first | assumption | rfl | apply putSeqr_frame

theorem declareDead_frame : ∀ a0 a1 a2, a2.frame = y → (declareDead a0 a1 a2).frame = y := by
  intros; unfold declareDead
  with_reducible repeat' first | assumption | rfl | (extract_lets +onlyGivenNames q; clear_value q) | apply modSeqr_frame

theorem decideStart_frame : ∀ a0 a1 a2, a2.frame = y → (decideStart a0 a1 a2).frame = y := by
  intros; unfold decideStart
  with_reducible repeat' first | assumption | rfl | (extract_lets +onlyGivenNames q; clear_value q) | apply ite_frame | apply modSeqr_frame

theorem endBlend_frame : ∀ a0 a1, a1.frame = y → (endBlend a0 a1).frame = y := by
  intros; unfold endBlend
  with_reducible repeat' first | assumption | rfl | (extract_lets +onlyGivenNames q; first | (refine (fun (hq : q.frame = y) => ?_) ?_; (on_goal 1 => clear_value q); (on_goal 2 => subst q)) | clear_value q) | apply ite_frame | apply putVsm_frame | apply raise_frame

theorem adaptRPos_frame : ∀ a0 a1 a2 a3, a3.frame = y → (adaptRPos a0 a1 a2 a3).frame = y := by
  intros; unfold adaptRPos
  with_reducible repeat' first | assumption | rfl | (extract_lets +onlyGivenNames q; first | (refine (fun (hq : q.frame = y) => ?_) ?_; (on_goal 1 => clear_value q); (on_goal 2 => subst q)) | clear_value q) | apply ite_frame | apply throughCtx_frame | apply raise_frame | apply putAdapt_frame

theorem adaptSweep_frame : ∀ a0 a1 a2, a2.frame = y → (adaptSweep a0 a1 a2).frame = y := by
  intro c r s h
  unfold adaptSweep
  exact ite_frame h (ite_frame (ite_frame (adaptRPos_frame _ _ _ _ h) h)
    (ite_frame (ite_frame (adaptRPos_frame _ _ _ _ h) h) h))

theorem endSweep_frame : ∀ a0 a1, a1.frame = y → (endSweep a0 a1).frame = y := by
  intros; unfold endSweep
  with_reducible repeat' first | assumption | rfl | (extract_lets +onlyGivenNames q; first | (refine (fun (hq : q.frame = y) => ?_) ?_; (on_goal 1 => clear_value q); (on_goal 2 => subst q)) | clear_value q) | apply ite_frame | apply setSw_frame | apply setOutVal_frame | apply modRt_frame | apply adaptSweep_frame

theorem devUpdate_frame : ∀ a0 a1 a2 a3 a4, (∀ x0 y, x0.frame = y → (a3 x0).frame = y) → a4.frame = y → (devUpdate a0 a1 a2 a3 a4).frame = y := by
  intro o n due f s hf h
  unfold devUpdate
  exact ite_frame (passWeir_frame _ _ _ (hf _ _ h)) (ite_frame h
    (ite_frame (passWeir_frame _ _ _ (hf _ _ (grantWeir_frame _ _ _ _ h))) (modWeir_frame _ _ _ h)))

theorem writeSafSet_frame : ∀ a0, a0.frame = y → (writeSafSet a0).frame = y := by
  intros; unfold writeSafSet
  with_reducible repeat' first | assumption | rfl | (extract_lets +onlyGivenNames q; first | (refine (fun (hq : q.frame = y) => ?_) ?_; (on_goal 1 => clear_value q); (on_goal 2 => subst q)) | clear_value q) | apply modSaf_frame | (apply mk_frame; apply fold_frame)

theorem writeNetSet_frame : ∀ a0, a0.frame = y → (writeNetSet a0).frame = y := by
  intros; unfold writeNetSet
  with_reducible repeat' first | assumption | rfl | (extract_lets +onlyGivenNames q; first | (refine (fun (hq : q.frame = y) => ?_) ?_; (on_goal 1 => clear_value q); (on_goal 2 => subst q)) | clear_value q) | apply modNet_frame | (apply mk_frame; apply fold_frame)

end Sys2Proof.Machine
end

