-- ==== Sys2Proof/Laws/FrameRows.lean ====
section
/-!
SUPPORT. The frame of the rows that write no register word: each keeps the queue, the register words and the Seal record.
-/
namespace Sys2Proof.Machine

open Sys2Proof

variable {y : List Instr × List (Nat × Word32) × List (Nat × Word32)}

theorem execRearm_frame : ∀ a0 a1 a2, a2.frame = y → keeps y (execRearm a0 a1 a2) := by
  intros; unfold execRearm
  with_reducible repeat' first | assumption | rfl | (extract_lets +onlyGivenNames q; first | (refine (fun (hq : q.frame = y) => ?_) ?_; (on_goal 1 => clear_value q); (on_goal 2 => subst q)) | (refine (fun (hq : q.2.frame = y) => ?_) ?_; (on_goal 1 => clear_value q); (on_goal 2 => subst q)) | clear_value q) | apply ite_keeps | apply next_keeps | apply refused_keeps | apply hostWord_frame | apply writeTrgCmd_frame | (intro x0 y h)

theorem execTriggerHoldOffEnd_frame : ∀ a0 a1, a1.frame = y → keeps y (execTriggerHoldOffEnd a0 a1) := by
  intros; unfold execTriggerHoldOffEnd
  with_reducible repeat' first | assumption | rfl | (extract_lets +onlyGivenNames q; clear_value q) | apply ite_frame | apply ite_keeps | apply next_keeps | apply refused_keeps | apply modTrig_frame

theorem execChainFrameFlush_frame : ∀ a0 a1, a1.frame = y → keeps y (execChainFrameFlush a0 a1) := by
  intros; unfold execChainFrameFlush
  with_reducible repeat' first | assumption | rfl | (extract_lets +onlyGivenNames q; clear_value q) | apply ite_frame | apply ite_keeps | apply next_keeps | apply refused_keeps | apply chainFlush_frame

theorem immediate_frame : ∀ a0 a1 a2 a3, (∀ x0 y, x0.frame = y → (a2 x0).frame = y) → a3.frame = y → keeps y (immediate a0 a1 a2 a3) := by
  intro k op f s hf h
  exact next_keeps (ite_frame (settle_frame _ _ (hf _ _ h)) h)

theorem execRegionMode_frame : ∀ a0 a1, a1.frame = y → keeps y (execRegionMode a0 a1) := by
  intros; unfold execRegionMode
  with_reducible repeat' first | assumption | rfl | (extract_lets +onlyGivenNames q; first | (refine (fun (hq : q.frame = y) => ?_) ?_; (on_goal 1 => clear_value q); (on_goal 2 => subst q)) | (refine (fun (hq : q.2.frame = y) => ?_) ?_; (on_goal 1 => clear_value q); (on_goal 2 => subst q)) | clear_value q) | apply ite_frame | apply ite_keeps | apply next_keeps | apply refused_keeps | apply settle_frame | apply doRegionMode_frame

theorem execRegionCommit_frame : ∀ a0 a1, a1.frame = y → keeps y (execRegionCommit a0 a1) := by
  intros; unfold execRegionCommit
  with_reducible repeat' first | assumption | rfl | (extract_lets +onlyGivenNames q; first | (refine (fun (hq : q.frame = y) => ?_) ?_; (on_goal 1 => clear_value q); (on_goal 2 => subst q)) | (refine (fun (hq : q.2.frame = y) => ?_) ?_; (on_goal 1 => clear_value q); (on_goal 2 => subst q)) | clear_value q) | apply ite_frame | apply ite_keeps | apply next_keeps | apply refused_keeps | apply settle_frame | apply doRegionCommit_frame

theorem execRegionBoundary_frame : ∀ a0 a1, a1.frame = y → keeps y (execRegionBoundary a0 a1) := by
  intros; unfold execRegionBoundary
  with_reducible repeat' first | assumption | rfl | (extract_lets +onlyGivenNames q; first | (refine (fun (hq : q.frame = y) => ?_) ?_; (on_goal 1 => clear_value q); (on_goal 2 => subst q)) | (refine (fun (hq : q.2.frame = y) => ?_) ?_; (on_goal 1 => clear_value q); (on_goal 2 => subst q)) | clear_value q) | apply ite_frame | apply ite_keeps | apply next_keeps | apply refused_keeps | apply settle_frame | apply boundary_frame | split

theorem execRecoveryEnd_frame : ∀ a0 a1, a1.frame = y → keeps y (execRecoveryEnd a0 a1) := by
  intros; unfold execRecoveryEnd
  with_reducible repeat' first | assumption | rfl | (extract_lets +onlyGivenNames q; first | (refine (fun (hq : q.frame = y) => ?_) ?_; (on_goal 1 => clear_value q); (on_goal 2 => subst q)) | (refine (fun (hq : q.2.frame = y) => ?_) ?_; (on_goal 1 => clear_value q); (on_goal 2 => subst q)) | clear_value q) | apply ite_frame | apply ite_keeps | apply next_keeps | apply refused_keeps | apply settle_frame | apply changePhase_frame

theorem execTripAssert_frame : ∀ a0 a1, a1.frame = y → keeps y (execTripAssert a0 a1) := by
  intros; unfold execTripAssert
  with_reducible repeat' first | assumption | rfl | (extract_lets +onlyGivenNames q; first | (refine (fun (hq : q.frame = y) => ?_) ?_; (on_goal 1 => clear_value q); (on_goal 2 => subst q)) | (refine (fun (hq : q.2.frame = y) => ?_) ?_; (on_goal 1 => clear_value q); (on_goal 2 => subst q)) | clear_value q) | apply ite_frame | apply ite_keeps | apply next_keeps | apply refused_keeps | refine forAll_frame (fun i t y h => ?_) ?_ | apply settle_frame | apply tripRegion_frame | (apply mk_frame; apply fold_frame)

theorem execIslandWrap_frame : ∀ a0 a1, a1.frame = y → keeps y (execIslandWrap a0 a1) := by
  intros; unfold execIslandWrap
  with_reducible repeat' first | assumption | rfl | (extract_lets +onlyGivenNames q; clear_value q) | apply ite_frame | apply ite_keeps | apply next_keeps | apply refused_keeps | apply settle_frame | apply wrap_frame | split

theorem execUnitEdge_frame : ∀ a0 a1, a1.frame = y → keeps y (execUnitEdge a0 a1) := by
  intros; unfold execUnitEdge
  with_reducible repeat' first | assumption | rfl | (extract_lets +onlyGivenNames q; first | (refine (fun (hq : q.frame = y) => ?_) ?_; (on_goal 1 => clear_value q); (on_goal 2 => subst q)) | clear_value q) | apply ite_frame | apply ite_keeps | apply next_keeps | apply refused_keeps | apply commandUnit_frame | apply modUnit_frame | apply settle_frame | apply gateIsland_frame | split

theorem execCDieLossDetect_frame : ∀ a0 a1, a1.frame = y → keeps y (execCDieLossDetect a0 a1) := by
  intros; unfold execCDieLossDetect
  with_reducible repeat' first | assumption | rfl | (extract_lets +onlyGivenNames q; clear_value q) | apply ite_frame | apply ite_keeps | apply next_keeps | apply refused_keeps | apply modRegion_frame

theorem execHoldTimeEnd_frame : ∀ a0 a1, a1.frame = y → keeps y (execHoldTimeEnd a0 a1) := by
  intros; unfold execHoldTimeEnd
  with_reducible repeat' first | assumption | rfl | (extract_lets +onlyGivenNames q; first | (refine (fun (hq : q.frame = y) => ?_) ?_; (on_goal 1 => clear_value q); (on_goal 2 => subst q)) | clear_value q) | apply ite_frame | apply ite_keeps | apply next_keeps | apply refused_keeps | apply modRegion_frame | apply settle_frame | apply stand_frame | apply raise_frame | split

theorem execRegionTrigger_frame : ∀ a0 a1, a1.frame = y → keeps y (execRegionTrigger a0 a1) := by
  intros; unfold execRegionTrigger
  with_reducible repeat' first | assumption | rfl | (extract_lets +onlyGivenNames q; clear_value q) | apply ite_frame | apply ite_keeps | apply next_keeps | apply refused_keeps | apply settle_frame | apply regionTrigger_frame | split

theorem execBankTimer_frame : ∀ a0 a1, a1.frame = y → keeps y (execBankTimer a0 a1) := by
  intros; unfold execBankTimer
  with_reducible repeat' first | assumption | rfl | (extract_lets +onlyGivenNames q; first | (refine (fun (hq : q.frame = y) => ?_) ?_; (on_goal 1 => clear_value q); (on_goal 2 => subst q)) | clear_value q) | apply ite_frame | apply ite_keeps | apply next_keeps | apply refused_keeps | apply bankTrigger_frame | apply modBank_frame | apply settle_frame

theorem execAdcQdataRead_frame : ∀ a0 a1, a1.frame = y → keeps y (execAdcQdataRead a0 a1) := by
  intros; unfold execAdcQdataRead
  with_reducible repeat' first | assumption | rfl | (extract_lets +onlyGivenNames q; first | (refine (fun (hq : q.frame = y) => ?_) ?_; (on_goal 1 => clear_value q); (on_goal 2 => subst q)) | (refine (fun (hq : q.2.frame = y) => ?_) ?_; (on_goal 1 => clear_value q); (on_goal 2 => subst q)) | clear_value q) | apply ite_keeps | apply next_keeps | apply refused_keeps | apply hostAccess_frame | apply readQdata_frame | (intro x0 y h)

theorem execSetComplete_frame : ∀ a0 a1, a1.frame = y → keeps y (execSetComplete a0 a1) := by
  intros; unfold execSetComplete
  with_reducible repeat' first | assumption | rfl | (extract_lets +onlyGivenNames q; first | (refine (fun (hq : q.frame = y) => ?_) ?_; (on_goal 1 => clear_value q); (on_goal 2 => subst q)) | (refine (fun (hq : q.2.frame = y) => ?_) ?_; (on_goal 1 => clear_value q); (on_goal 2 => subst q)) | clear_value q) | apply ite_frame | apply ite_keeps | apply next_keeps | apply refused_keeps | apply settle_frame | apply setsComplete_frame

theorem execSamplingInstant_frame : ∀ a0 a1 a2, a2.frame = y → keeps y (execSamplingInstant a0 a1 a2) := by
  intros; unfold execSamplingInstant
  with_reducible repeat' first | assumption | rfl | (extract_lets +onlyGivenNames q; first | (refine (fun (hq : q.frame = y) => ?_) ?_; (on_goal 1 => clear_value q); (on_goal 2 => subst q)) | (refine (fun (hq : q.2.frame = y) => ?_) ?_; (on_goal 1 => clear_value q); (on_goal 2 => subst q)) | clear_value q) | apply ite_frame | apply ite_keeps | apply next_keeps | apply refused_keeps | apply settle_frame | apply samplingInstant_frame

theorem execPackedFrameFlush_frame : ∀ a0 a1, a1.frame = y → keeps y (execPackedFrameFlush a0 a1) := by
  intros; unfold execPackedFrameFlush
  with_reducible repeat' first | assumption | rfl | (extract_lets +onlyGivenNames q; clear_value q) | apply ite_frame | apply ite_keeps | apply next_keeps | apply refused_keeps | apply flushPacked_frame

theorem execGo_frame : ∀ a0 a1 a2, a2.frame = y → keeps y (execGo a0 a1 a2) := by
  intros; unfold execGo
  with_reducible repeat' first | assumption | rfl | (extract_lets +onlyGivenNames q; first | (refine (fun (hq : q.frame = y) => ?_) ?_; (on_goal 1 => clear_value q); (on_goal 2 => subst q)) | (refine (fun (hq : q.2.frame = y) => ?_) ?_; (on_goal 1 => clear_value q); (on_goal 2 => subst q)) | clear_value q) | apply ite_keeps | apply next_keeps | apply refused_keeps | apply hostWord_frame | apply writeInjSw_frame | (intro x0 y h)

theorem execInjectedTrigger_frame : ∀ a0 a1, a1.frame = y → keeps y (execInjectedTrigger a0 a1) := by
  intros; unfold execInjectedTrigger
  with_reducible repeat' first | assumption | rfl | (extract_lets +onlyGivenNames q; first | (refine (fun (hq : q.frame = y) => ?_) ?_; (on_goal 1 => clear_value q); (on_goal 2 => subst q)) | clear_value q) | apply ite_frame | apply ite_keeps | apply next_keeps | apply refused_keeps | apply modBank_frame | apply settle_frame | apply injOverrun_frame | split

theorem execInjectedSamplingInstant_frame : ∀ a0 a1 a2, a2.frame = y → keeps y (execInjectedSamplingInstant a0 a1 a2) := by
  intros; unfold execInjectedSamplingInstant
  with_reducible repeat' first | assumption | rfl | (extract_lets +onlyGivenNames q; first | (refine (fun (hq : q.frame = y) => ?_) ?_; (on_goal 1 => clear_value q); (on_goal 2 => subst q)) | (refine (fun (hq : q.2.frame = y) => ?_) ?_; (on_goal 1 => clear_value q); (on_goal 2 => subst q)) | clear_value q) | apply ite_frame | apply ite_keeps | apply next_keeps | apply refused_keeps | apply settle_frame | apply injSamplingInstant_frame

theorem execInjectedConversionComplete_frame : ∀ a0 a1, a1.frame = y → keeps y (execInjectedConversionComplete a0 a1) := by
  intros; unfold execInjectedConversionComplete
  with_reducible repeat' first | assumption | rfl | (extract_lets +onlyGivenNames q; first | (refine (fun (hq : q.frame = y) => ?_) ?_; (on_goal 1 => clear_value q); (on_goal 2 => subst q)) | (refine (fun (hq : q.2.frame = y) => ?_) ?_; (on_goal 1 => clear_value q); (on_goal 2 => subst q)) | clear_value q) | apply ite_frame | apply ite_keeps | apply next_keeps | apply refused_keeps | apply settle_frame | apply injComplete_frame | split

theorem execCalibrationStepStart_frame : ∀ a0 a1, a1.frame = y → keeps y (execCalibrationStepStart a0 a1) := by
  intros; unfold execCalibrationStepStart
  with_reducible repeat' first | assumption | rfl | (extract_lets +onlyGivenNames q; clear_value q) | apply ite_frame | apply ite_keeps | apply next_keeps | apply refused_keeps | apply modBank_frame

theorem execCalibrationHandOver_frame : ∀ a0 a1, a1.frame = y → keeps y (execCalibrationHandOver a0 a1) := by
  intros; unfold execCalibrationHandOver
  with_reducible repeat' first | assumption | rfl | (extract_lets +onlyGivenNames q; clear_value q) | apply ite_frame | apply ite_keeps | apply next_keeps | apply refused_keeps | apply modBank_frame

theorem execCalibrationMeasurementEnd_frame : ∀ a0 a1 a2 a3, a3.frame = y → keeps y (execCalibrationMeasurementEnd a0 a1 a2 a3) := by
  intros; unfold execCalibrationMeasurementEnd
  with_reducible repeat' first | assumption | rfl | (extract_lets +onlyGivenNames q; clear_value q) | apply ite_frame | apply ite_keeps | apply next_keeps | apply refused_keeps | apply settle_frame | apply sliceFailed_frame | apply modBank_frame

theorem execCalibrationHandBack_frame : ∀ a0 a1, a1.frame = y → keeps y (execCalibrationHandBack a0 a1) := by
  intros; unfold execCalibrationHandBack
  with_reducible repeat' first | assumption | rfl | (extract_lets +onlyGivenNames q; clear_value q) | apply ite_frame | apply ite_keeps | apply next_keeps | apply refused_keeps | apply modBank_frame

theorem execWindowComparatorAsserted_frame : ∀ a0 a1 a2, a2.frame = y → keeps y (execWindowComparatorAsserted a0 a1 a2) := by
  intros; unfold execWindowComparatorAsserted
  with_reducible repeat' first | assumption | rfl | (extract_lets +onlyGivenNames q; first | (refine (fun (hq : q.frame = y) => ?_) ?_; (on_goal 1 => clear_value q); (on_goal 2 => subst q)) | (refine (fun (hq : q.2.frame = y) => ?_) ?_; (on_goal 1 => clear_value q); (on_goal 2 => subst q)) | clear_value q) | apply ite_frame | apply ite_keeps | apply next_keeps | apply refused_keeps | apply settle_frame | apply assertWindow_frame

theorem execWindowComparatorRelease_frame : ∀ a0 a1 a2, a2.frame = y → keeps y (execWindowComparatorRelease a0 a1 a2) := by
  intros; unfold execWindowComparatorRelease
  with_reducible repeat' first | assumption | rfl | (extract_lets +onlyGivenNames q; first | (refine (fun (hq : q.frame = y) => ?_) ?_; (on_goal 1 => clear_value q); (on_goal 2 => subst q)) | (refine (fun (hq : q.2.frame = y) => ?_) ?_; (on_goal 1 => clear_value q); (on_goal 2 => subst q)) | clear_value q) | apply ite_frame | apply ite_keeps | apply next_keeps | apply refused_keeps | apply settle_frame | apply setWindow_frame

theorem execTimeLockLost_frame : ∀ a0, a0.frame = y → keeps y (execTimeLockLost a0) := by
  intros; unfold execTimeLockLost
  with_reducible repeat' first | assumption | rfl | (extract_lets +onlyGivenNames q; first | (refine (fun (hq : q.frame = y) => ?_) ?_; (on_goal 1 => clear_value q); (on_goal 2 => subst q)) | (refine (fun (hq : q.2.frame = y) => ?_) ?_; (on_goal 1 => clear_value q); (on_goal 2 => subst q)) | clear_value q) | apply ite_frame | apply ite_keeps | apply next_keeps | apply refused_keeps | apply settle_frame | apply loseLock_frame

theorem execTimeAdjust_frame : ∀ a0 a1, a1.frame = y → keeps y (execTimeAdjust a0 a1) := by
  intros; unfold execTimeAdjust
  with_reducible repeat' first | assumption | rfl | (extract_lets +onlyGivenNames q; first | (refine (fun (hq : q.frame = y) => ?_) ?_; (on_goal 1 => clear_value q); (on_goal 2 => subst q)) | (refine (fun (hq : q.2.frame = y) => ?_) ?_; (on_goal 1 => clear_value q); (on_goal 2 => subst q)) | clear_value q) | apply ite_keeps | apply next_keeps | apply refused_keeps | apply immediate_frame | apply doTimeAdjust_frame | (intro x0 y h)

theorem execTimeNowRead_frame : ∀ a0, a0.frame = y → keeps y (execTimeNowRead a0) := by
  intros; unfold execTimeNowRead
  with_reducible repeat' first | assumption | rfl | (extract_lets +onlyGivenNames q; first | (refine (fun (hq : q.frame = y) => ?_) ?_; (on_goal 1 => clear_value q); (on_goal 2 => subst q)) | (refine (fun (hq : q.2.frame = y) => ?_) ?_; (on_goal 1 => clear_value q); (on_goal 2 => subst q)) | clear_value q) | apply ite_keeps | apply next_keeps | apply refused_keeps | apply hostAccess_frame | apply readTimeNow_frame | (intro x0 y h)

theorem execAoTimeRead_frame : ∀ a0, a0.frame = y → keeps y (execAoTimeRead a0) := by
  intros; unfold execAoTimeRead
  with_reducible repeat' first | assumption | rfl | (extract_lets +onlyGivenNames q; first | (refine (fun (hq : q.frame = y) => ?_) ?_; (on_goal 1 => clear_value q); (on_goal 2 => subst q)) | (refine (fun (hq : q.2.frame = y) => ?_) ?_; (on_goal 1 => clear_value q); (on_goal 2 => subst q)) | clear_value q) | apply ite_keeps | apply next_keeps | apply refused_keeps | apply hostAccess_frame | apply readAoTime_frame | (intro x0 y h)

theorem execNetTx_frame : ∀ a0 a1, a1.frame = y → keeps y (execNetTx a0 a1) := by
  intros; unfold execNetTx
  with_reducible repeat' first | assumption | rfl | (extract_lets +onlyGivenNames q; first | (refine (fun (hq : q.frame = y) => ?_) ?_; (on_goal 1 => clear_value q); (on_goal 2 => subst q)) | (refine (fun (hq : q.2.frame = y) => ?_) ?_; (on_goal 1 => clear_value q); (on_goal 2 => subst q)) | clear_value q) | apply ite_keeps | apply next_keeps | apply refused_keeps | apply immediate_frame | apply runNetTx_frame | (intro x0 y h)

theorem execPortFrameBoundary_frame : ∀ a0 a1, a1.frame = y → keeps y (execPortFrameBoundary a0 a1) := by
  intros; unfold execPortFrameBoundary
  with_reducible repeat' first | assumption | rfl | (extract_lets +onlyGivenNames q; clear_value q) | apply ite_frame | apply ite_keeps | apply next_keeps | apply refused_keeps | apply settle_frame | apply portBoundary_frame

theorem execTxTimestamp_frame : ∀ a0 a1, a1.frame = y → keeps y (execTxTimestamp a0 a1) := by
  intros; unfold execTxTimestamp
  with_reducible repeat' first | assumption | rfl | (extract_lets +onlyGivenNames q; first | (refine (fun (hq : q.frame = y) => ?_) ?_; (on_goal 1 => clear_value q); (on_goal 2 => subst q)) | (refine (fun (hq : q.2.frame = y) => ?_) ?_; (on_goal 1 => clear_value q); (on_goal 2 => subst q)) | clear_value q) | apply ite_frame | apply ite_keeps | apply next_keeps | apply refused_keeps | apply settle_frame | apply txTimestamp_frame | split

theorem execTimeTxqE0Read_frame : ∀ a0, a0.frame = y → keeps y (execTimeTxqE0Read a0) := by
  intros; unfold execTimeTxqE0Read
  with_reducible repeat' first | assumption | rfl | (extract_lets +onlyGivenNames q; first | (refine (fun (hq : q.frame = y) => ?_) ?_; (on_goal 1 => clear_value q); (on_goal 2 => subst q)) | (refine (fun (hq : q.2.frame = y) => ?_) ?_; (on_goal 1 => clear_value q); (on_goal 2 => subst q)) | clear_value q) | apply ite_keeps | apply next_keeps | apply refused_keeps | apply hostAccess_frame | apply readTxq_frame | (intro x0 y h)

theorem execNetRxPost_frame : ∀ a0 a1, a1.frame = y → keeps y (execNetRxPost a0 a1) := by
  intros; unfold execNetRxPost
  with_reducible repeat' first | assumption | rfl | (extract_lets +onlyGivenNames q; first | (refine (fun (hq : q.frame = y) => ?_) ?_; (on_goal 1 => clear_value q); (on_goal 2 => subst q)) | (refine (fun (hq : q.2.frame = y) => ?_) ?_; (on_goal 1 => clear_value q); (on_goal 2 => subst q)) | clear_value q) | apply ite_keeps | apply next_keeps | apply refused_keeps | apply immediate_frame | apply doNetRxPost_frame | (intro x0 y h)

theorem execFrameReceive_frame : ∀ a0 a1 a2 a3, a3.frame = y → keeps y (execFrameReceive a0 a1 a2 a3) := by
  intros; unfold execFrameReceive
  with_reducible repeat' first | assumption | rfl | (extract_lets +onlyGivenNames q; first | (refine (fun (hq : q.frame = y) => ?_) ?_; (on_goal 1 => clear_value q); (on_goal 2 => subst q)) | (refine (fun (hq : q.2.frame = y) => ?_) ?_; (on_goal 1 => clear_value q); (on_goal 2 => subst q)) | clear_value q) | apply ite_frame | apply ite_keeps | apply next_keeps | apply refused_keeps | apply settle_frame | apply frameReceive_frame

theorem execSupervisionFrameSend_frame : ∀ a0, a0.frame = y → keeps y (execSupervisionFrameSend a0) := by
  intros; unfold execSupervisionFrameSend
  with_reducible repeat' first | assumption | rfl | (extract_lets +onlyGivenNames q; clear_value q) | apply ite_frame | apply ite_keeps | apply next_keeps | apply refused_keeps | apply queueFrame_frame | apply modNet_frame

theorem execLanSilent_frame : ∀ a0 a1, a1.frame = y → keeps y (execLanSilent a0 a1) := by
  intros; unfold execLanSilent
  with_reducible repeat' first | assumption | rfl | (extract_lets +onlyGivenNames q; clear_value q) | apply ite_frame | apply ite_keeps | apply next_keeps | apply refused_keeps | apply settle_frame | apply raise_frame | apply modPort_frame

theorem execPrpNodeExpire_frame : ∀ a0 a1, a1.frame = y → keeps y (execPrpNodeExpire a0 a1) := by
  intros; unfold execPrpNodeExpire
  with_reducible repeat' first | assumption | rfl | (extract_lets +onlyGivenNames q; first | (refine (fun (hq : q.frame = y) => ?_) ?_; (on_goal 1 => clear_value q); (on_goal 2 => subst q)) | (refine (fun (hq : q.2.frame = y) => ?_) ?_; (on_goal 1 => clear_value q); (on_goal 2 => subst q)) | clear_value q) | apply ite_frame | apply ite_keeps | apply next_keeps | apply refused_keeps | apply modNet_frame

theorem execLinkUp_frame : ∀ a0 a1, a1.frame = y → keeps y (execLinkUp a0 a1) := by
  intros; unfold execLinkUp
  with_reducible repeat' first | assumption | rfl | (extract_lets +onlyGivenNames q; first | (refine (fun (hq : q.frame = y) => ?_) ?_; (on_goal 1 => clear_value q); (on_goal 2 => subst q)) | (refine (fun (hq : q.2.frame = y) => ?_) ?_; (on_goal 1 => clear_value q); (on_goal 2 => subst q)) | clear_value q) | apply ite_frame | apply ite_keeps | apply next_keeps | apply refused_keeps | apply settle_frame | apply raise_frame | apply unstand_frame | apply modPort_frame

theorem execLinkDown_frame : ∀ a0 a1, a1.frame = y → keeps y (execLinkDown a0 a1) := by
  intros; unfold execLinkDown
  with_reducible repeat' first | assumption | rfl | (extract_lets +onlyGivenNames q; first | (refine (fun (hq : q.frame = y) => ?_) ?_; (on_goal 1 => clear_value q); (on_goal 2 => subst q)) | (refine (fun (hq : q.2.frame = y) => ?_) ?_; (on_goal 1 => clear_value q); (on_goal 2 => subst q)) | clear_value q) | apply ite_frame | apply ite_keeps | apply next_keeps | apply refused_keeps | apply settle_frame | apply stand_frame | apply raise_frame | apply dropFrames_frame | apply modPort_frame

theorem execIslandLinkLost_frame : ∀ a0 a1 a2, a2.frame = y → keeps y (execIslandLinkLost a0 a1 a2) := by
  intros; unfold execIslandLinkLost
  with_reducible repeat' first | assumption | rfl | (extract_lets +onlyGivenNames q; clear_value q) | apply ite_frame | apply ite_keeps | apply next_keeps | apply refused_keeps | apply settle_frame | apply linkLost_frame

theorem execIslandLinkRelock_frame : ∀ a0 a1, a1.frame = y → keeps y (execIslandLinkRelock a0 a1) := by
  intros; unfold execIslandLinkRelock
  with_reducible repeat' first | assumption | rfl | (extract_lets +onlyGivenNames q; first | (refine (fun (hq : q.frame = y) => ?_) ?_; (on_goal 1 => clear_value q); (on_goal 2 => subst q)) | clear_value q) | apply ite_frame | apply ite_keeps | apply next_keeps | apply refused_keeps | apply modIsland_frame | apply settle_frame | apply evaluate_frame

theorem execIslandInterlock_frame : ∀ a0 a1, a1.frame = y → keeps y (execIslandInterlock a0 a1) := by
  intro i s h
  refine next_keeps (ite_frame ?_ h)
  extract_lets off t u due
  have ho : ∀ (v : UnitId) (t : State), t.frame = y → (off v t).frame = y := fun v t ht => modUnit_frame _ _ _ ht
  have hu : u.frame = y := modIsland_frame _ _ _ (ho _ _ (ho _ _ h))
  exact settle_frame _ _ (ite_frame (modIsland_frame _ _ _ (raise_frame _ _ _ _ _ hu)) hu)

theorem execSwitchingTimeMeasured_frame : ∀ a0 a1 a2 a3 a4 a5, a5.frame = y → keeps y (execSwitchingTimeMeasured a0 a1 a2 a3 a4 a5) := by
  intros; unfold execSwitchingTimeMeasured
  with_reducible repeat' first | assumption | rfl | (extract_lets +onlyGivenNames q; first | (refine (fun (hq : q.frame = y) => ?_) ?_; (on_goal 1 => clear_value q); (on_goal 2 => subst q)) | clear_value q) | apply ite_frame | apply ite_keeps | apply next_keeps | apply refused_keeps | apply modUnit_frame | apply settle_frame | apply adapt_frame

theorem execUvlo_frame : ∀ a0 a1 a2, a2.frame = y → keeps y (execUvlo a0 a1 a2) := by
  intros; unfold execUvlo
  with_reducible repeat' first | assumption | rfl | (extract_lets +onlyGivenNames q; first | (refine (fun (hq : q.frame = y) => ?_) ?_; (on_goal 1 => clear_value q); (on_goal 2 => subst q)) | clear_value q) | apply ite_frame | apply ite_keeps | apply next_keeps | apply refused_keeps | apply modUnit_frame | apply softTurnOff_frame | apply settle_frame | apply uvloSeen_frame

theorem execUvloRelease_frame : ∀ a0 a1 a2, a2.frame = y → keeps y (execUvloRelease a0 a1 a2) := by
  intros; unfold execUvloRelease
  with_reducible repeat' first | assumption | rfl | (extract_lets +onlyGivenNames q; first | (refine (fun (hq : q.frame = y) => ?_) ?_; (on_goal 1 => clear_value q); (on_goal 2 => subst q)) | clear_value q) | apply ite_frame | apply ite_keeps | apply next_keeps | apply refused_keeps | apply modUnit_frame | apply settle_frame | apply unstand_frame

theorem execDesaturationArmed_frame : ∀ a0 a1, a1.frame = y → keeps y (execDesaturationArmed a0 a1) := by
  intros; unfold execDesaturationArmed
  with_reducible repeat' first | assumption | rfl | (extract_lets +onlyGivenNames q; clear_value q) | apply ite_frame | apply ite_keeps | apply next_keeps | apply refused_keeps | apply modUnit_frame | split

theorem execDesaturation_frame : ∀ a0 a1 a2, a2.frame = y → keeps y (execDesaturation a0 a1 a2) := by
  intros; unfold execDesaturation
  with_reducible repeat' first | assumption | rfl | (extract_lets +onlyGivenNames q; clear_value q) | apply ite_frame | apply ite_keeps | apply next_keeps | apply refused_keeps | apply settle_frame | apply desaturate_frame

theorem execSoftTurnOffEnd_frame : ∀ a0 a1, a1.frame = y → keeps y (execSoftTurnOffEnd a0 a1) := by
  intros; unfold execSoftTurnOffEnd
  with_reducible repeat' first | assumption | rfl | (extract_lets +onlyGivenNames q; first | (refine (fun (hq : q.frame = y) => ?_) ?_; (on_goal 1 => clear_value q); (on_goal 2 => subst q)) | (refine (fun (hq : q.2.frame = y) => ?_) ?_; (on_goal 1 => clear_value q); (on_goal 2 => subst q)) | clear_value q) | apply ite_frame | apply ite_keeps | apply next_keeps | apply refused_keeps | apply settle_frame | apply modUnit_frame | split

theorem execComparatorSelfTest_frame : ∀ a0 a1 a2, a2.frame = y → keeps y (execComparatorSelfTest a0 a1 a2) := by
  intros; unfold execComparatorSelfTest
  with_reducible repeat' first | assumption | rfl | (extract_lets +onlyGivenNames q; first | (refine (fun (hq : q.frame = y) => ?_) ?_; (on_goal 1 => clear_value q); (on_goal 2 => subst q)) | (refine (fun (hq : q.2.frame = y) => ?_) ?_; (on_goal 1 => clear_value q); (on_goal 2 => subst q)) | clear_value q) | apply ite_keeps | apply next_keeps | apply refused_keeps | apply hostWord_frame | apply writeIslTest_frame | (intro x0 y h)

theorem execComparatorTestDone_frame : ∀ a0 a1 a2, a2.frame = y → keeps y (execComparatorTestDone a0 a1 a2) := by
  intros; unfold execComparatorTestDone
  with_reducible repeat' first | assumption | rfl | (extract_lets +onlyGivenNames q; first | (refine (fun (hq : q.frame = y) => ?_) ?_; (on_goal 1 => clear_value q); (on_goal 2 => subst q)) | clear_value q) | apply ite_frame | apply ite_keeps | apply next_keeps | apply refused_keeps | apply modIsland_frame | apply raise_frame | apply settle_frame | apply uvloFound_frame | split

theorem execIslandOverTemperature_frame : ∀ a0 a1 a2, a2.frame = y → keeps y (execIslandOverTemperature a0 a1 a2) := by
  intros; unfold execIslandOverTemperature
  with_reducible repeat' first | assumption | rfl | (extract_lets +onlyGivenNames q; first | (refine (fun (hq : q.2.frame = y) => ?_) ?_; (on_goal 1 => clear_value q); (on_goal 2 => subst q)) | clear_value q) | apply ite_frame | apply ite_keeps | apply next_keeps | apply refused_keeps | apply tempStep_frame | apply settle_frame | apply modIsland_frame

theorem execIslandStart_frame : ∀ a0 a1, a1.frame = y → keeps y (execIslandStart a0 a1) := by
  intros; unfold execIslandStart
  with_reducible repeat' first | assumption | rfl | (extract_lets +onlyGivenNames q; first | (refine (fun (hq : q.frame = y) => ?_) ?_; (on_goal 1 => clear_value q); (on_goal 2 => subst q)) | (refine (fun (hq : q.2.frame = y) => ?_) ?_; (on_goal 1 => clear_value q); (on_goal 2 => subst q)) | clear_value q) | apply ite_frame | apply ite_keeps | apply next_keeps | apply refused_keeps | apply settle_frame | apply startIsland_frame

theorem execIslandReady_frame : ∀ a0 a1, a1.frame = y → keeps y (execIslandReady a0 a1) := by
  intro i s h
  refine next_keeps (ite_frame ?_ h)
  extract_lets t rail
  have hr : ∀ (v : UnitId) (t : State), t.frame = y → (rail v t).frame = y := fun v t ht => modUnit_frame _ _ _ ht
  exact settle_frame _ _ (evaluate_frame _ _ (hr _ _ (hr _ _ (modIsland_frame _ _ _ h))))

theorem execIslandStartFailed_frame : ∀ a0 a1 a2, a2.frame = y → keeps y (execIslandStartFailed a0 a1 a2) := by
  intro i f s h
  refine next_keeps ?_
  split
  · exact h
  · refine ite_frame ?_ h
    refine settle_frame _ _ (raise_frame _ _ _ _ _ ?_)
    split
    · exact raise_frame _ _ _ _ _ (modIsland_frame _ _ _ h)
    · exact modIsland_frame _ _ _ h

theorem execRebias_frame : ∀ a0 a1 a2, a2.frame = y → keeps y (execRebias a0 a1 a2) := by
  intros; unfold execRebias
  with_reducible repeat' first | assumption | rfl | (extract_lets +onlyGivenNames q; first | (refine (fun (hq : q.frame = y) => ?_) ?_; (on_goal 1 => clear_value q); (on_goal 2 => subst q)) | (refine (fun (hq : q.2.frame = y) => ?_) ?_; (on_goal 1 => clear_value q); (on_goal 2 => subst q)) | clear_value q) | apply ite_keeps | apply next_keeps | apply refused_keeps | apply hostWord_frame | apply writeIslCtrl_frame | (intro x0 y h)

theorem execIslandBlockReset_frame : ∀ a0 a1, a1.frame = y → keeps y (execIslandBlockReset a0 a1) := by
  intro i s h
  refine next_keeps (ite_frame ?_ h)
  extract_lets t u clear
  have hr : ∀ (v : UnitId) (t : State), t.frame = y → (clear v t).frame = y := fun v t ht => startStrengths_frame _ _ (modUnit_frame _ _ _ ht)
  exact settle_frame _ _ (hr _ _ (hr _ _ (closeDebug_frame _ (modIsland_frame _ _ _ h))))

theorem execIslandBiasRestore_frame : ∀ a0 a1, a1.frame = y → keeps y (execIslandBiasRestore a0 a1) := by
  intros; unfold execIslandBiasRestore
  with_reducible repeat' first | assumption | rfl | (extract_lets +onlyGivenNames q; first | (refine (fun (hq : q.frame = y) => ?_) ?_; (on_goal 1 => clear_value q); (on_goal 2 => subst q)) | clear_value q) | apply ite_frame | apply ite_keeps | apply next_keeps | apply refused_keeps | apply modIsland_frame | apply settle_frame | apply startIsland_frame | split

theorem execPrefetchIssue_frame : ∀ a0 a1, a1.frame = y → keeps y (execPrefetchIssue a0 a1) := by
  intros; unfold execPrefetchIssue
  with_reducible repeat' first | assumption | rfl | (extract_lets +onlyGivenNames q; first | (refine (fun (hq : q.frame = y) => ?_) ?_; (on_goal 1 => clear_value q); (on_goal 2 => subst q)) | (refine (fun (hq : q.2.frame = y) => ?_) ?_; (on_goal 1 => clear_value q); (on_goal 2 => subst q)) | clear_value q) | apply ite_frame | apply ite_keeps | apply next_keeps | apply refused_keeps | apply settle_frame | apply issuePrefetch_frame | apply makeRoom_frame

theorem execPrefetchLanded_frame : ∀ a0 a1, a1.frame = y → keeps y (execPrefetchLanded a0 a1) := by
  intros; unfold execPrefetchLanded
  with_reducible repeat' first | assumption | rfl | (extract_lets +onlyGivenNames q; first | (refine (fun (hq : q.frame = y) => ?_) ?_; (on_goal 1 => clear_value q); (on_goal 2 => subst q)) | clear_value q) | apply ite_frame | apply ite_keeps | apply next_keeps | apply refused_keeps | apply modArb_frame | apply modRt_frame | apply settle_frame | apply loadEntry_frame

theorem execWritebackSweep_frame : ∀ a0, a0.frame = y → keeps y (execWritebackSweep a0) := by
  intros; unfold execWritebackSweep
  with_reducible repeat' first | assumption | rfl | (extract_lets +onlyGivenNames q; first | (refine (fun (hq : q.frame = y) => ?_) ?_; (on_goal 1 => clear_value q); (on_goal 2 => subst q)) | (refine (fun (hq : q.2.frame = y) => ?_) ?_; (on_goal 1 => clear_value q); (on_goal 2 => subst q)) | clear_value q) | apply ite_frame | apply ite_keeps | apply next_keeps | apply refused_keeps | refine forList_frame (fun i t y h => ?_) ?_ | apply settle_frame | apply modLoop_frame | apply writeBack_frame

theorem execLeUcodeDataWrite_frame : ∀ a0 a1, a1.frame = y → keeps y (execLeUcodeDataWrite a0 a1) := by
  intros; unfold execLeUcodeDataWrite
  with_reducible repeat' first | assumption | rfl | (extract_lets +onlyGivenNames q; first | (refine (fun (hq : q.frame = y) => ?_) ?_; (on_goal 1 => clear_value q); (on_goal 2 => subst q)) | (refine (fun (hq : q.2.frame = y) => ?_) ?_; (on_goal 1 => clear_value q); (on_goal 2 => subst q)) | clear_value q) | apply ite_keeps | apply next_keeps | apply refused_keeps | apply hostWord_frame | apply writeUcode_frame | (intro x0 y h)

theorem execVerify_frame : ∀ a0 a1, a1.frame = y → keeps y (execVerify a0 a1) := by
  intros; unfold execVerify
  with_reducible repeat' first | assumption | rfl | (extract_lets +onlyGivenNames q; first | (refine (fun (hq : q.frame = y) => ?_) ?_; (on_goal 1 => clear_value q); (on_goal 2 => subst q)) | (refine (fun (hq : q.2.frame = y) => ?_) ?_; (on_goal 1 => clear_value q); (on_goal 2 => subst q)) | clear_value q) | apply ite_keeps | apply next_keeps | apply refused_keeps | apply hostWord_frame | apply writeUcodeCtrl_frame | (intro x0 y h)

theorem execVerifyDone_frame : ∀ a0, a0.frame = y → keeps y (execVerifyDone a0) := by
  intros; unfold execVerifyDone
  with_reducible repeat' first | assumption | rfl | (extract_lets +onlyGivenNames q; first | (refine (fun (hq : q.frame = y) => ?_) ?_; (on_goal 1 => clear_value q); (on_goal 2 => subst q)) | (refine (fun (hq : q.2.frame = y) => ?_) ?_; (on_goal 1 => clear_value q); (on_goal 2 => subst q)) | clear_value q) | apply ite_frame | apply ite_keeps | apply next_keeps | apply refused_keeps | apply settle_frame | apply verifyDone_frame

theorem execContextRunComplete_frame : ∀ a0 a1, a1.frame = y → keeps y (execContextRunComplete a0 a1) := by
  intros; unfold execContextRunComplete
  with_reducible repeat' first | assumption | rfl | (extract_lets +onlyGivenNames q; first | (refine (fun (hq : q.frame = y) => ?_) ?_; (on_goal 1 => clear_value q); (on_goal 2 => subst q)) | (refine (fun (hq : q.2.frame = y) => ?_) ?_; (on_goal 1 => clear_value q); (on_goal 2 => subst q)) | clear_value q) | apply ite_frame | apply ite_keeps | apply next_keeps | apply refused_keeps | apply settle_frame | apply completeRun_frame

theorem execDutyFrameSend_frame : ∀ a0 a1, a1.frame = y → keeps y (execDutyFrameSend a0 a1) := by
  intros; unfold execDutyFrameSend
  with_reducible repeat' first | assumption | rfl | (extract_lets +onlyGivenNames q; first | (refine (fun (hq : q.frame = y) => ?_) ?_; (on_goal 1 => clear_value q); (on_goal 2 => subst q)) | (refine (fun (hq : q.2.frame = y) => ?_) ?_; (on_goal 1 => clear_value q); (on_goal 2 => subst q)) | clear_value q) | apply ite_frame | apply ite_keeps | apply next_keeps | apply refused_keeps | apply modLoop_frame | apply mrSend_frame | split

theorem ctxRow_frame : ∀ a0 a1 a2 a3, (∀ x0 y, x0.frame = y → (a2 x0).frame = y) → a3.frame = y → keeps y (ctxRow a0 a1 a2 a3) := by
  intros; unfold ctxRow
  with_reducible repeat' first | assumption | rfl | (extract_lets +onlyGivenNames q; clear_value q) | apply ite_frame | apply ite_keeps | apply next_keeps | apply refused_keeps | apply immediate_frame

theorem execCtxWrite_frame : ∀ a0 a1, a1.frame = y → keeps y (execCtxWrite a0 a1) := by
  intros; unfold execCtxWrite
  with_reducible repeat' first | assumption | rfl | (extract_lets +onlyGivenNames q; first | (refine (fun (hq : q.frame = y) => ?_) ?_; (on_goal 1 => clear_value q); (on_goal 2 => subst q)) | (refine (fun (hq : q.2.frame = y) => ?_) ?_; (on_goal 1 => clear_value q); (on_goal 2 => subst q)) | clear_value q) | apply ite_frame | apply ite_keeps | apply next_keeps | apply refused_keeps | apply applyOrphan_frame | apply ctxRow_frame | apply doCtxWrite_frame | (intro x0 y h)

theorem execCtxRead_frame : ∀ a0 a1, a1.frame = y → keeps y (execCtxRead a0 a1) := by
  intros; unfold execCtxRead
  with_reducible repeat' first | assumption | rfl | (extract_lets +onlyGivenNames q; first | (refine (fun (hq : q.frame = y) => ?_) ?_; (on_goal 1 => clear_value q); (on_goal 2 => subst q)) | (refine (fun (hq : q.2.frame = y) => ?_) ?_; (on_goal 1 => clear_value q); (on_goal 2 => subst q)) | clear_value q) | apply ite_frame | apply ite_keeps | apply next_keeps | apply refused_keeps | apply ctxRow_frame | apply doCtxRead_frame | (intro x0 y h)

theorem execCtxEnable_frame : ∀ a0 a1, a1.frame = y → keeps y (execCtxEnable a0 a1) := by
  intros; unfold execCtxEnable
  with_reducible repeat' first | assumption | rfl | (extract_lets +onlyGivenNames q; first | (refine (fun (hq : q.frame = y) => ?_) ?_; (on_goal 1 => clear_value q); (on_goal 2 => subst q)) | (refine (fun (hq : q.2.frame = y) => ?_) ?_; (on_goal 1 => clear_value q); (on_goal 2 => subst q)) | clear_value q) | apply ite_keeps | apply next_keeps | apply refused_keeps | apply ctxRow_frame | apply doCtxEnable_frame | (intro x0 y h)

theorem execCtxDisable_frame : ∀ a0 a1, a1.frame = y → keeps y (execCtxDisable a0 a1) := by
  intros; unfold execCtxDisable
  with_reducible repeat' first | assumption | rfl | (extract_lets +onlyGivenNames q; first | (refine (fun (hq : q.frame = y) => ?_) ?_; (on_goal 1 => clear_value q); (on_goal 2 => subst q)) | (refine (fun (hq : q.2.frame = y) => ?_) ?_; (on_goal 1 => clear_value q); (on_goal 2 => subst q)) | clear_value q) | apply ite_keeps | apply next_keeps | apply refused_keeps | apply ctxRow_frame | apply doCtxDisable_frame | (intro x0 y h)

theorem execProbeStart_frame : ∀ a0 a1, a1.frame = y → keeps y (execProbeStart a0 a1) := by
  intros; unfold execProbeStart
  with_reducible repeat' first | assumption | rfl | (extract_lets +onlyGivenNames q; first | (refine (fun (hq : q.frame = y) => ?_) ?_; (on_goal 1 => clear_value q); (on_goal 2 => subst q)) | (refine (fun (hq : q.2.frame = y) => ?_) ?_; (on_goal 1 => clear_value q); (on_goal 2 => subst q)) | clear_value q) | apply ite_keeps | apply next_keeps | apply refused_keeps | apply ctxRow_frame | apply doProbeStart_frame | (intro x0 y h)

theorem execProbeStop_frame : ∀ a0 a1, a1.frame = y → keeps y (execProbeStop a0 a1) := by
  intros; unfold execProbeStop
  with_reducible repeat' first | assumption | rfl | (extract_lets +onlyGivenNames q; first | (refine (fun (hq : q.frame = y) => ?_) ?_; (on_goal 1 => clear_value q); (on_goal 2 => subst q)) | (refine (fun (hq : q.2.frame = y) => ?_) ?_; (on_goal 1 => clear_value q); (on_goal 2 => subst q)) | clear_value q) | apply ite_keeps | apply next_keeps | apply refused_keeps | apply ctxRow_frame | apply doProbeStop_frame | (intro x0 y h)

theorem execContextRelease_frame : ∀ a0 a1, a1.frame = y → keeps y (execContextRelease a0 a1) := by
  intros; unfold execContextRelease
  with_reducible repeat' first | assumption | rfl | (extract_lets +onlyGivenNames q; first | (refine (fun (hq : q.frame = y) => ?_) ?_; (on_goal 1 => clear_value q); (on_goal 2 => subst q)) | clear_value q) | apply ite_frame | apply ite_keeps | apply next_keeps | apply refused_keeps | apply modLoop_frame | apply settle_frame | apply releaseRegion_frame | apply keepSets_frame | apply catchUpRelease_frame | split

theorem execTimebaseSlot_frame : ∀ a0, a0.frame = y → keeps y (execTimebaseSlot a0) := by
  intros; unfold execTimebaseSlot
  with_reducible repeat' first | assumption | rfl | (extract_lets +onlyGivenNames q; first | (refine (fun (hq : q.frame = y) => ?_) ?_; (on_goal 1 => clear_value q); (on_goal 2 => subst q)) | (refine (fun (hq : q.2.frame = y) => ?_) ?_; (on_goal 1 => clear_value q); (on_goal 2 => subst q)) | clear_value q) | apply ite_frame | apply ite_keeps | apply next_keeps | apply refused_keeps | apply settle_frame | apply beginSlot_frame

theorem execLoopEngineHeartbeatLost_frame : ∀ a0, a0.frame = y → keeps y (execLoopEngineHeartbeatLost a0) := by
  intros; unfold execLoopEngineHeartbeatLost
  with_reducible repeat' first | assumption | rfl | (extract_lets +onlyGivenNames q; first | (refine (fun (hq : q.frame = y) => ?_) ?_; (on_goal 1 => clear_value q); (on_goal 2 => subst q)) | (refine (fun (hq : q.2.frame = y) => ?_) ?_; (on_goal 1 => clear_value q); (on_goal 2 => subst q)) | clear_value q) | apply ite_frame | apply ite_keeps | apply next_keeps | apply refused_keeps | apply settle_frame | apply modLoop_frame | apply raiseFull_frame

theorem pairRow_frame : ∀ a0 a1 a2, (∀ x0 x1 x2 x3 y, x3.frame = y → (a1 x0 x1 x2 x3).frame = y) → a2.frame = y → keeps y (pairRow a0 a1 a2) := by
  intro ty f s hf h
  refine next_keeps ?_
  split
  · exact h
  · exact ite_frame (settle_frame _ _ (hf _ _ _ _ _ (popPair_frame _ h))) h

theorem execDutyFrameReceive_frame : ∀ a0 a1, a1.frame = y → keeps y (execDutyFrameReceive a0 a1) := by
  intros; unfold execDutyFrameReceive
  with_reducible repeat' first | assumption | rfl | (extract_lets +onlyGivenNames q; first | (refine (fun (hq : q.frame = y) => ?_) ?_; (on_goal 1 => clear_value q); (on_goal 2 => subst q)) | (refine (fun (hq : q.2.frame = y) => ?_) ?_; (on_goal 1 => clear_value q); (on_goal 2 => subst q)) | clear_value q) | apply ite_frame | apply ite_keeps | apply next_keeps | apply refused_keeps | apply settle_frame | apply dutyFrameReceive_frame | split | intro _ | (apply mk_frame; apply fold_frame)

theorem execDutyCopyReceive_frame : ∀ a0, a0.frame = y → keeps y (execDutyCopyReceive a0) := by
  intros; unfold execDutyCopyReceive
  with_reducible repeat' first | assumption | rfl | (extract_lets +onlyGivenNames q; first | (refine (fun (hq : q.frame = y) => ?_) ?_; (on_goal 1 => clear_value q); (on_goal 2 => subst q)) | (refine (fun (hq : q.2.frame = y) => ?_) ?_; (on_goal 1 => clear_value q); (on_goal 2 => subst q)) | clear_value q) | apply ite_keeps | apply next_keeps | apply refused_keeps | apply pairRow_frame | apply dutyCopyReceive_frame | (intro x0 x1 x2 x3 y h)

theorem execSampleFrameReceive_frame : ∀ a0, a0.frame = y → keeps y (execSampleFrameReceive a0) := by
  intros; unfold execSampleFrameReceive
  with_reducible repeat' first | assumption | rfl | (extract_lets +onlyGivenNames q; first | (refine (fun (hq : q.frame = y) => ?_) ?_; (on_goal 1 => clear_value q); (on_goal 2 => subst q)) | clear_value q) | apply ite_frame | apply ite_keeps | apply next_keeps | apply refused_keeps | apply popPair_frame | apply modPairRegion_frame | apply settle_frame | apply releaseRegion_frame | apply keepSets_frame | split

theorem execHelloSend_frame : ∀ a0, a0.frame = y → keeps y (execHelloSend a0) := by
  intros; unfold execHelloSend
  with_reducible repeat' first | assumption | rfl | (extract_lets +onlyGivenNames q; first | (refine (fun (hq : q.frame = y) => ?_) ?_; (on_goal 1 => clear_value q); (on_goal 2 => subst q)) | (refine (fun (hq : q.2.frame = y) => ?_) ?_; (on_goal 1 => clear_value q); (on_goal 2 => subst q)) | clear_value q) | apply ite_frame | apply ite_keeps | apply next_keeps | apply refused_keeps | apply modPair_frame | apply pairSend_frame

theorem execHelloReceive_frame : ∀ a0, a0.frame = y → keeps y (execHelloReceive a0) := by
  intros; unfold execHelloReceive
  with_reducible repeat' first | assumption | rfl | (extract_lets +onlyGivenNames q; first | (refine (fun (hq : q.frame = y) => ?_) ?_; (on_goal 1 => clear_value q); (on_goal 2 => subst q)) | (refine (fun (hq : q.2.frame = y) => ?_) ?_; (on_goal 1 => clear_value q); (on_goal 2 => subst q)) | clear_value q) | apply ite_keeps | apply next_keeps | apply refused_keeps | apply pairRow_frame | apply helloReceive_frame | (intro x0 x1 x2 x3 y h)

theorem execPartnerDown_frame : ∀ a0, a0.frame = y → keeps y (execPartnerDown a0) := by
  intros; unfold execPartnerDown
  with_reducible repeat' first | assumption | rfl | (extract_lets +onlyGivenNames q; first | (refine (fun (hq : q.frame = y) => ?_) ?_; (on_goal 1 => clear_value q); (on_goal 2 => subst q)) | (refine (fun (hq : q.2.frame = y) => ?_) ?_; (on_goal 1 => clear_value q); (on_goal 2 => subst q)) | clear_value q) | apply ite_frame | apply ite_keeps | apply next_keeps | apply refused_keeps | apply settle_frame | apply raise_frame | apply modPair_frame

theorem execControlDieFailed_frame : ∀ a0 a1 a2, a2.frame = y → keeps y (execControlDieFailed a0 a1 a2) := by
  intros; unfold execControlDieFailed
  with_reducible repeat' first | assumption | rfl | (extract_lets +onlyGivenNames q; clear_value q) | apply ite_frame | apply ite_keeps | apply next_keeps | apply refused_keeps | apply settle_frame | apply dieFailed_frame

theorem execFaultDeclarationReceive_frame : ∀ a0, a0.frame = y → keeps y (execFaultDeclarationReceive a0) := by
  intros; unfold execFaultDeclarationReceive
  with_reducible repeat' first | assumption | rfl | (extract_lets +onlyGivenNames q; first | (refine (fun (hq : q.frame = y) => ?_) ?_; (on_goal 1 => clear_value q); (on_goal 2 => subst q)) | (refine (fun (hq : q.2.frame = y) => ?_) ?_; (on_goal 1 => clear_value q); (on_goal 2 => subst q)) | clear_value q) | apply ite_keeps | apply next_keeps | apply refused_keeps | apply pairRow_frame | apply faultDeclared_frame | (intro x0 x1 x2 x3 y h)

theorem execParameterFrameReceive_frame : ∀ a0, a0.frame = y → keeps y (execParameterFrameReceive a0) := by
  intros; unfold execParameterFrameReceive
  with_reducible repeat' first | assumption | rfl | (extract_lets +onlyGivenNames q; first | (refine (fun (hq : q.frame = y) => ?_) ?_; (on_goal 1 => clear_value q); (on_goal 2 => subst q)) | (refine (fun (hq : q.2.frame = y) => ?_) ?_; (on_goal 1 => clear_value q); (on_goal 2 => subst q)) | clear_value q) | apply ite_frame | apply ite_keeps | apply next_keeps | apply refused_keeps | apply pairRow_frame | apply parameterFrame_frame | (intro x0 x1 x2 x3 y h)

theorem execResynchronisationStart_frame : ∀ a0 a1, a1.frame = y → keeps y (execResynchronisationStart a0 a1) := by
  intro r s h
  unfold execResynchronisationStart
  extract_lets p start
  have hs : ∀ t : State, t.frame = y → (start t).frame = y := fun t ht => modPairRegion_frame _ _ _ ht
  exact next_keeps (ite_frame h (ite_frame (hs _ (modPairRegion_frame _ _ _ h))
    (ite_frame (ite_frame (modPairRegion_frame _ _ _ (sendCheckpoint_frame _ _ h)) (hs _ (sendCheckpoint_frame _ _ h))) h)))

theorem execCheckpointChunkReceive_frame : ∀ a0, a0.frame = y → keeps y (execCheckpointChunkReceive a0) := by
  intros; unfold execCheckpointChunkReceive
  with_reducible repeat' first | assumption | rfl | (extract_lets +onlyGivenNames q; first | (refine (fun (hq : q.frame = y) => ?_) ?_; (on_goal 1 => clear_value q); (on_goal 2 => subst q)) | (refine (fun (hq : q.2.frame = y) => ?_) ?_; (on_goal 1 => clear_value q); (on_goal 2 => subst q)) | clear_value q) | apply ite_frame | apply ite_keeps | apply next_keeps | apply refused_keeps | apply pairRow_frame | apply checkpointChunk_frame | (intro x0 x1 x2 x3 y h)

theorem execCheckpointCommitReceive_frame : ∀ a0, a0.frame = y → keeps y (execCheckpointCommitReceive a0) := by
  intros; unfold execCheckpointCommitReceive
  with_reducible repeat' first | assumption | rfl | (extract_lets +onlyGivenNames q; first | (refine (fun (hq : q.frame = y) => ?_) ?_; (on_goal 1 => clear_value q); (on_goal 2 => subst q)) | (refine (fun (hq : q.2.frame = y) => ?_) ?_; (on_goal 1 => clear_value q); (on_goal 2 => subst q)) | clear_value q) | apply ite_frame | apply ite_keeps | apply next_keeps | apply refused_keeps | apply pairRow_frame | apply checkpointCommit_frame | (intro x0 x1 x2 x3 y h)

theorem execResynchronisationFailed_frame : ∀ a0 a1, a1.frame = y → keeps y (execResynchronisationFailed a0 a1) := by
  intros; unfold execResynchronisationFailed
  with_reducible repeat' first | assumption | rfl | (extract_lets +onlyGivenNames q; clear_value q) | apply ite_frame | apply ite_keeps | apply next_keeps | apply refused_keeps | apply settle_frame | apply abortResync_frame | apply raise_frame | apply modPairRegion_frame | split

theorem execPairSwap_frame : ∀ a0 a1, a1.frame = y → keeps y (execPairSwap a0 a1) := by
  intros; unfold execPairSwap
  with_reducible repeat' first | assumption | rfl | (extract_lets +onlyGivenNames q; first | (refine (fun (hq : q.frame = y) => ?_) ?_; (on_goal 1 => clear_value q); (on_goal 2 => subst q)) | (refine (fun (hq : q.2.frame = y) => ?_) ?_; (on_goal 1 => clear_value q); (on_goal 2 => subst q)) | clear_value q) | apply ite_keeps | apply next_keeps | apply refused_keeps | apply immediate_frame | apply doPairSwap_frame | (intro x0 y h)

theorem execPairResync_frame : ∀ a0 a1, a1.frame = y → keeps y (execPairResync a0 a1) := by
  intros; unfold execPairResync
  with_reducible repeat' first | assumption | rfl | (extract_lets +onlyGivenNames q; first | (refine (fun (hq : q.frame = y) => ?_) ?_; (on_goal 1 => clear_value q); (on_goal 2 => subst q)) | (refine (fun (hq : q.2.frame = y) => ?_) ?_; (on_goal 1 => clear_value q); (on_goal 2 => subst q)) | clear_value q) | apply ite_keeps | apply next_keeps | apply refused_keeps | apply immediate_frame | apply doPairResync_frame | (intro x0 y h)

theorem execEventCollect_frame : ∀ a0, a0.frame = y → keeps y (execEventCollect a0) := by
  intros; unfold execEventCollect
  with_reducible repeat' first | assumption | rfl | (extract_lets +onlyGivenNames q; first | (refine (fun (hq : q.frame = y) => ?_) ?_; (on_goal 1 => clear_value q); (on_goal 2 => subst q)) | clear_value q) | apply ite_frame | apply ite_keeps | apply next_keeps | apply refused_keeps | apply trgWaiting_frame | apply settle_frame | apply collect_frame | apply modEvents_frame | split

theorem execFaultRecovered_frame : ∀ a0 a1, a1.frame = y → keeps y (execFaultRecovered a0 a1) := by
  intros; unfold execFaultRecovered
  with_reducible repeat' first | assumption | rfl | (extract_lets +onlyGivenNames q; clear_value q) | apply ite_frame | apply ite_keeps | apply next_keeps | apply refused_keeps | apply settle_frame | apply reenter_frame | apply raise_frame | apply modSrc_frame

theorem execShadowWindowEnd_frame : ∀ a0 a1, a1.frame = y → keeps y (execShadowWindowEnd a0 a1) := by
  intros; unfold execShadowWindowEnd
  with_reducible repeat' first | assumption | rfl | (extract_lets +onlyGivenNames q; first | (refine (fun (hq : q.frame = y) => ?_) ?_; (on_goal 1 => clear_value q); (on_goal 2 => subst q)) | (refine (fun (hq : q.2.frame = y) => ?_) ?_; (on_goal 1 => clear_value q); (on_goal 2 => subst q)) | clear_value q) | apply ite_keeps | apply next_keeps | apply refused_keeps | apply modEvents_frame

theorem execFaultClear_frame : ∀ a0 a1, a1.frame = y → keeps y (execFaultClear a0 a1) := by
  intros; unfold execFaultClear
  with_reducible repeat' first | assumption | rfl | (extract_lets +onlyGivenNames q; first | (refine (fun (hq : q.frame = y) => ?_) ?_; (on_goal 1 => clear_value q); (on_goal 2 => subst q)) | (refine (fun (hq : q.2.frame = y) => ?_) ?_; (on_goal 1 => clear_value q); (on_goal 2 => subst q)) | clear_value q) | apply ite_keeps | apply next_keeps | apply refused_keeps | apply immediate_frame | apply doFaultClear_frame | (intro x0 y h)

theorem execEventForce_frame : ∀ a0 a1, a1.frame = y → keeps y (execEventForce a0 a1) := by
  intros; unfold execEventForce
  with_reducible repeat' first | assumption | rfl | (extract_lets +onlyGivenNames q; first | (refine (fun (hq : q.frame = y) => ?_) ?_; (on_goal 1 => clear_value q); (on_goal 2 => subst q)) | (refine (fun (hq : q.2.frame = y) => ?_) ?_; (on_goal 1 => clear_value q); (on_goal 2 => subst q)) | clear_value q) | apply ite_keeps | apply next_keeps | apply refused_keeps | apply immediate_frame | apply doEventForce_frame | (intro x0 y h)

theorem execEvtForceWrite_frame : ∀ a0 a1 a2, a2.frame = y → keeps y (execEvtForceWrite a0 a1 a2) := by
  intros; unfold execEvtForceWrite
  with_reducible repeat' first | assumption | rfl | (extract_lets +onlyGivenNames q; first | (refine (fun (hq : q.frame = y) => ?_) ?_; (on_goal 1 => clear_value q); (on_goal 2 => subst q)) | (refine (fun (hq : q.2.frame = y) => ?_) ?_; (on_goal 1 => clear_value q); (on_goal 2 => subst q)) | clear_value q) | apply ite_keeps | apply next_keeps | apply refused_keeps | apply hostWord_frame | apply writeForce_frame | (intro x0 y h)

theorem execInjectionApply_frame : ∀ a0, a0.frame = y → keeps y (execInjectionApply a0) := by
  intros; unfold execInjectionApply
  with_reducible repeat' first | assumption | rfl | (extract_lets +onlyGivenNames q; clear_value q) | apply ite_frame | apply ite_keeps | apply next_keeps | apply refused_keeps | apply modMr_frame | apply injected_frame | split

theorem execArbCommit_frame : ∀ a0 a1, a1.frame = y → keeps y (execArbCommit a0 a1) := by
  intros; unfold execArbCommit
  with_reducible repeat' first | assumption | rfl | (extract_lets +onlyGivenNames q; first | (refine (fun (hq : q.frame = y) => ?_) ?_; (on_goal 1 => clear_value q); (on_goal 2 => subst q)) | (refine (fun (hq : q.2.frame = y) => ?_) ?_; (on_goal 1 => clear_value q); (on_goal 2 => subst q)) | clear_value q) | apply ite_keeps | apply next_keeps | apply refused_keeps | apply hostWord_frame | apply writeArbCommit_frame | (intro x0 y h)

theorem execArbCommitApply_frame : ∀ a0, a0.frame = y → keeps y (execArbCommitApply a0) := by
  intros; unfold execArbCommitApply
  with_reducible repeat' first | assumption | rfl | (extract_lets +onlyGivenNames q; first | (refine (fun (hq : q.frame = y) => ?_) ?_; (on_goal 1 => clear_value q); (on_goal 2 => subst q)) | (refine (fun (hq : q.2.frame = y) => ?_) ?_; (on_goal 1 => clear_value q); (on_goal 2 => subst q)) | clear_value q) | apply ite_frame | apply ite_keeps | apply next_keeps | apply refused_keeps | apply modArb_frame | apply settle_frame | apply refuseCommit_frame

theorem execArbiterGrant_frame : ∀ a0 a1 a2 a3, a3.frame = y → keeps y (execArbiterGrant a0 a1 a2 a3) := by
  intros; unfold execArbiterGrant
  with_reducible repeat' first | assumption | rfl | (extract_lets +onlyGivenNames q; clear_value q) | apply ite_frame | apply ite_keeps | apply next_keeps | apply refused_keeps | apply modArb_frame

theorem execRefresh_frame : ∀ a0, a0.frame = y → keeps y (execRefresh a0) := by
  intros; unfold execRefresh
  with_reducible repeat' first | assumption | rfl | (extract_lets +onlyGivenNames q; clear_value q) | apply ite_frame | apply ite_keeps | apply next_keeps | apply refused_keeps | apply modArb_frame

theorem execWeirAcquire_frame : ∀ a0 a1, a1.frame = y → keeps y (execWeirAcquire a0 a1) := by
  intros; unfold execWeirAcquire
  with_reducible repeat' first | assumption | rfl | (extract_lets +onlyGivenNames q; first | (refine (fun (hq : q.frame = y) => ?_) ?_; (on_goal 1 => clear_value q); (on_goal 2 => subst q)) | (refine (fun (hq : q.2.frame = y) => ?_) ?_; (on_goal 1 => clear_value q); (on_goal 2 => subst q)) | clear_value q) | apply ite_keeps | apply next_keeps | apply refused_keeps | apply immediate_frame | apply doWeirAcquire_frame | (intro x0 y h)

theorem execWeirRelease_frame : ∀ a0 a1, a1.frame = y → keeps y (execWeirRelease a0 a1) := by
  intros; unfold execWeirRelease
  with_reducible repeat' first | assumption | rfl | (extract_lets +onlyGivenNames q; first | (refine (fun (hq : q.frame = y) => ?_) ?_; (on_goal 1 => clear_value q); (on_goal 2 => subst q)) | (refine (fun (hq : q.2.frame = y) => ?_) ?_; (on_goal 1 => clear_value q); (on_goal 2 => subst q)) | clear_value q) | apply ite_keeps | apply next_keeps | apply refused_keeps | apply immediate_frame | apply doWeirRelease_frame | (intro x0 y h)

theorem execWeirAcquireTimedOut_frame : ∀ a0 a1, a1.frame = y → keeps y (execWeirAcquireTimedOut a0 a1) := by
  intros; unfold execWeirAcquireTimedOut
  with_reducible repeat' first | assumption | rfl | (extract_lets +onlyGivenNames q; clear_value q) | apply ite_frame | apply ite_keeps | apply next_keeps | apply refused_keeps | apply settle_frame | apply raise_frame | apply finish_frame | apply modWeir_frame | split

theorem execWeirsReleased_frame : ∀ a0 a1, a1.frame = y → keeps y (execWeirsReleased a0 a1) := by
  intros; unfold execWeirsReleased
  with_reducible repeat' first | assumption | rfl | (extract_lets +onlyGivenNames q; first | (refine (fun (hq : q.frame = y) => ?_) ?_; (on_goal 1 => clear_value q); (on_goal 2 => subst q)) | (refine (fun (hq : q.2.frame = y) => ?_) ?_; (on_goal 1 => clear_value q); (on_goal 2 => subst q)) | clear_value q) | apply ite_frame | apply ite_keeps | apply next_keeps | apply refused_keeps | apply settle_frame | apply releaseWeirs_frame

theorem execArbiterWatchdog_frame : ∀ a0, a0.frame = y → keeps y (execArbiterWatchdog a0) := by
  intros; unfold execArbiterWatchdog
  with_reducible repeat' first | assumption | rfl | (extract_lets +onlyGivenNames q; first | (refine (fun (hq : q.frame = y) => ?_) ?_; (on_goal 1 => clear_value q); (on_goal 2 => subst q)) | clear_value q) | apply ite_frame | apply ite_keeps | apply next_keeps | apply refused_keeps | apply modArb_frame | apply settle_frame | apply resetRequester_frame | apply raise_frame | split

theorem execLoad_frame : ∀ a0 a1, a1.frame = y → keeps y (execLoad a0 a1) := by
  intros; unfold execLoad
  with_reducible repeat' first | assumption | rfl | (extract_lets +onlyGivenNames q; first | (refine (fun (hq : q.frame = y) => ?_) ?_; (on_goal 1 => clear_value q); (on_goal 2 => subst q)) | (refine (fun (hq : q.2.frame = y) => ?_) ?_; (on_goal 1 => clear_value q); (on_goal 2 => subst q)) | clear_value q) | apply ite_keeps | apply next_keeps | apply refused_keeps | apply hostWord_frame | apply writeImageCtrl_frame | (intro x0 y h)

theorem execImageLoadDone_frame : ∀ a0 a1, a1.frame = y → keeps y (execImageLoadDone a0 a1) := by
  intros; unfold execImageLoadDone
  with_reducible repeat' first | assumption | rfl | (extract_lets +onlyGivenNames q; first | (refine (fun (hq : q.frame = y) => ?_) ?_; (on_goal 1 => clear_value q); (on_goal 2 => subst q)) | (refine (fun (hq : q.2.frame = y) => ?_) ?_; (on_goal 1 => clear_value q); (on_goal 2 => subst q)) | clear_value q) | apply ite_frame | apply ite_keeps | apply next_keeps | apply refused_keeps | apply settle_frame | apply imageDone_frame

theorem execCaptureArm_frame : ∀ a0 a1, a1.frame = y → keeps y (execCaptureArm a0 a1) := by
  intros; unfold execCaptureArm
  with_reducible repeat' first | assumption | rfl | (extract_lets +onlyGivenNames q; first | (refine (fun (hq : q.frame = y) => ?_) ?_; (on_goal 1 => clear_value q); (on_goal 2 => subst q)) | (refine (fun (hq : q.2.frame = y) => ?_) ?_; (on_goal 1 => clear_value q); (on_goal 2 => subst q)) | clear_value q) | apply ite_keeps | apply next_keeps | apply refused_keeps | apply immediate_frame | apply doCaptureArm_frame | (intro x0 y h)

theorem execCaptureTrigger_frame : ∀ a0 a1, a1.frame = y → keeps y (execCaptureTrigger a0 a1) := by
  intros; unfold execCaptureTrigger
  with_reducible repeat' first | assumption | rfl | (extract_lets +onlyGivenNames q; clear_value q) | apply ite_frame | apply ite_keeps | apply next_keeps | apply refused_keeps | apply judgeNotice_frame | split

theorem execCaptureDone_frame : ∀ a0 a1, a1.frame = y → keeps y (execCaptureDone a0 a1) := by
  intros; unfold execCaptureDone
  with_reducible repeat' first | assumption | rfl | (extract_lets +onlyGivenNames q; clear_value q) | apply ite_frame | apply ite_keeps | apply next_keeps | apply refused_keeps | apply settle_frame | apply endSession_frame

theorem execCaptureProgressWrite_frame : ∀ a0 a1, a1.frame = y → keeps y (execCaptureProgressWrite a0 a1) := by
  intros; unfold execCaptureProgressWrite
  with_reducible repeat' first | assumption | rfl | (extract_lets +onlyGivenNames q; clear_value q) | apply ite_frame | apply ite_keeps | apply next_keeps | apply refused_keeps | apply settle_frame | apply modSess_frame | apply captureStore_frame

theorem execCaptureStop_frame : ∀ a0 a1, a1.frame = y → keeps y (execCaptureStop a0 a1) := by
  intros; unfold execCaptureStop
  with_reducible repeat' first | assumption | rfl | (extract_lets +onlyGivenNames q; first | (refine (fun (hq : q.frame = y) => ?_) ?_; (on_goal 1 => clear_value q); (on_goal 2 => subst q)) | (refine (fun (hq : q.2.frame = y) => ?_) ?_; (on_goal 1 => clear_value q); (on_goal 2 => subst q)) | clear_value q) | apply ite_keeps | apply next_keeps | apply refused_keeps | apply immediate_frame | apply doCaptureStop_frame | (intro x0 y h)

theorem execCaptureCopy_frame : ∀ a0 a1, a1.frame = y → keeps y (execCaptureCopy a0 a1) := by
  intros; unfold execCaptureCopy
  with_reducible repeat' first | assumption | rfl | (extract_lets +onlyGivenNames q; first | (refine (fun (hq : q.frame = y) => ?_) ?_; (on_goal 1 => clear_value q); (on_goal 2 => subst q)) | (refine (fun (hq : q.2.frame = y) => ?_) ?_; (on_goal 1 => clear_value q); (on_goal 2 => subst q)) | clear_value q) | apply ite_frame | apply ite_keeps | apply next_keeps | apply refused_keeps | apply immediate_frame | apply doCaptureCopy_frame | (intro x0 y h)

theorem execNop_frame : ∀ a0 a1, a1.frame = y → keeps y (execNop a0 a1) := by
  intros; unfold execNop
  with_reducible repeat' first | assumption | rfl | (extract_lets +onlyGivenNames q; first | (refine (fun (hq : q.frame = y) => ?_) ?_; (on_goal 1 => clear_value q); (on_goal 2 => subst q)) | (refine (fun (hq : q.2.frame = y) => ?_) ?_; (on_goal 1 => clear_value q); (on_goal 2 => subst q)) | clear_value q) | apply ite_keeps | apply next_keeps | apply refused_keeps | apply immediate_frame | apply finishOk_frame | (intro x0 y h)

theorem execBarrier_frame : ∀ a0 a1, a1.frame = y → keeps y (execBarrier a0 a1) := by
  intros; unfold execBarrier
  with_reducible repeat' first | assumption | rfl | (extract_lets +onlyGivenNames q; first | (refine (fun (hq : q.frame = y) => ?_) ?_; (on_goal 1 => clear_value q); (on_goal 2 => subst q)) | (refine (fun (hq : q.2.frame = y) => ?_) ?_; (on_goal 1 => clear_value q); (on_goal 2 => subst q)) | clear_value q) | apply ite_keeps | apply next_keeps | apply refused_keeps | apply immediate_frame | apply doBarrier_frame | (intro x0 y h)

theorem execRestart_frame : ∀ a0 a1, a1.frame = y → keeps y (execRestart a0 a1) := by
  intros; unfold execRestart
  with_reducible repeat' first | assumption | rfl | (extract_lets +onlyGivenNames q; first | (refine (fun (hq : q.frame = y) => ?_) ?_; (on_goal 1 => clear_value q); (on_goal 2 => subst q)) | (refine (fun (hq : q.2.frame = y) => ?_) ?_; (on_goal 1 => clear_value q); (on_goal 2 => subst q)) | clear_value q) | apply ite_frame | apply ite_keeps | apply next_keeps | apply refused_keeps | refine forAll_frame (fun i t y h => ?_) ?_ | apply hostWord_frame | apply restartSq_frame | (intro x0 y h)

theorem execDoorbellPoll_frame : ∀ a0, a0.frame = y → keeps y (execDoorbellPoll a0) := by
  intros; unfold execDoorbellPoll
  with_reducible repeat' first | assumption | rfl | (extract_lets +onlyGivenNames q; first | (refine (fun (hq : q.frame = y) => ?_) ?_; (on_goal 1 => clear_value q); (on_goal 2 => subst q)) | clear_value q) | apply ite_frame | apply ite_keeps | apply next_keeps | apply refused_keeps | refine forAll_frame (fun i t y h => ?_) ?_ | apply modRings_frame | apply hostRead_frame

theorem execHostDmaReadComplete_frame : ∀ a0 a1 a2 a3, a3.frame = y → keeps y (execHostDmaReadComplete a0 a1 a2 a3) := by
  intros; unfold execHostDmaReadComplete
  with_reducible repeat' first | assumption | rfl | (extract_lets +onlyGivenNames q; first | (refine (fun (hq : q.frame = y) => ?_) ?_; (on_goal 1 => clear_value q); (on_goal 2 => subst q)) | clear_value q) | apply ite_frame | apply ite_keeps | apply next_keeps | apply refused_keeps | apply modHost_frame | apply settle_frame | apply readDone_frame | apply readFailed_frame | split

theorem execHostDmaError_frame : ∀ a0 a1, a1.frame = y → keeps y (execHostDmaError a0 a1) := by
  intros; unfold execHostDmaError
  with_reducible repeat' first | assumption | rfl | (extract_lets +onlyGivenNames q; first | (refine (fun (hq : q.frame = y) => ?_) ?_; (on_goal 1 => clear_value q); (on_goal 2 => subst q)) | (refine (fun (hq : q.2.frame = y) => ?_) ?_; (on_goal 1 => clear_value q); (on_goal 2 => subst q)) | clear_value q) | apply ite_frame | apply ite_keeps | apply next_keeps | apply refused_keeps | apply settle_frame | apply readFailed_frame | apply modHost_frame | split

theorem execHostSilent_frame : ∀ a0, a0.frame = y → keeps y (execHostSilent a0) := by
  intros; unfold execHostSilent
  with_reducible repeat' first | assumption | rfl | (extract_lets +onlyGivenNames q; clear_value q) | apply ite_frame | apply ite_keeps | apply next_keeps | apply refused_keeps | apply settle_frame | apply raise_frame | apply modHost_frame

theorem execPcieEndpointReset_frame : ∀ a0, a0.frame = y → keeps y (execPcieEndpointReset a0) := by
  intros; unfold execPcieEndpointReset
  with_reducible repeat' first | assumption | rfl | (extract_lets +onlyGivenNames q; first | (refine (fun (hq : q.frame = y) => ?_) ?_; (on_goal 1 => clear_value q); (on_goal 2 => subst q)) | (refine (fun (hq : q.2.frame = y) => ?_) ?_; (on_goal 1 => clear_value q); (on_goal 2 => subst q)) | clear_value q) | apply ite_frame | apply ite_keeps | apply next_keeps | apply refused_keeps | apply settle_frame | apply endpointResets_frame | apply closeDebug_frame | apply modPower_frame

theorem execPcieLinkDown_frame : ∀ a0, a0.frame = y → keeps y (execPcieLinkDown a0) := by
  intros; unfold execPcieLinkDown
  with_reducible repeat' first | assumption | rfl | (extract_lets +onlyGivenNames q; first | (refine (fun (hq : q.frame = y) => ?_) ?_; (on_goal 1 => clear_value q); (on_goal 2 => subst q)) | (refine (fun (hq : q.2.frame = y) => ?_) ?_; (on_goal 1 => clear_value q); (on_goal 2 => subst q)) | clear_value q) | apply ite_frame | apply ite_keeps | apply next_keeps | apply refused_keeps | apply settle_frame | apply stand_frame | apply raise_frame | apply modHost_frame

theorem execPcieLinkReturn_frame : ∀ a0, a0.frame = y → keeps y (execPcieLinkReturn a0) := by
  intros; unfold execPcieLinkReturn
  with_reducible repeat' first | assumption | rfl | (extract_lets +onlyGivenNames q; first | (refine (fun (hq : q.frame = y) => ?_) ?_; (on_goal 1 => clear_value q); (on_goal 2 => subst q)) | clear_value q) | apply ite_frame | apply ite_keeps | apply next_keeps | apply refused_keeps | apply unstand_frame | apply modHost_frame | apply settle_frame | apply deliverHeld_frame

theorem execPostedWriteErrorReported_frame : ∀ a0 a1 a2, a2.frame = y → keeps y (execPostedWriteErrorReported a0 a1 a2) := by
  intros; unfold execPostedWriteErrorReported
  with_reducible repeat' first | assumption | rfl | (extract_lets +onlyGivenNames q; first | (refine (fun (hq : q.frame = y) => ?_) ?_; (on_goal 1 => clear_value q); (on_goal 2 => subst q)) | (refine (fun (hq : q.2.frame = y) => ?_) ?_; (on_goal 1 => clear_value q); (on_goal 2 => subst q)) | clear_value q) | apply ite_keeps | apply next_keeps | apply refused_keeps | apply settle_frame | apply hostError_frame

theorem execDescriptorAccept_frame : ∀ a0 a1, a1.frame = y → keeps y (execDescriptorAccept a0 a1) := by
  intros; unfold execDescriptorAccept
  with_reducible repeat' first | assumption | rfl | (extract_lets +onlyGivenNames q; clear_value q) | apply ite_frame | apply ite_keeps | apply next_keeps | apply refused_keeps | apply settle_frame | apply raise_frame | apply modSq_frame | apply acceptInto_frame | split

theorem execJournalAcknowledge_frame : ∀ a0 a1, a1.frame = y → keeps y (execJournalAcknowledge a0 a1) := by
  intros; unfold execJournalAcknowledge
  with_reducible repeat' first | assumption | rfl | (extract_lets +onlyGivenNames q; first | (refine (fun (hq : q.frame = y) => ?_) ?_; (on_goal 1 => clear_value q); (on_goal 2 => subst q)) | (refine (fun (hq : q.2.frame = y) => ?_) ?_; (on_goal 1 => clear_value q); (on_goal 2 => subst q)) | clear_value q) | apply ite_frame | apply ite_keeps | apply next_keeps | apply refused_keeps | apply ackOne_frame | split

theorem execCompletionPost_frame : ∀ a0 a1, a1.frame = y → keeps y (execCompletionPost a0 a1) := by
  intros; unfold execCompletionPost
  with_reducible repeat' first | assumption | rfl | (extract_lets +onlyGivenNames q; first | (refine (fun (hq : q.frame = y) => ?_) ?_; (on_goal 1 => clear_value q); (on_goal 2 => subst q)) | (refine (fun (hq : q.2.frame = y) => ?_) ?_; (on_goal 1 => clear_value q); (on_goal 2 => subst q)) | clear_value q) | apply ite_frame | apply ite_keeps | apply next_keeps | apply refused_keeps | apply postEntry_frame | split

theorem execMsixSignal_frame : ∀ a0 a1, a1.frame = y → keeps y (execMsixSignal a0 a1) := by
  intros; unfold execMsixSignal
  with_reducible repeat' first | assumption | rfl | (extract_lets +onlyGivenNames q; first | (refine (fun (hq : q.frame = y) => ?_) ?_; (on_goal 1 => clear_value q); (on_goal 2 => subst q)) | (refine (fun (hq : q.2.frame = y) => ?_) ?_; (on_goal 1 => clear_value q); (on_goal 2 => subst q)) | clear_value q) | apply ite_frame | apply ite_keeps | apply next_keeps | apply refused_keeps | apply signalVector_frame | apply modCq_frame

theorem execPatrolScrub_frame : ∀ a0 a1 a2, a2.frame = y → keeps y (execPatrolScrub a0 a1 a2) := by
  intros; unfold execPatrolScrub
  with_reducible repeat' first | assumption | rfl | (extract_lets +onlyGivenNames q; first | (refine (fun (hq : q.frame = y) => ?_) ?_; (on_goal 1 => clear_value q); (on_goal 2 => subst q)) | (refine (fun (hq : q.2.frame = y) => ?_) ?_; (on_goal 1 => clear_value q); (on_goal 2 => subst q)) | clear_value q) | apply ite_frame | apply ite_keeps | apply next_keeps | apply refused_keeps | apply settle_frame | apply readJournal_frame | apply readLine_frame | split

theorem execTimedActionDue_frame : ∀ a0 a1, a1.frame = y → keeps y (execTimedActionDue a0 a1) := by
  intros; unfold execTimedActionDue
  with_reducible repeat' first | assumption | rfl | (extract_lets +onlyGivenNames q; first | (refine (fun (hq : q.frame = y) => ?_) ?_; (on_goal 1 => clear_value q); (on_goal 2 => subst q)) | (refine (fun (hq : q.2.frame = y) => ?_) ?_; (on_goal 1 => clear_value q); (on_goal 2 => subst q)) | clear_value q) | apply ite_frame | apply ite_keeps | apply next_keeps | apply refused_keeps | apply fetchData_frame | apply settle_frame | apply applyCommand_frame | split

theorem execJournalReplay_frame : ∀ a0 a1, a1.frame = y → keeps y (execJournalReplay a0 a1) := by
  intros; unfold execJournalReplay
  with_reducible repeat' first | assumption | rfl | (extract_lets +onlyGivenNames q; first | (refine (fun (hq : q.frame = y) => ?_) ?_; (on_goal 1 => clear_value q); (on_goal 2 => subst q)) | clear_value q) | apply ite_frame | apply ite_keeps | apply next_keeps | apply refused_keeps | refine forList_frame (fun i t y h => ?_) ?_ | apply readJournal_frame | apply modRings_frame | apply replayEntry_frame | apply settle_frame | apply deliverHeld_frame | apply raise_frame

theorem execMillraceFrameBoundary_frame : ∀ a0 a1, a1.frame = y → keeps y (execMillraceFrameBoundary a0 a1) := by
  intros; unfold execMillraceFrameBoundary
  with_reducible repeat' first | assumption | rfl | (extract_lets +onlyGivenNames q; first | (refine (fun (hq : q.frame = y) => ?_) ?_; (on_goal 1 => clear_value q); (on_goal 2 => subst q)) | (refine (fun (hq : q.2.frame = y) => ?_) ?_; (on_goal 1 => clear_value q); (on_goal 2 => subst q)) | clear_value q) | apply ite_frame | apply ite_keeps | apply next_keeps | apply refused_keeps | apply sendNext_frame

theorem execMillraceFrameReceive_frame : ∀ a0 a1 a2 a3, a3.frame = y → keeps y (execMillraceFrameReceive a0 a1 a2 a3) := by
  intros; unfold execMillraceFrameReceive
  with_reducible repeat' first | assumption | rfl | (extract_lets +onlyGivenNames q; first | (refine (fun (hq : q.frame = y) => ?_) ?_; (on_goal 1 => clear_value q); (on_goal 2 => subst q)) | (refine (fun (hq : q.2.frame = y) => ?_) ?_; (on_goal 1 => clear_value q); (on_goal 2 => subst q)) | clear_value q) | apply ite_frame | apply ite_keeps | apply next_keeps | apply refused_keeps | apply settle_frame | apply frameArrives_frame

theorem execMillraceLinkFailure_frame : ∀ a0 a1 a2, a2.frame = y → keeps y (execMillraceLinkFailure a0 a1 a2) := by
  intros; unfold execMillraceLinkFailure
  with_reducible repeat' first | assumption | rfl | (extract_lets +onlyGivenNames q; first | (refine (fun (hq : q.frame = y) => ?_) ?_; (on_goal 1 => clear_value q); (on_goal 2 => subst q)) | (refine (fun (hq : q.2.frame = y) => ?_) ?_; (on_goal 1 => clear_value q); (on_goal 2 => subst q)) | clear_value q) | apply ite_frame | apply ite_keeps | apply next_keeps | apply refused_keeps | apply settle_frame | apply linkFails_frame | apply dropLock_frame

theorem execSafetyInputChange_frame : ∀ a0 a1 a2 a3 a4, a4.frame = y → keeps y (execSafetyInputChange a0 a1 a2 a3 a4) := by
  intros; unfold execSafetyInputChange
  with_reducible repeat' first | assumption | rfl | (extract_lets +onlyGivenNames q; first | (refine (fun (hq : q.frame = y) => ?_) ?_; (on_goal 1 => clear_value q); (on_goal 2 => subst q)) | (refine (fun (hq : q.2.frame = y) => ?_) ?_; (on_goal 1 => clear_value q); (on_goal 2 => subst q)) | clear_value q) | apply ite_frame | apply ite_keeps | apply next_keeps | apply refused_keeps | apply settle_frame | apply discCleared_frame | apply modSafCh_frame

theorem execDiscrepancyFault_frame : ∀ a0 a1 a2, a2.frame = y → keeps y (execDiscrepancyFault a0 a1 a2) := by
  intros; unfold execDiscrepancyFault
  with_reducible repeat' first | assumption | rfl | (extract_lets +onlyGivenNames q; clear_value q) | apply ite_frame | apply ite_keeps | apply next_keeps | apply refused_keeps | apply settle_frame | apply latchDisc_frame

theorem execStartUpTestPassed_frame : ∀ a0 a1, a1.frame = y → keeps y (execStartUpTestPassed a0 a1) := by
  intros; unfold execStartUpTestPassed
  with_reducible repeat' first | assumption | rfl | (extract_lets +onlyGivenNames q; clear_value q) | apply ite_frame | apply ite_keeps | apply next_keeps | apply refused_keeps | apply settle_frame | apply raise_frame | apply modSafCh_frame

theorem execSupplyPulseTest_frame : ∀ a0 a1 a2 a3, a3.frame = y → keeps y (execSupplyPulseTest a0 a1 a2 a3) := by
  intros; unfold execSupplyPulseTest
  with_reducible repeat' first | assumption | rfl | (extract_lets +onlyGivenNames q; first | (refine (fun (hq : q.frame = y) => ?_) ?_; (on_goal 1 => clear_value q); (on_goal 2 => subst q)) | clear_value q) | apply ite_frame | apply ite_keeps | apply next_keeps | apply refused_keeps | apply latchDisc_frame | apply modSafCh_frame | apply settle_frame

theorem execSecondPathDecode_frame : ∀ a0 a1 a2, a2.frame = y → keeps y (execSecondPathDecode a0 a1 a2) := by
  intros; unfold execSecondPathDecode
  with_reducible repeat' first | assumption | rfl | (extract_lets +onlyGivenNames q; clear_value q) | apply ite_frame | apply ite_keeps | apply next_keeps | apply refused_keeps | apply settle_frame | apply wireAbsent_frame | apply modSaf_frame

theorem execGateEnable_frame : ∀ a0, a0.frame = y → keeps y (execGateEnable a0) := by
  intros; unfold execGateEnable
  with_reducible repeat' first | assumption | rfl | (extract_lets +onlyGivenNames q; first | (refine (fun (hq : q.frame = y) => ?_) ?_; (on_goal 1 => clear_value q); (on_goal 2 => subst q)) | (refine (fun (hq : q.2.frame = y) => ?_) ?_; (on_goal 1 => clear_value q); (on_goal 2 => subst q)) | clear_value q) | apply ite_frame | apply ite_keeps | apply next_keeps | apply refused_keeps | apply settle_frame | apply modSaf_frame

theorem execChannel2Rejoined_frame : ∀ a0, a0.frame = y → keeps y (execChannel2Rejoined a0) := by
  intros; unfold execChannel2Rejoined
  with_reducible repeat' first | assumption | rfl | (extract_lets +onlyGivenNames q; first | (refine (fun (hq : q.frame = y) => ?_) ?_; (on_goal 1 => clear_value q); (on_goal 2 => subst q)) | clear_value q) | apply ite_frame | apply ite_keeps | apply next_keeps | apply refused_keeps | apply modSaf_frame | apply raise_frame | apply settle_frame | apply unstand_frame | split

theorem execChannel2AbsentTooLong_frame : ∀ a0, a0.frame = y → keeps y (execChannel2AbsentTooLong a0) := by
  intros; unfold execChannel2AbsentTooLong
  with_reducible repeat' first | assumption | rfl | (extract_lets +onlyGivenNames q; first | (refine (fun (hq : q.frame = y) => ?_) ?_; (on_goal 1 => clear_value q); (on_goal 2 => subst q)) | (refine (fun (hq : q.2.frame = y) => ?_) ?_; (on_goal 1 => clear_value q); (on_goal 2 => subst q)) | clear_value q) | apply ite_frame | apply ite_keeps | apply next_keeps | apply refused_keeps | apply settle_frame | apply stand_frame | apply raise_frame | apply modSaf_frame

theorem execChannel2DidNotFollowDemand_frame : ∀ a0, a0.frame = y → keeps y (execChannel2DidNotFollowDemand a0) := by
  intros; unfold execChannel2DidNotFollowDemand
  with_reducible repeat' first | assumption | rfl | (extract_lets +onlyGivenNames q; first | (refine (fun (hq : q.frame = y) => ?_) ?_; (on_goal 1 => clear_value q); (on_goal 2 => subst q)) | (refine (fun (hq : q.2.frame = y) => ?_) ?_; (on_goal 1 => clear_value q); (on_goal 2 => subst q)) | clear_value q) | apply ite_frame | apply ite_keeps | apply next_keeps | apply refused_keeps | apply settle_frame | apply stand_frame | apply raise_frame | apply modSaf_frame

theorem execPath1ReadbackPulse_frame : ∀ a0 a1 a2, a2.frame = y → keeps y (execPath1ReadbackPulse a0 a1 a2) := by
  intros; unfold execPath1ReadbackPulse
  with_reducible repeat' first | assumption | rfl | (extract_lets +onlyGivenNames q; first | (refine (fun (hq : q.frame = y) => ?_) ?_; (on_goal 1 => clear_value q); (on_goal 2 => subst q)) | (refine (fun (hq : q.2.frame = y) => ?_) ?_; (on_goal 1 => clear_value q); (on_goal 2 => subst q)) | clear_value q) | apply ite_frame | apply ite_keeps | apply next_keeps | apply refused_keeps | apply settle_frame | apply judgePath2_frame | apply judgePath1_frame | apply modSaf_frame

theorem execChannel1SelfTest_frame : ∀ a0 a1, a1.frame = y → keeps y (execChannel1SelfTest a0 a1) := by
  intros; unfold execChannel1SelfTest
  with_reducible repeat' first | assumption | rfl | (extract_lets +onlyGivenNames q; first | (refine (fun (hq : q.frame = y) => ?_) ?_; (on_goal 1 => clear_value q); (on_goal 2 => subst q)) | clear_value q) | apply ite_frame | apply ite_keeps | apply next_keeps | apply refused_keeps | apply noteCheck_frame | apply settle_frame | apply modSafCh_frame | apply stand_frame | apply raise_frame

theorem execChannel2SelfCheck_frame : ∀ a0 a1, a1.frame = y → keeps y (execChannel2SelfCheck a0 a1) := by
  intros; unfold execChannel2SelfCheck
  with_reducible repeat' first | assumption | rfl | (extract_lets +onlyGivenNames q; first | (refine (fun (hq : q.frame = y) => ?_) ?_; (on_goal 1 => clear_value q); (on_goal 2 => subst q)) | clear_value q) | apply ite_frame | apply ite_keeps | apply next_keeps | apply refused_keeps | apply noteCheck_frame | apply settle_frame | apply unstand_frame | apply modSafCh_frame | apply stand_frame | apply raise_frame

theorem execSafeOutputReadbackFault_frame : ∀ a0 a1 a2, a2.frame = y → keeps y (execSafeOutputReadbackFault a0 a1 a2) := by
  intros; unfold execSafeOutputReadbackFault
  with_reducible repeat' first | assumption | rfl | (extract_lets +onlyGivenNames q; first | (refine (fun (hq : q.frame = y) => ?_) ?_; (on_goal 1 => clear_value q); (on_goal 2 => subst q)) | (refine (fun (hq : q.2.frame = y) => ?_) ?_; (on_goal 1 => clear_value q); (on_goal 2 => subst q)) | clear_value q) | apply ite_frame | apply ite_keeps | apply next_keeps | apply refused_keeps | apply settle_frame | apply modSo_frame

theorem execSoTestPulse_frame : ∀ a0 a1, a1.frame = y → keeps y (execSoTestPulse a0 a1) := by
  intros; unfold execSoTestPulse
  with_reducible repeat' first | assumption | rfl | (extract_lets +onlyGivenNames q; clear_value q) | apply ite_frame | apply ite_keeps | apply next_keeps | apply refused_keeps | apply settle_frame | apply modSafCh_frame

theorem execSoTestPulseEnd_frame : ∀ a0 a1 a2 a3, a3.frame = y → keeps y (execSoTestPulseEnd a0 a1 a2 a3) := by
  intros; unfold execSoTestPulseEnd
  with_reducible repeat' first | assumption | rfl | (extract_lets +onlyGivenNames q; first | (refine (fun (hq : q.frame = y) => ?_) ?_; (on_goal 1 => clear_value q); (on_goal 2 => subst q)) | clear_value q) | apply ite_frame | apply ite_keeps | apply next_keeps | apply refused_keeps | apply judgeTest_frame | apply settle_frame | apply modSafCh_frame

theorem execSafeOutputOverload_frame : ∀ a0 a1 a2 a3, a3.frame = y → keeps y (execSafeOutputOverload a0 a1 a2 a3) := by
  intros; unfold execSafeOutputOverload
  with_reducible repeat' first | assumption | rfl | (extract_lets +onlyGivenNames q; first | (refine (fun (hq : q.frame = y) => ?_) ?_; (on_goal 1 => clear_value q); (on_goal 2 => subst q)) | (refine (fun (hq : q.2.frame = y) => ?_) ?_; (on_goal 1 => clear_value q); (on_goal 2 => subst q)) | clear_value q) | apply ite_frame | apply ite_keeps | apply next_keeps | apply refused_keeps | apply settle_frame | apply stand_frame | apply raise_frame | apply modSo_frame

theorem execContactorFeedbackFault_frame : ∀ a0 a1 a2, a2.frame = y → keeps y (execContactorFeedbackFault a0 a1 a2) := by
  intros; unfold execContactorFeedbackFault
  with_reducible repeat' first | assumption | rfl | (extract_lets +onlyGivenNames q; clear_value q) | apply ite_frame | apply ite_keeps | apply next_keeps | apply refused_keeps | apply settle_frame | apply stand_frame | apply raise_frame | apply modSo_frame

theorem execSf2FaultCleared_frame : ∀ a0 a1, a1.frame = y → keeps y (execSf2FaultCleared a0 a1) := by
  intros; unfold execSf2FaultCleared
  with_reducible repeat' first | assumption | rfl | (extract_lets +onlyGivenNames q; first | (refine (fun (hq : q.frame = y) => ?_) ?_; (on_goal 1 => clear_value q); (on_goal 2 => subst q)) | clear_value q) | apply ite_frame | apply ite_keeps | apply next_keeps | apply refused_keeps | apply raise_frame | apply modSo_frame | apply settle_frame | apply unstand_frame

theorem execDchOverload_frame : ∀ a0 a1 a2 a3, a3.frame = y → keeps y (execDchOverload a0 a1 a2 a3) := by
  intros; unfold execDchOverload
  with_reducible repeat' first | assumption | rfl | (extract_lets +onlyGivenNames q; first | (refine (fun (hq : q.frame = y) => ?_) ?_; (on_goal 1 => clear_value q); (on_goal 2 => subst q)) | (refine (fun (hq : q.2.frame = y) => ?_) ?_; (on_goal 1 => clear_value q); (on_goal 2 => subst q)) | clear_value q) | apply ite_frame | apply ite_keeps | apply next_keeps | apply refused_keeps | apply settle_frame | apply modSaf_frame

theorem execDchRetry_frame : ∀ a0 a1, a1.frame = y → keeps y (execDchRetry a0 a1) := by
  intros; unfold execDchRetry
  with_reducible repeat' first | assumption | rfl | (extract_lets +onlyGivenNames q; first | (refine (fun (hq : q.frame = y) => ?_) ?_; (on_goal 1 => clear_value q); (on_goal 2 => subst q)) | (refine (fun (hq : q.2.frame = y) => ?_) ?_; (on_goal 1 => clear_value q); (on_goal 2 => subst q)) | clear_value q) | apply ite_frame | apply ite_keeps | apply next_keeps | apply refused_keeps | apply settle_frame | apply modSaf_frame | split

theorem execCdrvOverload_frame : ∀ a0 a1 a2, a2.frame = y → keeps y (execCdrvOverload a0 a1 a2) := by
  intros; unfold execCdrvOverload
  with_reducible repeat' first | assumption | rfl | (extract_lets +onlyGivenNames q; first | (refine (fun (hq : q.frame = y) => ?_) ?_; (on_goal 1 => clear_value q); (on_goal 2 => subst q)) | (refine (fun (hq : q.2.frame = y) => ?_) ?_; (on_goal 1 => clear_value q); (on_goal 2 => subst q)) | clear_value q) | apply ite_frame | apply ite_keeps | apply next_keeps | apply refused_keeps | apply settle_frame | (apply mk_frame; apply fold_frame)

theorem execCdSafRestarted_frame : ∀ a0, a0.frame = y → keeps y (execCdSafRestarted a0) := by
  intros; unfold execCdSafRestarted
  with_reducible repeat' first | assumption | rfl | (extract_lets +onlyGivenNames q; first | (refine (fun (hq : q.frame = y) => ?_) ?_; (on_goal 1 => clear_value q); (on_goal 2 => subst q)) | clear_value q) | apply ite_frame | apply ite_keeps | apply next_keeps | apply refused_keeps | apply modPower_frame | apply channelPowerUp_frame | apply wireAbsent_frame | apply unstand_frame | apply modSaf_frame | apply settle_frame | apply raise_frame

theorem execInputLow_frame : ∀ a0 a1, a1.frame = y → keeps y (execInputLow a0 a1) := by
  intros; unfold execInputLow
  with_reducible repeat' first | assumption | rfl | (extract_lets +onlyGivenNames q; first | (refine (fun (hq : q.frame = y) => ?_) ?_; (on_goal 1 => clear_value q); (on_goal 2 => subst q)) | (refine (fun (hq : q.2.frame = y) => ?_) ?_; (on_goal 1 => clear_value q); (on_goal 2 => subst q)) | clear_value q) | apply ite_frame | apply ite_keeps | apply next_keeps | apply refused_keeps | apply settle_frame | apply raise_frame | apply modPower_frame

theorem execInputLowCleared_frame : ∀ a0 a1, a1.frame = y → keeps y (execInputLowCleared a0 a1) := by
  intros; unfold execInputLowCleared
  with_reducible repeat' first | assumption | rfl | (extract_lets +onlyGivenNames q; first | (refine (fun (hq : q.frame = y) => ?_) ?_; (on_goal 1 => clear_value q); (on_goal 2 => subst q)) | (refine (fun (hq : q.2.frame = y) => ?_) ?_; (on_goal 1 => clear_value q); (on_goal 2 => subst q)) | clear_value q) | apply ite_frame | apply ite_keeps | apply next_keeps | apply refused_keeps | apply modPower_frame

theorem execInputLoss_frame : ∀ a0 a1 a2, a2.frame = y → keeps y (execInputLoss a0 a1 a2) := by
  intros; unfold execInputLoss
  with_reducible repeat' first | assumption | rfl | (extract_lets +onlyGivenNames q; first | (refine (fun (hq : q.frame = y) => ?_) ?_; (on_goal 1 => clear_value q); (on_goal 2 => subst q)) | (refine (fun (hq : q.2.frame = y) => ?_) ?_; (on_goal 1 => clear_value q); (on_goal 2 => subst q)) | clear_value q) | apply ite_frame | apply ite_keeps | apply next_keeps | apply refused_keeps | apply noteStore_frame | apply modPower_frame

theorem execInputReturn_frame : ∀ a0 a1 a2, a2.frame = y → keeps y (execInputReturn a0 a1 a2) := by
  intros; unfold execInputReturn
  with_reducible repeat' first | assumption | rfl | (extract_lets +onlyGivenNames q; first | (refine (fun (hq : q.frame = y) => ?_) ?_; (on_goal 1 => clear_value q); (on_goal 2 => subst q)) | clear_value q) | apply ite_frame | apply ite_keeps | apply next_keeps | apply refused_keeps | apply inputBack_frame | apply noteStore_frame | apply settle_frame | apply unstand_frame | apply modPower_frame | apply raise_frame

theorem execPdNetRestarted_frame : ∀ a0, a0.frame = y → keeps y (execPdNetRestarted a0) := by
  intros; unfold execPdNetRestarted
  with_reducible repeat' first | assumption | rfl | (extract_lets +onlyGivenNames q; first | (refine (fun (hq : q.frame = y) => ?_) ?_; (on_goal 1 => clear_value q); (on_goal 2 => subst q)) | (refine (fun (hq : q.2.frame = y) => ?_) ?_; (on_goal 1 => clear_value q); (on_goal 2 => subst q)) | clear_value q) | apply ite_frame | apply ite_keeps | apply next_keeps | apply refused_keeps | apply settle_frame | apply raise_frame | apply netUp_frame | apply modPower_frame

theorem execPdIsoRestart_frame : ∀ a0, a0.frame = y → keeps y (execPdIsoRestart a0) := by
  intros; unfold execPdIsoRestart
  with_reducible repeat' first | assumption | rfl | (extract_lets +onlyGivenNames q; first | (refine (fun (hq : q.frame = y) => ?_) ?_; (on_goal 1 => clear_value q); (on_goal 2 => subst q)) | (refine (fun (hq : q.2.frame = y) => ?_) ?_; (on_goal 1 => clear_value q); (on_goal 2 => subst q)) | clear_value q) | apply ite_frame | apply ite_keeps | apply next_keeps | apply refused_keeps | apply settle_frame | apply unstand_frame | apply modPower_frame | split

theorem execMemsReferenceLost_frame : ∀ a0 a1 a2, a2.frame = y → keeps y (execMemsReferenceLost a0 a1 a2) := by
  intros; unfold execMemsReferenceLost
  with_reducible repeat' first | assumption | rfl | (extract_lets +onlyGivenNames q; first | (refine (fun (hq : q.frame = y) => ?_) ?_; (on_goal 1 => clear_value q); (on_goal 2 => subst q)) | clear_value q) | apply ite_frame | apply ite_keeps | apply next_keeps | apply refused_keeps | apply stand_frame | apply raiseNow_frame | apply modPower_frame | apply settle_frame | apply cDieDown_frame | apply pDieDown_frame

theorem execMemsReferenceRecovered_frame : ∀ a0 a1, a1.frame = y → keeps y (execMemsReferenceRecovered a0 a1) := by
  intros; unfold execMemsReferenceRecovered
  with_reducible repeat' first | assumption | rfl | (extract_lets +onlyGivenNames q; first | (refine (fun (hq : q.frame = y) => ?_) ?_; (on_goal 1 => clear_value q); (on_goal 2 => subst q)) | (refine (fun (hq : q.2.frame = y) => ?_) ?_; (on_goal 1 => clear_value q); (on_goal 2 => subst q)) | clear_value q) | apply ite_frame | apply ite_keeps | apply next_keeps | apply refused_keeps | apply settle_frame | apply unstand_frame | apply modPower_frame

theorem execPllLockLost_frame : ∀ a0 a1, a1.frame = y → keeps y (execPllLockLost a0 a1) := by
  intros; unfold execPllLockLost
  with_reducible repeat' first | assumption | rfl | (extract_lets +onlyGivenNames q; first | (refine (fun (hq : q.frame = y) => ?_) ?_; (on_goal 1 => clear_value q); (on_goal 2 => subst q)) | (refine (fun (hq : q.2.frame = y) => ?_) ?_; (on_goal 1 => clear_value q); (on_goal 2 => subst q)) | clear_value q) | apply ite_frame | apply ite_keeps | apply next_keeps | apply refused_keeps | apply fresh_frame | apply raise_frame | apply settle_frame | apply pDieDown_frame | apply modPower_frame | apply cDieDown_frame | split

theorem execAoClockMeasure_frame : ∀ a0 a1, a1.frame = y → keeps y (execAoClockMeasure a0 a1) := by
  intros; unfold execAoClockMeasure
  with_reducible repeat' first | assumption | rfl | (extract_lets +onlyGivenNames q; first | (refine (fun (hq : q.frame = y) => ?_) ?_; (on_goal 1 => clear_value q); (on_goal 2 => subst q)) | clear_value q) | apply ite_frame | apply ite_keeps | apply next_keeps | apply refused_keeps | apply modPower_frame | apply settle_frame | apply raise_frame

theorem execCDieWarmReset_frame : ∀ a0, a0.frame = y → keeps y (execCDieWarmReset a0) := by
  intros; unfold execCDieWarmReset
  with_reducible repeat' first | assumption | rfl | (extract_lets +onlyGivenNames q; first | (refine (fun (hq : q.frame = y) => ?_) ?_; (on_goal 1 => clear_value q); (on_goal 2 => subst q)) | (refine (fun (hq : q.2.frame = y) => ?_) ?_; (on_goal 1 => clear_value q); (on_goal 2 => subst q)) | clear_value q) | apply ite_keeps | apply next_keeps | apply refused_keeps | apply settle_frame | apply cDieDown_frame

theorem execAutoCDieReset_frame : ∀ a0, a0.frame = y → keeps y (execAutoCDieReset a0) := by
  intros; unfold execAutoCDieReset
  with_reducible repeat' first | assumption | rfl | (extract_lets +onlyGivenNames q; first | (refine (fun (hq : q.frame = y) => ?_) ?_; (on_goal 1 => clear_value q); (on_goal 2 => subst q)) | (refine (fun (hq : q.2.frame = y) => ?_) ?_; (on_goal 1 => clear_value q); (on_goal 2 => subst q)) | clear_value q) | apply ite_frame | apply ite_keeps | apply next_keeps | apply refused_keeps | apply settle_frame | apply cDieDown_frame | split

theorem execPDieWarmReset_frame : ∀ a0, a0.frame = y → keeps y (execPDieWarmReset a0) := by
  intros; unfold execPDieWarmReset
  with_reducible repeat' first | assumption | rfl | (extract_lets +onlyGivenNames q; first | (refine (fun (hq : q.frame = y) => ?_) ?_; (on_goal 1 => clear_value q); (on_goal 2 => subst q)) | (refine (fun (hq : q.2.frame = y) => ?_) ?_; (on_goal 1 => clear_value q); (on_goal 2 => subst q)) | clear_value q) | apply ite_keeps | apply next_keeps | apply refused_keeps | apply settle_frame | apply pDieDown_frame

theorem execMemInitComplete_frame : ∀ a0, a0.frame = y → keeps y (execMemInitComplete a0) := by
  intros; unfold execMemInitComplete
  with_reducible repeat' first | assumption | rfl | (extract_lets +onlyGivenNames q; first | (refine (fun (hq : q.frame = y) => ?_) ?_; (on_goal 1 => clear_value q); (on_goal 2 => subst q)) | clear_value q) | apply ite_frame | apply ite_keeps | apply next_keeps | apply refused_keeps | apply modPower_frame | (apply mk_frame; apply fold_frame)

theorem execModuleTemperature_frame : ∀ a0 a1, a1.frame = y → keeps y (execModuleTemperature a0 a1) := by
  intros; unfold execModuleTemperature
  with_reducible repeat' first | assumption | rfl | (extract_lets +onlyGivenNames q; first | (refine (fun (hq : q.2.frame = y) => ?_) ?_; (on_goal 1 => clear_value q); (on_goal 2 => subst q)) | clear_value q) | apply ite_frame | apply ite_keeps | apply next_keeps | apply refused_keeps | apply tempStep_frame | apply settle_frame | apply modPower_frame

theorem execSoOnRequest_frame : ∀ a0 a1, a1.frame = y → keeps y (execSoOnRequest a0 a1) := by
  intros; unfold execSoOnRequest
  with_reducible repeat' first | assumption | rfl | (extract_lets +onlyGivenNames q; first | (refine (fun (hq : q.frame = y) => ?_) ?_; (on_goal 1 => clear_value q); (on_goal 2 => subst q)) | (refine (fun (hq : q.2.frame = y) => ?_) ?_; (on_goal 1 => clear_value q); (on_goal 2 => subst q)) | clear_value q) | apply ite_keeps | apply next_keeps | apply refused_keeps | apply hostWord_frame | apply writeSoReq_frame | (intro x0 y h)

theorem execDebugOpen_frame : ∀ a0 a1, a1.frame = y → keeps y (execDebugOpen a0 a1) := by
  intros; unfold execDebugOpen
  with_reducible repeat' first | assumption | rfl | (extract_lets +onlyGivenNames q; first | (refine (fun (hq : q.frame = y) => ?_) ?_; (on_goal 1 => clear_value q); (on_goal 2 => subst q)) | (refine (fun (hq : q.2.frame = y) => ?_) ?_; (on_goal 1 => clear_value q); (on_goal 2 => subst q)) | clear_value q) | apply ite_keeps | apply next_keeps | apply refused_keeps | apply hostWord_frame | apply writeDbg_frame | (intro x0 y h)

theorem execDbgRead_frame : ∀ a0 a1, a1.frame = y → keeps y (execDbgRead a0 a1) := by
  intros; unfold execDbgRead
  with_reducible repeat' first | assumption | rfl | (extract_lets +onlyGivenNames q; first | (refine (fun (hq : q.frame = y) => ?_) ?_; (on_goal 1 => clear_value q); (on_goal 2 => subst q)) | (refine (fun (hq : q.2.frame = y) => ?_) ?_; (on_goal 1 => clear_value q); (on_goal 2 => subst q)) | clear_value q) | apply ite_keeps | apply next_keeps | apply refused_keeps | apply hostWord_frame | apply writeDbgCtrl_frame | (intro x0 y h)

theorem execDbgWrite_frame : ∀ a0 a1, a1.frame = y → keeps y (execDbgWrite a0 a1) := by
  intros; unfold execDbgWrite
  with_reducible repeat' first | assumption | rfl | (extract_lets +onlyGivenNames q; first | (refine (fun (hq : q.frame = y) => ?_) ?_; (on_goal 1 => clear_value q); (on_goal 2 => subst q)) | (refine (fun (hq : q.2.frame = y) => ?_) ?_; (on_goal 1 => clear_value q); (on_goal 2 => subst q)) | clear_value q) | apply ite_keeps | apply next_keeps | apply refused_keeps | apply hostWord_frame | apply writeDbgCtrl_frame | (intro x0 y h)

theorem execDebugAccessDone_frame : ∀ a0, a0.frame = y → keeps y (execDebugAccessDone a0) := by
  intros; unfold execDebugAccessDone
  with_reducible repeat' first | assumption | rfl | (extract_lets +onlyGivenNames q; first | (refine (fun (hq : q.frame = y) => ?_) ?_; (on_goal 1 => clear_value q); (on_goal 2 => subst q)) | clear_value q) | apply ite_frame | apply ite_keeps | apply next_keeps | apply refused_keeps | apply debugWrite_frame | apply debugRead_frame | apply settle_frame | split | intro _ | (apply mk_frame; apply fold_frame)

theorem execPDieAccessTimeout_frame : ∀ a0, a0.frame = y → keeps y (execPDieAccessTimeout a0) := by
  intros; unfold execPDieAccessTimeout
  with_reducible repeat' first | assumption | rfl | (extract_lets +onlyGivenNames q; first | (refine (fun (hq : q.frame = y) => ?_) ?_; (on_goal 1 => clear_value q); (on_goal 2 => subst q)) | clear_value q) | apply ite_frame | apply ite_keeps | apply next_keeps | apply refused_keeps | apply modHost_frame | apply readAs_frame | split

theorem afterRun_frame : ∀ a0 a1 a2 a3 a4, (∀ x0 x1 y, x1.frame = y → (a3 x0 x1).frame = y) → a4.frame = y → keeps y (afterRun a0 a1 a2 a3 a4) := by
  intro c t may f s hf h
  refine next_keeps ?_
  split
  · exact h
  · exact ite_frame (settle_frame _ _ (hf _ _ _ h)) h

theorem execBusDeclaredDead_frame : ∀ a0 a1, a1.frame = y → keeps y (execBusDeclaredDead a0 a1) := by
  intros; unfold execBusDeclaredDead
  with_reducible repeat' first | assumption | rfl | (extract_lets +onlyGivenNames q; first | (refine (fun (hq : q.frame = y) => ?_) ?_; (on_goal 1 => clear_value q); (on_goal 2 => subst q)) | (refine (fun (hq : q.2.frame = y) => ?_) ?_; (on_goal 1 => clear_value q); (on_goal 2 => subst q)) | clear_value q) | apply ite_keeps | apply next_keeps | apply refused_keeps | apply afterRun_frame | apply declareDead_frame | (intro x0 x1 y h)

theorem execStartDelayExpire_frame : ∀ a0 a1, a1.frame = y → keeps y (execStartDelayExpire a0 a1) := by
  intros; unfold execStartDelayExpire
  with_reducible repeat' first | assumption | rfl | (extract_lets +onlyGivenNames q; clear_value q) | apply ite_keeps | apply next_keeps | apply refused_keeps | apply afterRun_frame | apply decideStart_frame | (intro x0 x1 y h)

theorem execContactorFailedToClose_frame : ∀ a0 a1, a1.frame = y → keeps y (execContactorFailedToClose a0 a1) := by
  intros; unfold execContactorFailedToClose
  with_reducible repeat' first | assumption | rfl | (extract_lets +onlyGivenNames q; clear_value q) | apply ite_keeps | apply next_keeps | apply refused_keeps | apply afterRun_frame | apply modSeqr_frame | (intro x0 x1 y h)

theorem execContactorOpenedWithoutCommand_frame : ∀ a0 a1, a1.frame = y → keeps y (execContactorOpenedWithoutCommand a0 a1) := by
  intros; unfold execContactorOpenedWithoutCommand
  with_reducible repeat' first | assumption | rfl | (extract_lets +onlyGivenNames q; clear_value q) | apply ite_keeps | apply next_keeps | apply refused_keeps | apply afterRun_frame | apply modSeqr_frame | (intro x0 x1 y h)

theorem execBsHoldElapsed_frame : ∀ a0 a1, a1.frame = y → keeps y (execBsHoldElapsed a0 a1) := by
  intros; unfold execBsHoldElapsed
  with_reducible repeat' first | assumption | rfl | (extract_lets +onlyGivenNames q; clear_value q) | apply ite_keeps | apply next_keeps | apply refused_keeps | apply afterRun_frame | apply modSeqr_frame | (intro x0 x1 y h)

theorem execSyncWindowsHeld_frame : ∀ a0 a1, a1.frame = y → keeps y (execSyncWindowsHeld a0 a1) := by
  intros; unfold execSyncWindowsHeld
  with_reducible repeat' first | assumption | rfl | (extract_lets +onlyGivenNames q; first | (refine (fun (hq : q.frame = y) => ?_) ?_; (on_goal 1 => clear_value q); (on_goal 2 => subst q)) | (refine (fun (hq : q.2.frame = y) => ?_) ?_; (on_goal 1 => clear_value q); (on_goal 2 => subst q)) | clear_value q) | apply ite_keeps | apply next_keeps | apply refused_keeps | apply afterRun_frame | apply setOutVal_frame | (intro x0 x1 y h)

theorem execSyncWindowsNotMet_frame : ∀ a0 a1, a1.frame = y → keeps y (execSyncWindowsNotMet a0 a1) := by
  intros; unfold execSyncWindowsNotMet
  with_reducible repeat' first | assumption | rfl | (extract_lets +onlyGivenNames q; clear_value q) | apply ite_keeps | apply next_keeps | apply refused_keeps | apply afterRun_frame | apply modSeqr_frame | (intro x0 x1 y h)

theorem execStopFactorZero_frame : ∀ a0 a1, a1.frame = y → keeps y (execStopFactorZero a0 a1) := by
  intros; unfold execStopFactorZero
  with_reducible repeat' first | assumption | rfl | (extract_lets +onlyGivenNames q; clear_value q) | apply ite_keeps | apply next_keeps | apply refused_keeps | apply afterRun_frame | apply modSeqr_frame | (intro x0 x1 y h)

theorem execEnvExitElapsed_frame : ∀ a0 a1, a1.frame = y → keeps y (execEnvExitElapsed a0 a1) := by
  intros; unfold execEnvExitElapsed
  with_reducible repeat' first | assumption | rfl | (extract_lets +onlyGivenNames q; first | (refine (fun (hq : q.frame = y) => ?_) ?_; (on_goal 1 => clear_value q); (on_goal 2 => subst q)) | (refine (fun (hq : q.2.frame = y) => ?_) ?_; (on_goal 1 => clear_value q); (on_goal 2 => subst q)) | clear_value q) | apply ite_keeps | apply next_keeps | apply refused_keeps | apply afterRun_frame | apply transition_frame | (intro x0 x1 y h)

theorem execGapResumeElapsed_frame : ∀ a0 a1, a1.frame = y → keeps y (execGapResumeElapsed a0 a1) := by
  intros; unfold execGapResumeElapsed
  with_reducible repeat' first | assumption | rfl | (extract_lets +onlyGivenNames q; first | (refine (fun (hq : q.frame = y) => ?_) ?_; (on_goal 1 => clear_value q); (on_goal 2 => subst q)) | (refine (fun (hq : q.2.frame = y) => ?_) ?_; (on_goal 1 => clear_value q); (on_goal 2 => subst q)) | clear_value q) | apply ite_keeps | apply next_keeps | apply refused_keeps | apply afterRun_frame | apply transition_frame | (intro x0 x1 y h)

theorem execAnchorFreezeEnd_frame : ∀ a0 a1, a1.frame = y → keeps y (execAnchorFreezeEnd a0 a1) := by
  intros; unfold execAnchorFreezeEnd
  with_reducible repeat' first | assumption | rfl | (extract_lets +onlyGivenNames q; clear_value q) | apply ite_keeps | apply next_keeps | apply refused_keeps | apply afterRun_frame | apply modRt_frame | (intro x0 x1 y h)

theorem execRampComplete_frame : ∀ a0 a1, a1.frame = y → keeps y (execRampComplete a0 a1) := by
  intros; unfold execRampComplete
  with_reducible repeat' first | assumption | rfl | (extract_lets +onlyGivenNames q; first | (refine (fun (hq : q.frame = y) => ?_) ?_; (on_goal 1 => clear_value q); (on_goal 2 => subst q)) | (refine (fun (hq : q.2.frame = y) => ?_) ?_; (on_goal 1 => clear_value q); (on_goal 2 => subst q)) | clear_value q) | apply ite_frame | apply ite_keeps | apply next_keeps | apply refused_keeps | apply afterRun_frame | apply modRt_frame | (intro x0 x1 y h) | split

theorem execBlendEnd_frame : ∀ a0 a1, a1.frame = y → keeps y (execBlendEnd a0 a1) := by
  intros; unfold execBlendEnd
  with_reducible repeat' first | assumption | rfl | (extract_lets +onlyGivenNames q; clear_value q) | apply ite_keeps | apply next_keeps | apply refused_keeps | apply afterRun_frame | apply endBlend_frame | (intro x0 x1 y h)

theorem execFoldBackStart_frame : ∀ a0 a1, a1.frame = y → keeps y (execFoldBackStart a0 a1) := by
  intros; unfold execFoldBackStart
  with_reducible repeat' first | assumption | rfl | (extract_lets +onlyGivenNames q; first | (refine (fun (hq : q.frame = y) => ?_) ?_; (on_goal 1 => clear_value q); (on_goal 2 => subst q)) | (refine (fun (hq : q.2.frame = y) => ?_) ?_; (on_goal 1 => clear_value q); (on_goal 2 => subst q)) | clear_value q) | apply ite_keeps | apply next_keeps | apply refused_keeps | apply afterRun_frame | apply raiseFull_frame | apply setSw_frame | apply modRt_frame | (intro x0 x1 y h)

theorem execSweepStart_frame : ∀ a0 a1, a1.frame = y → keeps y (execSweepStart a0 a1) := by
  intros; unfold execSweepStart
  with_reducible repeat' first | assumption | rfl | (extract_lets +onlyGivenNames q; first | (refine (fun (hq : q.frame = y) => ?_) ?_; (on_goal 1 => clear_value q); (on_goal 2 => subst q)) | (refine (fun (hq : q.2.frame = y) => ?_) ?_; (on_goal 1 => clear_value q); (on_goal 2 => subst q)) | clear_value q) | apply ite_keeps | apply next_keeps | apply refused_keeps | apply afterRun_frame | apply beginPoint_frame | apply modRt_frame | (intro x0 x1 y h)

theorem execSweepPointEnd_frame : ∀ a0 a1, a1.frame = y → keeps y (execSweepPointEnd a0 a1) := by
  intro c s h
  refine afterRun_frame _ _ _ _ _ (fun n t y ht => ?_) h
  have hr := fun f => modRt_frame (y := y) t c f ht
  exact ite_frame (endSweep_frame _ _ (hr _)) (beginPoint_frame _ _ _ _ (hr _))

theorem execSafetySetUpdate_frame : ∀ a0, a0.frame = y → keeps y (execSafetySetUpdate a0) := by
  intros; unfold execSafetySetUpdate
  with_reducible repeat' first | assumption | rfl | (extract_lets +onlyGivenNames q; first | (refine (fun (hq : q.frame = y) => ?_) ?_; (on_goal 1 => clear_value q); (on_goal 2 => subst q)) | (refine (fun (hq : q.2.frame = y) => ?_) ?_; (on_goal 1 => clear_value q); (on_goal 2 => subst q)) | clear_value q) | apply ite_frame | apply ite_keeps | apply next_keeps | apply refused_keeps | apply settle_frame | apply devUpdate_frame | apply writeSafSet_frame | (intro x0 y h)

theorem execNetworkCounterUpdate_frame : ∀ a0, a0.frame = y → keeps y (execNetworkCounterUpdate a0) := by
  intros; unfold execNetworkCounterUpdate
  with_reducible repeat' first | assumption | rfl | (extract_lets +onlyGivenNames q; first | (refine (fun (hq : q.frame = y) => ?_) ?_; (on_goal 1 => clear_value q); (on_goal 2 => subst q)) | (refine (fun (hq : q.2.frame = y) => ?_) ?_; (on_goal 1 => clear_value q); (on_goal 2 => subst q)) | clear_value q) | apply ite_frame | apply ite_keeps | apply next_keeps | apply refused_keeps | apply settle_frame | apply devUpdate_frame | apply writeNetSet_frame | (intro x0 y h)

end Sys2Proof.Machine
end

