-- ==== Sys2Proof/Laws/Millrace.lean ====
section
/-!
SUPPORT. The byte helpers read back what they wrote, and the CRC of a frame passes exactly where it was sent unchanged and not inverted.
-/
namespace Sys2Proof.Machine

open Sys2Proof

@[simp] theorem leBytes_length (n x : Nat) : (leBytes n x).length = n := by
  induction n generalizing x with
  | zero => rfl
  | succ n ih => simp [leBytes, ih]

theorem ofLe_leBytes (n x : Nat) : ofLe (leBytes n x) = x % 256 ^ n := by
  induction n generalizing x with
  | zero => simp [leBytes, ofLe, Nat.mod_one]
  | succ n ih =>
    rw [leBytes, ofLe, ih, pow_succ, Nat.mul_comm (256 ^ n), Nat.mod_mul, BitVec.toNat_ofNat]

/-- A word read back from its four bytes. -/
theorem ofNat_ofLe_leBytes (w : Word32) : BitVec.ofNat 32 (ofLe (leBytes 4 w.toNat)) = w := by
  rw [ofLe_leBytes, Nat.mod_eq_of_lt (by have := w.isLt; omega), BitVec.ofNat_toNat, BitVec.setWidth_eq]

/-- A frame that arrives as it was sent: its CRC differs from the computed one exactly by the inversion (R12, R457). -/
theorem MrFrame.crcDiff_intact (f : MrFrame) : f.crcDiff [] = if f.invert = 0 then 0 else -1 := by
  have hx (l : List Byte) : xorBytes l [] = l := by cases l <;> rfl
  simp only [MrFrame.crcDiff, hx, MrFrame.bytes, List.length_append, leBytes_length, Nat.add_sub_cancel, List.drop_left, List.take_left,
    ofNat_ofLe_leBytes]
  split
  · exact BitVec.xor_self
  · rw [← BitVec.not_xor_left, BitVec.xor_self]; rfl

end Sys2Proof.Machine
end

