-- ==== Sys2Proof/Laws/State.lean ====
section
/-!
SUPPORT. What each named update of the state does to each field of it, by definition.
-/
namespace Sys2Proof.Machine

open Sys2Proof

variable (s : State)

@[simp] theorem State.modPower_pending (f) : (s.modPower f).pending = s.pending := rfl
@[simp] theorem State.modPower_now (f) : (s.modPower f).now = s.now := rfl
@[simp] theorem State.modPower_free (f) : (s.modPower f).free = s.free := rfl
@[simp] theorem State.modPower_regs (f) : (s.modPower f).regs = s.regs := rfl
@[simp] theorem State.modPower_sealRecord (f) : (s.modPower f).sealRecord = s.sealRecord := rfl
@[simp] theorem State.modPower_mem (f) : (s.modPower f).mem = s.mem := rfl
@[simp] theorem State.modPower_memErr (f) : (s.modPower f).memErr = s.memErr := rfl
@[simp] theorem State.modPower_initLines (f) : (s.modPower f).initLines = s.initLines := rfl
@[simp] theorem State.modPower_power (f) : (s.modPower f).power = f s.power := rfl
@[simp] theorem State.modPower_host (f) : (s.modPower f).host = s.host := rfl
@[simp] theorem State.modPower_rings (f) : (s.modPower f).rings = s.rings := rfl
@[simp] theorem State.modPower_loop (f) : (s.modPower f).loop = s.loop := rfl
@[simp] theorem State.modPower_regions (f) : (s.modPower f).regions = s.regions := rfl
@[simp] theorem State.modPower_islands (f) : (s.modPower f).islands = s.islands := rfl
@[simp] theorem State.modPower_units (f) : (s.modPower f).units = s.units := rfl
@[simp] theorem State.modPower_tripActive (f) : (s.modPower f).tripActive = s.tripActive := rfl
@[simp] theorem State.modPower_dutyIn (f) : (s.modPower f).dutyIn = s.dutyIn := rfl
@[simp] theorem State.modPower_banks (f) : (s.modPower f).banks = s.banks := rfl
@[simp] theorem State.modPower_channels (f) : (s.modPower f).channels = s.channels := rfl
@[simp] theorem State.modPower_chains (f) : (s.modPower f).chains = s.chains := rfl
@[simp] theorem State.modPower_trigs (f) : (s.modPower f).trigs = s.trigs := rfl
@[simp] theorem State.modPower_sessions (f) : (s.modPower f).sessions = s.sessions := rfl
@[simp] theorem State.modPower_net (f) : (s.modPower f).net = s.net := rfl
@[simp] theorem State.modPower_time (f) : (s.modPower f).time = s.time := rfl
@[simp] theorem State.modPower_pair (f) : (s.modPower f).pair = s.pair := rfl
@[simp] theorem State.modPower_saf (f) : (s.modPower f).saf = s.saf := rfl
@[simp] theorem State.modPower_arb (f) : (s.modPower f).arb = s.arb := rfl
@[simp] theorem State.modPower_weirs (f) : (s.modPower f).weirs = s.weirs := rfl
@[simp] theorem State.modPower_events (f) : (s.modPower f).events = s.events := rfl
@[simp] theorem State.modPower_mrP (f) : (s.modPower f).mrP = s.mrP := rfl
@[simp] theorem State.modPower_mrC (f) : (s.modPower f).mrC = s.mrC := rfl
@[simp] theorem State.modPower_linkUp (f) : (s.modPower f).linkUp = s.linkUp := rfl
@[simp] theorem State.modPower_lane0 (f) : (s.modPower f).lane0 = s.lane0 := rfl
@[simp] theorem State.modPower_lane1 (f) : (s.modPower f).lane1 = s.lane1 := rfl
@[simp] theorem State.modPower_failCnt (f) : (s.modPower f).failCnt = s.failCnt := rfl
@[simp] theorem State.modPower_replayCnt (f) : (s.modPower f).replayCnt = s.replayCnt := rfl
@[simp] theorem State.modPower_memCorr (f) : (s.modPower f).memCorr = s.memCorr := rfl
@[simp] theorem State.modPower_memUncorr (f) : (s.modPower f).memUncorr = s.memUncorr := rfl
@[simp] theorem State.modPower_jrnlCorr (f) : (s.modPower f).jrnlCorr = s.jrnlCorr := rfl
@[simp] theorem State.modPower_jrnlUncorr (f) : (s.modPower f).jrnlUncorr = s.jrnlUncorr := rfl
@[simp] theorem State.modPower_drive (f) : (s.modPower f).drive = s.drive := rfl
@[simp] theorem State.modPower_cdrvOff (f) : (s.modPower f).cdrvOff = s.cdrvOff := rfl
@[simp] theorem State.modPower_dbgBlock (f) : (s.modPower f).dbgBlock = s.dbgBlock := rfl

@[simp] theorem State.modHost_pending (f) : (s.modHost f).pending = s.pending := rfl
@[simp] theorem State.modHost_now (f) : (s.modHost f).now = s.now := rfl
@[simp] theorem State.modHost_free (f) : (s.modHost f).free = s.free := rfl
@[simp] theorem State.modHost_regs (f) : (s.modHost f).regs = s.regs := rfl
@[simp] theorem State.modHost_sealRecord (f) : (s.modHost f).sealRecord = s.sealRecord := rfl
@[simp] theorem State.modHost_mem (f) : (s.modHost f).mem = s.mem := rfl
@[simp] theorem State.modHost_memErr (f) : (s.modHost f).memErr = s.memErr := rfl
@[simp] theorem State.modHost_initLines (f) : (s.modHost f).initLines = s.initLines := rfl
@[simp] theorem State.modHost_power (f) : (s.modHost f).power = s.power := rfl
@[simp] theorem State.modHost_host (f) : (s.modHost f).host = f s.host := rfl
@[simp] theorem State.modHost_rings (f) : (s.modHost f).rings = s.rings := rfl
@[simp] theorem State.modHost_loop (f) : (s.modHost f).loop = s.loop := rfl
@[simp] theorem State.modHost_regions (f) : (s.modHost f).regions = s.regions := rfl
@[simp] theorem State.modHost_islands (f) : (s.modHost f).islands = s.islands := rfl
@[simp] theorem State.modHost_units (f) : (s.modHost f).units = s.units := rfl
@[simp] theorem State.modHost_tripActive (f) : (s.modHost f).tripActive = s.tripActive := rfl
@[simp] theorem State.modHost_dutyIn (f) : (s.modHost f).dutyIn = s.dutyIn := rfl
@[simp] theorem State.modHost_banks (f) : (s.modHost f).banks = s.banks := rfl
@[simp] theorem State.modHost_channels (f) : (s.modHost f).channels = s.channels := rfl
@[simp] theorem State.modHost_chains (f) : (s.modHost f).chains = s.chains := rfl
@[simp] theorem State.modHost_trigs (f) : (s.modHost f).trigs = s.trigs := rfl
@[simp] theorem State.modHost_sessions (f) : (s.modHost f).sessions = s.sessions := rfl
@[simp] theorem State.modHost_net (f) : (s.modHost f).net = s.net := rfl
@[simp] theorem State.modHost_time (f) : (s.modHost f).time = s.time := rfl
@[simp] theorem State.modHost_pair (f) : (s.modHost f).pair = s.pair := rfl
@[simp] theorem State.modHost_saf (f) : (s.modHost f).saf = s.saf := rfl
@[simp] theorem State.modHost_arb (f) : (s.modHost f).arb = s.arb := rfl
@[simp] theorem State.modHost_weirs (f) : (s.modHost f).weirs = s.weirs := rfl
@[simp] theorem State.modHost_events (f) : (s.modHost f).events = s.events := rfl
@[simp] theorem State.modHost_mrP (f) : (s.modHost f).mrP = s.mrP := rfl
@[simp] theorem State.modHost_mrC (f) : (s.modHost f).mrC = s.mrC := rfl
@[simp] theorem State.modHost_linkUp (f) : (s.modHost f).linkUp = s.linkUp := rfl
@[simp] theorem State.modHost_lane0 (f) : (s.modHost f).lane0 = s.lane0 := rfl
@[simp] theorem State.modHost_lane1 (f) : (s.modHost f).lane1 = s.lane1 := rfl
@[simp] theorem State.modHost_failCnt (f) : (s.modHost f).failCnt = s.failCnt := rfl
@[simp] theorem State.modHost_replayCnt (f) : (s.modHost f).replayCnt = s.replayCnt := rfl
@[simp] theorem State.modHost_memCorr (f) : (s.modHost f).memCorr = s.memCorr := rfl
@[simp] theorem State.modHost_memUncorr (f) : (s.modHost f).memUncorr = s.memUncorr := rfl
@[simp] theorem State.modHost_jrnlCorr (f) : (s.modHost f).jrnlCorr = s.jrnlCorr := rfl
@[simp] theorem State.modHost_jrnlUncorr (f) : (s.modHost f).jrnlUncorr = s.jrnlUncorr := rfl
@[simp] theorem State.modHost_drive (f) : (s.modHost f).drive = s.drive := rfl
@[simp] theorem State.modHost_cdrvOff (f) : (s.modHost f).cdrvOff = s.cdrvOff := rfl
@[simp] theorem State.modHost_dbgBlock (f) : (s.modHost f).dbgBlock = s.dbgBlock := rfl

@[simp] theorem State.modRings_pending (f) : (s.modRings f).pending = s.pending := rfl
@[simp] theorem State.modRings_now (f) : (s.modRings f).now = s.now := rfl
@[simp] theorem State.modRings_free (f) : (s.modRings f).free = s.free := rfl
@[simp] theorem State.modRings_regs (f) : (s.modRings f).regs = s.regs := rfl
@[simp] theorem State.modRings_sealRecord (f) : (s.modRings f).sealRecord = s.sealRecord := rfl
@[simp] theorem State.modRings_mem (f) : (s.modRings f).mem = s.mem := rfl
@[simp] theorem State.modRings_memErr (f) : (s.modRings f).memErr = s.memErr := rfl
@[simp] theorem State.modRings_initLines (f) : (s.modRings f).initLines = s.initLines := rfl
@[simp] theorem State.modRings_power (f) : (s.modRings f).power = s.power := rfl
@[simp] theorem State.modRings_host (f) : (s.modRings f).host = s.host := rfl
@[simp] theorem State.modRings_rings (f) : (s.modRings f).rings = f s.rings := rfl
@[simp] theorem State.modRings_loop (f) : (s.modRings f).loop = s.loop := rfl
@[simp] theorem State.modRings_regions (f) : (s.modRings f).regions = s.regions := rfl
@[simp] theorem State.modRings_islands (f) : (s.modRings f).islands = s.islands := rfl
@[simp] theorem State.modRings_units (f) : (s.modRings f).units = s.units := rfl
@[simp] theorem State.modRings_tripActive (f) : (s.modRings f).tripActive = s.tripActive := rfl
@[simp] theorem State.modRings_dutyIn (f) : (s.modRings f).dutyIn = s.dutyIn := rfl
@[simp] theorem State.modRings_banks (f) : (s.modRings f).banks = s.banks := rfl
@[simp] theorem State.modRings_channels (f) : (s.modRings f).channels = s.channels := rfl
@[simp] theorem State.modRings_chains (f) : (s.modRings f).chains = s.chains := rfl
@[simp] theorem State.modRings_trigs (f) : (s.modRings f).trigs = s.trigs := rfl
@[simp] theorem State.modRings_sessions (f) : (s.modRings f).sessions = s.sessions := rfl
@[simp] theorem State.modRings_net (f) : (s.modRings f).net = s.net := rfl
@[simp] theorem State.modRings_time (f) : (s.modRings f).time = s.time := rfl
@[simp] theorem State.modRings_pair (f) : (s.modRings f).pair = s.pair := rfl
@[simp] theorem State.modRings_saf (f) : (s.modRings f).saf = s.saf := rfl
@[simp] theorem State.modRings_arb (f) : (s.modRings f).arb = s.arb := rfl
@[simp] theorem State.modRings_weirs (f) : (s.modRings f).weirs = s.weirs := rfl
@[simp] theorem State.modRings_events (f) : (s.modRings f).events = s.events := rfl
@[simp] theorem State.modRings_mrP (f) : (s.modRings f).mrP = s.mrP := rfl
@[simp] theorem State.modRings_mrC (f) : (s.modRings f).mrC = s.mrC := rfl
@[simp] theorem State.modRings_linkUp (f) : (s.modRings f).linkUp = s.linkUp := rfl
@[simp] theorem State.modRings_lane0 (f) : (s.modRings f).lane0 = s.lane0 := rfl
@[simp] theorem State.modRings_lane1 (f) : (s.modRings f).lane1 = s.lane1 := rfl
@[simp] theorem State.modRings_failCnt (f) : (s.modRings f).failCnt = s.failCnt := rfl
@[simp] theorem State.modRings_replayCnt (f) : (s.modRings f).replayCnt = s.replayCnt := rfl
@[simp] theorem State.modRings_memCorr (f) : (s.modRings f).memCorr = s.memCorr := rfl
@[simp] theorem State.modRings_memUncorr (f) : (s.modRings f).memUncorr = s.memUncorr := rfl
@[simp] theorem State.modRings_jrnlCorr (f) : (s.modRings f).jrnlCorr = s.jrnlCorr := rfl
@[simp] theorem State.modRings_jrnlUncorr (f) : (s.modRings f).jrnlUncorr = s.jrnlUncorr := rfl
@[simp] theorem State.modRings_drive (f) : (s.modRings f).drive = s.drive := rfl
@[simp] theorem State.modRings_cdrvOff (f) : (s.modRings f).cdrvOff = s.cdrvOff := rfl
@[simp] theorem State.modRings_dbgBlock (f) : (s.modRings f).dbgBlock = s.dbgBlock := rfl

@[simp] theorem State.modLoop_pending (f) : (s.modLoop f).pending = s.pending := rfl
@[simp] theorem State.modLoop_now (f) : (s.modLoop f).now = s.now := rfl
@[simp] theorem State.modLoop_free (f) : (s.modLoop f).free = s.free := rfl
@[simp] theorem State.modLoop_regs (f) : (s.modLoop f).regs = s.regs := rfl
@[simp] theorem State.modLoop_sealRecord (f) : (s.modLoop f).sealRecord = s.sealRecord := rfl
@[simp] theorem State.modLoop_mem (f) : (s.modLoop f).mem = s.mem := rfl
@[simp] theorem State.modLoop_memErr (f) : (s.modLoop f).memErr = s.memErr := rfl
@[simp] theorem State.modLoop_initLines (f) : (s.modLoop f).initLines = s.initLines := rfl
@[simp] theorem State.modLoop_power (f) : (s.modLoop f).power = s.power := rfl
@[simp] theorem State.modLoop_host (f) : (s.modLoop f).host = s.host := rfl
@[simp] theorem State.modLoop_rings (f) : (s.modLoop f).rings = s.rings := rfl
@[simp] theorem State.modLoop_loop (f) : (s.modLoop f).loop = f s.loop := rfl
@[simp] theorem State.modLoop_regions (f) : (s.modLoop f).regions = s.regions := rfl
@[simp] theorem State.modLoop_islands (f) : (s.modLoop f).islands = s.islands := rfl
@[simp] theorem State.modLoop_units (f) : (s.modLoop f).units = s.units := rfl
@[simp] theorem State.modLoop_tripActive (f) : (s.modLoop f).tripActive = s.tripActive := rfl
@[simp] theorem State.modLoop_dutyIn (f) : (s.modLoop f).dutyIn = s.dutyIn := rfl
@[simp] theorem State.modLoop_banks (f) : (s.modLoop f).banks = s.banks := rfl
@[simp] theorem State.modLoop_channels (f) : (s.modLoop f).channels = s.channels := rfl
@[simp] theorem State.modLoop_chains (f) : (s.modLoop f).chains = s.chains := rfl
@[simp] theorem State.modLoop_trigs (f) : (s.modLoop f).trigs = s.trigs := rfl
@[simp] theorem State.modLoop_sessions (f) : (s.modLoop f).sessions = s.sessions := rfl
@[simp] theorem State.modLoop_net (f) : (s.modLoop f).net = s.net := rfl
@[simp] theorem State.modLoop_time (f) : (s.modLoop f).time = s.time := rfl
@[simp] theorem State.modLoop_pair (f) : (s.modLoop f).pair = s.pair := rfl
@[simp] theorem State.modLoop_saf (f) : (s.modLoop f).saf = s.saf := rfl
@[simp] theorem State.modLoop_arb (f) : (s.modLoop f).arb = s.arb := rfl
@[simp] theorem State.modLoop_weirs (f) : (s.modLoop f).weirs = s.weirs := rfl
@[simp] theorem State.modLoop_events (f) : (s.modLoop f).events = s.events := rfl
@[simp] theorem State.modLoop_mrP (f) : (s.modLoop f).mrP = s.mrP := rfl
@[simp] theorem State.modLoop_mrC (f) : (s.modLoop f).mrC = s.mrC := rfl
@[simp] theorem State.modLoop_linkUp (f) : (s.modLoop f).linkUp = s.linkUp := rfl
@[simp] theorem State.modLoop_lane0 (f) : (s.modLoop f).lane0 = s.lane0 := rfl
@[simp] theorem State.modLoop_lane1 (f) : (s.modLoop f).lane1 = s.lane1 := rfl
@[simp] theorem State.modLoop_failCnt (f) : (s.modLoop f).failCnt = s.failCnt := rfl
@[simp] theorem State.modLoop_replayCnt (f) : (s.modLoop f).replayCnt = s.replayCnt := rfl
@[simp] theorem State.modLoop_memCorr (f) : (s.modLoop f).memCorr = s.memCorr := rfl
@[simp] theorem State.modLoop_memUncorr (f) : (s.modLoop f).memUncorr = s.memUncorr := rfl
@[simp] theorem State.modLoop_jrnlCorr (f) : (s.modLoop f).jrnlCorr = s.jrnlCorr := rfl
@[simp] theorem State.modLoop_jrnlUncorr (f) : (s.modLoop f).jrnlUncorr = s.jrnlUncorr := rfl
@[simp] theorem State.modLoop_drive (f) : (s.modLoop f).drive = s.drive := rfl
@[simp] theorem State.modLoop_cdrvOff (f) : (s.modLoop f).cdrvOff = s.cdrvOff := rfl
@[simp] theorem State.modLoop_dbgBlock (f) : (s.modLoop f).dbgBlock = s.dbgBlock := rfl

@[simp] theorem State.modNet_pending (f) : (s.modNet f).pending = s.pending := rfl
@[simp] theorem State.modNet_now (f) : (s.modNet f).now = s.now := rfl
@[simp] theorem State.modNet_free (f) : (s.modNet f).free = s.free := rfl
@[simp] theorem State.modNet_regs (f) : (s.modNet f).regs = s.regs := rfl
@[simp] theorem State.modNet_sealRecord (f) : (s.modNet f).sealRecord = s.sealRecord := rfl
@[simp] theorem State.modNet_mem (f) : (s.modNet f).mem = s.mem := rfl
@[simp] theorem State.modNet_memErr (f) : (s.modNet f).memErr = s.memErr := rfl
@[simp] theorem State.modNet_initLines (f) : (s.modNet f).initLines = s.initLines := rfl
@[simp] theorem State.modNet_power (f) : (s.modNet f).power = s.power := rfl
@[simp] theorem State.modNet_host (f) : (s.modNet f).host = s.host := rfl
@[simp] theorem State.modNet_rings (f) : (s.modNet f).rings = s.rings := rfl
@[simp] theorem State.modNet_loop (f) : (s.modNet f).loop = s.loop := rfl
@[simp] theorem State.modNet_regions (f) : (s.modNet f).regions = s.regions := rfl
@[simp] theorem State.modNet_islands (f) : (s.modNet f).islands = s.islands := rfl
@[simp] theorem State.modNet_units (f) : (s.modNet f).units = s.units := rfl
@[simp] theorem State.modNet_tripActive (f) : (s.modNet f).tripActive = s.tripActive := rfl
@[simp] theorem State.modNet_dutyIn (f) : (s.modNet f).dutyIn = s.dutyIn := rfl
@[simp] theorem State.modNet_banks (f) : (s.modNet f).banks = s.banks := rfl
@[simp] theorem State.modNet_channels (f) : (s.modNet f).channels = s.channels := rfl
@[simp] theorem State.modNet_chains (f) : (s.modNet f).chains = s.chains := rfl
@[simp] theorem State.modNet_trigs (f) : (s.modNet f).trigs = s.trigs := rfl
@[simp] theorem State.modNet_sessions (f) : (s.modNet f).sessions = s.sessions := rfl
@[simp] theorem State.modNet_net (f) : (s.modNet f).net = f s.net := rfl
@[simp] theorem State.modNet_time (f) : (s.modNet f).time = s.time := rfl
@[simp] theorem State.modNet_pair (f) : (s.modNet f).pair = s.pair := rfl
@[simp] theorem State.modNet_saf (f) : (s.modNet f).saf = s.saf := rfl
@[simp] theorem State.modNet_arb (f) : (s.modNet f).arb = s.arb := rfl
@[simp] theorem State.modNet_weirs (f) : (s.modNet f).weirs = s.weirs := rfl
@[simp] theorem State.modNet_events (f) : (s.modNet f).events = s.events := rfl
@[simp] theorem State.modNet_mrP (f) : (s.modNet f).mrP = s.mrP := rfl
@[simp] theorem State.modNet_mrC (f) : (s.modNet f).mrC = s.mrC := rfl
@[simp] theorem State.modNet_linkUp (f) : (s.modNet f).linkUp = s.linkUp := rfl
@[simp] theorem State.modNet_lane0 (f) : (s.modNet f).lane0 = s.lane0 := rfl
@[simp] theorem State.modNet_lane1 (f) : (s.modNet f).lane1 = s.lane1 := rfl
@[simp] theorem State.modNet_failCnt (f) : (s.modNet f).failCnt = s.failCnt := rfl
@[simp] theorem State.modNet_replayCnt (f) : (s.modNet f).replayCnt = s.replayCnt := rfl
@[simp] theorem State.modNet_memCorr (f) : (s.modNet f).memCorr = s.memCorr := rfl
@[simp] theorem State.modNet_memUncorr (f) : (s.modNet f).memUncorr = s.memUncorr := rfl
@[simp] theorem State.modNet_jrnlCorr (f) : (s.modNet f).jrnlCorr = s.jrnlCorr := rfl
@[simp] theorem State.modNet_jrnlUncorr (f) : (s.modNet f).jrnlUncorr = s.jrnlUncorr := rfl
@[simp] theorem State.modNet_drive (f) : (s.modNet f).drive = s.drive := rfl
@[simp] theorem State.modNet_cdrvOff (f) : (s.modNet f).cdrvOff = s.cdrvOff := rfl
@[simp] theorem State.modNet_dbgBlock (f) : (s.modNet f).dbgBlock = s.dbgBlock := rfl

@[simp] theorem State.modTime_pending (f) : (s.modTime f).pending = s.pending := rfl
@[simp] theorem State.modTime_now (f) : (s.modTime f).now = s.now := rfl
@[simp] theorem State.modTime_free (f) : (s.modTime f).free = s.free := rfl
@[simp] theorem State.modTime_regs (f) : (s.modTime f).regs = s.regs := rfl
@[simp] theorem State.modTime_sealRecord (f) : (s.modTime f).sealRecord = s.sealRecord := rfl
@[simp] theorem State.modTime_mem (f) : (s.modTime f).mem = s.mem := rfl
@[simp] theorem State.modTime_memErr (f) : (s.modTime f).memErr = s.memErr := rfl
@[simp] theorem State.modTime_initLines (f) : (s.modTime f).initLines = s.initLines := rfl
@[simp] theorem State.modTime_power (f) : (s.modTime f).power = s.power := rfl
@[simp] theorem State.modTime_host (f) : (s.modTime f).host = s.host := rfl
@[simp] theorem State.modTime_rings (f) : (s.modTime f).rings = s.rings := rfl
@[simp] theorem State.modTime_loop (f) : (s.modTime f).loop = s.loop := rfl
@[simp] theorem State.modTime_regions (f) : (s.modTime f).regions = s.regions := rfl
@[simp] theorem State.modTime_islands (f) : (s.modTime f).islands = s.islands := rfl
@[simp] theorem State.modTime_units (f) : (s.modTime f).units = s.units := rfl
@[simp] theorem State.modTime_tripActive (f) : (s.modTime f).tripActive = s.tripActive := rfl
@[simp] theorem State.modTime_dutyIn (f) : (s.modTime f).dutyIn = s.dutyIn := rfl
@[simp] theorem State.modTime_banks (f) : (s.modTime f).banks = s.banks := rfl
@[simp] theorem State.modTime_channels (f) : (s.modTime f).channels = s.channels := rfl
@[simp] theorem State.modTime_chains (f) : (s.modTime f).chains = s.chains := rfl
@[simp] theorem State.modTime_trigs (f) : (s.modTime f).trigs = s.trigs := rfl
@[simp] theorem State.modTime_sessions (f) : (s.modTime f).sessions = s.sessions := rfl
@[simp] theorem State.modTime_net (f) : (s.modTime f).net = s.net := rfl
@[simp] theorem State.modTime_time (f) : (s.modTime f).time = f s.time := rfl
@[simp] theorem State.modTime_pair (f) : (s.modTime f).pair = s.pair := rfl
@[simp] theorem State.modTime_saf (f) : (s.modTime f).saf = s.saf := rfl
@[simp] theorem State.modTime_arb (f) : (s.modTime f).arb = s.arb := rfl
@[simp] theorem State.modTime_weirs (f) : (s.modTime f).weirs = s.weirs := rfl
@[simp] theorem State.modTime_events (f) : (s.modTime f).events = s.events := rfl
@[simp] theorem State.modTime_mrP (f) : (s.modTime f).mrP = s.mrP := rfl
@[simp] theorem State.modTime_mrC (f) : (s.modTime f).mrC = s.mrC := rfl
@[simp] theorem State.modTime_linkUp (f) : (s.modTime f).linkUp = s.linkUp := rfl
@[simp] theorem State.modTime_lane0 (f) : (s.modTime f).lane0 = s.lane0 := rfl
@[simp] theorem State.modTime_lane1 (f) : (s.modTime f).lane1 = s.lane1 := rfl
@[simp] theorem State.modTime_failCnt (f) : (s.modTime f).failCnt = s.failCnt := rfl
@[simp] theorem State.modTime_replayCnt (f) : (s.modTime f).replayCnt = s.replayCnt := rfl
@[simp] theorem State.modTime_memCorr (f) : (s.modTime f).memCorr = s.memCorr := rfl
@[simp] theorem State.modTime_memUncorr (f) : (s.modTime f).memUncorr = s.memUncorr := rfl
@[simp] theorem State.modTime_jrnlCorr (f) : (s.modTime f).jrnlCorr = s.jrnlCorr := rfl
@[simp] theorem State.modTime_jrnlUncorr (f) : (s.modTime f).jrnlUncorr = s.jrnlUncorr := rfl
@[simp] theorem State.modTime_drive (f) : (s.modTime f).drive = s.drive := rfl
@[simp] theorem State.modTime_cdrvOff (f) : (s.modTime f).cdrvOff = s.cdrvOff := rfl
@[simp] theorem State.modTime_dbgBlock (f) : (s.modTime f).dbgBlock = s.dbgBlock := rfl

@[simp] theorem State.modPair_pending (f) : (s.modPair f).pending = s.pending := rfl
@[simp] theorem State.modPair_now (f) : (s.modPair f).now = s.now := rfl
@[simp] theorem State.modPair_free (f) : (s.modPair f).free = s.free := rfl
@[simp] theorem State.modPair_regs (f) : (s.modPair f).regs = s.regs := rfl
@[simp] theorem State.modPair_sealRecord (f) : (s.modPair f).sealRecord = s.sealRecord := rfl
@[simp] theorem State.modPair_mem (f) : (s.modPair f).mem = s.mem := rfl
@[simp] theorem State.modPair_memErr (f) : (s.modPair f).memErr = s.memErr := rfl
@[simp] theorem State.modPair_initLines (f) : (s.modPair f).initLines = s.initLines := rfl
@[simp] theorem State.modPair_power (f) : (s.modPair f).power = s.power := rfl
@[simp] theorem State.modPair_host (f) : (s.modPair f).host = s.host := rfl
@[simp] theorem State.modPair_rings (f) : (s.modPair f).rings = s.rings := rfl
@[simp] theorem State.modPair_loop (f) : (s.modPair f).loop = s.loop := rfl
@[simp] theorem State.modPair_regions (f) : (s.modPair f).regions = s.regions := rfl
@[simp] theorem State.modPair_islands (f) : (s.modPair f).islands = s.islands := rfl
@[simp] theorem State.modPair_units (f) : (s.modPair f).units = s.units := rfl
@[simp] theorem State.modPair_tripActive (f) : (s.modPair f).tripActive = s.tripActive := rfl
@[simp] theorem State.modPair_dutyIn (f) : (s.modPair f).dutyIn = s.dutyIn := rfl
@[simp] theorem State.modPair_banks (f) : (s.modPair f).banks = s.banks := rfl
@[simp] theorem State.modPair_channels (f) : (s.modPair f).channels = s.channels := rfl
@[simp] theorem State.modPair_chains (f) : (s.modPair f).chains = s.chains := rfl
@[simp] theorem State.modPair_trigs (f) : (s.modPair f).trigs = s.trigs := rfl
@[simp] theorem State.modPair_sessions (f) : (s.modPair f).sessions = s.sessions := rfl
@[simp] theorem State.modPair_net (f) : (s.modPair f).net = s.net := rfl
@[simp] theorem State.modPair_time (f) : (s.modPair f).time = s.time := rfl
@[simp] theorem State.modPair_pair (f) : (s.modPair f).pair = f s.pair := rfl
@[simp] theorem State.modPair_saf (f) : (s.modPair f).saf = s.saf := rfl
@[simp] theorem State.modPair_arb (f) : (s.modPair f).arb = s.arb := rfl
@[simp] theorem State.modPair_weirs (f) : (s.modPair f).weirs = s.weirs := rfl
@[simp] theorem State.modPair_events (f) : (s.modPair f).events = s.events := rfl
@[simp] theorem State.modPair_mrP (f) : (s.modPair f).mrP = s.mrP := rfl
@[simp] theorem State.modPair_mrC (f) : (s.modPair f).mrC = s.mrC := rfl
@[simp] theorem State.modPair_linkUp (f) : (s.modPair f).linkUp = s.linkUp := rfl
@[simp] theorem State.modPair_lane0 (f) : (s.modPair f).lane0 = s.lane0 := rfl
@[simp] theorem State.modPair_lane1 (f) : (s.modPair f).lane1 = s.lane1 := rfl
@[simp] theorem State.modPair_failCnt (f) : (s.modPair f).failCnt = s.failCnt := rfl
@[simp] theorem State.modPair_replayCnt (f) : (s.modPair f).replayCnt = s.replayCnt := rfl
@[simp] theorem State.modPair_memCorr (f) : (s.modPair f).memCorr = s.memCorr := rfl
@[simp] theorem State.modPair_memUncorr (f) : (s.modPair f).memUncorr = s.memUncorr := rfl
@[simp] theorem State.modPair_jrnlCorr (f) : (s.modPair f).jrnlCorr = s.jrnlCorr := rfl
@[simp] theorem State.modPair_jrnlUncorr (f) : (s.modPair f).jrnlUncorr = s.jrnlUncorr := rfl
@[simp] theorem State.modPair_drive (f) : (s.modPair f).drive = s.drive := rfl
@[simp] theorem State.modPair_cdrvOff (f) : (s.modPair f).cdrvOff = s.cdrvOff := rfl
@[simp] theorem State.modPair_dbgBlock (f) : (s.modPair f).dbgBlock = s.dbgBlock := rfl

@[simp] theorem State.modSaf_pending (f) : (s.modSaf f).pending = s.pending := rfl
@[simp] theorem State.modSaf_now (f) : (s.modSaf f).now = s.now := rfl
@[simp] theorem State.modSaf_free (f) : (s.modSaf f).free = s.free := rfl
@[simp] theorem State.modSaf_regs (f) : (s.modSaf f).regs = s.regs := rfl
@[simp] theorem State.modSaf_sealRecord (f) : (s.modSaf f).sealRecord = s.sealRecord := rfl
@[simp] theorem State.modSaf_mem (f) : (s.modSaf f).mem = s.mem := rfl
@[simp] theorem State.modSaf_memErr (f) : (s.modSaf f).memErr = s.memErr := rfl
@[simp] theorem State.modSaf_initLines (f) : (s.modSaf f).initLines = s.initLines := rfl
@[simp] theorem State.modSaf_power (f) : (s.modSaf f).power = s.power := rfl
@[simp] theorem State.modSaf_host (f) : (s.modSaf f).host = s.host := rfl
@[simp] theorem State.modSaf_rings (f) : (s.modSaf f).rings = s.rings := rfl
@[simp] theorem State.modSaf_loop (f) : (s.modSaf f).loop = s.loop := rfl
@[simp] theorem State.modSaf_regions (f) : (s.modSaf f).regions = s.regions := rfl
@[simp] theorem State.modSaf_islands (f) : (s.modSaf f).islands = s.islands := rfl
@[simp] theorem State.modSaf_units (f) : (s.modSaf f).units = s.units := rfl
@[simp] theorem State.modSaf_tripActive (f) : (s.modSaf f).tripActive = s.tripActive := rfl
@[simp] theorem State.modSaf_dutyIn (f) : (s.modSaf f).dutyIn = s.dutyIn := rfl
@[simp] theorem State.modSaf_banks (f) : (s.modSaf f).banks = s.banks := rfl
@[simp] theorem State.modSaf_channels (f) : (s.modSaf f).channels = s.channels := rfl
@[simp] theorem State.modSaf_chains (f) : (s.modSaf f).chains = s.chains := rfl
@[simp] theorem State.modSaf_trigs (f) : (s.modSaf f).trigs = s.trigs := rfl
@[simp] theorem State.modSaf_sessions (f) : (s.modSaf f).sessions = s.sessions := rfl
@[simp] theorem State.modSaf_net (f) : (s.modSaf f).net = s.net := rfl
@[simp] theorem State.modSaf_time (f) : (s.modSaf f).time = s.time := rfl
@[simp] theorem State.modSaf_pair (f) : (s.modSaf f).pair = s.pair := rfl
@[simp] theorem State.modSaf_saf (f) : (s.modSaf f).saf = f s.saf := rfl
@[simp] theorem State.modSaf_arb (f) : (s.modSaf f).arb = s.arb := rfl
@[simp] theorem State.modSaf_weirs (f) : (s.modSaf f).weirs = s.weirs := rfl
@[simp] theorem State.modSaf_events (f) : (s.modSaf f).events = s.events := rfl
@[simp] theorem State.modSaf_mrP (f) : (s.modSaf f).mrP = s.mrP := rfl
@[simp] theorem State.modSaf_mrC (f) : (s.modSaf f).mrC = s.mrC := rfl
@[simp] theorem State.modSaf_linkUp (f) : (s.modSaf f).linkUp = s.linkUp := rfl
@[simp] theorem State.modSaf_lane0 (f) : (s.modSaf f).lane0 = s.lane0 := rfl
@[simp] theorem State.modSaf_lane1 (f) : (s.modSaf f).lane1 = s.lane1 := rfl
@[simp] theorem State.modSaf_failCnt (f) : (s.modSaf f).failCnt = s.failCnt := rfl
@[simp] theorem State.modSaf_replayCnt (f) : (s.modSaf f).replayCnt = s.replayCnt := rfl
@[simp] theorem State.modSaf_memCorr (f) : (s.modSaf f).memCorr = s.memCorr := rfl
@[simp] theorem State.modSaf_memUncorr (f) : (s.modSaf f).memUncorr = s.memUncorr := rfl
@[simp] theorem State.modSaf_jrnlCorr (f) : (s.modSaf f).jrnlCorr = s.jrnlCorr := rfl
@[simp] theorem State.modSaf_jrnlUncorr (f) : (s.modSaf f).jrnlUncorr = s.jrnlUncorr := rfl
@[simp] theorem State.modSaf_drive (f) : (s.modSaf f).drive = s.drive := rfl
@[simp] theorem State.modSaf_cdrvOff (f) : (s.modSaf f).cdrvOff = s.cdrvOff := rfl
@[simp] theorem State.modSaf_dbgBlock (f) : (s.modSaf f).dbgBlock = s.dbgBlock := rfl

@[simp] theorem State.modArb_pending (f) : (s.modArb f).pending = s.pending := rfl
@[simp] theorem State.modArb_now (f) : (s.modArb f).now = s.now := rfl
@[simp] theorem State.modArb_free (f) : (s.modArb f).free = s.free := rfl
@[simp] theorem State.modArb_regs (f) : (s.modArb f).regs = s.regs := rfl
@[simp] theorem State.modArb_sealRecord (f) : (s.modArb f).sealRecord = s.sealRecord := rfl
@[simp] theorem State.modArb_mem (f) : (s.modArb f).mem = s.mem := rfl
@[simp] theorem State.modArb_memErr (f) : (s.modArb f).memErr = s.memErr := rfl
@[simp] theorem State.modArb_initLines (f) : (s.modArb f).initLines = s.initLines := rfl
@[simp] theorem State.modArb_power (f) : (s.modArb f).power = s.power := rfl
@[simp] theorem State.modArb_host (f) : (s.modArb f).host = s.host := rfl
@[simp] theorem State.modArb_rings (f) : (s.modArb f).rings = s.rings := rfl
@[simp] theorem State.modArb_loop (f) : (s.modArb f).loop = s.loop := rfl
@[simp] theorem State.modArb_regions (f) : (s.modArb f).regions = s.regions := rfl
@[simp] theorem State.modArb_islands (f) : (s.modArb f).islands = s.islands := rfl
@[simp] theorem State.modArb_units (f) : (s.modArb f).units = s.units := rfl
@[simp] theorem State.modArb_tripActive (f) : (s.modArb f).tripActive = s.tripActive := rfl
@[simp] theorem State.modArb_dutyIn (f) : (s.modArb f).dutyIn = s.dutyIn := rfl
@[simp] theorem State.modArb_banks (f) : (s.modArb f).banks = s.banks := rfl
@[simp] theorem State.modArb_channels (f) : (s.modArb f).channels = s.channels := rfl
@[simp] theorem State.modArb_chains (f) : (s.modArb f).chains = s.chains := rfl
@[simp] theorem State.modArb_trigs (f) : (s.modArb f).trigs = s.trigs := rfl
@[simp] theorem State.modArb_sessions (f) : (s.modArb f).sessions = s.sessions := rfl
@[simp] theorem State.modArb_net (f) : (s.modArb f).net = s.net := rfl
@[simp] theorem State.modArb_time (f) : (s.modArb f).time = s.time := rfl
@[simp] theorem State.modArb_pair (f) : (s.modArb f).pair = s.pair := rfl
@[simp] theorem State.modArb_saf (f) : (s.modArb f).saf = s.saf := rfl
@[simp] theorem State.modArb_arb (f) : (s.modArb f).arb = f s.arb := rfl
@[simp] theorem State.modArb_weirs (f) : (s.modArb f).weirs = s.weirs := rfl
@[simp] theorem State.modArb_events (f) : (s.modArb f).events = s.events := rfl
@[simp] theorem State.modArb_mrP (f) : (s.modArb f).mrP = s.mrP := rfl
@[simp] theorem State.modArb_mrC (f) : (s.modArb f).mrC = s.mrC := rfl
@[simp] theorem State.modArb_linkUp (f) : (s.modArb f).linkUp = s.linkUp := rfl
@[simp] theorem State.modArb_lane0 (f) : (s.modArb f).lane0 = s.lane0 := rfl
@[simp] theorem State.modArb_lane1 (f) : (s.modArb f).lane1 = s.lane1 := rfl
@[simp] theorem State.modArb_failCnt (f) : (s.modArb f).failCnt = s.failCnt := rfl
@[simp] theorem State.modArb_replayCnt (f) : (s.modArb f).replayCnt = s.replayCnt := rfl
@[simp] theorem State.modArb_memCorr (f) : (s.modArb f).memCorr = s.memCorr := rfl
@[simp] theorem State.modArb_memUncorr (f) : (s.modArb f).memUncorr = s.memUncorr := rfl
@[simp] theorem State.modArb_jrnlCorr (f) : (s.modArb f).jrnlCorr = s.jrnlCorr := rfl
@[simp] theorem State.modArb_jrnlUncorr (f) : (s.modArb f).jrnlUncorr = s.jrnlUncorr := rfl
@[simp] theorem State.modArb_drive (f) : (s.modArb f).drive = s.drive := rfl
@[simp] theorem State.modArb_cdrvOff (f) : (s.modArb f).cdrvOff = s.cdrvOff := rfl
@[simp] theorem State.modArb_dbgBlock (f) : (s.modArb f).dbgBlock = s.dbgBlock := rfl

@[simp] theorem State.modEvents_pending (f) : (s.modEvents f).pending = s.pending := rfl
@[simp] theorem State.modEvents_now (f) : (s.modEvents f).now = s.now := rfl
@[simp] theorem State.modEvents_free (f) : (s.modEvents f).free = s.free := rfl
@[simp] theorem State.modEvents_regs (f) : (s.modEvents f).regs = s.regs := rfl
@[simp] theorem State.modEvents_sealRecord (f) : (s.modEvents f).sealRecord = s.sealRecord := rfl
@[simp] theorem State.modEvents_mem (f) : (s.modEvents f).mem = s.mem := rfl
@[simp] theorem State.modEvents_memErr (f) : (s.modEvents f).memErr = s.memErr := rfl
@[simp] theorem State.modEvents_initLines (f) : (s.modEvents f).initLines = s.initLines := rfl
@[simp] theorem State.modEvents_power (f) : (s.modEvents f).power = s.power := rfl
@[simp] theorem State.modEvents_host (f) : (s.modEvents f).host = s.host := rfl
@[simp] theorem State.modEvents_rings (f) : (s.modEvents f).rings = s.rings := rfl
@[simp] theorem State.modEvents_loop (f) : (s.modEvents f).loop = s.loop := rfl
@[simp] theorem State.modEvents_regions (f) : (s.modEvents f).regions = s.regions := rfl
@[simp] theorem State.modEvents_islands (f) : (s.modEvents f).islands = s.islands := rfl
@[simp] theorem State.modEvents_units (f) : (s.modEvents f).units = s.units := rfl
@[simp] theorem State.modEvents_tripActive (f) : (s.modEvents f).tripActive = s.tripActive := rfl
@[simp] theorem State.modEvents_dutyIn (f) : (s.modEvents f).dutyIn = s.dutyIn := rfl
@[simp] theorem State.modEvents_banks (f) : (s.modEvents f).banks = s.banks := rfl
@[simp] theorem State.modEvents_channels (f) : (s.modEvents f).channels = s.channels := rfl
@[simp] theorem State.modEvents_chains (f) : (s.modEvents f).chains = s.chains := rfl
@[simp] theorem State.modEvents_trigs (f) : (s.modEvents f).trigs = s.trigs := rfl
@[simp] theorem State.modEvents_sessions (f) : (s.modEvents f).sessions = s.sessions := rfl
@[simp] theorem State.modEvents_net (f) : (s.modEvents f).net = s.net := rfl
@[simp] theorem State.modEvents_time (f) : (s.modEvents f).time = s.time := rfl
@[simp] theorem State.modEvents_pair (f) : (s.modEvents f).pair = s.pair := rfl
@[simp] theorem State.modEvents_saf (f) : (s.modEvents f).saf = s.saf := rfl
@[simp] theorem State.modEvents_arb (f) : (s.modEvents f).arb = s.arb := rfl
@[simp] theorem State.modEvents_weirs (f) : (s.modEvents f).weirs = s.weirs := rfl
@[simp] theorem State.modEvents_events (f) : (s.modEvents f).events = f s.events := rfl
@[simp] theorem State.modEvents_mrP (f) : (s.modEvents f).mrP = s.mrP := rfl
@[simp] theorem State.modEvents_mrC (f) : (s.modEvents f).mrC = s.mrC := rfl
@[simp] theorem State.modEvents_linkUp (f) : (s.modEvents f).linkUp = s.linkUp := rfl
@[simp] theorem State.modEvents_lane0 (f) : (s.modEvents f).lane0 = s.lane0 := rfl
@[simp] theorem State.modEvents_lane1 (f) : (s.modEvents f).lane1 = s.lane1 := rfl
@[simp] theorem State.modEvents_failCnt (f) : (s.modEvents f).failCnt = s.failCnt := rfl
@[simp] theorem State.modEvents_replayCnt (f) : (s.modEvents f).replayCnt = s.replayCnt := rfl
@[simp] theorem State.modEvents_memCorr (f) : (s.modEvents f).memCorr = s.memCorr := rfl
@[simp] theorem State.modEvents_memUncorr (f) : (s.modEvents f).memUncorr = s.memUncorr := rfl
@[simp] theorem State.modEvents_jrnlCorr (f) : (s.modEvents f).jrnlCorr = s.jrnlCorr := rfl
@[simp] theorem State.modEvents_jrnlUncorr (f) : (s.modEvents f).jrnlUncorr = s.jrnlUncorr := rfl
@[simp] theorem State.modEvents_drive (f) : (s.modEvents f).drive = s.drive := rfl
@[simp] theorem State.modEvents_cdrvOff (f) : (s.modEvents f).cdrvOff = s.cdrvOff := rfl
@[simp] theorem State.modEvents_dbgBlock (f) : (s.modEvents f).dbgBlock = s.dbgBlock := rfl

@[simp] theorem State.modRegion_pending (i) (f): (s.modRegion i f).pending = s.pending := rfl
@[simp] theorem State.modRegion_now (i) (f): (s.modRegion i f).now = s.now := rfl
@[simp] theorem State.modRegion_free (i) (f): (s.modRegion i f).free = s.free := rfl
@[simp] theorem State.modRegion_regs (i) (f): (s.modRegion i f).regs = s.regs := rfl
@[simp] theorem State.modRegion_sealRecord (i) (f): (s.modRegion i f).sealRecord = s.sealRecord := rfl
@[simp] theorem State.modRegion_mem (i) (f): (s.modRegion i f).mem = s.mem := rfl
@[simp] theorem State.modRegion_memErr (i) (f): (s.modRegion i f).memErr = s.memErr := rfl
@[simp] theorem State.modRegion_initLines (i) (f): (s.modRegion i f).initLines = s.initLines := rfl
@[simp] theorem State.modRegion_power (i) (f): (s.modRegion i f).power = s.power := rfl
@[simp] theorem State.modRegion_host (i) (f): (s.modRegion i f).host = s.host := rfl
@[simp] theorem State.modRegion_rings (i) (f): (s.modRegion i f).rings = s.rings := rfl
@[simp] theorem State.modRegion_loop (i) (f): (s.modRegion i f).loop = s.loop := rfl
@[simp] theorem State.modRegion_regions (i) (f): (s.modRegion i f).regions = upd s.regions i f := rfl
@[simp] theorem State.modRegion_islands (i) (f): (s.modRegion i f).islands = s.islands := rfl
@[simp] theorem State.modRegion_units (i) (f): (s.modRegion i f).units = s.units := rfl
@[simp] theorem State.modRegion_tripActive (i) (f): (s.modRegion i f).tripActive = s.tripActive := rfl
@[simp] theorem State.modRegion_dutyIn (i) (f): (s.modRegion i f).dutyIn = s.dutyIn := rfl
@[simp] theorem State.modRegion_banks (i) (f): (s.modRegion i f).banks = s.banks := rfl
@[simp] theorem State.modRegion_channels (i) (f): (s.modRegion i f).channels = s.channels := rfl
@[simp] theorem State.modRegion_chains (i) (f): (s.modRegion i f).chains = s.chains := rfl
@[simp] theorem State.modRegion_trigs (i) (f): (s.modRegion i f).trigs = s.trigs := rfl
@[simp] theorem State.modRegion_sessions (i) (f): (s.modRegion i f).sessions = s.sessions := rfl
@[simp] theorem State.modRegion_net (i) (f): (s.modRegion i f).net = s.net := rfl
@[simp] theorem State.modRegion_time (i) (f): (s.modRegion i f).time = s.time := rfl
@[simp] theorem State.modRegion_pair (i) (f): (s.modRegion i f).pair = s.pair := rfl
@[simp] theorem State.modRegion_saf (i) (f): (s.modRegion i f).saf = s.saf := rfl
@[simp] theorem State.modRegion_arb (i) (f): (s.modRegion i f).arb = s.arb := rfl
@[simp] theorem State.modRegion_weirs (i) (f): (s.modRegion i f).weirs = s.weirs := rfl
@[simp] theorem State.modRegion_events (i) (f): (s.modRegion i f).events = s.events := rfl
@[simp] theorem State.modRegion_mrP (i) (f): (s.modRegion i f).mrP = s.mrP := rfl
@[simp] theorem State.modRegion_mrC (i) (f): (s.modRegion i f).mrC = s.mrC := rfl
@[simp] theorem State.modRegion_linkUp (i) (f): (s.modRegion i f).linkUp = s.linkUp := rfl
@[simp] theorem State.modRegion_lane0 (i) (f): (s.modRegion i f).lane0 = s.lane0 := rfl
@[simp] theorem State.modRegion_lane1 (i) (f): (s.modRegion i f).lane1 = s.lane1 := rfl
@[simp] theorem State.modRegion_failCnt (i) (f): (s.modRegion i f).failCnt = s.failCnt := rfl
@[simp] theorem State.modRegion_replayCnt (i) (f): (s.modRegion i f).replayCnt = s.replayCnt := rfl
@[simp] theorem State.modRegion_memCorr (i) (f): (s.modRegion i f).memCorr = s.memCorr := rfl
@[simp] theorem State.modRegion_memUncorr (i) (f): (s.modRegion i f).memUncorr = s.memUncorr := rfl
@[simp] theorem State.modRegion_jrnlCorr (i) (f): (s.modRegion i f).jrnlCorr = s.jrnlCorr := rfl
@[simp] theorem State.modRegion_jrnlUncorr (i) (f): (s.modRegion i f).jrnlUncorr = s.jrnlUncorr := rfl
@[simp] theorem State.modRegion_drive (i) (f): (s.modRegion i f).drive = s.drive := rfl
@[simp] theorem State.modRegion_cdrvOff (i) (f): (s.modRegion i f).cdrvOff = s.cdrvOff := rfl
@[simp] theorem State.modRegion_dbgBlock (i) (f): (s.modRegion i f).dbgBlock = s.dbgBlock := rfl

@[simp] theorem State.modIsland_pending (i) (f): (s.modIsland i f).pending = s.pending := rfl
@[simp] theorem State.modIsland_now (i) (f): (s.modIsland i f).now = s.now := rfl
@[simp] theorem State.modIsland_free (i) (f): (s.modIsland i f).free = s.free := rfl
@[simp] theorem State.modIsland_regs (i) (f): (s.modIsland i f).regs = s.regs := rfl
@[simp] theorem State.modIsland_sealRecord (i) (f): (s.modIsland i f).sealRecord = s.sealRecord := rfl
@[simp] theorem State.modIsland_mem (i) (f): (s.modIsland i f).mem = s.mem := rfl
@[simp] theorem State.modIsland_memErr (i) (f): (s.modIsland i f).memErr = s.memErr := rfl
@[simp] theorem State.modIsland_initLines (i) (f): (s.modIsland i f).initLines = s.initLines := rfl
@[simp] theorem State.modIsland_power (i) (f): (s.modIsland i f).power = s.power := rfl
@[simp] theorem State.modIsland_host (i) (f): (s.modIsland i f).host = s.host := rfl
@[simp] theorem State.modIsland_rings (i) (f): (s.modIsland i f).rings = s.rings := rfl
@[simp] theorem State.modIsland_loop (i) (f): (s.modIsland i f).loop = s.loop := rfl
@[simp] theorem State.modIsland_regions (i) (f): (s.modIsland i f).regions = s.regions := rfl
@[simp] theorem State.modIsland_islands (i) (f): (s.modIsland i f).islands = upd s.islands i f := rfl
@[simp] theorem State.modIsland_units (i) (f): (s.modIsland i f).units = s.units := rfl
@[simp] theorem State.modIsland_tripActive (i) (f): (s.modIsland i f).tripActive = s.tripActive := rfl
@[simp] theorem State.modIsland_dutyIn (i) (f): (s.modIsland i f).dutyIn = s.dutyIn := rfl
@[simp] theorem State.modIsland_banks (i) (f): (s.modIsland i f).banks = s.banks := rfl
@[simp] theorem State.modIsland_channels (i) (f): (s.modIsland i f).channels = s.channels := rfl
@[simp] theorem State.modIsland_chains (i) (f): (s.modIsland i f).chains = s.chains := rfl
@[simp] theorem State.modIsland_trigs (i) (f): (s.modIsland i f).trigs = s.trigs := rfl
@[simp] theorem State.modIsland_sessions (i) (f): (s.modIsland i f).sessions = s.sessions := rfl
@[simp] theorem State.modIsland_net (i) (f): (s.modIsland i f).net = s.net := rfl
@[simp] theorem State.modIsland_time (i) (f): (s.modIsland i f).time = s.time := rfl
@[simp] theorem State.modIsland_pair (i) (f): (s.modIsland i f).pair = s.pair := rfl
@[simp] theorem State.modIsland_saf (i) (f): (s.modIsland i f).saf = s.saf := rfl
@[simp] theorem State.modIsland_arb (i) (f): (s.modIsland i f).arb = s.arb := rfl
@[simp] theorem State.modIsland_weirs (i) (f): (s.modIsland i f).weirs = s.weirs := rfl
@[simp] theorem State.modIsland_events (i) (f): (s.modIsland i f).events = s.events := rfl
@[simp] theorem State.modIsland_mrP (i) (f): (s.modIsland i f).mrP = s.mrP := rfl
@[simp] theorem State.modIsland_mrC (i) (f): (s.modIsland i f).mrC = s.mrC := rfl
@[simp] theorem State.modIsland_linkUp (i) (f): (s.modIsland i f).linkUp = s.linkUp := rfl
@[simp] theorem State.modIsland_lane0 (i) (f): (s.modIsland i f).lane0 = s.lane0 := rfl
@[simp] theorem State.modIsland_lane1 (i) (f): (s.modIsland i f).lane1 = s.lane1 := rfl
@[simp] theorem State.modIsland_failCnt (i) (f): (s.modIsland i f).failCnt = s.failCnt := rfl
@[simp] theorem State.modIsland_replayCnt (i) (f): (s.modIsland i f).replayCnt = s.replayCnt := rfl
@[simp] theorem State.modIsland_memCorr (i) (f): (s.modIsland i f).memCorr = s.memCorr := rfl
@[simp] theorem State.modIsland_memUncorr (i) (f): (s.modIsland i f).memUncorr = s.memUncorr := rfl
@[simp] theorem State.modIsland_jrnlCorr (i) (f): (s.modIsland i f).jrnlCorr = s.jrnlCorr := rfl
@[simp] theorem State.modIsland_jrnlUncorr (i) (f): (s.modIsland i f).jrnlUncorr = s.jrnlUncorr := rfl
@[simp] theorem State.modIsland_drive (i) (f): (s.modIsland i f).drive = s.drive := rfl
@[simp] theorem State.modIsland_cdrvOff (i) (f): (s.modIsland i f).cdrvOff = s.cdrvOff := rfl
@[simp] theorem State.modIsland_dbgBlock (i) (f): (s.modIsland i f).dbgBlock = s.dbgBlock := rfl

@[simp] theorem State.modUnit_pending (i) (f): (s.modUnit i f).pending = s.pending := rfl
@[simp] theorem State.modUnit_now (i) (f): (s.modUnit i f).now = s.now := rfl
@[simp] theorem State.modUnit_free (i) (f): (s.modUnit i f).free = s.free := rfl
@[simp] theorem State.modUnit_regs (i) (f): (s.modUnit i f).regs = s.regs := rfl
@[simp] theorem State.modUnit_sealRecord (i) (f): (s.modUnit i f).sealRecord = s.sealRecord := rfl
@[simp] theorem State.modUnit_mem (i) (f): (s.modUnit i f).mem = s.mem := rfl
@[simp] theorem State.modUnit_memErr (i) (f): (s.modUnit i f).memErr = s.memErr := rfl
@[simp] theorem State.modUnit_initLines (i) (f): (s.modUnit i f).initLines = s.initLines := rfl
@[simp] theorem State.modUnit_power (i) (f): (s.modUnit i f).power = s.power := rfl
@[simp] theorem State.modUnit_host (i) (f): (s.modUnit i f).host = s.host := rfl
@[simp] theorem State.modUnit_rings (i) (f): (s.modUnit i f).rings = s.rings := rfl
@[simp] theorem State.modUnit_loop (i) (f): (s.modUnit i f).loop = s.loop := rfl
@[simp] theorem State.modUnit_regions (i) (f): (s.modUnit i f).regions = s.regions := rfl
@[simp] theorem State.modUnit_islands (i) (f): (s.modUnit i f).islands = s.islands := rfl
@[simp] theorem State.modUnit_units (i) (f): (s.modUnit i f).units = upd s.units i f := rfl
@[simp] theorem State.modUnit_tripActive (i) (f): (s.modUnit i f).tripActive = s.tripActive := rfl
@[simp] theorem State.modUnit_dutyIn (i) (f): (s.modUnit i f).dutyIn = s.dutyIn := rfl
@[simp] theorem State.modUnit_banks (i) (f): (s.modUnit i f).banks = s.banks := rfl
@[simp] theorem State.modUnit_channels (i) (f): (s.modUnit i f).channels = s.channels := rfl
@[simp] theorem State.modUnit_chains (i) (f): (s.modUnit i f).chains = s.chains := rfl
@[simp] theorem State.modUnit_trigs (i) (f): (s.modUnit i f).trigs = s.trigs := rfl
@[simp] theorem State.modUnit_sessions (i) (f): (s.modUnit i f).sessions = s.sessions := rfl
@[simp] theorem State.modUnit_net (i) (f): (s.modUnit i f).net = s.net := rfl
@[simp] theorem State.modUnit_time (i) (f): (s.modUnit i f).time = s.time := rfl
@[simp] theorem State.modUnit_pair (i) (f): (s.modUnit i f).pair = s.pair := rfl
@[simp] theorem State.modUnit_saf (i) (f): (s.modUnit i f).saf = s.saf := rfl
@[simp] theorem State.modUnit_arb (i) (f): (s.modUnit i f).arb = s.arb := rfl
@[simp] theorem State.modUnit_weirs (i) (f): (s.modUnit i f).weirs = s.weirs := rfl
@[simp] theorem State.modUnit_events (i) (f): (s.modUnit i f).events = s.events := rfl
@[simp] theorem State.modUnit_mrP (i) (f): (s.modUnit i f).mrP = s.mrP := rfl
@[simp] theorem State.modUnit_mrC (i) (f): (s.modUnit i f).mrC = s.mrC := rfl
@[simp] theorem State.modUnit_linkUp (i) (f): (s.modUnit i f).linkUp = s.linkUp := rfl
@[simp] theorem State.modUnit_lane0 (i) (f): (s.modUnit i f).lane0 = s.lane0 := rfl
@[simp] theorem State.modUnit_lane1 (i) (f): (s.modUnit i f).lane1 = s.lane1 := rfl
@[simp] theorem State.modUnit_failCnt (i) (f): (s.modUnit i f).failCnt = s.failCnt := rfl
@[simp] theorem State.modUnit_replayCnt (i) (f): (s.modUnit i f).replayCnt = s.replayCnt := rfl
@[simp] theorem State.modUnit_memCorr (i) (f): (s.modUnit i f).memCorr = s.memCorr := rfl
@[simp] theorem State.modUnit_memUncorr (i) (f): (s.modUnit i f).memUncorr = s.memUncorr := rfl
@[simp] theorem State.modUnit_jrnlCorr (i) (f): (s.modUnit i f).jrnlCorr = s.jrnlCorr := rfl
@[simp] theorem State.modUnit_jrnlUncorr (i) (f): (s.modUnit i f).jrnlUncorr = s.jrnlUncorr := rfl
@[simp] theorem State.modUnit_drive (i) (f): (s.modUnit i f).drive = s.drive := rfl
@[simp] theorem State.modUnit_cdrvOff (i) (f): (s.modUnit i f).cdrvOff = s.cdrvOff := rfl
@[simp] theorem State.modUnit_dbgBlock (i) (f): (s.modUnit i f).dbgBlock = s.dbgBlock := rfl

@[simp] theorem State.modBank_pending (i) (f): (s.modBank i f).pending = s.pending := rfl
@[simp] theorem State.modBank_now (i) (f): (s.modBank i f).now = s.now := rfl
@[simp] theorem State.modBank_free (i) (f): (s.modBank i f).free = s.free := rfl
@[simp] theorem State.modBank_regs (i) (f): (s.modBank i f).regs = s.regs := rfl
@[simp] theorem State.modBank_sealRecord (i) (f): (s.modBank i f).sealRecord = s.sealRecord := rfl
@[simp] theorem State.modBank_mem (i) (f): (s.modBank i f).mem = s.mem := rfl
@[simp] theorem State.modBank_memErr (i) (f): (s.modBank i f).memErr = s.memErr := rfl
@[simp] theorem State.modBank_initLines (i) (f): (s.modBank i f).initLines = s.initLines := rfl
@[simp] theorem State.modBank_power (i) (f): (s.modBank i f).power = s.power := rfl
@[simp] theorem State.modBank_host (i) (f): (s.modBank i f).host = s.host := rfl
@[simp] theorem State.modBank_rings (i) (f): (s.modBank i f).rings = s.rings := rfl
@[simp] theorem State.modBank_loop (i) (f): (s.modBank i f).loop = s.loop := rfl
@[simp] theorem State.modBank_regions (i) (f): (s.modBank i f).regions = s.regions := rfl
@[simp] theorem State.modBank_islands (i) (f): (s.modBank i f).islands = s.islands := rfl
@[simp] theorem State.modBank_units (i) (f): (s.modBank i f).units = s.units := rfl
@[simp] theorem State.modBank_tripActive (i) (f): (s.modBank i f).tripActive = s.tripActive := rfl
@[simp] theorem State.modBank_dutyIn (i) (f): (s.modBank i f).dutyIn = s.dutyIn := rfl
@[simp] theorem State.modBank_banks (i) (f): (s.modBank i f).banks = upd s.banks i f := rfl
@[simp] theorem State.modBank_channels (i) (f): (s.modBank i f).channels = s.channels := rfl
@[simp] theorem State.modBank_chains (i) (f): (s.modBank i f).chains = s.chains := rfl
@[simp] theorem State.modBank_trigs (i) (f): (s.modBank i f).trigs = s.trigs := rfl
@[simp] theorem State.modBank_sessions (i) (f): (s.modBank i f).sessions = s.sessions := rfl
@[simp] theorem State.modBank_net (i) (f): (s.modBank i f).net = s.net := rfl
@[simp] theorem State.modBank_time (i) (f): (s.modBank i f).time = s.time := rfl
@[simp] theorem State.modBank_pair (i) (f): (s.modBank i f).pair = s.pair := rfl
@[simp] theorem State.modBank_saf (i) (f): (s.modBank i f).saf = s.saf := rfl
@[simp] theorem State.modBank_arb (i) (f): (s.modBank i f).arb = s.arb := rfl
@[simp] theorem State.modBank_weirs (i) (f): (s.modBank i f).weirs = s.weirs := rfl
@[simp] theorem State.modBank_events (i) (f): (s.modBank i f).events = s.events := rfl
@[simp] theorem State.modBank_mrP (i) (f): (s.modBank i f).mrP = s.mrP := rfl
@[simp] theorem State.modBank_mrC (i) (f): (s.modBank i f).mrC = s.mrC := rfl
@[simp] theorem State.modBank_linkUp (i) (f): (s.modBank i f).linkUp = s.linkUp := rfl
@[simp] theorem State.modBank_lane0 (i) (f): (s.modBank i f).lane0 = s.lane0 := rfl
@[simp] theorem State.modBank_lane1 (i) (f): (s.modBank i f).lane1 = s.lane1 := rfl
@[simp] theorem State.modBank_failCnt (i) (f): (s.modBank i f).failCnt = s.failCnt := rfl
@[simp] theorem State.modBank_replayCnt (i) (f): (s.modBank i f).replayCnt = s.replayCnt := rfl
@[simp] theorem State.modBank_memCorr (i) (f): (s.modBank i f).memCorr = s.memCorr := rfl
@[simp] theorem State.modBank_memUncorr (i) (f): (s.modBank i f).memUncorr = s.memUncorr := rfl
@[simp] theorem State.modBank_jrnlCorr (i) (f): (s.modBank i f).jrnlCorr = s.jrnlCorr := rfl
@[simp] theorem State.modBank_jrnlUncorr (i) (f): (s.modBank i f).jrnlUncorr = s.jrnlUncorr := rfl
@[simp] theorem State.modBank_drive (i) (f): (s.modBank i f).drive = s.drive := rfl
@[simp] theorem State.modBank_cdrvOff (i) (f): (s.modBank i f).cdrvOff = s.cdrvOff := rfl
@[simp] theorem State.modBank_dbgBlock (i) (f): (s.modBank i f).dbgBlock = s.dbgBlock := rfl

@[simp] theorem State.modChan_pending (i) (f): (s.modChan i f).pending = s.pending := rfl
@[simp] theorem State.modChan_now (i) (f): (s.modChan i f).now = s.now := rfl
@[simp] theorem State.modChan_free (i) (f): (s.modChan i f).free = s.free := rfl
@[simp] theorem State.modChan_regs (i) (f): (s.modChan i f).regs = s.regs := rfl
@[simp] theorem State.modChan_sealRecord (i) (f): (s.modChan i f).sealRecord = s.sealRecord := rfl
@[simp] theorem State.modChan_mem (i) (f): (s.modChan i f).mem = s.mem := rfl
@[simp] theorem State.modChan_memErr (i) (f): (s.modChan i f).memErr = s.memErr := rfl
@[simp] theorem State.modChan_initLines (i) (f): (s.modChan i f).initLines = s.initLines := rfl
@[simp] theorem State.modChan_power (i) (f): (s.modChan i f).power = s.power := rfl
@[simp] theorem State.modChan_host (i) (f): (s.modChan i f).host = s.host := rfl
@[simp] theorem State.modChan_rings (i) (f): (s.modChan i f).rings = s.rings := rfl
@[simp] theorem State.modChan_loop (i) (f): (s.modChan i f).loop = s.loop := rfl
@[simp] theorem State.modChan_regions (i) (f): (s.modChan i f).regions = s.regions := rfl
@[simp] theorem State.modChan_islands (i) (f): (s.modChan i f).islands = s.islands := rfl
@[simp] theorem State.modChan_units (i) (f): (s.modChan i f).units = s.units := rfl
@[simp] theorem State.modChan_tripActive (i) (f): (s.modChan i f).tripActive = s.tripActive := rfl
@[simp] theorem State.modChan_dutyIn (i) (f): (s.modChan i f).dutyIn = s.dutyIn := rfl
@[simp] theorem State.modChan_banks (i) (f): (s.modChan i f).banks = s.banks := rfl
@[simp] theorem State.modChan_channels (i) (f): (s.modChan i f).channels = upd s.channels i f := rfl
@[simp] theorem State.modChan_chains (i) (f): (s.modChan i f).chains = s.chains := rfl
@[simp] theorem State.modChan_trigs (i) (f): (s.modChan i f).trigs = s.trigs := rfl
@[simp] theorem State.modChan_sessions (i) (f): (s.modChan i f).sessions = s.sessions := rfl
@[simp] theorem State.modChan_net (i) (f): (s.modChan i f).net = s.net := rfl
@[simp] theorem State.modChan_time (i) (f): (s.modChan i f).time = s.time := rfl
@[simp] theorem State.modChan_pair (i) (f): (s.modChan i f).pair = s.pair := rfl
@[simp] theorem State.modChan_saf (i) (f): (s.modChan i f).saf = s.saf := rfl
@[simp] theorem State.modChan_arb (i) (f): (s.modChan i f).arb = s.arb := rfl
@[simp] theorem State.modChan_weirs (i) (f): (s.modChan i f).weirs = s.weirs := rfl
@[simp] theorem State.modChan_events (i) (f): (s.modChan i f).events = s.events := rfl
@[simp] theorem State.modChan_mrP (i) (f): (s.modChan i f).mrP = s.mrP := rfl
@[simp] theorem State.modChan_mrC (i) (f): (s.modChan i f).mrC = s.mrC := rfl
@[simp] theorem State.modChan_linkUp (i) (f): (s.modChan i f).linkUp = s.linkUp := rfl
@[simp] theorem State.modChan_lane0 (i) (f): (s.modChan i f).lane0 = s.lane0 := rfl
@[simp] theorem State.modChan_lane1 (i) (f): (s.modChan i f).lane1 = s.lane1 := rfl
@[simp] theorem State.modChan_failCnt (i) (f): (s.modChan i f).failCnt = s.failCnt := rfl
@[simp] theorem State.modChan_replayCnt (i) (f): (s.modChan i f).replayCnt = s.replayCnt := rfl
@[simp] theorem State.modChan_memCorr (i) (f): (s.modChan i f).memCorr = s.memCorr := rfl
@[simp] theorem State.modChan_memUncorr (i) (f): (s.modChan i f).memUncorr = s.memUncorr := rfl
@[simp] theorem State.modChan_jrnlCorr (i) (f): (s.modChan i f).jrnlCorr = s.jrnlCorr := rfl
@[simp] theorem State.modChan_jrnlUncorr (i) (f): (s.modChan i f).jrnlUncorr = s.jrnlUncorr := rfl
@[simp] theorem State.modChan_drive (i) (f): (s.modChan i f).drive = s.drive := rfl
@[simp] theorem State.modChan_cdrvOff (i) (f): (s.modChan i f).cdrvOff = s.cdrvOff := rfl
@[simp] theorem State.modChan_dbgBlock (i) (f): (s.modChan i f).dbgBlock = s.dbgBlock := rfl

@[simp] theorem State.modChain_pending (i) (f): (s.modChain i f).pending = s.pending := rfl
@[simp] theorem State.modChain_now (i) (f): (s.modChain i f).now = s.now := rfl
@[simp] theorem State.modChain_free (i) (f): (s.modChain i f).free = s.free := rfl
@[simp] theorem State.modChain_regs (i) (f): (s.modChain i f).regs = s.regs := rfl
@[simp] theorem State.modChain_sealRecord (i) (f): (s.modChain i f).sealRecord = s.sealRecord := rfl
@[simp] theorem State.modChain_mem (i) (f): (s.modChain i f).mem = s.mem := rfl
@[simp] theorem State.modChain_memErr (i) (f): (s.modChain i f).memErr = s.memErr := rfl
@[simp] theorem State.modChain_initLines (i) (f): (s.modChain i f).initLines = s.initLines := rfl
@[simp] theorem State.modChain_power (i) (f): (s.modChain i f).power = s.power := rfl
@[simp] theorem State.modChain_host (i) (f): (s.modChain i f).host = s.host := rfl
@[simp] theorem State.modChain_rings (i) (f): (s.modChain i f).rings = s.rings := rfl
@[simp] theorem State.modChain_loop (i) (f): (s.modChain i f).loop = s.loop := rfl
@[simp] theorem State.modChain_regions (i) (f): (s.modChain i f).regions = s.regions := rfl
@[simp] theorem State.modChain_islands (i) (f): (s.modChain i f).islands = s.islands := rfl
@[simp] theorem State.modChain_units (i) (f): (s.modChain i f).units = s.units := rfl
@[simp] theorem State.modChain_tripActive (i) (f): (s.modChain i f).tripActive = s.tripActive := rfl
@[simp] theorem State.modChain_dutyIn (i) (f): (s.modChain i f).dutyIn = s.dutyIn := rfl
@[simp] theorem State.modChain_banks (i) (f): (s.modChain i f).banks = s.banks := rfl
@[simp] theorem State.modChain_channels (i) (f): (s.modChain i f).channels = s.channels := rfl
@[simp] theorem State.modChain_chains (i) (f): (s.modChain i f).chains = upd s.chains i f := rfl
@[simp] theorem State.modChain_trigs (i) (f): (s.modChain i f).trigs = s.trigs := rfl
@[simp] theorem State.modChain_sessions (i) (f): (s.modChain i f).sessions = s.sessions := rfl
@[simp] theorem State.modChain_net (i) (f): (s.modChain i f).net = s.net := rfl
@[simp] theorem State.modChain_time (i) (f): (s.modChain i f).time = s.time := rfl
@[simp] theorem State.modChain_pair (i) (f): (s.modChain i f).pair = s.pair := rfl
@[simp] theorem State.modChain_saf (i) (f): (s.modChain i f).saf = s.saf := rfl
@[simp] theorem State.modChain_arb (i) (f): (s.modChain i f).arb = s.arb := rfl
@[simp] theorem State.modChain_weirs (i) (f): (s.modChain i f).weirs = s.weirs := rfl
@[simp] theorem State.modChain_events (i) (f): (s.modChain i f).events = s.events := rfl
@[simp] theorem State.modChain_mrP (i) (f): (s.modChain i f).mrP = s.mrP := rfl
@[simp] theorem State.modChain_mrC (i) (f): (s.modChain i f).mrC = s.mrC := rfl
@[simp] theorem State.modChain_linkUp (i) (f): (s.modChain i f).linkUp = s.linkUp := rfl
@[simp] theorem State.modChain_lane0 (i) (f): (s.modChain i f).lane0 = s.lane0 := rfl
@[simp] theorem State.modChain_lane1 (i) (f): (s.modChain i f).lane1 = s.lane1 := rfl
@[simp] theorem State.modChain_failCnt (i) (f): (s.modChain i f).failCnt = s.failCnt := rfl
@[simp] theorem State.modChain_replayCnt (i) (f): (s.modChain i f).replayCnt = s.replayCnt := rfl
@[simp] theorem State.modChain_memCorr (i) (f): (s.modChain i f).memCorr = s.memCorr := rfl
@[simp] theorem State.modChain_memUncorr (i) (f): (s.modChain i f).memUncorr = s.memUncorr := rfl
@[simp] theorem State.modChain_jrnlCorr (i) (f): (s.modChain i f).jrnlCorr = s.jrnlCorr := rfl
@[simp] theorem State.modChain_jrnlUncorr (i) (f): (s.modChain i f).jrnlUncorr = s.jrnlUncorr := rfl
@[simp] theorem State.modChain_drive (i) (f): (s.modChain i f).drive = s.drive := rfl
@[simp] theorem State.modChain_cdrvOff (i) (f): (s.modChain i f).cdrvOff = s.cdrvOff := rfl
@[simp] theorem State.modChain_dbgBlock (i) (f): (s.modChain i f).dbgBlock = s.dbgBlock := rfl

@[simp] theorem State.modTrig_pending (i) (f): (s.modTrig i f).pending = s.pending := rfl
@[simp] theorem State.modTrig_now (i) (f): (s.modTrig i f).now = s.now := rfl
@[simp] theorem State.modTrig_free (i) (f): (s.modTrig i f).free = s.free := rfl
@[simp] theorem State.modTrig_regs (i) (f): (s.modTrig i f).regs = s.regs := rfl
@[simp] theorem State.modTrig_sealRecord (i) (f): (s.modTrig i f).sealRecord = s.sealRecord := rfl
@[simp] theorem State.modTrig_mem (i) (f): (s.modTrig i f).mem = s.mem := rfl
@[simp] theorem State.modTrig_memErr (i) (f): (s.modTrig i f).memErr = s.memErr := rfl
@[simp] theorem State.modTrig_initLines (i) (f): (s.modTrig i f).initLines = s.initLines := rfl
@[simp] theorem State.modTrig_power (i) (f): (s.modTrig i f).power = s.power := rfl
@[simp] theorem State.modTrig_host (i) (f): (s.modTrig i f).host = s.host := rfl
@[simp] theorem State.modTrig_rings (i) (f): (s.modTrig i f).rings = s.rings := rfl
@[simp] theorem State.modTrig_loop (i) (f): (s.modTrig i f).loop = s.loop := rfl
@[simp] theorem State.modTrig_regions (i) (f): (s.modTrig i f).regions = s.regions := rfl
@[simp] theorem State.modTrig_islands (i) (f): (s.modTrig i f).islands = s.islands := rfl
@[simp] theorem State.modTrig_units (i) (f): (s.modTrig i f).units = s.units := rfl
@[simp] theorem State.modTrig_tripActive (i) (f): (s.modTrig i f).tripActive = s.tripActive := rfl
@[simp] theorem State.modTrig_dutyIn (i) (f): (s.modTrig i f).dutyIn = s.dutyIn := rfl
@[simp] theorem State.modTrig_banks (i) (f): (s.modTrig i f).banks = s.banks := rfl
@[simp] theorem State.modTrig_channels (i) (f): (s.modTrig i f).channels = s.channels := rfl
@[simp] theorem State.modTrig_chains (i) (f): (s.modTrig i f).chains = s.chains := rfl
@[simp] theorem State.modTrig_trigs (i) (f): (s.modTrig i f).trigs = upd s.trigs i f := rfl
@[simp] theorem State.modTrig_sessions (i) (f): (s.modTrig i f).sessions = s.sessions := rfl
@[simp] theorem State.modTrig_net (i) (f): (s.modTrig i f).net = s.net := rfl
@[simp] theorem State.modTrig_time (i) (f): (s.modTrig i f).time = s.time := rfl
@[simp] theorem State.modTrig_pair (i) (f): (s.modTrig i f).pair = s.pair := rfl
@[simp] theorem State.modTrig_saf (i) (f): (s.modTrig i f).saf = s.saf := rfl
@[simp] theorem State.modTrig_arb (i) (f): (s.modTrig i f).arb = s.arb := rfl
@[simp] theorem State.modTrig_weirs (i) (f): (s.modTrig i f).weirs = s.weirs := rfl
@[simp] theorem State.modTrig_events (i) (f): (s.modTrig i f).events = s.events := rfl
@[simp] theorem State.modTrig_mrP (i) (f): (s.modTrig i f).mrP = s.mrP := rfl
@[simp] theorem State.modTrig_mrC (i) (f): (s.modTrig i f).mrC = s.mrC := rfl
@[simp] theorem State.modTrig_linkUp (i) (f): (s.modTrig i f).linkUp = s.linkUp := rfl
@[simp] theorem State.modTrig_lane0 (i) (f): (s.modTrig i f).lane0 = s.lane0 := rfl
@[simp] theorem State.modTrig_lane1 (i) (f): (s.modTrig i f).lane1 = s.lane1 := rfl
@[simp] theorem State.modTrig_failCnt (i) (f): (s.modTrig i f).failCnt = s.failCnt := rfl
@[simp] theorem State.modTrig_replayCnt (i) (f): (s.modTrig i f).replayCnt = s.replayCnt := rfl
@[simp] theorem State.modTrig_memCorr (i) (f): (s.modTrig i f).memCorr = s.memCorr := rfl
@[simp] theorem State.modTrig_memUncorr (i) (f): (s.modTrig i f).memUncorr = s.memUncorr := rfl
@[simp] theorem State.modTrig_jrnlCorr (i) (f): (s.modTrig i f).jrnlCorr = s.jrnlCorr := rfl
@[simp] theorem State.modTrig_jrnlUncorr (i) (f): (s.modTrig i f).jrnlUncorr = s.jrnlUncorr := rfl
@[simp] theorem State.modTrig_drive (i) (f): (s.modTrig i f).drive = s.drive := rfl
@[simp] theorem State.modTrig_cdrvOff (i) (f): (s.modTrig i f).cdrvOff = s.cdrvOff := rfl
@[simp] theorem State.modTrig_dbgBlock (i) (f): (s.modTrig i f).dbgBlock = s.dbgBlock := rfl

@[simp] theorem State.modSess_pending (i) (f): (s.modSess i f).pending = s.pending := rfl
@[simp] theorem State.modSess_now (i) (f): (s.modSess i f).now = s.now := rfl
@[simp] theorem State.modSess_free (i) (f): (s.modSess i f).free = s.free := rfl
@[simp] theorem State.modSess_regs (i) (f): (s.modSess i f).regs = s.regs := rfl
@[simp] theorem State.modSess_sealRecord (i) (f): (s.modSess i f).sealRecord = s.sealRecord := rfl
@[simp] theorem State.modSess_mem (i) (f): (s.modSess i f).mem = s.mem := rfl
@[simp] theorem State.modSess_memErr (i) (f): (s.modSess i f).memErr = s.memErr := rfl
@[simp] theorem State.modSess_initLines (i) (f): (s.modSess i f).initLines = s.initLines := rfl
@[simp] theorem State.modSess_power (i) (f): (s.modSess i f).power = s.power := rfl
@[simp] theorem State.modSess_host (i) (f): (s.modSess i f).host = s.host := rfl
@[simp] theorem State.modSess_rings (i) (f): (s.modSess i f).rings = s.rings := rfl
@[simp] theorem State.modSess_loop (i) (f): (s.modSess i f).loop = s.loop := rfl
@[simp] theorem State.modSess_regions (i) (f): (s.modSess i f).regions = s.regions := rfl
@[simp] theorem State.modSess_islands (i) (f): (s.modSess i f).islands = s.islands := rfl
@[simp] theorem State.modSess_units (i) (f): (s.modSess i f).units = s.units := rfl
@[simp] theorem State.modSess_tripActive (i) (f): (s.modSess i f).tripActive = s.tripActive := rfl
@[simp] theorem State.modSess_dutyIn (i) (f): (s.modSess i f).dutyIn = s.dutyIn := rfl
@[simp] theorem State.modSess_banks (i) (f): (s.modSess i f).banks = s.banks := rfl
@[simp] theorem State.modSess_channels (i) (f): (s.modSess i f).channels = s.channels := rfl
@[simp] theorem State.modSess_chains (i) (f): (s.modSess i f).chains = s.chains := rfl
@[simp] theorem State.modSess_trigs (i) (f): (s.modSess i f).trigs = s.trigs := rfl
@[simp] theorem State.modSess_sessions (i) (f): (s.modSess i f).sessions = upd s.sessions i f := rfl
@[simp] theorem State.modSess_net (i) (f): (s.modSess i f).net = s.net := rfl
@[simp] theorem State.modSess_time (i) (f): (s.modSess i f).time = s.time := rfl
@[simp] theorem State.modSess_pair (i) (f): (s.modSess i f).pair = s.pair := rfl
@[simp] theorem State.modSess_saf (i) (f): (s.modSess i f).saf = s.saf := rfl
@[simp] theorem State.modSess_arb (i) (f): (s.modSess i f).arb = s.arb := rfl
@[simp] theorem State.modSess_weirs (i) (f): (s.modSess i f).weirs = s.weirs := rfl
@[simp] theorem State.modSess_events (i) (f): (s.modSess i f).events = s.events := rfl
@[simp] theorem State.modSess_mrP (i) (f): (s.modSess i f).mrP = s.mrP := rfl
@[simp] theorem State.modSess_mrC (i) (f): (s.modSess i f).mrC = s.mrC := rfl
@[simp] theorem State.modSess_linkUp (i) (f): (s.modSess i f).linkUp = s.linkUp := rfl
@[simp] theorem State.modSess_lane0 (i) (f): (s.modSess i f).lane0 = s.lane0 := rfl
@[simp] theorem State.modSess_lane1 (i) (f): (s.modSess i f).lane1 = s.lane1 := rfl
@[simp] theorem State.modSess_failCnt (i) (f): (s.modSess i f).failCnt = s.failCnt := rfl
@[simp] theorem State.modSess_replayCnt (i) (f): (s.modSess i f).replayCnt = s.replayCnt := rfl
@[simp] theorem State.modSess_memCorr (i) (f): (s.modSess i f).memCorr = s.memCorr := rfl
@[simp] theorem State.modSess_memUncorr (i) (f): (s.modSess i f).memUncorr = s.memUncorr := rfl
@[simp] theorem State.modSess_jrnlCorr (i) (f): (s.modSess i f).jrnlCorr = s.jrnlCorr := rfl
@[simp] theorem State.modSess_jrnlUncorr (i) (f): (s.modSess i f).jrnlUncorr = s.jrnlUncorr := rfl
@[simp] theorem State.modSess_drive (i) (f): (s.modSess i f).drive = s.drive := rfl
@[simp] theorem State.modSess_cdrvOff (i) (f): (s.modSess i f).cdrvOff = s.cdrvOff := rfl
@[simp] theorem State.modSess_dbgBlock (i) (f): (s.modSess i f).dbgBlock = s.dbgBlock := rfl

@[simp] theorem State.modWeir_pending (i) (f): (s.modWeir i f).pending = s.pending := rfl
@[simp] theorem State.modWeir_now (i) (f): (s.modWeir i f).now = s.now := rfl
@[simp] theorem State.modWeir_free (i) (f): (s.modWeir i f).free = s.free := rfl
@[simp] theorem State.modWeir_regs (i) (f): (s.modWeir i f).regs = s.regs := rfl
@[simp] theorem State.modWeir_sealRecord (i) (f): (s.modWeir i f).sealRecord = s.sealRecord := rfl
@[simp] theorem State.modWeir_mem (i) (f): (s.modWeir i f).mem = s.mem := rfl
@[simp] theorem State.modWeir_memErr (i) (f): (s.modWeir i f).memErr = s.memErr := rfl
@[simp] theorem State.modWeir_initLines (i) (f): (s.modWeir i f).initLines = s.initLines := rfl
@[simp] theorem State.modWeir_power (i) (f): (s.modWeir i f).power = s.power := rfl
@[simp] theorem State.modWeir_host (i) (f): (s.modWeir i f).host = s.host := rfl
@[simp] theorem State.modWeir_rings (i) (f): (s.modWeir i f).rings = s.rings := rfl
@[simp] theorem State.modWeir_loop (i) (f): (s.modWeir i f).loop = s.loop := rfl
@[simp] theorem State.modWeir_regions (i) (f): (s.modWeir i f).regions = s.regions := rfl
@[simp] theorem State.modWeir_islands (i) (f): (s.modWeir i f).islands = s.islands := rfl
@[simp] theorem State.modWeir_units (i) (f): (s.modWeir i f).units = s.units := rfl
@[simp] theorem State.modWeir_tripActive (i) (f): (s.modWeir i f).tripActive = s.tripActive := rfl
@[simp] theorem State.modWeir_dutyIn (i) (f): (s.modWeir i f).dutyIn = s.dutyIn := rfl
@[simp] theorem State.modWeir_banks (i) (f): (s.modWeir i f).banks = s.banks := rfl
@[simp] theorem State.modWeir_channels (i) (f): (s.modWeir i f).channels = s.channels := rfl
@[simp] theorem State.modWeir_chains (i) (f): (s.modWeir i f).chains = s.chains := rfl
@[simp] theorem State.modWeir_trigs (i) (f): (s.modWeir i f).trigs = s.trigs := rfl
@[simp] theorem State.modWeir_sessions (i) (f): (s.modWeir i f).sessions = s.sessions := rfl
@[simp] theorem State.modWeir_net (i) (f): (s.modWeir i f).net = s.net := rfl
@[simp] theorem State.modWeir_time (i) (f): (s.modWeir i f).time = s.time := rfl
@[simp] theorem State.modWeir_pair (i) (f): (s.modWeir i f).pair = s.pair := rfl
@[simp] theorem State.modWeir_saf (i) (f): (s.modWeir i f).saf = s.saf := rfl
@[simp] theorem State.modWeir_arb (i) (f): (s.modWeir i f).arb = s.arb := rfl
@[simp] theorem State.modWeir_weirs (i) (f): (s.modWeir i f).weirs = upd s.weirs i f := rfl
@[simp] theorem State.modWeir_events (i) (f): (s.modWeir i f).events = s.events := rfl
@[simp] theorem State.modWeir_mrP (i) (f): (s.modWeir i f).mrP = s.mrP := rfl
@[simp] theorem State.modWeir_mrC (i) (f): (s.modWeir i f).mrC = s.mrC := rfl
@[simp] theorem State.modWeir_linkUp (i) (f): (s.modWeir i f).linkUp = s.linkUp := rfl
@[simp] theorem State.modWeir_lane0 (i) (f): (s.modWeir i f).lane0 = s.lane0 := rfl
@[simp] theorem State.modWeir_lane1 (i) (f): (s.modWeir i f).lane1 = s.lane1 := rfl
@[simp] theorem State.modWeir_failCnt (i) (f): (s.modWeir i f).failCnt = s.failCnt := rfl
@[simp] theorem State.modWeir_replayCnt (i) (f): (s.modWeir i f).replayCnt = s.replayCnt := rfl
@[simp] theorem State.modWeir_memCorr (i) (f): (s.modWeir i f).memCorr = s.memCorr := rfl
@[simp] theorem State.modWeir_memUncorr (i) (f): (s.modWeir i f).memUncorr = s.memUncorr := rfl
@[simp] theorem State.modWeir_jrnlCorr (i) (f): (s.modWeir i f).jrnlCorr = s.jrnlCorr := rfl
@[simp] theorem State.modWeir_jrnlUncorr (i) (f): (s.modWeir i f).jrnlUncorr = s.jrnlUncorr := rfl
@[simp] theorem State.modWeir_drive (i) (f): (s.modWeir i f).drive = s.drive := rfl
@[simp] theorem State.modWeir_cdrvOff (i) (f): (s.modWeir i f).cdrvOff = s.cdrvOff := rfl
@[simp] theorem State.modWeir_dbgBlock (i) (f): (s.modWeir i f).dbgBlock = s.dbgBlock := rfl

@[simp] theorem State.modSrc_pending (i) (f): (s.modSrc i f).pending = s.pending := rfl
@[simp] theorem State.modSrc_now (i) (f): (s.modSrc i f).now = s.now := rfl
@[simp] theorem State.modSrc_free (i) (f): (s.modSrc i f).free = s.free := rfl
@[simp] theorem State.modSrc_regs (i) (f): (s.modSrc i f).regs = s.regs := rfl
@[simp] theorem State.modSrc_sealRecord (i) (f): (s.modSrc i f).sealRecord = s.sealRecord := rfl
@[simp] theorem State.modSrc_mem (i) (f): (s.modSrc i f).mem = s.mem := rfl
@[simp] theorem State.modSrc_memErr (i) (f): (s.modSrc i f).memErr = s.memErr := rfl
@[simp] theorem State.modSrc_initLines (i) (f): (s.modSrc i f).initLines = s.initLines := rfl
@[simp] theorem State.modSrc_power (i) (f): (s.modSrc i f).power = s.power := rfl
@[simp] theorem State.modSrc_host (i) (f): (s.modSrc i f).host = s.host := rfl
@[simp] theorem State.modSrc_rings (i) (f): (s.modSrc i f).rings = s.rings := rfl
@[simp] theorem State.modSrc_loop (i) (f): (s.modSrc i f).loop = s.loop := rfl
@[simp] theorem State.modSrc_regions (i) (f): (s.modSrc i f).regions = s.regions := rfl
@[simp] theorem State.modSrc_islands (i) (f): (s.modSrc i f).islands = s.islands := rfl
@[simp] theorem State.modSrc_units (i) (f): (s.modSrc i f).units = s.units := rfl
@[simp] theorem State.modSrc_tripActive (i) (f): (s.modSrc i f).tripActive = s.tripActive := rfl
@[simp] theorem State.modSrc_dutyIn (i) (f): (s.modSrc i f).dutyIn = s.dutyIn := rfl
@[simp] theorem State.modSrc_banks (i) (f): (s.modSrc i f).banks = s.banks := rfl
@[simp] theorem State.modSrc_channels (i) (f): (s.modSrc i f).channels = s.channels := rfl
@[simp] theorem State.modSrc_chains (i) (f): (s.modSrc i f).chains = s.chains := rfl
@[simp] theorem State.modSrc_trigs (i) (f): (s.modSrc i f).trigs = s.trigs := rfl
@[simp] theorem State.modSrc_sessions (i) (f): (s.modSrc i f).sessions = s.sessions := rfl
@[simp] theorem State.modSrc_net (i) (f): (s.modSrc i f).net = s.net := rfl
@[simp] theorem State.modSrc_time (i) (f): (s.modSrc i f).time = s.time := rfl
@[simp] theorem State.modSrc_pair (i) (f): (s.modSrc i f).pair = s.pair := rfl
@[simp] theorem State.modSrc_saf (i) (f): (s.modSrc i f).saf = s.saf := rfl
@[simp] theorem State.modSrc_arb (i) (f): (s.modSrc i f).arb = s.arb := rfl
@[simp] theorem State.modSrc_weirs (i) (f): (s.modSrc i f).weirs = s.weirs := rfl
@[simp] theorem State.modSrc_events (i) (f): (s.modSrc i f).events = { s.events with src := upd s.events.src i f } := rfl
@[simp] theorem State.modSrc_mrP (i) (f): (s.modSrc i f).mrP = s.mrP := rfl
@[simp] theorem State.modSrc_mrC (i) (f): (s.modSrc i f).mrC = s.mrC := rfl
@[simp] theorem State.modSrc_linkUp (i) (f): (s.modSrc i f).linkUp = s.linkUp := rfl
@[simp] theorem State.modSrc_lane0 (i) (f): (s.modSrc i f).lane0 = s.lane0 := rfl
@[simp] theorem State.modSrc_lane1 (i) (f): (s.modSrc i f).lane1 = s.lane1 := rfl
@[simp] theorem State.modSrc_failCnt (i) (f): (s.modSrc i f).failCnt = s.failCnt := rfl
@[simp] theorem State.modSrc_replayCnt (i) (f): (s.modSrc i f).replayCnt = s.replayCnt := rfl
@[simp] theorem State.modSrc_memCorr (i) (f): (s.modSrc i f).memCorr = s.memCorr := rfl
@[simp] theorem State.modSrc_memUncorr (i) (f): (s.modSrc i f).memUncorr = s.memUncorr := rfl
@[simp] theorem State.modSrc_jrnlCorr (i) (f): (s.modSrc i f).jrnlCorr = s.jrnlCorr := rfl
@[simp] theorem State.modSrc_jrnlUncorr (i) (f): (s.modSrc i f).jrnlUncorr = s.jrnlUncorr := rfl
@[simp] theorem State.modSrc_drive (i) (f): (s.modSrc i f).drive = s.drive := rfl
@[simp] theorem State.modSrc_cdrvOff (i) (f): (s.modSrc i f).cdrvOff = s.cdrvOff := rfl
@[simp] theorem State.modSrc_dbgBlock (i) (f): (s.modSrc i f).dbgBlock = s.dbgBlock := rfl

@[simp] theorem State.modSq_pending (i) (f): (s.modSq i f).pending = s.pending := rfl
@[simp] theorem State.modSq_now (i) (f): (s.modSq i f).now = s.now := rfl
@[simp] theorem State.modSq_free (i) (f): (s.modSq i f).free = s.free := rfl
@[simp] theorem State.modSq_regs (i) (f): (s.modSq i f).regs = s.regs := rfl
@[simp] theorem State.modSq_sealRecord (i) (f): (s.modSq i f).sealRecord = s.sealRecord := rfl
@[simp] theorem State.modSq_mem (i) (f): (s.modSq i f).mem = s.mem := rfl
@[simp] theorem State.modSq_memErr (i) (f): (s.modSq i f).memErr = s.memErr := rfl
@[simp] theorem State.modSq_initLines (i) (f): (s.modSq i f).initLines = s.initLines := rfl
@[simp] theorem State.modSq_power (i) (f): (s.modSq i f).power = s.power := rfl
@[simp] theorem State.modSq_host (i) (f): (s.modSq i f).host = s.host := rfl
@[simp] theorem State.modSq_rings (i) (f): (s.modSq i f).rings = { s.rings with sq := upd s.rings.sq i f } := rfl
@[simp] theorem State.modSq_loop (i) (f): (s.modSq i f).loop = s.loop := rfl
@[simp] theorem State.modSq_regions (i) (f): (s.modSq i f).regions = s.regions := rfl
@[simp] theorem State.modSq_islands (i) (f): (s.modSq i f).islands = s.islands := rfl
@[simp] theorem State.modSq_units (i) (f): (s.modSq i f).units = s.units := rfl
@[simp] theorem State.modSq_tripActive (i) (f): (s.modSq i f).tripActive = s.tripActive := rfl
@[simp] theorem State.modSq_dutyIn (i) (f): (s.modSq i f).dutyIn = s.dutyIn := rfl
@[simp] theorem State.modSq_banks (i) (f): (s.modSq i f).banks = s.banks := rfl
@[simp] theorem State.modSq_channels (i) (f): (s.modSq i f).channels = s.channels := rfl
@[simp] theorem State.modSq_chains (i) (f): (s.modSq i f).chains = s.chains := rfl
@[simp] theorem State.modSq_trigs (i) (f): (s.modSq i f).trigs = s.trigs := rfl
@[simp] theorem State.modSq_sessions (i) (f): (s.modSq i f).sessions = s.sessions := rfl
@[simp] theorem State.modSq_net (i) (f): (s.modSq i f).net = s.net := rfl
@[simp] theorem State.modSq_time (i) (f): (s.modSq i f).time = s.time := rfl
@[simp] theorem State.modSq_pair (i) (f): (s.modSq i f).pair = s.pair := rfl
@[simp] theorem State.modSq_saf (i) (f): (s.modSq i f).saf = s.saf := rfl
@[simp] theorem State.modSq_arb (i) (f): (s.modSq i f).arb = s.arb := rfl
@[simp] theorem State.modSq_weirs (i) (f): (s.modSq i f).weirs = s.weirs := rfl
@[simp] theorem State.modSq_events (i) (f): (s.modSq i f).events = s.events := rfl
@[simp] theorem State.modSq_mrP (i) (f): (s.modSq i f).mrP = s.mrP := rfl
@[simp] theorem State.modSq_mrC (i) (f): (s.modSq i f).mrC = s.mrC := rfl
@[simp] theorem State.modSq_linkUp (i) (f): (s.modSq i f).linkUp = s.linkUp := rfl
@[simp] theorem State.modSq_lane0 (i) (f): (s.modSq i f).lane0 = s.lane0 := rfl
@[simp] theorem State.modSq_lane1 (i) (f): (s.modSq i f).lane1 = s.lane1 := rfl
@[simp] theorem State.modSq_failCnt (i) (f): (s.modSq i f).failCnt = s.failCnt := rfl
@[simp] theorem State.modSq_replayCnt (i) (f): (s.modSq i f).replayCnt = s.replayCnt := rfl
@[simp] theorem State.modSq_memCorr (i) (f): (s.modSq i f).memCorr = s.memCorr := rfl
@[simp] theorem State.modSq_memUncorr (i) (f): (s.modSq i f).memUncorr = s.memUncorr := rfl
@[simp] theorem State.modSq_jrnlCorr (i) (f): (s.modSq i f).jrnlCorr = s.jrnlCorr := rfl
@[simp] theorem State.modSq_jrnlUncorr (i) (f): (s.modSq i f).jrnlUncorr = s.jrnlUncorr := rfl
@[simp] theorem State.modSq_drive (i) (f): (s.modSq i f).drive = s.drive := rfl
@[simp] theorem State.modSq_cdrvOff (i) (f): (s.modSq i f).cdrvOff = s.cdrvOff := rfl
@[simp] theorem State.modSq_dbgBlock (i) (f): (s.modSq i f).dbgBlock = s.dbgBlock := rfl

@[simp] theorem State.modCq_pending (i) (f): (s.modCq i f).pending = s.pending := rfl
@[simp] theorem State.modCq_now (i) (f): (s.modCq i f).now = s.now := rfl
@[simp] theorem State.modCq_free (i) (f): (s.modCq i f).free = s.free := rfl
@[simp] theorem State.modCq_regs (i) (f): (s.modCq i f).regs = s.regs := rfl
@[simp] theorem State.modCq_sealRecord (i) (f): (s.modCq i f).sealRecord = s.sealRecord := rfl
@[simp] theorem State.modCq_mem (i) (f): (s.modCq i f).mem = s.mem := rfl
@[simp] theorem State.modCq_memErr (i) (f): (s.modCq i f).memErr = s.memErr := rfl
@[simp] theorem State.modCq_initLines (i) (f): (s.modCq i f).initLines = s.initLines := rfl
@[simp] theorem State.modCq_power (i) (f): (s.modCq i f).power = s.power := rfl
@[simp] theorem State.modCq_host (i) (f): (s.modCq i f).host = s.host := rfl
@[simp] theorem State.modCq_rings (i) (f): (s.modCq i f).rings = { s.rings with cq := upd s.rings.cq i f } := rfl
@[simp] theorem State.modCq_loop (i) (f): (s.modCq i f).loop = s.loop := rfl
@[simp] theorem State.modCq_regions (i) (f): (s.modCq i f).regions = s.regions := rfl
@[simp] theorem State.modCq_islands (i) (f): (s.modCq i f).islands = s.islands := rfl
@[simp] theorem State.modCq_units (i) (f): (s.modCq i f).units = s.units := rfl
@[simp] theorem State.modCq_tripActive (i) (f): (s.modCq i f).tripActive = s.tripActive := rfl
@[simp] theorem State.modCq_dutyIn (i) (f): (s.modCq i f).dutyIn = s.dutyIn := rfl
@[simp] theorem State.modCq_banks (i) (f): (s.modCq i f).banks = s.banks := rfl
@[simp] theorem State.modCq_channels (i) (f): (s.modCq i f).channels = s.channels := rfl
@[simp] theorem State.modCq_chains (i) (f): (s.modCq i f).chains = s.chains := rfl
@[simp] theorem State.modCq_trigs (i) (f): (s.modCq i f).trigs = s.trigs := rfl
@[simp] theorem State.modCq_sessions (i) (f): (s.modCq i f).sessions = s.sessions := rfl
@[simp] theorem State.modCq_net (i) (f): (s.modCq i f).net = s.net := rfl
@[simp] theorem State.modCq_time (i) (f): (s.modCq i f).time = s.time := rfl
@[simp] theorem State.modCq_pair (i) (f): (s.modCq i f).pair = s.pair := rfl
@[simp] theorem State.modCq_saf (i) (f): (s.modCq i f).saf = s.saf := rfl
@[simp] theorem State.modCq_arb (i) (f): (s.modCq i f).arb = s.arb := rfl
@[simp] theorem State.modCq_weirs (i) (f): (s.modCq i f).weirs = s.weirs := rfl
@[simp] theorem State.modCq_events (i) (f): (s.modCq i f).events = s.events := rfl
@[simp] theorem State.modCq_mrP (i) (f): (s.modCq i f).mrP = s.mrP := rfl
@[simp] theorem State.modCq_mrC (i) (f): (s.modCq i f).mrC = s.mrC := rfl
@[simp] theorem State.modCq_linkUp (i) (f): (s.modCq i f).linkUp = s.linkUp := rfl
@[simp] theorem State.modCq_lane0 (i) (f): (s.modCq i f).lane0 = s.lane0 := rfl
@[simp] theorem State.modCq_lane1 (i) (f): (s.modCq i f).lane1 = s.lane1 := rfl
@[simp] theorem State.modCq_failCnt (i) (f): (s.modCq i f).failCnt = s.failCnt := rfl
@[simp] theorem State.modCq_replayCnt (i) (f): (s.modCq i f).replayCnt = s.replayCnt := rfl
@[simp] theorem State.modCq_memCorr (i) (f): (s.modCq i f).memCorr = s.memCorr := rfl
@[simp] theorem State.modCq_memUncorr (i) (f): (s.modCq i f).memUncorr = s.memUncorr := rfl
@[simp] theorem State.modCq_jrnlCorr (i) (f): (s.modCq i f).jrnlCorr = s.jrnlCorr := rfl
@[simp] theorem State.modCq_jrnlUncorr (i) (f): (s.modCq i f).jrnlUncorr = s.jrnlUncorr := rfl
@[simp] theorem State.modCq_drive (i) (f): (s.modCq i f).drive = s.drive := rfl
@[simp] theorem State.modCq_cdrvOff (i) (f): (s.modCq i f).cdrvOff = s.cdrvOff := rfl
@[simp] theorem State.modCq_dbgBlock (i) (f): (s.modCq i f).dbgBlock = s.dbgBlock := rfl

@[simp] theorem State.modPort_pending (i) (f): (s.modPort i f).pending = s.pending := rfl
@[simp] theorem State.modPort_now (i) (f): (s.modPort i f).now = s.now := rfl
@[simp] theorem State.modPort_free (i) (f): (s.modPort i f).free = s.free := rfl
@[simp] theorem State.modPort_regs (i) (f): (s.modPort i f).regs = s.regs := rfl
@[simp] theorem State.modPort_sealRecord (i) (f): (s.modPort i f).sealRecord = s.sealRecord := rfl
@[simp] theorem State.modPort_mem (i) (f): (s.modPort i f).mem = s.mem := rfl
@[simp] theorem State.modPort_memErr (i) (f): (s.modPort i f).memErr = s.memErr := rfl
@[simp] theorem State.modPort_initLines (i) (f): (s.modPort i f).initLines = s.initLines := rfl
@[simp] theorem State.modPort_power (i) (f): (s.modPort i f).power = s.power := rfl
@[simp] theorem State.modPort_host (i) (f): (s.modPort i f).host = s.host := rfl
@[simp] theorem State.modPort_rings (i) (f): (s.modPort i f).rings = s.rings := rfl
@[simp] theorem State.modPort_loop (i) (f): (s.modPort i f).loop = s.loop := rfl
@[simp] theorem State.modPort_regions (i) (f): (s.modPort i f).regions = s.regions := rfl
@[simp] theorem State.modPort_islands (i) (f): (s.modPort i f).islands = s.islands := rfl
@[simp] theorem State.modPort_units (i) (f): (s.modPort i f).units = s.units := rfl
@[simp] theorem State.modPort_tripActive (i) (f): (s.modPort i f).tripActive = s.tripActive := rfl
@[simp] theorem State.modPort_dutyIn (i) (f): (s.modPort i f).dutyIn = s.dutyIn := rfl
@[simp] theorem State.modPort_banks (i) (f): (s.modPort i f).banks = s.banks := rfl
@[simp] theorem State.modPort_channels (i) (f): (s.modPort i f).channels = s.channels := rfl
@[simp] theorem State.modPort_chains (i) (f): (s.modPort i f).chains = s.chains := rfl
@[simp] theorem State.modPort_trigs (i) (f): (s.modPort i f).trigs = s.trigs := rfl
@[simp] theorem State.modPort_sessions (i) (f): (s.modPort i f).sessions = s.sessions := rfl
@[simp] theorem State.modPort_net (i) (f): (s.modPort i f).net = { s.net with ports := upd s.net.ports i f } := rfl
@[simp] theorem State.modPort_time (i) (f): (s.modPort i f).time = s.time := rfl
@[simp] theorem State.modPort_pair (i) (f): (s.modPort i f).pair = s.pair := rfl
@[simp] theorem State.modPort_saf (i) (f): (s.modPort i f).saf = s.saf := rfl
@[simp] theorem State.modPort_arb (i) (f): (s.modPort i f).arb = s.arb := rfl
@[simp] theorem State.modPort_weirs (i) (f): (s.modPort i f).weirs = s.weirs := rfl
@[simp] theorem State.modPort_events (i) (f): (s.modPort i f).events = s.events := rfl
@[simp] theorem State.modPort_mrP (i) (f): (s.modPort i f).mrP = s.mrP := rfl
@[simp] theorem State.modPort_mrC (i) (f): (s.modPort i f).mrC = s.mrC := rfl
@[simp] theorem State.modPort_linkUp (i) (f): (s.modPort i f).linkUp = s.linkUp := rfl
@[simp] theorem State.modPort_lane0 (i) (f): (s.modPort i f).lane0 = s.lane0 := rfl
@[simp] theorem State.modPort_lane1 (i) (f): (s.modPort i f).lane1 = s.lane1 := rfl
@[simp] theorem State.modPort_failCnt (i) (f): (s.modPort i f).failCnt = s.failCnt := rfl
@[simp] theorem State.modPort_replayCnt (i) (f): (s.modPort i f).replayCnt = s.replayCnt := rfl
@[simp] theorem State.modPort_memCorr (i) (f): (s.modPort i f).memCorr = s.memCorr := rfl
@[simp] theorem State.modPort_memUncorr (i) (f): (s.modPort i f).memUncorr = s.memUncorr := rfl
@[simp] theorem State.modPort_jrnlCorr (i) (f): (s.modPort i f).jrnlCorr = s.jrnlCorr := rfl
@[simp] theorem State.modPort_jrnlUncorr (i) (f): (s.modPort i f).jrnlUncorr = s.jrnlUncorr := rfl
@[simp] theorem State.modPort_drive (i) (f): (s.modPort i f).drive = s.drive := rfl
@[simp] theorem State.modPort_cdrvOff (i) (f): (s.modPort i f).cdrvOff = s.cdrvOff := rfl
@[simp] theorem State.modPort_dbgBlock (i) (f): (s.modPort i f).dbgBlock = s.dbgBlock := rfl

@[simp] theorem State.modPairRegion_pending (i) (f): (s.modPairRegion i f).pending = s.pending := rfl
@[simp] theorem State.modPairRegion_now (i) (f): (s.modPairRegion i f).now = s.now := rfl
@[simp] theorem State.modPairRegion_free (i) (f): (s.modPairRegion i f).free = s.free := rfl
@[simp] theorem State.modPairRegion_regs (i) (f): (s.modPairRegion i f).regs = s.regs := rfl
@[simp] theorem State.modPairRegion_sealRecord (i) (f): (s.modPairRegion i f).sealRecord = s.sealRecord := rfl
@[simp] theorem State.modPairRegion_mem (i) (f): (s.modPairRegion i f).mem = s.mem := rfl
@[simp] theorem State.modPairRegion_memErr (i) (f): (s.modPairRegion i f).memErr = s.memErr := rfl
@[simp] theorem State.modPairRegion_initLines (i) (f): (s.modPairRegion i f).initLines = s.initLines := rfl
@[simp] theorem State.modPairRegion_power (i) (f): (s.modPairRegion i f).power = s.power := rfl
@[simp] theorem State.modPairRegion_host (i) (f): (s.modPairRegion i f).host = s.host := rfl
@[simp] theorem State.modPairRegion_rings (i) (f): (s.modPairRegion i f).rings = s.rings := rfl
@[simp] theorem State.modPairRegion_loop (i) (f): (s.modPairRegion i f).loop = s.loop := rfl
@[simp] theorem State.modPairRegion_regions (i) (f): (s.modPairRegion i f).regions = s.regions := rfl
@[simp] theorem State.modPairRegion_islands (i) (f): (s.modPairRegion i f).islands = s.islands := rfl
@[simp] theorem State.modPairRegion_units (i) (f): (s.modPairRegion i f).units = s.units := rfl
@[simp] theorem State.modPairRegion_tripActive (i) (f): (s.modPairRegion i f).tripActive = s.tripActive := rfl
@[simp] theorem State.modPairRegion_dutyIn (i) (f): (s.modPairRegion i f).dutyIn = s.dutyIn := rfl
@[simp] theorem State.modPairRegion_banks (i) (f): (s.modPairRegion i f).banks = s.banks := rfl
@[simp] theorem State.modPairRegion_channels (i) (f): (s.modPairRegion i f).channels = s.channels := rfl
@[simp] theorem State.modPairRegion_chains (i) (f): (s.modPairRegion i f).chains = s.chains := rfl
@[simp] theorem State.modPairRegion_trigs (i) (f): (s.modPairRegion i f).trigs = s.trigs := rfl
@[simp] theorem State.modPairRegion_sessions (i) (f): (s.modPairRegion i f).sessions = s.sessions := rfl
@[simp] theorem State.modPairRegion_net (i) (f): (s.modPairRegion i f).net = s.net := rfl
@[simp] theorem State.modPairRegion_time (i) (f): (s.modPairRegion i f).time = s.time := rfl
@[simp] theorem State.modPairRegion_pair (i) (f): (s.modPairRegion i f).pair = { s.pair with regions := upd s.pair.regions i f } := rfl
@[simp] theorem State.modPairRegion_saf (i) (f): (s.modPairRegion i f).saf = s.saf := rfl
@[simp] theorem State.modPairRegion_arb (i) (f): (s.modPairRegion i f).arb = s.arb := rfl
@[simp] theorem State.modPairRegion_weirs (i) (f): (s.modPairRegion i f).weirs = s.weirs := rfl
@[simp] theorem State.modPairRegion_events (i) (f): (s.modPairRegion i f).events = s.events := rfl
@[simp] theorem State.modPairRegion_mrP (i) (f): (s.modPairRegion i f).mrP = s.mrP := rfl
@[simp] theorem State.modPairRegion_mrC (i) (f): (s.modPairRegion i f).mrC = s.mrC := rfl
@[simp] theorem State.modPairRegion_linkUp (i) (f): (s.modPairRegion i f).linkUp = s.linkUp := rfl
@[simp] theorem State.modPairRegion_lane0 (i) (f): (s.modPairRegion i f).lane0 = s.lane0 := rfl
@[simp] theorem State.modPairRegion_lane1 (i) (f): (s.modPairRegion i f).lane1 = s.lane1 := rfl
@[simp] theorem State.modPairRegion_failCnt (i) (f): (s.modPairRegion i f).failCnt = s.failCnt := rfl
@[simp] theorem State.modPairRegion_replayCnt (i) (f): (s.modPairRegion i f).replayCnt = s.replayCnt := rfl
@[simp] theorem State.modPairRegion_memCorr (i) (f): (s.modPairRegion i f).memCorr = s.memCorr := rfl
@[simp] theorem State.modPairRegion_memUncorr (i) (f): (s.modPairRegion i f).memUncorr = s.memUncorr := rfl
@[simp] theorem State.modPairRegion_jrnlCorr (i) (f): (s.modPairRegion i f).jrnlCorr = s.jrnlCorr := rfl
@[simp] theorem State.modPairRegion_jrnlUncorr (i) (f): (s.modPairRegion i f).jrnlUncorr = s.jrnlUncorr := rfl
@[simp] theorem State.modPairRegion_drive (i) (f): (s.modPairRegion i f).drive = s.drive := rfl
@[simp] theorem State.modPairRegion_cdrvOff (i) (f): (s.modPairRegion i f).cdrvOff = s.cdrvOff := rfl
@[simp] theorem State.modPairRegion_dbgBlock (i) (f): (s.modPairRegion i f).dbgBlock = s.dbgBlock := rfl

@[simp] theorem State.modSafCh_pending (i) (f): (s.modSafCh i f).pending = s.pending := rfl
@[simp] theorem State.modSafCh_now (i) (f): (s.modSafCh i f).now = s.now := rfl
@[simp] theorem State.modSafCh_free (i) (f): (s.modSafCh i f).free = s.free := rfl
@[simp] theorem State.modSafCh_regs (i) (f): (s.modSafCh i f).regs = s.regs := rfl
@[simp] theorem State.modSafCh_sealRecord (i) (f): (s.modSafCh i f).sealRecord = s.sealRecord := rfl
@[simp] theorem State.modSafCh_mem (i) (f): (s.modSafCh i f).mem = s.mem := rfl
@[simp] theorem State.modSafCh_memErr (i) (f): (s.modSafCh i f).memErr = s.memErr := rfl
@[simp] theorem State.modSafCh_initLines (i) (f): (s.modSafCh i f).initLines = s.initLines := rfl
@[simp] theorem State.modSafCh_power (i) (f): (s.modSafCh i f).power = s.power := rfl
@[simp] theorem State.modSafCh_host (i) (f): (s.modSafCh i f).host = s.host := rfl
@[simp] theorem State.modSafCh_rings (i) (f): (s.modSafCh i f).rings = s.rings := rfl
@[simp] theorem State.modSafCh_loop (i) (f): (s.modSafCh i f).loop = s.loop := rfl
@[simp] theorem State.modSafCh_regions (i) (f): (s.modSafCh i f).regions = s.regions := rfl
@[simp] theorem State.modSafCh_islands (i) (f): (s.modSafCh i f).islands = s.islands := rfl
@[simp] theorem State.modSafCh_units (i) (f): (s.modSafCh i f).units = s.units := rfl
@[simp] theorem State.modSafCh_tripActive (i) (f): (s.modSafCh i f).tripActive = s.tripActive := rfl
@[simp] theorem State.modSafCh_dutyIn (i) (f): (s.modSafCh i f).dutyIn = s.dutyIn := rfl
@[simp] theorem State.modSafCh_banks (i) (f): (s.modSafCh i f).banks = s.banks := rfl
@[simp] theorem State.modSafCh_channels (i) (f): (s.modSafCh i f).channels = s.channels := rfl
@[simp] theorem State.modSafCh_chains (i) (f): (s.modSafCh i f).chains = s.chains := rfl
@[simp] theorem State.modSafCh_trigs (i) (f): (s.modSafCh i f).trigs = s.trigs := rfl
@[simp] theorem State.modSafCh_sessions (i) (f): (s.modSafCh i f).sessions = s.sessions := rfl
@[simp] theorem State.modSafCh_net (i) (f): (s.modSafCh i f).net = s.net := rfl
@[simp] theorem State.modSafCh_time (i) (f): (s.modSafCh i f).time = s.time := rfl
@[simp] theorem State.modSafCh_pair (i) (f): (s.modSafCh i f).pair = s.pair := rfl
@[simp] theorem State.modSafCh_saf (i) (f): (s.modSafCh i f).saf = { s.saf with ch := upd s.saf.ch i f } := rfl
@[simp] theorem State.modSafCh_arb (i) (f): (s.modSafCh i f).arb = s.arb := rfl
@[simp] theorem State.modSafCh_weirs (i) (f): (s.modSafCh i f).weirs = s.weirs := rfl
@[simp] theorem State.modSafCh_events (i) (f): (s.modSafCh i f).events = s.events := rfl
@[simp] theorem State.modSafCh_mrP (i) (f): (s.modSafCh i f).mrP = s.mrP := rfl
@[simp] theorem State.modSafCh_mrC (i) (f): (s.modSafCh i f).mrC = s.mrC := rfl
@[simp] theorem State.modSafCh_linkUp (i) (f): (s.modSafCh i f).linkUp = s.linkUp := rfl
@[simp] theorem State.modSafCh_lane0 (i) (f): (s.modSafCh i f).lane0 = s.lane0 := rfl
@[simp] theorem State.modSafCh_lane1 (i) (f): (s.modSafCh i f).lane1 = s.lane1 := rfl
@[simp] theorem State.modSafCh_failCnt (i) (f): (s.modSafCh i f).failCnt = s.failCnt := rfl
@[simp] theorem State.modSafCh_replayCnt (i) (f): (s.modSafCh i f).replayCnt = s.replayCnt := rfl
@[simp] theorem State.modSafCh_memCorr (i) (f): (s.modSafCh i f).memCorr = s.memCorr := rfl
@[simp] theorem State.modSafCh_memUncorr (i) (f): (s.modSafCh i f).memUncorr = s.memUncorr := rfl
@[simp] theorem State.modSafCh_jrnlCorr (i) (f): (s.modSafCh i f).jrnlCorr = s.jrnlCorr := rfl
@[simp] theorem State.modSafCh_jrnlUncorr (i) (f): (s.modSafCh i f).jrnlUncorr = s.jrnlUncorr := rfl
@[simp] theorem State.modSafCh_drive (i) (f): (s.modSafCh i f).drive = s.drive := rfl
@[simp] theorem State.modSafCh_cdrvOff (i) (f): (s.modSafCh i f).cdrvOff = s.cdrvOff := rfl
@[simp] theorem State.modSafCh_dbgBlock (i) (f): (s.modSafCh i f).dbgBlock = s.dbgBlock := rfl

@[simp] theorem State.modSo_pending (i) (f): (s.modSo i f).pending = s.pending := rfl
@[simp] theorem State.modSo_now (i) (f): (s.modSo i f).now = s.now := rfl
@[simp] theorem State.modSo_free (i) (f): (s.modSo i f).free = s.free := rfl
@[simp] theorem State.modSo_regs (i) (f): (s.modSo i f).regs = s.regs := rfl
@[simp] theorem State.modSo_sealRecord (i) (f): (s.modSo i f).sealRecord = s.sealRecord := rfl
@[simp] theorem State.modSo_mem (i) (f): (s.modSo i f).mem = s.mem := rfl
@[simp] theorem State.modSo_memErr (i) (f): (s.modSo i f).memErr = s.memErr := rfl
@[simp] theorem State.modSo_initLines (i) (f): (s.modSo i f).initLines = s.initLines := rfl
@[simp] theorem State.modSo_power (i) (f): (s.modSo i f).power = s.power := rfl
@[simp] theorem State.modSo_host (i) (f): (s.modSo i f).host = s.host := rfl
@[simp] theorem State.modSo_rings (i) (f): (s.modSo i f).rings = s.rings := rfl
@[simp] theorem State.modSo_loop (i) (f): (s.modSo i f).loop = s.loop := rfl
@[simp] theorem State.modSo_regions (i) (f): (s.modSo i f).regions = s.regions := rfl
@[simp] theorem State.modSo_islands (i) (f): (s.modSo i f).islands = s.islands := rfl
@[simp] theorem State.modSo_units (i) (f): (s.modSo i f).units = s.units := rfl
@[simp] theorem State.modSo_tripActive (i) (f): (s.modSo i f).tripActive = s.tripActive := rfl
@[simp] theorem State.modSo_dutyIn (i) (f): (s.modSo i f).dutyIn = s.dutyIn := rfl
@[simp] theorem State.modSo_banks (i) (f): (s.modSo i f).banks = s.banks := rfl
@[simp] theorem State.modSo_channels (i) (f): (s.modSo i f).channels = s.channels := rfl
@[simp] theorem State.modSo_chains (i) (f): (s.modSo i f).chains = s.chains := rfl
@[simp] theorem State.modSo_trigs (i) (f): (s.modSo i f).trigs = s.trigs := rfl
@[simp] theorem State.modSo_sessions (i) (f): (s.modSo i f).sessions = s.sessions := rfl
@[simp] theorem State.modSo_net (i) (f): (s.modSo i f).net = s.net := rfl
@[simp] theorem State.modSo_time (i) (f): (s.modSo i f).time = s.time := rfl
@[simp] theorem State.modSo_pair (i) (f): (s.modSo i f).pair = s.pair := rfl
@[simp] theorem State.modSo_saf (i) (f): (s.modSo i f).saf = { s.saf with so := upd s.saf.so i f } := rfl
@[simp] theorem State.modSo_arb (i) (f): (s.modSo i f).arb = s.arb := rfl
@[simp] theorem State.modSo_weirs (i) (f): (s.modSo i f).weirs = s.weirs := rfl
@[simp] theorem State.modSo_events (i) (f): (s.modSo i f).events = s.events := rfl
@[simp] theorem State.modSo_mrP (i) (f): (s.modSo i f).mrP = s.mrP := rfl
@[simp] theorem State.modSo_mrC (i) (f): (s.modSo i f).mrC = s.mrC := rfl
@[simp] theorem State.modSo_linkUp (i) (f): (s.modSo i f).linkUp = s.linkUp := rfl
@[simp] theorem State.modSo_lane0 (i) (f): (s.modSo i f).lane0 = s.lane0 := rfl
@[simp] theorem State.modSo_lane1 (i) (f): (s.modSo i f).lane1 = s.lane1 := rfl
@[simp] theorem State.modSo_failCnt (i) (f): (s.modSo i f).failCnt = s.failCnt := rfl
@[simp] theorem State.modSo_replayCnt (i) (f): (s.modSo i f).replayCnt = s.replayCnt := rfl
@[simp] theorem State.modSo_memCorr (i) (f): (s.modSo i f).memCorr = s.memCorr := rfl
@[simp] theorem State.modSo_memUncorr (i) (f): (s.modSo i f).memUncorr = s.memUncorr := rfl
@[simp] theorem State.modSo_jrnlCorr (i) (f): (s.modSo i f).jrnlCorr = s.jrnlCorr := rfl
@[simp] theorem State.modSo_jrnlUncorr (i) (f): (s.modSo i f).jrnlUncorr = s.jrnlUncorr := rfl
@[simp] theorem State.modSo_drive (i) (f): (s.modSo i f).drive = s.drive := rfl
@[simp] theorem State.modSo_cdrvOff (i) (f): (s.modSo i f).cdrvOff = s.cdrvOff := rfl
@[simp] theorem State.modSo_dbgBlock (i) (f): (s.modSo i f).dbgBlock = s.dbgBlock := rfl

@[simp] theorem State.modRt_pending (i) (f): (s.modRt i f).pending = s.pending := rfl
@[simp] theorem State.modRt_now (i) (f): (s.modRt i f).now = s.now := rfl
@[simp] theorem State.modRt_free (i) (f): (s.modRt i f).free = s.free := rfl
@[simp] theorem State.modRt_regs (i) (f): (s.modRt i f).regs = s.regs := rfl
@[simp] theorem State.modRt_sealRecord (i) (f): (s.modRt i f).sealRecord = s.sealRecord := rfl
@[simp] theorem State.modRt_mem (i) (f): (s.modRt i f).mem = s.mem := rfl
@[simp] theorem State.modRt_memErr (i) (f): (s.modRt i f).memErr = s.memErr := rfl
@[simp] theorem State.modRt_initLines (i) (f): (s.modRt i f).initLines = s.initLines := rfl
@[simp] theorem State.modRt_power (i) (f): (s.modRt i f).power = s.power := rfl
@[simp] theorem State.modRt_host (i) (f): (s.modRt i f).host = s.host := rfl
@[simp] theorem State.modRt_rings (i) (f): (s.modRt i f).rings = s.rings := rfl
@[simp] theorem State.modRt_loop (i) (f): (s.modRt i f).loop = { s.loop with rt := upd s.loop.rt i f } := rfl
@[simp] theorem State.modRt_regions (i) (f): (s.modRt i f).regions = s.regions := rfl
@[simp] theorem State.modRt_islands (i) (f): (s.modRt i f).islands = s.islands := rfl
@[simp] theorem State.modRt_units (i) (f): (s.modRt i f).units = s.units := rfl
@[simp] theorem State.modRt_tripActive (i) (f): (s.modRt i f).tripActive = s.tripActive := rfl
@[simp] theorem State.modRt_dutyIn (i) (f): (s.modRt i f).dutyIn = s.dutyIn := rfl
@[simp] theorem State.modRt_banks (i) (f): (s.modRt i f).banks = s.banks := rfl
@[simp] theorem State.modRt_channels (i) (f): (s.modRt i f).channels = s.channels := rfl
@[simp] theorem State.modRt_chains (i) (f): (s.modRt i f).chains = s.chains := rfl
@[simp] theorem State.modRt_trigs (i) (f): (s.modRt i f).trigs = s.trigs := rfl
@[simp] theorem State.modRt_sessions (i) (f): (s.modRt i f).sessions = s.sessions := rfl
@[simp] theorem State.modRt_net (i) (f): (s.modRt i f).net = s.net := rfl
@[simp] theorem State.modRt_time (i) (f): (s.modRt i f).time = s.time := rfl
@[simp] theorem State.modRt_pair (i) (f): (s.modRt i f).pair = s.pair := rfl
@[simp] theorem State.modRt_saf (i) (f): (s.modRt i f).saf = s.saf := rfl
@[simp] theorem State.modRt_arb (i) (f): (s.modRt i f).arb = s.arb := rfl
@[simp] theorem State.modRt_weirs (i) (f): (s.modRt i f).weirs = s.weirs := rfl
@[simp] theorem State.modRt_events (i) (f): (s.modRt i f).events = s.events := rfl
@[simp] theorem State.modRt_mrP (i) (f): (s.modRt i f).mrP = s.mrP := rfl
@[simp] theorem State.modRt_mrC (i) (f): (s.modRt i f).mrC = s.mrC := rfl
@[simp] theorem State.modRt_linkUp (i) (f): (s.modRt i f).linkUp = s.linkUp := rfl
@[simp] theorem State.modRt_lane0 (i) (f): (s.modRt i f).lane0 = s.lane0 := rfl
@[simp] theorem State.modRt_lane1 (i) (f): (s.modRt i f).lane1 = s.lane1 := rfl
@[simp] theorem State.modRt_failCnt (i) (f): (s.modRt i f).failCnt = s.failCnt := rfl
@[simp] theorem State.modRt_replayCnt (i) (f): (s.modRt i f).replayCnt = s.replayCnt := rfl
@[simp] theorem State.modRt_memCorr (i) (f): (s.modRt i f).memCorr = s.memCorr := rfl
@[simp] theorem State.modRt_memUncorr (i) (f): (s.modRt i f).memUncorr = s.memUncorr := rfl
@[simp] theorem State.modRt_jrnlCorr (i) (f): (s.modRt i f).jrnlCorr = s.jrnlCorr := rfl
@[simp] theorem State.modRt_jrnlUncorr (i) (f): (s.modRt i f).jrnlUncorr = s.jrnlUncorr := rfl
@[simp] theorem State.modRt_drive (i) (f): (s.modRt i f).drive = s.drive := rfl
@[simp] theorem State.modRt_cdrvOff (i) (f): (s.modRt i f).cdrvOff = s.cdrvOff := rfl
@[simp] theorem State.modRt_dbgBlock (i) (f): (s.modRt i f).dbgBlock = s.dbgBlock := rfl

@[simp] theorem State.modProbe_pending (i) (f): (s.modProbe i f).pending = s.pending := rfl
@[simp] theorem State.modProbe_now (i) (f): (s.modProbe i f).now = s.now := rfl
@[simp] theorem State.modProbe_free (i) (f): (s.modProbe i f).free = s.free := rfl
@[simp] theorem State.modProbe_regs (i) (f): (s.modProbe i f).regs = s.regs := rfl
@[simp] theorem State.modProbe_sealRecord (i) (f): (s.modProbe i f).sealRecord = s.sealRecord := rfl
@[simp] theorem State.modProbe_mem (i) (f): (s.modProbe i f).mem = s.mem := rfl
@[simp] theorem State.modProbe_memErr (i) (f): (s.modProbe i f).memErr = s.memErr := rfl
@[simp] theorem State.modProbe_initLines (i) (f): (s.modProbe i f).initLines = s.initLines := rfl
@[simp] theorem State.modProbe_power (i) (f): (s.modProbe i f).power = s.power := rfl
@[simp] theorem State.modProbe_host (i) (f): (s.modProbe i f).host = s.host := rfl
@[simp] theorem State.modProbe_rings (i) (f): (s.modProbe i f).rings = s.rings := rfl
@[simp] theorem State.modProbe_loop (i) (f): (s.modProbe i f).loop = { s.loop with probes := upd s.loop.probes i f } := rfl
@[simp] theorem State.modProbe_regions (i) (f): (s.modProbe i f).regions = s.regions := rfl
@[simp] theorem State.modProbe_islands (i) (f): (s.modProbe i f).islands = s.islands := rfl
@[simp] theorem State.modProbe_units (i) (f): (s.modProbe i f).units = s.units := rfl
@[simp] theorem State.modProbe_tripActive (i) (f): (s.modProbe i f).tripActive = s.tripActive := rfl
@[simp] theorem State.modProbe_dutyIn (i) (f): (s.modProbe i f).dutyIn = s.dutyIn := rfl
@[simp] theorem State.modProbe_banks (i) (f): (s.modProbe i f).banks = s.banks := rfl
@[simp] theorem State.modProbe_channels (i) (f): (s.modProbe i f).channels = s.channels := rfl
@[simp] theorem State.modProbe_chains (i) (f): (s.modProbe i f).chains = s.chains := rfl
@[simp] theorem State.modProbe_trigs (i) (f): (s.modProbe i f).trigs = s.trigs := rfl
@[simp] theorem State.modProbe_sessions (i) (f): (s.modProbe i f).sessions = s.sessions := rfl
@[simp] theorem State.modProbe_net (i) (f): (s.modProbe i f).net = s.net := rfl
@[simp] theorem State.modProbe_time (i) (f): (s.modProbe i f).time = s.time := rfl
@[simp] theorem State.modProbe_pair (i) (f): (s.modProbe i f).pair = s.pair := rfl
@[simp] theorem State.modProbe_saf (i) (f): (s.modProbe i f).saf = s.saf := rfl
@[simp] theorem State.modProbe_arb (i) (f): (s.modProbe i f).arb = s.arb := rfl
@[simp] theorem State.modProbe_weirs (i) (f): (s.modProbe i f).weirs = s.weirs := rfl
@[simp] theorem State.modProbe_events (i) (f): (s.modProbe i f).events = s.events := rfl
@[simp] theorem State.modProbe_mrP (i) (f): (s.modProbe i f).mrP = s.mrP := rfl
@[simp] theorem State.modProbe_mrC (i) (f): (s.modProbe i f).mrC = s.mrC := rfl
@[simp] theorem State.modProbe_linkUp (i) (f): (s.modProbe i f).linkUp = s.linkUp := rfl
@[simp] theorem State.modProbe_lane0 (i) (f): (s.modProbe i f).lane0 = s.lane0 := rfl
@[simp] theorem State.modProbe_lane1 (i) (f): (s.modProbe i f).lane1 = s.lane1 := rfl
@[simp] theorem State.modProbe_failCnt (i) (f): (s.modProbe i f).failCnt = s.failCnt := rfl
@[simp] theorem State.modProbe_replayCnt (i) (f): (s.modProbe i f).replayCnt = s.replayCnt := rfl
@[simp] theorem State.modProbe_memCorr (i) (f): (s.modProbe i f).memCorr = s.memCorr := rfl
@[simp] theorem State.modProbe_memUncorr (i) (f): (s.modProbe i f).memUncorr = s.memUncorr := rfl
@[simp] theorem State.modProbe_jrnlCorr (i) (f): (s.modProbe i f).jrnlCorr = s.jrnlCorr := rfl
@[simp] theorem State.modProbe_jrnlUncorr (i) (f): (s.modProbe i f).jrnlUncorr = s.jrnlUncorr := rfl
@[simp] theorem State.modProbe_drive (i) (f): (s.modProbe i f).drive = s.drive := rfl
@[simp] theorem State.modProbe_cdrvOff (i) (f): (s.modProbe i f).cdrvOff = s.cdrvOff := rfl
@[simp] theorem State.modProbe_dbgBlock (i) (f): (s.modProbe i f).dbgBlock = s.dbgBlock := rfl

@[simp] theorem State.setReg_pending (i) (w): (s.setReg i w).pending = s.pending := rfl
@[simp] theorem State.setReg_now (i) (w): (s.setReg i w).now = s.now := rfl
@[simp] theorem State.setReg_free (i) (w): (s.setReg i w).free = s.free := rfl
@[simp] theorem State.setReg_regs (i) (w): (s.setReg i w).regs = put resetWord s.regs i w := rfl
@[simp] theorem State.setReg_sealRecord (i) (w): (s.setReg i w).sealRecord = s.sealRecord := rfl
@[simp] theorem State.setReg_mem (i) (w): (s.setReg i w).mem = s.mem := rfl
@[simp] theorem State.setReg_memErr (i) (w): (s.setReg i w).memErr = s.memErr := rfl
@[simp] theorem State.setReg_initLines (i) (w): (s.setReg i w).initLines = s.initLines := rfl
@[simp] theorem State.setReg_power (i) (w): (s.setReg i w).power = s.power := rfl
@[simp] theorem State.setReg_host (i) (w): (s.setReg i w).host = s.host := rfl
@[simp] theorem State.setReg_rings (i) (w): (s.setReg i w).rings = s.rings := rfl
@[simp] theorem State.setReg_loop (i) (w): (s.setReg i w).loop = s.loop := rfl
@[simp] theorem State.setReg_regions (i) (w): (s.setReg i w).regions = s.regions := rfl
@[simp] theorem State.setReg_islands (i) (w): (s.setReg i w).islands = s.islands := rfl
@[simp] theorem State.setReg_units (i) (w): (s.setReg i w).units = s.units := rfl
@[simp] theorem State.setReg_tripActive (i) (w): (s.setReg i w).tripActive = s.tripActive := rfl
@[simp] theorem State.setReg_dutyIn (i) (w): (s.setReg i w).dutyIn = s.dutyIn := rfl
@[simp] theorem State.setReg_banks (i) (w): (s.setReg i w).banks = s.banks := rfl
@[simp] theorem State.setReg_channels (i) (w): (s.setReg i w).channels = s.channels := rfl
@[simp] theorem State.setReg_chains (i) (w): (s.setReg i w).chains = s.chains := rfl
@[simp] theorem State.setReg_trigs (i) (w): (s.setReg i w).trigs = s.trigs := rfl
@[simp] theorem State.setReg_sessions (i) (w): (s.setReg i w).sessions = s.sessions := rfl
@[simp] theorem State.setReg_net (i) (w): (s.setReg i w).net = s.net := rfl
@[simp] theorem State.setReg_time (i) (w): (s.setReg i w).time = s.time := rfl
@[simp] theorem State.setReg_pair (i) (w): (s.setReg i w).pair = s.pair := rfl
@[simp] theorem State.setReg_saf (i) (w): (s.setReg i w).saf = s.saf := rfl
@[simp] theorem State.setReg_arb (i) (w): (s.setReg i w).arb = s.arb := rfl
@[simp] theorem State.setReg_weirs (i) (w): (s.setReg i w).weirs = s.weirs := rfl
@[simp] theorem State.setReg_events (i) (w): (s.setReg i w).events = s.events := rfl
@[simp] theorem State.setReg_mrP (i) (w): (s.setReg i w).mrP = s.mrP := rfl
@[simp] theorem State.setReg_mrC (i) (w): (s.setReg i w).mrC = s.mrC := rfl
@[simp] theorem State.setReg_linkUp (i) (w): (s.setReg i w).linkUp = s.linkUp := rfl
@[simp] theorem State.setReg_lane0 (i) (w): (s.setReg i w).lane0 = s.lane0 := rfl
@[simp] theorem State.setReg_lane1 (i) (w): (s.setReg i w).lane1 = s.lane1 := rfl
@[simp] theorem State.setReg_failCnt (i) (w): (s.setReg i w).failCnt = s.failCnt := rfl
@[simp] theorem State.setReg_replayCnt (i) (w): (s.setReg i w).replayCnt = s.replayCnt := rfl
@[simp] theorem State.setReg_memCorr (i) (w): (s.setReg i w).memCorr = s.memCorr := rfl
@[simp] theorem State.setReg_memUncorr (i) (w): (s.setReg i w).memUncorr = s.memUncorr := rfl
@[simp] theorem State.setReg_jrnlCorr (i) (w): (s.setReg i w).jrnlCorr = s.jrnlCorr := rfl
@[simp] theorem State.setReg_jrnlUncorr (i) (w): (s.setReg i w).jrnlUncorr = s.jrnlUncorr := rfl
@[simp] theorem State.setReg_drive (i) (w): (s.setReg i w).drive = s.drive := rfl
@[simp] theorem State.setReg_cdrvOff (i) (w): (s.setReg i w).cdrvOff = s.cdrvOff := rfl
@[simp] theorem State.setReg_dbgBlock (i) (w): (s.setReg i w).dbgBlock = s.dbgBlock := rfl

@[simp] theorem State.store_pending (a l) : (s.store a l).pending = s.pending := rfl
@[simp] theorem State.store_now (a l) : (s.store a l).now = s.now := rfl
@[simp] theorem State.store_free (a l) : (s.store a l).free = s.free := rfl
@[simp] theorem State.store_regs (a l) : (s.store a l).regs = s.regs := rfl
@[simp] theorem State.store_sealRecord (a l) : (s.store a l).sealRecord = s.sealRecord := rfl
@[simp] theorem State.store_mem (a l) : (s.store a l).mem = memPut s.mem a (s.taken a l) := rfl
@[simp] theorem State.store_memErr (a l) : (s.store a l).memErr = s.memErr.filter fun p => !wholeLine a l.length p.1 := rfl
@[simp] theorem State.store_initLines (a l) : (s.store a l).initLines = s.initLines ++ s.newLines a l.length := rfl
@[simp] theorem State.store_power (a l) : (s.store a l).power = s.power := rfl
@[simp] theorem State.store_host (a l) : (s.store a l).host = s.host := rfl
@[simp] theorem State.store_rings (a l) : (s.store a l).rings = s.rings := rfl
@[simp] theorem State.store_loop (a l) : (s.store a l).loop = s.loop := rfl
@[simp] theorem State.store_regions (a l) : (s.store a l).regions = s.regions := rfl
@[simp] theorem State.store_islands (a l) : (s.store a l).islands = s.islands := rfl
@[simp] theorem State.store_units (a l) : (s.store a l).units = s.units := rfl
@[simp] theorem State.store_tripActive (a l) : (s.store a l).tripActive = s.tripActive := rfl
@[simp] theorem State.store_dutyIn (a l) : (s.store a l).dutyIn = s.dutyIn := rfl
@[simp] theorem State.store_banks (a l) : (s.store a l).banks = s.banks := rfl
@[simp] theorem State.store_channels (a l) : (s.store a l).channels = s.channels := rfl
@[simp] theorem State.store_chains (a l) : (s.store a l).chains = s.chains := rfl
@[simp] theorem State.store_trigs (a l) : (s.store a l).trigs = s.trigs := rfl
@[simp] theorem State.store_sessions (a l) : (s.store a l).sessions = s.sessions := rfl
@[simp] theorem State.store_net (a l) : (s.store a l).net = s.net := rfl
@[simp] theorem State.store_time (a l) : (s.store a l).time = s.time := rfl
@[simp] theorem State.store_pair (a l) : (s.store a l).pair = s.pair := rfl
@[simp] theorem State.store_saf (a l) : (s.store a l).saf = s.saf := rfl
@[simp] theorem State.store_arb (a l) : (s.store a l).arb = s.arb := rfl
@[simp] theorem State.store_weirs (a l) : (s.store a l).weirs = s.weirs := rfl
@[simp] theorem State.store_events (a l) : (s.store a l).events = s.events := rfl
@[simp] theorem State.store_mrP (a l) : (s.store a l).mrP = s.mrP := rfl
@[simp] theorem State.store_mrC (a l) : (s.store a l).mrC = s.mrC := rfl
@[simp] theorem State.store_linkUp (a l) : (s.store a l).linkUp = s.linkUp := rfl
@[simp] theorem State.store_lane0 (a l) : (s.store a l).lane0 = s.lane0 := rfl
@[simp] theorem State.store_lane1 (a l) : (s.store a l).lane1 = s.lane1 := rfl
@[simp] theorem State.store_failCnt (a l) : (s.store a l).failCnt = s.failCnt := rfl
@[simp] theorem State.store_replayCnt (a l) : (s.store a l).replayCnt = s.replayCnt := rfl
@[simp] theorem State.store_memCorr (a l) : (s.store a l).memCorr = s.memCorr := rfl
@[simp] theorem State.store_memUncorr (a l) : (s.store a l).memUncorr = s.memUncorr := rfl
@[simp] theorem State.store_jrnlCorr (a l) : (s.store a l).jrnlCorr = s.jrnlCorr := rfl
@[simp] theorem State.store_jrnlUncorr (a l) : (s.store a l).jrnlUncorr = s.jrnlUncorr := rfl
@[simp] theorem State.store_drive (a l) : (s.store a l).drive = s.drive := rfl
@[simp] theorem State.store_cdrvOff (a l) : (s.store a l).cdrvOff = s.cdrvOff := rfl
@[simp] theorem State.store_dbgBlock (a l) : (s.store a l).dbgBlock = s.dbgBlock := rfl

@[simp] theorem State.fresh_pending : s.fresh.2.pending = s.pending := rfl
@[simp] theorem State.fresh_now : s.fresh.2.now = s.now := rfl
@[simp] theorem State.fresh_free : s.fresh.2.free = s.free + 1 := rfl
@[simp] theorem State.fresh_regs : s.fresh.2.regs = s.regs := rfl
@[simp] theorem State.fresh_sealRecord : s.fresh.2.sealRecord = s.sealRecord := rfl
@[simp] theorem State.fresh_mem : s.fresh.2.mem = s.mem := rfl
@[simp] theorem State.fresh_memErr : s.fresh.2.memErr = s.memErr := rfl
@[simp] theorem State.fresh_initLines : s.fresh.2.initLines = s.initLines := rfl
@[simp] theorem State.fresh_power : s.fresh.2.power = s.power := rfl
@[simp] theorem State.fresh_host : s.fresh.2.host = s.host := rfl
@[simp] theorem State.fresh_rings : s.fresh.2.rings = s.rings := rfl
@[simp] theorem State.fresh_loop : s.fresh.2.loop = s.loop := rfl
@[simp] theorem State.fresh_regions : s.fresh.2.regions = s.regions := rfl
@[simp] theorem State.fresh_islands : s.fresh.2.islands = s.islands := rfl
@[simp] theorem State.fresh_units : s.fresh.2.units = s.units := rfl
@[simp] theorem State.fresh_tripActive : s.fresh.2.tripActive = s.tripActive := rfl
@[simp] theorem State.fresh_dutyIn : s.fresh.2.dutyIn = s.dutyIn := rfl
@[simp] theorem State.fresh_banks : s.fresh.2.banks = s.banks := rfl
@[simp] theorem State.fresh_channels : s.fresh.2.channels = s.channels := rfl
@[simp] theorem State.fresh_chains : s.fresh.2.chains = s.chains := rfl
@[simp] theorem State.fresh_trigs : s.fresh.2.trigs = s.trigs := rfl
@[simp] theorem State.fresh_sessions : s.fresh.2.sessions = s.sessions := rfl
@[simp] theorem State.fresh_net : s.fresh.2.net = s.net := rfl
@[simp] theorem State.fresh_time : s.fresh.2.time = s.time := rfl
@[simp] theorem State.fresh_pair : s.fresh.2.pair = s.pair := rfl
@[simp] theorem State.fresh_saf : s.fresh.2.saf = s.saf := rfl
@[simp] theorem State.fresh_arb : s.fresh.2.arb = s.arb := rfl
@[simp] theorem State.fresh_weirs : s.fresh.2.weirs = s.weirs := rfl
@[simp] theorem State.fresh_events : s.fresh.2.events = s.events := rfl
@[simp] theorem State.fresh_mrP : s.fresh.2.mrP = s.mrP := rfl
@[simp] theorem State.fresh_mrC : s.fresh.2.mrC = s.mrC := rfl
@[simp] theorem State.fresh_linkUp : s.fresh.2.linkUp = s.linkUp := rfl
@[simp] theorem State.fresh_lane0 : s.fresh.2.lane0 = s.lane0 := rfl
@[simp] theorem State.fresh_lane1 : s.fresh.2.lane1 = s.lane1 := rfl
@[simp] theorem State.fresh_failCnt : s.fresh.2.failCnt = s.failCnt := rfl
@[simp] theorem State.fresh_replayCnt : s.fresh.2.replayCnt = s.replayCnt := rfl
@[simp] theorem State.fresh_memCorr : s.fresh.2.memCorr = s.memCorr := rfl
@[simp] theorem State.fresh_memUncorr : s.fresh.2.memUncorr = s.memUncorr := rfl
@[simp] theorem State.fresh_jrnlCorr : s.fresh.2.jrnlCorr = s.jrnlCorr := rfl
@[simp] theorem State.fresh_jrnlUncorr : s.fresh.2.jrnlUncorr = s.jrnlUncorr := rfl
@[simp] theorem State.fresh_drive : s.fresh.2.drive = s.drive := rfl
@[simp] theorem State.fresh_cdrvOff : s.fresh.2.cdrvOff = s.cdrvOff := rfl
@[simp] theorem State.fresh_dbgBlock : s.fresh.2.dbgBlock = s.dbgBlock := rfl

@[simp] theorem State.modMr_pending (d f) : (s.modMr d f).pending = s.pending := by cases d <;> rfl
@[simp] theorem State.modMr_now (d f) : (s.modMr d f).now = s.now := by cases d <;> rfl
@[simp] theorem State.modMr_free (d f) : (s.modMr d f).free = s.free := by cases d <;> rfl
@[simp] theorem State.modMr_regs (d f) : (s.modMr d f).regs = s.regs := by cases d <;> rfl
@[simp] theorem State.modMr_sealRecord (d f) : (s.modMr d f).sealRecord = s.sealRecord := by cases d <;> rfl
@[simp] theorem State.modMr_mem (d f) : (s.modMr d f).mem = s.mem := by cases d <;> rfl
@[simp] theorem State.modMr_memErr (d f) : (s.modMr d f).memErr = s.memErr := by cases d <;> rfl
@[simp] theorem State.modMr_initLines (d f) : (s.modMr d f).initLines = s.initLines := by cases d <;> rfl
@[simp] theorem State.modMr_power (d f) : (s.modMr d f).power = s.power := by cases d <;> rfl
@[simp] theorem State.modMr_host (d f) : (s.modMr d f).host = s.host := by cases d <;> rfl
@[simp] theorem State.modMr_rings (d f) : (s.modMr d f).rings = s.rings := by cases d <;> rfl
@[simp] theorem State.modMr_loop (d f) : (s.modMr d f).loop = s.loop := by cases d <;> rfl
@[simp] theorem State.modMr_regions (d f) : (s.modMr d f).regions = s.regions := by cases d <;> rfl
@[simp] theorem State.modMr_islands (d f) : (s.modMr d f).islands = s.islands := by cases d <;> rfl
@[simp] theorem State.modMr_units (d f) : (s.modMr d f).units = s.units := by cases d <;> rfl
@[simp] theorem State.modMr_tripActive (d f) : (s.modMr d f).tripActive = s.tripActive := by cases d <;> rfl
@[simp] theorem State.modMr_dutyIn (d f) : (s.modMr d f).dutyIn = s.dutyIn := by cases d <;> rfl
@[simp] theorem State.modMr_banks (d f) : (s.modMr d f).banks = s.banks := by cases d <;> rfl
@[simp] theorem State.modMr_channels (d f) : (s.modMr d f).channels = s.channels := by cases d <;> rfl
@[simp] theorem State.modMr_chains (d f) : (s.modMr d f).chains = s.chains := by cases d <;> rfl
@[simp] theorem State.modMr_trigs (d f) : (s.modMr d f).trigs = s.trigs := by cases d <;> rfl
@[simp] theorem State.modMr_sessions (d f) : (s.modMr d f).sessions = s.sessions := by cases d <;> rfl
@[simp] theorem State.modMr_net (d f) : (s.modMr d f).net = s.net := by cases d <;> rfl
@[simp] theorem State.modMr_time (d f) : (s.modMr d f).time = s.time := by cases d <;> rfl
@[simp] theorem State.modMr_pair (d f) : (s.modMr d f).pair = s.pair := by cases d <;> rfl
@[simp] theorem State.modMr_saf (d f) : (s.modMr d f).saf = s.saf := by cases d <;> rfl
@[simp] theorem State.modMr_arb (d f) : (s.modMr d f).arb = s.arb := by cases d <;> rfl
@[simp] theorem State.modMr_weirs (d f) : (s.modMr d f).weirs = s.weirs := by cases d <;> rfl
@[simp] theorem State.modMr_events (d f) : (s.modMr d f).events = s.events := by cases d <;> rfl
@[simp] theorem State.modMr_linkUp (d f) : (s.modMr d f).linkUp = s.linkUp := by cases d <;> rfl
@[simp] theorem State.modMr_lane0 (d f) : (s.modMr d f).lane0 = s.lane0 := by cases d <;> rfl
@[simp] theorem State.modMr_lane1 (d f) : (s.modMr d f).lane1 = s.lane1 := by cases d <;> rfl
@[simp] theorem State.modMr_failCnt (d f) : (s.modMr d f).failCnt = s.failCnt := by cases d <;> rfl
@[simp] theorem State.modMr_replayCnt (d f) : (s.modMr d f).replayCnt = s.replayCnt := by cases d <;> rfl
@[simp] theorem State.modMr_memCorr (d f) : (s.modMr d f).memCorr = s.memCorr := by cases d <;> rfl
@[simp] theorem State.modMr_memUncorr (d f) : (s.modMr d f).memUncorr = s.memUncorr := by cases d <;> rfl
@[simp] theorem State.modMr_jrnlCorr (d f) : (s.modMr d f).jrnlCorr = s.jrnlCorr := by cases d <;> rfl
@[simp] theorem State.modMr_jrnlUncorr (d f) : (s.modMr d f).jrnlUncorr = s.jrnlUncorr := by cases d <;> rfl
@[simp] theorem State.modMr_drive (d f) : (s.modMr d f).drive = s.drive := by cases d <;> rfl
@[simp] theorem State.modMr_cdrvOff (d f) : (s.modMr d f).cdrvOff = s.cdrvOff := by cases d <;> rfl
@[simp] theorem State.modMr_dbgBlock (d f) : (s.modMr d f).dbgBlock = s.dbgBlock := by cases d <;> rfl

@[simp] theorem State.modMr_same (d f) : (s.modMr d f).mr d = f (s.mr d) := by cases d <;> rfl

end Sys2Proof.Machine
end

