-- ==== Sys2Proof/Laws/Table.lean ====
section
/-!
SUPPORT. Vectors, sparse tables and package memory: a read after a write, the canonical form, and what a block write leaves alone.
-/
namespace Sys2Proof.Machine

open Sys2Proof

section Vectors

variable {α : Type} {n : Nat}

@[simp] theorem upd_same (v : Vector α n) (i : Fin n) (f : α → α) : (upd v i f)[i] = f v[i] := by
  simp [upd]

theorem upd_other (v : Vector α n) {i j : Fin n} (f : α → α) (h : i ≠ j) : (upd v i f)[j] = v[j] := by
  have : i.val ≠ j.val := fun e => h (Fin.ext e)
  simp [upd, Vector.getElem_set, this]

end Vectors

section Tables

variable {α : Type} [DecidableEq α] {d : Nat → α}

theorem look_above {l : List (Nat × α)} {k : Nat} (h : ∀ p ∈ l, k < p.1) : look d l k = d k := by
  induction l with
  | nil => rfl
  | cons p t ih =>
    have hp := h p (by simp)
    rw [look, if_neg (by omega)]
    exact ih fun q hq => h q (by simp [hq])

theorem tableWf_cons {k : Nat} {x : α} {t : List (Nat × α)} :
    tableWf d ((k, x) :: t) = true ↔ x ≠ d k ∧ (∀ p ∈ t, k < p.1) ∧ tableWf d t = true := by
  simp [tableWf, and_assoc]

/-- An entry of a table after a write is an old one or the one written. -/
theorem mem_put {l : List (Nat × α)} {k : Nat} {x : α} {p : Nat × α} (h : p ∈ put d l k x) : p ∈ l ∨ (p = (k, x) ∧ x ≠ d k) := by
  induction l with
  | nil => by_cases hx : x = d k <;> simp_all [put]
  | cons q t ih =>
    rw [put] at h
    split at h
    · by_cases hx : x = d k <;> simp_all <;> tauto
    · split at h
      · by_cases hx : x = d k <;> simp_all <;> tauto
      · rcases List.mem_cons.1 h with rfl | h
        · simp
        · rcases ih h with h | h <;> simp [h]

/-- A write keeps the canonical form. -/
theorem tableWf_put {l : List (Nat × α)} (k : Nat) (x : α) (h : tableWf d l = true) : tableWf d (put d l k x) = true := by
  induction l with
  | nil => by_cases hx : x = d k <;> simp [put, hx, tableWf]
  | cons p t ih =>
    obtain ⟨j, y⟩ := p
    obtain ⟨hy, hj, ht⟩ := tableWf_cons.1 h
    rw [put]
    split
    · rename_i hk
      by_cases hx : x = d k
      · rw [if_pos hx]; exact h
      · rw [if_neg hx]
        refine tableWf_cons.2 ⟨hx, fun p hp => ?_, h⟩
        rcases List.mem_cons.1 hp with rfl | hp
        · exact hk
        · exact lt_trans hk (hj p hp)
    · split
      · rename_i hk
        by_cases hx : x = d k
        · rw [if_pos hx]; exact ht
        · rw [if_neg hx]
          exact tableWf_cons.2 ⟨hx, fun p hp => hk ▸ hj p hp, ht⟩
      · rename_i h1 h2
        refine tableWf_cons.2 ⟨hy, fun p hp => ?_, ih ht⟩
        rcases mem_put hp with hp | ⟨rfl, -⟩
        · exact hj p hp
        · show j < k; omega

/-- A part of a canonical table is canonical. -/
theorem tableWf_filter {l : List (Nat × α)} (f : Nat × α → Bool) (h : tableWf d l = true) : tableWf d (l.filter f) = true := by
  induction l with
  | nil => rfl
  | cons p t ih =>
    obtain ⟨j, y⟩ := p
    obtain ⟨hy, hj, ht⟩ := tableWf_cons.1 h
    rw [List.filter_cons]
    split
    · exact tableWf_cons.2 ⟨hy, fun q hq => hj q (List.mem_filter.1 hq).1, ih ht⟩
    · exact ih ht

/-- Writes one after the other keep the canonical form. -/
theorem tableWf_puts {m : List (Nat × α)} : ∀ {l : List (Nat × α)}, tableWf d l = true →
    tableWf d (m.foldl (fun l p => put d l p.1 p.2) l) = true := by
  induction m with
  | nil => exact fun h => h
  | cons p t ih => exact fun h => ih (tableWf_put _ _ h)

/-- An entry after writes one after the other is an old one or one of those written. -/
theorem mem_puts {m : List (Nat × α)} {p : Nat × α} : ∀ {l : List (Nat × α)}, p ∈ m.foldl (fun l p => put d l p.1 p.2) l → p ∈ l ∨ p ∈ m := by
  induction m with
  | nil => exact fun h => .inl h
  | cons q t ih =>
    intro l h
    rcases ih h with h | h
    · rcases mem_put h with h | ⟨rfl, -⟩
      · exact .inl h
      · exact .inr (by simp)
    · exact .inr (by simp [h])

/-- A read after a write to the same key. -/
theorem look_put_same {l : List (Nat × α)} (k : Nat) (x : α) (h : tableWf d l = true) : look d (put d l k x) k = x := by
  induction l with
  | nil => by_cases hx : x = d k <;> simp [put, hx, look]
  | cons p t ih =>
    obtain ⟨j, y⟩ := p
    obtain ⟨-, hj, ht⟩ := tableWf_cons.1 h
    rw [put]
    split
    · rename_i hk
      by_cases hx : x = d k
      · rw [if_pos hx, look, if_neg (by omega), hx]
        exact look_above fun q hq => lt_trans hk (hj q hq)
      · rw [if_neg hx, look, if_pos rfl]
    · split
      · rename_i hk
        by_cases hx : x = d k
        · rw [if_pos hx, hx, hk]; exact look_above hj
        · rw [if_neg hx, look, if_pos rfl]
      · rename_i h1 h2
        rw [look, if_neg (by omega)]
        exact ih ht

/-- A write leaves every other key alone. -/
theorem look_put_other {l : List (Nat × α)} (k : Nat) (x : α) {i : Nat} (hi : i ≠ k) (h : tableWf d l = true) :
    look d (put d l k x) i = look d l i := by
  induction l with
  | nil => by_cases hx : x = d k <;> simp [put, hx, look, Ne.symm hi]
  | cons p t ih =>
    obtain ⟨j, y⟩ := p
    obtain ⟨-, hj, ht⟩ := tableWf_cons.1 h
    rw [put]
    split
    · by_cases hx : x = d k
      · rw [if_pos hx]
      · rw [if_neg hx, look, if_neg (Ne.symm hi)]
    · split
      · rename_i hk
        subst hk
        by_cases hx : x = d k
        · rw [if_pos hx, look, if_neg (Ne.symm hi)]
        · rw [if_neg hx, look, if_neg (Ne.symm hi), look, if_neg (Ne.symm hi)]
      · rw [look, look, ih ht]

end Tables

section Memory

theorem memPut_wf : ∀ (l : List Byte) (m : List Host.Cell) (a : Nat), Memory.wf m = true → Memory.wf (memPut m a l) = true
  | [], _, _, h => h
  | b :: l, m, a, h => memPut_wf l _ (a + 1) (tableWf_put a b h)

/-- A block write keeps the canonical form of package memory. -/
theorem store_wf (s : State) (a : Nat) (l : List Byte) (h : Memory.wf s.mem = true) : Memory.wf (s.store a l).mem = true :=
  memPut_wf _ s.mem a h

theorem look_memPut_outside : ∀ (l : List Byte) (m : List Host.Cell) (a i : Nat), Memory.wf m = true → i < a ∨ a + l.length ≤ i →
    look memDefault (memPut m a l) i = look memDefault m i
  | [], _, _, _, _, _ => rfl
  | b :: l, m, a, i, h, hi => by
    have hi' : i < a ∨ a + (l.length + 1) ≤ i := by simpa using hi
    rw [memPut, look_memPut_outside l _ (a + 1) i (tableWf_put a b h) (by omega), look_put_other a b (by omega) h]

theorem look_memPut_inside : ∀ (l : List Byte) (m : List Host.Cell) (a i : Nat), Memory.wf m = true → (hi : i < l.length) →
    look memDefault (memPut m a l) (a + i) = l[i]
  | [], _, _, _, _, hi => by simp at hi
  | b :: l, m, a, 0, h, _ => by
    rw [memPut, look_memPut_outside l _ (a + 1) (a + 0) (tableWf_put a b h) (by omega)]
    simpa using look_put_same a b h
  | b :: l, m, a, i + 1, h, hi => by
    have hi' : i < l.length := by simpa using hi
    rw [memPut]
    have := look_memPut_inside l (put memDefault m a b) (a + 1) i (tableWf_put a b h) hi'
    rw [show a + (i + 1) = a + 1 + i by omega]
    simpa using this

/-- A block write takes as many bytes as it is given. -/
@[simp] theorem taken_length (s : State) (a : Nat) (l : List Byte) : (s.taken a l).length = l.length := by
  unfold State.taken
  split <;> simp

/-- The byte that a block write leaves at an address it covers: the one written, but in a line that is not initialised and that it does not
cover whole, where the old one stands (R535). -/
theorem taken_getElem (s : State) (a i : Nat) (l : List Byte) (hi : i < l.length) :
    (s.taken a l)[i]'(by simpa using hi) =
      if s.power.memInit || decide (a + l.length ≤ 0x150000) || s.lineReady ((a + i) / 64) || wholeLine a l.length ((a + i) / 64) then l[i]
      else s.byte (a + i) := by
  by_cases h : (s.power.memInit || decide (a + l.length ≤ 0x150000)) = true
  · simp [State.taken, h]
  · simp [State.taken, h]

/-- A byte outside a block write reads as before. -/
theorem byte_store_outside (s : State) (a i : Nat) (l : List Byte) (h : Memory.wf s.mem = true) (hi : i < a ∨ a + l.length ≤ i) :
    (s.store a l).byte i = s.byte i := look_memPut_outside _ s.mem a i h (by simpa using hi)

/-- A byte that a block write covers reads as the write left it. -/
theorem byte_store_inside (s : State) (a i : Nat) (l : List Byte) (h : Memory.wf s.mem = true) (hi : i < l.length) :
    (s.store a l).byte (a + i) = (s.taken a l)[i]'(by simpa using hi) := look_memPut_inside _ s.mem a i h (by simpa using hi)

end Memory

end Sys2Proof.Machine
end

