-- ==== Sys2Proof/Laws/Words.lean ====
section
/-!
SUPPORT. Register words stay sound: canonical, reserved bits 0. One lemma per operation that writes a register word, seals, or restores
the words of a die; with it each keeps the queue.
-/
namespace Sys2Proof.Machine

open Sys2Proof

/-! ## What a register stores -/

theorem setFld_and {m x : Word32} {lsb n v : Nat} (h : BitVec.ofNat 32 ((2 ^ n - 1) * 2 ^ lsb) &&& ~~~m = 0) (hx : x &&& ~~~m = 0) :
    setFld x lsb n v &&& ~~~m = 0 := by
  unfold setFld
  generalize BitVec.ofNat 32 ((2 ^ n - 1) * 2 ^ lsb) = f at *
  generalize BitVec.ofNat 32 (v * 2 ^ lsb) = g
  ext i hi
  have h1 := congrArg (fun b : Word32 => b[i]) h
  have h2 := congrArg (fun b : Word32 => b[i]) hx
  simp at h1 h2 ⊢
  tauto

theorem applyLims_and {m : Word32} : ∀ {l : List Lim} {x : Word32}, (∀ q ∈ l, BitVec.ofNat 32 ((2 ^ q.width - 1) * 2 ^ q.lsb) &&& ~~~m = 0) →
    x &&& ~~~m = 0 → applyLims l x &&& ~~~m = 0
  | [], _, _, hx => hx
  | q :: t, x, h, hx => by
    rw [applyLims]
    exact applyLims_and (fun p hp => h p (by simp [hp])) (setFld_and (h q (by simp)) hx)

theorem lims_writable : ∀ r ∈ regTable, ∀ q ∈ r.lims, BitVec.ofNat 32 ((2 ^ q.width - 1) * 2 ^ q.lsb) &&& ~~~(r.rws ||| r.rw) = 0 := by
  decide

theorem fltCfg_writable : ∀ r ∈ regTable, r.base = rFltCfg 0 → BitVec.ofNat 32 ((2 ^ 4 - 1) * 2 ^ 4) &&& ~~~(r.rws ||| r.rw) = 0 := by
  decide

theorem evtCfg_writable : ∀ r ∈ regTable, r.base = rEvtCfg 0 →
    BitVec.ofNat 32 ((2 ^ 3 - 1) * 2 ^ 0) &&& ~~~(r.rws ||| r.rw) = 0 ∧ BitVec.ofNat 32 ((2 ^ 1 - 1) * 2 ^ 7) &&& ~~~(r.rws ||| r.rw) = 0 := by
  decide

/-- A stored word has its reserved bits 0 (R8). -/
theorem storedWord_and (off : Nat) (w : Word32) : storedWord off w &&& ~~~writableBits off = 0 := by
  unfold storedWord writableBits
  cases hr : regRow off with
  | none => simp
  | some r =>
    have hm : r ∈ regTable := List.mem_of_find?_eq_some hr
    have hx : applyLims r.lims (w &&& (r.rws ||| r.rw)) &&& ~~~(r.rws ||| r.rw) = 0 := by
      refine applyLims_and (lims_writable r hm) ?_
      rw [BitVec.and_assoc]
      simp
    dsimp only
    split
    · rename_i hb
      exact setFld_and (fltCfg_writable r hm hb) hx
    · split
      · rename_i hb
        obtain ⟨h0, h7⟩ := evtCfg_writable r hm hb
        split
        · simp
        · have hy : ∀ (c : Prop) [Decidable c], (if c then setFld (applyLims r.lims (w &&& (r.rws ||| r.rw))) 0 3 7
              else applyLims r.lims (w &&& (r.rws ||| r.rw))) &&& ~~~(r.rws ||| r.rw) = 0 := by
            intro c _
            split
            · exact setFld_and h0 hx
            · exact hx
          split <;> split
          · exact setFld_and h0 (hy _)
          · exact setFld_and h0 (setFld_and h7 (hy _))
          · exact hy _
          · exact setFld_and h7 (hy _)
      · split
        · simp
        · exact hx

/-! ## Tables of words -/

theorem wordsSound_nil : WordsSound [] := ⟨rfl, by simp⟩

theorem wordsSound_put {l : List (Nat × Word32)} {off : Nat} {w : Word32} (h : WordsSound l) (hw : w &&& ~~~writableBits off = 0) :
    WordsSound (put resetWord l off w) := by
  refine ⟨tableWf_put off w h.1, fun p hp => ?_⟩
  rcases mem_put hp with hp | ⟨rfl, -⟩
  · exact h.2 p hp
  · exact hw

theorem wordsSound_filter {l : List (Nat × Word32)} (f : Nat × Word32 → Bool) (h : WordsSound l) : WordsSound (l.filter f) :=
  ⟨tableWf_filter f h.1, fun p hp => h.2 p (List.mem_filter.1 hp).1⟩

theorem wordsSound_puts {l m : List (Nat × Word32)} (h : WordsSound l) (hm : WordsSound m) (f : Nat × Word32 → Bool) :
    WordsSound ((m.filter f).foldl (fun l p => put resetWord l p.1 p.2) l) := by
  refine ⟨tableWf_puts h.1, fun p hp => ?_⟩
  rcases mem_puts hp with hp | hp
  · exact h.2 p hp
  · exact hm.2 p (List.mem_filter.1 hp).1

/-! ## The operations -/

/-- The queue is `q` and the register words are sound. -/
def Sound (q : List Instr) (s : State) : Prop := s.pending = q ∧ RegsSound s

variable {q : List Instr}

/-- What keeps the frame keeps soundness. -/
theorem Sound.of_frame {s t : State} (h : Sound q s) (ht : t.frame = s.frame) : Sound q t := by
  have h1 : t.pending = s.pending := congrArg (fun x => x.1) ht
  have h2 : t.regs = s.regs := congrArg (fun x => x.2.1) ht
  have h3 : t.sealRecord = s.sealRecord := congrArg (fun x => x.2.2) ht
  exact ⟨h1.trans h.1, by rw [h2]; exact h.2.1, by rw [h3]; exact h.2.2⟩

theorem keepWord_sound (off : Nat) (w : Word32) (s : State) (hw : w &&& ~~~writableBits off = 0) (h : Sound q s) : Sound q (keepWord off w s) := by
  obtain ⟨hq, hr, hs⟩ := h
  unfold keepWord
  split
  · exact ⟨hq, wordsSound_put hr hw, wordsSound_put hs hw⟩
  · exact ⟨hq, wordsSound_put hr hw, hs⟩

theorem writeWord_sound (off : Nat) (v : Word32) (s : State) (h : Sound q s) : Sound q (writeWord off v s) := by
  unfold writeWord
  split
  · exact h
  · extract_lets old m new t
    have ht : Sound q t := by
      show Sound q (if _ then _ else _)
      split
      · exact h
      · exact keepWord_sound _ _ _ (storedWord_and _ _) h
    split
    · exact ht.of_frame (rwsWritten_frame _ rfl)
    · exact ht

/-- An operation that keeps the frame keeps soundness. -/
theorem Sound.keep {f : State → State} (hf : ∀ t y, t.frame = y → (f t).frame = y) {s : State} (h : Sound q s) : Sound q (f s) :=
  h.of_frame (hf _ _ rfl)

theorem Sound.ite {c : Prop} [Decidable c] {s t : State} (hs : Sound q s) (ht : Sound q t) : Sound q (if c then s else t) := by
  split
  · exact hs
  · exact ht

theorem settle_sound (s0 s : State) (h : Sound q s) : Sound q (settle s0 s) := h.keep fun x _ => settle_frame _ x

theorem hostWord_sound (d : Die) (off : Nat) (v : Word32) (op : State → State) (s : State) (hop : ∀ t, Sound q t → Sound q (op t))
    (h : Sound q s) : Sound q (hostWord d off v op s) :=
  .ite h (.ite (.ite (h.keep fun t _ => readAs_frame _ t) h)
    (.ite (settle_sound s _ (hop s h)) (h.keep fun t _ => modHost_frame t _)))

theorem writeLanes_sound (r : RegionId) (v : Word32) (s : State) (h : Sound q s) : Sound q (writeLanes r v s) :=
  .ite (h.keep fun t _ => raise_frame _ _ _ _ t) (.ite (writeWord_sound _ _ _ h)
    ((writeWord_sound _ _ _ h).keep fun t _ e => dispatch_frame _ (showTbLimit_frame t e)))

theorem writeTbLanes_sound (v : Word32) (s : State) (h : Sound q s) : Sound q (writeTbLanes v s) :=
  .ite (writeWord_sound _ _ _ h) ((writeWord_sound _ _ _ h).keep fun t _ e => dispatch_frame _ (showTbLimit_frame t e))

theorem writeLockCfg_sound (v : Word32) (s : State) (h : Sound q s) : Sound q (writeLockCfg v s) :=
  (writeWord_sound _ _ _ h).keep fun t _ => loseLock_frame t

theorem injCtrl_writable (v : Word32) (n : Nat) : setFld (v &&& 0xFF) 2 3 n &&& ~~~writableBits rEvtInjCtrl = 0 := by
  have hm : writableBits rEvtInjCtrl = 0xFF := by decide
  rw [hm]
  refine setFld_and (by decide) ?_
  rw [BitVec.and_assoc]
  simp

theorem writeInjCtrl_sound (v : Word32) (s : State) (h : Sound q s) : Sound q (writeInjCtrl v s) := by
  unfold writeInjCtrl
  split
  · extract_lets top t
    have ht : Sound q t := keepWord_sound _ _ _ (injCtrl_writable _ _) h
    exact .ite (ht.keep fun u _ => modEvents_frame u _) ht
  · exact .ite (h.keep fun u _ => modEvents_frame u _) h

theorem injAddr_writable (v : Word32) : v &&& ~~~writableBits rEvtInjAddr = 0 := by
  have hm : writableBits rEvtInjAddr = 0xFFFFFFFF := by decide
  rw [hm]
  simp

theorem writeInjAddr_sound (v : Word32) (s : State) (h : Sound q s) : Sound q (writeInjAddr v s) :=
  .ite (keepWord_sound _ _ _ (injAddr_writable v) h) h

theorem writeTrg_sound (u : TrigId) (off : Nat) (v : Word32) (s : State) (h : Sound q s) : Sound q (writeTrg u off v s) := by
  unfold writeTrg
  extract_lets t bad t2 t3
  have ht : Sound q t := (writeWord_sound _ _ _ h).keep fun x _ => modTrig_frame x _ _
  have ht2 : Sound q t2 := .ite (ht.keep fun x _ => raise_frame _ _ _ _ x) ht
  have ht3 : Sound q t3 := ht2.keep fun x _ => modTrig_frame x _ _
  exact .ite ht3 (ht3.keep fun x _ => trgTake_frame _ x)

theorem writeWin_sound (ch : ChanId) (off : Nat) (v : Word32) (s : State) (h : Sound q s) : Sound q (writeWin ch off v s) :=
  (writeWord_sound off v s h).keep fun x _ => standWindow_frame ch x

theorem writeFltSrc_sound (n : ChainId) (v : Word32) (s : State) (h : Sound q s) : Sound q (writeFltSrc n v s) := by
  unfold writeFltSrc
  extract_lets old t new
  have ht : Sound q t := writeWord_sound _ _ _ h
  exact .ite (ht.keep fun x _ => modChain_frame x _ _) (.ite (ht.keep fun x _ => modChain_frame x _ _) ht)

/-! ## The Seal, resets and power -/

theorem makeSeal_sound (s : State) (h : Sound q s) : Sound q (makeSeal s) := by
  unfold makeSeal
  extract_lets t u v
  have ht : Sound q t := h.keep fun x _ => modPower_frame x _
  have hr : Sound q { t with sealRecord := t.regs } := ⟨ht.1, ht.2.1, ht.2.1⟩
  have hu : Sound q u := hr.keep fun x _ => enterDev_frame _ x
  have hv : Sound q v := hu.keep fun x _ e =>
    copyParams_frame _ (sealChains_frame _ (startBanks_frame _ (sealRings_frame _ (sealNet_frame _ e))))
  exact .ite (hv.keep fun x _ => raise_frame _ _ _ _ x) hv

theorem writeSeal_sound (v : Word32) (s : State) (h : Sound q s) : Sound q (writeSeal v s) := by
  unfold writeSeal
  refine .ite h ?_
  extract_lets r
  exact .ite (makeSeal_sound s h) (h.keep fun x _ => modPower_frame x _)

theorem restoreRegs_sound (d : Die) (s : State) (h : Sound q s) : Sound q (restoreRegs d s) :=
  ⟨h.1, wordsSound_puts (wordsSound_filter _ h.2.1) h.2.2 _, h.2.2⟩

theorem cDieUp_sound (s : State) (h : Sound q s) : Sound q (cDieUp s) := by
  unfold cDieUp
  extract_lets t0 t u v w p
  have ht : Sound q t := (h.keep fun x _ => modPower_frame x _).keep fun x _ => modSafCh_frame x _ _
  have hu : Sound q u := (restoreRegs_sound .c t ht).keep fun x _ e => closeCDieWindow_frame _ (endDieSafe_frame _ e)
  have hv : Sound q v := .ite (hu.keep fun x _ => loseMemory_frame x) hu
  have hw : Sound q w := hv.keep fun x _ e => resumeContexts_frame _ (reloadCode_frame _ (modLoop_frame x _ e))
  have hp : Sound q p.2 := hw.keep fun x _ => fresh_frame x
  exact hp.keep fun x _ e => reportOrphans_frame _ (startReplay_frame _ _ (raise_frame _ _ _ _ x e))

theorem pDieUp_sound (s : State) (h : Sound q s) : Sound q (pDieUp s) := by
  unfold pDieUp
  extract_lets core t u v w p
  have ht : Sound q t := restoreRegs_sound .p _ (h.keep fun x _ => modPower_frame x _)
  have hu : Sound q u := .ite ht (ht.keep fun x _ => channel1PowerUp_frame x)
  have hv : Sound q v := hu.keep fun x _ e => forAll_frame (fun i t _ => standWindow_frame i t) (restartTrigs_frame _ (startBanks_frame x e))
  have hw : Sound q w := hv.keep fun x _ => netUp_frame x
  have hp : Sound q p.2 := hw.keep fun x _ => fresh_frame x
  exact hp.keep fun x _ e => startReplay_frame _ _ (raise_frame _ _ _ _ x e)

theorem aoOnly_sound (s : State) (h : Sound q s) : Sound q (aoOnly s) := ⟨h.1, wordsSound_filter _ h.2.1, wordsSound_nil⟩

theorem powerOn_sound (s : State) (h : Sound q s) : Sound q (powerOn s) := by
  unfold powerOn
  refine Sound.of_frame ?_ (modPower_frame _ _ (aoAlone_frame _ _ rfl))
  exact ⟨h.1, wordsSound_nil, wordsSound_nil⟩

theorem goStabled_sound (s : State) (h : Sound q s) : Sound q (goStabled s) :=
  (aoOnly_sound _ (h.keep fun x _ => markOutage_frame x)).keep fun x _ e => modPower_frame _ _ (aoAlone_frame _ x e)

theorem wakeUp_sound (last : BitVec 3) (cause : BitVec 6) (s : State) (h : Sound q s) : Sound q (wakeUp last cause s) :=
  have ht := (aoOnly_sound s h).keep fun x _ e => modEvents_frame _ (fun v => { v with pbuf := s.events.pbuf })
    (modPower_frame _ (fun p => { p with lastReset := last, wakeCause := cause, failStabled := false, wakeAt := s.now })
      (aoAlone_frame .waking x e))
  .ite (ht.keep fun x _ => stand_frame _ _ x) ht

theorem idle_sound (s : State) (h : Sound q s) : Sound q (idle s) := h.keep fun x _ => idle_frame x

theorem enterStabled_sound (s : State) (h : Sound q s) : Sound q (enterStabled s) :=
  goStabled_sound _ (h.keep fun x _ => drainJournal_frame _ _ x)

theorem packageReset_sound (s : State) (h : Sound q s) : Sound q (packageReset s) := wakeUp_sound _ _ _ (enterStabled_sound s h)

theorem powerFail_sound (s : State) (h : Sound q s) : Sound q (powerFail s) := by
  unfold powerFail
  exact .ite ((goStabled_sound _ (h.keep fun x _ => modPower_frame x _)).keep fun x _ => signalFail_frame x)
    (.ite (h.keep fun x _ => signalFail_frame x) (h.keep fun x _ e => powerFailHandling_frame _ (signalFail_frame x e)))

theorem domainLost_sound (d : Domain) (s : State) (h : Sound q s) : Sound q (domainLost d s) := by
  unfold domainLost
  extract_lets bit mark
  have hm : ∀ t, Sound q t → Sound q (mark t) := fun t ht => ht.keep fun x _ => modPower_frame x _
  clear_value mark
  split
  · exact powerOn_sound s h
  · exact hm _ (h.keep fun x _ => pDieDown_frame x)
  · exact hm _ (h.keep fun x _ => pDieDown_frame x)
  · exact hm _ (h.keep fun x _ e => netOff_frame _ (markOutage_frame x e))
  · exact (hm _ h).keep fun x _ e => stand_frame _ _ _ (raise_frame _ _ _ _ _ (modPower_frame x _ e))
  · exact hm _ (h.keep fun x _ => cDieDown_frame x)
  · exact hm _ (h.keep fun x _ => cDieDown_frame x)
  · exact (hm _ (h.keep fun x _ => cDieDown_frame x)).keep fun x _ => endpointResets_frame x
  · exact ((hm _ h).keep fun x _ => modPower_frame x _).keep fun x _ e => releaseWeirs_frame _ _ (wireAbsent_frame _ (modSafCh_frame x _ _ e))
  · exact hm _ (h.keep fun x _ e => cDieDown_frame _ (modPower_frame x _ e))

theorem pwrAction_sound {n : Nat} {a : List DevState × Bool × (State → State)} (ha : pwrAction n = some a) (s : State) (h : Sound q s) :
    Sound q (a.2.2 s) := by
  unfold pwrAction at ha
  split at ha <;> cases ha
  · exact h.keep fun x _ => enterDev_frame _ x
  · exact h.keep fun x _ => leaveService_frame x
  · exact enterStabled_sound s h
  · exact h.keep fun x _ => cDieDown_frame x
  · exact packageReset_sound s h
  · exact h.keep fun x _ => pDieDown_frame x

theorem cmdResult_sound (n : BitVec 4) (s : State) (h : Sound q s) : Sound q (cmdResult n s) := h.keep fun x _ => cmdResult_frame _ x

theorem writePwrCmd_sound (v : Word32) (s : State) (h : Sound q s) : Sound q (writePwrCmd v s) := by
  unfold writePwrCmd
  refine .ite (cmdResult_sound _ _ h) ?_
  split
  · exact cmdResult_sound _ _ h
  · rename_i a ha
    exact .ite (cmdResult_sound _ _ h) (.ite (cmdResult_sound _ _ h) (pwrAction_sound ha _ (cmdResult_sound _ _ h)))

/-! ## Host writes -/

theorem writers_sound : ∀ w ∈ writers, ∀ i v s, Sound q s → Sound q (w.2.2.2 i v s) := by
  simp only [writers, List.forall_mem_append, List.forall_mem_cons, List.not_mem_nil, false_imp_iff, implies_true, and_true]
  and_intros <;> intro i v s h
  · exact writeSeal_sound _ _ h
  · exact h.keep fun x _ => writeDbg_frame _ x
  · exact writePwrCmd_sound _ _ h
  · exact h.keep fun x _ => writeDomStatus_frame _ x
  · exact h.keep fun x _ => writeRingCtrl_frame _ x
  · exact writeInjCtrl_sound _ _ h
  · exact writeInjAddr_sound _ _ h
  · exact h.keep fun x _ => writeInjStatus_frame _ x
  · exact h.keep fun x _ => writeForce_frame _ _ x
  · exact h.keep fun x _ => writeFecInfo_frame _ _ x
  · exact h.keep fun x _ => writeIslStatus_frame _ _ x
  · exact h.keep fun x _ => writeIslTest_frame _ _ x
  · exact h.keep fun x _ => writeIslCtrl_frame _ _ x
  · exact h.keep fun x _ => writeInjSw_frame _ _ x
  · exact h.keep fun x _ => writeWinst_frame _ _ x
  · exact writeFltSrc_sound _ _ _ h
  · exact writeTrg_sound _ _ _ _ h
  · exact writeTrg_sound _ _ _ _ h
  · exact writeTrg_sound _ _ _ _ h
  · exact writeTrg_sound _ _ _ _ h
  · exact h.keep fun x _ => writeTrgCmd_frame _ _ x
  · exact writeLanes_sound _ _ _ h
  · exact writeTbLanes_sound _ _ h
  · exact h.keep fun x _ => writeUcodeAddr_frame _ x
  · exact h.keep fun x _ => writeUcode_frame _ x
  · exact h.keep fun x _ => writeUcodeCtrl_frame _ x
  · exact h.keep fun x _ => writeImageCtrl_frame _ x
  · exact h.keep fun x _ => writeTimeStatus_frame _ x
  · exact writeLockCfg_sound _ _ h
  · exact h.keep fun x _ => writeSoReq_frame _ x
  · exact h.keep fun x _ => writeArbOrder_frame _ x
  · exact h.keep fun x _ => writeArbCfg_frame _ x
  · exact h.keep fun x _ => writeArbCommit_frame _ x
  · exact h.keep fun x _ => writeArbStatus_frame _ x
  · exact h.keep fun x _ => writeDbgAddr_frame _ x
  · exact h.keep fun x _ => writeDbgCtrl_frame _ x
  · exact h.keep fun x _ => writeDbgLine_frame _ _ x
  · intro t ht
    obtain ⟨b, -, rfl⟩ := List.mem_map.1 v
    exact writeWin_sound _ _ _ _ ht

theorem regWrite_sound (off : Nat) (v : Word32) (s : State) (h : Sound q s) : Sound q (regWrite off v s) := by
  unfold regWrite
  split
  · rename_i f hf
    obtain ⟨w, hw, hi⟩ := List.exists_of_findSome?_eq_some hf
    obtain ⟨i, -, rfl⟩ := Option.map_eq_some_iff.1 hi
    exact writers_sound w hw i v s h
  · exact writeWord_sound _ _ _ h

theorem writeReg_sound (off : Nat) (v : Word32) (s : State) (h : Sound q s) : Sound q (writeReg off v s) :=
  .ite (.ite (h.keep fun x _ => writeMsix_frame _ _ x) h)
    (hostWord_sound _ _ _ (regWrite off v) _ (fun _ ht => regWrite_sound _ _ _ ht) h)

theorem hostStore_sound (off : Nat) (v : Word64) (size : Nat) (s : State) (h : Sound q s) : Sound q (hostStore off v size s) :=
  .ite (writeReg_sound _ _ _ (writeReg_sound _ _ _ h)) (.ite (writeReg_sound _ _ _ h) h)

theorem serveAccess_sound (a : WaitingAccess) (s : State) (h : Sound q s) : Sound q (serveAccess a s) :=
  .ite (h.keep fun x _ => readEffect_frame _ x) (settle_sound _ _ (regWrite_sound _ _ _ h))

theorem foldl_sound {α : Type} {f : State → α → State} (hf : ∀ s x, Sound q s → Sound q (f s x)) :
    ∀ (l : List α) (s : State), Sound q s → Sound q (l.foldl f s)
  | [], _, h => h
  | x :: l, s, h => foldl_sound hf l _ (hf s x h)

theorem serveAccesses_sound (s : State) (h : Sound q s) : Sound q (serveAccesses s) :=
  foldl_sound (fun _ a ht => serveAccess_sound a _ ht) _ _ (h.keep fun x _ => modHost_frame x _)

theorem linkReturns_sound (s : State) (h : Sound q s) : Sound q (linkReturns s) := by
  unfold linkReturns
  extract_lets t u v
  have h0 : Sound q { s with linkUp := true, lane0 := true, lane1 := true, mrP := {}, mrC := {} } := h
  have hu : Sound q u := (h0.keep fun x _ => syncTime_frame x).keep fun x _ e => deliverEvents_frame _ (unstand_frame _ _ _ e)
  have hv : Sound q v := .ite (hu.keep fun x _ => startReplay_frame _ x) hu
  exact serveAccesses_sound _ (.ite (hv.keep fun x _ => wantResync_frame x) hv)

end Sys2Proof.Machine
end

