-- ==== Sys2Proof/Tests/Slice0.lean ====
section
/-!
SUPPORT. Small tests: for every obligation with hypotheses, concrete states and operands that meet them; an ill-formed term for each check
of WellFormed; the worked examples of the spec that a single operation shows.
-/
namespace Sys2Proof.Tests

open Sys2Proof Sys2Proof.Machine

set_option Elab.async false


/-- Sealed, READY, the link up. -/
def T.run : State := { State.reset with linkUp := true, power := { ({} : Power) with dev := .ready, sealed := true } }

/-- A journal entry and the work the C-die holds for it. -/
def T.cmd (k : Slot) (op : Nat) (timed : Bool) (s : State) : State :=
  s.modRings fun r => { r with
    journal := r.journal ++ [{ slot := k, asn := r.nextAsn, opcode := BitVec.ofNat 16 op, timed := timed }], nextAsn := r.nextAsn + 1
    work := r.work ++ [{ slot := k, kind := if timed then .timed else .ready }] }

/-- Bytes of the descriptor copy of a slot. -/
def T.d (k : Slot) (off : Nat) (l : List Byte) (s : State) : State := s.store (descAddr k + off) l

/-- Register words. -/
def T.rg (l : List (Nat × Word32)) (s : State) : State := { s with regs := l }

/-- A journal entry changed. -/
def T.e (k : Slot) (f : JEntry → JEntry) (s : State) : State := modEntry k f s

/-- A row of context-table bytes. -/
def T.cx (c off : Nat) (l : List Byte) (s : State) : State := s.store (ctxAddr c + off) l

theorem witness_NopAndBarrierComplete :
    (T.cmd 0 0 false T.run).mayApply 0 0x00 = true ∧
    ((T.cmd 0 0x7F false T.run).mayApply 0 0x7F = true ∧ (T.cmd 0 0x7F false T.run).barrierMet 0 = true) ∧
    (let s := T.cmd 1 0x7F false (T.e 0 (fun e => { e with sq := 1 }) (T.cmd 0 1 false (T.d 1 16 [0xFF] T.run)))
     s.mayApply 1 0x7F = true ∧ s.barrierMet 1 = false) := by decide

/-- A CTX_WRITE in slot 0 of four bytes of parameter 0 of the disabled context 0, inline. -/
def T.ctxWr : State := T.cmd 0 1 false (T.d 0 16 [0, 1, 0, 1, 4, 0] T.run)

theorem witness_ContextCommandsComplete :
    (let s := T.ctxWr
     s.ctxTarget 0 = some 0 ∧ s.ctxFree 0 = true ∧ s.timedAhead 0 0 = false ∧ s.dataHere 0 = true ∧ s.mayApply 0 0x01 = true ∧
     (s.pair.held.any fun h => h.slot == some 0) = false ∧ dCtx (s.desc 0) = 0 ∧ writeRange (s.desc 0) = none ∧
     ((s.workOf 0).map Work.dmaFailed).getD false = false ∧ s.mirrored 0 = false ∧ s.ctxRegion 0 = none) := by decide

/-- Context 0 of template 0x10, bound to region A with divider 256, disabled; the region has lanes. -/
def T.ctx0 (op : Nat) (l : List Byte) : State :=
  T.cmd 0 op false (T.d 0 16 l (T.cx 0 0 [0x10, 2, 0, 0, 0, 1] (T.rg [(0x10000, 40000), (0x50000, 0xFF)] T.run)))

theorem witness_ContextCommandsComplete_1 : (let s := T.ctxWr
     s.areasOk 0 (leAt (s.desc 0) 18 2) (s.writeData 0).length = true ∧
     (applyWrite 0 (leAt (s.desc 0) 18 2) (s.writeData 0) s).badWord 0 (leAt (s.desc 0) 18 2) (s.writeData 0).length = none ∧
     (applyWrite 0 (leAt (s.desc 0) 18 2) (s.writeData 0) s).writeJoint s 0 (leAt (s.desc 0) 18 2) (s.writeData 0).length = true ∧
     s.writesStart 0 (leAt (s.desc 0) 18 2) (s.writeData 0) = false) := by decide +kernel
theorem witness_ContextCommandsComplete_2 : (let s := T.cmd 0 2 false (T.d 0 16 [0, 0, 0, 0, 4, 0] T.run)
     s.hostUp = true ∧ s.ctxTarget 0 = some 0 ∧ s.ctxFree 0 = true ∧ s.timedAhead 0 0 = false ∧ s.mayApply 0 0x02 = true ∧
     readRange (s.desc 0) = none) := by decide +kernel
theorem witness_ContextCommandsComplete_3 : (let s := T.ctx0 3 [0]
     let t := storeCost 0 (setCtxState 0 (if (s.ctxRegion 0).any s.openLoop then 3 else 1) s)
     s.ctxTarget 0 = some 0 ∧ s.ctxFree 0 = true ∧ s.timedAhead 0 0 = false ∧ s.mayApply 0 0x03 = true ∧ dCtx (s.desc 0) = 0 ∧
     s.mirrored 0 = false ∧ s.pairedBusy 0 = false ∧ s.ctxState 0 = 0 ∧ s.ctxTemplate 0 ≠ 0x1F ∧ t.enableOk 0 = true ∧
     t.ctxPin 0 = false) ∧
    (let s := T.cx 0 1 [3, 0, 0, 0, 1] (T.ctx0 3 [0])
     let t := storeCost 0 (setCtxState 0 (if (s.ctxRegion 0).any s.openLoop then 3 else 1) s)
     s.ctxTarget 0 = some 0 ∧ s.ctxFree 0 = true ∧ s.timedAhead 0 0 = false ∧ s.mayApply 0 0x03 = true ∧ s.ctxState 0 = 0 ∧
     t.enableOk 0 = true ∧ t.ctxPin 0 = true ∧ (makeRoom t).claimed < 96) := by decide +kernel
theorem witness_ContextCommandsComplete_3b : (let s := T.cmd 0 3 false (T.cx 0 4 [1] T.run)
     s.ctxTarget 0 = some 0 ∧ s.ctxFree 0 = false) ∧
    (let s := T.cmd 0 3 false (T.cmd 1 1 true (T.cx 0 0 [0x10, 0, 0, 1, 1] T.run))
     s.ctxTarget 0 = some 0 ∧ s.timedAhead 0 0 = true) := by decide +kernel
theorem witness_ContextCommandsComplete_4 : (let s := T.cmd 0 4 false (T.cx 0 3 [2] T.run)
     s.ctxTarget 0 = some 0 ∧ s.ctxFree 0 = true ∧ s.timedAhead 0 0 = false ∧ s.mayApply 0 0x04 = true ∧ dCtx (s.desc 0) = 0 ∧
     s.mirrored 0 = false ∧ s.pairedBusy 0 = false ∧ s.ctxState 0 ≠ 0 ∧ s.writesOut 0 = false) ∧
    (let s := T.cx 0 3 [2] (T.cx 0 0xC0 [0, 0x40] (T.ctx0 4 [0]))
     s.ctxTarget 0 = some 0 ∧ s.ctxFree 0 = true ∧ s.timedAhead 0 0 = false ∧ s.mayApply 0 0x04 = true ∧ s.ctxState 0 ≠ 0 ∧ s.writesOut 0 = true ∧ s.ctxRegion 0 = some 0 ∧
     s.showsInhibit 0 = true) := by decide +kernel

/-- Context 0 enabled, unbound, with divider 1. -/
def T.ctxOn (op : Nat) (l : List Byte) : State := T.cmd 0 op false (T.d 0 16 l (T.cx 0 0 [0x10, 0, 0, 1, 1] T.run))

theorem witness_ProbeCommandsComplete_1 : (let s := T.d 0 52 [1, 0, 0, 0, 0x20] (T.ctxOn 0x13 [0, 0, 0, 0, 0xF0, 0xFF])
    s.ctxTarget 0 = some 0 ∧ s.ctxFree 0 = true ∧ s.timedAhead 0 0 = false ∧ s.mayApply 0 0x13 = true ∧ dCtx (s.desc 0) = 0 ∧
    s.mirrored 0 = false ∧ s.ctxState 0 ≠ 0 ∧ s.ctxTemplate 0 ≠ 0x13 ∧ s.probeOf 0 = none ∧ s.freeProbe = some 0 ∧
    probeRange (s.desc 0) = none ∧ (sx 16 (leAt (probeOperands (s.desc 0)) 2 2)).natAbs ≤ s.rf rLeProbeLimit 0 16) := by decide +kernel
theorem witness_ProbeCommandsComplete_2 : (let s := T.d 0 52 [1, 0, 0, 0, 0x20] (T.ctxOn 0x13 [0, 0, 0, 0, 0xFF, 0x7F])
    s.ctxTarget 0 = some 0 ∧ s.ctxFree 0 = true ∧ s.timedAhead 0 0 = false ∧ s.mayApply 0 0x13 = true ∧ dCtx (s.desc 0) = 0 ∧
    s.mirrored 0 = false ∧ s.ctxState 0 ≠ 0 ∧ s.ctxTemplate 0 ≠ 0x13 ∧ s.probeOf 0 = none ∧ s.freeProbe = some 0 ∧
    probeRange (s.desc 0) = none ∧ s.rf rLeProbeLimit 0 16 < (sx 16 (leAt (probeOperands (s.desc 0)) 2 2)).natAbs) := by decide +kernel
theorem witness_ProbeCommandsComplete_3 : (let s := (T.ctxOn 0x14 [0x10]).modProbe 0 fun _ => { ctx := some 0, gen := 1 }
    s.mayApply 0 0x14 = true ∧ s.namedProbe (s.desc 0) = some (0, 0) ∧ s.ctxFree 0 = true ∧ s.timedAhead 0 0 = false ∧ s.mirrored 0 = false) := by
  decide +kernel

/-- A sealed module whose region A has a period of 40 000 fine steps. -/
def T.reg (op : Nat) (l : List Byte) : State := T.cmd 0 op false (T.d 0 16 l (T.rg [(0x10000, 40000)] T.run))

theorem witness_RegionCommandsComplete_1 : (let s := T.reg 5 [0, 1]
    s.mayApply 0 0x05 = true ∧ regionNo (leAt (s.desc 0) 16 1) = some 0 ∧ phaseOf (leAt (s.desc 0) 17 1) = some .start ∧
    s.modeAccepted 0 = true ∧ s.modeAllowed 0 .start = true ∧ s.regions[(0 : RegionId)].phase = .off ∧ Phase.start ≠ .off ∧
    s.safeComing = false ∧ s.mayStart 0 = true) := by decide +kernel
theorem witness_RegionCommandsComplete_2 : (let s := (T.reg 5 [7, 2]).modRegion 7 fun g => { g with phase := .start }
    s.mayApply 0 0x05 = true ∧ regionNo (leAt (s.desc 0) 16 1) = some 7 ∧ phaseOf (leAt (s.desc 0) 17 1) = some .run ∧
    s.modeAccepted 7 = true ∧ s.regions[(7 : RegionId)].phase ≠ .off) := by decide +kernel
theorem witness_RegionCommandsComplete_3 : (let s := (T.cmd 0 6 false (T.d 0 16 [0, 1, 0, 0, 0, 0, 0, 0, 0, 1] (T.rg [(0x10000, 40000), (0x18000, 0)] T.run))).modRegion 0 (fun g => { g with phase := .run })
    s.mayApply 0 0x06 = true ∧ commitRange (s.desc 0) = none ∧ regionNo (leAt (s.desc 0) 16 1) = some 0 ∧
    s.regions[(0 : RegionId)].phase ≠ .off ∧
    s.commitCheck 0 (s.desc 0) = none ∧
    (s.entry 0).isSome = true) := by
  decide +kernel

/-- Channel 0 of bank 0 converting on the bank timer. -/
def T.adc : State := T.rg [(0x30000, 1), (0x3000C, 1)] T.run

theorem witness_CaptureCommandsComplete_1 : (let s := T.cmd 0 0x10 false (T.d 0 16 [0, 0, 1, 0, 0, 0, 0, 0, 0, 0, 0x20, 0, 0, 0, 0, 0, 0x80, 0, 0, 0, 0, 0, 0, 0, 1] T.adc)
    let g := s.sessions[(0 : SessId)]
    let x := armOperands (s.desc 0) { gen := g.gen + 1, words := g.words, armTick := s.now, progressAt := s.now, state := .armed, atTime := 0 }
    s.mayApply 0 0x10 = true ∧ s.freeSession = some 0 ∧ s.isTimed 0 = false ∧ s.armRange x = none ∧ x.trigger ≠ 15) := by decide +kernel
theorem witness_CaptureCommandsComplete_2 : (let s := (T.cmd 0 0x12 false (T.d 0 16 [0x1F] T.run)).modSess 15 fun _ => { gen := 1, state := .armed }
    s.mayApply 0 0x12 = true ∧ s.namedSession (s.desc 0) = some 15 ∧ (s.sessions[(15 : SessId)]).active = true) := by decide +kernel
theorem witness_CaptureCommandsComplete_3 : (let s := (T.cmd 0 0x12 false (T.d 0 16 [0x10] T.run)).modSess 0 fun _ => { gen := 1, state := .ended }
    s.mayApply 0 0x12 = true ∧ s.namedSession (s.desc 0) = some 0 ∧ (s.sessions[(0 : SessId)]).active = false) := by decide +kernel
theorem witness_CaptureCommandsComplete_4 : (let s := (T.cmd 0 0x11 false (T.d 0 16 [0x10, 0, 0, 0, 0, 0, 0, 0, 0, 0, 1, 0, 0, 0, 0, 0, 64] T.run)).modSess 0 fun _ => { gen := 1, state := .ended }
    s.host.up = true ∧ s.host.endpointReset = false ∧ s.mayApply 0 0x11 = true ∧ s.namedSession (s.desc 0) = some 0 ∧
    (s.sessions[(0 : SessId)]).state = .ended ∧ leAt (s.desc 0) 24 8 % 64 = 0 ∧
    64 + (s.sessions[(0 : SessId)]).stored * (s.sessions[(0 : SessId)]).recSize ≤ leAt (s.desc 0) 32 4 ∧
    hostSpan (leAt (s.desc 0) 24 8) (64 + (s.sessions[(0 : SessId)]).stored * (s.sessions[(0 : SessId)]).recSize) = true ∧
    (readSpans (s.sessions[(0 : SessId)]).spans (flushCapture s)).1 = none ∧ dByte (s.desc 0) 17 % 2 = 0) := by decide +kernel

/-- Port A has a link. -/
def T.net : State := T.run.modPort 0 fun p => { p with link := true }

theorem witness_NetworkTimeCommandsComplete_1 : (let s := modWork 0 (fun w => { w with data := some [1] }) (T.cmd 0 0x20 false (T.d 0 24 [14, 0, 1] T.net))
    s.mayApply 0 0x20 = true ∧ (s.workOf 0).isSome = true ∧ ((s.workOf 0).bind Work.data) = some [1] ∧
    ((s.workOf 0).map Work.dmaFailed) = some false ∧ dByte (s.desc 0) 26 / 4 % 2 = 0 ∧
    txCheck (s.desc 0) [1] (!(s.txPorts (s.desc 0)).isEmpty) (s.rf rNetPairCfg 0 16) = none) := by decide +kernel
theorem witness_NetworkTimeCommandsComplete_2 : (let s := T.cmd 0 0x21 false (T.d 0 16 [0, 1, 0, 0, 0, 0, 0, 0, 0, 8] T.net)
    s.mayApply 0 0x21 = true ∧ s.net.bufs.length < 256 ∧ hostSpan (leAt (s.desc 0) 16 8) (leAt (s.desc 0) 24 2) = true ∧
    64 ≤ leAt (s.desc 0) 24 2 ∧ leAt (s.desc 0) 24 2 ≤ 2048 ∧ (s.entry 0).isSome = true) := by decide +kernel
theorem witness_NetworkTimeCommandsComplete_3 : (let s := T.cmd 0 0x22 false (T.d 0 32 [2] T.net)
    s.mayApply 0 0x22 = true ∧ (dByte (s.desc 0) 32).testBit 0 = false ∧ (dByte (s.desc 0) 32).testBit 1 = true ∧
    (dByte (s.desc 0) 32).testBit 2 = false ∧ (sx 64 (leAt (s.desc 0) 24 8)).natAbs ≤ rhoLimit ∧ s.lockExpired = false) := by decide +kernel

theorem witness_WeirPairCommandsComplete_1 : (let s := T.cmd 0 0x30 false (T.d 0 16 [31] T.run)
    s.mayApply 0 0x30 = true ∧ dByte (s.desc 0) 16 = (31 : WeirId).val ∧ (∀ m ∈ s.weirsOf (s.ownerOf 0), m < 31) ∧
    s.weirs[(31 : WeirId)].owner = none) := by decide +kernel
theorem witness_WeirPairCommandsComplete_2 : (let s := (T.cmd 0 0x30 false (T.d 0 16 [5] T.run)).modWeir 5 fun w => { w with owner := some 3 }
    s.mayApply 0 0x30 = true ∧ dByte (s.desc 0) 16 = (5 : WeirId).val ∧ (∀ m ∈ s.weirsOf (s.ownerOf 0), m < 5) ∧
    s.weirs[(5 : WeirId)].owner.isSome = true) := by decide +kernel
theorem witness_WeirPairCommandsComplete_3 : (let s := (T.cmd 0 0x31 false (T.d 0 16 [0, 2] T.run)).modWeir 0 fun w => { w with owner := some 0, gen := 2 }
    s.mayApply 0 0x31 = true ∧ dByte (s.desc 0) 16 = (0 : WeirId).val ∧ s.weirs[(0 : WeirId)].owner = some (s.ownerOf 0) ∧
    s.weirs[(0 : WeirId)].gen.toNat = dByte (s.desc 0) 17 % 16) := by decide +kernel

/-- Region A paired, the partner up. -/
def T.pair : State := (T.rg [(0x70000, 0x101)] T.run).modPair fun p => { p with up := true }

theorem witness_WeirPairCommandsComplete_4 : (let s := (T.cmd 0 0x40 false (T.d 0 16 [1] T.pair)).modPairRegion 0 fun p => { p with standby := .synced }
    s.mayApply 0 0x40 = true ∧ s.swapLeft 0 ≠ [] ∧
    (∀ r ∈ maskRegions (dByte (s.desc 0) 16), s.isPaired r = true ∧ (s.pair.regions[r]).standby = .synced)) ∧
    (let s := (T.cmd 0 0x40 false (T.d 0 16 [3] T.pair)).modRings fun r => { r with regionWords := r.regionWords.set 0 { h := 1 } }
    s.mayApply 0 0x40 = true ∧ s.swapLeft 0 ≠ [] ∧ (s.swapLeft 0).length < (maskRegions (dByte (s.desc 0) 16)).length) ∧
    (let s := (T.cmd 0 0x40 false (T.d 0 16 [1] T.pair)).modRings fun r => { r with regionWords := r.regionWords.set 0 { h := 1 } }
    s.mayApply 0 0x40 = true ∧ s.swapLeft 0 = [] ∧ maskRegions (dByte (s.desc 0) 16) ≠ []) := by decide +kernel
theorem witness_WeirPairCommandsComplete_5 : (let s := T.cmd 0 0x41 false (T.d 0 16 [1] T.pair)
    s.mayApply 0 0x41 = true ∧ maskRegions (dByte (s.desc 0) 16) ≠ [] ∧ s.pair.up = true ∧
    (∀ r ∈ maskRegions (dByte (s.desc 0) 16), s.isPaired r = true ∧ (s.pair.regions[r]).resyncAt = none)) := by decide +kernel

theorem witness_EventCommandsComplete_1 : (let s := T.cmd 0 0x50 false (T.d 0 16 [187] T.run)
    s.mayApply 0 0x50 = true ∧ leAt (s.desc 0) 16 2 = (187 : SourceId).val ∧ reservedSource 187 = false ∧ s.conditionBefore 187 = false) := by
  decide +kernel
theorem witness_EventCommandsComplete_2 : (let s := T.cmd 0 0x50 false (T.d 0 16 [0xFF, 0xFF] T.run)
    s.mayApply 0 0x50 = true ∧ leAt (s.desc 0) 16 2 = 0xFFFF) := by decide +kernel
theorem witness_EventCommandsComplete_3 : (let s := T.cmd 0 0x51 false (T.d 0 16 [0] (T.run.modPower fun p => { p with dev := .service }))
    s.mayApply 0 0x51 = true ∧ leAt (s.desc 0) 16 2 = (0 : SourceId).val ∧ reservedSource 0 = false ∧ s.mayForce 0 = true) := by
  decide +kernel

/-- In SERVICE. -/
def T.svc : State := T.run.modPower fun p => { p with dev := .service }

theorem witness_PowerCommandsComplete_1 : T.run.hostReaches = true ∧ T.run.power.cRun = true ∧ T.run.pReach = true ∧ T.run.power.dev = .ready ∧ T.run.allOff = true ∧
    T.svc.hostReaches = true ∧ T.svc.power.cRun = true ∧ T.svc.pReach = true ∧ T.svc.power.dev = .service ∧ T.svc.allOff = true ∧
    (0 : BitVec 16) ≠ 0xC3A5 := by decide +kernel
theorem witness_PowerCommandsComplete_2 : (let s := T.run.modPower fun p => { p with dev := .setup, sealed := false }
     s.hostReaches = true ∧ s.power.cRun = true ∧ s.pReach = true ∧ s.power.dev = .setup) ∧
    (let s := T.run.modPower fun p => { p with dev := .run }
     s.hostReaches = true ∧ s.power.cRun = true ∧ s.pReach = true ∧ s.power.dev ≠ .ready ∧ s.power.dev ≠ .safe ∧ s.power.dev ≠ .service ∧ s.power.dev = .run) ∧
    (let s := T.run.modRegion 7 fun g => { g with phase := .test }
     s.hostReaches = true ∧ s.power.cRun = true ∧ s.pReach = true ∧ s.power.dev = .ready ∧ s.allOff = false) := by decide +kernel

/-- In SETUP, SQ 0 and CQ 0 enabled. -/
def T.setup : State :=
  T.rg [(0x2000, 0x10000), (0x2008, 0x88), (0x2100, 0x20000), (0x2108, 0x88), (0x2200, 0x40000)] { State.reset with linkUp := true }

theorem witness_SealCompletes_1 : T.setup.hostReaches = true ∧ T.setup.power.cRun = true ∧ T.setup.power.dev = .setup ∧ T.setup.sealChecks (fld (0x5EA1#32) 0 16) = 1 ∧
    T.setup.sealChecks (fld (0x5EA0#32) 0 16) ≠ 1 := by decide +kernel

/-- A microcode image of a header whose CRC and two words are given. -/
def T.code (crc w4 w6 : Word32) : State := T.setup.modLoop fun l =>
  { l with ucodeResult := 0xF, code := [(0, 0x434D4B53), (1, 0x00010001), (2, 1), (3, crc), (4, w4), (6, w6)] }

theorem witness_LoadCommandsComplete_1 : T.setup.hostReaches = true ∧ T.setup.power.cRun = true ∧ T.setup.power.sealed = false ∧ (1#32).getLsbD 0 = true ∧
    T.setup.loop.imageLoading = false := by decide +kernel
theorem witness_LoadCommandsComplete_2 : (T.code 538710886 0x00010000 0xFC000000).loop.ucodeResult = 0xF ∧ (T.code 538710886 0x00010000 0xFC000000).power.cRun = true ∧
    (T.code 538710886 0x00010000 0xFC000000).verifyImage.1 = 1 := by decide +kernel
theorem witness_LoadCommandsComplete_3 : (let s := T.setup.modLoop fun l => { l with ucodeResult := 0xF }
    s.loop.ucodeResult = 0xF ∧ s.power.cRun = true ∧ s.verifyImage.1 ≠ 1) := by decide +kernel
theorem witness_LoadCommandsComplete_4 : (List.replicate 524304 (0 : Byte)).length = 524304 ∧
    (T.setup.modLoop fun l => { l with imageLoading := true }).loop.imageLoading = true := ⟨List.length_replicate, by decide⟩
theorem witness_LoadCommandsComplete_5 : (let s := T.run.modSq 7 fun x => { x with stopped := true }
    s.hostReaches = true ∧ s.power.cRun = true ∧ s.rings.sq[(7 : SqId)].stopped = true ∧ s.rings.sq[(7 : SqId)].readBackFailed = false) := by
  decide +kernel
theorem witness_LoadCommandsComplete_6 : (let s := (T.run.modSq 0 fun x => { x with stopped := true, readBackFailed := true }).modLoop fun l => { l with imageLoading := true }
    s.hostReaches = true ∧ s.power.cRun = true ∧ s.rings.sq[(0 : SqId)].stopped = true ∧ s.rings.sq[(0 : SqId)].readBackFailed = true ∧
    s.loop.imageLoading = true) := by decide +kernel

theorem witness_ReadsWithEffectComplete_1 : (let s := T.run.modBank 3 fun x => { x with queue := [1] }
    s.hostReaches = true ∧ s.power.cRun = true ∧ s.pReach = true ∧ (s.banks[(3 : BankId)]).queue = 1 :: [] ∧ (s.banks[(0 : BankId)]).queue = [] ∧
    s.net.txq = []) := by decide +kernel
theorem witness_ReadsWithEffectComplete_2 : (let s := T.run.modNet fun x => { x with txq := [{ ts := 0, asn := 0, tag := 0, gen := 0, port := 1 }] }
    s.hostReaches = true ∧ s.power.cRun = true ∧ s.pReach = true ∧ s.net.txq ≠ []) := by decide +kernel

theorem witness_CommandBitsComplete_1 : (let s := T.adc
    s.hostReaches = true ∧ s.power.cRun = true ∧ s.pReach = true ∧ bitAt (1#32) 0 = true ∧ s.converts = true) := by decide +kernel
theorem witness_CommandBitsComplete_2 : (let s := T.run.modTrig 7 fun t => { t with state := .fired }
    s.hostReaches = true ∧ s.power.cRun = true ∧ s.pReach = true ∧ bitAt (1#32) 0 = true ∧ s.trigs[(7 : TrigId)].state = .fired) := by
  decide +kernel
theorem witness_CommandBitsComplete_3 : T.run.hostReaches = true ∧ T.run.power.cRun = true ∧ T.run.pReach = true ∧ (T.run.islands[(23 : IslandId)]).testLeft = [] ∧
    (∀ n : Fin 4, bitAt (0xF#32) n.val = T.run.heldForTest (testUnit 23 n)) := by decide +kernel
theorem witness_CommandBitsComplete_4 : bitAt (1#32) 0 = true ∧ T.run.bothHeld 0 = true := by decide +kernel
theorem witness_CommandBitsComplete_5 : T.run.arb.shadow.valid = true ∧
    (let s := T.run.modArb fun a => { a with shadow := { a.shadow with burstMax := 0 } }; s.arb.shadow.valid = false) ∧
    (let s := T.run.modArb fun a => { a with commitPending := true }; s.arb.commitPending = true ∧ s.power.cRun = true ∧ s.arb.shadow.valid = true) := by
  decide +kernel
theorem witness_CommandBitsComplete_6 : (let s : State := { (T.run.modArb fun a => { a with commitPending := true }) with now := 25 }
    s.arb.commitPending = true ∧ s.power.cRun = true ∧ s.memSlot = 16 ∧ s.memSlot % 16 = 0 ∧ s.arb.shadow.valid = true ∧ s.arb.active.valid = true) := by decide +kernel

theorem witness_ChainAndTriggerWritesComplete_1 : T.run.hostReaches = true ∧ T.run.power.cRun = true ∧ T.run.pReach = true ∧
    fld (T.run.reg (rFltSrc 15)) 0 6 ≠ fld ((writeWord (rFltSrc 15) 5 T.run).reg (rFltSrc 15)) 0 6 ∧
    (fld (T.run.reg (rFltSrc 0)) 0 6 = fld ((writeWord (rFltSrc 0) 0x40 T.run).reg (rFltSrc 0)) 0 6 ∧
      bitAt ((writeWord (rFltSrc 0) 0x40 T.run).reg (rFltSrc 0)) 6 = true) ∧
    (let s := T.rg [(0x38000, 0x40)] T.run
     s.hostReaches = true ∧ fld (s.reg (rFltSrc 0)) 0 6 = fld ((writeWord (rFltSrc 0) 0 s).reg (rFltSrc 0)) 0 6 ∧ bitAt (s.reg (rFltSrc 0)) 6 = true ∧
       bitAt ((writeWord (rFltSrc 0) 0 s).reg (rFltSrc 0)) 6 = false) ∧
    (let t := (writeWord (0x40000 + 0x40 * 7 + 4 * 0) 1 T.run).modTrig 7 (fun t => { t with written := true })
     t.trgInvalid 7 = false ∧ (t.modTrig 7 fun x => { x with cfgErr := false }).trgKind 7 = 1) := by decide +kernel

theorem witness_InjectionAndForceComplete_1 : T.svc.hostReaches = true ∧ T.svc.power.cRun = true ∧ T.svc.mayInject = true ∧ bitAt (0x102#32) 8 = true ∧ fld (0x102#32) 0 2 ≠ 3 ∧
    (let s := T.svc.modEvents fun e => { e with inj := { e.inj with armed := true } }
     s.events.inj.armed = true ∧ fld (s.reg rEvtInjCtrl) 0 2 = 0 ∧ (s.reg rEvtInjAddr).toNat / 64 = 0 ∧ 63 < 64 * 0 + 64 ∧
       64 * 0 < 63 + [(0 : Byte)].length ∧ s.memErr = []) ∧
    (let f : MrFrame := { vc := 3, payload := .samples [] }
     let s := T.rg [(0x4C10, 0x66)] ((T.svc.modEvents fun e => { e with inj := { e.inj with armed := true } }).modMr .p fun x => { x with wire := [f] })
     s.events.inj.armed = true ∧ fld (s.reg rEvtInjCtrl) 0 2 = 2 ∧ bitAt (s.reg rEvtInjCtrl) 7 = false ∧
       ((s.mr .p).wire.find? fun x => x.vc.val == fld (s.reg rEvtInjCtrl) 5 2) = some f) ∧
    (let s := T.rg [(0x4C10, 1)] (T.svc.modEvents fun e => { e with inj := { e.inj with armed := true } })
     s.events.inj.armed = true ∧ fld (s.reg rEvtInjCtrl) 0 2 = 1) ∧
    (T.setup.hostReaches = true ∧ T.setup.power.cRun = true ∧ T.setup.power.sealed = false) := by decide +kernel

theorem witness_DebugCompletes_1 : T.svc.hostReaches = true ∧ T.svc.power.cRun = true ∧ T.svc.power.dev = .service ∧ fld (0xD8B6#32) 0 16 = 0xD8B6 ∧
    (let s := T.svc.modPower fun p => { p with debugOpen := true }
     s.hostReaches = true ∧ s.power.cRun = true ∧ s.power.debugOpen = true ∧ s.dbgBlock.busy = none ∧ bitAt (1#32) 0 = true ∧ bitAt (1#32) 1 = false ∧
     bitAt (2#32) 0 = false ∧ bitAt (2#32) 1 = true) ∧
    (let s : State := { T.svc with dbgBlock := { busy := some true } }
     s.dbgBlock.busy = some true ∧ s.refreshing = false) ∧
    (let s : State := { T.svc with dbgBlock := { busy := some false } }
     s.dbgBlock.busy = some false ∧ s.refreshing = false) := by decide +kernel
theorem witness_DebugCompletes_2 : (let s : State := { T.svc with dbgBlock := { busy := some true }, now := 2 }
     s.dbgBlock.busy = some true ∧ s.refreshing = false ∧ s.memSlot = 1 ∧ s.memSlot % 4 ≠ 0) ∧
    (let s : State := { T.svc with dbgBlock := { busy := some false }, now := 23 }
     s.dbgBlock.busy = some false ∧ s.refreshing = false ∧ s.memSlot = 15 ∧ s.memSlot % 4 ≠ 0) := by decide +kernel

theorem witness_RegisterWriteCompletes_1 : (wfAccess 0 0 4 = true ∧ T.run.hostReaches = true ∧ T.run.power.cRun = true ∧ dieOf 0 = .c) ∧
    (wfAccess 0x10000 0xFFFFFFFF 4 = true ∧ dieOf 0x10000 = .p ∧ T.run.pReach = true) ∧
    (wfAccess 0xFFFFC 0 4 = true) ∧
    ((T.run.host.msixPending.getLsbD 31) = false ∧ (0xFFFFFFFF : Nat) < 2 ^ 32) ∧
    (let s := T.run.modHost fun h => { h with msixPending := 0x80000000 }
     s.hostReaches = true ∧ bitAt s.host.msixPending 31 = true ∧ (0 : BitVec 64).getLsbD 0 = false) ∧
    (let s : State := { T.run with linkUp := false }
     wfAccess 0x10000 0 4 = true ∧ s.hostReaches = true ∧ s.power.cRun = true ∧ dieOf 0x10000 = .p ∧ s.pReach = false) ∧
    (let s : State := { (T.run.modHost fun h => { h with accesses := [{ off := 0, value := 0, arrived := 0 }] }) with now := 80000 }
     s.host.accesses = { off := 0, value := 0, arrived := 0 } :: [] ∧ 0 + 80000 ≤ s.now) ∧
    (let s : State := { (T.run.modHost fun h => { h with accesses := [{ off := 0, read := true, value := 0, arrived := 0 }] }) with now := 80000 }
     s.host.accesses = { off := 0, read := true, value := 0, arrived := 0 } :: [] ∧ 0 + 80000 ≤ s.now) := by decide +kernel

/-- SQ 0 and CQ 0 enabled, one signal per entry. -/
def T.ring : State := T.rg [(0x2008, 0x88), (0x2108, 0x88), (0x210C, 0x180)] T.run

theorem witness_RingStepsComplete_1 : (let s : State := { T.ring with now := 1600 }
    s.ringsRun = true ∧ s.power.sealed = true ∧ s.rings.polled + usTicks (s.rf rSysDbPoll 0 10) ≤ s.now) := by decide +kernel
theorem witness_RingStepsComplete_2 : (let s := T.ring.modSq 0 fun x => { x with fetched := some [], hostIdx := 1 }
    s.rings.sq[(0 : SqId)].fetched = some [] ∧ s.ringsRun = true ∧ s.pReach = true ∧ s.power.sealed = true ∧ s.sqEn 0 = true ∧
    s.rings.sq[(0 : SqId)].stopped = false ∧ s.rings.sq[(0 : SqId)].readBackFailed = false ∧ s.replayRuns = false ∧ s.acceptRoom 0 = true ∧
    s.sqTurn = some 0) := by decide +kernel
theorem witness_RingStepsComplete_2b : (let s := T.ring.modSq 0 fun x => { x with fetched := some [], hostIdx := 1 }
    s.freeSlot = some 0) := by decide +kernel
theorem witness_RingStepsComplete_3 : (let s := (T.cmd 8191 0 false T.ring).modRings fun r => { r with unacked := [8191] }
    s.rings.unacked = 8191 :: [] ∧ (s.entry 8191).isSome = true ∧ s.pReach = true ∧ s.power.cRun = true) := by decide +kernel
theorem witness_RingStepsComplete_4 : (let s := T.cmd 0 0 true T.ring
    (s.entry 0).isSome = true ∧ s.fetchDue 0 = false ∧ s.actionDue 0 = true ∧
    ∀ e ∈ s.rings.journal, (s.rings.journal.any fun x => x.slot != 0 && s.actionDue x.slot && s.dueBefore x e) = false) ∧
    (let s := T.d 0 24 [14, 0, 1] (T.cmd 0 0x20 true T.ring)
    (s.entry 0).isSome = true ∧ s.fetchDue 0 = true) := by decide +kernel
theorem witness_RingStepsComplete_5 : (let s := (T.e 0 (fun e => { e with state := .applied }) (T.cmd 0 0 false T.ring)).modRings fun r => { r with finished := [0], work := [] }
    s.ringsRun = true ∧ s.pReach = true ∧ s.hostUp = true ∧ s.rings.replaying = false ∧ s.rings.finished.find? s.postable = some 0 ∧
    (s.entry 0).isSome = true) := by decide +kernel
theorem witness_RingStepsComplete_6 : (let s := (T.ring.modCq 0 fun c => { c with unsignalled := 1 }).modHost fun h => { h with msixTable := [(3, 0)] }
    s.signalDue 0 = true ∧ bitAt (s.msixWord (4 * s.rf (rSysCqInt 0) 0 5 + 3)) 0 = false) := by decide +kernel
theorem witness_RingStepsComplete_7 : (let s := T.ring.modCq 0 fun c => { c with unsignalled := 1 }
    s.signalDue 0 = true ∧ bitAt (s.msixWord (4 * s.rf (rSysCqInt 0) 0 5 + 3)) 0 = true) := by decide +kernel

theorem witness_HostLinkStepsComplete_1 : (let s : State := { (T.ring.modHost fun h => { h with reads := [{ id := 0, use := .sqLine 0 }] }) with now := 20000 }
    (s.host.reads.find? fun r => r.id == 0) = some { id := 0, use := .sqLine 0 } ∧ (1 : Nat) ≠ 0 ∧ 0 + usTicks 50 ≤ s.now) := by decide +kernel
theorem witness_HostLinkStepsComplete_2 : (let s : State := { (T.rg [(0x4C20, 1)] T.run) with now := 400000 }
    s.rf rEvtHostwd 0 16 ≠ 0 ∧ s.ringsRun = true ∧ s.host.silentReported = false ∧
    s.host.lastHead + msTicks (s.rf rEvtHostwd 0 16) ≤ s.now) := by decide +kernel
theorem witness_HostLinkStepsComplete_3 : T.run.host.up = true ∧ T.run.awake = true ∧ T.run.endpointReady = true ∧ (T.run.modHost fun h => { h with up := false }).host.up = false ∧
    (T.run.modHost fun h => { h with endpointReset := true }).host.endpointReset = true := by decide
theorem witness_HostLinkStepsComplete_4 : (let s : State := { T.run with now := 3200000, power := { T.run.power with dev := .waking } }
    s.endpointReady = true ∧ ({ s with now := 3199999 } : State).endpointReady = false) := by decide +kernel

theorem witness_ReplayAndScrubComplete_1 : (let s := T.ring.modRings fun r => { r with replaying := true }
    s.rings.replaying = true ∧ s.pReach = true ∧ s.power.cRun = true ∧ s.rings.journalErr = [] ∧ s.rings.journal = [] ∧ s.rings.rePost = []) := by
  decide
theorem witness_ReplayAndScrubComplete_2 : (({ T.run with memErr := [(0, [(0, 1), (1, 1)])] } : State).memErr.find? fun e => e.1 == 0) = some (0, [(0, 1), (1, 1)]) ∧
    (({ T.run with memErr := [(0x3FFFFFF, [(0, 1), (1, 1), (69, 1)])] } : State).memErr.find? fun e => e.1 == 0x3FFFFFF) =
      some (0x3FFFFFF, [(0, 1), (1, 1), (69, 1)]) ∧ T.run.power.cRun = true ∧ T.run.power.selfRefresh = false ∧ T.run.refreshing = false ∧
    ((T.run.modRings fun r => { r with journalErr := [(0, [(0, 1), (1, 1)]), (8191, [(0, 1), (1, 1), (69, 1)])] }).rings.journalErr.find? fun e =>
      e.1 == 0) = some (0, [(0, 1), (1, 1)]) ∧
    ((T.run.modRings fun r => { r with journalErr := [(0, [(0, 1), (1, 1)]), (8191, [(0, 1), (1, 1), (69, 1)])] }).rings.journalErr.find? fun e =>
      e.1 == 8191) = some (8191, [(0, 1), (1, 1), (69, 1)]) := by
  decide
theorem witness_ReplayAndScrubComplete_3 : (let s := (T.cmd 0 5 false (T.d 0 16 [0, 1] T.ring)).modRings fun r => { r with replaying := true, work := [] }
    s.rings.replaying = true ∧ s.pReach = true ∧ s.power.cRun = true ∧ s.rings.journalErr = [] ∧ s.workHeld 0 = false ∧ s.memErr = [] ∧
    (∀ e ∈ s.entry 0, e.ciValid = false ∧ e.state = .accepted ∧ s.appliedOnTarget e = false ∧ s.bufferHeld e = false ∧
      (s.rings.rePost.all fun p => p.slot != e.slot) = true)) := by decide +kernel
theorem witness_ReplayAndScrubComplete_4 : (let e : JEntry := { slot := 0, asn := 7, state := .applied, ciValid := true, cqIdx := 1 }
    let l : List ReadBack := [{ slot := 0, held := some (7, T.ring.cqPhase 0 1) }]
    (l.find? fun b => b.slot == e.slot) = some { slot := 0, held := some (7, T.ring.cqPhase 0 1) } ∧ e.ciValid = true ∧ T.ring.workHeld e.slot = false ∧
    (6, T.ring.cqPhase 0 1) ≠ (e.asn, T.ring.cqPhase e.cq e.cqIdx)) := by decide +kernel
/-- REGION_MODE in slot 0 of region A, applied before it could be recorded: ASN 1 stands on its target and in its outcome record. -/
theorem witness_ReplayAndScrubComplete_5 : (let s := ((T.e 0 (fun e => { e with targetClass := 2 }) (T.cmd 0 5 false (T.d 0 16 [0, 1] T.ring))).store (outcomeAddr 0) [1, 0, 0, 0]).modRings fun r =>
      { r with work := [], regionWords := r.regionWords.set 0 { h := 1 } }
    s.workHeld 0 = false ∧ s.memErr = [] ∧ leAt (s.bytes (outcomeAddr 0) 32) 0 4 = 1 ∧
    (∀ e ∈ s.entry 0, e.asn = 1 ∧ e.ciValid = false ∧ e.state = .accepted ∧ s.appliedOnTarget e = true)) := by decide +kernel
theorem witness_ReplayAndScrubComplete_6 : (let s := (T.cmd 0 0 false T.ring).modRings fun r => { r with work := [{ slot := 0, replay := some 3 }] }
    (s.entry 0).isSome = true ∧ s.workOf 0 = some { slot := 0, replay := some 3 } ∧ s.power.cRun = true ∧ (s.rings.rePost.all fun p => p.slot != 0) = true) := by
  decide +kernel

theorem witness_MillraceStepsComplete_1 : (let f : MrFrame := { vc := 3, payload := .samples [] }
    let s := T.run.modMr .p fun x => { x with wire := [f, f], sent := [f, f], replays := 3 }
    s.pReach = true ∧ s.power.cRun = true ∧ (s.mr .p).wire.drop 1 = f :: [] ∧ f.crcDiff [] = 0 ∧ f.seq = (s.mr .p).expect) := by
  refine ⟨by decide, by decide, by decide, ?_, by decide⟩
  rw [MrFrame.crcDiff_intact]; rfl
theorem witness_MillraceStepsComplete_2 : (let f : MrFrame := { vc := 3, payload := .samples [], invert := 1 }
    let s := T.run.modMr .p fun x => { x with wire := [f], sent := [f], replays := 3 }
    s.pReach = true ∧ s.power.cRun = true ∧ (s.mr .p).wire.drop 0 = f :: [] ∧ f.crcDiff [] ≠ 0 ∧ (s.mr .p).replays < 4) := by
  refine ⟨by decide, by decide, by decide, ?_, by decide⟩
  rw [MrFrame.crcDiff_intact]; decide
theorem witness_MillraceStepsComplete_3 : T.run.linkUp = true ∧ LinkCause.lane0 ≠ .exhausted ∧
    ((T.run.modMr .c fun x => { x with exhausted := true }).mr .c).exhausted = true ∧
    (let s : State := { T.run with linkUp := false }
     s.awake = true ∧ s.power.pRun = true ∧ s.power.cRun = true ∧ s.linkUp = false) := by decide
theorem witness_MillraceStepsComplete_4 : T.run.pReach = true ∧ T.run.power.cRun = true ∧
    (let s := T.run.modMr .p fun x => { x with again := [{ vc := 0, payload := .samples [] }] }
     s.pReach = true ∧ s.power.cRun = true ∧ (s.mr .p).again ≠ []) ∧
    (let s := T.run.modMr .c fun x => { x with owed := #v[0, 0, 0, 1] }
     (s.mr .p).again = [] ∧ (s.mr .p).sent.length < 64 ∧ ((s.mr Die.p.other).owed.toList.any (· != 0)) = true) ∧
    (T.run.mr .p).again = [] ∧ (T.run.mr .p).sent.length < 64 ∧ ((T.run.mr Die.p.other).owed.toList.any (· != 0)) = false := by decide

/-- Region A with island 0, its carrier running from tick 0, its period 40 000 fine steps. -/
def T.live : State :=
  (T.rg [(0x10000, 40000), (0x18000, 0), (0x50000, 0xFF)] T.run).modRegion 0 fun g => { g with phase := .run, lastBoundary := some 0 }

theorem witness_CarrierStepsComplete_1 : (let s : State := { T.live with now := 4000 }
    s.nextBoundary 0 = some 4000 ∧ 4000 ≤ s.now ∧ s.carrierRuns 0 = true ∧ s.power.pRun = true) := by decide +kernel
theorem witness_CarrierStepsComplete_2 : T.live.regions[(0 : RegionId)].lastBoundary = some 0 ∧ T.live.carrierRuns 0 = true ∧ T.live.regions[(0 : RegionId)].triggered = false ∧
    T.live.power.pRun = true ∧ 0 + T.live.rf (rPwmTrigpos 0) 0 21 ≤ T.live.now := by decide +kernel
theorem witness_CarrierStepsComplete_3 : T.live.regionOf 0 = some 0 ∧ T.live.regions[(0 : RegionId)].lastBoundary = some 0 ∧
    (T.live.islands[(0 : IslandId)]).nextWrap < T.live.fine + 10 ∧ (T.live.islands[(0 : IslandId)]).nextWrap < 10 * 0 + T.live.period 0 := by
  decide +kernel
theorem witness_CarrierStepsComplete_4 : (let s := T.run.modUnit 47 fun x => { x with edges := [(9, true)] }
    s.units[(47 : UnitId)].edges = (9, true) :: [] ∧ 9 < s.fine + 10 ∧ s.power.pRun = true) := by decide +kernel
theorem witness_CarrierStepsComplete_5 : (let s := (T.rg [(0x1C000, 1)] T.run).modBank 0 fun x => { x with winState := 1 }
    s.tripInput 0 = true ∧ s.tripActive[(0 : TripId)] = false ∧ s.power.pRun = true) := by decide +kernel
theorem witness_CarrierStepsComplete_6 : (let s := T.live.modRegion 0 fun g => { g with phase := .recovery, recLeft := some 0 }
    s.regions[(0 : RegionId)].phase = .recovery ∧ s.regions[(0 : RegionId)].recLeft = some 0) := by decide

theorem witness_DutyFrameStepsComplete_1 : (let s : State := { T.live with dutyIn := [{}] }
    (s.dutyIn.find? fun f => f.region == 0) = some {} ∧ s.power.pRun = true) := by decide
theorem witness_DutyFrameStepsComplete_2 : (let s := T.live.modLoop fun l => { l with owed := upd l.owed 0 fun _ => some 5 }
    s.loop.owed[(0 : RegionId)] = some 5 ∧ s.leRuns = true ∧ (∀ c ∈ s.periodWriters 0, (s.loop.rt[c]).released = false)) := by decide +kernel
theorem witness_DutyFrameStepsComplete_3 : (let s : State := T.live.modRegion 0 fun g => { g with missed := 2 }
    s.carrierRuns 0 = true ∧ s.power.pRun = true ∧ s.regions[(0 : RegionId)].lost = false ∧ 2 ≤ s.regions[(0 : RegionId)].missed) := by decide
theorem witness_DutyFrameStepsComplete_4 : (let s : State := { (T.live.modRegion 0 fun g => { g with lossSince := some 0 }) with now := 40000 }
    s.regions[(0 : RegionId)].lossSince = some 0 ∧ 0 + usTicks (s.rf rPairHold 0 8) ≤ s.now ∧ s.isPaired 0 = false) ∧
    (let s : State := { (T.rg [(0x70000, 0x101)] ((T.live.modRegion 0 fun g => { g with lossSince := some 0 }).modPairRegion 0 fun p =>
        { p with partnerActive := true })) with now := 40000 }
    s.regions[(0 : RegionId)].lossSince = some 0 ∧ 0 + usTicks (s.rf rPairHold 0 8) ≤ s.now ∧ s.isPaired 0 = true ∧ s.stillFed 0 = true) ∧
    (let s : State := { (T.rg [(0x70000, 0x101)] (T.live.modRegion 0 fun g => { g with lossSince := some 0 })) with now := 40000 }
    s.regions[(0 : RegionId)].lossSince = some 0 ∧ 0 + usTicks (s.rf rPairHold 0 8) ≤ s.now ∧ s.isPaired 0 = true ∧ s.stillFed 0 = false) := by
  decide +kernel

theorem witness_LoopStepsComplete_1 : (let s := T.live.modLoop fun l => { l with sets := upd l.sets 0 fun _ => [{ release := true }] }
    s.leRuns = true ∧ s.regionIdle 0 = true ∧ s.regions[(0 : RegionId)].phase ≠ .off ∧ splitRelease (s.loop.sets[(0 : RegionId)]) = some ([{ release := true }], { release := true }, []) ∧
    s.computes 0 = true) ∧
    T.run.leRuns = true ∧ T.run.regionIdle 0 = true ∧ T.run.pReach = true ∧ T.run.isMirror 0 = false ∧ T.run.regions[(0 : RegionId)].phase = .off := by decide +kernel
theorem witness_LoopStepsComplete_2 : (let s : State := { T.run with now := 20000 }
    s.leRuns = true ∧ s.nextSlotAt ≤ s.now ∧ s.loop.slotAt + 20000 ≤ s.now) := by decide
theorem witness_LoopStepsComplete_3 : (let s := T.run.modLoop fun l => { l with lanes := l.lanes.set 7 { run := some 255 } }
    s.runReady 255 = true) := by decide +kernel
theorem witness_LoopStepsComplete_4 : (let s := (T.cx 0 0 [0x10, 0, 0, 1, 1] T.run).modLoop fun l => { l with begun := true }
    s.leRuns = true ∧ s.ctxEnabled 0 = true ∧ s.ctxPin 0 = false ∧ s.resident 0 = false ∧ (s.loop.rt[(0 : CtxId)]).prefetching = false ∧
    s.slotsAhead 0 = some 1 ∧ (makeRoom s).claimed < 96) := by decide +kernel
theorem witness_LoopStepsComplete_5 : (let s := (T.cx 0 0 [0x10, 0, 0, 1, 1] T.run).modRt 0 fun x => { x with prefetching := true }
    s.leRuns = true ∧ s.refreshing = false ∧ (s.loop.rt[(0 : CtxId)]).prefetching = true ∧ (s.loop.rt[(0 : CtxId)]).beyond = false ∧
      (s.modRt 0 fun x => { x with prefetching := false }).ctxEnabled 0 = true) ∧
    (let s := (T.run.modRt 0 fun x => { x with prefetching := true, beyond := true }).modArb fun a => { a with leLines := 32 }
    s.leRuns = true ∧ s.refreshing = false ∧ (s.loop.rt[(0 : CtxId)]).prefetching = true ∧ 32 ≤ s.arb.leLines ∧
      (s.modRt 0 fun x => { x with prefetching := false }).ctxEnabled 0 = false) := by
  decide +kernel
theorem witness_LoopStepsComplete_6 : (let s := T.run.modLoop fun l => { l with slot := 400 }
    s.leRuns = true ∧ s.refreshing = false ∧ 400 ≤ (s.loop.slot - s.loop.sweptAt).toNat) := by decide

/-- Context 0 of a template, unbound with divider 1, enabled, its last run at release n; state words as bytes from word 0 on. -/
def T.tpl (t : Byte) (n : Word32) (words : List Byte) (f : CtxRt → CtxRt) : State :=
  (T.cx 0 0x400 words (T.cx 0 0 [t, 0, 0, 1, 1] T.run)).modRt 0 fun x => f { x with lastRun := some n }

/-- A timer word that began at count 0. -/
def T.on : List Byte := [0, 0, 0, 0, 1, 0, 0, 0]
/-- A timer word that has not begun. -/
def T.off : List Byte := List.replicate 8 0

theorem witness_SequencerStepsComplete_0 : (let s := T.tpl 0x0D 0x80000000 [] id
    (s.loop.rt[(0 : CtxId)]).lastRun = some 0x80000000 ∧ s.leRuns = true ∧ s.ctxRuns 0 = true ∧ (s.loop.rt[(0 : CtxId)]).released = false ∧
    s.ctxTemplate 0 = 0x0D) := by decide +kernel
theorem witness_SequencerStepsComplete_1 : (T.tpl 0x0D 0x80000000 ([1, 0, 0, 0, 0, 0, 0, 0] ++ T.on) fun x => { x with seqr := { stage := .blackStart } }).busDead 0 = true := by
  decide +kernel
/-- Phase DELAY, its timer running since count 0. -/
def T.delay : State :=
  T.tpl 0x0D 0x80000000 ([2, 0, 0, 0, 0, 0, 0, 0] ++ T.off ++ T.off ++ T.on) fun x => { x with seqr := { stage := .blackStart } }

theorem delay_start : T.delay.tStart 0 = 0 := by
  have h2 : T.delay.pq 0 2 = 0 := by decide +kernel
  have h3 : T.delay.pq 0 3 = 0 := by decide +kernel
  change (T.delay.paramInt 0 1 : ℚ) * T.delay.pq 0 2 + hashOf Config.serial * T.delay.pq 0 3 = 0
  rw [h2, h3, mul_zero, mul_zero, add_zero]

theorem witness_SequencerStepsComplete_2 : (T.delay.seqr 0).x.stage = .blackStart ∧ (T.delay.seqr 0).phase = 2 ∧ (T.delay.seqLast 0).lost = false ∧
    T.delay.timerDue 0 3 (T.delay.tStart 0) = true := by
  rw [delay_start]
  decide +kernel
theorem witness_SequencerStepsComplete_3 : (let s := T.cx 0 0x120 [0, 0x40] (T.tpl 0x0D 0x80000000 (T.off ++ T.off ++ T.off ++ T.off ++ T.on) fun x => { x with seqr := { drive := true } })
    (s.seqr 0).x.drive = true ∧ (s.seqLast 0).fb = false ∧ s.timerDue 0 4 (s.pq 0 7) = true ∧ (s.seqr 0).x.closed = false) := by decide +kernel
theorem witness_SequencerStepsComplete_4 : (let s := T.cx 0 0x120 [0, 0x40] (T.tpl 0x0D 0x80000000 (T.off ++ T.off ++ T.off ++ T.off ++ T.on) fun x =>
      { x with seqr := { drive := true, closed := true } })
    (s.seqr 0).x.drive = true ∧ (s.seqLast 0).fb = false ∧ s.timerDue 0 4 (s.pq 0 7) = true ∧ (s.seqr 0).x.closed = true) := by decide +kernel
theorem witness_SequencerStepsComplete_5 : (let s := T.tpl 0x0D 0x80000000 ([5, 0, 0, 0, 0, 0, 0, 0] ++ T.off ++ T.off ++ T.off ++ T.off ++ T.on) fun x =>
      { x with seqr := { stage := .blackStart } }
    (s.seqr 0).x.stage = .blackStart ∧ (s.seqr 0).phase = 5 ∧ s.timerDue 0 5 (s.pq 0 6) = true) := by decide +kernel
theorem witness_SequencerStepsComplete_6 : (let s := T.tpl 0x0D 0x80000000 (T.off ++ T.off ++ T.off ++ T.off ++ T.off ++ T.off ++ T.on) fun x =>
      { x with seqr := { stage := .synchronise } }
    (s.seqr 0).x.stage = .synchronise ∧ (s.seqr 0).x.drive = false ∧ s.timerDue 0 6 10 = true) := by decide +kernel
theorem witness_SequencerStepsComplete_7 : (let s := T.tpl 0x0D 0x80000000 [] fun x => { x with seqr := { stage := .softStop, drive := true }, links := { factorZero := true } }
    (s.seqr 0).x.stage = .softStop ∧ (s.seqr 0).x.drive = true ∧ (s.links 0).factorZero = true) := by decide +kernel
theorem witness_SequencerStepsComplete_8 : (let s := T.tpl 0x0C 0x80000000 T.on id
    s.ctxTemplate 0 = 0x0C ∧ s.timerDue 0 0 (s.pq 0 4) = true ∧ s.outVal 0 0 = 0) := by decide +kernel

theorem witness_FormingStepsComplete_1 : (let s := T.cx 0 0x4E0 T.on (T.cx 0 0x428 [4] (T.tpl 1 0x80000000 [] id))
    s.ctxTemplate 0 = 0x01 ∧ (s.vsm 0).mode = 4 ∧ s.timerDue 0 28 (s.pq 0 35) = true ∧ s.leRuns = true ∧ s.ctxRuns 0 = true ∧
    (s.loop.rt[(0 : CtxId)]).released = false) := by decide +kernel
theorem witness_FormingStepsComplete_2 : (let s := T.cx 0 0x4E8 T.on (T.cx 0 0x428 [5] (T.tpl 1 0x80000000 [] id))
    (s.vsm 0).mode = 5 ∧ s.timerDue 0 29 (s.pq 0 17) = true) := by decide +kernel
theorem witness_FormingStepsComplete_3 : (let s := T.cx 0 0x120 [1] (T.tpl 1 0 [] fun x => { x with vsm := { x.vsm with unlocked := some 0 } })
    (s.vsm 0).h.unlocked = some 0 ∧ s.time.locked = false ∧ (s.vsm 0).h.decaying = false ∧ s.pq 0 12 ≤ s.span 0 0 0) := by
  decide +kernel
theorem witness_FormingStepsComplete_4 : (let s := T.cx 0 0x428 [0, 0, 1] (T.tpl 1 0 [] id)
    (s.vsm 0).blend = true ∧ s.paramInt 0 31 ≤ (s.vsm 0).n) := by decide +kernel
theorem witness_FormingStepsComplete_5 : (let s := T.tpl 6 0 [1] id
    s.ctxTemplate 0 = 0x06 ∧ s.foldDue 0 = true) := by decide +kernel
theorem witness_FormingStepsComplete_6 : (let s := T.tpl 2 0 [] fun x => { x with rampDone := [0] }
    (s.loop.rt[(0 : CtxId)]).rampDone = 0 :: [] ∧ s.ctxTemplate 0 ≠ 0x01) := by decide +kernel
theorem witness_FormingStepsComplete_6b : (let s := T.cx 0 0x428 [1] (T.tpl 1 0 [] fun x => { x with rampDone := [14], vsm := { x.vsm with phase := 4 } })
    (s.loop.rt[(0 : CtxId)]).rampDone = 14 :: [] ∧ s.ctxTemplate 0 = 0x01 ∧ (s.vsm 0).mode = 1 ∧ (s.loop.rt[(0 : CtxId)]).vsm.phase = 4) := by decide +kernel
theorem witness_FormingStepsComplete_7 : (let s := T.tpl 0x13 0 [] fun x => { x with ins := [0, 3] }
    s.ctxTemplate 0 = 0x13 ∧ watchPaused (s.lastIns 0) = false ∧ (s.loop.rt[(0 : CtxId)]).sweeping = false ∧ s.sweepDue 0 0 = true) := by decide +kernel
theorem witness_FormingStepsComplete_8 : (let s := T.cx 0 0x10C [2] (T.tpl 0x13 0x80000000 [] fun x => { x with ins := [0, 3], sweeping := true })
    let t := s.modRt 0 fun x => { x with points := [(0, none)] }
    (s.loop.rt[(0 : CtxId)]).sweeping = true ∧ watchPaused (s.lastIns 0) = false ∧
    s.dwell 0 ≤ s.span 0 (s.loop.rt[(0 : CtxId)]).pointAt 0x80000000 ∧ s.swBits 0 2 + 1 < s.paramInt 0 3 ∧ s.swBits 0 2 + 1 < t.paramInt 0 3) := by
  decide +kernel
theorem witness_FormingStepsComplete_9 : (let s := T.cx 0 0x10C [1] (T.tpl 0x13 0x80000000 [] fun x => { x with ins := [0, 3], sweeping := true })
    let t := s.modRt 0 fun x => { x with points := [(0, none)] }
    (s.loop.rt[(0 : CtxId)]).sweeping = true ∧ watchPaused (s.lastIns 0) = false ∧
    s.dwell 0 ≤ s.span 0 (s.loop.rt[(0 : CtxId)]).pointAt 0x80000000 ∧ s.onLane (s.adaptTarget 0) = false ∧ t.paramInt 0 3 ≤ s.swBits 0 2 + 1) := by
  decide +kernel

/-- Island 0 of region A with its bias, link and READY. -/
def T.isl : State := T.live.modIsland 0 fun x => { x with bias := true, ready := true, link := true, evaluated := true }

theorem witness_IslandLinkStepsComplete_1 : (T.isl.islands[(0 : IslandId)]).link = true ∧ T.isl.power.pRun = true ∧
    (let s := T.isl.modIsland 0 fun x => { x with link := false }
     (s.islands[(0 : IslandId)]).link = false ∧ (s.islands[(0 : IslandId)]).bias = true ∧ s.power.pRun = true) := by decide
theorem witness_IslandLinkStepsComplete_2 : (let s := ((T.isl.modUnit (unitH 0) fun x => { x with cmdOn := true }).modUnit (unitL 0) fun x => { x with cmdOn := true }).modIsland 0 fun x => { x with ilkEvent := some 0 }
    s.units[unitH 0].cmdOn = true ∧ s.units[unitL 0].cmdOn = true ∧ (s.islands[(0 : IslandId)]).ilkActive = false ∧
    (s.islands[(0 : IslandId)]).ilkEvent = some 0 ∧ s.now < 0 + msTicks 10) ∧
    (let s := (T.isl.modUnit (unitH 0) fun x => { x with cmdOn := true }).modUnit (unitL 0) fun x => { x with cmdOn := true }
    s.units[unitH 0].cmdOn = true ∧ s.units[unitL 0].cmdOn = true ∧ (s.islands[(0 : IslandId)]).ilkActive = false ∧
    (s.islands[(0 : IslandId)]).ilkEvent = none) := by decide
theorem witness_IslandLinkStepsComplete_3 : (T.isl.islands[islandOf 0]).evaluated = true ∧ T.isl.power.pRun = true ∧ 50000 ≤ 50000 ∧ 1 ≤ 4095 ∧ 4095 ≤ 4095 ∧ T.isl.adapts 0 = false ∧
    49999 < 50000 ∧ 4095 < 4096 := by decide +kernel
theorem witness_IslandLinkStepsComplete_4 : (let s : State := { (((T.isl.modUnit (unitH 0) fun x => { x with cmdOn := true }).modUnit (unitL 0) fun x => { x with cmdOn := true }).modIsland 0
      fun x => { x with ilkEvent := some 0 }) with now := 4000000 }
    s.units[unitH 0].cmdOn = true ∧ s.units[unitL 0].cmdOn = true ∧ (s.islands[(0 : IslandId)]).ilkActive = false ∧
    (s.islands[(0 : IslandId)]).ilkEvent = some 0 ∧ 0 + msTicks 10 ≤ s.now) ∧
    (let s := (T.isl.modIsland 0 fun x => { x with returnUp := true }).modIsland 4 fun x => { x with bias := true, returnUp := true }
     s.returns (islandOf 0) = true ∧ s.power.pRun = true ∧ s.adapts 0 = false ∧
     (T.rg [(rIslAdaptTgt 4 0, 0x010C80A0), (rIslAdaptLim 4 0, 0x01F2F288)] (s.modIsland 4 fun x => { x with link := true })).adapts 8 = true ∧
     (T.rg [(rIslAdaptTgt 4 0, 0x010C80A0), (rIslAdaptLim 4 0, 0x01F2F288)] (s.modIsland 4 fun x => { x with link := true })).returns 4 = true) ∧
    (let s := T.isl.modIsland 0 fun x => { x with returnUp := false }
     (s.islands[(0 : IslandId)]).link = true ∧ (s.islands[(0 : IslandId)]).returnUp = false ∧ (s.islands[(0 : IslandId)]).bias = true) := by decide +kernel

theorem witness_UnitProtectionStepsComplete_1 : T.isl.units[(0 : UnitId)].uvlo = false ∧ T.isl.vOn (islandOf 0) = 15000 + 500 * T.isl.rf (rIslCfg 0) 0 4 ∧
    12499 + 2500 < T.isl.vOn (islandOf 0) ∧
    (let s := T.isl.modUnit 0 fun x => { x with uvlo := true }
     s.units[(0 : UnitId)].uvlo = true ∧ (s.islands[islandOf 0]).evaluated = true ∧ s.vOn (islandOf 0) < 20501 + 2000) := by decide +kernel
theorem witness_UnitProtectionStepsComplete_2 : (let s : State := { (T.isl.modUnit 0 fun x => { x with onAt := some 0, gate := true }) with now := 200 }
    s.units[(0 : UnitId)].onAt = some 0 ∧ s.units[(0 : UnitId)].gate = true ∧ s.units[(0 : UnitId)].armed = false ∧
    bitAt (s.reg (rIslDesat (islandOf 0) (side 0))) 31 = true ∧ 0 + fld (s.reg (rIslDesat (islandOf 0) (side 0))) 0 11 ≤ s.now) := by decide +kernel
theorem witness_UnitProtectionStepsComplete_2b : (let s : State := { (T.isl.modUnit 0 fun x => { x with onAt := some 0, cmdOn := true }) with now := 200 }
    s.units[(0 : UnitId)].onAt = some 0 ∧ s.units[(0 : UnitId)].cmdOn = true ∧ s.units[(0 : UnitId)].armed = false ∧
    bitAt (s.reg (rIslDesat (islandOf 0) (side 0))) 31 = true ∧ 0 + fld (s.reg (rIslDesat (islandOf 0) (side 0))) 0 11 ≤ s.now) := by decide +kernel
theorem witness_UnitProtectionStepsComplete_3 : (let s := T.isl.modUnit 0 fun x => { x with armed := true }
    s.units[(0 : UnitId)].armed = true ∧ 100 * s.rf (rIslDesat (islandOf 0) (side 0)) 11 7 < 12701) ∧
    (let s := T.isl.modUnit 0 fun x => { x with armedOff := some 0 }
    s.units[(0 : UnitId)].armedOff = some s.now) ∧
    (let s : State := { (T.isl.modUnit 0 fun x => { x with softOff := some 0 }) with now := 72 }
    s.units[(0 : UnitId)].softOff = some 0 ∧ 0 + 8 + s.rf (rIslDesat (islandOf 0) (side 0)) 22 8 ≤ s.now) ∧
    (let s : State := { (T.isl.modIsland 0 fun x => { x with testLeft := [1, 3] }) with now := 6400 }
    (s.islands[(0 : IslandId)]).testLeft = 1 :: [3] ∧ (s.islands[(0 : IslandId)]).testAt + 6400 ≤ s.now ∧ (1 : Fin 4).val < 2) ∧
    (let s : State := { (T.isl.modIsland 0 fun x => { x with testLeft := [2] }) with now := 6400 }
    (s.islands[(0 : IslandId)]).testLeft = 2 :: [] ∧ (s.islands[(0 : IslandId)]).testAt + 6400 ≤ s.now ∧ 2 ≤ (2 : Fin 4).val ∧
    (s.islands[(0 : IslandId)]).evaluated = true) ∧
    (let s : State := { (T.live.modIsland 0 fun x => { x with testLeft := [2] }) with now := 6400 }
    (s.islands[(0 : IslandId)]).testLeft = 2 :: [] ∧ (s.islands[(0 : IslandId)]).evaluated = false) := by decide +kernel

theorem witness_IslandStartStepsComplete_1 : (let s := T.live.modSaf fun f => { f with biasPermit := true }
    s.biasWanted 0 = true ∧ (s.islands[(0 : IslandId)]).bias = false) ∧
    (let s := T.live.modIsland 0 fun x => { x with bias := true, startAt := some 0 }
    (s.islands[(0 : IslandId)]).bias = true ∧ (s.islands[(0 : IslandId)]).startAt.isSome = true ∧ (s.islands[(0 : IslandId)]).startFailed = false ∧
    s.power.pRun = true) ∧
    (let s : State := { (T.live.modIsland 0 fun x => { x with bias := true, startAt := some 0, resetReq := true, resetAt := some 0 }) with now := 4000000 }
    (s.islands[(0 : IslandId)]).startAt = some 0 ∧ (s.islands[(0 : IslandId)]).bias = true ∧ (s.islands[(0 : IslandId)]).startFailed = false ∧
    0 + msTicks 10 ≤ s.now ∧ (s.islands[(0 : IslandId)]).resetReq = true ∧ s.power.pRun = true ∧ (s.islands[(0 : IslandId)]).resetAt = some 0) := by
  decide +kernel

theorem witness_BankStepsComplete_1 : (let s : State := { (T.adc.modBank 0 fun x => { x with timerNext := 80, contNext := 81 }) with now := 80 }
    s.converts = true ∧ s.now < (s.banks[(0 : BankId)]).contNext ∧ (s.banks[(0 : BankId)]).timerNext ≤ s.now ∧ s.injSrc 0 ≠ 8 ∧ s.adcMode 0 = 1 ∧
    s.adcSrc 0 ≠ 8) := by decide +kernel
theorem witness_BankStepsComplete_2 : (let s := (T.rg [(0x33000, 2)] T.run).modBank 3 fun x => { x with timerNext := 1 }
    s.converts = true ∧ (s.banks[(3 : BankId)]).contNext ≤ s.now ∧ s.adcMode 3 = 2 ∧ s.now < (s.banks[(3 : BankId)]).timerNext) ∧
    T.adc.adcMode 0 = 1 ∧ T.adc.converts = true ∧
    (let s : State := { (T.adc.modBank 0 fun x => { x with running := some {}, inj := some {}, packed := [{}] }) with now := 80 }
    s.setDue 0 = true ∧ s.converts = true ∧ (s.banks[(0 : BankId)]).inj = some {} ∧ 0 + 40 ≤ s.now ∧ (s.banks[(0 : BankId)]).packed ≠ [] ∧
    (s.banks[(0 : BankId)]).packedAt + 80 ≤ s.now ∧ s.anaRuns = true) := by decide +kernel
theorem witness_BankStepsComplete_3 : (let s := T.adc.modBank 0 fun x => { x with injReq := [none] }
    (s.banks[(0 : BankId)]).injReq = none :: [] ∧ s.converts = true ∧ s.adcMode 0 = 1 ∧ (s.banks[(0 : BankId)]).injDelay = none) ∧
    (let s := T.adc.modBank 0 fun x => { x with injReq := [none], injDelay := some {} }
    (s.banks[(0 : BankId)]).injReq = none :: [] ∧ s.converts = true ∧ s.adcMode 0 = 1 ∧ (s.banks[(0 : BankId)]).injDelay.isSome = true) := by
  decide +kernel

theorem witness_CalibrationStepsComplete_1 : T.adc.converts = true ∧ T.adc.rb (rAdcCal 0) 15 = true ∧ (T.adc.banks[(0 : BankId)]).stopped = false ∧
    (T.adc.banks[(0 : BankId)]).cal = .idle ∧ (T.adc.banks[(0 : BankId)]).calNext ≤ T.adc.now := by decide +kernel
theorem witness_CalibrationStepsComplete_2 : (let s : State := { (T.adc.modBank 0 fun x => { x with cal := .tracking }) with now := 400 }
    s.converts = true ∧ (s.banks[(0 : BankId)]).cal = .tracking ∧ (s.banks[(0 : BankId)]).calAt + 400 ≤ s.now ∧
    s.mayHand 0 (s.banks[(0 : BankId)]).calSlice.val = true) ∧
    (let s : State := { (T.adc.modBank 0 fun x => { x with cal := .measuring, calSlice := 16 }) with now := 8000 }
    s.converts = true ∧ (s.banks[(0 : BankId)]).cal = .measuring ∧ (s.banks[(0 : BankId)]).calAt + 8000 ≤ s.now ∧ (s.banks[(0 : BankId)]).calSlice = 16) ∧
    (let s : State := { (T.adc.modBank 0 fun x => { x with cal := .measuring, calSlice := 15 }) with now := 8000 }
    s.converts = true ∧ (s.banks[(0 : BankId)]).cal = .measuring ∧ (s.banks[(0 : BankId)]).calAt + 8000 ≤ s.now ∧ (s.banks[(0 : BankId)]).calSlice ≠ 16) ∧
    (let s := T.adc.modBank 0 fun x => { x with cal := .measured }
    s.converts = true ∧ (s.banks[(0 : BankId)]).cal = .measured ∧ s.mayHand 0 (s.banks[(0 : BankId)]).calSlice.val = true) := by decide +kernel

theorem witness_WindowChainCaptureStepsComplete_1 : (let s := T.rg [(0x30100, 0x01000000)] T.run
    s.anaRuns = true ∧ s.window 0 = false ∧ s.winAsserts 0 10000000 = true ∧ s.onceMs (s.channels[(0 : ChanId)]).winEvent = true) ∧
    (let s := (T.rg [(0x30100, 0x01000000)] T.run).modChan 0 fun x => { x with winEvent := some 0 }
    s.anaRuns = true ∧ s.window 0 = false ∧ s.winAsserts 0 10000000 = true ∧ s.onceMs (s.channels[(0 : ChanId)]).winEvent = false) ∧
    (let s := (T.rg [(0x30100, 0x01000000)] T.run).modBank 0 fun x => { x with winState := 1 }
    s.anaRuns = true ∧ s.window 0 = true ∧ s.winReleases 0 (-10000000) = true) := by decide +kernel
theorem witness_WindowChainCaptureStepsComplete_2 : (let s : State := { (T.run.modChain 15 fun c => { c with unsent := [1] }) with now := 0x13B0 }
    (s.chains[(15 : ChainId)]).unsent ≠ [] ∧ (s.chains[(15 : ChainId)]).unsentAt + s.rf (rFltOut 15) 0 16 ≤ s.now) ∧
    (let s := T.run.modTrig 7 fun t => { t with state := .holdOff }
    s.trigs[(7 : TrigId)].state = .holdOff ∧ s.rb (rCapTrgCtrl 7) 6 = false ∧ s.trigs[(7 : TrigId)].holdEnd ≤ s.now) ∧
    (let s := T.run.modSess 0 fun x => { x with notices := [{}], lastId := some 0, state := .armed }
    (s.sessions[(0 : SessId)]).notices = {} :: [] ∧ (s.sessions[(0 : SessId)]).lastId = some 0 ∧ (s.sessions[(0 : SessId)]).state = .armed ∧
    s.power.cRun = true ∧ 0 ≤ idDiff 0 ((s.sessions[(0 : SessId)]).noticeId {})) := by decide +kernel
theorem witness_WindowChainCaptureStepsComplete_3 : (let s := T.run.modSess 0 fun x => { x with state := .armed, mask := 1, post := 1, bufLen := 128, trigRec := some 0, taken := 1, triggered := true }
    (s.sessions[(0 : SessId)]).active = true ∧ s.power.cRun = true ∧ (s.sessions[(0 : SessId)]).full = true) := by decide +kernel
theorem witness_WindowChainCaptureStepsComplete_4 : (let s := T.run.modSess 0 fun x => { x with state := .armed, mask := 1, post := 1, bufLen := 128, stopReq := [0] }
    (s.sessions[(0 : SessId)]).active = true ∧ s.power.cRun = true ∧ (s.sessions[(0 : SessId)]).full = false ∧ (s.sessions[(0 : SessId)]).stopReq ≠ [] ∧
    (s.sessions[(0 : SessId)]).accCount = 0 ∧ (s.sessions[(0 : SessId)]).progressAt + msTicks 1 ≤ ({ s with now := 400000 } : State).now) ∧
    (let s : State := { (T.run.modSess 0 fun x => { x with state := .armed }) with now := 400000 }
     s.refreshing = false ∧ (s.sessions[(0 : SessId)]).active = true ∧ s.power.cRun = true ∧ (s.sessions[(0 : SessId)]).progressAt + msTicks 1 ≤ s.now) ∧
    (let s : State := { (T.run.modSess 0 fun x => { x with state := .armed }).modArb (fun a => { a with refreshAt := some 400000 }) with now := 400000 }
     s.refreshing = true ∧ (s.sessions[(0 : SessId)]).active = true ∧ s.power.cRun = true ∧ (s.sessions[(0 : SessId)]).progressAt + msTicks 1 ≤ s.now) := by decide +kernel

theorem witness_ArbiterStepsComplete_1 : (let s : State := { T.run with now := 2 }
     s.slotOpen 1 = true ∧ s.arb.active.arbitrated 1 (true && decide (0 < s.inFlight)) = true ∧ s.arb.grant = none) ∧
    (let s : State := { (T.run.modArb fun a => { a with grant := some (4, 7) }) with now := 23 }
     s.slotOpen 15 = true ∧ s.arb.active.arbitrated 15 (false && decide (0 < s.inFlight)) = true ∧ s.arb.grant = some (4, 7) ∧
       bitAt (s.requestsOf 0x10) 4 = true ∧ bitAt (s.requestsOf 0xF) 4 = false) ∧
    T.run.power.cRun = true ∧ T.run.arb.refreshAt = none ∧
    (let s : State := { (T.run.modArb fun a => { a with refreshAt := some 0, grant := some (0, 1) }) with now := 4000 }
     (∀ t ∈ s.arb.refreshAt, t + 1560 ≤ s.now) ∧ s.power.cRun = true ∧ s.arb.grant = some (0, 1) ∧
       s.arb.progressAt + usTicks 10 ≤ s.now) ∧
    (T.run.modSq 0 fun x => { x with stopped := true }).ownerDown 0 = true := by decide +kernel
theorem witness_ArbiterStepsComplete_1b : (let s : State := { (T.run.modArb fun a => { a with grant := some (4, 7) }) with now := 23 }
     s.arb.grant = some (4, 7) ∧ 0 < 7 ∧ bitAt (s.requestsOf 0x10) 4 = true ∧ bitAt (s.requestsOf 0) 4 = false) ∧
    (let s : State := { (T.run.modArb fun a => { a with grant := some (4, 0) }) with now := 23 }
     s.slotOpen 15 = true ∧ s.arb.grant = some (4, 0) ∧ ¬ 0 < 0) := by decide +kernel
theorem witness_ArbiterStepsComplete_2 : (let s : State := { ((T.cmd 0 0x30 false (T.d 0 16 [5, 0, 0, 0, 1] T.run)).modWeir 5 fun w =>
      { w with owner := some 3, waiters := [(0, some 0, 0)] }) with now := 400 }
    ((List.finRange 32).find? fun n => s.weirs[n].waiters.any fun x => x.2.1 == some 0) = some 5 ∧
    (s.weirs[(5 : WeirId)].waiters.find? fun x => x.2.1 == some 0) = some (0, some 0, 0) ∧ leAt (s.desc 0) 20 4 ≠ 0 ∧
    0 + usTicks (leAt (s.desc 0) 20 4) ≤ s.now) := by decide +kernel
theorem witness_ArbiterStepsComplete_3 : (let s : State := { (T.rg [(0x80088, 0x8180)] T.run) with now := 400000000 }
    s.safEn = true ∧ s.safPowered = true ∧ s.power.cRun = true ∧ s.pReach = true ∧ s.awake = true ∧ s.weirs[s.safWeir].owner = none ∧
    s.arb.safAt + msTicks 1 ≤ s.now ∧ (s.weirs[s.safWeir].waiters.any fun x => x.1 == 8) = false ∧
    s.netEn = true ∧ s.netRuns = true ∧ s.weirs[s.netWeir].owner = none ∧ s.arb.netAt + sTicks 1 ≤ s.now ∧
    (s.weirs[s.netWeir].waiters.any fun x => x.1 == 9) = false) := by decide +kernel

theorem witness_NetworkStepsComplete_1 : 14 ≤ (List.replicate 14 (0 : Byte)).length ∧ (List.replicate 14 (0 : Byte)).length ≤ 1528 ∧ T.net.linkOf 0 = true ∧
    (T.net.net.ports[(0 : PortId)]).sending = none ∧ (T.net.net.ports[(0 : PortId)]).link = true ∧ (T.net.net.ports[(1 : PortId)]).link = false ∧
    T.net.netRuns = true := by decide
theorem witness_NetworkStepsComplete_2 : (let s := T.net.modPort 0 fun p => { p with sending := some { bytes := [] } }
    (s.net.ports[(0 : PortId)]).sending = some { bytes := [] } ∧ ({ bytes := [] } : TxFrame).stamped = false ∧ s.netRuns = true) ∧
    (let s : State := { T.net with now := 800000000 }
    s.netRuns = true ∧ s.net.lastSup + msTicks (s.rf rNetPrpCfg 16 16) ≤ s.now) := by decide +kernel
theorem witness_NetworkStepsComplete_3 : (let s : State := { (T.net.modPort 1 fun p => { p with lastRx := 1 }) with now := 2400000000 }
    s.netRuns = true ∧ (s.net.ports[(0 : PortId)]).silent = false ∧
    (s.net.ports[(0 : PortId)]).lastRx + 3 * msTicks (s.rf rNetPrpCfg 16 16) ≤ s.now ∧
    s.now < (s.net.ports[(1 - 0 : PortId)]).lastRx + 3 * msTicks (s.rf rNetPrpCfg 16 16) ∧
    (s.net.ports[(0 : PortId)]).lastRx < (s.net.ports[(1 - 0 : PortId)]).lastRx) := by decide +kernel
theorem witness_NetworkStepsComplete_4 : (let s : State := { (T.net.modNet fun x => { x with nodes := [{ mac := 7 }] }) with now := 24000000000 }
    ({ mac := 7 } : PrpNode) ∈ s.net.nodes ∧ (0 : Nat) + sTicks 60 ≤ s.now) ∧
    (let s : State := { (T.net.modTime fun t => { t with locked := true }) with now := 1600000000 }
    s.lockExpired = true) := by decide +kernel

/-- A pair frame of a type at the head of the inbox, of the partner's region A. -/
def T.rx (t : Byte) : State := T.pair.modPair fun p => { p with inbox := [[t, 0, 0, 0, 0, 0, 0, 9]] }

theorem witness_PairStepsComplete_1 : (∀ t : Fin 7, (T.rx (BitVec.ofNat 8 (t.val + 1))).pairHead (t.val + 1) = some (0, 9, [])) ∧ (T.rx 1).netRuns = true ∧
    (popPair (T.rx 5)).pReach = true ∧ (popPair (T.rx 5)).power.cRun = true ∧ (popPair (T.rx 6)).leRuns = true ∧ (T.rx 1).leRuns = true := by
  decide +kernel
theorem witness_PairStepsComplete_2 : (let s := T.rg [(0x70000, 0x20001)] (T.rx 1)
    s.pairHead 1 = some (0, 9, []) ∧ s.netRuns = true ∧ s.mirrorLetter 0 = some 1 ∧ s.linkUp = true ∧ s.leRuns = true ∧ s.regionIdle 1 = true) := by
  decide +kernel
theorem witness_PairStepsComplete_3 : (let s : State := { T.pair with now := 4000000 }
    s.netRuns = true ∧ s.rb rPairCfg 0 = true ∧ s.power.sealed = true ∧ s.pair.lastHello + msTicks 1 ≤ s.now ∧ s.pair.up = true ∧
    s.pair.lastRx + msTicks 10 ≤ s.now) := by decide +kernel
theorem witness_PairStepsComplete_4 : (let s := (T.pair.modRegion 0 fun g => { g with phase := .run }).modPairRegion 0 fun p => { p with missLocal := 2, wanted := true }
    s.power.pRun = true ∧ s.isPaired 0 = true ∧ s.carrierRuns 0 = true ∧ (s.pair.regions[(0 : RegionId)]).partnerActive = false ∧
    s.refereeFinds 0 false = true) ∧
    (let s := (T.pair.modRegion 0 fun g => { g with phase := .run }).modPairRegion 0 fun p => { p with wanted := true, partnerActive := true, resyncAt := some 0, discarded := 2 }
    (s.pair.regions[(0 : RegionId)]).wanted = true ∧ s.mayResync 0 = true ∧ s.pair.up = true ∧ (s.pair.regions[(0 : RegionId)]).discarded < 3 ∧ s.isPaired 0 = true ∧
    s.carrierRuns 0 = true ∧ (s.pair.regions[(0 : RegionId)]).partnerActive = true) ∧
    (let s := T.pair.modPairRegion 0 fun p => { p with resyncAt := some 0, discarded := 3 }
    (s.pair.regions[(0 : RegionId)]).resyncAt = some 0 ∧ 3 ≤ (s.pair.regions[(0 : RegionId)]).discarded) := by decide +kernel
theorem witness_PairStepsComplete_5 : (let s := (T.pair.modRegion 0 fun g => { g with phase := .run }).modPairRegion 0 fun p => { p with held := true, wanted := true }
    s.mayResync 0 = true ∧ s.maySnapshot 0 = true ∧ s.isMirror 0 = false ∧ s.carrierRuns 0 = true ∧ (s.pair.regions[(0 : RegionId)]).partnerActive = false) ∧
    (let s := (T.rg [(0x70000, 0x20001)] T.pair).modPairRegion 1 fun p => { p with held := true }
    s.mayResync 1 = true ∧ s.maySnapshot 1 = true ∧ s.isMirror 1 = true ∧ s.isPaired 1 = false) := by decide +kernel

theorem witness_EventStepsComplete_1 : (let s := T.run.modEvents fun e => { e with raised := [{ source := 0, code := 1, sev := .info }] }
    s.power.pRun = true ∧ (trgWaiting s).events.raised = { source := 0, code := 1, sev := .info } :: [] ∧ (trgWaiting s).power.cRun = true) ∧
    (let s : State := { (T.rg [(0x4C0, 0)] (T.run.modSrc 0 fun f => { f with state := .fault, reaction := .unitOff })) with now := 400000000 }
    s.events.src[(0 : SourceId)].recovers = true ∧ s.conditionBefore 0 = false ∧
    s.events.src[(0 : SourceId)].quietSince s.now + msTicks (s.rf (rEvtRecov 0) 0 16) ≤ s.now) := by decide +kernel

theorem witness_SafetyInputStepsComplete_1 : T.run.chJudges 0 = true ∧ (T.run.saf.ch[(0 : SafCh)]).inputs[(SafInput.inhA).idx] ≠ true ∧
    T.run.filtTicks .inhA ≤ 40000 * 31 ∧ T.run.filtTicks .fbB = 80000 := by decide +kernel
theorem witness_SafetyInputStepsComplete_2 : (let s : State := { (T.run.modSafCh 0 fun c => { c with inputs := c.inputs.set 0 true, discSince := #v[some 0, none], startupSince := some 0 }) with
      now := 204800000 }
    s.power.sealed = true ∧ s.chJudges 0 = true ∧ (s.saf.ch[(0 : SafCh)]).discFault[(SafPair.inh).idx] = false ∧
    (s.saf.ch[(0 : SafCh)]).readA .inh ≠ (s.saf.ch[(0 : SafCh)]).readB .inh ∧ (s.saf.ch[(0 : SafCh)]).discSince[(SafPair.inh).idx] = some 0 ∧
    0 + msTicks (s.discMs .inh) ≤ s.now ∧ (s.saf.ch[(0 : SafCh)]).startup = false ∧ (s.saf.ch[(0 : SafCh)]).startupSince = some 0 ∧
    0 + msTicks 20 ≤ s.now) := by decide +kernel
theorem witness_SafetyInputStepsComplete_3 : T.run.power.pRun = true ∧ T.run.wireCan .demand = true ∧ WireState.demand ≠ .absent ∧
    T.run.decodeWave [] 16000 = .demand ∧
    (let s := T.run.modPower fun p => { p with powerGood := false }
     s.power.pRun = true ∧ s.power.powerGood = false ∧ s.wireCan .absent = true) := by decide +kernel
/-- Both safety channels started and good, no input in demand. -/
def T.saf : State := T.run.modSaf fun f =>
  { f with
    ch := Vector.replicate 2 { inputs := Vector.replicate 6 true, startup := true, selfOk := true, paramOk := true, so := Vector.replicate 2 true, dch := true }
    wire := .enable, wave := true, biasPermit := true, biasAt := some 0, reqA := true, reqB := true }
theorem witness_SafetyInputStepsComplete_4 : (let s : State := { T.saf with now := 4000000 }
    s.saf.path1Block = true ∧ s.saf.biasPermit = true ∧ s.path1Acts = false ∧ s.mayEnable = true ∧ s.saf.biasAt = some 0 ∧ 0 + 4000000 ≤ s.now) := by
  decide +kernel

theorem witness_SafeOutputStepsComplete_1 : (let s : State := { (T.saf.modSafCh 0 fun c => { c with testFrom := 0 }) with now := sTicks 3600 }
    s.power.sealed = true ∧ s.chJudges 0 = true ∧ s.testDue 0 = true ∧ (s.saf.ch[(0 : SafCh)]).pulse = Vector.replicate 2 false ∧
    s.testable 0 0 = true) := by decide +kernel
theorem witness_SafeOutputStepsComplete_2 : (let s : State := { (T.saf.modSafCh 1 fun c => { c with pulse := #v[true, true] }) with now := 508000 }
    (s.saf.ch[(1 : SafCh)]).pulse = #v[true, true] ∧ (s.saf.ch[(1 : SafCh)]).pulseAt + s.testPulse ≤ s.now) ∧ T.saf.soOn 1 = true ∧ 6000 < 6001 ∧
    2500 < 2501 ∧ msTicks 10 ≤ 4000000 := by decide +kernel
theorem witness_SafeOutputStepsComplete_3 : (let s : State := { (T.run.modSafCh 0 fun c => { c with inputs := Vector.replicate 6 false }) with now := 204400000 }
    s.power.sealed = true ∧ s.chJudges 0 = true ∧ (s.saf.so[(0 : SoId)]).changedAt + s.feedbackTime ≤ s.now ∧ (s.saf.so[(0 : SoId)]).energised = false ∧
    s.mirrorRead 0 0 = false ∧ (s.saf.so[(0 : SoId)]).welded = false) ∧
    (let s : State := { (T.saf.modSo 1 fun f => { f with energised := true }) with now := 204400000 }
    s.power.sealed = true ∧ s.chJudges 0 = true ∧ (s.saf.so[(1 : SoId)]).changedAt + s.feedbackTime ≤ s.now ∧ (s.saf.so[(1 : SoId)]).energised = true ∧
    s.mirrorRead 0 1 = true ∧ (s.saf.so[(1 : SoId)]).notClosed = false) := by decide +kernel
theorem witness_SafeOutputStepsComplete_4 : (let s : State := { (T.saf.modSo 0 fun f => { f with welded := true, clearSince := some 0 }) with now := 400000000 }
    (s.saf.so[(0 : SoId)]).welded = true ∧ (s.saf.so[(0 : SoId)]).clearSince = some 0 ∧ 0 + sTicks 1 ≤ s.now) ∧
    (T.run.chJudges 1 = true ∧ T.run.soDemanded 1 = false ∧ (T.run.saf.ch[(0 : SafCh)]).so[(1 : SoId)] = false ∧
    (T.run.saf.ch[(1 : SafCh)]).so[(1 : SoId)] = false) := by decide +kernel
theorem witness_SafeOutputStepsComplete_5 : (let s : State := { (T.saf.modSafCh 1 fun c => { c with testFrom := 0 }) with now := sTicks 5400 }
    s.power.sealed = true ∧ s.chJudges 1 = true ∧ s.ch2Absent = false ∧ s.testDue 1 = true ∧ (s.saf.ch[(1 : SafCh)]).pulse = Vector.replicate 2 false ∧
    s.testable 1 1 = true) ∧
    (let s : State := { (T.saf.modSafCh 1 fun c => { c with pulse := #v[false, true] }) with now := 508000 }
    (s.saf.ch[(1 : SafCh)]).pulse = #v[false, true] ∧ (s.saf.ch[(1 : SafCh)]).pulseAt + s.testPulse ≤ s.now) ∧
    (let s : State := { (T.saf.modSo 1 fun f => { f with energised := true }) with now := 204400000 }
    s.chJudges 1 = true ∧ s.ch2Absent = false ∧ (s.saf.so[(1 : SoId)]).changedAt + s.feedbackTime ≤ s.now ∧ (s.saf.so[(1 : SoId)]).energised = true ∧
    s.mirrorRead 1 1 = true ∧ (s.saf.so[(1 : SoId)]).notClosed = false) := by decide +kernel

/-- The wire decoded absent since tick 0, channel 2 good. -/
def T.gone : State := T.saf.modSaf fun f => { f with wire := .absent, absentSince := some 0 }

theorem witness_SecondPathStepsComplete_1 : T.gone.saf.absentSince = some 0 ∧ T.gone.ch2Absent = true ∧ T.gone.power.powerGood = true ∧ T.gone.power.pRun = true ∧
    T.gone.waveOk = true := by decide +kernel
theorem witness_SecondPathStepsComplete_1b : T.gone.chPowered 0 = true ∧ (let s := T.saf.modPower fun p => { p with pRun := false }
    s.chPowered 0 = true ∧ s.wireCan .demand = true ∧ s.power.pRun = false) := by decide +kernel
theorem witness_SecondPathStepsComplete_2 : (let s : State := { T.gone with now := 5120000000 }
    s.power.sealed = true ∧ s.chPowered 0 = true ∧ s.ch2Absent = true ∧ s.saf.ch2Timeout = false ∧ s.saf.absentSince = some 0 ∧
    0 + 40000000 * s.rf rSafCh2Cfg 0 7 < s.now) := by decide +kernel
theorem witness_SecondPathStepsComplete_3 : (let s : State := { (T.saf.modSaf fun f => { f with ch := f.ch.set 0 { (f.ch[0]) with paramOk := false }, demandAt := some 0 }) with now := 1600000 }
    s.power.pRun = true ∧ s.sf1Demand 0 = true ∧ s.power.powerGood = true ∧ s.saf.wire = .enable ∧ s.saf.ch2NotFollowed = false ∧
    s.saf.demandAt = some 0 ∧ 0 + msTicks 4 ≤ s.now) := by decide +kernel
theorem witness_SecondPathStepsComplete_4 : (let s : State := { (T.saf.modSaf fun f => { f with demandAt := some 0, readBackAt := some 800000 }) with now := 800000 }
    s.chPowered 0 = true ∧ s.saf.demandAt = some 0 ∧ 0 + msTicks 2 ≤ s.now ∧ s.saf.path2Fault = false) ∧
    T.saf.chPowered 0 = true ∧ T.saf.saf.demandAt.isSome = false ∧ periodic (sTicks 1) T.saf.saf.readBackAt T.saf.now = true ∧
    T.saf.saf.path1Fault = false ∧ (∀ u : UnitId, T.saf.units[u].gate = false) ∧ T.saf.ch1Failed = false ∧
    periodic (msTicks 10) (T.saf.saf.ch[(0 : SafCh)]).checkedAt T.saf.now = true ∧ T.saf.chJudges 1 = true ∧
    periodic (msTicks 100) (T.saf.saf.ch[(1 : SafCh)]).checkedAt T.saf.now = true ∧
    evCh2SelfCheck.code ∉ (T.saf.events.src[(180 : SourceId)]).standing := by decide +kernel
theorem witness_SecondPathStepsComplete_5 : T.saf.chJudges 0 = true ∧ T.saf.supplyPulses 0 0 = true ∧
    (∀ i : Fin 6, (T.saf.saf.ch[(0 : SafCh)]).inputs[i] = true → (0x15#6).getLsbD i.val = decide (i.val % 2 = (0 : SoId).val)) ∧
    (let s := T.run.modSafCh 0 fun c => { c with inputs := c.inputs.set 0 true }
     s.chJudges 0 = true ∧ s.supplyPulses 0 0 = true ∧ (s.saf.ch[(0 : SafCh)]).inputs[(0 : Fin 6)] = true ∧
     (0#6).getLsbD 0 ≠ decide ((0 : SoId).val = 0) ∧
     (s.saf.ch[(0 : SafCh)]).discFault[(0 : Fin 2)] = false ∧ (∀ i : Fin 6, 2 ≤ i.val → (s.saf.ch[(0 : SafCh)]).inputs[i] = false)) := by
  decide +kernel
theorem witness_SecondPathStepsComplete_6 : T.saf.dchOn = true ∧ 750 < 751 ∧ (let s : State := { (T.saf.modSaf fun f => { f with dchOver := some 0 }) with now := 400000000 }
    s.saf.dchOver = some 0 ∧ 0 + sTicks 1 ≤ s.now) ∧ ({ T.run with drive := true } : State).cdrvOn = true ∧ 1500 < 1501 ∧ msTicks 10 ≤ 4000000 ∧
    (let s := T.run.modPower fun p => { p with domOn := 0x2FF }
     bitAt s.power.domOn 8 = false ∧ s.awake = true ∧ s.power.cRun = true) := by decide +kernel

theorem witness_SupplyStepsComplete_1 : T.run.power.low = false ∧ T.run.power.lost = false ∧ 16799 < 16800 ∧ 13199 < 13200 ∧ T.run.awake = true ∧
    (let s := T.run.modPower fun p => { p with low := true }
     s.power.low = true ∧ s.power.lost = false ∧ 16800 ≤ 16800) ∧
    (let s : State := { (T.run.modPower fun p => { p with lost := true, low := true }) with now := 4000000 }
     s.power.lost = true ∧ s.awake = true ∧ s.power.failed = false ∧ s.now ≤ s.power.lostAt + msTicks 10 ∧
     s.power.dev ≠ .stabled ∧ s.power.lostAt + msTicks 10 ≤ s.now) ∧
    (let s := T.run.modPower fun p => { p with lost := true, low := true }
     s.power.lost = true ∧ s.power.failed = false ∧ s.power.dev ≠ .stabled ∧ 60 ≤ 60) ∧
    (let s := T.run.modPower fun p => { p with lost := true, low := true, failed := true }
     s.power.lost = true ∧ s.awake = true ∧ s.power.failed = true ∧ s.power.dev ≠ .stabled) := by decide

theorem witness_DomainAndClockStepsComplete_1 : bitAt T.run.power.domOn Domain.mem.no = true ∧ T.run.awake = true ∧
    (let s : State := { State.reset with power := { ({} : Power) with domOn := 0x3F7 } }
     bitAt s.power.domOn 3 = false ∧ s.awake = true ∧ s.power.pRun = true ∧ s.power.sealed = false) ∧
    (let s : State := { (T.run.modPower fun p => { p with isoLostAt := some 0 }) with now := 4000000 }
     s.power.isoLostAt = some 0 ∧ 0 + msTicks 10 ≤ s.now ∧ s.awake = true) ∧
    T.run.power.memsOk = true ∧ (T.run.modPower fun p => { p with memsHeld := true }).power.memsHeld = true ∧ T.run.power.pLock = true ∧
    T.run.power.cLock = true ∧ T.run.power.mLock = true ∧ T.run.power.pRun = true ∧ 300 < (-301 : Int).natAbs ∧
    periodic (sTicks 1) T.run.power.aoMeasuredAt T.run.now = true ∧ (300#16).toInt.natAbs ≤ 300 ∧ 300 < (0xFED3#16).toInt.natAbs := by
  decide
theorem witness_DomainAndClockStepsComplete_2 : (let s : State := { State.reset with now := 40001, power := { ({} : Power) with domOn := 0x3F7, dev := .waking } }
    bitAt s.power.domOn 3 = false ∧ s.reached (rampTicks + 1) = true ∧ ({ s with now := 40000 } : State).reached (rampTicks + 1) = false ∧ s.power.sealed = false) := by
  decide +kernel

theorem witness_ResetStepsComplete_1 : (let s := T.run.modPower fun p => { p with cRun := false, pRun := false }
     s.power.cRun = false ∧ s.power.pRun = false ∧ s.awake = true ∧ s.power.memsHeld = false) ∧
    (let s : State := { (T.rg [(0x1004, 2)] (T.run.modPower fun p => { p with cSafe := some 0 })) with now := 400000 }
     s.power.cSafe = some 0 ∧ s.rb rPwrDomCfg 1 = true ∧ 0 + msTicks 1 ≤ s.now) ∧
    (T.run.modPower fun p => { p with dev := .stabled }).wakes .pinA 33 0 = true ∧ T.run.awake = true := by decide +kernel
theorem witness_ResetsKeep : (let s := (T.cmd 0 0 false T.run).modArb fun a => { a with capBuf := [(0x150000, [1])] }
    (∀ e ∈ s.rings.journal, e.slot ∉ s.rings.unacked) ∧ s.rings.journal ≠ [] ∧ s.rings.unacked = [] ∧ Memory.wf s.mem = true ∧
    (∀ w ∈ s.arb.capBuf, 0x80000 ≤ w.1) ∧ ctxWordByte 2055 = false ∧ ctxWordByte 2056 = true ∧ ctxWordByte 44 = false) ∧
    (∀ n : SessId, 0x80000 ≤ ((T.run.modSess n fun x => { x with bufAddr := 0x150000 }).sessions[n]).bufAddr) := by decide +kernel

theorem witness_EmptyQueueTicks : T.run.pending = [] := rfl
theorem witness_EmptyQueueTicks_waking : (let s : State := { State.reset with linkUp := true, now := 15999999, power := { ({} : Power) with dev := .waking } }
    s.pending = [] ∧ s.power.dev = .waking ∧ s.power.wakeAt + 16000000 ≤ s.now + 1 ∧ s.power.pRun = true ∧ s.power.cRun = true ∧ s.linkUp = true) := by
  decide
theorem witness_SealedWriteKeepsSettings_reserved : (let s := T.run
    wfAccess (0x4000 + 0x10 * 190) 0 4 = true ∧ reservedSource 190 = true ∧ reservedReg (0x4000 + 0x10 * 190) = true ∧ (regRow (0x4000 + 0x10 * 190)).isSome = true ∧
    (writers.findSome? fun w => instOf w.1 w.2.1 w.2.2.1 (0x4000 + 0x10 * 190)) = none ∧ s.power.sealed = true ∧ s.power.cRun = true ∧
    s.hostReaches = true ∧ storedWord (0x4000 + 0x10 * 190) (s.reg (0x4000 + 0x10 * 190)) = s.reg (0x4000 + 0x10 * 190)) := by decide +kernel
theorem witness_EveryStepCompletes : (Instr.registerWrite 0xFFFFC 0xFFFFFFFF 4).wf = true ∧ (Instr.imageLoadDone none).wf = true := by decide
theorem witness_StepRunsFront : (let s : State := { T.run with pending := [.powerOnReset, .arm 0] }; s.pending = .powerOnReset :: [.arm 0]) := rfl
/-- Ill-formed accesses: outside BAR0 and BAR2, misaligned, of three bytes, wider than their size; the last one is the widest that can be sent. -/
theorem witness_OddOperandsComplete_access : wfAccess 0x102000 0 4 = false ∧ wfAccess 0x100000 0 4 = true ∧ wfAccess 2 0 4 = false ∧ 2 % 4 ≠ 0 ∧ wfAccess 0 0 3 = false ∧
    wfAccess 0 0x100 1 = false ∧ wfAccess 0xFFFF8 (-1) 8 = true := by decide
/-- Thirteen bytes are no frame, fourteen are. -/
theorem witness_OddOperandsComplete_frame : wfFrame (List.replicate 13 0) = false ∧ wfFrame (List.replicate 14 0) = true ∧ T.net.linkOf 0 = true ∧
    T.net.linkOf 1 = false := by decide
/-- A table image of one byte, and a journal line beyond the last, are ill-formed. -/
theorem witness_OddOperandsComplete_image : wfImage (some [0]) = false ∧ wfLine true 8192 = false ∧ wfLine false 8192 = true := by decide
theorem witness_ExecKeepsQueue : (∃ t, exec .powerOnReset T.run = .next t) := ⟨_, rfl⟩
theorem witness_StepKeepsRegsSound : RegsSound (T.rg [(0x2008, 0x88)] T.run) := by
  refine ⟨⟨?_, ?_⟩, ?_, ?_⟩ <;> decide +kernel
theorem witness_StepKeepsRegsSound_tables : TablesSound { T.ctxWr with memErr := [(7, [(0, 1)])] } := by
  refine ⟨?_, ?_, ?_⟩ <;> decide +kernel
theorem witness_StepKeepsJournalSound : JournalSound ((T.cmd 1 0 false (T.cmd 0 0 false T.run)).modRings fun r => { r with unacked := [1] }) := by
  refine ⟨?_, ?_, ?_, ?_, ?_⟩ <;> simp [T.cmd, T.run, State.modRings, State.reset, Held]
theorem witness_StepKeepsJournalSound_asn : (let s := T.cmd 1 0 false (T.cmd 0 0 false T.run)
    AsnsDiffer s ∧ ∀ e ∈ s.rings.journal, e.asn ≠ s.rings.nextAsn) := by
  simp [T.cmd, T.run, State.modRings, State.reset, AsnsDiffer]
theorem witness_SealedWriteKeepsSettings : (let s := T.run
    wfAccess 0x2008 0x88 4 = true ∧ s.hostReaches = true ∧ s.power.cRun = true ∧ dieOf 0x2008 = .c ∧ s.power.sealed = true ∧
    (regRow 0x2008).isSome = true ∧ (writers.findSome? fun w => instOf w.1 w.2.1 w.2.2.1 0x2008) = none ∧ tableWf resetWord s.regs = true ∧
    storedWord 0x2008 (s.reg 0x2008) = s.reg 0x2008 ∧ ∀ r ∈ regRow 0x2008, (0x88#32 ^^^ s.reg 0x2008) &&& r.rws ≠ 0 ∧ (s.reg 0x2008 ^^^ s.reg 0x2008) &&& r.rws = 0) := by
  decide +kernel
theorem witness_SealedWriteKeepsSettings_unsealed : (let s := T.setup
    wfAccess 0x2008 0x88 4 = true ∧ s.hostReaches = true ∧ s.power.cRun = true ∧ dieOf 0x2008 = .c ∧ s.power.sealed = false ∧
    (regRow 0x2008).isSome = true ∧ (writers.findSome? fun w => instOf w.1 w.2.1 w.2.2.1 0x2008) = none ∧ tableWf resetWord s.regs = true) := by
  decide +kernel
theorem witness_NarrowWideAndEmptyAccesses_bar2 : T.run.hostReaches = true ∧ tableWf msixReset T.run.host.msixTable = true ∧ 31 < 32 ∧ 0x1FC < 0x200 ∧
    (T.run.modPower fun p => { p with cRun := false }).hostReads 0 = some 0xFFFFFFFF ∧
    (T.run.modHost fun h => { h with up := false }).hostReaches = false := by decide +kernel
theorem witness_RegisterWordsKept : mayWriteWords (.moduleTemperature 0) = false := by decide
theorem witness_NarrowWideAndEmptyAccesses : regRow 0xFFFFC = none ∧ (readers.findSome? fun r => instOf r.1 r.2.1 r.2.2.1 0xFFFFC) = none ∧ (writers.findSome? fun w => instOf w.1 w.2.1 w.2.2.1 0xFFFFC) = none := by decide +kernel
theorem witness_RefusedChangesNothing_lanes : (let s := T.rg [(0x50004, 0xFF)] State.reset
    wfAccess (rLeLanes 0) 0x80 4 = true ∧ s.laneTaken 0 0x80 = true ∧ s.laneTaken 0 0x100 = false ∧ s.hostReaches = true ∧ s.power.cRun = true ∧ s.power.sealed = false) := by decide +kernel
theorem witness_RefusedChangesNothing_probe : (let s := (T.cmd 0 0x14 false (T.d 0 16 [0x2F] T.run)).modProbe 15 fun p => { p with gen := 3 }
    s.mayApply 0 0x14 = true ∧ (s.loop.probes[dByte (s.desc 0) 16 % 16]'(Nat.mod_lt _ (by decide))).gen.toNat ≠ dByte (s.desc 0) 16 / 16) := by decide +kernel
theorem witness_RefusedChangesNothing_safe : (let s := T.cmd 0 5 false (T.d 0 16 [7, 1] (T.run.modPower fun p => { p with dev := .safe }))
    s.mayApply 0 0x05 = true ∧ s.power.dev = .safe ∧ regionNo (leAt (s.desc 0) 16 1) = some 7 ∧ phaseOf (leAt (s.desc 0) 17 1) = some .start) := by decide +kernel
theorem witness_FinishRecordsOutcome : (let s := T.cmd 0 0 false T.run
    (s.entry 0).isSome = true ∧ s.power.cRun = true ∧ Memory.wf s.mem = true) := by decide
theorem witness_LosersBackOff : (let a := T.run.arb; (a.winner (a.requesters 0x1F)) = some 0 ∧ bitAt (0x1F#5) 4 = true ∧ a.backoff[(4 : Fin 5)] = 0) ∧
    (let a := { T.run.arb with backoff := #v[64, 0, 0, 0, 1] }; (a.winner (a.requesters 0x1F)).isSome = true ∧ a.backoff[(0 : Fin 5)] ≠ 0) := by decide +kernel
theorem witness_HeldUnitsAreOff : (settle T.run T.run).unitHeld 0 = true ∧ (settle T.run T.run).cmdStops 0 = true := by decide +kernel
theorem witness_PDieDownIsPackageSafe : (settle State.reset { State.reset with power := { ({} : Power) with pRun := false } }).power.pRun = false ∧ T.run.awake = true := by
  decide +kernel

/-- The second and third turn-on of the worked example of 07_driver_islands.md: strength 10 after 188 and after 171 fine steps. -/
theorem test_strength_steps : (let s := T.rg [(rIslAdaptTgt 4 0, 0x010C80A0), (rIslAdaptLim 4 0, 0x01F2F288)] ((T.run.modIsland 4 fun x => { x with link := true }).modUnit 8 fun x => { x with src := 9 })
    s.adapts 8 = true ∧ ((adapt 8 true 188 s).units[(8 : UnitId)]).src = 10 ∧
    ((adapt 8 true 171 (adapt 8 true 188 s)).units[(8 : UnitId)]).src = 10) := by decide +kernel
/-- Island I03 of region A of the worked example of 06_pwm_regions.md, the high unit with a carry. -/
def T.leg (carry : BitVec 24) : State :=
  ((T.rg [(0x10000, 200000), (rPwmDtH 3, 0xFA0), (rPwmDtL 3, 0xFA0), (rPwmMinp 3, 0x07D007D0)] T.run).modIsland 3 fun x =>
    { x with ready := true, link := true, bias := true, evaluated := true, started := true, haveCmp := true, actCmp := 488 }).modUnit 6 fun x => { x with carry := carry, offAtEnd := true }
/-- Period 1 of the worked example of 06_pwm_regions.md: the high unit is suppressed, its carry is 488. -/
theorem test_small_duty_suppressed : (let s := wrapPeriod 3 200000 (T.leg 0)
    (s.units[(6 : UnitId)]).edges = [] ∧ (s.units[(6 : UnitId)]).carry = 488) := by decide +kernel
/-- Period 13 of the same: the compare that acts is 6344, the high unit is on for 2344 fine steps, its carry is 0. -/
theorem test_small_duty_passes : (let s := wrapPeriod 3 200000 (T.leg 0x16E0)
    (s.islands[(3 : IslandId)]).cmp = 0x18C8 ∧ (s.units[(6 : UnitId)]).carry = 0 ∧ edgesH 0 6344 200000 4000 0 true false = [(4000, true), (6344, false)]) := by
  decide +kernel
/-- Its duty of 0x0050 in a period of 200 000 fine steps. -/
theorem test_duty_488 : dutyCompare 0x50 200000 = 488 := by decide
/-- COST of the worked example of 05_context_table.md. -/
theorem test_cost_vsm : (T.cx 8 0 [0x01] T.run).costOf 8 = 0x30 := by decide +kernel

end Sys2Proof.Tests
end

section
/-!
SUPPORT. What every command and every step does to the register words and the Seal record: the commands of `mayWriteWords` keep them sound,
every other command keeps them as they are (R6, R8, R539).
-/
namespace Sys2Proof.Machine

open Sys2Proof

variable {q : List Instr} {s : State}

/-- Where an outcome is a next state, its queue is `q` and its register words are sound. -/
def NextSound (q : List Instr) (o : Host.Outcome State Fault Refusal) : Prop := ∀ t, o = .next t → Sound q t

theorem Sound.next (h : Sound q s) : NextSound q (.next s) := by
  rintro t ⟨⟩
  exact h

theorem keeps.nextSound {o : Host.Outcome State Fault Refusal} (ho : keeps s.frame o) (h : Sound q s) : NextSound q o :=
  fun t ht => h.of_frame (ho t ht)

theorem hostWord_next {d : Die} {off : Nat} {v : Word32} {op : State → State} (hop : ∀ t, Sound q t → Sound q (op t)) (h : Sound q s) :
    NextSound q (.next (hostWord d off v op s)) := (hostWord_sound d off v op s hop h).next

theorem noteStore_sound (mj : Nat) (h : Sound q s) : Sound q (noteStore mj s) := h.keep fun x _ => noteStore_frame mj x

/-- The register words under every command: sound after one that may write them, as they were after any other. -/
theorem exec_words (s : State) : ∀ c : Instr,
    bif mayWriteWords c then ∀ q, Sound q s → NextSound q (exec c s) else keeps s.frame (exec c s)
  | .nop _ => execNop_frame _ _ rfl
  | .ctxWrite _ => execCtxWrite_frame _ _ rfl
  | .ctxRead _ => execCtxRead_frame _ _ rfl
  | .ctxEnable _ => execCtxEnable_frame _ _ rfl
  | .ctxDisable _ => execCtxDisable_frame _ _ rfl
  | .regionMode _ => execRegionMode_frame _ _ rfl
  | .regionCommit _ => execRegionCommit_frame _ _ rfl
  | .captureArm _ => execCaptureArm_frame _ _ rfl
  | .captureCopy _ => execCaptureCopy_frame _ _ rfl
  | .captureStop _ => execCaptureStop_frame _ _ rfl
  | .probeStart _ => execProbeStart_frame _ _ rfl
  | .probeStop _ => execProbeStop_frame _ _ rfl
  | .netTx _ => execNetTx_frame _ _ rfl
  | .netRxPost _ => execNetRxPost_frame _ _ rfl
  | .timeAdjust _ => execTimeAdjust_frame _ _ rfl
  | .weirAcquire _ => execWeirAcquire_frame _ _ rfl
  | .weirRelease _ => execWeirRelease_frame _ _ rfl
  | .pairSwap _ => execPairSwap_frame _ _ rfl
  | .pairResync _ => execPairResync_frame _ _ rfl
  | .faultClear _ => execFaultClear_frame _ _ rfl
  | .eventForce _ => execEventForce_frame _ _ rfl
  | .barrier _ => execBarrier_frame _ _ rfl
  | .setupSeal _ => fun _ h => hostWord_next (fun _ => writeSeal_sound _ _) h
  | .enterService _ => fun _ h => hostWord_next (fun _ => writePwrCmd_sound _ _) h
  | .leaveService _ => fun _ h => hostWord_next (fun _ => writePwrCmd_sound _ _) h
  | .enterStabled _ => fun _ h => hostWord_next (fun _ => writePwrCmd_sound _ _) h
  | .pwrCmdCDieWarmReset _ => fun _ h => hostWord_next (fun _ => writePwrCmd_sound _ _) h
  | .pwrCmdPackageWarmReset _ => fun _ h => hostWord_next (fun _ => writePwrCmd_sound _ _) h
  | .pwrCmdPDieWarmReset _ => fun _ h => hostWord_next (fun _ => writePwrCmd_sound _ _) h
  | .restart _ => execRestart_frame _ _ rfl
  | .leUcodeDataWrite _ => execLeUcodeDataWrite_frame _ _ rfl
  | .verify _ => execVerify_frame _ _ rfl
  | .verifyDone => execVerifyDone_frame _ rfl
  | .load _ => execLoad_frame _ _ rfl
  | .imageLoadDone _ => execImageLoadDone_frame _ _ rfl
  | .adcQdataRead _ => execAdcQdataRead_frame _ _ rfl
  | .go _ _ => execGo_frame _ _ _ rfl
  | .timeTxqE0Read => execTimeTxqE0Read_frame _ rfl
  | .timeNowRead => execTimeNowRead_frame _ rfl
  | .aoTimeRead => execAoTimeRead_frame _ rfl
  | .timeLockCfgWrite _ => fun _ h => hostWord_next (fun _ => writeLockCfg_sound _ _) h
  | .channelSwitch _ _ => fun _ h => hostWord_next (fun _ => writeFltSrc_sound _ _ _) h
  | .freeze _ _ => fun _ h => hostWord_next (fun _ => writeFltSrc_sound _ _ _) h
  | .unfreeze _ _ => fun _ h => hostWord_next (fun _ => writeFltSrc_sound _ _ _) h
  | .triggerConfigWrite _ _ _ => fun _ h => hostWord_next (fun _ => writeTrg_sound _ _ _ _) h
  | .rearm _ _ => execRearm_frame _ _ _ rfl
  | .comparatorSelfTest _ _ => execComparatorSelfTest_frame _ _ _ rfl
  | .rebias _ _ => execRebias_frame _ _ _ rfl
  | .arbCommit _ => execArbCommit_frame _ _ rfl
  | .arbCommitApply => execArbCommitApply_frame _ rfl
  | .arm _ => fun _ h => hostWord_next (fun _ => writeInjCtrl_sound _ _) h
  | .injectionApply => execInjectionApply_frame _ rfl
  | .evtForceWrite _ _ => execEvtForceWrite_frame _ _ _ rfl
  | .soOnRequest _ => execSoOnRequest_frame _ _ rfl
  | .debugOpen _ => execDebugOpen_frame _ _ rfl
  | .dbgRead _ => execDbgRead_frame _ _ rfl
  | .dbgWrite _ => execDbgWrite_frame _ _ rfl
  | .debugAccessDone => execDebugAccessDone_frame _ rfl
  | .registerWrite _ _ _ => fun _ h => (hostStore_sound _ _ _ _ h).next
  | .pDieAccessTimeout => execPDieAccessTimeout_frame _ rfl
  | .doorbellPoll => execDoorbellPoll_frame _ rfl
  | .descriptorAccept _ => execDescriptorAccept_frame _ _ rfl
  | .journalAcknowledge _ => execJournalAcknowledge_frame _ _ rfl
  | .timedActionDue _ => execTimedActionDue_frame _ _ rfl
  | .completionPost _ => execCompletionPost_frame _ _ rfl
  | .msixSignal _ => execMsixSignal_frame _ _ rfl
  | .hostDmaReadComplete _ _ _ => execHostDmaReadComplete_frame _ _ _ _ rfl
  | .hostDmaError _ => execHostDmaError_frame _ _ rfl
  | .hostSilent => execHostSilent_frame _ rfl
  | .pcieEndpointReset => execPcieEndpointReset_frame _ rfl
  | .pcieLinkDown => execPcieLinkDown_frame _ rfl
  | .pcieLinkReturn => execPcieLinkReturn_frame _ rfl
  | .journalReplay _ => execJournalReplay_frame _ _ rfl
  | .patrolScrub _ _ => execPatrolScrub_frame _ _ _ rfl
  | .millraceFrameReceive _ _ _ => execMillraceFrameReceive_frame _ _ _ _ rfl
  | .millraceLinkFailure _ _ => execMillraceLinkFailure_frame _ _ _ rfl
  | .millraceLinkUp => fun _ h => (Sound.ite (settle_sound _ _ (linkReturns_sound _ h)) h).next
  | .regionBoundary _ => execRegionBoundary_frame _ _ rfl
  | .regionTrigger _ => execRegionTrigger_frame _ _ rfl
  | .islandWrap _ => execIslandWrap_frame _ _ rfl
  | .unitEdge _ => execUnitEdge_frame _ _ rfl
  | .tripAssert _ => execTripAssert_frame _ _ rfl
  | .recoveryEnd _ => execRecoveryEnd_frame _ _ rfl
  | .dutyFrameReceive _ => execDutyFrameReceive_frame _ _ rfl
  | .cDieLossDetect _ => execCDieLossDetect_frame _ _ rfl
  | .holdTimeEnd _ => execHoldTimeEnd_frame _ _ rfl
  | .contextRelease _ => execContextRelease_frame _ _ rfl
  | .timebaseSlot => execTimebaseSlot_frame _ rfl
  | .contextRunComplete _ => execContextRunComplete_frame _ _ rfl
  | .dutyFrameSend _ => execDutyFrameSend_frame _ _ rfl
  | .prefetchIssue _ => execPrefetchIssue_frame _ _ rfl
  | .prefetchLanded _ => execPrefetchLanded_frame _ _ rfl
  | .writebackSweep => execWritebackSweep_frame _ rfl
  | .loopEngineHeartbeatLost => execLoopEngineHeartbeatLost_frame _ rfl
  | .busDeclaredDead _ => execBusDeclaredDead_frame _ _ rfl
  | .startDelayExpire _ => execStartDelayExpire_frame _ _ rfl
  | .contactorFailedToClose _ => execContactorFailedToClose_frame _ _ rfl
  | .contactorOpenedWithoutCommand _ => execContactorOpenedWithoutCommand_frame _ _ rfl
  | .bsHoldElapsed _ => execBsHoldElapsed_frame _ _ rfl
  | .syncWindowsHeld _ => execSyncWindowsHeld_frame _ _ rfl
  | .syncWindowsNotMet _ => execSyncWindowsNotMet_frame _ _ rfl
  | .envExitElapsed _ => execEnvExitElapsed_frame _ _ rfl
  | .gapResumeElapsed _ => execGapResumeElapsed_frame _ _ rfl
  | .anchorFreezeEnd _ => execAnchorFreezeEnd_frame _ _ rfl
  | .foldBackStart _ => execFoldBackStart_frame _ _ rfl
  | .stopFactorZero _ => execStopFactorZero_frame _ _ rfl
  | .rampComplete _ => execRampComplete_frame _ _ rfl
  | .blendEnd _ => execBlendEnd_frame _ _ rfl
  | .sweepStart _ => execSweepStart_frame _ _ rfl
  | .sweepPointEnd _ => execSweepPointEnd_frame _ _ rfl
  | .islandLinkLost _ _ => execIslandLinkLost_frame _ _ _ rfl
  | .islandLinkRelock _ => execIslandLinkRelock_frame _ _ rfl
  | .islandInterlock _ => execIslandInterlock_frame _ _ rfl
  | .switchingTimeMeasured _ _ _ _ _ => execSwitchingTimeMeasured_frame _ _ _ _ _ _ rfl
  | .uvlo _ _ => execUvlo_frame _ _ _ rfl
  | .uvloRelease _ _ => execUvloRelease_frame _ _ _ rfl
  | .desaturationArmed _ => execDesaturationArmed_frame _ _ rfl
  | .desaturation _ _ => execDesaturation_frame _ _ _ rfl
  | .softTurnOffEnd _ => execSoftTurnOffEnd_frame _ _ rfl
  | .comparatorTestDone _ _ => execComparatorTestDone_frame _ _ _ rfl
  | .islandOverTemperature _ _ => execIslandOverTemperature_frame _ _ _ rfl
  | .islandStart _ => execIslandStart_frame _ _ rfl
  | .islandReady _ => execIslandReady_frame _ _ rfl
  | .islandStartFailed _ _ => execIslandStartFailed_frame _ _ _ rfl
  | .islandBlockReset _ => execIslandBlockReset_frame _ _ rfl
  | .islandBiasRestore _ => execIslandBiasRestore_frame _ _ rfl
  | .bankTimer _ => execBankTimer_frame _ _ rfl
  | .samplingInstant _ _ => execSamplingInstant_frame _ _ _ rfl
  | .setComplete _ => execSetComplete_frame _ _ rfl
  | .injectedTrigger _ => execInjectedTrigger_frame _ _ rfl
  | .injectedSamplingInstant _ _ => execInjectedSamplingInstant_frame _ _ _ rfl
  | .injectedConversionComplete _ => execInjectedConversionComplete_frame _ _ rfl
  | .calibrationStepStart _ => execCalibrationStepStart_frame _ _ rfl
  | .calibrationHandOver _ => execCalibrationHandOver_frame _ _ rfl
  | .calibrationMeasurementEnd _ _ _ => execCalibrationMeasurementEnd_frame _ _ _ _ rfl
  | .calibrationHandBack _ => execCalibrationHandBack_frame _ _ rfl
  | .packedFrameFlush _ => execPackedFrameFlush_frame _ _ rfl
  | .windowComparatorAsserted _ _ => execWindowComparatorAsserted_frame _ _ _ rfl
  | .windowComparatorRelease _ _ => execWindowComparatorRelease_frame _ _ _ rfl
  | .chainFrameFlush _ => execChainFrameFlush_frame _ _ rfl
  | .triggerHoldOffEnd _ => execTriggerHoldOffEnd_frame _ _ rfl
  | .captureTrigger _ => execCaptureTrigger_frame _ _ rfl
  | .captureDone _ => execCaptureDone_frame _ _ rfl
  | .captureProgressWrite _ => execCaptureProgressWrite_frame _ _ rfl
  | .arbiterGrant _ _ _ => execArbiterGrant_frame _ _ _ _ rfl
  | .refresh => execRefresh_frame _ rfl
  | .arbiterWatchdog => execArbiterWatchdog_frame _ rfl
  | .weirAcquireTimedOut _ => execWeirAcquireTimedOut_frame _ _ rfl
  | .weirsReleased _ => execWeirsReleased_frame _ _ rfl
  | .safetySetUpdate => execSafetySetUpdate_frame _ rfl
  | .networkCounterUpdate => execNetworkCounterUpdate_frame _ rfl
  | .frameReceive _ _ _ => execFrameReceive_frame _ _ _ _ rfl
  | .txTimestamp _ => execTxTimestamp_frame _ _ rfl
  | .supervisionFrameSend => execSupervisionFrameSend_frame _ rfl
  | .lanSilent _ => execLanSilent_frame _ _ rfl
  | .prpNodeExpire _ => execPrpNodeExpire_frame _ _ rfl
  | .linkUp _ => execLinkUp_frame _ _ rfl
  | .linkDown _ => execLinkDown_frame _ _ rfl
  | .timeLockLost => execTimeLockLost_frame _ rfl
  | .sampleFrameReceive => execSampleFrameReceive_frame _ rfl
  | .dutyCopyReceive => execDutyCopyReceive_frame _ rfl
  | .helloSend => execHelloSend_frame _ rfl
  | .helloReceive => execHelloReceive_frame _ rfl
  | .partnerDown => execPartnerDown_frame _ rfl
  | .faultDeclarationReceive => execFaultDeclarationReceive_frame _ rfl
  | .controlDieFailed _ _ => execControlDieFailed_frame _ _ _ rfl
  | .parameterFrameReceive => execParameterFrameReceive_frame _ rfl
  | .resynchronisationStart _ => execResynchronisationStart_frame _ _ rfl
  | .checkpointChunkReceive => execCheckpointChunkReceive_frame _ rfl
  | .checkpointCommitReceive => execCheckpointCommitReceive_frame _ rfl
  | .resynchronisationFailed _ => execResynchronisationFailed_frame _ _ rfl
  | .eventCollect => execEventCollect_frame _ rfl
  | .faultRecovered _ => execFaultRecovered_frame _ _ rfl
  | .shadowWindowEnd _ => execShadowWindowEnd_frame _ _ rfl
  | .safetyInputChange _ _ _ _ => execSafetyInputChange_frame _ _ _ _ _ rfl
  | .discrepancyFault _ _ => execDiscrepancyFault_frame _ _ _ rfl
  | .startUpTestPassed _ => execStartUpTestPassed_frame _ _ rfl
  | .secondPathDecode _ _ => execSecondPathDecode_frame _ _ _ rfl
  | .gateEnable => execGateEnable_frame _ rfl
  | .soTestPulse _ => execSoTestPulse_frame _ _ rfl
  | .soTestPulseEnd _ _ _ => execSoTestPulseEnd_frame _ _ _ _ rfl
  | .safeOutputOverload _ _ _ => execSafeOutputOverload_frame _ _ _ _ rfl
  | .contactorFeedbackFault _ _ => execContactorFeedbackFault_frame _ _ _ rfl
  | .channel2Rejoined => execChannel2Rejoined_frame _ rfl
  | .channel2AbsentTooLong => execChannel2AbsentTooLong_frame _ rfl
  | .channel2DidNotFollowDemand => execChannel2DidNotFollowDemand_frame _ rfl
  | .path1ReadbackPulse _ _ => execPath1ReadbackPulse_frame _ _ _ rfl
  | .channel1SelfTest _ => execChannel1SelfTest_frame _ _ rfl
  | .channel2SelfCheck _ => execChannel2SelfCheck_frame _ _ rfl
  | .supplyPulseTest _ _ _ => execSupplyPulseTest_frame _ _ _ _ rfl
  | .dchOverload _ _ _ => execDchOverload_frame _ _ _ _ rfl
  | .dchRetry _ => execDchRetry_frame _ _ rfl
  | .cdrvOverload _ _ => execCdrvOverload_frame _ _ _ rfl
  | .inputLow _ => execInputLow_frame _ _ rfl
  | .inputLoss _ _ => execInputLoss_frame _ _ _ rfl
  | .inputReturn _ _ => execInputReturn_frame _ _ _ rfl
  | .powerFail _ => fun _ h => (Sound.ite (settle_sound _ _ (powerFail_sound _ (noteStore_sound _ h))) h).next
  | .storeAoReserve _ => fun _ h => (Sound.ite (settle_sound _ _ (goStabled_sound _ (noteStore_sound _ (h.keep fun x _ => modPower_frame x _)))) h).next
  | .powerOnReset => fun _ h => (settle_sound _ _ (powerOn_sound _ h)).next
  | .domainRegulationLoss _ => fun _ h => (Sound.ite (settle_sound _ _ (domainLost_sound _ _ h)) h).next
  | .pdNetRestarted => execPdNetRestarted_frame _ rfl
  | .pdIsoRestart => execPdIsoRestart_frame _ rfl
  | .memsReferenceLost _ _ => execMemsReferenceLost_frame _ _ _ rfl
  | .memsReferenceRecovered _ => execMemsReferenceRecovered_frame _ _ rfl
  | .pllLockLost _ => execPllLockLost_frame _ _ rfl
  | .aoClockMeasure _ => execAoClockMeasure_frame _ _ rfl
  | .cDieWarmReset => execCDieWarmReset_frame _ rfl
  | .cDieResetEnd => fun _ h => (Sound.ite h (settle_sound _ _ (cDieUp_sound _ h))).next
  | .autoCDieReset => execAutoCDieReset_frame _ rfl
  | .pDieWarmReset => execPDieWarmReset_frame _ rfl
  | .pDieResetEnd => fun _ h => (Sound.ite h (settle_sound _ _ (pDieUp_sound _ h))).next
  | .wake _ _ _ => fun _ h => (Sound.ite (settle_sound _ _ (wakeUp_sound _ _ _ h)) h).next
  | .memInitComplete => execMemInitComplete_frame _ rfl
  | .moduleTemperature _ => execModuleTemperature_frame _ _ rfl
  | .sf2FaultCleared _ => execSf2FaultCleared_frame _ _ rfl
  | .safeOutputReadbackFault _ _ => execSafeOutputReadbackFault_frame _ _ _ rfl
  | .cdSafRestarted => execCdSafRestarted_frame _ rfl
  | .postedWriteErrorReported _ _ => execPostedWriteErrorReported_frame _ _ _ rfl
  | .portFrameBoundary _ => execPortFrameBoundary_frame _ _ rfl
  | .millraceFrameBoundary _ => execMillraceFrameBoundary_frame _ _ rfl
  | .inputLowCleared _ => execInputLowCleared_frame _ _ rfl

theorem exec_frame {c : Instr} (hc : mayWriteWords c = false) (s : State) : keeps s.frame (exec c s) := by
  have h := exec_words s c
  rwa [hc] at h

theorem exec_sound (c : Instr) (h : Sound q s) : NextSound q (exec c s) := by
  have hw := exec_words s c
  cases hc : mayWriteWords c <;> rw [hc] at hw
  · exact keeps.nextSound hw h
  · exact hw q h

theorem step_nil (hp : s.pending = []) : step s = .next (idle s) := by
  rw [step, hp]

theorem step_cons {c : Instr} {rest : List Instr} (hp : s.pending = c :: rest) : step s = exec c { s with pending := rest } := by
  rw [step, hp]

theorem step_sound {t : State} (h : RegsSound s) (ht : step s = .next t) : RegsSound t := by
  cases hp : s.pending with
  | nil => exact (Host.Outcome.next.inj ((step_nil hp).symm.trans ht) ▸ idle_sound s ⟨hp, h⟩).2
  | cons c rest => exact (exec_sound (s := { s with pending := rest }) c ⟨rfl, h⟩ t ((step_cons hp).symm.trans ht)).2

end Sys2Proof.Machine

namespace Sys2Proof

open Sys2Proof.Machine

/-- Settles O53: the frame of every command outside `mayWriteWords`, row by row. -/
theorem registerWordsKept : Obligations.RegisterWordsKept := by
  intro c s t hc ht
  have h := exec_frame hc s t ht
  exact ⟨congrArg (fun x => x.2.1) h, congrArg (fun x => x.2.2) h⟩

end Sys2Proof
end

section
/-!
SUPPORT. A host write of 32 bits, as it reaches a register, the MSI-X table or the queue of waiting accesses (R354, R568).
-/
namespace Sys2Proof.Machine

open Sys2Proof

variable {off : Nat} {v : BitVec 64} {s : State}

theorem wfAccess_aligned (h : wfAccess off v 4 = true) : off % 4 = 0 := by
  simp only [wfAccess, Bool.and_eq_true, beq_iff_eq] at h
  exact h.1.2

/-- A word stored at an aligned offset covers one register whole. -/
theorem hostStore_word (ha : off % 4 = 0) : hostStore off v 4 s = writeReg off (v.setWidth 32) s := by
  have hf : (off + 3) / 4 * 4 = off := by omega
  simp [hostStore, hf]

theorem writeReg_bar0 {w : Word32} (ho : off < 0x100000) : writeReg off w s = hostWord (dieOf off) off w (regWrite off w) s :=
  if_neg (show ¬bar2 ≤ off by simpa [bar2] using ho)

theorem writeReg_bar2 {w : Word32} {b : Nat} (hr : s.hostReaches = true) : writeReg (0x100000 + b) w s = writeMsix b w s := by
  simp [writeReg, bar2, hr]

/-- The access reaches its register in this tick. -/
theorem hostWord_reaches {d : Die} {w : Word32} {op : State → State} (hr : s.hostReaches = true) (hc : s.power.cRun = true)
    (hd : d = .c ∨ s.pReach = true) : hostWord d off w op s = settle s (op s) := by
  simp [hostWord, hostAccess, hr, hc, hd]

/-- The access waits for the P-die. -/
theorem hostWord_waits {w : Word32} {op : State → State} (hr : s.hostReaches = true) (hc : s.power.cRun = true) (hp : s.pReach = false) :
    hostWord .p off w op s =
      s.modHost fun h => { h with accesses := h.accesses ++ [{ off := off, read := false, value := w, arrived := s.now }] } := by
  simp [hostWord, hostAccess, hr, hc, hp]

/-- REGISTER_WRITE of a word of BAR0. -/
theorem execRegisterWrite_word (hw : wfAccess off v 4 = true) (ho : off < 0x100000) :
    exec (.registerWrite off v 4) s = .next (hostWord (dieOf off) off (v.setWidth 32) (regWrite off (v.setWidth 32)) s) :=
  congrArg _ ((hostStore_word (wfAccess_aligned hw)).trans (writeReg_bar0 ho))

/-- REGISTER_WRITE of a word that reaches its register at once. -/
theorem execRegisterWrite_reaches (hw : wfAccess off v 4 = true) (ho : off < 0x100000) (hr : s.hostReaches = true)
    (hc : s.power.cRun = true) (hd : dieOf off = .c ∨ s.pReach = true) :
    exec (.registerWrite off v 4) s = .next (settle s (regWrite off (v.setWidth 32) s)) := by
  rw [execRegisterWrite_word hw ho, hostWord_reaches hr hc hd]

/-- What a word of the MSI-X table stores: an address below 4 aligned, of the control word the mask bit alone. -/
def msixStored (w : Nat) (x : Word32) : Word32 := if w = 0 then x &&& 0xFFFFFFFC else if w = 3 then x &&& 1 else x

/-- REGISTER_WRITE of a word of BAR2's table. -/
theorem execRegisterWrite_msix {k w : Nat} (hr : s.hostReaches = true) :
    exec (.registerWrite (0x100000 + 16 * k + 4 * w) v 4) s = .next (writeMsix (4 * (4 * k + w)) (v.setWidth 32) s) := by
  have ho : 0x100000 + 16 * k + 4 * w = 0x100000 + 4 * (4 * k + w) := by omega
  have he : hostStore (0x100000 + 16 * k + 4 * w) v 4 s = writeMsix (4 * (4 * k + w)) (v.setWidth 32) s := by
    rw [hostStore_word (by omega), ho, writeReg_bar2 hr]
  exact congrArg _ he

/-- A word written to the MSI-X table; the word that unmasks a vector with a signal pending sends it (R354). -/
theorem writeMsix_word {k w : Nat} {x : Word32} (hk : k < 32) (hw : w < 4) : writeMsix (4 * (4 * k + w)) x s =
    let t := s.modHost fun h => { h with msixTable := put msixReset h.msixTable (4 * k + w) (msixStored w x) }
    if t.msixMasked k || !bitAt s.host.msixPending k then t
    else sendMsix k (t.modHost fun h => { h with msixPending := h.msixPending &&& ~~~(BitVec.ofNat 32 (2 ^ k)) }) := by
  have h1 : 4 * (4 * k + w) / 4 = 4 * k + w := by omega
  have h2 : ¬128 ≤ 4 * k + w := by omega
  have h3 : (4 * k + w) % 4 = w := by omega
  have h4 : (4 * k + w) / 4 = k := by omega
  simp only [writeMsix, h1, h2, h3, h4, if_false, msixStored]
  rfl

/-- A key given another value than an unlisted one has reads as that value, in canonical form or not. -/
theorem look_put_of_ne {α : Type} [DecidableEq α] {d : Nat → α} (l : List (Nat × α)) {k : Nat} {x : α} (hx : x ≠ d k) :
    look d (put d l k x) k = x := by
  induction l with
  | nil => simp [put, hx, look]
  | cons p t ih =>
    rw [put]
    split_ifs with h1 h2
    · simp [look]
    · simp [look]
    · rw [look, if_neg (Ne.symm h2), ih]

/-- A vector whose control word is 0 is not masked. -/
theorem msixMasked_unmask (s : State) (k : Nat) :
    (s.modHost fun h => { h with msixTable := put msixReset h.msixTable (4 * k + 3) 0 }).msixMasked k = false := by
  have hx : (0 : Word32) ≠ msixReset (4 * k + 3) := by
    have hm : (4 * k + 3) % 4 = 3 := by omega
    simp [msixReset, hm]
  show bitAt (look msixReset (put msixReset s.host.msixTable (4 * k + 3) 0) (4 * k + 3)) 0 = false
  rw [look_put_of_ne _ hx]
  rfl

theorem setWidth_and_one (h : v.getLsbD 0 = false) : v.setWidth 32 &&& 1 = 0 := by
  ext i hi
  by_cases h0 : i = 0 <;> simp_all

/-- The oldest access has waited 200 µs: it is answered and waits no longer (R568). -/
theorem execPDieAccessTimeout_due {a : WaitingAccess} {t : List WaitingAccess} (ha : s.host.accesses = a :: t) (hd : a.arrived + 80000 ≤ s.now) :
    exec .pDieAccessTimeout s = .next (let u := s.modHost fun h => { h with accesses := t }
      if a.read then readAs 0xFFFFFFFF u else u) := by
  show Host.Outcome.next _ = _
  rw [ha]
  simp [hd]

end Sys2Proof.Machine

namespace Sys2Proof

open Sys2Proof.Machine

/-- Settles O17: the access reaches its register, the table or the queue of waiting accesses, and a waiting one is answered in time. -/
theorem registerWriteCompletes : Obligations.RegisterWriteCompletes := by
  refine ⟨?_, ?_, ?_, ?_, ?_, ?_, ?_⟩
  · intro off v s hw ho hr hc hd
    exact execRegisterWrite_reaches hw ho hr hc (.inl hd)
  · intro off v s hw ho hr hc _ hp
    exact execRegisterWrite_reaches hw ho hr hc (.inr hp)
  · intro off v s hw ho hr hc hd hp
    rw [execRegisterWrite_word hw ho, hd, hostWord_waits hr hc hp]
  · intro k w v x s hk hw _ hr hx hb
    subst hx
    rw [execRegisterWrite_msix hr, writeMsix_word hk hw]
    simp [hb, msixStored]
  · intro k v t s hk _ hr hb hv ht
    subst ht
    have h3 : msixStored 3 (v.setWidth 32) = 0 := setWidth_and_one hv
    rw [show 0x100000 + 16 * k + 12 = 0x100000 + 16 * k + 4 * 3 from rfl, execRegisterWrite_msix hr,
      writeMsix_word hk (by decide), h3]
    simp only [msixMasked_unmask, hb, Bool.not_true, Bool.or_self, Bool.false_eq_true, if_false]
    rfl
  · intro s a t ha hd hrd
    rw [execPDieAccessTimeout_due ha hd]
    simp [hrd]
  · intro s a t ha hd hrd
    rw [execPDieAccessTimeout_due ha hd]
    simp [hrd, readAs, State.modHost]

end Sys2Proof
end

section
/-!
SUPPORT. What a write of a register word stores: the fields of one word do not mix (R6, R8), so that a write of its RW bits leaves its RWS
bits at their values, and a register of a reserved source stores nothing (R434).
-/
namespace Sys2Proof.Machine

open Sys2Proof

/-! ## Fields of a word -/

/-- The bits of a mask after a field has been set follow from the bits of the mask before. -/
theorem setFld_congr {x y M : Word32} (lsb n v : Nat) (h : x &&& M = y &&& M) : setFld x lsb n v &&& M = setFld y lsb n v &&& M := by
  unfold setFld
  generalize BitVec.ofNat 32 ((2 ^ n - 1) * 2 ^ lsb) = f
  generalize BitVec.ofNat 32 (v * 2 ^ lsb) = g
  ext i hi
  have hi' := congrArg (fun b : Word32 => b[i]) h
  simp only [BitVec.getElem_and, BitVec.getElem_or, BitVec.getElem_not] at hi' ⊢
  cases hM : M[i] <;> simp_all

/-- A word that takes the bits of m from another keeps its bits outside m. -/
theorem merged_and_outside {m M : Word32} (x y : Word32) (h : m &&& M = 0) : ((x &&& ~~~m) ||| (y &&& m)) &&& M = x &&& M := by
  ext i hi
  have hi' := congrArg (fun b : Word32 => b[i]) h
  simp only [BitVec.getElem_and, BitVec.getElem_or, BitVec.getElem_not] at hi' ⊢
  cases hM : M[i] <;> simp_all

/-- A word that takes the bits of m from another has the other's bits within m. -/
theorem merged_and_inside {m M : Word32} (x y : Word32) (h : ~~~m &&& M = 0) : ((x &&& ~~~m) ||| (y &&& m)) &&& M = y &&& M := by
  ext i hi
  have hi' := congrArg (fun b : Word32 => b[i]) h
  simp only [BitVec.getElem_and, BitVec.getElem_or, BitVec.getElem_not] at hi' ⊢
  cases hM : M[i] <;> simp_all

/-- A field outside a mask leaves the bits of the mask. -/
theorem setFld_outside {x M : Word32} {lsb n : Nat} (v : Nat) (h : BitVec.ofNat 32 ((2 ^ n - 1) * 2 ^ lsb) &&& M = 0) :
    setFld x lsb n v &&& M = x &&& M := merged_and_outside x _ h

/-- REACT, the lowest three bits of EVT_CFG, follows from the RWS bits. -/
theorem fld_react_congr {x y : Word32} (h : x &&& 0xFFC7 = y &&& 0xFFC7) : fld x 0 3 = fld y 0 3 := by
  have hx : ∀ z : Word32, fld z 0 3 = ((z &&& 0xFFC7) &&& 7).toNat := by
    intro z
    rw [BitVec.and_assoc]
    show z.toNat >>> 0 % 2 ^ 3 = _
    rw [BitVec.toNat_and]
    exact (Nat.and_two_pow_sub_one_eq_mod z.toNat 3).symm
  rw [hx, hx, h]

/-! ## The rows of the register table -/

/-- A row has RWS bits alone, or RW bits alone, but for EVT_CFG, which has both and no limited field. -/
theorem regTable_masks : ∀ r ∈ regTable, r.rw = 0 ∨ r.rws = 0 ∨ (r.base = rEvtCfg 0 ∧ r.rws = 0xFFC7 ∧ r.rw = 0x30 ∧ r.lims = []) := by
  decide

/-- The registers of the event sources from 0x4000 to 0x4BFF are EVT_CFG and EVT_RECOV. -/
theorem regTable_events : ∀ r ∈ regTable, (r.base = 0x4000 ∧ r.s1 = 0x10 ∧ r.c1 = 192 ∧ r.c2 = 1) ∨ (r.base = 0x4004 ∧ r.s1 = 0x10 ∧ r.c1 = 192 ∧ r.c2 = 1) ∨
    0x4C00 ≤ r.base ∨ r.base + r.s1 * (r.c1 - 1) + r.s2 * (r.c2 - 1) < 0x4000 := by
  decide

theorem regRow_mem {off : Nat} {r : RegRow} (h : regRow off = some r) : r ∈ regTable := List.mem_of_find?_eq_some h

/-- An offset that names a row is one of its instances. -/
theorem regRow_inst {off : Nat} {r : RegRow} (h : regRow off = some r) :
    ∃ i j, i < r.c1 ∧ j < r.c2 ∧ off = r.base + r.s1 * i + r.s2 * j := by
  have hi : (r.inst off).isSome = true := List.find?_some (p := fun r : RegRow => (r.inst off).isSome) h
  unfold RegRow.inst at hi
  split at hi
  · cases hi
  · extract_lets d i m at hi
    split at hi
    · rename_i hb hc
      obtain ⟨h1, h2, h3⟩ := hc
      refine ⟨i, m / r.s2, h1, h3, ?_⟩
      have hm : r.s2 * (m / r.s2) = m := Nat.mul_div_cancel' (Nat.dvd_of_mod_eq_zero h2)
      have hd : r.s1 * i + m = d := Nat.div_add_mod d r.s1
      have he : d = off - r.base := rfl
      omega
    · cases hi

/-- The registers of an event source: EVT_CFG at offset 0 of its sixteen bytes, EVT_RECOV at offset 4. -/
theorem regRow_event {off : Nat} {r : RegRow} (h : regRow off = some r) (h1 : 0x4000 ≤ off) (h2 : off < 0x4C00) :
    r.base = rEvtCfg 0 ∨ (r.base = rEvtRecov 0 ∧ off % 16 = 4) := by
  obtain ⟨i, j, hi, hj, ho⟩ := regRow_inst h
  rcases regTable_events r (regRow_mem h) with ⟨hb, -⟩ | ⟨hb, hs, -, hc⟩ | hb | hb
  · exact .inl hb
  · refine .inr ⟨hb, ?_⟩
    rw [hs] at ho
    have : j = 0 := by omega
    subst this
    omega
  · omega
  · have h3 : r.s1 * i ≤ r.s1 * (r.c1 - 1) := Nat.mul_le_mul_left _ (by omega)
    have h4 : r.s2 * j ≤ r.s2 * (r.c2 - 1) := Nat.mul_le_mul_left _ (by omega)
    omega

/-- EVT_CFG stands from 0x4000 to 0x4BFF. -/
theorem regRow_evtCfg {off : Nat} {r : RegRow} (h : regRow off = some r) (hb : r.base = rEvtCfg 0) : 0x4000 ≤ off ∧ off < 0x4C00 := by
  obtain ⟨i, j, hi, hj, ho⟩ := regRow_inst h
  have hb' : r.base = 0x4000 := hb
  rcases regTable_events r (regRow_mem h) with ⟨-, hs, hc, hd⟩ | ⟨hb, -⟩ | hb | hb
  · rw [hs, hb'] at ho
    have : j = 0 := by omega
    subst this
    omega
  all_goals omega

/-! ## What a register stores -/

/-- Only the writable bits of a word count for what its register stores. -/
theorem storedWord_masked {off : Nat} {r : RegRow} (hr : regRow off = some r) {x y : Word32}
    (h : x &&& (r.rws ||| r.rw) = y &&& (r.rws ||| r.rw)) : storedWord off x = storedWord off y := by
  simp only [storedWord, hr, h]

/-- A register of a reserved source stores 0 (R434). -/
theorem storedWord_reserved {off : Nat} {r : RegRow} (hr : regRow off = some r) (h : reservedReg off = true) (x : Word32) :
    storedWord off x = 0 := by
  simp only [reservedReg, Bool.and_eq_true, decide_eq_true_eq] at h
  obtain ⟨⟨h1, h2⟩, h3⟩ := h
  rcases regRow_event hr h1 h2 with hb | ⟨hb, h4⟩
  · simp [storedWord, hr, hb, h3, rEvtCfg, rFltCfg]
  · have h5 : (off - 0x4004) / 0x10 = (off - 0x4000) / 0x10 := by omega
    simp [storedWord, hr, hb, h5, h3, rEvtCfg, rFltCfg, rEvtRecov]

/-- What EVT_CFG of source k stores of its writable bits: REACT as the source admits it, REBIAS on island sources alone (R440, R460, R462). -/
def evtStored (k : Nat) (x : Word32) : Word32 :=
  let y := if 72 ≤ k ∧ (fld x 0 3 = 1 ∨ fld x 0 3 = 2) then setFld x 0 3 7 else x
  let z := if 48 ≤ k ∧ k ≤ 71 then y else setFld y 7 1 0
  if 176 ≤ k ∧ k ≤ 181 then setFld z 0 3 0 else z

theorem storedWord_evtCfg {off : Nat} {r : RegRow} (hr : regRow off = some r) (hb : r.base = rEvtCfg 0) (hl : r.lims = [])
    (h : reservedReg off = false) (x : Word32) : storedWord off x = evtStored ((off - 0x4000) / 0x10) (x &&& (r.rws ||| r.rw)) := by
  obtain ⟨h1, h2⟩ := regRow_evtCfg hr hb
  have hs : reservedSource ((off - 0x4000) / 0x10) = false := by simpa [reservedReg, h1, h2] using h
  simp [storedWord, hr, hb, hl, hs, evtStored, applyLims, rEvtCfg, rFltCfg]

/-- The RWS bits that EVT_CFG stores follow from the RWS bits written. -/
theorem evtStored_rws (k : Nat) {x y : Word32} (h : x &&& 0xFFC7 = y &&& 0xFFC7) : evtStored k x &&& 0xFFC7 = evtStored k y &&& 0xFFC7 := by
  unfold evtStored
  rw [fld_react_congr h]
  split_ifs <;> simp only [setFld_congr _ _ _ (setFld_congr _ _ _ (setFld_congr _ _ _ h)), setFld_congr _ _ _ (setFld_congr _ _ _ h),
    setFld_congr _ _ _ h, h]

/-- EVT_CFG stores its RW bits as they are written. -/
theorem evtStored_rw (k : Nat) (x : Word32) : evtStored k x &&& 0x30 = x &&& 0x30 := by
  have h3 (x : Word32) (v : Nat) : setFld x 0 3 v &&& 0x30 = x &&& 0x30 := setFld_outside v (by decide)
  have h7 (x : Word32) (v : Nat) : setFld x 7 1 v &&& 0x30 = x &&& 0x30 := setFld_outside v (by decide)
  unfold evtStored
  split_ifs <;> simp only [h3, h7]

/-- What a register stores of a write after the Seal: its RWS bits as they were, its RW bits as those of the value written would be. -/
theorem storedWord_sealed {off : Nat} {r : RegRow} (hr : regRow off = some r) (hn : reservedReg off = false) {old : Word32}
    (ho : storedWord off old = old) (v : Word32) :
    storedWord off ((old &&& ~~~r.rw) ||| (v &&& r.rw)) &&& r.rws = old &&& r.rws ∧
    storedWord off ((old &&& ~~~r.rw) ||| (v &&& r.rw)) &&& r.rw = storedWord off v &&& r.rw := by
  rcases regTable_masks r (regRow_mem hr) with h | h | ⟨hb, hs, hw, hl⟩
  · rw [storedWord_masked hr (merged_and_outside old v (M := r.rws ||| r.rw) (by simp [h])), ho, h]
    simp
  · rw [storedWord_masked hr (merged_and_inside old v (M := r.rws ||| r.rw) (by simp [h])), h]
    simp
  · have he : ∀ x, storedWord off x = evtStored ((off - 0x4000) / 0x10) (x &&& 0xFFF7) := by
      intro x
      rw [storedWord_evtCfg hr hb hl hn, hs, hw]
      rfl
    rw [hs, hw]
    constructor
    · calc _ = storedWord off old &&& 0xFFC7 := by
            rw [he, he old]
            refine evtStored_rws _ ?_
            rw [BitVec.and_assoc, BitVec.and_assoc]
            exact merged_and_outside old v (by decide)
        _ = old &&& 0xFFC7 := by rw [ho]
    · rw [he, he v, evtStored_rw, evtStored_rw, BitVec.and_assoc, BitVec.and_assoc]
      exact merged_and_inside old v (by decide)

/-! ## The register after the write -/

/-- A word put into its register, which a value that it holds already leaves alone. -/
def putWord (off : Nat) (w : Word32) (s : State) : State := if w = s.reg off then s else keepWord off w s

variable {off : Nat} {w : Word32} {s : State}

theorem putWord_self (h : w = s.reg off) : putWord off w s = s := if_pos h

theorem keepWord_regs (off : Nat) (w : Word32) (s : State) : (keepWord off w s).regs = put resetWord s.regs off w := by
  unfold keepWord
  split <;> rfl

theorem putWord_reg_same (h : tableWf resetWord s.regs = true) : (putWord off w s).reg off = w := by
  unfold putWord
  split
  case isTrue he => exact he.symm
  case isFalse =>
    rw [State.reg, keepWord_regs]
    exact look_put_same off w h

theorem putWord_reg_other (h : tableWf resetWord s.regs = true) {o : Nat} (ho : o ≠ off) : (putWord off w s).reg o = s.reg o := by
  unfold putWord
  split
  · rfl
  · rw [State.reg, keepWord_regs]
    exact look_put_other off w ho h

/-- Before the Seal the register words alone change. -/
theorem putWord_unsealed (h : s.power.sealed = false) : ∃ l, putWord off w s = { s with regs := l } := by
  by_cases he : w = s.reg off
  · exact ⟨s.regs, putWord_self he⟩
  · exact ⟨put resetWord s.regs off w, by simp [putWord, he, keepWord, h, State.setReg]⟩

/-- The register words and the Seal record alone change. -/
theorem putWord_form (off : Nat) (w : Word32) (s : State) : ∃ l l', putWord off w s = { s with regs := l, sealRecord := l' } := by
  unfold putWord keepWord
  split_ifs
  · exact ⟨s.regs, s.sealRecord, rfl⟩
  · exact ⟨put resetWord s.regs off w, put resetWord s.sealRecord off w, rfl⟩
  · exact ⟨put resetWord s.regs off w, s.sealRecord, rfl⟩

theorem putWord_power (off : Nat) (w : Word32) (s : State) : (putWord off w s).power = s.power := by
  obtain ⟨l, l', h⟩ := putWord_form off w s
  rw [h]

/-- A write of a word: the bits that the Seal lets it write, and the WARN event for RWS bits that it does not (R6, R7, R434). -/
theorem writeWord_eq {r : RegRow} (hr : regRow off = some r) (v : Word32) (s : State) :
    writeWord off v s =
      let m := if s.power.sealed then r.rw else r.rw ||| r.rws
      let u := putWord off (storedWord off ((s.reg off &&& ~~~m) ||| (v &&& m))) s
      if s.power.sealed && !reservedReg off && ((v ^^^ s.reg off) &&& r.rws) != 0 then raise 136 evRingRwsWrite 0 0 u else u := by
  unfold writeWord
  rw [hr]
  show (if (putWord off _ s).power.sealed && !reservedReg off && _ then _ else _) = _
  rw [putWord_power]
  rfl

/-- An offset with no behaviour of its own takes the write as a register word. -/
theorem regWrite_word (h : (writers.findSome? fun w => instOf w.1 w.2.1 w.2.2.1 off) = none) (v : Word32) (s : State) :
    regWrite off v s = writeWord off v s := by
  have hn : (writers.findSome? fun w => (instOf w.1 w.2.1 w.2.2.1 off).map fun i => w.2.2.2 i) = none := by
    simpa using h
  rw [regWrite, hn]

theorem regs_of_frame {t : State} (h : t.frame = s.frame) : t.regs = s.regs := congrArg (fun x => x.2.1) h

theorem settle_regs (s0 s : State) : (settle s0 s).regs = s.regs := regs_of_frame (settle_frame s0 s rfl)

theorem raise_regs (k : SourceId) (d : EvDef) (a b : Word32) (s : State) : (raise k d a b s).regs = s.regs :=
  regs_of_frame (raise_frame k d a b s rfl)

/-- The event sources' registers are the C-die's. -/
theorem dieOf_reserved (h : reservedReg off = true) : dieOf off = .c := by
  simp only [reservedReg, Bool.and_eq_true, decide_eq_true_eq] at h
  exact if_neg (by omega)

end Sys2Proof.Machine

namespace Sys2Proof

open Sys2Proof.Machine

/-- Settles O52: a register's fields do not mix, so that after the Seal its RWS bits stay and its RW bits are those written. -/
theorem sealedWriteKeepsSettings : Obligations.SealedWriteKeepsSettings := by
  refine ⟨?_, ?_, ?_⟩
  · intro off v r s hw ho hh hc hd hs hr hn hf hwf hold
    obtain ⟨hrws, hrw⟩ := storedWord_sealed hr hn hold (v.setWidth 32)
    set new := storedWord off ((s.reg off &&& ~~~r.rw) ||| (v.setWidth 32 &&& r.rw)) with hnew
    obtain ⟨l, l', hu⟩ := putWord_form off new s
    refine ⟨putWord off new s, ?_, ?_, ?_, ?_, ?_, l, l', hu, ?_⟩
    · rw [execRegisterWrite_reaches hw ho hh hc hd, regWrite_word hf, writeWord_eq hr]
      simp [hs, hn, ← hnew]
    · rw [putWord_reg_same hwf, hrws]
    · rw [putWord_reg_same hwf, hrw]
    · exact fun o => putWord_reg_other hwf
    · intro h0
      exact putWord_self (by rw [hnew, storedWord_masked hr (merged_and_outside _ _ (by simp [h0])), hold])
    · rw [settle_regs]
      split
      · rw [hu]
      · rw [raise_regs, hu]
  · intro off v r s hw ho hh hc hd hs hr hf hwf
    set new := storedWord off (v.setWidth 32) with hnew
    have hm : storedWord off ((s.reg off &&& ~~~(r.rw ||| r.rws)) ||| (v.setWidth 32 &&& (r.rw ||| r.rws))) = new :=
      storedWord_masked hr (merged_and_inside _ _ (by rw [BitVec.or_comm r.rws]; simp))
    obtain ⟨l, hu⟩ := putWord_unsealed (off := off) (w := new) hs
    refine ⟨putWord off new s, l, ?_, hu, putWord_reg_same hwf, fun o => putWord_reg_other hwf⟩
    rw [execRegisterWrite_reaches hw ho hh hc hd, regWrite_word hf, writeWord_eq hr]
    simp [hs, hm]
  · intro off v r s hw ho hh hc hs hr hn hf hold
    have h0 : s.reg off = 0 := hold.symm.trans (storedWord_reserved hr hn _)
    rw [execRegisterWrite_reaches hw ho hh hc (.inl (dieOf_reserved hn)), regWrite_word hf, writeWord_eq hr]
    simp [hs, hn, storedWord_reserved hr hn, putWord_self, h0]

end Sys2Proof
end

section
/-!
SUPPORT. What the start-up of R534 goes by, time, device state, wake and the dies that run, through the tick: a memory write and an event
leave it.
-/
namespace Sys2Proof.Machine

open Sys2Proof

/-- What the start-up goes by: time, the link, the device state, the wake, the dies that run. -/
def State.wakeView (s : State) : Nat × Bool × DevState × Nat × Bool × Bool :=
  (s.now, s.linkUp, s.power.dev, s.power.wakeAt, s.power.pRun, s.power.cRun)

variable {s : State}

@[simp] theorem modEvents_wakeView (f : Events → Events) : (s.modEvents f).wakeView = s.wakeView := rfl
@[simp] theorem modTrig_wakeView (u : TrigId) (f : TrigUnit → TrigUnit) : (s.modTrig u f).wakeView = s.wakeView := rfl
@[simp] theorem modArb_wakeView (f : Arb → Arb) : (s.modArb f).wakeView = s.wakeView := rfl
@[simp] theorem modSrc_wakeView (k : SourceId) (f : Source → Source) : (s.modSrc k f).wakeView = s.wakeView := rfl
@[simp] theorem store_wakeView (a : Nat) (l : List Byte) : (s.store a l).wakeView = s.wakeView := rfl
@[simp] theorem fireOne_wakeView (u : TrigId) (n : Nat) : (fireOne u n s).wakeView = s.wakeView := rfl
@[simp] theorem injected_wakeView : (injected s).wakeView = s.wakeView := rfl
@[simp] theorem captureError_wakeView (d : Fin 4) (a : BitVec 48) (r : BitVec 8) (t : BitVec 4) (x : BitVec 48) (n : BitVec 4) :
    (captureError d a r t x n s).wakeView = s.wakeView := rfl

theorem forList_wakeView {α : Type} {f : α → State → State} (h : ∀ x t, (f x t).wakeView = t.wakeView) (l : List α) (s : State) :
    (forList f l s).wakeView = s.wakeView := by
  induction l generalizing s with
  | nil => rfl
  | cons x l ih => exact (ih (f x s)).trans (h x s)

theorem apply_ite_wakeView {c : Prop} [Decidable c] {a b : State} {y : Nat × Bool × DevState × Nat × Bool × Bool} (ha : a.wakeView = y)
    (hb : b.wakeView = y) : (if c then a else b).wakeView = y := by
  split <;> assumption

@[simp] theorem trgTake_wakeView (u : TrigId) : (trgTake u s).wakeView = s.wakeView := apply_ite_wakeView rfl rfl

@[simp] theorem trgStep_wakeView (u : TrigId) (met : Bool) : (trgStep u met s).2.wakeView = s.wakeView := by
  unfold trgStep
  dsimp only
  split
  · rfl
  · rfl
  · rfl
  · split_ifs <;> rfl

@[simp] theorem combine_wakeView (v u : TrigId) (n : Nat) : (combine v u n s).2.wakeView = s.wakeView := by
  unfold combine
  dsimp only
  split <;> rfl

@[simp] theorem fire_wakeView (fuel : Nat) (u : TrigId) (n : Nat) (s : State) : (fire fuel u n s).wakeView = s.wakeView := by
  induction fuel generalizing u n s with
  | zero => rfl
  | succ fuel ih =>
    refine (forList_wakeView (fun v t => ?_) _ _).trans (fireOne_wakeView u n)
    refine apply_ite_wakeView ((forList_wakeView (fun m t => ?_) _ _).trans (by simp)) rfl
    exact apply_ite_wakeView (by simp [ih]) (by simp)

@[simp] theorem trgEvent_wakeView (k : SourceId) (v : Sev) : (trgEvent k v s).wakeView = s.wakeView :=
  forList_wakeView (fun _ _ => apply_ite_wakeView (apply_ite_wakeView (by simp) (by simp)) rfl) _ _

@[simp] theorem noteTrigger_wakeView (e : Event) : (noteTrigger e s).wakeView = s.wakeView := apply_ite_wakeView (trgEvent_wakeView _ _) rfl

@[simp] theorem pushEvent_wakeView (e : Event) (s : State) : (pushEvent e s).wakeView = s.wakeView :=
  (noteTrigger_wakeView _).trans rfl

@[simp] theorem applyEvent_wakeView (e : Event) (s : State) : (applyEvent e s).wakeView = s.wakeView := by
  unfold applyEvent
  refine apply_ite_wakeView rfl ?_
  extract_lets k t f rx n u
  have hu : u.wakeView = s.wakeView := apply_ite_wakeView rfl rfl
  exact apply_ite_wakeView (apply_ite_wakeView ((pushEvent_wakeView _ _).trans hu) hu) hu

@[simp] theorem raise_wakeView (k : SourceId) (d : EvDef) (a b : Word32) (s : State) : (raise k d a b s).wakeView = s.wakeView :=
  apply_ite_wakeView (by simp) (by simp)

@[simp] theorem readLine_wakeView (n : Nat) (e : SymErr) (r : BitVec 8) (t : BitVec 4) (s : State) :
    (readLine n e r t s).wakeView = s.wakeView :=
  apply_ite_wakeView ((raise_wakeView _ _ _ _ _).trans rfl) ((raise_wakeView _ _ _ _ _).trans rfl)

@[simp] theorem write_wakeView (r : BitVec 8) (a : Nat) (l : List Byte) (s : State) : (s.write r a l).wakeView = s.wakeView :=
  have h : ((forList (fun e t => readLine e.1 e.2 r 2 t) ((s.errLines a l.length).filter fun e => !wholeLine a l.length e.1) s).store a l).wakeView =
      s.wakeView := forList_wakeView (fun _ _ => readLine_wakeView _ _ _ _ _) _ _
  apply_ite_wakeView h h

@[simp] theorem flushCapture_wakeView (s : State) : (flushCapture s).wakeView = s.wakeView :=
  forList_wakeView (fun _ _ => write_wakeView _ _ _ _) _ _

/-- A tick lets one unit of time pass, and leaves the rest of what the start-up goes by. -/
theorem tick_wakeView (s : State) : (tick s).wakeView = (s.now + 1, s.wakeView.2) :=
  apply_ite_wakeView rfl (flushCapture_wakeView _)

/-! ## A step on an empty queue -/

theorem idle_eq (s : State) : idle s = settle s (if s.power.dev = .waking then startUp (tick s) else tick s) := by
  have hd : (tick s).power.dev = s.power.dev := congrArg (fun v => v.2.2.1) (tick_wakeView s)
  show settle s (if (tick s).power.dev = .waking then _ else _) = _
  rw [hd]

/-- Once 40 ms have passed since the wake, the start-up does what it does at its end. -/
theorem startUp_late (h : startUpTicks ≤ s.sinceWake) : startUp s = finishWake s := by
  have hs : startUpTicks = 16000000 := by decide
  have hr : rampTicks = 40000 ∧ memsTicks = 1200000 ∧ pUpTicks = 1280000 ∧ cRampTicks = 1400000 ∧ cUpTicks = 2400000 ∧ linkTicks = 9600000 := by
    decide
  obtain ⟨h1, h2, h3, h4, h5, h6⟩ := hr
  unfold startUp
  rw [h1, h2, h3, h4, h5, h6]
  rw [hs] at h ⊢
  have hne : ∀ n, n < 16000000 → s.sinceWake ≠ n := fun n hn => by omega
  simp [hne, h]

/-- The start-up ends in SETUP once both dies run and the link is trained (R528, R534). -/
theorem finishWake_setup (hp : s.power.pRun = true) (hc : s.power.cRun = true) (hl : s.linkUp = true) : (finishWake s).power.dev = .setup := by
  have hf : finishWake s = raise 186 evAoWake (s.power.wakeCause.setWidth 32) 0 (s.modPower fun p => { p with dev := .setup }) := by
    simp [finishWake, hp, hc, hl]
  rw [hf]
  exact congrArg (fun v => v.2.2.1) (raise_wakeView _ _ _ _ _)

end Sys2Proof.Machine

namespace Sys2Proof

open Sys2Proof.Machine

/-- Settles O45: the step is a tick, whose effect on what the start-up goes by is the passing of time. -/
theorem emptyQueueTicks : Obligations.EmptyQueueTicks := by
  intro s t u hp ht hu
  have hu : u = tick s := by subst ht; exact hu
  subst hu
  refine ⟨fun hd => ?_, fun hd => ?_, fun hd hw h1 h2 h3 => ?_⟩
  · rw [step_nil hp, idle_eq, if_neg hd]
  · rw [step_nil hp, idle_eq, if_pos hd]
  · have hv := tick_wakeView s
    simp only [State.wakeView, Prod.mk.injEq] at hv
    obtain ⟨hn, hl, -, ha, hpr, hcr⟩ := hv
    have hs : startUpTicks ≤ (tick s).sinceWake := by
      show 16000000 ≤ (tick s).now - (tick s).power.wakeAt
      omega
    rw [startUp_late hs]
    exact finishWake_setup (hpr.trans h1) (hcr.trans h2) (hl.trans h3)

end Sys2Proof
end

section
-- One proof after another: elaborated side by side, these many short proofs wait for the same lemmas of the model's definitions, and each
-- waiting proof holds a thread with a stack of its own.
set_option Elab.async false

/-!
SUPPORT. Package memory and the symbol errors of memory and journal stay canonical (R376): one lemma per operation, in the order of the
model's files. Only a write, a read that corrects, an injection and the loss of memory touch the three tables; each other operation keeps
them because the operations it is made of do.
-/
namespace Sys2Proof.Machine

open Sys2Proof

variable {s t : State}

/-! ## What an operation is made of -/

/-- The three tables: package memory, its symbol errors, those of the journal. -/
def State.tables (s : State) : List Host.Cell × List (Nat × SymErr) × List (Nat × SymErr) := (s.mem, s.memErr, s.rings.journalErr)

end Sys2Proof.Machine

namespace Sys2Proof.TablesSound

open Sys2Proof.Machine

variable {s t : State}

theorem of_eq (h : TablesSound s) (ht : t.tables = s.tables) : TablesSound t := by
  simp only [State.tables, Prod.mk.injEq] at ht
  obtain ⟨hm, he, hj⟩ := ht
  exact ⟨hm ▸ h.mem, he ▸ h.memErr, hj ▸ h.journalErr⟩

theorem ite {c : Prop} [Decidable c] (hs : TablesSound s) (ht : TablesSound t) : TablesSound (if c then s else t) := by
  split <;> assumption

theorem dite {c : Prop} [Decidable c] {f : c → State} {g : ¬c → State} (hf : ∀ x, TablesSound (f x)) (hg : ∀ x, TablesSound (g x)) :
    TablesSound (if x : c then f x else g x) := by
  split
  · exact hf _
  · exact hg _

theorem iteSnd {α : Type} {c : Prop} [Decidable c] {p q : α × State} (hp : TablesSound p.2) (hq : TablesSound q.2) :
    TablesSound (if c then p else q).2 := by
  split <;> assumption

theorem iteRun {c : Prop} [Decidable c] {p q : RunRes} (hp : TablesSound p.s) (hq : TablesSound q.s) : TablesSound (if c then p else q).s := by
  split <;> assumption

theorem foldl {α : Type} {f : State → α → State} (hf : ∀ t x, TablesSound t → TablesSound (f t x)) {l : List α} (h : TablesSound s) :
    TablesSound (l.foldl f s) := by
  induction l generalizing s with
  | nil => exact h
  | cons x l ih => exact ih (hf s x h)

theorem foldlSnd {α β : Type} {f : β × State → α → β × State} (hf : ∀ p x, TablesSound p.2 → TablesSound (f p x).2) {l : List α} {p : β × State}
    (h : TablesSound p.2) : TablesSound (l.foldl f p).2 := by
  induction l generalizing p with
  | nil => exact h
  | cons x l ih => exact ih (hf p x h)

theorem forAll {n : Nat} {f : Fin n → State → State} (hf : ∀ i t, TablesSound t → TablesSound (f i t)) (h : TablesSound s) :
    TablesSound (Machine.forAll f s) := foldl (fun t i => hf i t) h

theorem forList {α : Type} {f : α → State → State} {l : List α} (hf : ∀ x t, TablesSound t → TablesSound (f x t)) (h : TablesSound s) :
    TablesSound (Machine.forList f l s) := foldl (fun t x => hf x t) h

end Sys2Proof.TablesSound

namespace Sys2Proof.Machine

open Sys2Proof

/-- Where an outcome is a next state, its tables are sound. -/
def NextTables (o : Host.Outcome State Fault Refusal) : Prop := ∀ t, o = .next t → TablesSound t

variable {s : State}

theorem NextTables.next (h : TablesSound s) : NextTables (.next s) := by
  rintro t ⟨⟩
  exact h

theorem NextTables.ite {c : Prop} [Decidable c] {a b : Host.Outcome State Fault Refusal} (ha : NextTables a) (hb : NextTables b) :
    NextTables (if c then a else b) := by
  split <;> assumption

theorem sessionsWeirs_tables {x y} (h : TablesSound s) : TablesSound { s with sessions := x, weirs := y } := .of_eq h rfl

theorem links_tables {x y a b} (h : TablesSound s) : TablesSound { s with mrP := x, mrC := y, lane0 := a, lane1 := b } := .of_eq h rfl

theorem tableWf_putErrs {α : Type} {k : α → Nat} {e : SymErr} {m : List α} : ∀ {l : List (Nat × SymErr)}, tableWf noErr l = true →
    tableWf noErr (m.foldl (fun l x => putErr l (k x) e) l) = true := by
  induction m with
  | nil => exact fun h => h
  | cons x m ih => exact fun h => ih (tableWf_put _ _ h)

/-! ## Ops -/

/-- A write of bytes keeps memory canonical and drops errors of lines (R376). -/
theorem store_tables {a l} (h : TablesSound s) : TablesSound (s.store a l) :=
  ⟨store_wf s a l h.mem, tableWf_filter _ h.memErr, h.journalErr⟩

theorem fresh_tables (h : TablesSound s) : TablesSound (State.fresh s).2 := .of_eq h rfl

theorem freshN_tables {n} (h : TablesSound s) : TablesSound (s.freshN n).2 := by
  induction n generalizing s with
  | zero => exact h
  | succ n ih => exact ih (fresh_tables h)

theorem modPower_tables {f} (h : TablesSound s) : TablesSound (State.modPower s f) := .of_eq h rfl

theorem modHost_tables {f} (h : TablesSound s) : TablesSound (State.modHost s f) := .of_eq h rfl

/-- A change of the rings keeps the journal's symbol errors where it leaves them. -/
theorem modRings_tables {f} (h : TablesSound s) (hf : ∀ r, (f r).journalErr = r.journalErr := by intro; rfl) :
    TablesSound (s.modRings f) := ⟨h.mem, h.memErr, (congrArg (tableWf noErr) (hf s.rings)).trans h.journalErr⟩

theorem modLoop_tables {f} (h : TablesSound s) : TablesSound (State.modLoop s f) := .of_eq h rfl

theorem modNet_tables {f} (h : TablesSound s) : TablesSound (State.modNet s f) := .of_eq h rfl

theorem modTime_tables {f} (h : TablesSound s) : TablesSound (State.modTime s f) := .of_eq h rfl

theorem modPair_tables {f} (h : TablesSound s) : TablesSound (State.modPair s f) := .of_eq h rfl

theorem modSaf_tables {f} (h : TablesSound s) : TablesSound (State.modSaf s f) := .of_eq h rfl

theorem modArb_tables {f} (h : TablesSound s) : TablesSound (State.modArb s f) := .of_eq h rfl

theorem modEvents_tables {f} (h : TablesSound s) : TablesSound (State.modEvents s f) := .of_eq h rfl

theorem modRegion_tables {r f} (h : TablesSound s) : TablesSound (State.modRegion s r f) := .of_eq h rfl

theorem modIsland_tables {i f} (h : TablesSound s) : TablesSound (State.modIsland s i f) := .of_eq h rfl

theorem modUnit_tables {u f} (h : TablesSound s) : TablesSound (State.modUnit s u f) := .of_eq h rfl

theorem modBank_tables {b f} (h : TablesSound s) : TablesSound (State.modBank s b f) := .of_eq h rfl

theorem modChan_tables {c f} (h : TablesSound s) : TablesSound (State.modChan s c f) := .of_eq h rfl

theorem modChain_tables {n f} (h : TablesSound s) : TablesSound (State.modChain s n f) := .of_eq h rfl

theorem modTrig_tables {u f} (h : TablesSound s) : TablesSound (State.modTrig s u f) := .of_eq h rfl

theorem modSess_tables {k f} (h : TablesSound s) : TablesSound (State.modSess s k f) := .of_eq h rfl

theorem modWeir_tables {n f} (h : TablesSound s) : TablesSound (State.modWeir s n f) := .of_eq h rfl

theorem modSrc_tables {k f} (h : TablesSound s) : TablesSound (State.modSrc s k f) := modEvents_tables h

theorem modSq_tables {q f} (h : TablesSound s) : TablesSound (State.modSq s q f) := modRings_tables h

theorem modCq_tables {m f} (h : TablesSound s) : TablesSound (State.modCq s m f) := modRings_tables h

theorem modPort_tables {p f} (h : TablesSound s) : TablesSound (State.modPort s p f) := modNet_tables h

theorem modPairRegion_tables {r f} (h : TablesSound s) : TablesSound (State.modPairRegion s r f) := modPair_tables h

theorem modSafCh_tables {c f} (h : TablesSound s) : TablesSound (State.modSafCh s c f) := modSaf_tables h

theorem modSo_tables {o f} (h : TablesSound s) : TablesSound (State.modSo s o f) := modSaf_tables h

theorem modRt_tables {c f} (h : TablesSound s) : TablesSound (State.modRt s c f) := modLoop_tables h

theorem modProbe_tables {n f} (h : TablesSound s) : TablesSound (State.modProbe s n f) := modLoop_tables h

theorem modMr_tables {d f} (h : TablesSound s) : TablesSound (State.modMr s d f) := by
  unfold State.modMr
  split
  · exact .of_eq h rfl
  · exact .of_eq h rfl

theorem closeDebug_tables (h : TablesSound s) : TablesSound (closeDebug s) := by
  unfold closeDebug
  exact .of_eq h rfl

/-! ## Trigger -/

theorem trgTake_tables {u} (h : TablesSound s) : TablesSound (trgTake u s) := .ite (modTrig_tables h) h

theorem fireOne_tables {u tick} (h : TablesSound s) : TablesSound (fireOne u tick s) := by
  unfold fireOne
  exact modTrig_tables (modEvents_tables h)

theorem trgStep_tables {u met} (h : TablesSound s) : TablesSound (trgStep u met s).2 := by
  unfold trgStep
  extract_lets -underBinder +onlyGivenNames t count
  split
  · exact h
  · exact h
  · exact h
  · exact .iteSnd (.iteSnd h h) (.iteSnd (modTrig_tables h) h)

theorem combine_tables {v u tick} (h : TablesSound s) : TablesSound (combine v u tick s).2 := by
  unfold combine
  extract_lets -underBinder +onlyGivenNames w t isA isB win a b near after
  split
  · exact h
  · exact modTrig_tables h
  · exact modTrig_tables h
  · exact h

theorem fire_tables {n u tick} (h : TablesSound s) : TablesSound (fire n u tick s) := by
  induction n generalizing u tick s with
  | zero => exact fireOne_tables h
  | succ n ih =>
    refine .forList (fun v t ht => .ite (.forList (fun m t ht => ?_) (combine_tables (trgTake_tables ht))) ht) (fireOne_tables h)
    exact .ite (ih (trgStep_tables ht)) (trgStep_tables ht)

theorem trgEvent_tables {k v} (h : TablesSound s) : TablesSound (trgEvent k v s) :=
    .forList (fun _ _ ht => .ite (.ite (fire_tables (trgStep_tables (trgTake_tables ht))) (trgStep_tables (trgTake_tables ht))) ht) h

/-! ## Raise -/

theorem noteTrigger_tables {e} (h : TablesSound s) : TablesSound (noteTrigger e s) := .ite (trgEvent_tables h) h

theorem pushEvent_tables {e} (h : TablesSound s) : TablesSound (pushEvent e s) := by
  unfold pushEvent
  exact modEvents_tables (noteTrigger_tables (modSrc_tables h))

theorem applyEvent_tables {e} (h : TablesSound s) : TablesSound (applyEvent e s) :=
    .ite h (.ite (.ite (pushEvent_tables (modSrc_tables (.ite (modPower_tables (modEvents_tables h)) (modEvents_tables h))))
      (modSrc_tables (.ite (modPower_tables (modEvents_tables h)) (modEvents_tables h)))) (modSrc_tables (.ite (modPower_tables
      (modEvents_tables h)) (modEvents_tables h))))

theorem reenter_tables {k} (h : TablesSound s) : TablesSound (reenter k s) := by
  unfold reenter
  exact .forList (fun _ _ => applyEvent_tables) (modEvents_tables h)

theorem raiseFull_tables {k d detail arg det forced} (h : TablesSound s) : TablesSound (raiseFull k d detail arg det forced s) := by
  unfold raiseFull
  exact .ite (applyEvent_tables (pushEvent_tables h)) (pushEvent_tables h)

theorem raise_tables {k d detail arg} (h : TablesSound s) : TablesSound (raise k d detail arg s) := raiseFull_tables h

theorem stand_tables {k d} (h : TablesSound s) : TablesSound (stand k d s) := modSrc_tables h

theorem unstand_tables {k d} (h : TablesSound s) : TablesSound (unstand k d s) := modSrc_tables h

theorem openShadow_tables {o ends cause} (h : TablesSound s) : TablesSound (openShadow o ends cause s) := by
  unfold openShadow
  split
  · exact modEvents_tables h
  · exact modEvents_tables h

/-! ## MemProt -/

theorem captureError_tables {d addr req type synd nsym} (h : TablesSound s) : TablesSound (captureError d addr req type synd nsym s) := by
  unfold captureError
  exact modEvents_tables h

theorem clearError_tables {d} (h : TablesSound s) : TablesSound (clearError d s) := modEvents_tables h

theorem hostError_tables {addr req write status} (h : TablesSound s) : TablesSound (hostError addr req write status s) :=
    raise_tables (captureError_tables h)

/-- A line read: a corrected one has no symbol error any more (R376). -/
theorem readLine_tables {line e req type} (h : TablesSound s) : TablesSound (readLine line e req type s) := by
  unfold readLine
  extract_lets ok u
  have hu : TablesSound u := captureError_tables h
  exact .ite (raise_tables ⟨hu.mem, tableWf_filter _ hu.memErr, hu.journalErr⟩) (raise_tables (.of_eq hu rfl))

theorem readMem_tables {a n req type} (h : TablesSound s) : TablesSound (readMem a n req type s).2 := by
  unfold readMem
  exact .forList (fun _ _ => readLine_tables) h

theorem forgetSlot_tables {k} (h : TablesSound s) : TablesSound (forgetSlot k s) := by
  unfold forgetSlot
  extract_lets -underBinder +onlyGivenNames s₂ is s₃ s₄ s₅ s₆
  have hs₂ : TablesSound s₂ := modRings_tables h
  have hs₃ : TablesSound s₃ := modHost_tables hs₂
  have hs₄ : TablesSound s₄ := .of_eq hs₃ rfl
  have hs₅ : TablesSound s₅ := modPair_tables hs₄
  have hs₆ : TablesSound s₆ := modNet_tables hs₅
  exact modLoop_tables hs₆

/-- A journal slot read has no symbol error any more, corrected or lost (R376). -/
theorem readJournal_tables {k e req type} (h : TablesSound s) : TablesSound (readJournal k e req type s) := by
  unfold readJournal
  extract_lets ok u v
  have hu : TablesSound u := captureError_tables h
  have hv : TablesSound v := ⟨hu.mem, hu.memErr, tableWf_filter _ hu.journalErr⟩
  exact .ite (raise_tables (.of_eq hv rfl)) (raise_tables (forgetSlot_tables (.of_eq hv rfl)))

theorem injected_tables (h : TablesSound s) : TablesSound (injected s) := modEvents_tables h

/-- An injection into a line records its symbol errors in canonical form (R457). -/
theorem injectLine_tables {a n} (h : TablesSound s) : TablesSound (injectLine a n s) :=
  .ite (injected_tables ⟨h.mem, tableWf_put _ _ h.memErr, h.journalErr⟩) h

theorem write_tables {req a l} (h : TablesSound s) : TablesSound (State.write s req a l) := by
  unfold State.write
  exact injectLine_tables (store_tables (.forList (fun _ _ => readLine_tables) h))

/-- A journal slot written records its symbol errors, if any, in canonical form (R376, R457). -/
theorem wroteJournal_tables {k} (h : TablesSound s) : TablesSound (wroteJournal k s) := by
  unfold wroteJournal
  extract_lets hit u
  have hu : TablesSound u := ⟨h.mem, h.memErr, tableWf_put _ _ h.journalErr⟩
  exact .ite (injected_tables hu) hu

theorem captureStore_tables {a l} (h : TablesSound s) : TablesSound (captureStore a l s) := .ite (modArb_tables h) (write_tables h)

theorem flushCapture_tables (h : TablesSound s) : TablesSound (flushCapture s) := .forList (fun _ _ => write_tables) (modArb_tables h)

/-! ## Journal -/

theorem modEntry_tables {k f} (h : TablesSound s) : TablesSound (modEntry k f s) := wroteJournal_tables (modRings_tables h)

theorem modWork_tables {k f} (h : TablesSound s) : TablesSound (modWork k f s) := modRings_tables h

theorem dropWork_tables {k} (h : TablesSound s) : TablesSound (dropWork k s) := modRings_tables h

theorem storeCtxWords_tables {c w} (h : TablesSound s) : TablesSound (storeCtxWords c w s) := write_tables (write_tables h)

theorem recordTarget_tables {e} (h : TablesSound s) : TablesSound (recordTarget e s) := by
  unfold recordTarget
  extract_lets -underBinder +onlyGivenNames i
  split
  · exact .ite (storeCtxWords_tables h) h
  · exact .forList (fun _ _ => modRings_tables) h
  · exact .dite (fun _ => modSess_tables h) (fun _ => h)
  · exact .dite (fun _ => modWeir_tables h) (fun _ => h)
  · exact .dite (fun _ => modRings_tables h) (fun _ => h)
  · exact modRings_tables h
  · exact .forList (fun _ _ => modPairRegion_tables) h
  · exact modRings_tables h
  · exact h

theorem markOvertaken_tables {e} (h : TablesSound s) : TablesSound (markOvertaken e s) := by
  unfold markOvertaken
  exact modRings_tables h

theorem finish_tables {k st detail result effect} (h : TablesSound s) : TablesSound (finish k st detail result effect s) := by
  unfold finish
  split
  · exact h
  · extract_lets -underBinder +onlyGivenNames e p re record s₂ s₃
    have hrecord : ∀ t, TablesSound t → TablesSound (record t) := fun _ ht => .ite (write_tables ht) ht
    have hs₂ : TablesSound s₂ := .ite (recordTarget_tables (hrecord _ (markOvertaken_tables h))) h
    have hs₃ : TablesSound s₃ := dropWork_tables (modEntry_tables hs₂)
    exact .ite (modRings_tables hs₃) hs₃

theorem finishOk_tables {k result} (h : TablesSound s) : TablesSound (finishOk k result s) := finish_tables h

theorem finishHeld_tables {k st detail result effect} (h : TablesSound s) : TablesSound (finishHeld k st detail result effect s) := by
  unfold finishHeld
  exact .ite (finish_tables h) (modRings_tables (finish_tables h))

theorem finishFail_tables {k st detail} (h : TablesSound s) : TablesSound (finishFail k st detail s) := finish_tables h

theorem hostWrite_tables {addr data} (h : TablesSound s) : TablesSound (hostWrite addr data s) := modHost_tables h

theorem hostRead_tables {use addr} (h : TablesSound s) : TablesSound (hostRead use addr s) := modHost_tables h

theorem fetchData_tables {k addr} (h : TablesSound s) : TablesSound (fetchData k addr s) := .ite h (hostRead_tables h)

/-! ## SafCore -/

theorem clearByRequest_tables {o} (h : TablesSound s) : TablesSound (clearByRequest o s) := by
  unfold clearByRequest
  extract_lets -underBinder +onlyGivenNames f
  exact .ite (.ite (.ite (raise_tables (modSo_tables h)) (unstand_tables (raise_tables (modSo_tables h)))) (unstand_tables (.ite
    (raise_tables (modSo_tables h)) (unstand_tables (raise_tables (modSo_tables h)))))) h

theorem noteOutput_tables {o} (h : TablesSound s) : TablesSound (noteOutput o s) := by
  unfold noteOutput
  exact modSo_tables h

theorem abandonTests_tables (h : TablesSound s) : TablesSound (abandonTests s) :=
    .forAll (fun _ _ ht => .forAll (fun _ _ ht₂ => .ite (raise_tables (modSaf_tables (modSafCh_tables ht₂))) ht₂) ht) h

theorem noteDemand_tables (h : TablesSound s) : TablesSound (noteDemand s) := by
  unfold noteDemand
  exact modSaf_tables h

theorem reportDemands_tables (h : TablesSound s) : TablesSound (reportDemands s) := by
  unfold reportDemands
  extract_lets -underBinder +onlyGivenNames a b s₂
  have hs₂ : TablesSound s₂ := .ite h (modSaf_tables (raise_tables h))
  exact .ite hs₂ (modSaf_tables (raise_tables hs₂))

theorem settlePath1_tables (h : TablesSound s) : TablesSound (settlePath1 s) := modSaf_tables h

theorem settlePath2_tables (h : TablesSound s) : TablesSound (settlePath2 s) := modSaf_tables h

theorem settleSwitches_tables (h : TablesSound s) : TablesSound (settleSwitches s) := modSaf_tables h

theorem settleSaf_tables (h : TablesSound s) : TablesSound (settleSaf s) := by
  unfold settleSaf
  extract_lets -underBinder +onlyGivenNames s₂
  have hs₂ : TablesSound s₂ := abandonTests_tables (clearByRequest_tables (clearByRequest_tables (noteDemand_tables
    (reportDemands_tables h))))
  exact noteOutput_tables (noteOutput_tables (settleSwitches_tables (settlePath2_tables (settlePath1_tables hs₂))))

/-! ## Settle -/

theorem unforce_tables {k} (h : TablesSound s) : TablesSound (unforce k s) := modSrc_tables h

theorem clearForces_tables (h : TablesSound s) : TablesSound (clearForces s) := .forAll (fun _ _ => unforce_tables) h

theorem leaveTest_tables {r} (h : TablesSound s) : TablesSound (leaveTest r s) :=
    .ite (.forAll (fun _ _ ht => .ite (unforce_tables ht) ht) h) h

theorem failSwap_tables {k} (h : TablesSound s) : TablesSound (failSwap k s) := finish_tables (.forAll (fun _ _ => modRegion_tables) h)

theorem endSwap_tables {r k} (h : TablesSound s) : TablesSound (endSwap r k s) := by
  unfold endSwap
  exact .ite (modRegion_tables h) (finishOk_tables (modRegion_tables h))

theorem stopSwap_tables {r k} (h : TablesSound s) : TablesSound (stopSwap r k s) := .ite (failSwap_tables h) (endSwap_tables h)

theorem stopRegion_tables {r} (h : TablesSound s) : TablesSound (stopRegion r s) := by
  unfold stopRegion
  extract_lets -underBinder +onlyGivenNames s₂ g s₃ s₄ s₅ s₆ s₇
  have hs₂ : TablesSound s₂ := leaveTest_tables h
  have hs₃ : TablesSound s₃ := .forList (fun _ _ => finishHeld_tables) hs₂
  have hs₄ : TablesSound s₄ := .forList (fun _ _ => finish_tables) hs₃
  have hs₅ : TablesSound s₅ := .forList (fun _ _ => stopSwap_tables) hs₄
  have hs₆ : TablesSound s₆ := .forList (fun _ _ => modIsland_tables) hs₅
  have hs₇ : TablesSound s₇ := modPairRegion_tables hs₆
  exact modRegion_tables hs₇

theorem enterDev_tables {d} (h : TablesSound s) : TablesSound (enterDev d s) := by
  unfold enterDev
  extract_lets -underBinder +onlyGivenNames s₂ s₃ s₄
  have hs₂ : TablesSound s₂ := .ite (closeDebug_tables h) h
  have hs₃ : TablesSound s₃ := modPower_tables hs₂
  have hs₄ : TablesSound s₄ := .ite (clearForces_tables hs₃) hs₃
  exact .ite (.forAll (fun _ _ ht => .ite ht (stopRegion_tables ht)) hs₄) hs₄

theorem settleDev_tables (h : TablesSound s) : TablesSound (settleDev s) := by
  unfold settleDev
  split
  · exact .ite (enterDev_tables h) (.ite h (enterDev_tables h))
  · exact .ite (enterDev_tables h) (.ite (enterDev_tables h) h)
  · exact .ite h (enterDev_tables h)
  · exact h

theorem openWindows_tables {o was is} (h : TablesSound s) : TablesSound (openWindows o was is s) := by
  unfold openWindows
  split
  · exact h
  · exact openShadow_tables h

theorem settleRegion_tables {s0 r} (h : TablesSound s) : TablesSound (settleRegion s0 r s) := by
  unfold settleRegion
  extract_lets -underBinder +onlyGivenNames s₂ s₃ s₄
  have hs₂ : TablesSound s₂ := openWindows_tables h
  have hs₃ : TablesSound s₃ := .ite (modSrc_tables hs₂) hs₂
  have hs₄ : TablesSound s₄ := .ite (modRegion_tables hs₃) hs₃
  exact .ite (modRegion_tables hs₄) hs₄

theorem settleIsland_tables {s0 i} (h : TablesSound s) : TablesSound (settleIsland s0 i s) := by
  unfold settleIsland
  extract_lets -underBinder +onlyGivenNames s₂ off s₃
  have hs₂ : TablesSound s₂ := openWindows_tables h
  have hs₃ : TablesSound s₃ := .ite (modIsland_tables hs₂) hs₂
  exact .ite hs₃ (modIsland_tables hs₃)

theorem dropCommand_tables {u} (h : TablesSound s) : TablesSound (dropCommand u s) := modUnit_tables h

theorem settleUnit_tables {u} (h : TablesSound s) : TablesSound (settleUnit u s) := by
  unfold settleUnit
  extract_lets -underBinder +onlyGivenNames clears s₂ s₃
  have hs₂ : TablesSound s₂ := .ite h (modUnit_tables h)
  have hs₃ : TablesSound s₃ := .ite hs₂ (modUnit_tables (dropCommand_tables hs₂))
  exact .ite (modUnit_tables hs₃) hs₃

theorem endStopped_tables {u} (h : TablesSound s) : TablesSound (endStopped u s) := by
  unfold endStopped
  exact .ite h (modUnit_tables (modIsland_tables h))

theorem setGate_tables {u on} (h : TablesSound s) : TablesSound (setGate u on s) := modUnit_tables h

theorem gateIsland_tables {i} (h : TablesSound s) : TablesSound (gateIsland i s) := by
  unfold gateIsland
  exact .ite (setGate_tables (setGate_tables h)) (modIsland_tables (setGate_tables (setGate_tables h)))

theorem settleGates_tables {i} (h : TablesSound s) : TablesSound (settleGates i s) := by
  unfold settleGates
  exact .ite (gateIsland_tables h) h

theorem dropTrips_tables (h : TablesSound s) : TablesSound (dropTrips s) := .of_eq h rfl

theorem countSwitched_tables {s0} (h : TablesSound s) : TablesSound (countSwitched s0 s) :=
    .forAll (fun _ _ ht => .ite (modLoop_tables ht) ht) h

theorem settle_tables {s0} (h : TablesSound s) : TablesSound (settle s0 s) := by
  unfold settle
  extract_lets -underBinder +onlyGivenNames s₂ s₃ s₄ s₅
  have hs₂ : TablesSound s₂ := settleSaf_tables (settleDev_tables (dropTrips_tables h))
  have hs₃ : TablesSound s₃ := .forAll (fun _ _ => settleRegion_tables) hs₂
  have hs₄ : TablesSound s₄ := .forAll (fun _ _ => settleIsland_tables) hs₃
  have hs₅ : TablesSound s₅ := .forAll (fun _ _ => settleUnit_tables) (.forAll (fun _ _ => endStopped_tables) hs₄)
  exact countSwitched_tables (.forAll (fun _ _ => settleGates_tables) hs₅)

/-! ## Gate -/

theorem readAs_tables {v} (h : TablesSound s) : TablesSound (readAs v s) := modHost_tables h

theorem hostAccess_tables {die off v read op} (hop : ∀ t, TablesSound t → TablesSound (op t)) (h : TablesSound s) : TablesSound
    (hostAccess die off v read op s) :=
    .ite h (.ite (.ite (readAs_tables h) h) (.ite (hop _ h) (modHost_tables h)))

theorem hostWord_tables {die off v op} (hop : ∀ t, TablesSound t → TablesSound (op t)) (h : TablesSound s) : TablesSound
    (hostWord die off v op s) :=
    hostAccess_tables (fun _ ht => settle_tables (hop _ ht)) h

theorem rwsWritten_tables (h : TablesSound s) : TablesSound (rwsWritten s) := raise_tables h

/-! ## CtxCore -/

theorem putCtx_tables {c off l} (h : TablesSound s) : TablesSound (putCtx c off l s) := .ite (modLoop_tables h) (write_tables h)

theorem throughCtx_tables {c off l} (h : TablesSound s) : TablesSound (throughCtx c off l s) := write_tables (modLoop_tables h)

theorem saveRt_tables {c} (h : TablesSound s) : TablesSound (saveRt c s) := modLoop_tables h

theorem writeBack_tables {c} (h : TablesSound s) : TablesSound (writeBack c s) := by
  unfold writeBack
  split
  · exact h
  · exact saveRt_tables (modLoop_tables (.forList (fun _ _ => write_tables) h))

theorem setCtxState_tables {c v} (h : TablesSound s) : TablesSound (setCtxState c v s) := throughCtx_tables h

theorem stepCtx16_tables {c off} (h : TablesSound s) : TablesSound (stepCtx16 c off s) := throughCtx_tables h

theorem stepCtx32_tables {c off} (h : TablesSound s) : TablesSound (stepCtx32 c off s) := throughCtx_tables h

theorem setOutVal_tables {c n v} (h : TablesSound s) : TablesSound (setOutVal c n v s) := putCtx_tables h

theorem setSw_tables {c k v} (h : TablesSound s) : TablesSound (setSw c k v s) := putCtx_tables h

theorem settleBusFb_tables {k} (h : TablesSound s) : TablesSound (settleBusFb k s) := .ite h (unstand_tables h)

/-! ## Confluence -/

theorem writeEntry_tables {r above e} (h : TablesSound s) : TablesSound (writeEntry r above e s) := by
  unfold writeEntry
  extract_lets -underBinder +onlyGivenNames i keepCmp keepPhase p replaced clipped s₂
  have hs₂ : TablesSound s₂ := modRegion_tables h
  exact modIsland_tables hs₂

theorem writeCommit_tables {r above l late} (h : TablesSound s) : TablesSound (writeCommit r above l late s) := by
  unfold writeCommit
  exact .forList (fun _ _ => writeEntry_tables) (.ite (modRegion_tables h) h)

theorem commitFrame_tables {f late} (h : TablesSound s) : TablesSound (commitFrame f late s) := modRegion_tables (writeCommit_tables h)

theorem staleCopy_tables (h : TablesSound s) : TablesSound (staleCopy s) := by
  unfold staleCopy
  exact .ite (modPair_tables (raise_tables (modPair_tables h))) (modPair_tables h)

theorem diverge_tables {r seq} (h : TablesSound s) : TablesSound (diverge r seq s) := by
  unfold diverge
  exact modPairRegion_tables (raise_tables (modPair_tables h))

theorem discardEpoch_tables {r} (h : TablesSound s) : TablesSound (discardEpoch r s) := by
  unfold discardEpoch
  exact modPairRegion_tables (raise_tables (modPair_tables h))

theorem finishResync_tables {k} (h : TablesSound s) : TablesSound (finishResync k s) := .ite h (finishOk_tables h)

theorem probationMatch_tables {r seq} (h : TablesSound s) : TablesSound (probationMatch r seq s) := by
  unfold probationMatch
  extract_lets -underBinder +onlyGivenNames s₂ p
  have hs₂ : TablesSound s₂ := modPairRegion_tables h
  refine .ite hs₂ ?_
  extract_lets -underBinder +onlyGivenNames s₃ s₄
  have hs₃ : TablesSound s₃ := raise_tables (modPair_tables hs₂)
  have hs₄ : TablesSound s₄ := modPairRegion_tables hs₃
  split
  · exact finishResync_tables hs₄
  · exact hs₄

theorem acceptCopy_tables {r seq body partner} (h : TablesSound s) : TablesSound (acceptCopy r seq body partner s) := by
  unfold acceptCopy
  exact modPairRegion_tables (.ite (commitFrame_tables h) h)

theorem creditCopy_tables {r seq partner} (h : TablesSound s) : TablesSound (creditCopy r seq partner s) := modPairRegion_tables h

theorem countedCopy_tables {r seq body partner} (h : TablesSound s) : TablesSound (countedCopy r seq body partner s) := by
  unfold countedCopy
  extract_lets -underBinder +onlyGivenNames s₂ s₃
  have hs₂ : TablesSound s₂ := modPairRegion_tables h
  have hs₃ : TablesSound s₃ := by
    unfold s₃
    split
    · exact acceptCopy_tables hs₂
    · exact .ite (creditCopy_tables hs₂) (diverge_tables (creditCopy_tables hs₂))
  split
  · exact hs₃
  · extract_lets -underBinder +onlyGivenNames s₄
    have hs₄ : TablesSound s₄ := creditCopy_tables (modPairRegion_tables hs₃)
    exact .ite (probationMatch_tables hs₄) (discardEpoch_tables (diverge_tables hs₄))

theorem uncountedCopy_tables {r seq body partner} (h : TablesSound s) : TablesSound (uncountedCopy r seq body partner s) := by
  unfold uncountedCopy
  extract_lets -underBinder +onlyGivenNames p
  refine .ite (.ite (modPairRegion_tables h) h) ?_
  refine .ite ?_ h
  split
  · exact modPairRegion_tables h
  · extract_lets -underBinder +onlyGivenNames s₂
    have hs₂ : TablesSound s₂ := creditCopy_tables h
    exact .ite (probationMatch_tables hs₂) (discardEpoch_tables (diverge_tables hs₂))

theorem receiveCopy_tables {r seq body partner} (h : TablesSound s) : TablesSound (receiveCopy r seq body partner s) :=
    .ite (staleCopy_tables h) (.ite (countedCopy_tables h) (uncountedCopy_tables h))

/-! ## MrCore -/

theorem loseChain_tables {f} (h : TablesSound s) : TablesSound (loseChain f s) :=
    .forList (fun _ _ ht => .forAll (fun _ _ => modSess_tables) ht) h

theorem loseSet_tables {y} (h : TablesSound s) : TablesSound (loseSet y s) := .forAll (fun _ _ => modSess_tables) h

theorem losePayload_tables {p} (h : TablesSound s) : TablesSound (losePayload p s) := by
  unfold losePayload
  split
  · exact .forList (fun _ _ => loseSet_tables) h
  · exact loseChain_tables h
  · exact h
  · exact h

theorem renumber_tables {b n} (h : TablesSound s) : TablesSound (renumber b n s) := by
  unfold renumber
  exact .forAll (fun _ _ => modSess_tables) (modEvents_tables (modMr_tables h))

theorem mrSend_tables {d vc p} (h : TablesSound s) : TablesSound (mrSend d vc p s) := .ite (modMr_tables h) (losePayload_tables h)

theorem pairSend_tables {type r seq body} (h : TablesSound s) : TablesSound (pairSend type r seq body s) :=
    .ite h (.forAll (fun _ _ => modPort_tables) (modNet_tables h))

/-! ## Filter -/

theorem trgWaiting_tables (h : TablesSound s) : TablesSound (trgWaiting s) :=
    .forList (fun _ _ ht => mrSend_tables (.ite (modTrig_tables (raise_tables ht)) ht)) (modEvents_tables h)

theorem trgSample_tables {u x tick} (h : TablesSound s) : TablesSound (trgSample u x tick s) := by
  unfold trgSample
  extract_lets -underBinder +onlyGivenNames s₂ w th q p
  have hs₂ : TablesSound s₂ := trgTake_tables h
  have hp : TablesSound p.2 := trgStep_tables (modTrig_tables hs₂)
  exact .ite (trgWaiting_tables (fire_tables hp)) hp

theorem trgInput_tables {chain n x tick} (h : TablesSound s) : TablesSound (trgInput chain n x tick s) :=
    .forList (fun _ _ => trgSample_tables) h

theorem trgGap_tables {n} (h : TablesSound s) : TablesSound (trgGap n s) :=
    .forList (fun _ _ ht => modTrig_tables (trgTake_tables ht)) h

theorem writeTrgCmd_tables {u v} (h : TablesSound s) : TablesSound (writeTrgCmd u v s) := .ite (modTrig_tables h) h

theorem chainFlush_tables {n} (h : TablesSound s) : TablesSound (chainFlush n s) := by
  unfold chainFlush
  exact .ite h (modChain_tables (mrSend_tables h))

theorem chainOut_tables {n valid y} (h : TablesSound s) : TablesSound (chainOut n valid y s) := by
  unfold chainOut
  extract_lets -underBinder +onlyGivenNames s₂ v done s₃ s₄ c s₅
  have hs₂ : TablesSound s₂ := .ite h (chainFlush_tables h)
  have hs₃ : TablesSound s₃ := modChain_tables hs₂
  have hs₄ : TablesSound s₄ := .ite (chainFlush_tables hs₃) hs₃
  have hs₅ : TablesSound s₅ := .ite (raise_tables hs₄) hs₄
  exact .ite (trgInput_tables hs₅) (trgGap_tables hs₅)

theorem chainInput_tables {n x count ovr} (h : TablesSound s) : TablesSound (chainInput n x count ovr s) := by
  unfold chainInput
  exact .forList (fun _ _ => chainOut_tables) (modChain_tables h)

/-! ## Operands -/

theorem applying_tables {k} (h : TablesSound s) : TablesSound (applying k s) := modWork_tables h

/-! ## Region -/

theorem startCarrier_tables {r p} (h : TablesSound s) : TablesSound (startCarrier r p s) := by
  unfold startCarrier
  extract_lets -underBinder +onlyGivenNames s₂ s₃ s₄ s₅
  have hs₂ : TablesSound s₂ := .forList (fun _ _ => modIsland_tables) h
  have hs₃ : TablesSound s₃ := modRegion_tables hs₂
  have hs₄ : TablesSound s₄ := unstand_tables hs₃
  have hs₅ : TablesSound s₅ := modLoop_tables hs₄
  exact .ite (modPairRegion_tables hs₅) hs₅

theorem changePhase_tables {r p} (h : TablesSound s) : TablesSound (changePhase r p s) := modRegion_tables (.ite h (leaveTest_tables h))

theorem raiseMode_tables {r} (h : TablesSound s) : TablesSound (raiseMode r s) := raise_tables h

theorem modeFromOff_tables {r p k} (h : TablesSound s) : TablesSound (modeFromOff r p k s) :=
    .ite (finishFail_tables h) (.ite (finishOk_tables (raiseMode_tables h)) (.ite (finishFail_tables h) (.ite (finishOk_tables
      (raiseMode_tables (startCarrier_tables h))) (finishFail_tables h))))

theorem doRegionMode_tables {k} (h : TablesSound s) : TablesSound (doRegionMode k s) := by
  unfold doRegionMode
  extract_lets -underBinder +onlyGivenNames d
  split
  · exact finishFail_tables h
  · exact finishFail_tables h
  · exact .ite (finishFail_tables h) (.ite (modeFromOff_tables h) (modWork_tables (modRegion_tables h)))

theorem commitWritten_tables {k r} (h : TablesSound s) : TablesSound (commitWritten k r s) := modWork_tables (modRegion_tables h)

theorem doRegionCommit_tables {k} (h : TablesSound s) : TablesSound (doRegionCommit k s) := by
  unfold doRegionCommit
  extract_lets -underBinder +onlyGivenNames d
  split
  · exact finishFail_tables h
  · refine .ite (modWork_tables h) ?_
    split
    · exact finishFail_tables h
    · exact commitWritten_tables (writeCommit_tables h)

theorem replaceUnits_tables {i l p} (h : TablesSound s) : TablesSound (replaceUnits i l p s) := by
  unfold replaceUnits
  exact .ite h (modUnit_tables (modUnit_tables h))

theorem transferIsland_tables {b p i} (h : TablesSound s) : TablesSound (transferIsland b p i s) := by
  unfold transferIsland
  exact .ite (modIsland_tables h) (replaceUnits_tables (modIsland_tables (modIsland_tables h)))

theorem applyMode_tables {r q} (h : TablesSound s) : TablesSound (applyMode r q s) :=
    .ite (modeFromOff_tables h) (.ite (finishFail_tables h) (.ite (finishOk_tables (stopRegion_tables (modRegion_tables
      (raiseMode_tables h)))) (finishOk_tables (changePhase_tables (raiseMode_tables h)))))

theorem doPairSwap_tables {k} (h : TablesSound s) : TablesSound (doPairSwap k s) := by
  unfold doPairSwap
  extract_lets -underBinder +onlyGivenNames l left
  exact .ite (finishFail_tables h) (.ite (finishOk_tables h) (applying_tables (.forList (fun _ _ => modRegion_tables) h)))

theorem recordSwap_tables {r k} (h : TablesSound s) : TablesSound (recordSwap r k s) := by
  unfold recordSwap
  split
  · exact h
  · exact modRings_tables (write_tables (markOvertaken_tables h))

theorem applySwap_tables {r k} (h : TablesSound s) : TablesSound (applySwap r k s) :=
    .ite (failSwap_tables h) (endSwap_tables (.ite (recordSwap_tables (modPairRegion_tables h)) h))

theorem failover_tables {r} (h : TablesSound s) : TablesSound (failover r s) := by
  unfold failover
  exact .ite (raise_tables (modPairRegion_tables h)) h

theorem boundaryCopies_tables {r n} (h : TablesSound s) : TablesSound (boundaryCopies r n s) := by
  unfold boundaryCopies
  refine .ite h ?_
  extract_lets -underBinder +onlyGivenNames p got miss good s₂ s₃
  have hs₂ : TablesSound s₂ := modPairRegion_tables h
  have hs₃ : TablesSound s₃ := by
    unfold s₃
    split
    · exact hs₂
    · exact modPairRegion_tables (commitFrame_tables hs₂)
  exact .ite (.ite (modRegion_tables hs₃) (unstand_tables (modRegion_tables hs₃))) hs₃

theorem transferDiscrete_tables {r} (h : TablesSound s) : TablesSound (transferDiscrete r s) := by
  unfold transferDiscrete
  extract_lets -underBinder +onlyGivenNames g s₂
  have hs₂ : TablesSound s₂ := by
    unfold s₂
    split
    · exact h
    · exact .of_eq h rfl
  exact modRegion_tables hs₂

theorem startDue_tables {r e} (h : TablesSound s) : TablesSound (startDue r e s) := by
  unfold startDue
  refine .ite (doRegionMode_tables h) ?_
  refine .ite (doPairSwap_tables h) ?_
  split
  · exact finishFail_tables h
  · exact commitWritten_tables (.forList (fun _ _ => writeEntry_tables) h)

theorem atBoundary_tables {r n commits modes e} (h : TablesSound s) : TablesSound (atBoundary r n commits modes e s) := by
  unfold atBoundary
  refine .ite (finishHeld_tables h) ?_
  refine .ite (applySwap_tables h) ?_
  split
  · exact applyMode_tables h
  · exact h

theorem boundary_tables {r t} (h : TablesSound s) : TablesSound (boundary r t s) := by
  unfold boundary
  extract_lets -underBinder +onlyGivenNames s₂ n p s₃ s₄ commits modes l s₅ s₆
  have hs₂ : TablesSound s₂ := .forList (fun _ _ => startDue_tables) h
  have hs₃ : TablesSound s₃ := .forList (fun _ _ => transferIsland_tables) hs₂
  have hs₄ : TablesSound s₄ := transferDiscrete_tables hs₃
  have hs₅ : TablesSound s₅ := modRegion_tables hs₄
  have hs₆ : TablesSound s₆ := .forList (fun _ _ => atBoundary_tables) (failover_tables (boundaryCopies_tables hs₅))
  exact .ite (stopRegion_tables hs₆) hs₆

theorem countTrip_tables {r n} (h : TablesSound s) : TablesSound (countTrip r n s) := by
  unfold countTrip
  extract_lets -underBinder +onlyGivenNames g counting cnt reached s₂
  have hs₂ : TablesSound s₂ := modRegion_tables h
  exact .ite (raise_tables hs₂) hs₂

theorem tripRegion_tables {n r} (h : TablesSound s) : TablesSound (tripRegion n r s) := by
  unfold tripRegion
  extract_lets -underBinder +onlyGivenNames us
  exact .ite h (countTrip_tables (.ite (raise_tables (.forList (fun _ _ => modUnit_tables) h)) (modRegion_tables (.ite (.forList
    (fun _ _ => modUnit_tables) h) (raise_tables (.forList (fun _ _ => modUnit_tables) h))))))

theorem wrapRelease_tables {u} (h : TablesSound s) : TablesSound (wrapRelease u s) := by
  unfold wrapRelease
  extract_lets -underBinder +onlyGivenNames x cyc still testing s₂
  have hs₂ : TablesSound s₂ := modUnit_tables h
  exact modUnit_tables hs₂

theorem endHeld_tables {u} (h : TablesSound s) : TablesSound (endHeld u s) := .ite (dropCommand_tables h) h

theorem wrapPeriod_tables {i p} (h : TablesSound s) : TablesSound (wrapPeriod i p s) := by
  unfold wrapPeriod
  extract_lets -underBinder +onlyGivenNames x w h₂ l c mid wH wL sH sL ends heldH heldL eH eL s₂ s₃
  have hs₂ : TablesSound s₂ := modUnit_tables h
  have hs₃ : TablesSound s₃ := modUnit_tables hs₂
  exact modIsland_tables hs₃

theorem recountTrips_tables {r i} (h : TablesSound s) : TablesSound (recountTrips r i s) :=
    .forAll (fun _ _ ht => .ite (countTrip_tables ht) ht) h

theorem wrap_tables {i r} (h : TablesSound s) : TablesSound (wrap i r s) := by
  unfold wrap
  extract_lets -underBinder +onlyGivenNames s₂ s₃ s₄ s₅ s₆
  have hs₂ : TablesSound s₂ := dropTrips_tables h
  have hs₃ : TablesSound s₃ := endHeld_tables (endHeld_tables hs₂)
  have hs₄ : TablesSound s₄ := modIsland_tables hs₃
  have hs₅ : TablesSound s₅ := wrapRelease_tables (wrapRelease_tables hs₄)
  have hs₆ : TablesSound s₆ := recountTrips_tables hs₅
  exact wrapPeriod_tables hs₆

theorem commandUnit_tables {u on} (h : TablesSound s) : TablesSound (commandUnit u on s) := modUnit_tables h

theorem resumeFrames_tables {r} (h : TablesSound s) : TablesSound (resumeFrames r s) := by
  unfold resumeFrames
  extract_lets -underBinder +onlyGivenNames g t
  have ht : TablesSound t := modRegion_tables h
  exact .ite ht (.ite (.ite ht (raise_tables ht)) (unstand_tables ht))

/-! ## Adc -/

theorem overrun_tables {b} (h : TablesSound s) : TablesSound (overrun b s) := by
  unfold overrun
  exact .ite (modBank_tables h) (raise_tables (modBank_tables h))

theorem dropTrigger_tables {b src} (h : TablesSound s) : TablesSound (dropTrigger b src s) := by
  unfold dropTrigger
  split
  · exact renumber_tables (overrun_tables h)
  · exact overrun_tables h

theorem injOverrun_tables {b} (h : TablesSound s) : TablesSound (injOverrun b s) := by
  unfold injOverrun
  exact .ite (modBank_tables h) (raise_tables (modBank_tables h))

theorem bankTrigger_tables {b delay src} (h : TablesSound s) : TablesSound (bankTrigger b delay src s) :=
    .ite (dropTrigger_tables h) (modBank_tables h)

theorem pairSample_tables {x} (h : TablesSound s) : TablesSound (pairSample x s) :=
    .ite (.ite (modRegion_tables (pairSend_tables h)) (modRegion_tables h)) h

theorem regionTrigger_tables {r} (h : TablesSound s) : TablesSound (regionTrigger r s) := by
  unfold regionTrigger
  extract_lets -underBinder +onlyGivenNames n s₂ s₃
  have hs₂ : TablesSound s₂ := modRegion_tables h
  have hs₃ : TablesSound s₃ := .ite hs₂ (.forAll (fun _ _ ht => .ite (bankTrigger_tables (.ite (modBank_tables ht) ht)) (.ite
    (modBank_tables ht) ht)) hs₂)
  exact .ite (mrSend_tables (pairSample_tables hs₃)) hs₃

theorem openWire_tables {c code} (h : TablesSound s) : TablesSound (openWire c code s) := by
  unfold openWire
  extract_lets -underBinder +onlyGivenNames b j w n mode x rev v suspect seen flag up down turn s₂
  have hs₂ : TablesSound s₂ := modChan_tables h
  exact .ite (raise_tables (modBank_tables hs₂)) (.ite (raise_tables (modBank_tables hs₂)) hs₂)

theorem openWires_tables {b m codes} (h : TablesSound s) : TablesSound (openWires b m codes s) :=
    .forList (fun _ _ => openWire_tables) h

theorem enqueue_tables {b e} (h : TablesSound s) : TablesSound (enqueue b e s) :=
    .ite (.ite (modBank_tables h) (raise_tables (modBank_tables h))) (.ite (raise_tables (modBank_tables (modBank_tables h)))
      (modBank_tables h))

theorem enqueueSet_tables {b m ow codes ovr stamp} (h : TablesSound s) : TablesSound (enqueueSet b m ow codes ovr stamp s) :=
    .forList (fun _ _ ht => .ite (enqueue_tables ht) ht) h

theorem readQdata_tables {b} (h : TablesSound s) : TablesSound (readQdata b s) := by
  unfold readQdata
  split
  · exact readAs_tables h
  · exact readAs_tables (modBank_tables h)

theorem injLost_tables {b} (h : TablesSound s) : TablesSound (injLost b s) := by
  unfold injLost
  split
  · exact h
  · exact raise_tables (enqueueSet_tables (modBank_tables h))

theorem preempt_tables {b m} (h : TablesSound s) : TablesSound (preempt b m s) := by
  unfold preempt
  split
  · exact h
  · exact .ite h (.ite (modBank_tables h) (.ite (injLost_tables h) (modBank_tables h)))

theorem sample_tables {b d latched uv} (h : TablesSound s) : TablesSound (sample b d latched uv s) := by
  unfold sample
  exact preempt_tables (modBank_tables h)

theorem flushPacked_tables {b} (h : TablesSound s) : TablesSound (flushPacked b s) := by
  unfold flushPacked
  exact .ite h (modBank_tables (mrSend_tables h))

theorem sendSet_tables {x} (h : TablesSound s) : TablesSound (sendSet x s) := by
  unfold sendSet
  extract_lets -underBinder +onlyGivenNames s₂
  have hs₂ : TablesSound s₂ := pairSample_tables h
  exact .ite (mrSend_tables (flushPacked_tables hs₂)) (.ite (flushPacked_tables (modBank_tables hs₂)) (modBank_tables hs₂))

theorem setComplete_tables {b} (h : TablesSound s) : TablesSound (setComplete b s) := by
  unfold setComplete
  split
  · exact h
  · extract_lets -underBinder +onlyGivenNames s₂ ow s₃ cs s₄ s₅ release
    have hs₂ : TablesSound s₂ := openWires_tables h
    have hs₃ : TablesSound s₃ := enqueueSet_tables hs₂
    have hs₄ : TablesSound s₄ := .forList (fun _ _ ht => .forList (fun _ _ => chainInput_tables) ht) hs₃
    have hs₅ : TablesSound s₅ := .forList (fun _ _ => trgInput_tables) hs₄
    exact sendSet_tables (modBank_tables hs₅)

theorem setsComplete_tables {b} (h : TablesSound s) : TablesSound (setsComplete b s) :=
    setComplete_tables (.forAll (fun _ _ ht => .ite (setComplete_tables ht) ht) h)

theorem samplingInstant_tables {b uv} (h : TablesSound s) : TablesSound (samplingInstant b uv s) := by
  unfold samplingInstant
  extract_lets -underBinder +onlyGivenNames s₂ x
  have hs₂ : TablesSound s₂ := .ite (setsComplete_tables h) h
  split
  · exact sample_tables (modBank_tables hs₂)
  · exact .ite (sample_tables (modBank_tables hs₂)) hs₂
  · exact .ite (modBank_tables hs₂) hs₂
  · exact .ite (dropTrigger_tables (modBank_tables hs₂)) hs₂
  · exact hs₂

theorem writeInjSw_tables {b v} (h : TablesSound s) : TablesSound (writeInjSw b v s) := .ite (modBank_tables h) h

theorem injSample_tables {b d latched uv} (h : TablesSound s) : TablesSound (injSample b d latched uv s) := by
  unfold injSample
  exact modBank_tables h

theorem injSamplingInstant_tables {b uv} (h : TablesSound s) : TablesSound (injSamplingInstant b uv s) := by
  unfold injSamplingInstant
  extract_lets -underBinder +onlyGivenNames x
  split
  · exact injSample_tables (modBank_tables h)
  · exact .ite (injSample_tables (modBank_tables h)) h
  · exact .ite (modBank_tables h) h
  · exact .ite (injOverrun_tables (modBank_tables h)) h
  · exact h

theorem injComplete_tables {b c} (h : TablesSound s) : TablesSound (injComplete b c s) := by
  unfold injComplete
  extract_lets -underBinder +onlyGivenNames s₂ ow n s₃
  have hs₂ : TablesSound s₂ := openWires_tables h
  have hs₃ : TablesSound s₃ := enqueueSet_tables hs₂
  exact sendSet_tables (modBank_tables (.ite hs₃ (renumber_tables hs₃)))

theorem sliceFailed_tables {b} (h : TablesSound s) : TablesSound (sliceFailed b s) := by
  unfold sliceFailed
  extract_lets -underBinder +onlyGivenNames x j s₂
  have hs₂ : TablesSound s₂ := modBank_tables h
  exact .ite hs₂ (.ite (stand_tables (raise_tables (modBank_tables hs₂))) (raise_tables hs₂))

theorem setWindow_tables {c on} (h : TablesSound s) : TablesSound (setWindow c on s) := by
  unfold setWindow
  exact modBank_tables h

theorem assertWindow_tables {ch} (h : TablesSound s) : TablesSound (assertWindow ch s) := by
  unfold assertWindow
  exact .ite (modChan_tables (raise_tables (setWindow_tables h))) (setWindow_tables h)

theorem standWindow_tables {ch} (h : TablesSound s) : TablesSound (standWindow ch s) := by
  unfold standWindow
  extract_lets -underBinder +onlyGivenNames w
  split
  · exact .ite (setWindow_tables h) h
  · exact .ite (assertWindow_tables h) h
  · exact h

theorem writeWinst_tables {b v} (h : TablesSound s) : TablesSound (writeWinst b v s) := modBank_tables h

/-! ## Cq -/

theorem writeCq_tables {m i l urgent} (h : TablesSound s) : TablesSound (writeCq m i l urgent s) := by
  unfold writeCq
  exact hostWrite_tables (modCq_tables (hostWrite_tables h))

theorem markStopped_tables {q} (h : TablesSound s) : TablesSound (markStopped q s) := modSq_tables h

/-! ## Time -/

theorem loseLock_tables (h : TablesSound s) : TablesSound (loseLock s) := by
  unfold loseLock
  exact .ite (raise_tables (modTime_tables h)) (modTime_tables h)

theorem judgeLock_tables {step} (h : TablesSound s) : TablesSound (judgeLock step s) :=
    .ite (loseLock_tables h) (.ite (raise_tables (modTime_tables (modTime_tables h))) (modTime_tables h))

theorem setTime_tables {p} (h : TablesSound s) : TablesSound (setTime p s) := modTime_tables h

theorem syncTime_tables (h : TablesSound s) : TablesSound (syncTime s) := modTime_tables h

theorem markJumped_tables {was} (h : TablesSound s) : TablesSound (markJumped was s) := modRings_tables h

theorem doTimeAdjust_tables {k} (h : TablesSound s) : TablesSound (doTimeAdjust k s) := by
  unfold doTimeAdjust
  extract_lets -underBinder +onlyGivenNames d step rho f stepV rateV force
  exact .ite (finishFail_tables h) (.ite (finishFail_tables h) (.ite (raise_tables (finishFail_tables (modTime_tables h)))
    (finishOk_tables (.ite (raise_tables (loseLock_tables (.ite (markJumped_tables (syncTime_tables (setTime_tables (.ite
    (loseLock_tables h) h)))) (syncTime_tables (setTime_tables (.ite (loseLock_tables h) h)))))) (judgeLock_tables (.ite
    (markJumped_tables (syncTime_tables (setTime_tables (.ite (loseLock_tables h) h)))) (syncTime_tables (setTime_tables (.ite
    (loseLock_tables h) h)))))))))

theorem timeRestart_tables (h : TablesSound s) : TablesSound (timeRestart s) := by
  unfold timeRestart
  extract_lets -underBinder +onlyGivenNames n out b s₂ s₃
  have hs₂ : TablesSound s₂ := modTime_tables h
  have hs₃ : TablesSound s₃ := .ite (syncTime_tables hs₂) hs₂
  exact raise_tables (loseLock_tables hs₃)

theorem readTimeNow_tables (h : TablesSound s) : TablesSound (readTimeNow s) := readAs_tables (modTime_tables h)

theorem readAoTime_tables (h : TablesSound s) : TablesSound (readAoTime s) := readAs_tables (modTime_tables h)

theorem writeTimeStatus_tables {v} (h : TablesSound s) : TablesSound (writeTimeStatus v s) := modTime_tables h

/-! ## Net -/

theorem queueFrame_tables {ports rct f} (h : TablesSound s) : TablesSound (queueFrame ports rct f s) := by
  unfold queueFrame
  exact .forList (fun _ _ => modPort_tables) (.ite (modNet_tables h) h)

theorem doNetTx_tables {k} (h : TablesSound s) : TablesSound (doNetTx k s) := by
  unfold doNetTx
  extract_lets -underBinder +onlyGivenNames d l ports
  split
  · exact finishFail_tables h
  · extract_lets -underBinder +onlyGivenNames asn rct
    refine .ite (applying_tables (queueFrame_tables h)) ?_
    split
    · exact h
    · exact applying_tables (queueFrame_tables (modNet_tables h))

theorem runNetTx_tables {k} (h : TablesSound s) : TablesSound (runNetTx k s) := by
  unfold runNetTx
  extract_lets -underBinder +onlyGivenNames d
  split
  · exact finishFail_tables h
  · exact .ite (fetchData_tables h) (.ite (finishFail_tables h) (.ite (doNetTx_tables h) h))

theorem txDone_tables {f p took} (h : TablesSound s) : TablesSound (txDone f p took s) := by
  unfold txDone
  split
  · exact h
  · exact .ite (modNet_tables h) (finish_tables (modNet_tables h))

theorem portBoundary_tables {p} (h : TablesSound s) : TablesSound (portBoundary p s) := by
  unfold portBoundary
  extract_lets -underBinder +onlyGivenNames q s₂
  have hs₂ : TablesSound s₂ := .ite (modPort_tables h) h
  split
  · exact modPort_tables hs₂
  · exact txDone_tables (modPort_tables hs₂)
  · exact hs₂

theorem payTag_tables {t} (h : TablesSound s) : TablesSound (payTag t s) := modNet_tables h

theorem queueStamp_tables {e} (h : TablesSound s) : TablesSound (queueStamp e s) := by
  unfold queueStamp
  extract_lets -underBinder +onlyGivenNames s₂
  have hs₂ : TablesSound s₂ := payTag_tables h
  exact .ite (.ite (modNet_tables hs₂) (raise_tables (modNet_tables hs₂))) (modNet_tables hs₂)

theorem txTimestamp_tables {p f} (h : TablesSound s) : TablesSound (txTimestamp p f s) := by
  unfold txTimestamp
  extract_lets -underBinder +onlyGivenNames t bytes s₂
  have hs₂ : TablesSound s₂ := modPort_tables h
  split
  · exact hs₂
  · exact queueStamp_tables hs₂

theorem readTxq_tables (h : TablesSound s) : TablesSound (readTxq s) := by
  unfold readTxq
  split
  · exact readAs_tables (modNet_tables h)
  · exact readAs_tables (modNet_tables h)

theorem deliverOne_tables {e} (h : TablesSound s) : TablesSound (deliverOne e s) :=
    .ite (finish_tables (hostWrite_tables h)) (modNet_tables h)

theorem deliverHeld_tables (h : TablesSound s) : TablesSound (deliverHeld s) :=
    .forList (fun _ _ => deliverOne_tables) (modNet_tables h)

theorem doNetRxPost_tables {k} (h : TablesSound s) : TablesSound (doNetRxPost k s) := by
  unfold doNetRxPost
  extract_lets -underBinder +onlyGivenNames d n
  exact .ite (finishFail_tables h) (.ite (finishFail_tables h) (.ite (finishFail_tables h) (modWork_tables (modNet_tables h))))

theorem hostFrame_tables {p rct l} (h : TablesSound s) : TablesSound (hostFrame p rct l s) := by
  unfold hostFrame
  split
  · exact .ite (modNet_tables h) (raise_tables (modNet_tables h))
  · exact deliverOne_tables (modNet_tables h)

theorem prpCopy_tables {src seq} (h : TablesSound s) : TablesSound (prpCopy src seq s).2 := by
  unfold prpCopy
  split
  · exact .of_eq h rfl
  · exact .iteSnd (.of_eq h rfl) (.iteSnd h (raise_tables (modNet_tables h)))

theorem touchNode_tables {src} (h : TablesSound s) : TablesSound (touchNode src s) := modNet_tables h

theorem wrongLan_tables {p} (h : TablesSound s) : TablesSound (wrongLan p s) := by
  unfold wrongLan
  exact .ite (modNet_tables (raise_tables (modPort_tables h))) (modPort_tables h)

theorem pairFrame_tables {l} (h : TablesSound s) : TablesSound (pairFrame l s) :=
    .ite (.ite (modNet_tables (raise_tables (modNet_tables h))) (modNet_tables h)) (.ite (modPair_tables h) (.ite (staleCopy_tables
      (modPair_tables h)) (modPair_tables h)))

theorem deliverFrame_tables {p rct l} (h : TablesSound s) : TablesSound (deliverFrame p rct l s) :=
    .ite (pairFrame_tables h) (.ite (.ite (hostFrame_tables h) h) (hostFrame_tables h))

theorem frameReceive_tables {p l fcsOk} (h : TablesSound s) : TablesSound (frameReceive p l fcsOk s) := by
  unfold frameReceive
  refine .ite (modPort_tables h) ?_
  extract_lets -underBinder +onlyGivenNames s₂
  have hs₂ : TablesSound s₂ := modPort_tables h
  refine .ite (modPort_tables hs₂) ?_
  extract_lets -underBinder +onlyGivenNames s₃
  have hs₃ : TablesSound s₃ := touchNode_tables hs₂
  split
  · exact deliverFrame_tables hs₃
  · extract_lets -underBinder +onlyGivenNames s₄ q
    have hs₄ : TablesSound s₄ := .ite hs₃ (wrongLan_tables hs₃)
    have hq : TablesSound q.2 := .iteSnd hs₄ (prpCopy_tables hs₄)
    exact .ite (deliverFrame_tables hq) hq

theorem dropFrames_tables {p} (h : TablesSound s) : TablesSound (dropFrames p s) := by
  unfold dropFrames
  exact .forList (fun _ _ => txDone_tables) (.forList (fun _ _ => payTag_tables) (modPort_tables h))

/-! ## Island -/

theorem startStrengths_tables {u} (h : TablesSound s) : TablesSound (startStrengths u s) := by
  unfold startStrengths
  exact modUnit_tables h

theorem softTurnOff_tables {u desat} (h : TablesSound s) : TablesSound (softTurnOff u desat s) := by
  unfold softTurnOff
  exact modUnit_tables h

theorem uvloSeen_tables {u} (h : TablesSound s) : TablesSound (uvloSeen u s) := stand_tables (raiseFull_tables h)

theorem uvloFound_tables {u} (h : TablesSound s) : TablesSound (uvloFound u s) := .ite (unstand_tables h) (.ite h (uvloSeen_tables h))

theorem evaluate_tables {i} (h : TablesSound s) : TablesSound (evaluate i s) := by
  unfold evaluate
  exact uvloFound_tables (uvloFound_tables (unstand_tables (modIsland_tables h)))

theorem linkLost_tables {i atIsland} (h : TablesSound s) : TablesSound (linkLost i atIsland s) := by
  unfold linkLost
  exact .ite (stand_tables (raiseFull_tables (modIsland_tables h))) (modIsland_tables h)

theorem adapt_tables {u on t} (h : TablesSound s) : TablesSound (adapt u on t s) := by
  unfold adapt
  extract_lets -underBinder +onlyGivenNames tgt lim x cur d new moved n done report s₂
  have hs₂ : TablesSound s₂ := modUnit_tables h
  exact .ite (raise_tables hs₂) hs₂

theorem desaturate_tables {u} (h : TablesSound s) : TablesSound (desaturate u s) := by
  unfold desaturate
  exact .ite (raiseFull_tables (modUnit_tables (softTurnOff_tables h))) (modUnit_tables (softTurnOff_tables h))

theorem writeIslTest_tables {i v} (h : TablesSound s) : TablesSound (writeIslTest i v s) :=
    .ite h (.forList (fun _ _ => modUnit_tables) (modIsland_tables h))

theorem tempStep_tables {k d now limit reported} (h : TablesSound s) : TablesSound (tempStep k d now limit reported s).2 := by
  unfold tempStep
  exact .ite (stand_tables (.ite h (raise_tables h))) (unstand_tables h)

theorem startIsland_tables {i} (h : TablesSound s) : TablesSound (startIsland i s) := by
  unfold startIsland
  exact startStrengths_tables (startStrengths_tables (modIsland_tables h))

theorem writeIslCtrl_tables {i v} (h : TablesSound s) : TablesSound (writeIslCtrl i v s) := .ite h (modIsland_tables h)

theorem writeIslStatus_tables {i v} (h : TablesSound s) : TablesSound (writeIslStatus i v s) := modIsland_tables h

/-! ## Cache -/

theorem setResident_tables {c b} (h : TablesSound s) : TablesSound (setResident c b s) := by
  unfold setResident
  exact throughCtx_tables h

theorem evict_tables {c} (h : TablesSound s) : TablesSound (evict c s) :=
    .ite (modLoop_tables (setResident_tables (writeBack_tables h))) h

theorem makeRoom_tables (h : TablesSound s) : TablesSound (makeRoom s) := by
  unfold makeRoom
  refine .ite h ?_
  split
  · exact evict_tables h
  · split
    · exact modRt_tables h
    · exact h

theorem loadEntry_tables {c} (h : TablesSound s) : TablesSound (loadEntry c s) := by
  unfold loadEntry
  exact setResident_tables (modLoop_tables (readMem_tables h))

theorem loadRoom_tables {c} (h : TablesSound s) : TablesSound (loadRoom c s) := by
  unfold loadRoom
  exact .ite (loadEntry_tables (makeRoom_tables h)) (makeRoom_tables h)

theorem readEntry_tables {c} (h : TablesSound s) : TablesSound (readEntry c s) := by
  unfold readEntry
  split
  · exact h
  · extract_lets -underBinder +onlyGivenNames p ok s₂
    have hp : TablesSound p.2 := fresh_tables h
    have hs₂ : TablesSound s₂ := captureError_tables hp
    exact .ite (raise_tables (modLoop_tables hs₂)) (raise_tables (modRt_tables (modLoop_tables (setResident_tables hs₂))))

theorem issuePrefetch_tables {c} (h : TablesSound s) : TablesSound (issuePrefetch c s) := by
  unfold issuePrefetch
  exact .ite (modRt_tables (.ite (modArb_tables h) h)) h

/-! ## Signal -/

theorem setRamp_tables {c k r} (h : TablesSound s) : TablesSound (setRamp c k r s) := setSw_tables (setSw_tables (setSw_tables h))

/-! ## Vsm -/

theorem setpoint_tables {c ins k kT slot word e} (h : TablesSound s) : TablesSound (setpoint c ins k kT slot word e s).2 := by
  unfold setpoint
  extract_lets -underBinder +onlyGivenNames goal target r rt r₂ q s₂
  have hs₂ : TablesSound s₂ := modRt_tables h
  exact setRamp_tables hs₂

theorem putVsm_tables {c v} (h : TablesSound s) : TablesSound (putVsm c v s) := by
  unfold putVsm
  exact modRt_tables (setRamp_tables (setRamp_tables (setRamp_tables (.forList (fun _ _ => setSw_tables) h))))

theorem reportShed_tables {c level} (h : TablesSound s) : TablesSound (reportShed c level s) := by
  unfold reportShed
  exact .ite h (raise_tables (modRt_tables h))

theorem transition_tables {c m ins} (h : TablesSound s) : TablesSound (transition c m ins s) := by
  unfold transition
  exact setOutVal_tables (reportShed_tables (.ite (raiseFull_tables (putVsm_tables h)) (putVsm_tables h)))

theorem vsmRun_tables {c n ins} (h : TablesSound s) : TablesSound (vsmRun c n ins s).s := by
  unfold vsmRun
  extract_lets -underBinder +onlyGivenNames i req k sp s₂ v0 done v o v₂ r u permit factor level s₃ s₄ s₅ s₆ status s₇
  have hsp : TablesSound sp.2 := setpoint_tables h
  have hs₂ : TablesSound s₂ := hsp
  have hs₃ : TablesSound s₃ := putVsm_tables hs₂
  have hs₄ : TablesSound s₄ := modRt_tables hs₃
  have hs₅ : TablesSound s₅ := .ite (raise_tables hs₄) hs₄
  have hs₆ : TablesSound s₆ := reportShed_tables hs₅
  have hs₇ : TablesSound s₇ := by
    unfold s₇
    split
    · exact transition_tables hs₆
    · exact hs₆
  exact hs₇

/-! ## Forming -/

theorem droopRun_tables {c ins} (h : TablesSound s) : TablesSound (droopRun c ins s).s := by
  unfold droopRun
  extract_lets -underBinder +onlyGivenNames a b s₂ qf dq term out d qn
  have ha : TablesSound a.2 := setpoint_tables h
  have hb : TablesSound b.2 := setpoint_tables ha
  have hs₂ : TablesSound s₂ := hb
  exact modRt_tables (setSw_tables hs₂)

theorem putAdapt_tables {c r} (h : TablesSound s) : TablesSound (putAdapt c r s) := modRt_tables h

theorem impedanceRun_tables {c ins} (h : TablesSound s) : TablesSound (impedanceRun c ins s).s := by
  unfold impedanceRun
  extract_lets -underBinder +onlyGivenNames i th w rp rDrop rpDrop xDrop block last on tr cz dz a b a₂ b₂ z oa ob oz
  exact putAdapt_tables (setSw_tables h)

theorem overloadStep_tables {c above} (h : TablesSound s) : TablesSound (overloadStep c above s) := by
  unfold overloadStep
  extract_lets -underBinder +onlyGivenNames t t₂ s₂
  have hs₂ : TablesSound s₂ := setSw_tables (modRt_tables h)
  exact .ite (setSw_tables (modRt_tables hs₂)) (.ite (setSw_tables hs₂) hs₂)

theorem envelopeRun_tables {c ins} (h : TablesSound s) : TablesSound (envelopeRun c ins s).s := by
  unfold envelopeRun
  extract_lets -underBinder +onlyGivenNames i imag mag stage1 r above s₂ folding lims ilim inlim p ref iN big s1 s2 k scale open_
    status o
  have hs₂ : TablesSound s₂ := overloadStep_tables h
  exact modRt_tables (setSw_tables (setSw_tables hs₂))

theorem synchroniserRun_tables {c n ins} (h : TablesSound s) : TablesSound (synchroniserRun c n ins s).s := by
  unfold synchroniserRun
  extract_lets -underBinder +onlyGivenNames i dth lim ws met s₂ s₃
  have hs₂ : TablesSound s₂ := setSw_tables h
  have hs₃ : TablesSound s₃ := modRt_tables hs₂
  exact hs₃

theorem putSeqr_tables {c fb q} (h : TablesSound s) : TablesSound (putSeqr c fb q s) := by
  unfold putSeqr
  extract_lets -underBinder +onlyGivenNames m s₂ s₃ s₄ s₅ s₆
  have hs₂ : TablesSound s₂ := .forList (fun _ _ => setSw_tables) h
  have hs₃ : TablesSound s₃ := modRt_tables hs₂
  have hs₄ : TablesSound s₄ := .ite (stand_tables hs₃) (settleBusFb_tables hs₃)
  have hs₅ : TablesSound s₅ := .ite (throughCtx_tables hs₄) hs₄
  have hs₆ : TablesSound s₆ := .forList (fun _ _ => raise_tables) hs₅
  exact .forList (fun _ _ => setOutVal_tables) hs₆

theorem applyWrite_tables {c off data} (h : TablesSound s) : TablesSound (applyWrite c off data s) := by
  unfold applyWrite
  extract_lets -underBinder +onlyGivenNames set before hits s₂ moved
  have hs₂ : TablesSound s₂ := throughCtx_tables h
  exact modRt_tables hs₂

theorem completeKept_tables {c} (h : TablesSound s) : TablesSound (completeKept c s) := by
  unfold completeKept
  exact .forList (fun _ _ ht => finishOk_tables (applyWrite_tables ht)) (modRt_tables h)

theorem sequencerRun_tables {c n ins} (h : TablesSound s) : TablesSound (sequencerRun c n ins s).s := by
  unfold sequencerRun
  extract_lets y x u q
  have hu : TablesSound u := .ite (completeKept_tables h) h
  clear_value q u
  exact putSeqr_tables hu

theorem tableRun_tables {c n ins} (h : TablesSound s) : TablesSound (tableRun c n ins s).s := by
  unfold tableRun
  extract_lets -underBinder +onlyGivenNames x pts y y₂ d last y₃
  exact setSw_tables h

theorem setWords_tables {c f k} (h : TablesSound s) : TablesSound (setWords c f k s) := .foldl (fun _ _ => setSw_tables) h

theorem freeSetpoints_tables {c t k ins} (h : TablesSound s) : TablesSound (freeSetpoints c t k ins s) :=
    .foldl (fun _ _ => setpoint_tables) h

theorem freeRun_tables {c n ins keep} (h : TablesSound s) : TablesSound (freeRun c n ins keep s).s := by
  unfold freeRun
  exact freeSetpoints_tables (.ite h (setWords_tables h))

theorem separatorRun_tables {c n ins} (h : TablesSound s) : TablesSound (separatorRun c n ins s).s := by
  unfold separatorRun
  extract_lets -underBinder +onlyGivenNames r k o z a b
  have hr : TablesSound r.s := freeRun_tables h
  exact hr

theorem meterRun_tables {c n ins} (h : TablesSound s) : TablesSound (meterRun c n ins s).s := by
  unfold meterRun
  extract_lets -underBinder +onlyGivenNames vs x v i pw sq add count t m ends u u₂ sat
  have hu : TablesSound u := setSw_tables (setWords_tables h)
  have hu₂ : TablesSound u₂ := setSw_tables hu
  clear_value u₂
  exact .iteRun hu₂ hu₂

theorem voltageRun_tables {c n ins} (h : TablesSound s) : TablesSound (voltageRun c n ins s).s := by
  unfold voltageRun
  extract_lets -underBinder +onlyGivenNames i step th u inj a b ins₂ r block
  have hr : TablesSound r.s := freeRun_tables h
  exact modRt_tables (setSw_tables hr)

theorem harmonicRun_tables {c n ins} (h : TablesSound s) : TablesSound (harmonicRun c n ins s).s := by
  unfold harmonicRun
  extract_lets r block
  have hr : TablesSound r.s := freeRun_tables h
  exact modRt_tables hr

theorem legRun_tables {c n ins} (h : TablesSound s) : TablesSound (legRun c n ins s).s := by
  unfold legRun
  extract_lets -underBinder +onlyGivenNames duties
  refine .iteRun h ?_
  extract_lets -underBinder +onlyGivenNames r
  have hr : TablesSound r.s := freeRun_tables h
  split
  · exact hr
  · exact modRt_tables hr

theorem beginPoint_tables {c i n} (h : TablesSound s) : TablesSound (beginPoint c i n s) := by
  unfold beginPoint
  exact setSw_tables (modRt_tables h)

theorem watchRun_tables {c n ins} (h : TablesSound s) : TablesSound (watchRun c n ins s).s := by
  unfold watchRun
  exact .iteRun (modRt_tables h) (.iteRun (.foldl (fun _ _ => setSw_tables) h) h)

/-! ## Microcode -/

theorem writeUcode_tables {v} (h : TablesSound s) : TablesSound (writeUcode v s) :=
    .ite (.ite h (rwsWritten_tables h)) (modLoop_tables h)

theorem writeUcodeCtrl_tables {v} (h : TablesSound s) : TablesSound (writeUcodeCtrl v s) :=
    .ite h (.ite (rwsWritten_tables h) (modLoop_tables h))

theorem verifyDone_tables (h : TablesSound s) : TablesSound (verifyDone s) := by
  unfold verifyDone
  exact .ite (write_tables (modLoop_tables h)) (raise_tables (write_tables (modLoop_tables h)))

theorem ucodeRun_tables {c ins} (h : TablesSound s) : TablesSound (ucodeRun c ins s).s := by
  unfold ucodeRun
  extract_lets -underBinder +onlyGivenNames m e u t t₂
  have ht : TablesSound t := .forList (fun _ _ => setSw_tables) h
  have ht₂ : TablesSound t₂ := .forList (fun _ _ => raise_tables) ht
  exact ht₂

theorem templateRun_tables {c n ins} (h : TablesSound s) : TablesSound (templateRun c n ins s).s := by
  unfold templateRun
  split
  · exact vsmRun_tables h
  · exact droopRun_tables h
  · exact voltageRun_tables h
  · exact legRun_tables h
  · exact impedanceRun_tables h
  · exact envelopeRun_tables h
  · exact separatorRun_tables h
  · exact harmonicRun_tables h
  · exact synchroniserRun_tables h
  · exact sequencerRun_tables h
  · exact meterRun_tables h
  · exact tableRun_tables h
  · exact watchRun_tables h
  · exact ucodeRun_tables h
  · exact freeRun_tables h
  · exact freeRun_tables h
  · exact freeRun_tables h
  · exact freeRun_tables h
  · exact freeRun_tables h
  · exact freeRun_tables h
  · exact h

/-! ## LoopCheck -/

theorem showTbLimit_tables (h : TablesSound s) : TablesSound (showTbLimit s) := modLoop_tables h

theorem storeCost_tables {c} (h : TablesSound s) : TablesSound (storeCost c s) := throughCtx_tables h

/-! ## Probe -/

theorem setPb_tables {c off l} (h : TablesSound s) : TablesSound (setPb c off l s) := throughCtx_tables h

theorem endProbe_tables {c status} (h : TablesSound s) : TablesSound (endProbe c status s) := by
  unfold endProbe
  split
  · exact h
  · exact raise_tables (modProbe_tables (setPb_tables h))

theorem advanceProbe_tables {c} (h : TablesSound s) : TablesSound (advanceProbe c s) := by
  unfold advanceProbe
  split
  · exact h
  · extract_lets -underBinder +onlyGivenNames p delay j on inj
    exact modProbe_tables h

theorem recordProbe_tables {c resp skipped sat} (h : TablesSound s) : TablesSound (recordProbe c resp skipped sat s) := by
  unfold recordProbe
  split
  · exact h
  · extract_lets -underBinder +onlyGivenNames p k cnt due room s₂
    have hs₂ : TablesSound s₂ := .ite (setPb_tables (write_tables h)) h
    exact .ite (endProbe_tables hs₂) (.ite (endProbe_tables hs₂) hs₂)

/-! ## Run -/

theorem readInputs_tables {c} (h : TablesSound s) : TablesSound (readInputs c s).2 := by
  refine .foldlSnd (fun p n hp => ?_) h
  split
  · exact hp
  · exact fresh_tables hp

theorem setLost_tables {c v} (h : TablesSound s) : TablesSound (setLost c v s) := .ite h (throughCtx_tables h)

theorem setOpenLoop_tables {r b} (h : TablesSound s) : TablesSound (setOpenLoop r b s) := modLoop_tables h

theorem closeLoop_tables {d} (h : TablesSound s) : TablesSound (closeLoop d s) :=
    .ite h (.ite (setWords_tables (setCtxState_tables h)) (.ite (modRt_tables (setCtxState_tables h)) (setCtxState_tables h)))

theorem settleHeldFb_tables {k} (h : TablesSound s) : TablesSound (settleHeldFb k s) := .ite h (.ite h (unstand_tables h))

theorem settleLost_tables {c} (h : TablesSound s) : TablesSound (settleLost c s) := by
  unfold settleLost
  extract_lets -underBinder +onlyGivenNames s₂
  have hs₂ : TablesSound s₂ := settleHeldFb_tables h
  split
  · exact hs₂
  · extract_lets -underBinder +onlyGivenNames s₃
    have hs₃ : TablesSound s₃ := .ite hs₂ (unstand_tables hs₂)
    exact .ite (raise_tables (unstand_tables (setOpenLoop_tables (.forList (fun _ _ => closeLoop_tables) hs₃)))) hs₃

theorem holdCtx_tables {c} (h : TablesSound s) : TablesSound (holdCtx c s) := endProbe_tables (setCtxState_tables h)

theorem loseFeedback_tables {c new} (h : TablesSound s) : TablesSound (loseFeedback c new s) := by
  unfold loseFeedback
  extract_lets -underBinder +onlyGivenNames cls src own
  split
  · extract_lets -underBinder +onlyGivenNames current opens other s₂
    have hs₂ : TablesSound s₂ := .ite (stand_tables (raiseFull_tables (setOpenLoop_tables (.forList (fun _ _ ht => .ite
      (setCtxState_tables ht) ht) h)))) h
    exact .ite (.ite (stand_tables (raiseFull_tables hs₂)) (modRt_tables (holdCtx_tables (stand_tables (raiseFull_tables hs₂)))))
      (.ite (stand_tables (raiseFull_tables (holdCtx_tables hs₂))) hs₂)
  · exact .ite h (stand_tables (raise_tables (holdCtx_tables h)))

theorem runDetectors_tables {c vals} (h : TablesSound s) : TablesSound (runDetectors c vals s) := by
  unfold runDetectors
  extract_lets -underBinder +onlyGivenNames p s₂
  have hs₂ : TablesSound s₂ := modRt_tables (setLost_tables h)
  exact settleLost_tables (.ite hs₂ (loseFeedback_tables hs₂))

theorem countRun_tables {c sat} (h : TablesSound s) : TablesSound (countRun c sat s) := by
  unfold countRun
  exact .ite (stepCtx16_tables (throughCtx_tables (stepCtx32_tables h))) (throughCtx_tables (stepCtx32_tables h))

theorem runWith_tables {c vals} (h : TablesSound s) : TablesSound (runWith c vals s) := by
  unfold runWith
  extract_lets -underBinder +onlyGivenNames n ins inj quiet r s₂ s₃
  have hr : TablesSound r.s := .iteRun h (templateRun_tables h)
  have hs₂ : TablesSound s₂ := .forList (fun _ _ => setOutVal_tables) hr
  have hs₃ : TablesSound s₃ := modRt_tables (countRun_tables hs₂)
  exact recordProbe_tables hs₃

theorem skipRun_tables {c} (h : TablesSound s) : TablesSound (skipRun c s) := by
  unfold skipRun
  extract_lets -underBinder +onlyGivenNames first s₂ s₃ s₄ p resp
  have hs₂ : TablesSound s₂ := modLoop_tables (stepCtx16_tables h)
  have hs₃ : TablesSound s₃ := .ite (raise_tables hs₂) hs₂
  have hs₄ : TablesSound s₄ := modRt_tables hs₃
  have hp : TablesSound p.2 := freshN_tables hs₄
  exact recordProbe_tables hp

theorem modLane_tables {k f} (h : TablesSound s) : TablesSound (modLane k f s) := modLoop_tables h

theorem startRun_tables {k c} (h : TablesSound s) : TablesSound (startRun k c s) := by
  unfold startRun
  extract_lets -underBinder +onlyGivenNames s₂
  have hs₂ : TablesSound s₂ := readEntry_tables h
  exact .ite (.ite (loadRoom_tables (modRt_tables (skipRun_tables hs₂))) (modRt_tables (skipRun_tables hs₂))) (.ite (modRt_tables
    (runDetectors_tables (readInputs_tables hs₂))) (modLane_tables (modRt_tables (runDetectors_tables (readInputs_tables hs₂)))))

theorem laneStep_tables {l t} (h : TablesSound s) (ht : laneStep l s = some t) : TablesSound t := by
  unfold laneStep at ht
  extract_lets region first free timebase at ht
  clear_value region first free timebase
  split at ht
  · exact Option.some.inj ht ▸ startRun_tables h
  · split at ht
    · exact Option.some.inj ht ▸ startRun_tables (modLane_tables h)
    · split at ht
      · exact Option.some.inj ht ▸ modLane_tables h
      · obtain ⟨p, -, rfl⟩ := Option.map_eq_some_iff.1 ht
        exact startRun_tables h

theorem dispatchN_tables {n} (h : TablesSound s) : TablesSound (dispatchN n s) := by
  induction n generalizing s with
  | zero => exact h
  | succ n ih =>
    unfold dispatchN
    split
    · rename_i t ht
      exact ih (laneStep_tables h ht)
    · exact h

theorem dispatch_tables (h : TablesSound s) : TablesSound (dispatch s) := .ite (dispatchN_tables h) h

theorem completeRun_tables {c} (h : TablesSound s) : TablesSound (completeRun c s) := by
  unfold completeRun
  exact dispatch_tables (modLoop_tables (modRt_tables (runWith_tables h)))

/-! ## CtxCmd -/

theorem holdWrite_tables {k c r off data} (h : TablesSound s) : TablesSound (holdWrite k c r off data s) := by
  unfold holdWrite
  exact applying_tables (.ite (pairSend_tables (modPair_tables h)) (modPair_tables h))

theorem applyHeld_tables {h0} (h : TablesSound s) : TablesSound (applyHeld h0 s) := by
  unfold applyHeld
  extract_lets -underBinder +onlyGivenNames s₂
  have hs₂ : TablesSound s₂ := applyWrite_tables (modPair_tables h)
  split
  · exact finishOk_tables hs₂
  · exact hs₂

theorem doCtxWrite_tables {k} (h : TablesSound s) : TablesSound (doCtxWrite k s) := by
  unfold doCtxWrite
  extract_lets -underBinder +onlyGivenNames d c off data failed len
  split
  · exact finishFail_tables h
  · refine .ite (finishFail_tables h) ?_
    refine .ite (fetchData_tables h) ?_
    refine .ite (finishFail_tables h) ?_
    extract_lets -underBinder +onlyGivenNames t
    have ht : TablesSound t := applyWrite_tables h
    split
    · exact finishFail_tables h
    · refine .ite (finishFail_tables h) ?_
      extract_lets -underBinder +onlyGivenNames start stage
      refine .ite (modWork_tables (modRt_tables h)) ?_
      refine .ite (finishFail_tables h) ?_
      split
      · exact .ite (holdWrite_tables h) (finishOk_tables ht)
      · exact finishOk_tables ht

theorem applyOrphan_tables {k} (h : TablesSound s) : TablesSound (applyOrphan k s) := by
  unfold applyOrphan
  split
  · split
    · exact .ite h (applyHeld_tables h)
    · exact applyHeld_tables h
  · exact h

theorem doCtxRead_tables {k} (h : TablesSound s) : TablesSound (doCtxRead k s) := by
  unfold doCtxRead
  extract_lets -underBinder +onlyGivenNames d
  split
  · exact finishFail_tables h
  · exact finishOk_tables (hostWrite_tables h)

theorem clearWords_tables {c} (h : TablesSound s) : TablesSound (clearWords c s) := by
  unfold clearWords
  extract_lets -underBinder +onlyGivenNames t k s₂ s₃
  have hs₂ : TablesSound s₂ := write_tables h
  have hs₃ : TablesSound s₃ := .forList (fun _ _ => setSw_tables) hs₂
  exact .ite (setSw_tables hs₃) (.ite (setSw_tables hs₃) hs₃)

theorem doCtxEnable_tables {k} (h : TablesSound s) : TablesSound (doCtxEnable k s) := by
  unfold doCtxEnable
  extract_lets -underBinder +onlyGivenNames c
  exact .ite (finishFail_tables h) (.ite (finishFail_tables h) (.ite h (finishOk_tables (showTbLimit_tables (saveRt_tables (.ite
    (loadEntry_tables (modRt_tables (setLost_tables (clearWords_tables (.ite (makeRoom_tables (storeCost_tables
    (setCtxState_tables h))) (storeCost_tables (setCtxState_tables h))))))) (modRt_tables (setLost_tables (clearWords_tables (.ite
    (makeRoom_tables (storeCost_tables (setCtxState_tables h))) (storeCost_tables (setCtxState_tables h))))))))))))

theorem disableCtx_tables {c} (h : TablesSound s) : TablesSound (disableCtx c s) := by
  unfold disableCtx
  extract_lets -underBinder +onlyGivenNames s₂ kept r s₃ s₄
  have hs₂ : TablesSound s₂ := showTbLimit_tables (setCtxState_tables (evict_tables (endProbe_tables h)))
  have hs₃ : TablesSound s₃ := .forList (fun _ _ => finishFail_tables) (saveRt_tables (modRt_tables hs₂))
  have hs₄ : TablesSound s₄ := settleBusFb_tables (settleHeldFb_tables hs₃)
  clear_value r
  split
  · exact hs₄
  · extract_lets -underBinder +onlyGivenNames s₅
    have hs₅ : TablesSound s₅ := .ite hs₄ (unstand_tables hs₄)
    split
    · exact settleLost_tables hs₅
    · exact setOpenLoop_tables (unstand_tables hs₅)

theorem doCtxDisable_tables {k} (h : TablesSound s) : TablesSound (doCtxDisable k s) := by
  unfold doCtxDisable
  exact .ite (finishFail_tables h) (finishOk_tables (disableCtx_tables h))

theorem doProbeStart_tables {k} (h : TablesSound s) : TablesSound (doProbeStart k s) := by
  unfold doProbeStart
  extract_lets -underBinder +onlyGivenNames d c
  refine .ite (finishFail_tables h) ?_
  split
  · exact finishFail_tables h
  · split
    · exact finishFail_tables h
    · extract_lets -underBinder +onlyGivenNames b lim clamp b₂ gen s₂ s₃
      have hs₂ : TablesSound s₂ := setPb_tables h
      have hs₃ : TablesSound s₃ := modProbe_tables hs₂
      exact finish_tables hs₃

theorem doProbeStop_tables {k} (h : TablesSound s) : TablesSound (doProbeStop k s) := by
  unfold doProbeStop
  split
  · exact finishFail_tables h
  · exact .ite (finishFail_tables h) (finishOk_tables (endProbe_tables (modEntry_tables h)))

theorem doCtxCommand_tables {k} (h : TablesSound s) : TablesSound (doCtxCommand k s) := by
  unfold doCtxCommand
  split
  · exact doCtxWrite_tables h
  · exact doCtxRead_tables h
  · exact doCtxEnable_tables h
  · exact doCtxDisable_tables h
  · exact doProbeStart_tables h
  · exact doProbeStop_tables h
  · exact h

/-! ## Release -/

theorem applyAtRelease_tables {l} (h : TablesSound s) : TablesSound (applyAtRelease l s) :=
    .forList (fun _ _ ht => .ite (doCtxCommand_tables ht) ht) h

theorem applyCounted_tables {l n} (h : TablesSound s) : TablesSound (applyCounted l n s) :=
    .forList (fun _ _ ht => .ite (applyHeld_tables ht) ht) h

theorem clearUndetected_tables {c} (h : TablesSound s) : TablesSound (clearUndetected c s) := by
  unfold clearUndetected
  exact .ite h (settleLost_tables (setLost_tables h))

theorem resumeHeld_tables {c} (h : TablesSound s) : TablesSound (resumeHeld c s) := by
  unfold resumeHeld
  exact .ite (modRt_tables (setCtxState_tables h)) h

theorem releaseCtx_tables {n c} (h : TablesSound s) : TablesSound (releaseCtx n c s) := by
  unfold releaseCtx
  extract_lets -underBinder +onlyGivenNames s₂ prev now s₃ s₄ s₅
  have hs₂ : TablesSound s₂ := throughCtx_tables h
  have hs₃ : TablesSound s₃ := modRt_tables hs₂
  have hs₄ : TablesSound s₄ := resumeHeld_tables (clearUndetected_tables hs₃)
  have hs₅ : TablesSound s₅ := advanceProbe_tables hs₄
  exact .ite (runDetectors_tables (readInputs_tables hs₅)) (.ite (modRt_tables hs₅) (.ite (loadRoom_tables (skipRun_tables hs₅))
    (skipRun_tables hs₅)))

theorem releaseRegion_tables {r n sets} (h : TablesSound s) : TablesSound (releaseRegion r n sets s) := by
  unfold releaseRegion
  extract_lets -underBinder +onlyGivenNames s₂ s₃ l s₄ s₅
  have hs₂ : TablesSound s₂ := modLoop_tables h
  have hs₃ : TablesSound s₃ := .forList (fun _ _ => modRt_tables) hs₂
  have hs₄ : TablesSound s₄ := applyCounted_tables (applyAtRelease_tables hs₃)
  have hs₅ : TablesSound s₅ := .forList (fun _ _ => releaseCtx_tables) hs₄
  exact dispatch_tables (modLoop_tables hs₅)

theorem keepSets_tables {r n sets} (h : TablesSound s) : TablesSound (keepSets r n sets s) := by
  unfold keepSets
  exact .ite (applyCounted_tables h) (modPairRegion_tables h)

theorem catchUpRelease_tables {r} (h : TablesSound s) : TablesSound (catchUpRelease r s) := by
  unfold catchUpRelease
  split
  · exact modPairRegion_tables h
  · extract_lets -underBinder +onlyGivenNames s₂
    have hs₂ : TablesSound s₂ := releaseRegion_tables (modPairRegion_tables h)
    exact .ite hs₂ (modLoop_tables hs₂)

theorem dropRelease_tables {c} (h : TablesSound s) : TablesSound (dropRelease c s) := by
  unfold dropRelease
  exact modRt_tables (.ite (raise_tables (modLoop_tables (stepCtx16_tables h))) (modLoop_tables (stepCtx16_tables h)))

theorem beginSlot_tables (h : TablesSound s) : TablesSound (beginSlot s) := by
  unfold beginSlot
  extract_lets -underBinder +onlyGivenNames n s₂ l s₃
  have hs₂ : TablesSound s₂ := modLoop_tables h
  have hs₃ : TablesSound s₃ := applyAtRelease_tables hs₂
  exact dispatch_tables (.forList (fun _ _ ht => .ite (dropRelease_tables ht) (releaseCtx_tables ht)) hs₃)

theorem loopSet_tables {x} (h : TablesSound s) : TablesSound (loopSet x s) := by
  unfold loopSet
  exact .ite (modLoop_tables (modLoop_tables h)) (modLoop_tables h)

theorem loopChain_tables {f} (h : TablesSound s) : TablesSound (loopChain f s) := by
  unfold loopChain
  refine .ite ?_ h
  split
  · exact modLoop_tables h
  · exact h

/-! ## Pair -/

theorem popPair_tables (h : TablesSound s) : TablesSound (popPair s) := modPair_tables h

theorem confluence_tables {r seq body partner} (h : TablesSound s) : TablesSound (confluence r seq body partner s) := by
  unfold confluence
  exact .ite (resumeFrames_tables (receiveCopy_tables h)) (receiveCopy_tables h)

theorem dutyFrameReceive_tables {f} (h : TablesSound s) : TablesSound (dutyFrameReceive f s) := by
  unfold dutyFrameReceive
  extract_lets -underBinder +onlyGivenNames r
  exact .ite (.ite (.ite (raise_tables (modPairRegion_tables (pairSend_tables h))) (modPairRegion_tables (pairSend_tables h)))
    (pairSend_tables h)) (.ite (confluence_tables h) (.ite (resumeFrames_tables (commitFrame_tables h)) h))

theorem dutyCopyReceive_tables {r seq body} (h : TablesSound s) : TablesSound (dutyCopyReceive r seq body s) :=
    .ite h (.ite (staleCopy_tables h) (confluence_tables h))

theorem measureLatency_tables {lat} (h : TablesSound s) : TablesSound (measureLatency lat s) := by
  unfold measureLatency
  exact .ite (modPair_tables (raise_tables (modPair_tables h))) (modPair_tables h)

theorem wantResync_tables (h : TablesSound s) : TablesSound (wantResync s) :=
    .forAll (fun _ _ ht => .ite (modPairRegion_tables ht) ht) h

theorem helloReceive_tables {body} (h : TablesSound s) : TablesSound (helloReceive body s) := by
  unfold helloReceive
  extract_lets -underBinder +onlyGivenNames now sent back there s₂ s₃ bad
  have hs₂ : TablesSound s₂ := modPair_tables h
  have hs₃ : TablesSound s₃ := .ite hs₂ (measureLatency_tables hs₂)
  exact .ite (modPair_tables (.ite (raise_tables (.ite hs₃ (stand_tables (raise_tables hs₃)))) (.ite hs₃ (stand_tables
    (raise_tables hs₃))))) (.ite (modPair_tables (unstand_tables hs₃)) (wantResync_tables (raise_tables (modPair_tables
    (unstand_tables hs₃)))))

theorem abortResync_tables {r} (h : TablesSound s) : TablesSound (abortResync r s) := by
  unfold abortResync
  split
  · exact h
  · exact finish_tables (.forAll (fun _ _ => modPairRegion_tables) h)

theorem dieFailed_tables {r partner} (h : TablesSound s) : TablesSound (dieFailed r partner s) := by
  unfold dieFailed
  extract_lets -underBinder +onlyGivenNames p s₂
  have hs₂ : TablesSound s₂ := modPairRegion_tables h
  exact .ite (.ite (abortResync_tables (modPairRegion_tables hs₂)) hs₂) (.ite hs₂ (raise_tables (modPairRegion_tables hs₂)))

theorem faultDeclared_tables {r} (h : TablesSound s) : TablesSound (faultDeclared r s) := by
  unfold faultDeclared
  extract_lets -underBinder +onlyGivenNames s₂
  have hs₂ : TablesSound s₂ := .ite (dieFailed_tables h) h
  split
  · exact modPairRegion_tables hs₂
  · exact hs₂

theorem declareFault_tables {cause} (h : TablesSound s) : TablesSound (declareFault cause s) :=
    .ite h (.forAll (fun _ _ ht => .ite (.ite (dieFailed_tables (pairSend_tables ht)) (pairSend_tables ht)) (.ite
      (pairSend_tables ht) ht)) h)

theorem parameterFrame_tables {r n body} (h : TablesSound s) : TablesSound (parameterFrame r n body s) := by
  unfold parameterFrame
  split
  · exact h
  · exact .ite h (modPair_tables h)

theorem sendCheckpoint_tables {r} (h : TablesSound s) : TablesSound (sendCheckpoint r s) := by
  unfold sendCheckpoint
  extract_lets -underBinder +onlyGivenNames e owner n l blob head chunk t t₂
  have hchunk : ∀ a0 a1 t, TablesSound t → TablesSound (chunk a0 a1 t) := fun _ _ _ => pairSend_tables
  have ht : TablesSound t := .forList (fun _ _ ht₃ => hchunk _ _ _ (hchunk _ _ _ ht₃)) (modPair_tables h)
  have ht₂ : TablesSound t₂ := pairSend_tables ht
  exact modPairRegion_tables ht₂

theorem checkpointChunk_tables {r n body} (h : TablesSound s) : TablesSound (checkpointChunk r n body s) := by
  unfold checkpointChunk
  split
  · exact h
  · exact modPairRegion_tables h

theorem restoreEntry_tables {m c data} (h : TablesSound s) : TablesSound (restoreEntry m c data s) := by
  unfold restoreEntry
  extract_lets -underBinder +onlyGivenNames w s₂ s₃ s₄
  have hs₂ : TablesSound s₂ := modLoop_tables h
  have hs₃ : TablesSound s₃ := storeCtxWords_tables (write_tables hs₂)
  have hs₄ : TablesSound s₄ := modRt_tables (setResident_tables hs₃)
  exact .ite (loadRoom_tables hs₄) hs₄

theorem restoreEntries_tables {m l} (h : TablesSound s) : TablesSound (restoreEntries m l s) :=
    .forList (fun _ _ => restoreEntry_tables) (modLoop_tables h)

theorem checkpointCommit_tables {r n body} (h : TablesSound s) : TablesSound (checkpointCommit r n body s) := by
  unfold checkpointCommit
  split
  · exact h
  · extract_lets +onlyGivenNames e u p blob part kept l t
    have hu : TablesSound u := modPairRegion_tables h
    have ht : TablesSound t := restoreEntries_tables hu
    refine .ite (discardEpoch_tables hu) ?_
    refine modPairRegion_tables (.forList (fun x t ht => ?_) (modPair_tables ht))
    split
    · exact finishOk_tables ht
    · exact ht

theorem doPairResync_tables {k} (h : TablesSound s) : TablesSound (doPairResync k s) := by
  unfold doPairResync
  extract_lets -underBinder +onlyGivenNames l
  exact .ite (finishFail_tables h) (.ite (finishOk_tables h) (applying_tables (.forList (fun _ _ => modPairRegion_tables) h)))

/-! ## Events -/

theorem dropRecord_tables (h : TablesSound s) : TablesSound (dropRecord s) := by
  unfold dropRecord
  exact .ite (raise_tables (modRings_tables h)) (modRings_tables h)

theorem recordEvent_tables {e seq} (h : TablesSound s) : TablesSound (recordEvent e seq s) :=
    .ite h (.ite (writeCq_tables (modCq_tables h)) (dropRecord_tables h))

theorem collect_tables {e} (h : TablesSound s) : TablesSound (collect e s) := by
  unfold collect
  extract_lets -underBinder +onlyGivenNames n was e₂ s₂ s₃ s₄
  have hs₂ : TablesSound s₂ := modEvents_tables h
  have hs₃ : TablesSound s₃ := .ite hs₂ (applyEvent_tables hs₂)
  have hs₄ : TablesSound s₄ := .ite (declareFault_tables hs₃) hs₃
  exact recordEvent_tables (.ite (trgWaiting_tables (trgEvent_tables hs₄)) hs₄)

theorem bufferEvents_tables (h : TablesSound s) : TablesSound (bufferEvents s) := by
  unfold bufferEvents
  exact .forList (fun _ _ ht => modEvents_tables (.ite ht (applyEvent_tables ht))) (modEvents_tables h)

theorem deliverEvents_tables (h : TablesSound s) : TablesSound (deliverEvents s) := by
  unfold deliverEvents
  exact .ite (modEvents_tables h) (raise_tables (modEvents_tables h))

theorem clearRegionTrips_tables {r} (h : TablesSound s) : TablesSound (clearRegionTrips r s) := by
  unfold clearRegionTrips
  exact .forAll (fun _ _ ht => .ite (modUnit_tables ht) ht) (modRegion_tables h)

theorem clearWelds_tables {k} (h : TablesSound s) : TablesSound (clearWelds k s) := .forAll (fun _ _ ht => .ite (modRt_tables ht) ht) h

theorem clearSource_tables {k} (h : TablesSound s) : TablesSound (clearSource k s) := by
  unfold clearSource
  extract_lets -underBinder +onlyGivenNames was s₂ s₃ s₄
  have hs₂ : TablesSound s₂ := modSrc_tables h
  have hs₃ : TablesSound s₃ := .dite (fun _ => clearRegionTrips_tables hs₂) (fun _ => hs₂)
  have hs₄ : TablesSound s₄ := .ite (clearWelds_tables hs₃) hs₃
  exact reenter_tables (.ite hs₄ (raise_tables hs₄))

theorem doFaultClear_tables {k} (h : TablesSound s) : TablesSound (doFaultClear k s) := by
  unfold doFaultClear
  extract_lets -underBinder +onlyGivenNames n
  exact .ite (finishOk_tables (.forList (fun _ _ => clearSource_tables) h)) (.dite (fun _ => .ite (finishFail_tables h) (.ite
    (finishFail_tables h) (finishOk_tables (clearSource_tables h)))) (fun _ => finishFail_tables h))

theorem setForce_tables {k on} (h : TablesSound s) : TablesSound (setForce k on s) :=
    .ite h (.ite (.ite h (raiseFull_tables (modSrc_tables h))) (unforce_tables h))

theorem doEventForce_tables {k} (h : TablesSound s) : TablesSound (doEventForce k s) := by
  unfold doEventForce
  extract_lets -underBinder +onlyGivenNames d n
  exact .dite (fun _ => .ite (finishFail_tables h) (.ite (finishFail_tables h) (finishOk_tables (setForce_tables h)))) (fun _ => .ite
    (finishFail_tables h) (finishFail_tables h))

theorem writeForce_tables {w v} (h : TablesSound s) : TablesSound (writeForce w v s) := by
  unfold writeForce
  exact .ite (.ite (rwsWritten_tables h) h) (.forList (fun _ _ => setForce_tables) h)

/-! ## Arb -/

theorem writeArbOrder_tables {v} (h : TablesSound s) : TablesSound (writeArbOrder v s) := modArb_tables h

theorem writeArbCfg_tables {v} (h : TablesSound s) : TablesSound (writeArbCfg v s) := modArb_tables h

theorem refuseCommit_tables (h : TablesSound s) : TablesSound (refuseCommit s) := raise_tables (modArb_tables h)

theorem writeArbCommit_tables {v} (h : TablesSound s) : TablesSound (writeArbCommit v s) :=
    .ite h (.ite (modArb_tables h) (refuseCommit_tables h))

theorem grantWeir_tables {n o cmd} (h : TablesSound s) : TablesSound (grantWeir n o cmd s) := by
  unfold grantWeir
  extract_lets -underBinder +onlyGivenNames s₂
  have hs₂ : TablesSound s₂ := modWeir_tables h
  split
  · exact finishOk_tables hs₂
  · exact hs₂

theorem passWeir_tables {n suspect} (h : TablesSound s) : TablesSound (passWeir n suspect s) := by
  unfold passWeir
  split
  · exact modWeir_tables h
  · exact grantWeir_tables (modWeir_tables h)

theorem doWeirAcquire_tables {k} (h : TablesSound s) : TablesSound (doWeirAcquire k s) := by
  unfold doWeirAcquire
  extract_lets -underBinder +onlyGivenNames b
  exact .dite (fun _ => .ite (finishFail_tables h) (.ite (grantWeir_tables h) (modWeir_tables (modWork_tables h))))
    (fun _ => finishFail_tables h)

theorem doWeirRelease_tables {k} (h : TablesSound s) : TablesSound (doWeirRelease k s) := by
  unfold doWeirRelease
  extract_lets -underBinder +onlyGivenNames d b
  exact .dite (fun _ => .ite (passWeir_tables (finishOk_tables h)) (finishFail_tables h)) (fun _ => finishFail_tables h)

theorem releaseWeirs_tables {o} (h : TablesSound s) : TablesSound (releaseWeirs o s) := by
  unfold releaseWeirs
  exact .ite h (raise_tables (.forList (fun _ _ => passWeir_tables) h))

theorem abortMoved_tables {k} (h : TablesSound s) : TablesSound (abortMoved k s) := by
  unfold abortMoved
  split
  · exact h
  · exact finishFail_tables (modHost_tables h)

theorem dropCommandFrames_tables {k} (h : TablesSound s) : TablesSound (dropCommandFrames k s) :=
    .ite h (.forList (fun _ _ => payTag_tables) (modNet_tables h))

theorem resetNetEngine_tables (h : TablesSound s) : TablesSound (resetNetEngine s) := by
  unfold resetNetEngine
  extract_lets -underBinder +onlyGivenNames s₂ k
  have hs₂ : TablesSound s₂ := by
    unfold s₂
    split
    · exact h
    · exact modPort_tables (modNet_tables h)
  exact releaseWeirs_tables (abortMoved_tables (dropCommandFrames_tables hs₂))

theorem rewriteCopy_tables (h : TablesSound s) : TablesSound (rewriteCopy s) := by
  unfold rewriteCopy
  split
  · exact write_tables h
  · exact h

theorem abandonPrefetch_tables (h : TablesSound s) : TablesSound (abandonPrefetch s) := by
  unfold abandonPrefetch
  extract_lets -underBinder +onlyGivenNames l due
  split
  · exact h
  · exact modArb_tables (modRt_tables h)

theorem resetRequester_tables {i} (h : TablesSound s) : TablesSound (resetRequester i s) := by
  unfold resetRequester
  split
  · exact rewriteCopy_tables h
  · exact abandonPrefetch_tables h
  · exact resetNetEngine_tables h
  · exact abortMoved_tables h
  · exact h

/-! ## Image -/

theorem writeImageCtrl_tables {v} (h : TablesSound s) : TablesSound (writeImageCtrl v s) :=
    .ite h (.ite (rwsWritten_tables h) (.ite h (modLoop_tables h)))

theorem imageDone_tables {image} (h : TablesSound s) : TablesSound (imageDone image s) := by
  unfold imageDone
  extract_lets -underBinder +onlyGivenNames s₂
  have hs₂ : TablesSound s₂ := modLoop_tables h
  split
  · exact hostError_tables (modLoop_tables (fresh_tables hs₂))
  · exact .ite (modLoop_tables (write_tables (modLoop_tables hs₂))) (modLoop_tables hs₂)

/-! ## Capture -/

theorem doCaptureArm_tables {k} (h : TablesSound s) : TablesSound (doCaptureArm k s) := by
  unfold doCaptureArm
  split
  · exact finishFail_tables h
  · extract_lets -underBinder +onlyGivenNames d old at0 x
    split
    · exact finishFail_tables h
    · exact finishOk_tables (modSess_tables (modEntry_tables h))

theorem takePosition_tables {k v} (h : TablesSound s) : TablesSound (takePosition k v s) := by
  unfold takePosition
  exact .ite h (.ite (modSess_tables h) (modSess_tables (captureStore_tables h)))

theorem takeGap_tables {k id} (h : TablesSound s) : TablesSound (takeGap k id s) := takePosition_tables (modSess_tables h)

theorem takeSample_tables {k id v tick} (h : TablesSound s) : TablesSound (takeSample k id v tick s) := by
  unfold takeSample
  extract_lets -underBinder +onlyGivenNames x
  exact .ite h (.ite (modSess_tables h) (takePosition_tables (modSess_tables (.forList (fun _ _ => takeGap_tables) h))))

theorem captureSet_tables {x} (h : TablesSound s) : TablesSound (captureSet x s) :=
    .forAll (fun _ _ ht => .ite (takeSample_tables ht) ht) h

theorem joinChains_tables {k id tick} (h : TablesSound s) : TablesSound (joinChains k id tick s) := by
  unfold joinChains
  exact .ite (takeSample_tables (modSess_tables h)) h

theorem captureChain_tables {f} (h : TablesSound s) : TablesSound (captureChain f s) :=
    .forAll (fun _ _ ht => .ite (.foldl (fun _ _ ht₂ => joinChains_tables (modSess_tables ht₂)) ht) ht) h

theorem captureNotice_tables {n} (h : TablesSound s) : TablesSound (captureNotice n s) :=
    .forAll (fun _ _ ht => .ite (modSess_tables ht) ht) h

theorem judgeNotice_tables {k n} (h : TablesSound s) : TablesSound (judgeNotice k n s) := by
  unfold judgeNotice
  extract_lets -underBinder +onlyGivenNames x
  split
  · exact modSess_tables h
  · exact modSess_tables h

theorem captureReport_tables {k} (h : TablesSound s) : TablesSound (captureReport k s) := by
  unfold captureReport
  exact raise_tables (captureStore_tables h)

theorem endSession_tables {k st stopped} (h : TablesSound s) : TablesSound (endSession k st stopped s) := by
  unfold endSession
  exact .forList (fun _ _ => finishOk_tables) (captureReport_tables (modSess_tables h))

theorem abortSessions_tables (h : TablesSound s) : TablesSound (abortSessions s) :=
    .forAll (fun _ _ ht => .ite (endSession_tables ht) ht) h

theorem orphanSessions_tables (h : TablesSound s) : TablesSound (orphanSessions s) := .forAll (fun _ _ => modSess_tables) h

theorem reportOrphans_tables (h : TablesSound s) : TablesSound (reportOrphans s) :=
    .forAll (fun _ _ ht => .ite (modSess_tables (captureReport_tables ht)) ht) h

theorem doCaptureStop_tables {k} (h : TablesSound s) : TablesSound (doCaptureStop k s) := by
  unfold doCaptureStop
  split
  · exact finishFail_tables h
  · exact .ite (applying_tables (modSess_tables h)) (finishOk_tables (modSess_tables h))

theorem readSpans_tables {l} (h : TablesSound s) : TablesSound (readSpans l s).2 := by
  induction l generalizing s with
  | nil => exact h
  | cons p t ih => exact .iteSnd (ih h) (ih (readMem_tables h))

theorem doCaptureCopy_tables {k} (h : TablesSound s) : TablesSound (doCaptureCopy k s) := by
  unfold doCaptureCopy
  extract_lets -underBinder +onlyGivenNames d
  split
  · exact finishFail_tables h
  · extract_lets -underBinder +onlyGivenNames x size
    refine .ite (finishFail_tables h) ?_
    refine .ite (finishFail_tables h) ?_
    refine .ite (finishFail_tables h) ?_
    extract_lets -underBinder +onlyGivenNames q data s₂ s₃
    have hq : TablesSound q.2 := readSpans_tables (flushCapture_tables h)
    have hs₂ : TablesSound s₂ := hostWrite_tables hq
    have hs₃ : TablesSound s₃ := .ite (modSess_tables hs₂) hs₂
    split
    · exact finishOk_tables hs₃
    · exact finish_tables hs₃

/-! ## Rings -/

theorem doBarrier_tables {k} (h : TablesSound s) : TablesSound (doBarrier k s) := .ite (finishOk_tables h) h

theorem stopSq_tables {q cause} (h : TablesSound s) : TablesSound (stopSq q cause s) :=
    .ite h (stand_tables (raise_tables (releaseWeirs_tables (markStopped_tables h))))

theorem failedLine_tables {q} (h : TablesSound s) : TablesSound (failedLine q s) :=
    .ite h (.ite (stopSq_tables (modSq_tables h)) (modSq_tables h))

theorem failedDesc_tables {q} (h : TablesSound s) : TablesSound (failedDesc q s) :=
    .ite h (.ite (stopSq_tables (modSq_tables h)) (modSq_tables h))

theorem restartSq_tables {q} (h : TablesSound s) : TablesSound (restartSq q s) :=
    .ite (raise_tables (releaseWeirs_tables (hostRead_tables (.ite (modRings_tables (unstand_tables (modSq_tables h))) (unstand_tables
      (modSq_tables h)))))) h

theorem fetchNext_tables {q} (h : TablesSound s) : TablesSound (fetchNext q s) := by
  unfold fetchNext
  exact .ite h (hostRead_tables h)

theorem sqLineRead_tables {q data} (h : TablesSound s) : TablesSound (sqLineRead q data s) := by
  unfold sqLineRead
  exact .ite (stopSq_tables (modSq_tables h)) (fetchNext_tables (modSq_tables h))

theorem cqLineRead_tables {m data} (h : TablesSound s) : TablesSound (cqLineRead m data s) := by
  unfold cqLineRead
  exact .ite (modHost_tables (modCq_tables h)) (modCq_tables h)

theorem readDone_tables {u data} (h : TablesSound s) : TablesSound (readDone u data s) := by
  unfold readDone
  split
  · exact sqLineRead_tables h
  · exact cqLineRead_tables h
  · exact modSq_tables h
  · exact modWork_tables h

theorem readFailed_tables {r status} (h : TablesSound s) : TablesSound (readFailed r status s) := by
  unfold readFailed
  extract_lets -underBinder +onlyGivenNames det s₂
  have hs₂ : TablesSound s₂ := raiseFull_tables (captureError_tables h)
  split
  · exact failedLine_tables hs₂
  · exact fetchNext_tables (failedDesc_tables hs₂)
  · exact hs₂
  · exact modWork_tables hs₂

theorem endpointResets_tables (h : TablesSound s) : TablesSound (endpointResets s) :=
    raise_tables (.forAll (fun _ _ ht => .ite (stopSq_tables ht) ht) (modHost_tables h))

theorem ageWords_tables {asn} (h : TablesSound s) : TablesSound (ageWords asn s) := by
  unfold ageWords
  refine .ite h ?_
  extract_lets -underBinder +onlyGivenNames s₂ s₃ s₄
  have hs₂ : TablesSound s₂ := .foldl (fun _ _ => storeCtxWords_tables) h
  have hs₃ : TablesSound s₃ := modRings_tables hs₂
  have hs₄ : TablesSound s₄ := sessionsWeirs_tables hs₃
  exact modPair_tables hs₄

theorem acceptInto_tables {q k d} (h : TablesSound s) : TablesSound (acceptInto q k d s) := by
  unfold acceptInto
  extract_lets -underBinder +onlyGivenNames asn late timed t bad e s₂ s₃ s₄
  have hs₂ : TablesSound s₂ := modRings_tables (write_tables h)
  have hs₃ : TablesSound s₃ := modSq_tables hs₂
  have hs₄ : TablesSound s₄ := ageWords_tables (fetchNext_tables (wroteJournal_tables hs₃))
  clear_value bad
  split
  · exact .ite (raise_tables (finishFail_tables hs₄)) (finishFail_tables hs₄)
  · exact hs₄

theorem ackOne_tables {e} (h : TablesSound s) : TablesSound (ackOne e s) := by
  unfold ackOne
  exact hostWrite_tables (modSq_tables (modRings_tables h))

theorem rollBack_tables (h : TablesSound s) : TablesSound (rollBack s) := by
  unfold rollBack
  split
  · exact h
  · extract_lets -underBinder +onlyGivenNames l first mine s₂ s₃
    have hs₂ : TablesSound s₂ := .forAll (fun _ _ => modSq_tables) h
    have hs₃ : TablesSound s₃ := modHost_tables hs₂
    exact modRings_tables hs₃

theorem freeEntry_tables {k} (h : TablesSound s) : TablesSound (freeEntry k s) := modRings_tables (dropWork_tables h)

theorem postEntry_tables {e} (h : TablesSound s) : TablesSound (postEntry e s) := by
  unfold postEntry
  exact modRings_tables (modEntry_tables (dropWork_tables (writeCq_tables (.ite h (modCq_tables h)))))

theorem losePosted_tables (h : TablesSound s) : TablesSound (losePosted s) := modRings_tables h

theorem sendMsix_tables {v} (h : TablesSound s) : TablesSound (sendMsix v s) := hostWrite_tables h

theorem signalVector_tables {v} (h : TablesSound s) : TablesSound (signalVector v s) := .ite (modHost_tables h) (sendMsix_tables h)

theorem writeMsix_tables {b w} (h : TablesSound s) : TablesSound (writeMsix b w s) := by
  unfold writeMsix
  exact .ite h (.ite (modHost_tables h) (sendMsix_tables (modHost_tables (modHost_tables h))))

/-! ## Replay -/

theorem applyCommand_tables {k} (h : TablesSound s) : TablesSound (applyCommand k s) := by
  unfold applyCommand
  split
  · exact finishOk_tables h
  · exact doRegionMode_tables h
  · exact doRegionCommit_tables h
  · exact doCaptureArm_tables h
  · exact doCaptureStop_tables h
  · exact runNetTx_tables h
  · exact doTimeAdjust_tables h
  · exact doPairSwap_tables h
  · exact doFaultClear_tables h
  · exact doEventForce_tables h
  · exact doCtxCommand_tables h

theorem startReplay_tables {cause} (h : TablesSound s) : TablesSound (startReplay cause s) := modRings_tables h

theorem readBackFailed_tables {e} (h : TablesSound s) : TablesSound (readBackFailed e s) := by
  unfold readBackFailed
  extract_lets -underBinder +onlyGivenNames p s₂
  have hp : TablesSound p.2 := fresh_tables h
  have hs₂ : TablesSound s₂ := raise_tables (hostError_tables hp)
  exact .forAll (fun _ _ ht => .ite (modSq_tables (stopSq_tables ht)) ht) hs₂

theorem skipEntry_tables {e lost kept} (h : TablesSound s) : TablesSound (skipEntry e lost kept s) := modRings_tables h

theorem skipApplied_tables {e} (h : TablesSound s) : TablesSound (skipApplied e s) := by
  unfold skipApplied
  exact skipEntry_tables (readMem_tables h)

theorem returnWork_tables {e kind} (h : TablesSound s) : TablesSound (returnWork e kind s) := by
  unfold returnWork
  exact modRings_tables h

theorem returnEntry_tables {e} (h : TablesSound s) : TablesSound (returnEntry e s) :=
    .ite (returnWork_tables h) (.ite (finishFail_tables (readMem_tables h)) (returnWork_tables (readMem_tables h)))

theorem replayEntry_tables {l e} (h : TablesSound s) : TablesSound (replayEntry l e s) := by
  unfold replayEntry
  extract_lets -underBinder +onlyGivenNames held written
  exact .ite h (.ite (readBackFailed_tables h) (.ite (freeEntry_tables h) (.ite (skipEntry_tables h) (.ite (skipApplied_tables h)
    (returnEntry_tables h)))))

/-! ## Millrace -/

theorem sendNext_tables {d} (h : TablesSound s) : TablesSound (sendNext d s) := by
  unfold sendNext
  extract_lets -underBinder +onlyGivenNames s₂ m
  have hs₂ : TablesSound s₂ := modMr_tables h
  exact .ite (modMr_tables (.of_eq hs₂ rfl)) (.ite hs₂ (modMr_tables hs₂))

theorem deliver_tables {p} (h : TablesSound s) : TablesSound (deliver p s) := by
  unfold deliver
  split
  · exact .forList (fun _ _ ht => captureSet_tables (loopSet_tables ht)) h
  · exact captureChain_tables (loopChain_tables h)
  · exact captureNotice_tables h
  · exact .of_eq h rfl

theorem badFrame_tables {d f diff} (h : TablesSound s) : TablesSound (badFrame d f diff s) := by
  unfold badFrame
  exact modMr_tables (raise_tables (captureError_tables h))

theorem frameArrives_tables {d skip err} (h : TablesSound s) : TablesSound (frameArrives d skip err s) := by
  unfold frameArrives
  extract_lets -underBinder +onlyGivenNames m
  split
  · exact h
  · extract_lets -underBinder +onlyGivenNames s₂
    have hs₂ : TablesSound s₂ := modMr_tables h
    exact .ite (badFrame_tables hs₂) (.ite (deliver_tables (modMr_tables hs₂)) (.ite (modMr_tables hs₂) hs₂))

theorem loseFrames_tables {m} (h : TablesSound s) : TablesSound (loseFrames m s) := .forList (fun _ _ => losePayload_tables) h

theorem millraceDown_tables (h : TablesSound s) : TablesSound (millraceDown s) := by
  unfold millraceDown
  refine bufferEvents_tables ?_
  refine losePosted_tables ?_
  refine rollBack_tables ?_
  extract_lets -underBinder +onlyGivenNames x
  have hx : TablesSound x := loseFrames_tables h
  exact .of_eq hx rfl

theorem linkFails_tables (h : TablesSound s) : TablesSound (linkFails s) :=
    .ite h (stand_tables (raiseFull_tables (millraceDown_tables (.of_eq h rfl))))

theorem dropLock_tables {d c} (h : TablesSound s) : TablesSound (dropLock d c s) := .ite (.of_eq h rfl) h

/-! ## SafetyFns -/

theorem discCleared_tables {s0 p} (h : TablesSound s) : TablesSound (discCleared s0 p s) :=
    .ite (.ite (raise_tables (unstand_tables h)) (unstand_tables h)) h

theorem latchDisc_tables {c p} (h : TablesSound s) : TablesSound (latchDisc c p s) := stand_tables (raise_tables (modSafCh_tables h))

theorem wireAbsent_tables (h : TablesSound s) : TablesSound (wireAbsent s) := modSaf_tables h

theorem judgePath1_tables {ok} (h : TablesSound s) : TablesSound (judgePath1 ok s) :=
    .ite h (stand_tables (raise_tables (modSaf_tables h)))

theorem judgePath2_tables {off} (h : TablesSound s) : TablesSound (judgePath2 off s) :=
    .ite h (stand_tables (raise_tables (modSaf_tables h)))

theorem noteCheck_tables {c} (h : TablesSound s) : TablesSound (noteCheck c s) := modSafCh_tables h

theorem judgeTest_tables {c o fell} (h : TablesSound s) : TablesSound (judgeTest c o fell s) :=
    .ite (modSaf_tables h) (stand_tables (raise_tables (modSo_tables (modSafCh_tables (modSaf_tables h)))))

theorem copyParams_tables (h : TablesSound s) : TablesSound (copyParams s) := by
  unfold copyParams
  exact .ite (modSafCh_tables (modSafCh_tables h)) (stand_tables (raise_tables (modSafCh_tables (modSafCh_tables h))))

theorem clearTestFaults_tables (h : TablesSound s) : TablesSound (clearTestFaults s) := by
  unfold clearTestFaults
  extract_lets -underBinder +onlyGivenNames s₂
  have hs₂ : TablesSound s₂ := .forAll (fun _ _ ht => .ite (raise_tables (modSo_tables ht)) ht) h
  exact .ite hs₂ (unstand_tables hs₂)

theorem channelPowerUp_tables {c} (h : TablesSound s) : TablesSound (channelPowerUp c s) := by
  unfold channelPowerUp
  exact raise_tables (clearTestFaults_tables (discCleared_tables (discCleared_tables (modSafCh_tables h))))

/-! ## Tick -/

theorem stepCounters_tables (h : TablesSound s) : TablesSound (stepCounters s) := by
  refine ⟨h.mem, h.memErr, ?_⟩
  show tableWf noErr (if s.pReach then s.rings.freePosted else s.rings).journalErr = true
  split <;> exact h.journalErr

theorem tick_tables (h : TablesSound s) : TablesSound (tick s) :=
    .ite (stepCounters_tables h) (flushCapture_tables (stepCounters_tables h))

/-! ## Power -/

theorem purgeCommands_tables (h : TablesSound s) : TablesSound (purgeCommands s) := by
  unfold purgeCommands
  extract_lets -underBinder +onlyGivenNames s₂ s₃ s₄ s₅ s₆
  have hs₂ : TablesSound s₂ := modRings_tables h
  have hs₃ : TablesSound s₃ := modHost_tables hs₂
  have hs₄ : TablesSound s₄ := .of_eq hs₃ rfl
  have hs₅ : TablesSound s₅ := modPair_tables hs₄
  have hs₆ : TablesSound s₆ := modNet_tables hs₅
  exact modLoop_tables hs₆

theorem applyAgain_tables {k} (h : TablesSound s) : TablesSound (applyAgain k s) := modWork_tables h

theorem reportEntry_tables {e} (h : TablesSound s) : TablesSound (reportEntry e s) :=
    .ite (postEntry_tables h) (freeEntry_tables (captureError_tables h))

theorem ackAll_tables (h : TablesSound s) : TablesSound (ackAll s) := .forList (fun _ _ => ackOne_tables) h

theorem drainJournal_tables {st detail} (h : TablesSound s) : TablesSound (drainJournal st detail s).2 := by
  unfold drainJournal
  extract_lets -underBinder +onlyGivenNames s₂ done rest open_ s₃ s₄ s₅
  have hs₂ : TablesSound s₂ := ackAll_tables h
  have hs₃ : TablesSound s₃ := .forList (fun _ _ => reportEntry_tables) hs₂
  have hs₄ : TablesSound s₄ := modRings_tables hs₃
  have hs₅ : TablesSound s₅ := .forList (fun _ _ ht => reportEntry_tables (modEntry_tables ht)) hs₄
  exact purgeCommands_tables hs₅

theorem dropWaiting_tables (h : TablesSound s) : TablesSound (dropWaiting s) := .forAll (fun _ _ => modRegion_tables) h

theorem settleTx_tables (h : TablesSound s) : TablesSound (settleTx s) := by
  unfold settleTx
  extract_lets -underBinder +onlyGivenNames taken holds s₂ stays owed
  have hs₂ : TablesSound s₂ := .forList (fun _ _ => finish_tables) h
  exact .forList (fun _ _ => payTag_tables) (modNet_tables hs₂)

theorem failResyncs_tables (h : TablesSound s) : TablesSound (failResyncs s) :=
    .forAll (fun _ _ ht => .ite ht (abortResync_tables ht)) h

theorem settleHeld_tables (h : TablesSound s) : TablesSound (settleHeld s) :=
    dropWaiting_tables (settleTx_tables (failResyncs_tables h))

theorem resetPairC_tables (h : TablesSound s) : TablesSound (resetPairC s) := by
  unfold resetPairC
  exact .forAll (fun _ _ => modPairRegion_tables) (modPair_tables h)

theorem dropWaiters_tables (h : TablesSound s) : TablesSound (dropWaiters s) := .of_eq h rfl

theorem answerAccesses_tables (h : TablesSound s) : TablesSound (answerAccesses s) := modHost_tables h

theorem collectOwn_tables (h : TablesSound s) : TablesSound (collectOwn s) := by
  unfold collectOwn
  exact .forList (fun _ _ => collect_tables) (modEvents_tables h)

theorem cDieDown_tables (h : TablesSound s) : TablesSound (cDieDown s) := by
  unfold cDieDown
  refine .ite h ?_
  extract_lets -underBinder +onlyGivenNames s₂ s₃ s₄ s₅ s₆ s₇ s₈ s₉ s₁₀
  have hs₂ : TablesSound s₂ := .forAll (fun _ _ => releaseWeirs_tables) (dropWaiters_tables (settleHeld_tables (flushCapture_tables h)))
  have hs₃ : TablesSound s₃ := closeDebug_tables (openShadow_tables (collectOwn_tables hs₂))
  have hs₄ : TablesSound s₄ := linkFails_tables hs₃
  have hs₅ : TablesSound s₅ := modPower_tables hs₄
  have hs₆ : TablesSound s₆ := wireAbsent_tables (modSafCh_tables hs₅)
  have hs₇ : TablesSound s₇ := resetPairC_tables (clearForces_tables (answerAccesses_tables (orphanSessions_tables
    (losePosted_tables hs₆))))
  have hs₈ : TablesSound s₈ := .forAll (fun _ _ => unstand_tables) hs₇
  have hs₉ : TablesSound s₉ := modArb_tables (modLoop_tables (modRings_tables hs₈))
  have hs₁₀ : TablesSound s₁₀ := modHost_tables (modEvents_tables hs₉)
  exact links_tables hs₁₀

theorem reloadCode_tables (h : TablesSound s) : TablesSound (reloadCode s) := by
  unfold reloadCode
  exact modLoop_tables h

theorem resumeContexts_tables (h : TablesSound s) : TablesSound (resumeContexts s) :=
    .forList (fun _ _ ht => .ite (loadRoom_tables (.ite (setResident_tables ht) ht)) (.ite (setResident_tables ht) ht)) h

/-- Memory lost reads as zeros, and each entry's line in it as uncorrectable (R535). -/
theorem loseMemory_tables (h : TablesSound s) : TablesSound (loseMemory s) := by
  unfold loseMemory
  extract_lets u v w
  have hu : TablesSound u := ⟨rfl, tableWf_putErrs rfl, h.journalErr⟩
  exact stand_tables (raise_tables (modPower_tables (modLoop_tables (modRings_tables hu))))

theorem endDieSafe_tables (h : TablesSound s) : TablesSound (endDieSafe s) := by
  unfold endDieSafe
  exact modPower_tables (.forAll (fun _ _ ht => .ite (modSrc_tables ht) ht) h)

theorem closeCDieWindow_tables (h : TablesSound s) : TablesSound (closeCDieWindow s) := modEvents_tables h

theorem resetNet_tables (h : TablesSound s) : TablesSound (resetNet s) := by
  unfold resetNet
  extract_lets -underBinder +onlyGivenNames s₂ lent s₃
  have hs₂ : TablesSound s₂ := .forAll (fun _ _ => dropFrames_tables) h
  have hs₃ : TablesSound s₃ := .forList (fun _ _ => applyAgain_tables) hs₂
  exact releaseWeirs_tables (.of_eq hs₃ rfl)

theorem resetPairP_tables (h : TablesSound s) : TablesSound (resetPairP s) := by
  unfold resetPairP
  exact modPair_tables (.forList (fun _ _ => applyAgain_tables) h)

theorem dropConditions_tables (h : TablesSound s) : TablesSound (dropConditions s) :=
    .forAll (fun _ _ ht => .ite (modSrc_tables ht) ht) h

theorem resetBlocks_tables (h : TablesSound s) : TablesSound (resetBlocks s) := .of_eq h rfl

theorem markOutage_tables (h : TablesSound s) : TablesSound (markOutage s) := .ite (modTime_tables h) h

theorem pDieDown_tables (h : TablesSound s) : TablesSound (pDieDown s) := by
  unfold pDieDown
  refine .ite h ?_
  extract_lets -underBinder +onlyGivenNames s₂ s₃ s₄ s₅ s₆ s₇ s₈ x
  have hs₂ : TablesSound s₂ := closeDebug_tables (markOutage_tables (.ite (abortSessions_tables h) h))
  have hs₃ : TablesSound s₃ := .forAll (fun _ _ ht => .ite ht (stopRegion_tables ht)) hs₂
  have hs₄ : TablesSound s₄ := resetPairP_tables (resetNet_tables hs₃)
  have hs₅ : TablesSound s₅ := linkFails_tables hs₄
  have hs₆ : TablesSound s₆ := modPower_tables hs₅
  have hs₇ : TablesSound s₇ := modTime_tables hs₆
  have hs₈ : TablesSound s₈ := dropConditions_tables (resetBlocks_tables (.ite hs₇ (enterDev_tables hs₇)))
  have hx : TablesSound x := modSaf_tables hs₈
  exact links_tables hx

theorem startBanks_tables (h : TablesSound s) : TablesSound (startBanks s) := by
  refine .forAll (fun b t ht => ?_) h
  exact modBank_tables ht

theorem restartTrigs_tables (h : TablesSound s) : TablesSound (restartTrigs s) := .forAll (fun _ _ => modTrig_tables) h

theorem channel1PowerUp_tables (h : TablesSound s) : TablesSound (channel1PowerUp s) := by
  unfold channel1PowerUp
  exact channelPowerUp_tables (unstand_tables (unstand_tables (unstand_tables (modSaf_tables h))))

theorem netUp_tables (h : TablesSound s) : TablesSound (netUp s) := .ite (timeRestart_tables (modNet_tables h)) h

theorem aoAlone_tables {d} (h : TablesSound s) : TablesSound (aoAlone d s) := modPower_tables h

theorem startPDie_tables (h : TablesSound s) : TablesSound (startPDie s) := by
  unfold startPDie
  extract_lets -underBinder +onlyGivenNames s₂
  have hs₂ : TablesSound s₂ := .ite (channel1PowerUp_tables h) h
  exact .ite (.ite (modTime_tables (modNet_tables (modPower_tables hs₂))) (netUp_tables (modPower_tables hs₂))) hs₂

theorem startCDie_tables (h : TablesSound s) : TablesSound (startCDie s) := by
  unfold startCDie
  exact .ite (modLoop_tables (modPower_tables (.ite (modSafCh_tables h) h))) (.ite (modSafCh_tables h) h)

theorem trainLink_tables (h : TablesSound s) : TablesSound (trainLink s) :=
    .ite (deliverEvents_tables (syncTime_tables (.of_eq h rfl))) h

theorem finishWake_tables (h : TablesSound s) : TablesSound (finishWake s) := .ite (raise_tables (modPower_tables h)) h

theorem startUp_tables (h : TablesSound s) : TablesSound (startUp s) := by
  unfold startUp
  extract_lets -underBinder +onlyGivenNames n
  exact .ite (modPower_tables h) (.ite (modPower_tables h) (.ite (startPDie_tables h) (.ite (modPower_tables h) (.ite
    (startCDie_tables h) (.ite (trainLink_tables h) (.ite (finishWake_tables h) h))))))

theorem idle_tables (h : TablesSound s) : TablesSound (idle s) := by
  unfold idle
  exact settle_tables (.ite (startUp_tables (tick_tables h)) (tick_tables h))

theorem raiseNow_tables {k d} (h : TablesSound s) : TablesSound (raiseNow k d s) := by
  unfold raiseNow
  exact applyEvent_tables (pushEvent_tables h)

theorem powerFailHandling_tables (h : TablesSound s) : TablesSound (powerFailHandling s) := by
  unfold powerFailHandling
  exact raise_tables (drainJournal_tables (modRings_tables (enterDev_tables h)))

theorem signalFail_tables (h : TablesSound s) : TablesSound (signalFail s) := modPower_tables (stand_tables (raiseNow_tables h))

theorem leaveService_tables (h : TablesSound s) : TablesSound (leaveService s) := by
  unfold leaveService
  exact enterDev_tables (.of_eq h rfl)

theorem cmdResult_tables {n} (h : TablesSound s) : TablesSound (cmdResult n s) := modPower_tables h

/-! ## PowerRows -/

theorem noteStore_tables {mj} (h : TablesSound s) : TablesSound (noteStore mj s) := modPower_tables h

theorem inputBack_tables {mv} (h : TablesSound s) : TablesSound (inputBack mv s) := by
  unfold inputBack
  exact .ite (raise_tables (modPower_tables h)) (modPower_tables h)

theorem netOff_tables (h : TablesSound s) : TablesSound (netOff s) := by
  unfold netOff
  exact modPair_tables (resetNet_tables (.forAll (fun _ _ ht => .ite (stand_tables (raise_tables ht)) ht) h))

/-! ## Setup -/

theorem sealNet_tables (h : TablesSound s) : TablesSound (sealNet s) := .ite (modPower_tables (netOff_tables (markOutage_tables h))) h

theorem sealRings_tables (h : TablesSound s) : TablesSound (sealRings s) := modHost_tables (modRings_tables h)

theorem sealChains_tables (h : TablesSound s) : TablesSound (sealChains s) := .of_eq h rfl

theorem writeSoReq_tables {v} (h : TablesSound s) : TablesSound (writeSoReq v s) := modSaf_tables h

theorem writeDbg_tables {v} (h : TablesSound s) : TablesSound (writeDbg v s) := .ite (modPower_tables h) h

theorem writeDbgCtrl_tables {v} (h : TablesSound s) : TablesSound (writeDbgCtrl v s) := by
  unfold writeDbgCtrl
  refine .ite h ?_
  split
  · exact h
  · exact .of_eq h rfl
  · exact .of_eq h rfl
  · extract_lets -underBinder +onlyGivenNames p x
    have hp : TablesSound p.2 := fresh_tables h
    have hx : TablesSound x := hp
    exact .of_eq hx rfl

theorem writeDbgAddr_tables {v} (h : TablesSound s) : TablesSound (writeDbgAddr v s) := .ite (.of_eq h rfl) h

theorem writeDbgLine_tables {w v} (h : TablesSound s) : TablesSound (writeDbgLine w v s) := .ite (.of_eq h rfl) h

theorem debugRead_tables (h : TablesSound s) : TablesSound (debugRead s) := by
  unfold debugRead
  extract_lets -underBinder +onlyGivenNames s₂ l
  have hs₂ : TablesSound s₂ := readMem_tables h
  exact .of_eq hs₂ rfl

theorem debugWrite_tables (h : TablesSound s) : TablesSound (debugWrite s) := write_tables h

/-! ## Access -/

theorem writeUcodeAddr_tables {v} (h : TablesSound s) : TablesSound (writeUcodeAddr v s) :=
    .ite (.ite h (rwsWritten_tables h)) (modLoop_tables h)

theorem writeDomStatus_tables {v} (h : TablesSound s) : TablesSound (writeDomStatus v s) := modPower_tables h

theorem writeInjStatus_tables {v} (h : TablesSound s) : TablesSound (writeInjStatus v s) := modEvents_tables h

theorem writeFecInfo_tables {d v} (h : TablesSound s) : TablesSound (writeFecInfo d v s) := .ite (clearError_tables h) h

theorem writeArbStatus_tables {v} (h : TablesSound s) : TablesSound (writeArbStatus v s) := modArb_tables h

theorem writeRingCtrl_tables {v} (h : TablesSound s) : TablesSound (writeRingCtrl v s) :=
    .forAll (fun _ _ ht => .ite (restartSq_tables ht) ht) h

theorem readEffect_tables {off} (h : TablesSound s) : TablesSound (readEffect off s) := by
  unfold readEffect
  split
  · exact readQdata_tables h
  · exact .ite (readTxq_tables h) (.ite (readTimeNow_tables h) (.ite (readAoTime_tables h) h))

/-! ## FormingRows -/

theorem modSeqr_tables {c f} (h : TablesSound s) : TablesSound (modSeqr c f s) := putSeqr_tables h

theorem declareDead_tables {c n} (h : TablesSound s) : TablesSound (declareDead c n s) := by
  unfold declareDead
  exact modSeqr_tables h

theorem decideStart_tables {c n} (h : TablesSound s) : TablesSound (decideStart c n s) := by
  unfold decideStart
  exact modSeqr_tables h

theorem endBlend_tables {c} (h : TablesSound s) : TablesSound (endBlend c s) := by
  unfold endBlend
  extract_lets -underBinder +onlyGivenNames v src v₂ x s₂ s₃
  have hs₂ : TablesSound s₂ := putVsm_tables h
  have hs₃ : TablesSound s₃ := .ite hs₂ (raise_tables hs₂)
  exact .ite hs₃ (raise_tables hs₃)

theorem adaptRPos_tables {w c new} (h : TablesSound s) : TablesSound (adaptRPos w c new s) := by
  unfold adaptRPos
  exact .ite h (raise_tables (putAdapt_tables (throughCtx_tables h)))

theorem adaptSweep_tables {c rcd} (h : TablesSound s) : TablesSound (adaptSweep c rcd s) := by
  unfold adaptSweep
  exact .ite h (.ite (.ite (adaptRPos_tables h) h) (.ite (.ite (adaptRPos_tables h) h) h))

theorem endSweep_tables {c} (h : TablesSound s) : TablesSound (endSweep c s) := by
  unfold endSweep
  extract_lets -underBinder +onlyGivenNames rcd s₂ s₃
  have hs₂ : TablesSound s₂ := setSw_tables (setSw_tables h)
  have hs₃ : TablesSound s₃ := setOutVal_tables (modRt_tables hs₂)
  exact .ite (modRt_tables hs₃) (.ite (adaptSweep_tables (modRt_tables hs₃)) (modRt_tables hs₃))

/-! ## Status -/

theorem devUpdate_tables {o n due write} (hwrite : ∀ t, TablesSound t → TablesSound (write t)) (h : TablesSound s) : TablesSound
    (devUpdate o n due write s) :=
    by
  unfold devUpdate
  extract_lets -underBinder +onlyGivenNames w
  exact .ite (passWeir_tables (hwrite _ h)) (.ite h (.ite (passWeir_tables (hwrite _ (grantWeir_tables h))) (modWeir_tables h)))

theorem writeSafSet_tables (h : TablesSound s) : TablesSound (writeSafSet s) := by
  unfold writeSafSet
  exact .of_eq h rfl

theorem writeNetSet_tables (h : TablesSound s) : TablesSound (writeNetSet s) := by
  unfold writeNetSet
  exact .of_eq h rfl

/-! ## Filter -/

theorem execRearm_tables {u v} (h : TablesSound s) : NextTables (execRearm u v s) :=
    .next (hostWord_tables (fun _ => writeTrgCmd_tables) h)

theorem execTriggerHoldOffEnd_tables {u} (h : TablesSound s) : NextTables (execTriggerHoldOffEnd u s) := by
  unfold execTriggerHoldOffEnd
  exact .next (.ite (modTrig_tables h) h)

theorem execChainFrameFlush_tables {n} (h : TablesSound s) : NextTables (execChainFrameFlush n s) := by
  unfold execChainFrameFlush
  exact .next (.ite (chainFlush_tables h) h)

/-! ## Operands -/

theorem immediate_tables {k opcode f} (hf : ∀ t, TablesSound t → TablesSound (f t)) (h : TablesSound s) : NextTables
    (immediate k opcode f s) :=
    .next (.ite (settle_tables (hf _ h)) h)

/-! ## Region -/

theorem execRegionMode_tables {slot} (h : TablesSound s) : NextTables (execRegionMode slot s) :=
    .next (.ite (settle_tables (doRegionMode_tables h)) h)

theorem execRegionCommit_tables {slot} (h : TablesSound s) : NextTables (execRegionCommit slot s) :=
    .next (.ite (settle_tables (doRegionCommit_tables h)) h)

theorem execRegionBoundary_tables {r} (h : TablesSound s) : NextTables (execRegionBoundary r s) := by
  unfold execRegionBoundary
  refine .next ?_
  split
  · exact .ite (settle_tables (boundary_tables h)) h
  · exact h

theorem execRecoveryEnd_tables {r} (h : TablesSound s) : NextTables (execRecoveryEnd r s) :=
    .next (.ite (settle_tables (changePhase_tables h)) h)

theorem execTripAssert_tables {n} (h : TablesSound s) : NextTables (execTripAssert n s) :=
    .next (.ite (settle_tables (.forAll (fun _ _ => tripRegion_tables) (.of_eq h rfl))) h)

theorem execIslandWrap_tables {i} (h : TablesSound s) : NextTables (execIslandWrap i s) := by
  unfold execIslandWrap
  refine .next ?_
  split
  · exact h
  · split
    · exact h
    · exact .ite (settle_tables (wrap_tables h)) h

theorem execUnitEdge_tables {u} (h : TablesSound s) : NextTables (execUnitEdge u s) := by
  unfold execUnitEdge
  refine .next ?_
  split
  · exact h
  · exact .ite (settle_tables (gateIsland_tables (commandUnit_tables (modUnit_tables h)))) h

theorem execCDieLossDetect_tables {r} (h : TablesSound s) : NextTables (execCDieLossDetect r s) := by
  unfold execCDieLossDetect
  exact .next (.ite (modRegion_tables h) h)

theorem execHoldTimeEnd_tables {r} (h : TablesSound s) : NextTables (execHoldTimeEnd r s) := by
  unfold execHoldTimeEnd
  refine .next ?_
  split
  · exact h
  · exact .ite h (.ite (modRegion_tables h) (.ite (settle_tables (stand_tables (raise_tables (modRegion_tables
    (modRegion_tables h))))) (settle_tables (stand_tables (raise_tables (modRegion_tables (modRegion_tables h)))))))

/-! ## Adc -/

theorem execRegionTrigger_tables {r} (h : TablesSound s) : NextTables (execRegionTrigger r s) := by
  unfold execRegionTrigger
  extract_lets -underBinder +onlyGivenNames g
  refine .next ?_
  split
  · exact h
  · exact .ite (settle_tables (regionTrigger_tables h)) h

theorem execBankTimer_tables {b} (h : TablesSound s) : NextTables (execBankTimer b s) :=
    .next (.ite h (settle_tables (.ite (.ite (bankTrigger_tables (.ite (modBank_tables (modBank_tables (.ite (bankTrigger_tables
      (modBank_tables h)) h))) (modBank_tables (.ite (bankTrigger_tables (modBank_tables h)) h)))) (.ite (modBank_tables
      (modBank_tables (.ite (bankTrigger_tables (modBank_tables h)) h))) (modBank_tables (.ite (bankTrigger_tables
      (modBank_tables h)) h)))) (.ite (bankTrigger_tables (modBank_tables h)) h))))

theorem execAdcQdataRead_tables {b} (h : TablesSound s) : NextTables (execAdcQdataRead b s) :=
    .next (hostAccess_tables (fun _ => readQdata_tables) h)

theorem execSetComplete_tables {b} (h : TablesSound s) : NextTables (execSetComplete b s) :=
    .next (.ite (settle_tables (setsComplete_tables h)) h)

theorem execSamplingInstant_tables {b uv} (h : TablesSound s) : NextTables (execSamplingInstant b uv s) :=
    .next (.ite (settle_tables (samplingInstant_tables h)) h)

theorem execPackedFrameFlush_tables {b} (h : TablesSound s) : NextTables (execPackedFrameFlush b s) := by
  unfold execPackedFrameFlush
  exact .next (.ite (flushPacked_tables h) h)

theorem execGo_tables {b v} (h : TablesSound s) : NextTables (execGo b v s) := .next (hostWord_tables (fun _ => writeInjSw_tables) h)

theorem execInjectedTrigger_tables {b} (h : TablesSound s) : NextTables (execInjectedTrigger b s) := by
  unfold execInjectedTrigger
  refine .next ?_
  split
  · exact h
  · exact .ite (modBank_tables h) (.ite (settle_tables (injOverrun_tables (modBank_tables h))) (modBank_tables (modBank_tables h)))

theorem execInjectedSamplingInstant_tables {b uv} (h : TablesSound s) : NextTables (execInjectedSamplingInstant b uv s) :=
    .next (.ite (settle_tables (injSamplingInstant_tables h)) h)

theorem execInjectedConversionComplete_tables {b} (h : TablesSound s) : NextTables (execInjectedConversionComplete b s) := by
  unfold execInjectedConversionComplete
  refine .next ?_
  split
  · exact h
  · exact .ite (settle_tables (injComplete_tables h)) h

theorem execCalibrationStepStart_tables {b} (h : TablesSound s) : NextTables (execCalibrationStepStart b s) := by
  unfold execCalibrationStepStart
  exact .next (.ite (modBank_tables h) h)

theorem execCalibrationHandOver_tables {b} (h : TablesSound s) : NextTables (execCalibrationHandOver b s) := by
  unfold execCalibrationHandOver
  exact .next (.ite (modBank_tables h) h)

theorem execCalibrationMeasurementEnd_tables {b inRange coef} (h : TablesSound s) : NextTables
    (execCalibrationMeasurementEnd b inRange coef s) :=
    by
  unfold execCalibrationMeasurementEnd
  exact .next (.ite (.ite (settle_tables (sliceFailed_tables h)) (.ite (modBank_tables h) (modBank_tables h))) h)

theorem execCalibrationHandBack_tables {b} (h : TablesSound s) : NextTables (execCalibrationHandBack b s) := by
  unfold execCalibrationHandBack
  exact .next (.ite (modBank_tables h) h)

theorem execWindowComparatorAsserted_tables {ch uv} (h : TablesSound s) : NextTables (execWindowComparatorAsserted ch uv s) :=
    .next (.ite (settle_tables (assertWindow_tables h)) h)

theorem execWindowComparatorRelease_tables {ch uv} (h : TablesSound s) : NextTables (execWindowComparatorRelease ch uv s) :=
    .next (.ite (settle_tables (setWindow_tables h)) h)

/-! ## Time -/

theorem execTimeLockLost_tables (h : TablesSound s) : NextTables (execTimeLockLost s) :=
    .next (.ite (settle_tables (loseLock_tables h)) h)

theorem execTimeAdjust_tables {slot} (h : TablesSound s) : NextTables (execTimeAdjust slot s) :=
    immediate_tables (fun _ => doTimeAdjust_tables) h

theorem execTimeNowRead_tables (h : TablesSound s) : NextTables (execTimeNowRead s) :=
    .next (hostAccess_tables (fun _ => readTimeNow_tables) h)

theorem execAoTimeRead_tables (h : TablesSound s) : NextTables (execAoTimeRead s) :=
    .next (hostAccess_tables (fun _ => readAoTime_tables) h)

/-! ## Net -/

theorem execNetTx_tables {slot} (h : TablesSound s) : NextTables (execNetTx slot s) := immediate_tables (fun _ => runNetTx_tables) h

theorem execPortFrameBoundary_tables {p} (h : TablesSound s) : NextTables (execPortFrameBoundary p s) := by
  unfold execPortFrameBoundary
  exact .next (.ite (settle_tables (portBoundary_tables h)) h)

theorem execTxTimestamp_tables {p} (h : TablesSound s) : NextTables (execTxTimestamp p s) := by
  unfold execTxTimestamp
  refine .next ?_
  split
  · exact .ite h (settle_tables (txTimestamp_tables h))
  · exact h

theorem execTimeTxqE0Read_tables (h : TablesSound s) : NextTables (execTimeTxqE0Read s) :=
    .next (hostAccess_tables (fun _ => readTxq_tables) h)

theorem execNetRxPost_tables {slot} (h : TablesSound s) : NextTables (execNetRxPost slot s) :=
    immediate_tables (fun _ => doNetRxPost_tables) h

theorem execFrameReceive_tables {p frame fcsOk} (h : TablesSound s) : NextTables (execFrameReceive p frame fcsOk s) :=
    .next (.ite (settle_tables (frameReceive_tables h)) h)

theorem execSupervisionFrameSend_tables (h : TablesSound s) : NextTables (execSupervisionFrameSend s) :=
    .next (.ite (queueFrame_tables (modNet_tables h)) h)

theorem execLanSilent_tables {p} (h : TablesSound s) : NextTables (execLanSilent p s) := by
  unfold execLanSilent
  exact .next (.ite (settle_tables (raise_tables (modPort_tables h))) h)

theorem execPrpNodeExpire_tables {node} (h : TablesSound s) : NextTables (execPrpNodeExpire node s) := .next (.ite (modNet_tables h) h)

theorem execLinkUp_tables {p} (h : TablesSound s) : NextTables (execLinkUp p s) :=
    .next (.ite (settle_tables (raise_tables (unstand_tables (modPort_tables h)))) h)

theorem execLinkDown_tables {p} (h : TablesSound s) : NextTables (execLinkDown p s) :=
    .next (.ite (settle_tables (stand_tables (raise_tables (dropFrames_tables (modPort_tables h))))) h)

/-! ## Island -/

theorem execIslandLinkLost_tables {i atIsland} (h : TablesSound s) : NextTables (execIslandLinkLost i atIsland s) := by
  unfold execIslandLinkLost
  exact .next (.ite (settle_tables (linkLost_tables h)) h)

theorem execIslandLinkRelock_tables {i} (h : TablesSound s) : NextTables (execIslandLinkRelock i s) := by
  unfold execIslandLinkRelock
  exact .next (.ite (settle_tables (.ite (evaluate_tables (modIsland_tables h)) (modIsland_tables h))) h)

theorem execIslandInterlock_tables {i} (h : TablesSound s) : NextTables (execIslandInterlock i s) := by
  unfold execIslandInterlock
  extract_lets -underBinder +onlyGivenNames x
  exact .next (.ite (settle_tables (.ite (modIsland_tables (raise_tables (modIsland_tables (modUnit_tables (modUnit_tables h)))))
    (modIsland_tables (modUnit_tables (modUnit_tables h))))) h)

theorem execSwitchingTimeMeasured_tables {u turnOn vLeg fine cross} (h : TablesSound s) : NextTables
    (execSwitchingTimeMeasured u turnOn vLeg fine cross s) :=
    .next (.ite h (settle_tables (.ite (adapt_tables (modUnit_tables h)) (modUnit_tables h))))

theorem execUvlo_tables {u rail} (h : TablesSound s) : NextTables (execUvlo u rail s) :=
    .next (.ite h (settle_tables (.ite (uvloSeen_tables (modUnit_tables (softTurnOff_tables h))) (modUnit_tables
      (softTurnOff_tables h)))))

theorem execUvloRelease_tables {u rail} (h : TablesSound s) : NextTables (execUvloRelease u rail s) :=
    .next (.ite (settle_tables (.ite (unstand_tables (modUnit_tables h)) (modUnit_tables h))) h)

theorem execDesaturationArmed_tables {u} (h : TablesSound s) : NextTables (execDesaturationArmed u s) := by
  unfold execDesaturationArmed
  extract_lets -underBinder +onlyGivenNames x w
  refine .next ?_
  split
  · exact h
  · exact .ite (modUnit_tables h) h

theorem execDesaturation_tables {u sense} (h : TablesSound s) : NextTables (execDesaturation u sense s) := by
  unfold execDesaturation
  exact .next (.ite (settle_tables (desaturate_tables h)) h)

theorem execSoftTurnOffEnd_tables {u} (h : TablesSound s) : NextTables (execSoftTurnOffEnd u s) := by
  unfold execSoftTurnOffEnd
  refine .next ?_
  split
  · exact h
  · exact .ite h (settle_tables (modUnit_tables h))

theorem execComparatorSelfTest_tables {i v} (h : TablesSound s) : NextTables (execComparatorSelfTest i v s) :=
    .next (hostWord_tables (fun _ => writeIslTest_tables) h)

theorem execComparatorTestDone_tables {i pass} (h : TablesSound s) : NextTables (execComparatorTestDone i pass s) := by
  unfold execComparatorTestDone
  extract_lets -underBinder +onlyGivenNames x
  refine .next ?_
  split
  · exact h
  · exact .ite h (settle_tables (.ite (uvloFound_tables (.ite (modIsland_tables h) (raise_tables (modIsland_tables h)))) (.ite
    (modIsland_tables h) (raise_tables (modIsland_tables h)))))

theorem execIslandOverTemperature_tables {i temp} (h : TablesSound s) : NextTables (execIslandOverTemperature i temp s) := by
  unfold execIslandOverTemperature
  exact .next (.ite h (settle_tables (modIsland_tables (tempStep_tables (tempStep_tables h)))))

theorem execIslandStart_tables {i} (h : TablesSound s) : NextTables (execIslandStart i s) :=
    .next (.ite (settle_tables (startIsland_tables h)) h)

theorem execIslandReady_tables {i} (h : TablesSound s) : NextTables (execIslandReady i s) := by
  unfold execIslandReady
  exact .next (.ite (settle_tables (evaluate_tables (modUnit_tables (modUnit_tables (modIsland_tables h))))) h)

theorem execIslandStartFailed_tables {i failed} (h : TablesSound s) : NextTables (execIslandStartFailed i failed s) := by
  unfold execIslandStartFailed
  extract_lets -underBinder +onlyGivenNames x
  refine .next ?_
  split
  · exact h
  · refine .ite ?_ h
    extract_lets -underBinder +onlyGivenNames s' s'₂
    have hs' : TablesSound s' := modIsland_tables h
    have hs'₂ : TablesSound s'₂ := by
      unfold s'₂
      split
      · exact raise_tables hs'
      · exact hs'
    exact settle_tables (raise_tables hs'₂)

theorem execRebias_tables {i v} (h : TablesSound s) : NextTables (execRebias i v s) :=
    .next (hostWord_tables (fun _ => writeIslCtrl_tables) h)

theorem execIslandBlockReset_tables {i} (h : TablesSound s) : NextTables (execIslandBlockReset i s) :=
    .next (.ite (settle_tables (startStrengths_tables (modUnit_tables (startStrengths_tables (modUnit_tables (closeDebug_tables
      (modIsland_tables h))))))) h)

theorem execIslandBiasRestore_tables {i} (h : TablesSound s) : NextTables (execIslandBiasRestore i s) := by
  unfold execIslandBiasRestore
  refine .next ?_
  split
  · exact h
  · exact .ite h (settle_tables (.ite (startIsland_tables (modIsland_tables h)) (modIsland_tables h)))

/-! ## Cache -/

theorem execPrefetchIssue_tables {c} (h : TablesSound s) : NextTables (execPrefetchIssue c s) :=
    .next (.ite (settle_tables (issuePrefetch_tables (makeRoom_tables h))) h)

theorem execPrefetchLanded_tables {c} (h : TablesSound s) : NextTables (execPrefetchLanded c s) :=
    .next (.ite (settle_tables (.ite (loadEntry_tables (modRt_tables (.ite (modArb_tables h) h))) (modRt_tables (.ite
      (modArb_tables h) h)))) h)

theorem execWritebackSweep_tables (h : TablesSound s) : NextTables (execWritebackSweep s) :=
    .next (.ite (settle_tables (modLoop_tables (.forList (fun _ _ => writeBack_tables) h))) h)

/-! ## Microcode -/

theorem execLeUcodeDataWrite_tables {v} (h : TablesSound s) : NextTables (execLeUcodeDataWrite v s) :=
    .next (hostWord_tables (fun _ => writeUcode_tables) h)

theorem execVerify_tables {v} (h : TablesSound s) : NextTables (execVerify v s) :=
    .next (hostWord_tables (fun _ => writeUcodeCtrl_tables) h)

theorem execVerifyDone_tables (h : TablesSound s) : NextTables (execVerifyDone s) :=
    .next (.ite (settle_tables (verifyDone_tables h)) h)

/-! ## Run -/

theorem execContextRunComplete_tables {c} (h : TablesSound s) : NextTables (execContextRunComplete c s) :=
    .next (.ite (settle_tables (completeRun_tables h)) h)

theorem execDutyFrameSend_tables {r} (h : TablesSound s) : NextTables (execDutyFrameSend r s) := by
  unfold execDutyFrameSend
  refine .next ?_
  split
  · exact h
  · exact .ite (modLoop_tables (mrSend_tables h)) h

/-! ## CtxCmd -/

theorem ctxRow_tables {k op f} (hf : ∀ t, TablesSound t → TablesSound (f t)) (h : TablesSound s) : NextTables (ctxRow k op f s) := by
  unfold ctxRow
  exact .ite (immediate_tables (fun _ ht => hf _ ht) h) (.next h)

theorem execCtxWrite_tables {slot} (h : TablesSound s) : NextTables (execCtxWrite slot s) :=
    .ite (.next (applyOrphan_tables h)) (ctxRow_tables (fun _ => doCtxWrite_tables) h)

theorem execCtxRead_tables {slot} (h : TablesSound s) : NextTables (execCtxRead slot s) :=
    .ite (ctxRow_tables (fun _ => doCtxRead_tables) h) (.next h)

theorem execCtxEnable_tables {slot} (h : TablesSound s) : NextTables (execCtxEnable slot s) :=
    ctxRow_tables (fun _ => doCtxEnable_tables) h

theorem execCtxDisable_tables {slot} (h : TablesSound s) : NextTables (execCtxDisable slot s) :=
    ctxRow_tables (fun _ => doCtxDisable_tables) h

theorem execProbeStart_tables {slot} (h : TablesSound s) : NextTables (execProbeStart slot s) :=
    ctxRow_tables (fun _ => doProbeStart_tables) h

theorem execProbeStop_tables {slot} (h : TablesSound s) : NextTables (execProbeStop slot s) :=
    ctxRow_tables (fun _ => doProbeStop_tables) h

/-! ## Release -/

theorem execContextRelease_tables {r} (h : TablesSound s) : NextTables (execContextRelease r s) := by
  unfold execContextRelease
  refine .next ?_
  refine .ite h ?_
  refine .ite (modLoop_tables h) ?_
  split
  · exact settle_tables (.ite (releaseRegion_tables (modLoop_tables h)) (keepSets_tables (modLoop_tables h)))
  · exact .ite (settle_tables (catchUpRelease_tables h)) h

theorem execTimebaseSlot_tables (h : TablesSound s) : NextTables (execTimebaseSlot s) :=
    .next (.ite (settle_tables (beginSlot_tables h)) h)

theorem execLoopEngineHeartbeatLost_tables (h : TablesSound s) : NextTables (execLoopEngineHeartbeatLost s) :=
    .next (.ite (settle_tables (modLoop_tables (raiseFull_tables h))) h)

/-! ## Pair -/

theorem pairRow_tables {type f} (hf : ∀ a0 a1 a2 t, TablesSound t → TablesSound (f a0 a1 a2 t)) (h : TablesSound s) : NextTables
    (pairRow type f s) :=
    by
  unfold pairRow
  refine .next ?_
  split
  · exact h
  · exact .ite (settle_tables (hf _ _ _ _ (popPair_tables h))) h

theorem execDutyFrameReceive_tables {r} (h : TablesSound s) : NextTables (execDutyFrameReceive r s) := by
  unfold execDutyFrameReceive
  refine .next ?_
  split
  · exact h
  · exact .ite (settle_tables (dutyFrameReceive_tables (.of_eq h rfl))) h

theorem execDutyCopyReceive_tables (h : TablesSound s) : NextTables (execDutyCopyReceive s) :=
    pairRow_tables (fun _ _ _ _ => dutyCopyReceive_tables) h

theorem execSampleFrameReceive_tables (h : TablesSound s) : NextTables (execSampleFrameReceive s) := by
  unfold execSampleFrameReceive
  refine .next ?_
  split
  · exact h
  · refine .ite h ?_
    split
    · exact popPair_tables h
    · exact .ite h (.ite (modPairRegion_tables (popPair_tables h)) (settle_tables (.ite (releaseRegion_tables (modPairRegion_tables
      (popPair_tables h))) (keepSets_tables (modPairRegion_tables (popPair_tables h))))))

theorem execHelloSend_tables (h : TablesSound s) : NextTables (execHelloSend s) := .next (.ite (modPair_tables (pairSend_tables h)) h)

theorem execHelloReceive_tables (h : TablesSound s) : NextTables (execHelloReceive s) :=
    pairRow_tables (fun _ _ _ _ => helloReceive_tables) h

theorem execPartnerDown_tables (h : TablesSound s) : NextTables (execPartnerDown s) :=
    .next (.ite (settle_tables (raise_tables (modPair_tables h))) h)

theorem execControlDieFailed_tables {r partner} (h : TablesSound s) : NextTables (execControlDieFailed r partner s) := by
  unfold execControlDieFailed
  exact .next (.ite (settle_tables (dieFailed_tables h)) h)

theorem execFaultDeclarationReceive_tables (h : TablesSound s) : NextTables (execFaultDeclarationReceive s) :=
    pairRow_tables (fun _ _ _ _ => faultDeclared_tables) h

theorem execParameterFrameReceive_tables (h : TablesSound s) : NextTables (execParameterFrameReceive s) :=
    pairRow_tables (fun _ _ _ _ ht => .ite (parameterFrame_tables ht) ht) h

theorem execResynchronisationStart_tables {r} (h : TablesSound s) : NextTables (execResynchronisationStart r s) := by
  unfold execResynchronisationStart
  extract_lets -underBinder +onlyGivenNames p start
  have hstart : ∀ t, TablesSound t → TablesSound (start t) := fun _ => modPairRegion_tables
  exact .next (.ite h (.ite (hstart _ (modPairRegion_tables h)) (.ite (.ite (modPairRegion_tables (sendCheckpoint_tables h)) (hstart _
    (sendCheckpoint_tables h))) h)))

theorem execCheckpointChunkReceive_tables (h : TablesSound s) : NextTables (execCheckpointChunkReceive s) :=
    pairRow_tables (fun _ _ _ _ ht => .ite (checkpointChunk_tables ht) ht) h

theorem execCheckpointCommitReceive_tables (h : TablesSound s) : NextTables (execCheckpointCommitReceive s) :=
    pairRow_tables (fun _ _ _ _ ht => .ite (checkpointCommit_tables ht) ht) h

theorem execResynchronisationFailed_tables {r} (h : TablesSound s) : NextTables (execResynchronisationFailed r s) := by
  unfold execResynchronisationFailed
  extract_lets -underBinder +onlyGivenNames p
  refine .next ?_
  split
  · exact h
  · exact .ite h (settle_tables (abortResync_tables (raise_tables (modPairRegion_tables h))))

theorem execPairSwap_tables {slot} (h : TablesSound s) : NextTables (execPairSwap slot s) :=
    immediate_tables (fun _ => doPairSwap_tables) h

theorem execPairResync_tables {slot} (h : TablesSound s) : NextTables (execPairResync slot s) :=
    immediate_tables (fun _ => doPairResync_tables) h

/-! ## Events -/

theorem execEventCollect_tables (h : TablesSound s) : NextTables (execEventCollect s) := by
  unfold execEventCollect
  extract_lets -underBinder +onlyGivenNames s₂
  have hs₂ : TablesSound s₂ := .ite (trgWaiting_tables h) h
  refine .next ?_
  split
  · exact hs₂
  · exact .ite (settle_tables (collect_tables (modEvents_tables hs₂))) hs₂

theorem execFaultRecovered_tables {k} (h : TablesSound s) : NextTables (execFaultRecovered k s) := by
  unfold execFaultRecovered
  exact .next (.ite (settle_tables (reenter_tables (raise_tables (modSrc_tables h)))) h)

theorem execShadowWindowEnd_tables {w} (h : TablesSound s) : NextTables (execShadowWindowEnd w s) := .next (modEvents_tables h)

theorem execFaultClear_tables {slot} (h : TablesSound s) : NextTables (execFaultClear slot s) :=
    immediate_tables (fun _ => doFaultClear_tables) h

theorem execEventForce_tables {slot} (h : TablesSound s) : NextTables (execEventForce slot s) :=
    immediate_tables (fun _ => doEventForce_tables) h

theorem execEvtForceWrite_tables {w v} (h : TablesSound s) : NextTables (execEvtForceWrite w v s) :=
    .next (hostWord_tables (fun _ => writeForce_tables) h)

theorem execInjectionApply_tables (h : TablesSound s) : NextTables (execInjectionApply s) := by
  unfold execInjectionApply
  extract_lets -underBinder +onlyGivenNames w n d
  refine .next ?_
  refine .ite h ?_
  split
  · exact modMr_tables (injected_tables h)
  · exact h

/-! ## Arb -/

theorem execArbCommit_tables {v} (h : TablesSound s) : NextTables (execArbCommit v s) :=
    .next (hostWord_tables (fun _ => writeArbCommit_tables) h)

theorem execArbCommitApply_tables (h : TablesSound s) : NextTables (execArbCommitApply s) :=
    .next (.ite h (.ite (modArb_tables h) (settle_tables (refuseCommit_tables h))))

theorem execArbiterGrant_tables {slot prefetch requests} (h : TablesSound s) : NextTables (execArbiterGrant slot prefetch requests s) :=
    .next (.ite h (modArb_tables h))

theorem execRefresh_tables (h : TablesSound s) : NextTables (execRefresh s) := by
  unfold execRefresh
  exact .next (.ite (modArb_tables h) h)

theorem execWeirAcquire_tables {slot} (h : TablesSound s) : NextTables (execWeirAcquire slot s) :=
    immediate_tables (fun _ => doWeirAcquire_tables) h

theorem execWeirRelease_tables {slot} (h : TablesSound s) : NextTables (execWeirRelease slot s) :=
    immediate_tables (fun _ => doWeirRelease_tables) h

theorem execWeirAcquireTimedOut_tables {slot} (h : TablesSound s) : NextTables (execWeirAcquireTimedOut slot s) := by
  unfold execWeirAcquireTimedOut
  refine .next ?_
  split
  · exact h
  · exact .ite h (settle_tables (raise_tables (finish_tables (modWeir_tables h))))

theorem execWeirsReleased_tables {w} (h : TablesSound s) : NextTables (execWeirsReleased w s) :=
    .next (.ite (settle_tables (releaseWeirs_tables h)) h)

theorem execArbiterWatchdog_tables (h : TablesSound s) : NextTables (execArbiterWatchdog s) := by
  unfold execArbiterWatchdog
  refine .next ?_
  split
  · exact h
  · exact .ite h (settle_tables (resetRequester_tables (raise_tables (modArb_tables h))))

/-! ## Image -/

theorem execLoad_tables {v} (h : TablesSound s) : NextTables (execLoad v s) :=
    .next (hostWord_tables (fun _ => writeImageCtrl_tables) h)

theorem execImageLoadDone_tables {image} (h : TablesSound s) : NextTables (execImageLoadDone image s) :=
    .next (.ite (settle_tables (imageDone_tables h)) h)

/-! ## Capture -/

theorem execCaptureArm_tables {slot} (h : TablesSound s) : NextTables (execCaptureArm slot s) :=
    immediate_tables (fun _ => doCaptureArm_tables) h

theorem execCaptureTrigger_tables {k} (h : TablesSound s) : NextTables (execCaptureTrigger k s) := by
  unfold execCaptureTrigger
  extract_lets -underBinder +onlyGivenNames x
  refine .next ?_
  split
  · exact .ite (judgeNotice_tables h) h
  · exact h

theorem execCaptureDone_tables {k} (h : TablesSound s) : NextTables (execCaptureDone k s) := by
  unfold execCaptureDone
  exact .next (.ite h (.ite (settle_tables (endSession_tables h)) (.ite (settle_tables (endSession_tables h)) h)))

theorem execCaptureProgressWrite_tables {k} (h : TablesSound s) : NextTables (execCaptureProgressWrite k s) := by
  unfold execCaptureProgressWrite
  extract_lets -underBinder +onlyGivenNames x
  exact .next (.ite (settle_tables (modSess_tables (captureStore_tables (captureStore_tables (captureStore_tables h))))) h)

theorem execCaptureStop_tables {slot} (h : TablesSound s) : NextTables (execCaptureStop slot s) :=
    immediate_tables (fun _ => doCaptureStop_tables) h

theorem execCaptureCopy_tables {slot} (h : TablesSound s) : NextTables (execCaptureCopy slot s) :=
    .ite (immediate_tables (fun _ => doCaptureCopy_tables) h) (.next h)

/-! ## Rings -/

theorem execNop_tables {slot} (h : TablesSound s) : NextTables (execNop slot s) := immediate_tables (fun _ => finishOk_tables) h

theorem execBarrier_tables {slot} (h : TablesSound s) : NextTables (execBarrier slot s) :=
    immediate_tables (fun _ => doBarrier_tables) h

theorem execRestart_tables {mask} (h : TablesSound s) : NextTables (execRestart mask s) :=
    .next (hostWord_tables (fun _ ht => .forAll (fun _ _ ht₂ => .ite (restartSq_tables ht₂) ht₂) ht) h)

theorem execDoorbellPoll_tables (h : TablesSound s) : NextTables (execDoorbellPoll s) :=
    .next (.ite (.forAll (fun _ _ ht => .ite (hostRead_tables ht) ht) (.forAll (fun _ _ ht => .ite (hostRead_tables ht) ht)
      (modRings_tables h))) h)

theorem execHostDmaReadComplete_tables {id status data} (h : TablesSound s) : NextTables (execHostDmaReadComplete id status data s) := by
  unfold execHostDmaReadComplete
  refine .next ?_
  split
  · exact h
  · exact settle_tables (.ite (readDone_tables (modHost_tables h)) (readFailed_tables (modHost_tables h)))

theorem execHostDmaError_tables {id} (h : TablesSound s) : NextTables (execHostDmaError id s) := by
  unfold execHostDmaError
  refine .next ?_
  split
  · exact h
  · exact .ite h (settle_tables (readFailed_tables (modHost_tables h)))

theorem execHostSilent_tables (h : TablesSound s) : NextTables (execHostSilent s) := by
  unfold execHostSilent
  exact .next (.ite (settle_tables (raise_tables (modHost_tables h))) h)

theorem execPcieEndpointReset_tables (h : TablesSound s) : NextTables (execPcieEndpointReset s) :=
    .next (.ite h (settle_tables (endpointResets_tables (closeDebug_tables (modPower_tables h)))))

theorem execPcieLinkDown_tables (h : TablesSound s) : NextTables (execPcieLinkDown s) :=
    .next (.ite (settle_tables (stand_tables (raise_tables (modHost_tables h)))) h)

theorem execPcieLinkReturn_tables (h : TablesSound s) : NextTables (execPcieLinkReturn s) :=
    .next (.ite h (settle_tables (deliverHeld_tables (unstand_tables (modHost_tables h)))))

theorem execPostedWriteErrorReported_tables {addr req} (h : TablesSound s) : NextTables (execPostedWriteErrorReported addr req s) :=
    .next (settle_tables (hostError_tables h))

theorem execDescriptorAccept_tables {q} (h : TablesSound s) : NextTables (execDescriptorAccept q s) := by
  unfold execDescriptorAccept
  extract_lets -underBinder +onlyGivenNames x
  refine .next ?_
  split
  · exact h
  · refine .ite h ?_
    refine .ite (.ite h (settle_tables (raise_tables (modSq_tables h)))) ?_
    refine .ite h ?_
    split
    · exact settle_tables (acceptInto_tables h)
    · exact h

theorem execJournalAcknowledge_tables {slot} (h : TablesSound s) : NextTables (execJournalAcknowledge slot s) := by
  unfold execJournalAcknowledge
  refine .next ?_
  split
  · exact .ite (ackOne_tables h) h
  · exact h

theorem execCompletionPost_tables {slot} (h : TablesSound s) : NextTables (execCompletionPost slot s) := by
  unfold execCompletionPost
  refine .next ?_
  refine .ite ?_ h
  split
  · exact postEntry_tables h
  · exact h

theorem execMsixSignal_tables {m} (h : TablesSound s) : NextTables (execMsixSignal m s) :=
    .next (.ite (signalVector_tables (modCq_tables h)) h)

theorem execPatrolScrub_tables {journal line} (h : TablesSound s) : NextTables (execPatrolScrub journal line s) := by
  unfold execPatrolScrub
  refine .next ?_
  refine .ite ?_ ?_
  · split
    · exact settle_tables (readJournal_tables h)
    · exact h
  · refine .ite ?_ h
    split
    · exact settle_tables (readLine_tables h)
    · exact h

/-! ## Replay -/

theorem execTimedActionDue_tables {slot} (h : TablesSound s) : NextTables (execTimedActionDue slot s) := by
  unfold execTimedActionDue
  refine .next ?_
  split
  · exact h
  · exact .ite (fetchData_tables h) (.ite (settle_tables (applyCommand_tables h)) h)

theorem execJournalReplay_tables {readBack} (h : TablesSound s) : NextTables (execJournalReplay readBack s) :=
    .next (.ite h (settle_tables (deliverHeld_tables (raise_tables (modRings_tables (.forList (fun _ _ => replayEntry_tables)
      (modRings_tables (.forList (fun _ _ => readJournal_tables) h))))))))

/-! ## Millrace -/

theorem execMillraceFrameBoundary_tables {d} (h : TablesSound s) : NextTables (execMillraceFrameBoundary d s) :=
    .next (.ite (sendNext_tables h) h)

theorem execMillraceFrameReceive_tables {d skip err} (h : TablesSound s) : NextTables (execMillraceFrameReceive d skip err s) :=
    .next (.ite (settle_tables (frameArrives_tables h)) h)

theorem execMillraceLinkFailure_tables {d cause} (h : TablesSound s) : NextTables (execMillraceLinkFailure d cause s) :=
    .next (.ite (settle_tables (linkFails_tables (dropLock_tables h))) h)

/-! ## SafetyFns -/

theorem execSafetyInputChange_tables {c x noDemand lasted} (h : TablesSound s) : NextTables
    (execSafetyInputChange c x noDemand lasted s) :=
    .next (.ite (settle_tables (discCleared_tables (discCleared_tables (modSafCh_tables h)))) h)

theorem execDiscrepancyFault_tables {c p} (h : TablesSound s) : NextTables (execDiscrepancyFault c p s) := by
  unfold execDiscrepancyFault
  exact .next (.ite (settle_tables (latchDisc_tables h)) h)

theorem execStartUpTestPassed_tables {c} (h : TablesSound s) : NextTables (execStartUpTestPassed c s) := by
  unfold execStartUpTestPassed
  exact .next (.ite (settle_tables (raise_tables (modSafCh_tables h))) h)

theorem execSupplyPulseTest_tables {sup c followed} (h : TablesSound s) : NextTables (execSupplyPulseTest sup c followed s) := by
  unfold execSupplyPulseTest
  extract_lets -underBinder +onlyGivenNames x wrong t t₂ t₃ t₄
  have ht : TablesSound t := .ite (latchDisc_tables h) h
  have ht₂ : TablesSound t₂ := .ite (latchDisc_tables ht) ht
  have ht₃ : TablesSound t₃ := .ite (modSafCh_tables ht₂) ht₂
  have ht₄ : TablesSound t₄ := .ite (modSafCh_tables ht₃) ht₃
  exact .next (.ite (settle_tables (modSafCh_tables ht₄)) h)

theorem execSecondPathDecode_tables {halves idle} (h : TablesSound s) : NextTables (execSecondPathDecode halves idle s) := by
  unfold execSecondPathDecode
  exact .next (.ite (settle_tables (.ite (wireAbsent_tables h) (modSaf_tables h))) h)

theorem execGateEnable_tables (h : TablesSound s) : NextTables (execGateEnable s) := .next (.ite (settle_tables (modSaf_tables h)) h)

theorem execChannel2Rejoined_tables (h : TablesSound s) : NextTables (execChannel2Rejoined s) := by
  unfold execChannel2Rejoined
  refine .next ?_
  split
  · exact h
  · exact .ite (settle_tables (unstand_tables (raise_tables (raise_tables (modSaf_tables h))))) h

theorem execChannel2AbsentTooLong_tables (h : TablesSound s) : NextTables (execChannel2AbsentTooLong s) :=
    .next (.ite (settle_tables (stand_tables (raise_tables (modSaf_tables h)))) h)

theorem execChannel2DidNotFollowDemand_tables (h : TablesSound s) : NextTables (execChannel2DidNotFollowDemand s) :=
    .next (.ite (settle_tables (stand_tables (raise_tables (modSaf_tables h)))) h)

theorem execPath1ReadbackPulse_tables {ok railsOff} (h : TablesSound s) : NextTables (execPath1ReadbackPulse ok railsOff s) :=
    .next (.ite (settle_tables (judgePath2_tables (judgePath1_tables (modSaf_tables h)))) h)

theorem execChannel1SelfTest_tables {ok} (h : TablesSound s) : NextTables (execChannel1SelfTest ok s) := by
  unfold execChannel1SelfTest
  extract_lets -underBinder +onlyGivenNames t
  have ht : TablesSound t := noteCheck_tables h
  exact .next (.ite h (.ite (settle_tables (modSafCh_tables ht)) (settle_tables (stand_tables (raise_tables (modSafCh_tables ht))))))

theorem execChannel2SelfCheck_tables {ok} (h : TablesSound s) : NextTables (execChannel2SelfCheck ok s) := by
  unfold execChannel2SelfCheck
  extract_lets -underBinder +onlyGivenNames n
  have hn : TablesSound n := noteCheck_tables h
  exact .next (.ite h (.ite (settle_tables (unstand_tables (modSafCh_tables hn))) (settle_tables (.ite (modSafCh_tables hn)
    (stand_tables (raise_tables (modSafCh_tables hn)))))))

theorem execSafeOutputReadbackFault_tables {c o} (h : TablesSound s) : NextTables (execSafeOutputReadbackFault c o s) :=
    .next (.ite (settle_tables (modSo_tables h)) h)

theorem execSoTestPulse_tables {c} (h : TablesSound s) : NextTables (execSoTestPulse c s) := by
  unfold execSoTestPulse
  exact .next (.ite (settle_tables (modSafCh_tables h)) h)

theorem execSoTestPulseEnd_tables {c fallA fallB} (h : TablesSound s) : NextTables (execSoTestPulseEnd c fallA fallB s) := by
  unfold execSoTestPulseEnd
  extract_lets -underBinder +onlyGivenNames x t t₂
  have ht : TablesSound t := .ite (judgeTest_tables h) h
  have ht₂ : TablesSound t₂ := .ite (judgeTest_tables ht) ht
  exact .next (.ite (settle_tables (modSafCh_tables ht₂)) h)

theorem execSafeOutputOverload_tables {o milliamps lasted} (h : TablesSound s) : NextTables
    (execSafeOutputOverload o milliamps lasted s) :=
    .next (.ite (settle_tables (stand_tables (raise_tables (modSo_tables h)))) h)

theorem execContactorFeedbackFault_tables {c o} (h : TablesSound s) : NextTables (execContactorFeedbackFault c o s) := by
  unfold execContactorFeedbackFault
  extract_lets -underBinder +onlyGivenNames f d
  exact .next (.ite (.ite (settle_tables (stand_tables (raise_tables (modSo_tables h)))) (.ite (settle_tables (stand_tables
    (raise_tables (modSo_tables h)))) h)) h)

theorem execSf2FaultCleared_tables {o} (h : TablesSound s) : NextTables (execSf2FaultCleared o s) := by
  unfold execSf2FaultCleared
  extract_lets -underBinder +onlyGivenNames f t
  have ht : TablesSound t := raise_tables (modSo_tables h)
  exact .next (.ite (settle_tables (.ite ht (unstand_tables ht))) h)

theorem execDchOverload_tables {shorted milliamps lasted} (h : TablesSound s) : NextTables
    (execDchOverload shorted milliamps lasted s) :=
    .next (.ite (settle_tables (modSaf_tables h)) h)

theorem execDchRetry_tables {again} (h : TablesSound s) : NextTables (execDchRetry again s) := by
  unfold execDchRetry
  refine .next ?_
  split
  · exact h
  · exact .ite (settle_tables (modSaf_tables h)) h

theorem execCdrvOverload_tables {milliamps lasted} (h : TablesSound s) : NextTables (execCdrvOverload milliamps lasted s) :=
    .next (.ite (settle_tables (.of_eq h rfl)) h)

theorem execCdSafRestarted_tables (h : TablesSound s) : NextTables (execCdSafRestarted s) :=
    .next (.ite h (settle_tables (raise_tables (unstand_tables (unstand_tables (modSaf_tables (channelPowerUp_tables
      (wireAbsent_tables (modPower_tables h)))))))))

/-! ## PowerRows -/

theorem execInputLow_tables {mv} (h : TablesSound s) : NextTables (execInputLow mv s) :=
    .next (.ite h (settle_tables (raise_tables (modPower_tables h))))

theorem execInputLowCleared_tables {mv} (h : TablesSound s) : NextTables (execInputLowCleared mv s) :=
    .next (.ite (modPower_tables h) h)

theorem execInputLoss_tables {mv mj} (h : TablesSound s) : NextTables (execInputLoss mv mj s) :=
    .next (.ite h (noteStore_tables (modPower_tables h)))

theorem execInputReturn_tables {mv mj} (h : TablesSound s) : NextTables (execInputReturn mv mj s) :=
    .next (.ite h (.ite (settle_tables (unstand_tables (modPower_tables (inputBack_tables (noteStore_tables h))))) (.ite
      (settle_tables (raise_tables (modPower_tables (inputBack_tables (noteStore_tables h))))) (inputBack_tables
      (noteStore_tables h)))))

theorem execPdNetRestarted_tables (h : TablesSound s) : NextTables (execPdNetRestarted s) :=
    .next (.ite h (settle_tables (raise_tables (netUp_tables (modPower_tables h)))))

theorem execPdIsoRestart_tables (h : TablesSound s) : NextTables (execPdIsoRestart s) := by
  unfold execPdIsoRestart
  refine .next ?_
  split
  · exact h
  · exact .ite h (settle_tables (unstand_tables (modPower_tables h)))

theorem execMemsReferenceLost_tables {edgelessNs diff} (h : TablesSound s) : NextTables (execMemsReferenceLost edgelessNs diff s) :=
    .next (.ite h (settle_tables (cDieDown_tables (pDieDown_tables (stand_tables (raiseNow_tables (modPower_tables h)))))))

theorem execMemsReferenceRecovered_tables {us} (h : TablesSound s) : NextTables (execMemsReferenceRecovered us s) :=
    .next (.ite (settle_tables (unstand_tables (modPower_tables h))) h)

theorem execPllLockLost_tables {pll} (h : TablesSound s) : NextTables (execPllLockLost pll s) := by
  unfold execPllLockLost
  extract_lets -underBinder +onlyGivenNames p t
  have hp : TablesSound p.2 := fresh_tables h
  have ht : TablesSound t := raise_tables hp
  refine .next ?_
  split
  · exact .ite (settle_tables (pDieDown_tables (modPower_tables ht))) h
  · exact .ite (settle_tables (cDieDown_tables (modPower_tables ht))) h
  · exact .ite (settle_tables (cDieDown_tables (modPower_tables ht))) h

theorem execAoClockMeasure_tables {err} (h : TablesSound s) : NextTables (execAoClockMeasure err s) :=
    .next (.ite h (.ite (settle_tables (raise_tables (modPower_tables h))) (modPower_tables h)))

theorem execCDieWarmReset_tables (h : TablesSound s) : NextTables (execCDieWarmReset s) := .next (settle_tables (cDieDown_tables h))

theorem execAutoCDieReset_tables (h : TablesSound s) : NextTables (execAutoCDieReset s) := by
  unfold execAutoCDieReset
  refine .next ?_
  split
  · exact h
  · exact .ite (settle_tables (cDieDown_tables h)) h

theorem execPDieWarmReset_tables (h : TablesSound s) : NextTables (execPDieWarmReset s) := .next (settle_tables (pDieDown_tables h))

theorem execMemInitComplete_tables (h : TablesSound s) : NextTables (execMemInitComplete s) := .next (.ite (.of_eq h rfl) h)

theorem execModuleTemperature_tables {temp} (h : TablesSound s) : NextTables (execModuleTemperature temp s) :=
    .next (.ite h (settle_tables (modPower_tables (tempStep_tables (tempStep_tables h)))))

/-! ## Setup -/

theorem execSoOnRequest_tables {v} (h : TablesSound s) : NextTables (execSoOnRequest v s) :=
    .next (hostWord_tables (fun _ => writeSoReq_tables) h)

theorem execDebugOpen_tables {v} (h : TablesSound s) : NextTables (execDebugOpen v s) :=
    .next (hostWord_tables (fun _ => writeDbg_tables) h)

theorem execDbgRead_tables {v} (h : TablesSound s) : NextTables (execDbgRead v s) :=
    .next (hostWord_tables (fun _ => writeDbgCtrl_tables) h)

theorem execDbgWrite_tables {v} (h : TablesSound s) : NextTables (execDbgWrite v s) :=
    .next (hostWord_tables (fun _ => writeDbgCtrl_tables) h)

theorem execDebugAccessDone_tables (h : TablesSound s) : NextTables (execDebugAccessDone s) := by
  unfold execDebugAccessDone
  refine .next ?_
  split
  · exact h
  · refine .ite h ?_
    extract_lets -underBinder +onlyGivenNames t
    have ht : TablesSound t := .ite (debugWrite_tables h) (debugRead_tables h)
    exact settle_tables (.of_eq ht rfl)

/-! ## Access -/

theorem execPDieAccessTimeout_tables (h : TablesSound s) : NextTables (execPDieAccessTimeout s) := by
  unfold execPDieAccessTimeout
  refine .next ?_
  split
  · exact h
  · exact .ite (.ite (readAs_tables (modHost_tables h)) (modHost_tables h)) h

/-! ## FormingRows -/

theorem afterRun_tables {c t may f} (hf : ∀ a0 t, TablesSound t → TablesSound (f a0 t)) (h : TablesSound s) : NextTables
    (afterRun c t may f s) :=
    by
  unfold afterRun
  refine .next ?_
  split
  · exact h
  · exact .ite (settle_tables (hf _ _ h)) h

theorem execBusDeclaredDead_tables {c} (h : TablesSound s) : NextTables (execBusDeclaredDead c s) :=
    afterRun_tables (fun _ _ => declareDead_tables) h

theorem execStartDelayExpire_tables {c} (h : TablesSound s) : NextTables (execStartDelayExpire c s) :=
    afterRun_tables (fun _ _ => decideStart_tables) h

theorem execContactorFailedToClose_tables {c} (h : TablesSound s) : NextTables (execContactorFailedToClose c s) :=
    afterRun_tables (fun _ _ => modSeqr_tables) h

theorem execContactorOpenedWithoutCommand_tables {c} (h : TablesSound s) : NextTables (execContactorOpenedWithoutCommand c s) :=
    afterRun_tables (fun _ _ => modSeqr_tables) h

theorem execBsHoldElapsed_tables {c} (h : TablesSound s) : NextTables (execBsHoldElapsed c s) :=
    afterRun_tables (fun _ _ => modSeqr_tables) h

theorem execSyncWindowsHeld_tables {c} (h : TablesSound s) : NextTables (execSyncWindowsHeld c s) :=
    afterRun_tables (fun _ _ => setOutVal_tables) h

theorem execSyncWindowsNotMet_tables {c} (h : TablesSound s) : NextTables (execSyncWindowsNotMet c s) :=
    afterRun_tables (fun _ _ => modSeqr_tables) h

theorem execStopFactorZero_tables {c} (h : TablesSound s) : NextTables (execStopFactorZero c s) :=
    afterRun_tables (fun _ _ => modSeqr_tables) h

theorem execEnvExitElapsed_tables {c} (h : TablesSound s) : NextTables (execEnvExitElapsed c s) :=
    afterRun_tables (fun _ _ => transition_tables) h

theorem execGapResumeElapsed_tables {c} (h : TablesSound s) : NextTables (execGapResumeElapsed c s) :=
    afterRun_tables (fun _ _ => transition_tables) h

theorem execAnchorFreezeEnd_tables {c} (h : TablesSound s) : NextTables (execAnchorFreezeEnd c s) :=
    afterRun_tables (fun _ _ => modRt_tables) h

theorem execRampComplete_tables {c} (h : TablesSound s) : NextTables (execRampComplete c s) := by
  unfold execRampComplete
  split
  · exact .next h
  · exact afterRun_tables (fun _ _ => modRt_tables) h

theorem execBlendEnd_tables {c} (h : TablesSound s) : NextTables (execBlendEnd c s) := afterRun_tables (fun _ _ => endBlend_tables) h

theorem execFoldBackStart_tables {c} (h : TablesSound s) : NextTables (execFoldBackStart c s) :=
    afterRun_tables (fun _ _ ht => raiseFull_tables (setSw_tables (modRt_tables ht))) h

theorem execSweepStart_tables {c} (h : TablesSound s) : NextTables (execSweepStart c s) :=
    afterRun_tables (fun _ _ ht => beginPoint_tables (modRt_tables ht)) h

theorem execSweepPointEnd_tables {c} (h : TablesSound s) : NextTables (execSweepPointEnd c s) :=
    afterRun_tables (fun _ _ ht => .ite (endSweep_tables (modRt_tables ht)) (beginPoint_tables (modRt_tables ht))) h

/-! ## Status -/

theorem execSafetySetUpdate_tables (h : TablesSound s) : NextTables (execSafetySetUpdate s) :=
    .next (.ite (settle_tables (devUpdate_tables (fun _ => writeSafSet_tables) h)) h)

theorem execNetworkCounterUpdate_tables (h : TablesSound s) : NextTables (execNetworkCounterUpdate s) :=
    .next (.ite (settle_tables (devUpdate_tables (fun _ => writeNetSet_tables) h)) h)

/-! ## Gate -/

theorem keepWord_tables {off w} (h : TablesSound s) : TablesSound (keepWord off w s) :=
  .ite (.of_eq h rfl) (.of_eq h rfl)

theorem writeWord_tables {off v} (h : TablesSound s) : TablesSound (writeWord off v s) := by
  unfold writeWord
  split
  · exact h
  · exact .ite (rwsWritten_tables (.ite h (keepWord_tables h))) (.ite h (keepWord_tables h))

/-! ## Access -/

theorem writeLanes_tables {r v} (h : TablesSound s) : TablesSound (writeLanes r v s) :=
    .ite (raise_tables h) (.ite (writeWord_tables h) (dispatch_tables (showTbLimit_tables (writeWord_tables h))))

theorem writeTbLanes_tables {v} (h : TablesSound s) : TablesSound (writeTbLanes v s) :=
    .ite (writeWord_tables h) (dispatch_tables (showTbLimit_tables (writeWord_tables h)))

/-! ## Time -/

theorem writeLockCfg_tables {v} (h : TablesSound s) : TablesSound (writeLockCfg v s) := loseLock_tables (writeWord_tables h)

/-! ## Events -/

theorem writeInjCtrl_tables {v} (h : TablesSound s) : TablesSound (writeInjCtrl v s) :=
    .ite (.ite (modEvents_tables (keepWord_tables h)) (keepWord_tables h)) (.ite (modEvents_tables h) h)

theorem writeInjAddr_tables {v} (h : TablesSound s) : TablesSound (writeInjAddr v s) := .ite (keepWord_tables h) h

/-! ## Filter -/

theorem writeTrg_tables {u off v} (h : TablesSound s) : TablesSound (writeTrg u off v s) := by
  unfold writeTrg
  extract_lets -underBinder +onlyGivenNames s₂ bad s₃ s₄
  have hs₂ : TablesSound s₂ := modTrig_tables (writeWord_tables h)
  have hs₃ : TablesSound s₃ := .ite (raise_tables hs₂) hs₂
  have hs₄ : TablesSound s₄ := modTrig_tables hs₃
  exact .ite hs₄ (trgTake_tables hs₄)

/-! ## Adc -/

theorem writeWin_tables {ch off v} (h : TablesSound s) : TablesSound (writeWin ch off v s) := standWindow_tables (writeWord_tables h)

/-! ## Filter -/

theorem writeFltSrc_tables {n v} (h : TablesSound s) : TablesSound (writeFltSrc n v s) := by
  unfold writeFltSrc
  exact .ite (modChain_tables (writeWord_tables h)) (.ite (modChain_tables (writeWord_tables h)) (writeWord_tables h))

/-! ## Setup -/

theorem makeSeal_tables (h : TablesSound s) : TablesSound (makeSeal s) := by
  unfold makeSeal
  extract_lets -underBinder +onlyGivenNames s₂ s₃ s₄
  have hs₂ : TablesSound s₂ := modPower_tables h
  have hs₃ : TablesSound s₃ := enterDev_tables (.of_eq hs₂ rfl)
  have hs₄ : TablesSound s₄ := copyParams_tables (sealChains_tables (startBanks_tables (sealRings_tables (sealNet_tables hs₃))))
  exact .ite (raise_tables hs₄) hs₄

theorem writeSeal_tables {v} (h : TablesSound s) : TablesSound (writeSeal v s) := .ite h (.ite (makeSeal_tables h) (modPower_tables h))

/-! ## Power -/

theorem restoreRegs_tables {d} (h : TablesSound s) : TablesSound (restoreRegs d s) := .of_eq h rfl

theorem cDieUp_tables (h : TablesSound s) : TablesSound (cDieUp s) := by
  unfold cDieUp
  extract_lets -underBinder +onlyGivenNames s₂ s₃ s₄ s₅ s₆ p
  have hs₂ : TablesSound s₂ := modPower_tables h
  have hs₃ : TablesSound s₃ := modSafCh_tables hs₂
  have hs₄ : TablesSound s₄ := closeCDieWindow_tables (endDieSafe_tables (restoreRegs_tables hs₃))
  have hs₅ : TablesSound s₅ := .ite (loseMemory_tables hs₄) hs₄
  have hs₆ : TablesSound s₆ := resumeContexts_tables (reloadCode_tables (modLoop_tables hs₅))
  have hp : TablesSound p.2 := fresh_tables hs₆
  exact reportOrphans_tables (startReplay_tables (raise_tables hp))

theorem pDieUp_tables (h : TablesSound s) : TablesSound (pDieUp s) := by
  unfold pDieUp
  extract_lets -underBinder +onlyGivenNames core s₂ s₃ s₄ s₅ p
  have hs₂ : TablesSound s₂ := restoreRegs_tables (modPower_tables h)
  have hs₃ : TablesSound s₃ := .ite hs₂ (channel1PowerUp_tables hs₂)
  have hs₄ : TablesSound s₄ := .forAll (fun _ _ => standWindow_tables) (restartTrigs_tables (startBanks_tables hs₃))
  have hs₅ : TablesSound s₅ := netUp_tables hs₄
  have hp : TablesSound p.2 := fresh_tables hs₅
  exact startReplay_tables (raise_tables hp)

/-- What the AO domain keeps holds no memory and no journal (R537). -/
theorem aoOnly_tables (s : State) : TablesSound (aoOnly s) := ⟨rfl, rfl, rfl⟩

theorem powerOn_tables (s : State) : TablesSound (powerOn s) := modPower_tables (aoAlone_tables ⟨rfl, rfl, rfl⟩)

theorem goStabled_tables (s : State) : TablesSound (goStabled s) := modPower_tables (aoAlone_tables (aoOnly_tables _))

theorem wakeUp_tables (last : BitVec 3) (cause : BitVec 6) (s : State) : TablesSound (wakeUp last cause s) := by
  unfold wakeUp
  extract_lets t
  have ht : TablesSound t := modEvents_tables (modPower_tables (aoAlone_tables (aoOnly_tables _)))
  exact .ite (stand_tables ht) ht

theorem enterStabled_tables (s : State) : TablesSound (enterStabled s) := goStabled_tables _

theorem packageReset_tables (s : State) : TablesSound (packageReset s) := wakeUp_tables _ _ _

theorem powerFail_tables (h : TablesSound s) : TablesSound (powerFail s) :=
    .ite (signalFail_tables (goStabled_tables _)) (.ite (signalFail_tables h) (powerFailHandling_tables (signalFail_tables h)))

/-! ## PowerRows -/

theorem domainLost_tables {d} (h : TablesSound s) : TablesSound (domainLost d s) := by
  unfold domainLost
  extract_lets -underBinder +onlyGivenNames bit mark
  have hmark : ∀ t, TablesSound t → TablesSound (mark t) := fun _ => modPower_tables
  split
  · exact powerOn_tables _
  · exact hmark _ (pDieDown_tables h)
  · exact hmark _ (pDieDown_tables h)
  · exact hmark _ (netOff_tables (markOutage_tables h))
  · exact stand_tables (raise_tables (modPower_tables (hmark _ h)))
  · exact hmark _ (cDieDown_tables h)
  · exact hmark _ (cDieDown_tables h)
  · exact endpointResets_tables (hmark _ (cDieDown_tables h))
  · exact releaseWeirs_tables (wireAbsent_tables (modSafCh_tables (modPower_tables (hmark _ h))))
  · exact hmark _ (cDieDown_tables (modPower_tables h))

/-! ## Power -/

theorem pwrAction_tables {n a} (ha : pwrAction n = some a) (h : TablesSound s) : TablesSound (a.2.2 s) := by
  unfold pwrAction at ha
  split at ha <;> cases ha <;> dsimp only
  · exact enterDev_tables h
  · exact leaveService_tables h
  · exact enterStabled_tables _
  · exact cDieDown_tables h
  · exact packageReset_tables _
  · exact pDieDown_tables h

theorem writePwrCmd_tables {v} (h : TablesSound s) : TablesSound (writePwrCmd v s) := by
  unfold writePwrCmd
  refine .ite (cmdResult_tables h) ?_
  split
  · exact cmdResult_tables h
  · rename_i a ha
    exact .ite (cmdResult_tables h) (.ite (cmdResult_tables h) (pwrAction_tables ha (cmdResult_tables h)))

/-! ## Access -/

/-- Every register with a behaviour of its own keeps the tables sound when it is written. -/
theorem writers_tables : ∀ w ∈ writers, ∀ i v s, TablesSound s → TablesSound (w.2.2.2 i v s) := by
  simp only [writers, List.forall_mem_append, List.forall_mem_cons, List.not_mem_nil, false_imp_iff, implies_true, and_true]
  and_intros <;> intro i v s h
  · exact writeSeal_tables h
  · exact writeDbg_tables h
  · exact writePwrCmd_tables h
  · exact writeDomStatus_tables h
  · exact writeRingCtrl_tables h
  · exact writeInjCtrl_tables h
  · exact writeInjAddr_tables h
  · exact writeInjStatus_tables h
  · exact writeForce_tables h
  · exact writeFecInfo_tables h
  · exact writeIslStatus_tables h
  · exact writeIslTest_tables h
  · exact writeIslCtrl_tables h
  · exact writeInjSw_tables h
  · exact writeWinst_tables h
  · exact writeFltSrc_tables h
  · exact writeTrg_tables h
  · exact writeTrg_tables h
  · exact writeTrg_tables h
  · exact writeTrg_tables h
  · exact writeTrgCmd_tables h
  · exact writeLanes_tables h
  · exact writeTbLanes_tables h
  · exact writeUcodeAddr_tables h
  · exact writeUcode_tables h
  · exact writeUcodeCtrl_tables h
  · exact writeImageCtrl_tables h
  · exact writeTimeStatus_tables h
  · exact writeLockCfg_tables h
  · exact writeSoReq_tables h
  · exact writeArbOrder_tables h
  · exact writeArbCfg_tables h
  · exact writeArbCommit_tables h
  · exact writeArbStatus_tables h
  · exact writeDbgAddr_tables h
  · exact writeDbgCtrl_tables h
  · exact writeDbgLine_tables h
  · intro t ht
    obtain ⟨b, -, rfl⟩ := List.mem_map.1 v
    exact writeWin_tables ht

theorem regWrite_tables {off v} (h : TablesSound s) : TablesSound (regWrite off v s) := by
  unfold regWrite
  split
  · rename_i f hf
    obtain ⟨w, hw, hi⟩ := List.exists_of_findSome?_eq_some hf
    obtain ⟨i, -, rfl⟩ := Option.map_eq_some_iff.1 hi
    exact writers_tables w hw i v s h
  · exact writeWord_tables h

theorem writeReg_tables {off v} (h : TablesSound s) : TablesSound (writeReg off v s) :=
    .ite (.ite (writeMsix_tables h) h) (hostWord_tables (fun _ => regWrite_tables) h)

theorem hostStore_tables {off v size} (h : TablesSound s) : TablesSound (hostStore off v size s) := by
  unfold hostStore
  exact .ite (writeReg_tables (writeReg_tables h)) (.ite (writeReg_tables h) h)

theorem serveAccess_tables {a} (h : TablesSound s) : TablesSound (serveAccess a s) :=
    .ite (readEffect_tables h) (settle_tables (regWrite_tables h))

theorem serveAccesses_tables (h : TablesSound s) : TablesSound (serveAccesses s) :=
    .forList (fun _ _ => serveAccess_tables) (modHost_tables h)

theorem linkReturns_tables (h : TablesSound s) : TablesSound (linkReturns s) := by
  unfold linkReturns
  extract_lets -underBinder +onlyGivenNames s₂ s₃ s₄
  have hs₂ : TablesSound s₂ := syncTime_tables (.of_eq h rfl)
  have hs₃ : TablesSound s₃ := deliverEvents_tables (unstand_tables hs₂)
  have hs₄ : TablesSound s₄ := .ite (startReplay_tables hs₃) hs₃
  exact serveAccesses_tables (.ite (wantResync_tables hs₄) hs₄)

/-! ## Filter -/

theorem execTriggerConfigWrite_tables {u w v} (h : TablesSound s) : NextTables (execTriggerConfigWrite u w v s) := by
  unfold execTriggerConfigWrite
  exact .next (hostWord_tables (fun _ => writeTrg_tables) h)

theorem execChannelSwitch_tables {n v} (h : TablesSound s) : NextTables (execChannelSwitch n v s) :=
    .next (hostWord_tables (fun _ => writeFltSrc_tables) h)

theorem execFreeze_tables {n v} (h : TablesSound s) : NextTables (execFreeze n v s) :=
    .next (hostWord_tables (fun _ => writeFltSrc_tables) h)

theorem execUnfreeze_tables {n v} (h : TablesSound s) : NextTables (execUnfreeze n v s) :=
    .next (hostWord_tables (fun _ => writeFltSrc_tables) h)

/-! ## Time -/

theorem execTimeLockCfgWrite_tables {v} (h : TablesSound s) : NextTables (execTimeLockCfgWrite v s) :=
    .next (hostWord_tables (fun _ => writeLockCfg_tables) h)

/-! ## Events -/

theorem execArm_tables {v} (h : TablesSound s) : NextTables (execArm v s) := .next (hostWord_tables (fun _ => writeInjCtrl_tables) h)

/-! ## Power -/

theorem pwrCmd_tables {key action} (h : TablesSound s) : NextTables (pwrCmd key action s) := by
  unfold pwrCmd
  exact .next (hostWord_tables (fun _ => writePwrCmd_tables) h)

theorem execEnterService_tables {key} (h : TablesSound s) : NextTables (execEnterService key s) := pwrCmd_tables h

theorem execLeaveService_tables {key} (h : TablesSound s) : NextTables (execLeaveService key s) := pwrCmd_tables h

theorem execEnterStabled_tables {key} (h : TablesSound s) : NextTables (execEnterStabled key s) := pwrCmd_tables h

theorem execPwrCmdCDieWarmReset_tables {key} (h : TablesSound s) : NextTables (execPwrCmdCDieWarmReset key s) := pwrCmd_tables h

theorem execPwrCmdPackageWarmReset_tables {key} (h : TablesSound s) : NextTables (execPwrCmdPackageWarmReset key s) := pwrCmd_tables h

theorem execPwrCmdPDieWarmReset_tables {key} (h : TablesSound s) : NextTables (execPwrCmdPDieWarmReset key s) := pwrCmd_tables h

/-! ## PowerRows -/

theorem execPowerFail_tables {mj} (h : TablesSound s) : NextTables (execPowerFail mj s) :=
    .next (.ite (settle_tables (powerFail_tables (noteStore_tables h))) h)

theorem execStoreAoReserve_tables {mj} (h : TablesSound s) : NextTables (execStoreAoReserve mj s) :=
    .next (.ite (settle_tables (goStabled_tables _)) h)

theorem execPowerOnReset_tables : NextTables (execPowerOnReset s) := .next (settle_tables (powerOn_tables _))

theorem execDomainRegulationLoss_tables {dom} (h : TablesSound s) : NextTables (execDomainRegulationLoss dom s) :=
    .next (.ite (settle_tables (domainLost_tables h)) h)

theorem execCDieResetEnd_tables (h : TablesSound s) : NextTables (execCDieResetEnd s) :=
    .next (.ite h (settle_tables (cDieUp_tables h)))

theorem execPDieResetEnd_tables (h : TablesSound s) : NextTables (execPDieResetEnd s) :=
    .next (.ite h (settle_tables (pDieUp_tables h)))

theorem execWake_tables {cause lasted mv} (h : TablesSound s) : NextTables (execWake cause lasted mv s) :=
    .next (.ite (settle_tables (wakeUp_tables _ _ _)) h)

/-! ## Setup -/

theorem execSetupSeal_tables {v} (h : TablesSound s) : NextTables (execSetupSeal v s) :=
    .next (hostWord_tables (fun _ => writeSeal_tables) h)

/-! ## Access -/

theorem execRegisterWrite_tables {off v size} (h : TablesSound s) : NextTables (execRegisterWrite off v size s) :=
    .next (hostStore_tables h)

theorem execMillraceLinkUp_tables (h : TablesSound s) : NextTables (execMillraceLinkUp s) :=
    .next (.ite (settle_tables (linkReturns_tables h)) h)

/-! ## Every command, every step -/

theorem exec_tables (h : TablesSound s) : ∀ c : Instr, NextTables (exec c s)
  | .nop _ => execNop_tables h
  | .ctxWrite _ => execCtxWrite_tables h
  | .ctxRead _ => execCtxRead_tables h
  | .ctxEnable _ => execCtxEnable_tables h
  | .ctxDisable _ => execCtxDisable_tables h
  | .regionMode _ => execRegionMode_tables h
  | .regionCommit _ => execRegionCommit_tables h
  | .captureArm _ => execCaptureArm_tables h
  | .captureCopy _ => execCaptureCopy_tables h
  | .captureStop _ => execCaptureStop_tables h
  | .probeStart _ => execProbeStart_tables h
  | .probeStop _ => execProbeStop_tables h
  | .netTx _ => execNetTx_tables h
  | .netRxPost _ => execNetRxPost_tables h
  | .timeAdjust _ => execTimeAdjust_tables h
  | .weirAcquire _ => execWeirAcquire_tables h
  | .weirRelease _ => execWeirRelease_tables h
  | .pairSwap _ => execPairSwap_tables h
  | .pairResync _ => execPairResync_tables h
  | .faultClear _ => execFaultClear_tables h
  | .eventForce _ => execEventForce_tables h
  | .barrier _ => execBarrier_tables h
  | .setupSeal _ => execSetupSeal_tables h
  | .enterService _ => execEnterService_tables h
  | .leaveService _ => execLeaveService_tables h
  | .enterStabled _ => execEnterStabled_tables h
  | .pwrCmdCDieWarmReset _ => execPwrCmdCDieWarmReset_tables h
  | .pwrCmdPackageWarmReset _ => execPwrCmdPackageWarmReset_tables h
  | .pwrCmdPDieWarmReset _ => execPwrCmdPDieWarmReset_tables h
  | .restart _ => execRestart_tables h
  | .leUcodeDataWrite _ => execLeUcodeDataWrite_tables h
  | .verify _ => execVerify_tables h
  | .verifyDone => execVerifyDone_tables h
  | .load _ => execLoad_tables h
  | .imageLoadDone _ => execImageLoadDone_tables h
  | .adcQdataRead _ => execAdcQdataRead_tables h
  | .go _ _ => execGo_tables h
  | .timeTxqE0Read => execTimeTxqE0Read_tables h
  | .timeNowRead => execTimeNowRead_tables h
  | .aoTimeRead => execAoTimeRead_tables h
  | .timeLockCfgWrite _ => execTimeLockCfgWrite_tables h
  | .channelSwitch _ _ => execChannelSwitch_tables h
  | .freeze _ _ => execFreeze_tables h
  | .unfreeze _ _ => execUnfreeze_tables h
  | .triggerConfigWrite _ _ _ => execTriggerConfigWrite_tables h
  | .rearm _ _ => execRearm_tables h
  | .comparatorSelfTest _ _ => execComparatorSelfTest_tables h
  | .rebias _ _ => execRebias_tables h
  | .arbCommit _ => execArbCommit_tables h
  | .arbCommitApply => execArbCommitApply_tables h
  | .arm _ => execArm_tables h
  | .injectionApply => execInjectionApply_tables h
  | .evtForceWrite _ _ => execEvtForceWrite_tables h
  | .soOnRequest _ => execSoOnRequest_tables h
  | .debugOpen _ => execDebugOpen_tables h
  | .dbgRead _ => execDbgRead_tables h
  | .dbgWrite _ => execDbgWrite_tables h
  | .debugAccessDone => execDebugAccessDone_tables h
  | .registerWrite _ _ _ => execRegisterWrite_tables h
  | .pDieAccessTimeout => execPDieAccessTimeout_tables h
  | .doorbellPoll => execDoorbellPoll_tables h
  | .descriptorAccept _ => execDescriptorAccept_tables h
  | .journalAcknowledge _ => execJournalAcknowledge_tables h
  | .timedActionDue _ => execTimedActionDue_tables h
  | .completionPost _ => execCompletionPost_tables h
  | .msixSignal _ => execMsixSignal_tables h
  | .hostDmaReadComplete _ _ _ => execHostDmaReadComplete_tables h
  | .hostDmaError _ => execHostDmaError_tables h
  | .hostSilent => execHostSilent_tables h
  | .pcieEndpointReset => execPcieEndpointReset_tables h
  | .pcieLinkDown => execPcieLinkDown_tables h
  | .pcieLinkReturn => execPcieLinkReturn_tables h
  | .journalReplay _ => execJournalReplay_tables h
  | .patrolScrub _ _ => execPatrolScrub_tables h
  | .millraceFrameReceive _ _ _ => execMillraceFrameReceive_tables h
  | .millraceLinkFailure _ _ => execMillraceLinkFailure_tables h
  | .millraceLinkUp => execMillraceLinkUp_tables h
  | .regionBoundary _ => execRegionBoundary_tables h
  | .regionTrigger _ => execRegionTrigger_tables h
  | .islandWrap _ => execIslandWrap_tables h
  | .unitEdge _ => execUnitEdge_tables h
  | .tripAssert _ => execTripAssert_tables h
  | .recoveryEnd _ => execRecoveryEnd_tables h
  | .dutyFrameReceive _ => execDutyFrameReceive_tables h
  | .cDieLossDetect _ => execCDieLossDetect_tables h
  | .holdTimeEnd _ => execHoldTimeEnd_tables h
  | .contextRelease _ => execContextRelease_tables h
  | .timebaseSlot => execTimebaseSlot_tables h
  | .contextRunComplete _ => execContextRunComplete_tables h
  | .dutyFrameSend _ => execDutyFrameSend_tables h
  | .prefetchIssue _ => execPrefetchIssue_tables h
  | .prefetchLanded _ => execPrefetchLanded_tables h
  | .writebackSweep => execWritebackSweep_tables h
  | .loopEngineHeartbeatLost => execLoopEngineHeartbeatLost_tables h
  | .busDeclaredDead _ => execBusDeclaredDead_tables h
  | .startDelayExpire _ => execStartDelayExpire_tables h
  | .contactorFailedToClose _ => execContactorFailedToClose_tables h
  | .contactorOpenedWithoutCommand _ => execContactorOpenedWithoutCommand_tables h
  | .bsHoldElapsed _ => execBsHoldElapsed_tables h
  | .syncWindowsHeld _ => execSyncWindowsHeld_tables h
  | .syncWindowsNotMet _ => execSyncWindowsNotMet_tables h
  | .envExitElapsed _ => execEnvExitElapsed_tables h
  | .gapResumeElapsed _ => execGapResumeElapsed_tables h
  | .anchorFreezeEnd _ => execAnchorFreezeEnd_tables h
  | .foldBackStart _ => execFoldBackStart_tables h
  | .stopFactorZero _ => execStopFactorZero_tables h
  | .rampComplete _ => execRampComplete_tables h
  | .blendEnd _ => execBlendEnd_tables h
  | .sweepStart _ => execSweepStart_tables h
  | .sweepPointEnd _ => execSweepPointEnd_tables h
  | .islandLinkLost _ _ => execIslandLinkLost_tables h
  | .islandLinkRelock _ => execIslandLinkRelock_tables h
  | .islandInterlock _ => execIslandInterlock_tables h
  | .switchingTimeMeasured _ _ _ _ _ => execSwitchingTimeMeasured_tables h
  | .uvlo _ _ => execUvlo_tables h
  | .uvloRelease _ _ => execUvloRelease_tables h
  | .desaturationArmed _ => execDesaturationArmed_tables h
  | .desaturation _ _ => execDesaturation_tables h
  | .softTurnOffEnd _ => execSoftTurnOffEnd_tables h
  | .comparatorTestDone _ _ => execComparatorTestDone_tables h
  | .islandOverTemperature _ _ => execIslandOverTemperature_tables h
  | .islandStart _ => execIslandStart_tables h
  | .islandReady _ => execIslandReady_tables h
  | .islandStartFailed _ _ => execIslandStartFailed_tables h
  | .islandBlockReset _ => execIslandBlockReset_tables h
  | .islandBiasRestore _ => execIslandBiasRestore_tables h
  | .bankTimer _ => execBankTimer_tables h
  | .samplingInstant _ _ => execSamplingInstant_tables h
  | .setComplete _ => execSetComplete_tables h
  | .injectedTrigger _ => execInjectedTrigger_tables h
  | .injectedSamplingInstant _ _ => execInjectedSamplingInstant_tables h
  | .injectedConversionComplete _ => execInjectedConversionComplete_tables h
  | .calibrationStepStart _ => execCalibrationStepStart_tables h
  | .calibrationHandOver _ => execCalibrationHandOver_tables h
  | .calibrationMeasurementEnd _ _ _ => execCalibrationMeasurementEnd_tables h
  | .calibrationHandBack _ => execCalibrationHandBack_tables h
  | .packedFrameFlush _ => execPackedFrameFlush_tables h
  | .windowComparatorAsserted _ _ => execWindowComparatorAsserted_tables h
  | .windowComparatorRelease _ _ => execWindowComparatorRelease_tables h
  | .chainFrameFlush _ => execChainFrameFlush_tables h
  | .triggerHoldOffEnd _ => execTriggerHoldOffEnd_tables h
  | .captureTrigger _ => execCaptureTrigger_tables h
  | .captureDone _ => execCaptureDone_tables h
  | .captureProgressWrite _ => execCaptureProgressWrite_tables h
  | .arbiterGrant _ _ _ => execArbiterGrant_tables h
  | .refresh => execRefresh_tables h
  | .arbiterWatchdog => execArbiterWatchdog_tables h
  | .weirAcquireTimedOut _ => execWeirAcquireTimedOut_tables h
  | .weirsReleased _ => execWeirsReleased_tables h
  | .safetySetUpdate => execSafetySetUpdate_tables h
  | .networkCounterUpdate => execNetworkCounterUpdate_tables h
  | .frameReceive _ _ _ => execFrameReceive_tables h
  | .txTimestamp _ => execTxTimestamp_tables h
  | .supervisionFrameSend => execSupervisionFrameSend_tables h
  | .lanSilent _ => execLanSilent_tables h
  | .prpNodeExpire _ => execPrpNodeExpire_tables h
  | .linkUp _ => execLinkUp_tables h
  | .linkDown _ => execLinkDown_tables h
  | .timeLockLost => execTimeLockLost_tables h
  | .sampleFrameReceive => execSampleFrameReceive_tables h
  | .dutyCopyReceive => execDutyCopyReceive_tables h
  | .helloSend => execHelloSend_tables h
  | .helloReceive => execHelloReceive_tables h
  | .partnerDown => execPartnerDown_tables h
  | .faultDeclarationReceive => execFaultDeclarationReceive_tables h
  | .controlDieFailed _ _ => execControlDieFailed_tables h
  | .parameterFrameReceive => execParameterFrameReceive_tables h
  | .resynchronisationStart _ => execResynchronisationStart_tables h
  | .checkpointChunkReceive => execCheckpointChunkReceive_tables h
  | .checkpointCommitReceive => execCheckpointCommitReceive_tables h
  | .resynchronisationFailed _ => execResynchronisationFailed_tables h
  | .eventCollect => execEventCollect_tables h
  | .faultRecovered _ => execFaultRecovered_tables h
  | .shadowWindowEnd _ => execShadowWindowEnd_tables h
  | .safetyInputChange _ _ _ _ => execSafetyInputChange_tables h
  | .discrepancyFault _ _ => execDiscrepancyFault_tables h
  | .startUpTestPassed _ => execStartUpTestPassed_tables h
  | .secondPathDecode _ _ => execSecondPathDecode_tables h
  | .gateEnable => execGateEnable_tables h
  | .soTestPulse _ => execSoTestPulse_tables h
  | .soTestPulseEnd _ _ _ => execSoTestPulseEnd_tables h
  | .safeOutputOverload _ _ _ => execSafeOutputOverload_tables h
  | .contactorFeedbackFault _ _ => execContactorFeedbackFault_tables h
  | .channel2Rejoined => execChannel2Rejoined_tables h
  | .channel2AbsentTooLong => execChannel2AbsentTooLong_tables h
  | .channel2DidNotFollowDemand => execChannel2DidNotFollowDemand_tables h
  | .path1ReadbackPulse _ _ => execPath1ReadbackPulse_tables h
  | .channel1SelfTest _ => execChannel1SelfTest_tables h
  | .channel2SelfCheck _ => execChannel2SelfCheck_tables h
  | .supplyPulseTest _ _ _ => execSupplyPulseTest_tables h
  | .dchOverload _ _ _ => execDchOverload_tables h
  | .dchRetry _ => execDchRetry_tables h
  | .cdrvOverload _ _ => execCdrvOverload_tables h
  | .inputLow _ => execInputLow_tables h
  | .inputLoss _ _ => execInputLoss_tables h
  | .inputReturn _ _ => execInputReturn_tables h
  | .powerFail _ => execPowerFail_tables h
  | .storeAoReserve _ => execStoreAoReserve_tables h
  | .powerOnReset => execPowerOnReset_tables
  | .domainRegulationLoss _ => execDomainRegulationLoss_tables h
  | .pdNetRestarted => execPdNetRestarted_tables h
  | .pdIsoRestart => execPdIsoRestart_tables h
  | .memsReferenceLost _ _ => execMemsReferenceLost_tables h
  | .memsReferenceRecovered _ => execMemsReferenceRecovered_tables h
  | .pllLockLost _ => execPllLockLost_tables h
  | .aoClockMeasure _ => execAoClockMeasure_tables h
  | .cDieWarmReset => execCDieWarmReset_tables h
  | .cDieResetEnd => execCDieResetEnd_tables h
  | .autoCDieReset => execAutoCDieReset_tables h
  | .pDieWarmReset => execPDieWarmReset_tables h
  | .pDieResetEnd => execPDieResetEnd_tables h
  | .wake _ _ _ => execWake_tables h
  | .memInitComplete => execMemInitComplete_tables h
  | .moduleTemperature _ => execModuleTemperature_tables h
  | .sf2FaultCleared _ => execSf2FaultCleared_tables h
  | .safeOutputReadbackFault _ _ => execSafeOutputReadbackFault_tables h
  | .cdSafRestarted => execCdSafRestarted_tables h
  | .postedWriteErrorReported _ _ => execPostedWriteErrorReported_tables h
  | .portFrameBoundary _ => execPortFrameBoundary_tables h
  | .millraceFrameBoundary _ => execMillraceFrameBoundary_tables h
  | .inputLowCleared _ => execInputLowCleared_tables h

theorem step_tables {t : State} (h : TablesSound s) (ht : step s = .next t) : TablesSound t := by
  cases hp : s.pending with
  | nil => exact Host.Outcome.next.inj ((step_nil hp).symm.trans ht) ▸ idle_tables h
  | cons c rest => exact exec_tables (s := { s with pending := rest }) (.of_eq h rfl) c t ((step_cons hp).symm.trans ht)

end Sys2Proof.Machine

namespace Sys2Proof

open Sys2Proof.Machine

/-- Settles O50: both invariants row by row, from what each operation keeps. -/
theorem stepKeepsRegsSound : Obligations.StepKeepsRegsSound := ⟨fun _ _ => step_sound, fun _ _ => step_tables⟩

end Sys2Proof
end

section
-- One proof after another, as above: elaborated side by side they wait for the same lemmas, each with a thread and its stack.
set_option Elab.async false

/-!
SUPPORT. The rows of the resets in the cases in which they act (R32, R404, R533 to R539).
-/
namespace Sys2Proof.Machine

open Sys2Proof

variable {s : State}

theorem execCDieResetEnd_due (hc : s.power.cRun = false) (hr : s.reached (cUpTicks + 1) = true) (hm : s.power.memsHeld = false) :
    execCDieResetEnd s = .next (settle s (cDieUp s)) := by
  simp [execCDieResetEnd, hc, hr, hm]

theorem execPDieResetEnd_due (hp : s.power.pRun = false) (hr : s.reached (pUpTicks + 1) = true) (hm : s.power.memsHeld = false) :
    execPDieResetEnd s = .next (settle s (pDieUp s)) := by
  simp [execPDieResetEnd, hp, hr, hm]

theorem execAutoCDieReset_due {t : Nat} (hs : s.power.cSafe = some t) (ha : s.rb rPwrDomCfg 1 = true) (ht : t + msTicks 1 ≤ s.now) :
    execAutoCDieReset s = .next (settle s (cDieDown s)) := by
  simp [execAutoCDieReset, hs, ha, ht]

theorem execWake_wakes {c : WakeCause} {n mv : Nat} (h : s.wakes c n mv = true) :
    execWake c n mv s = .next (settle s (wakeUp 1 c.bits s)) := by
  rw [execWake, if_pos h]

theorem execMemInitComplete_awake (h : s.awake = true) :
    execMemInitComplete s = .next ({ s with initLines := [] }.modPower fun p => { p with memInit := true }) := by
  rw [execMemInitComplete, if_pos h]
  rfl

end Sys2Proof.Machine

namespace Sys2Proof

open Sys2Proof.Machine

/-- Settles O42: each reset row in the case in which it acts. -/
theorem resetStepsComplete : Obligations.ResetStepsComplete :=
  ⟨fun _ => rfl, fun _ => rfl, fun _ => rfl, fun _ => execCDieResetEnd_due, fun _ => execPDieResetEnd_due, fun _ _ => execAutoCDieReset_due,
    fun _ _ _ _ => execWake_wakes, fun _ => execMemInitComplete_awake⟩

end Sys2Proof
end

section
-- One proof after another, as above: elaborated side by side they wait for the same lemmas, each with a thread and its stack.
set_option Elab.async false

/-!
SUPPORT. The rows of the duty frames in the cases in which they act (R29, R110, R204).
-/
namespace Sys2Proof.Machine

open Sys2Proof

variable {s : State} {r : RegionId} {t : Nat}

theorem execDutyFrameReceive_found {f : DutyFrame} (hf : (s.dutyIn.find? fun f => f.region == r) = some f) (hp : s.power.pRun = true) :
    execDutyFrameReceive r s = .next (settle s (dutyFrameReceive f { s with dutyIn := s.dutyIn.erase f })) := by
  simp [execDutyFrameReceive, hf, hp]

theorem execDutyFrameSend_owed {n : Word32} (ho : s.loop.owed[r] = some n) (hl : s.leRuns = true)
    (hw : ∀ c ∈ s.periodWriters r, (s.loop.rt[c]).released = false) :
    execDutyFrameSend r s = .next ((mrSend .c 0 (.duty (s.dutyFrame r n)) s).modLoop fun l => { l with owed := upd l.owed r fun _ => none }) := by
  have hall : ((s.periodWriters r).all fun c => !(s.loop.rt[c]).released) = true :=
    List.all_eq_true.2 fun c hc => by rw [hw c hc]; rfl
  simp only [execDutyFrameSend, ho, hl, hall, Bool.and_self, if_true]

theorem execCDieLossDetect_lost (hr : s.carrierRuns r = true) (hp : s.power.pRun = true) (hl : s.regions[r].lost = false)
    (h : s.power.powerGood = false ∨ s.linkUp = false ∨ 2 ≤ s.regions[r].missed) :
    execCDieLossDetect r s = .next (s.modRegion r fun g => { g with lost := true, lossSince := some s.now }) := by
  have hloss : (!s.power.powerGood || !s.linkUp || decide (2 ≤ s.regions[r].missed)) = true := by
    simpa only [Bool.or_eq_true, Bool.not_eq_true', decide_eq_true_eq, or_assoc] using h
  simp only [execCDieLossDetect, hr, hp, hl, hloss, Bool.not_false, Bool.and_self, if_true]

/-- The row of the hold time's end once it has passed: what it does by the region's pairing. -/
theorem execHoldTimeEnd_due (hs : s.regions[r].lossSince = some t) (ht : t + usTicks (s.rf rPairHold 0 8) ≤ s.now) :
    execHoldTimeEnd r s = .next (
      if s.isPaired r ∧ s.stillFed r then s.modRegion r fun g => { g with lossSince := none }
      else if s.isPaired r then
        settle s (stand 151 evConfNoSource (raise 151 evConfNoSource (BitVec.ofNat 32 r.val) 0
          (s.modRegion r fun g => { g with lossSince := none, sourceInhibit := true })))
      else
        settle s (stand (srcRegion r) evRegionDutyLost (raise (srcRegion r) evRegionDutyLost 0 0
          (s.modRegion r fun g => { g with lossSince := none, lossInhibit := true })))) := by
  have hm (f g : Region → Region) : (s.modRegion r f).modRegion r g = s.modRegion r fun x => g (f x) := by
    simp [State.modRegion, upd]
  simp only [execHoldTimeEnd, hs, if_neg (Nat.not_lt.2 ht), hm]

end Sys2Proof.Machine

namespace Sys2Proof

open Sys2Proof.Machine

/-- Settles O23: each row in the case in which it acts; the end of the hold time by the region's pairing. -/
theorem dutyFrameStepsComplete : Obligations.DutyFrameStepsComplete := by
  refine ⟨fun _ _ _ => execDutyFrameReceive_found, fun _ _ _ => execDutyFrameSend_owed, fun _ _ => execCDieLossDetect_lost,
    fun r t s hs ht hp => ?_, fun r t s hs ht hp hf => ?_, fun r t s hs ht hp hf => ?_⟩
  · exact (execHoldTimeEnd_due hs ht).trans (by simp [hp])
  · exact (execHoldTimeEnd_due hs ht).trans (by simp [hp, hf])
  · exact (execHoldTimeEnd_due hs ht).trans (by simp [hp, hf])

end Sys2Proof
end

section
-- One proof after another, as above: elaborated side by side they wait for the same lemmas, each with a thread and its stack.
set_option Elab.async false

/-!
SUPPORT. What an event touches: the event records, the trigger units that watch it, and die safe of the C-die with its reaction (R305, R437,
R438, R440). Of everything that only reports, and of what fires trigger units, one relation says that nothing else changes.
-/
namespace Sys2Proof.Machine

open Sys2Proof

/-- From `s` to `t` only event records without EVT_SEQ, trigger units and die safe of the C-die have changed. -/
def Alerts (s t : State) : Prop :=
  ∃ e g c, t = { s with events := e, trigs := g, power := { s.power with cSafe := c } } ∧ e.seq = s.events.seq

variable {s t u : State}

theorem Alerts.refl : Alerts s s := ⟨_, _, _, rfl, rfl⟩

theorem Alerts.trans (h : Alerts s t) (h' : Alerts t u) : Alerts s u := by
  obtain ⟨e, g, c, rfl, he⟩ := h
  obtain ⟨e', g', c', rfl, he'⟩ := h'
  exact ⟨e', g', c', rfl, he'.trans he⟩

theorem Alerts.ite {c : Prop} [Decidable c] (ht : Alerts s t) (hu : Alerts s u) : Alerts s (if c then t else u) := by
  split <;> assumption

theorem Alerts.forList {α : Type} {f : α → State → State} (h : ∀ x t, Alerts t (f x t)) (l : List α) (s : State) : Alerts s (forList f l s) := by
  induction l generalizing s with
  | nil => exact .refl
  | cons x l ih => exact (h x s).trans (ih (f x s))

theorem Alerts.forAll {n : Nat} {f : Fin n → State → State} (h : ∀ i t, Alerts t (f i t)) (s : State) : Alerts s (forAll f s) :=
  Alerts.forList h _ s

/-! ## What it leaves alone -/

theorem Alerts.seq (h : Alerts s t) : t.events.seq = s.events.seq := by
  obtain ⟨_, _, _, rfl, he⟩ := h
  exact he

/-- Every part of the state that does not depend on event records, trigger units and die safe is as it was. -/
theorem Alerts.keeps {α : Type} (h : Alerts s t) (f : State → α)
    (hf : ∀ (s : State) e g c, f { s with events := e, trigs := g, power := { s.power with cSafe := c } } = f s := by intros; rfl) :
    f t = f s := by
  obtain ⟨_, _, _, rfl, _⟩ := h
  exact hf _ _ _ _

/-! ## Trigger units -/

theorem modEvents_alerts {f : Events → Events} (hf : ∀ e, (f e).seq = e.seq := by intro; rfl) : Alerts s (s.modEvents f) :=
  ⟨_, _, _, rfl, hf _⟩
theorem modSrc_alerts {k : SourceId} {f : Source → Source} : Alerts s (s.modSrc k f) := modEvents_alerts
theorem modTrig_alerts {v : TrigId} {f : TrigUnit → TrigUnit} : Alerts s (s.modTrig v f) := ⟨_, _, _, rfl, rfl⟩

theorem trgTake_alerts {v : TrigId} : Alerts s (trgTake v s) := .ite modTrig_alerts .refl

theorem fireOne_alerts {v : TrigId} {n : Nat} : Alerts s (fireOne v n s) := Alerts.trans modEvents_alerts modTrig_alerts

theorem trgStep_alerts {v : TrigId} {met : Bool} : Alerts s (trgStep v met s).2 := by
  unfold trgStep
  dsimp only
  split
  · exact .refl
  · exact .refl
  · exact .refl
  · split_ifs
    · exact .refl
    · exact .refl
    · exact modTrig_alerts
    · exact .refl

theorem combine_alerts {v w : TrigId} {n : Nat} : Alerts s (combine v w n s).2 := by
  unfold combine
  dsimp only
  split
  · exact .refl
  · exact modTrig_alerts
  · exact modTrig_alerts
  · exact .refl

theorem fire_alerts (fuel : Nat) : ∀ {v : TrigId} {n : Nat} {s : State}, Alerts s (fire fuel v n s) := by
  induction fuel with
  | zero => exact fireOne_alerts
  | succ fuel ih =>
    intro v n s
    have hstep (w : TrigId) (m : Nat) (t : State) :
        Alerts t (if (trgStep w true t).1 then fire fuel w m (trgStep w true t).2 else (trgStep w true t).2) :=
      .ite (trgStep_alerts.trans ih) trgStep_alerts
    refine fireOne_alerts.trans (.forList (fun w t => ?_) _ _)
    exact .ite ((trgTake_alerts.trans combine_alerts).trans (.forList (hstep w) _ _)) .refl

theorem trgEvent_alerts {k : SourceId} {v : Sev} : Alerts s (trgEvent k v s) :=
  .forList (fun _ _ => .ite (.ite ((trgTake_alerts.trans trgStep_alerts).trans (fire_alerts 8)) (trgTake_alerts.trans trgStep_alerts)) .refl) _ _

/-! ## Events -/

theorem noteTrigger_alerts {e : Event} : Alerts s (noteTrigger e s) := .ite trgEvent_alerts .refl

theorem pushEvent_alerts {e : Event} : Alerts s (pushEvent e s) := by
  unfold pushEvent
  extract_lets e t
  have ht : Alerts s t := modSrc_alerts.trans noteTrigger_alerts
  refine ht.trans (modEvents_alerts fun _ => ?_)
  split_ifs <;> rfl

theorem applyEvent_alerts {e : Event} : Alerts s (applyEvent e s) := by
  unfold applyEvent
  refine .ite .refl ?_
  extract_lets k t f rx n u
  have hu : Alerts s u := .ite ⟨_, _, _, rfl, rfl⟩ modEvents_alerts
  exact .ite (.ite (hu.trans (modSrc_alerts.trans pushEvent_alerts)) (hu.trans modSrc_alerts)) (hu.trans modSrc_alerts)

theorem raiseFull_alerts {k : SourceId} {d : EvDef} {a b : Word32} {o : Option ShadowObj} {f : Bool} : Alerts s (raiseFull k d a b o f s) :=
  .ite (pushEvent_alerts.trans applyEvent_alerts) pushEvent_alerts

theorem raise_alerts {k : SourceId} {d : EvDef} {a b : Word32} : Alerts s (raise k d a b s) := raiseFull_alerts
theorem stand_alerts {k : SourceId} {d : EvDef} : Alerts s (stand k d s) := modSrc_alerts
theorem unstand_alerts {k : SourceId} {d : EvDef} : Alerts s (unstand k d s) := modSrc_alerts

theorem openShadow_alerts {o : ShadowObj} {n : Option Nat} {c : BitVec 8} : Alerts s (openShadow o n c s) := by
  unfold openShadow
  split <;> exact modEvents_alerts

theorem captureError_alerts {d : Fin 4} {a : BitVec 48} {r : BitVec 8} {y : BitVec 4} {x : BitVec 48} {n : BitVec 4} :
    Alerts s (captureError d a r y x n s) := ⟨_, _, _, rfl, rfl⟩

theorem injected_alerts : Alerts s (injected s) := modEvents_alerts
theorem unforce_alerts {k : SourceId} : Alerts s (unforce k s) := modSrc_alerts
theorem clearForces_alerts : Alerts s (clearForces s) := .forAll (fun _ _ => unforce_alerts) s
theorem leaveTest_alerts {r : RegionId} : Alerts s (leaveTest r s) := .ite (.forAll (fun _ _ => .ite unforce_alerts .refl) _) .refl

theorem bufferEvents_alerts : Alerts s (bufferEvents s) := by
  refine Alerts.trans modEvents_alerts (.forList (fun e t => ?_) _ _)
  refine Alerts.trans (t := if e.applied then t else applyEvent e t) (.ite .refl applyEvent_alerts) (modEvents_alerts fun _ => ?_)
  split_ifs <;> rfl

end Sys2Proof.Machine
end

section
-- One proof after another, as above: elaborated side by side they wait for the same lemmas, each with a thread and its stack.
set_option Elab.async false

/-!
SUPPORT. The rows of the Millrace link in the cases in which they act (R13 to R17, R454, R456).
-/
namespace Sys2Proof.Machine

open Sys2Proof

variable {s : State} {d : Die} {skip : Nat} {err : List Byte} {f : MrFrame} {rest : List MrFrame}

theorem frameArrives_intact (hw : (s.mr d).wire.drop skip = f :: rest) (hc : f.crcDiff err = 0) (he : f.seq = (s.mr d).expect) :
    frameArrives d skip err s = deliver f.payload ((s.modMr d fun m => { m with wire := rest }).modMr d fun m => m.accept f) := by
  simp only [frameArrives, hw, hc, he, ne_eq, not_true_eq_false, if_false, if_true]

theorem frameArrives_bad (hw : (s.mr d).wire.drop skip = f :: rest) (hc : f.crcDiff err ≠ 0) :
    frameArrives d skip err s = badFrame d f (f.crcDiff err) (s.modMr d fun m => { m with wire := rest }) := by
  simp only [frameArrives, hw, if_pos hc]

theorem execMillraceFrameReceive_reaches (hp : s.pReach = true) (hr : s.power.cRun = true) :
    execMillraceFrameReceive d skip err s = .next (settle s (frameArrives d skip err s)) := by
  simp only [execMillraceFrameReceive, hp, hr, Bool.and_self, if_true]

theorem Alerts.mr {t : State} (h : Alerts s t) (d : Die) : t.mr d = s.mr d := by
  cases d
  · exact h.keeps State.mrP
  · exact h.keeps State.mrC

theorem askAgain_replayed {m : MrDir} (h : m.replays < 4) : m.askAgain = { m with again := m.sent } := if_pos h

/-- A bad frame is reported, and a replay asked for. -/
theorem badFrame_form (d : Die) (f : MrFrame) (x : Word32) (s : State) :
    ∃ t, Alerts s t ∧ badFrame d f x s = t.modMr d MrDir.askAgain :=
  ⟨_, captureError_alerts.trans raise_alerts, rfl⟩

theorem linkFails_up (h : s.linkUp = true) : linkFails s =
    stand 163 evMillraceFailure (raiseFull 163 evMillraceFailure 0 0 (some .cDie) false (millraceDown { s with failCnt := satInc s.failCnt })) := by
  simp only [linkFails, h, Bool.not_true, Bool.false_eq_true, if_false]

theorem dropLock_linkUp (d : Die) (c : LinkCause) (s : State) : (dropLock d c s).linkUp = s.linkUp := by
  unfold dropLock
  split <;> rfl

theorem dropLock_failCnt (d : Die) (c : LinkCause) (s : State) : (dropLock d c s).failCnt = s.failCnt := by
  unfold dropLock
  split <;> rfl

theorem execMillraceLinkFailure_fails {c : LinkCause} (hl : s.linkUp = true) (hc : c ≠ .exhausted ∨ (s.mr d).exhausted = true) :
    execMillraceLinkFailure d c s = .next (settle s (linkFails (dropLock d c s))) := by
  have hf : (s.linkUp && (c != .exhausted || (s.mr d).exhausted)) = true := by simpa [hl] using hc
  rw [execMillraceLinkFailure, if_pos hf]

theorem execMillraceLinkUp_trained (ha : s.awake = true) (hp : s.power.pRun = true) (hr : s.power.cRun = true) (hl : s.linkUp = false) :
    execMillraceLinkUp s = .next (settle s (linkReturns s)) := by
  simp only [execMillraceLinkUp, ha, hp, hr, hl, Bool.true_or, Bool.not_false, Bool.and_self, if_true]

theorem execMillraceFrameBoundary_reaches (hp : s.pReach = true) (hr : s.power.cRun = true) :
    execMillraceFrameBoundary d s = .next (sendNext d s) := by
  simp only [execMillraceFrameBoundary, hp, hr, Bool.and_self, if_true]

/-- The credits that reach the other die's transmitter leave the direction of die d as it is. -/
theorem modMr_other (d : Die) (f : MrDir → MrDir) (s : State) : (s.modMr d.other f).mr d = s.mr d := by
  cases d <;> rfl

theorem sendNext_again (h : (s.mr d).again ≠ []) : sendNext d s =
    { s.modMr d.other MrDir.credit with replayCnt := satInc (s.modMr d.other MrDir.credit).replayCnt }.modMr d MrDir.resend := by
  simp only [sendNext, modMr_other, List.isEmpty_eq_false_iff.2 h, Bool.not_false, if_true]

theorem sendNext_new (h : (s.mr d).again = []) (hn : (s.mr d).sent.length < 64) :
    sendNext d s = (s.modMr d.other MrDir.credit).modMr d MrDir.start := by
  simp only [sendNext, modMr_other, h, List.isEmpty_nil, Bool.not_true, Bool.false_eq_true, if_false, if_neg (Nat.not_le.2 hn)]

end Sys2Proof.Machine

namespace Sys2Proof

open Sys2Proof.Machine

/-- Settles O21: each row in the case in which it acts; of a bad frame the event touches neither link nor sessions. -/
theorem millraceStepsComplete : Obligations.MillraceStepsComplete := by
  refine ⟨fun d skip err f rest s hp hr hw hc he => ?_, fun d skip err f rest s hp hr hw hc hn => ?_, fun d cause s hl hc => ?_,
    fun s ha hp hr hl => ?_, fun d s hp hr => ⟨fun h => ?_, fun h hn => ?_⟩⟩
  · rw [← frameArrives_intact hw hc he]
    exact execMillraceFrameReceive_reaches hp hr
  · obtain ⟨t, ha, ht⟩ := badFrame_form d f (f.crcDiff err) (s.modMr d fun m => { m with wire := rest })
    have hm : (badFrame d f (f.crcDiff err) (s.modMr d fun m => { m with wire := rest })).mr d =
        { s.mr d with wire := rest, again := (s.mr d).sent } := by
      rw [ht, State.modMr_same, ha.mr d, State.modMr_same]
      exact askAgain_replayed hn
    refine ⟨_, _, ?_, (congrArg MrDir.wire hm :), (congrArg MrDir.expect hm :), (congrArg MrDir.again hm :), (congrArg MrDir.owed hm :), ?_, ?_, ?_,
      State.modMr_events _ d _, rfl⟩
    · exact (execMillraceFrameReceive_reaches hp hr).trans (congrArg _ (congrArg _ (frameArrives_bad hw hc)))
    · exact (congrArg State.loop ht).trans (by rw [State.modMr_loop, ha.keeps State.loop, State.modMr_loop])
    · exact (congrArg State.dutyIn ht).trans (by rw [State.modMr_dutyIn, ha.keeps State.dutyIn, State.modMr_dutyIn])
    · exact (congrArg State.sessions ht).trans (by rw [State.modMr_sessions, ha.keeps State.sessions, State.modMr_sessions])
  · rw [← dropLock_failCnt d cause s, ← linkFails_up ((dropLock_linkUp d cause s).trans hl)]
    exact execMillraceLinkFailure_fails hl hc
  · exact execMillraceLinkUp_trained ha hp hr hl
  · exact ⟨_, rfl, (execMillraceFrameBoundary_reaches hp hr).trans (congrArg _ (sendNext_again h))⟩
  · exact (execMillraceFrameBoundary_reaches hp hr).trans (congrArg _ (sendNext_new h hn))

end Sys2Proof
end

section
-- One proof after another, as above: elaborated side by side they wait for the same lemmas, each with a thread and its stack.
set_option Elab.async false

/-!
SUPPORT. What the warm resets keep (R32, R352, R357, R359, R364, R538): generations, acknowledged journal entries with their ASNs, the next
ASN, the context table but for the contexts' ASN words. `Lasts` says it of any change of the state, `Steady` adds EVT_SEQ and the P-die's
run; here one lemma for each operation of which the resets are made.
-/
namespace Sys2Proof.Machine

open Sys2Proof

/-! ## The relation -/

/-- From `s` to `t` the resets' durable contents last, those of package memory where `p` holds. -/
structure Lasts (p : Prop) (s t : State) : Prop where
  mem : p → Memory.wf s.mem = true → Memory.wf t.mem = true ∧ ∀ a, a < 0x80000 → ctxWordByte a = false → t.byte a = s.byte a
  gens : ∀ n : SessId, t.sessions[n].gen = s.sessions[n].gen
  bufs : ∀ n : SessId, t.sessions[n].bufAddr = s.sessions[n].bufAddr
  probes : ∀ n : Fin 16, t.loop.probes[n].gen = s.loop.probes[n].gen
  entries : ∀ e ∈ s.rings.journal, e.slot ∉ s.rings.unacked → ∃ x ∈ t.rings.journal, x.slot = e.slot ∧ x.asn = e.asn
  unacked : ∀ k ∈ t.rings.unacked, k ∈ s.rings.unacked
  asn : s.rings.unacked = [] → t.rings.nextAsn = s.rings.nextAsn

/-- With them last EVT_SEQ and the P-die's run. -/
structure Steady (p : Prop) (s t : State) : Prop extends Lasts p s t where
  seq : t.events.seq = s.events.seq
  run : t.power.pRun = s.power.pRun

/-- The part of the state that `Steady` speaks of, journal entries by slot and ASN. -/
def State.lasting (s : State) :=
  (s.mem, s.sessions.map fun x => (x.gen, x.bufAddr), s.loop.probes.map Probe.gen, s.rings.journal.map fun e => (e.slot, e.asn), s.rings.unacked,
    s.rings.nextAsn, s.events.seq, s.power.pRun)

variable {p : Prop} {s t u : State}

theorem Lasts.trans (h : Lasts p s t) (h' : Lasts p t u) : Lasts p s u where
  mem hp hw :=
    have ⟨ht, hb⟩ := h.mem hp hw
    have ⟨hu, hb'⟩ := h'.mem hp ht
    ⟨hu, fun a ha hc => (hb' a ha hc).trans (hb a ha hc)⟩
  gens n := (h'.gens n).trans (h.gens n)
  bufs n := (h'.bufs n).trans (h.bufs n)
  probes n := (h'.probes n).trans (h.probes n)
  entries e he hn := by
    obtain ⟨x, hx, hs, ha⟩ := h.entries e he hn
    obtain ⟨y, hy, hs', ha'⟩ := h'.entries x hx fun hm => hn (hs ▸ h.unacked _ hm)
    exact ⟨y, hy, hs'.trans hs, ha'.trans ha⟩
  unacked k hk := h.unacked k (h'.unacked k hk)
  asn hn := (h'.asn (List.eq_nil_iff_forall_not_mem.2 fun k hk => by simpa [hn] using h.unacked k hk)).trans (h.asn hn)

theorem Steady.of_lasting (h : t.lasting = s.lasting) : Steady p s t := by
  simp only [State.lasting, Prod.mk.injEq] at h
  obtain ⟨hm, hs, hp, hj, hu, ha, hq, hr⟩ := h
  have hsess (n : SessId) : (t.sessions[n].gen, t.sessions[n].bufAddr) = (s.sessions[n].gen, s.sessions[n].bufAddr) := by
    simpa using congrArg (fun v => v[n]) hs
  refine ⟨⟨fun _ hw => ⟨hm ▸ hw, fun a _ _ => by rw [State.byte, hm]; rfl⟩, fun n => congrArg Prod.fst (hsess n), fun n => congrArg Prod.snd (hsess n),
    fun n => by simpa using congrArg (fun v => v[n]) hp, fun e he _ => ?_, fun k hk => hu ▸ hk, fun _ => ha⟩, hq, hr⟩
  have hmem : (e.slot, e.asn) ∈ t.rings.journal.map fun e => (e.slot, e.asn) := hj ▸ List.mem_map_of_mem he
  obtain ⟨x, hx, hxe⟩ := List.mem_map.1 hmem
  exact ⟨x, hx, congrArg Prod.fst hxe, congrArg Prod.snd hxe⟩

theorem Steady.refl : Steady p s s := .of_lasting rfl

theorem Steady.trans (h : Steady p s t) (h' : Steady p t u) : Steady p s u :=
  ⟨h.toLasts.trans h'.toLasts, h'.seq.trans h.seq, h'.run.trans h.run⟩

theorem Steady.after (h : Steady p t u) (h' : Steady p s t) : Steady p s u := h'.trans h

theorem Lasts.steady (h : Lasts p s t) (h' : Steady p t u) : Lasts p s u := h.trans h'.toLasts

theorem Steady.ite {c : Prop} [Decidable c] (ht : Steady p s t) (hu : Steady p s u) : Steady p s (if c then t else u) := by
  split <;> assumption

theorem Steady.forList {α : Type} {f : α → State → State} (h : ∀ x t, Steady p t (f x t)) (l : List α) (s : State) : Steady p s (forList f l s) := by
  induction l generalizing s with
  | nil => exact .refl
  | cons x l ih => exact (h x s).trans (ih (f x s))

theorem Steady.forAll {n : Nat} {f : Fin n → State → State} (h : ∀ i t, Steady p t (f i t)) (s : State) : Steady p s (forAll f s) :=
  Steady.forList h _ s

theorem Alerts.steady (h : Alerts s t) : Steady p s t := by
  refine .of_lasting ?_
  have hl : (t.mem, t.sessions, t.loop, t.rings, t.power.pRun) = (s.mem, s.sessions, s.loop, s.rings, s.power.pRun) :=
    h.keeps fun s => (s.mem, s.sessions, s.loop, s.rings, s.power.pRun)
  simp only [Prod.mk.injEq] at hl
  obtain ⟨hm, hs, hp, hj, hr⟩ := hl
  rw [State.lasting, State.lasting, hm, hs, hp, hj, hr, h.seq]

/-- A value that each step of a fold leaves is left by the fold. -/
theorem forList_keeps {α β : Type} {f : α → State → State} (g : State → β) (h : ∀ x t, g (f x t) = g t) (l : List α) (s : State) :
    g (forList f l s) = g s := by
  induction l generalizing s with
  | nil => rfl
  | cons x l ih => exact (ih (f x s)).trans (h x s)

theorem forAll_keeps {n : Nat} {β : Type} {f : Fin n → State → State} (g : State → β) (h : ∀ i t, g (f i t) = g t) (s : State) :
    g (forAll f s) = g s := forList_keeps (f := f) g h _ s

/-! ## Parts of the state -/

theorem modHost_steady {f : HostLink → HostLink} : Steady p s (s.modHost f) := .of_lasting rfl
theorem modNet_steady {f : Net → Net} : Steady p s (s.modNet f) := .of_lasting rfl
theorem modTime_steady {f : TimeUnit → TimeUnit} : Steady p s (s.modTime f) := .of_lasting rfl
theorem modPair_steady {f : Pair → Pair} : Steady p s (s.modPair f) := .of_lasting rfl
theorem modSaf_steady {f : Saf → Saf} : Steady p s (s.modSaf f) := .of_lasting rfl
theorem modArb_steady {f : Arb → Arb} : Steady p s (s.modArb f) := .of_lasting rfl
theorem modRegion_steady {r : RegionId} {f : Region → Region} : Steady p s (s.modRegion r f) := .of_lasting rfl
theorem modIsland_steady {i : IslandId} {f : Island → Island} : Steady p s (s.modIsland i f) := .of_lasting rfl
theorem modWeir_steady {n : WeirId} {f : Weir → Weir} : Steady p s (s.modWeir n f) := .of_lasting rfl
theorem modPairRegion_steady {r : RegionId} {f : PairRegion → PairRegion} : Steady p s (s.modPairRegion r f) := .of_lasting rfl
theorem modSafCh_steady {c : SafCh} {f : SafChannel → SafChannel} : Steady p s (s.modSafCh c f) := .of_lasting rfl
theorem modPort_steady {q : PortId} {f : Port → Port} : Steady p s (s.modPort q f) := .of_lasting rfl

theorem modMr_steady {d : Die} {f : MrDir → MrDir} : Steady p s (s.modMr d f) := by
  cases d <;> exact .of_lasting rfl

theorem modRings_steady {f : Rings → Rings}
    (h : ∀ r, ((f r).journal.map fun e => (e.slot, e.asn), (f r).unacked, (f r).nextAsn) = (r.journal.map fun e => (e.slot, e.asn), r.unacked, r.nextAsn) := by
      intro; rfl) : Steady p s (s.modRings f) := by
  have hr := h s.rings
  simp only [Prod.mk.injEq] at hr
  obtain ⟨hj, hu, ha⟩ := hr
  refine .of_lasting ?_
  simp only [State.lasting, State.modRings, hj, hu, ha]

theorem modSess_steady {k : SessId} {f : Session → Session} (hf : ∀ x, (f x).gen = x.gen ∧ (f x).bufAddr = x.bufAddr) : Steady p s (s.modSess k f) := by
  refine .of_lasting ?_
  have hm : (upd s.sessions k f).map (fun x => (x.gen, x.bufAddr)) = s.sessions.map fun x => (x.gen, x.bufAddr) := by
    refine Vector.ext fun i hi => ?_
    by_cases hk : k.val = i
    · subst hk; simp [upd, hf]
    · simp [upd, hk]
  simp only [State.lasting, State.modSess, hm]

theorem modPower_steady {f : Power → Power} (h : ∀ q, (f q).pRun = q.pRun := by intro; rfl) : Steady p s (s.modPower f) := by
  refine .of_lasting ?_
  simp only [State.lasting, State.modPower, h]

theorem links_steady {x y : MrDir} {a b : Bool} : Steady p s { s with mrP := x, mrC := y, lane0 := a, lane1 := b } := .of_lasting rfl

theorem closeDebug_steady : Steady p s (closeDebug s) := .of_lasting rfl

/-! ## Package memory -/

theorem readLine_steady {line : Nat} {e : SymErr} {req : BitVec 8} {y : BitVec 4} : Steady p s (readLine line e req y s) := by
  unfold readLine
  extract_lets ok t
  have ht : Steady p s t := captureError_alerts.steady
  split
  · exact raise_alerts.steady.after (ht.trans (.of_lasting rfl))
  · exact raise_alerts.steady.after (ht.trans (.of_lasting rfl))

/-- A block write that keeps off the context table but for the contexts' ASN words. -/
def Spares (a : Nat) (l : List Byte) : Prop := ∀ i, a ≤ i → i < a + l.length → 0x80000 ≤ i ∨ ctxWordByte i = true

theorem spares_above {a : Nat} {l : List Byte} (h : 0x80000 ≤ a) : Spares a l := fun _ hi _ => .inl (h.trans hi)

theorem store_steady {a : Nat} {l : List Byte} (h : p → Spares a l) : Steady p s (s.store a l) where
  mem hp hw := by
    refine ⟨store_wf s a l hw, fun i hi hc => byte_store_outside s a i l hw ?_⟩
    by_contra hn
    rcases h hp i (by omega) (by omega) with h | h
    · omega
    · simp [hc] at h
  gens _ := rfl
  bufs _ := rfl
  probes _ := rfl
  entries e he _ := ⟨e, he, rfl, rfl⟩
  unacked _ hk := hk
  asn _ := rfl
  seq := rfl
  run := rfl

theorem injectLine_steady {a n : Nat} : Steady p s (injectLine a n s) := by
  unfold injectLine
  extract_lets line
  split
  · exact injected_alerts.steady.after (.of_lasting rfl)
  · exact .refl

theorem write_steady {req : BitVec 8} {a : Nat} {l : List Byte} (h : p → Spares a l) : Steady p s (s.write req a l) :=
  ((Steady.forList (fun _ _ => readLine_steady) _ s).trans (store_steady h)).trans injectLine_steady

theorem captureStore_steady {a : Nat} {l : List Byte} (h : p → 0x80000 ≤ a) : Steady p s (captureStore a l s) :=
  .ite modArb_steady (write_steady fun hp => spares_above (h hp))

theorem writes_steady (l : List (Nat × List Byte)) (h : p → ∀ w ∈ l, 0x80000 ≤ w.1) (s : State) :
    Steady p s (forList (fun (w : Nat × List Byte) t => t.write 0x04 w.1 w.2) l s) := by
  induction l generalizing s with
  | nil => exact .refl
  | cons w l ih =>
    exact (write_steady fun hp => spares_above (h hp w (by simp))).trans (ih (fun hp v hv => h hp v (by simp [hv])) _)

theorem flushCapture_steady (h : p → ∀ w ∈ s.arb.capBuf, 0x80000 ≤ w.1) : Steady p s (flushCapture s) :=
  modArb_steady.trans (writes_steady s.arb.capBuf h _)

theorem storeCtxWords_steady {c : Nat} {w : AsnWords} : Steady p s (storeCtxWords c w s) := by
  refine Steady.trans (write_steady fun _ i h1 h2 => .inr ?_) (write_steady fun _ i h1 h2 => .inr ?_)
  all_goals
    rw [leBytes_length] at h2
    simp only [ctxWordByte, ctxAddr, Bool.or_eq_true, Bool.and_eq_true, decide_eq_true_eq] at h1 h2 ⊢
    omega

/-! ## The journal -/

theorem hostWrite_steady {a : Word64} {l : List Byte} : Steady p s (hostWrite a l s) := modHost_steady

theorem wroteJournal_steady {k : Nat} : Steady p s (wroteJournal k s) := by
  unfold wroteJournal
  extract_lets hit t
  have ht : Steady p s t := modRings_steady
  exact .ite (ht.trans injected_alerts.steady) ht

theorem modEntry_steady {k : Slot} {f : JEntry → JEntry} (h : ∀ e, (f e).slot = e.slot ∧ (f e).asn = e.asn := by exact fun _ => ⟨rfl, rfl⟩) :
    Steady p s (modEntry k f s) := by
  refine Steady.trans (modRings_steady fun _ => ?_) wroteJournal_steady
  have hf (e : JEntry) : ((if e.slot = k then f e else e).slot, (if e.slot = k then f e else e).asn) = (e.slot, e.asn) := by
    split <;> simp [h]
  simp [Function.comp_def, hf]

theorem modWork_steady {k : Slot} {f : Work → Work} : Steady p s (modWork k f s) := modRings_steady
theorem dropWork_steady {k : Slot} : Steady p s (dropWork k s) := modRings_steady

theorem recordTarget_steady {e : JEntry} : Steady p s (recordTarget e s) := by
  unfold recordTarget
  dsimp only
  split
  · exact .ite storeCtxWords_steady .refl
  · exact .forList (fun _ _ => modRings_steady) _ _
  · split
    · exact modSess_steady fun _ => ⟨rfl, rfl⟩
    · exact .refl
  · split
    · exact modWeir_steady
    · exact .refl
  · split
    · exact modRings_steady
    · exact .refl
  · exact modRings_steady
  · exact .forList (fun _ _ => modPairRegion_steady) _ _
  · exact modRings_steady
  · exact .refl

theorem markOvertaken_steady {e : JEntry} : Steady p s (markOvertaken e s) := by
  unfold markOvertaken
  refine modRings_steady fun _ => ?_
  have hf (x : JEntry) : ((if s.overtakes e x then { x with ooo := true } else x).slot, (if s.overtakes e x then { x with ooo := true } else x).asn) =
      (x.slot, x.asn) := by split <;> rfl
  simp [Function.comp_def, hf]

theorem finish_steady {k : Slot} {st : Word16} {d : Word32} {r : Word64} {b : Bool} : Steady p s (finish k st d r b s) := by
  unfold finish
  split
  · exact .refl
  · extract_lets e q re record u v
    have hrec (t : State) : Steady p t (record t) :=
      .ite (write_steady fun _ => spares_above (by unfold outcomeAddr; omega)) .refl
    have hu : Steady p s u := .ite ((markOvertaken_steady.trans (hrec _)).trans recordTarget_steady) .refl
    have hv : Steady p s v := dropWork_steady.after (Steady.after modEntry_steady hu)
    exact .ite (hv.trans modRings_steady) hv

theorem finishOk_steady {k : Slot} {r : Word64} : Steady p s (finishOk k r s) := finish_steady

theorem finishHeld_steady {k : Slot} {st : Word16} {d : Word32} {r : Word64} {b : Bool} : Steady p s (finishHeld k st d r b s) :=
  .ite finish_steady (finish_steady.trans modRings_steady)

theorem losePosted_steady : Steady p s (losePosted s) := by
  refine modRings_steady fun _ => ?_
  have hf (e : JEntry) : ((if e.state = .posted then { e with state := if e.unrecorded then .accepted else .applied } else e).slot,
      (if e.state = .posted then { e with state := if e.unrecorded then .accepted else .applied } else e).asn) = (e.slot, e.asn) := by split <;> rfl
  simp [Function.comp_def, hf]

/-- Entries whose acceptance was not acknowledged are undone, and only these: the next ASN is then that of the first of them (R360). -/
theorem withdraw_steady {f : Rings → Rings} (hn : s.rings.unacked ≠ [])
    (hj : (f s.rings).journal = s.rings.journal.filter fun e => !s.rings.unacked.contains e.slot) (hu : (f s.rings).unacked = []) :
    Steady p s (s.modRings f) where
  mem _ hw := ⟨hw, fun _ _ _ => rfl⟩
  gens _ := rfl
  bufs _ := rfl
  probes _ := rfl
  entries e he hs := ⟨e, by simpa only [State.modRings_rings, hj, List.mem_filter] using ⟨he, by simpa using hs⟩, rfl, rfl⟩
  unacked k hk := by simp only [State.modRings_rings, hu, List.not_mem_nil] at hk
  asn h := absurd h hn
  seq := rfl
  run := rfl

theorem forAll_modSq_unacked (f : SqId → Sq → Sq) (s : State) : (forAll (fun q t => t.modSq q (f q)) s).rings.unacked = s.rings.unacked :=
  forAll_keeps (f := fun q t => t.modSq q (f q)) (fun t => t.rings.unacked) (fun _ _ => rfl) s

theorem rollBack_steady : Steady p s (rollBack s) := by
  unfold rollBack
  split
  · exact .refl
  · rename_i k l hun
    extract_lets l first mine u v
    have hu : u.rings.unacked = l := forAll_modSq_unacked _ s
    have hv : Steady p s v := modHost_steady.after (.forAll (fun _ _ => modRings_steady) s)
    have hl : l ≠ [] := by simp [l, hun]
    refine (withdraw_steady ?_ ?_ ?_).after hv
    · exact fun h => hl (hu.symm.trans h)
    · show _ = List.filter (fun e : JEntry => !u.rings.unacked.contains e.slot) _
      rw [hu]
    · rfl

end Sys2Proof.Machine
end

section
-- One proof after another, as above: elaborated side by side they wait for the same lemmas, each with a thread and its stack.
set_option Elab.async false

/-!
SUPPORT. What the warm resets keep (R32, R352, R357, R359), through the operations of which they are made: the link's failure, Weirs,
collection of events, sessions, regions.
-/
namespace Sys2Proof.Machine

open Sys2Proof

variable {p : Prop} {s t u : State}

/-! ## The link (R17, R322, R360) -/

theorem startedAt_kept (x : Session) (n : Word64) : (x.startedAt n).gen = x.gen ∧ (x.startedAt n).bufAddr = x.bufAddr := by
  unfold Session.startedAt
  split <;> exact ⟨rfl, rfl⟩

theorem loseSet_steady {y : SampleSet} : Steady p s (loseSet y s) :=
  .forAll (fun _ _ => modSess_steady fun x => by split; exacts [startedAt_kept x _, ⟨rfl, rfl⟩]) s

theorem loseChain_steady {f : ChainFrame} : Steady p s (loseChain f s) :=
  .forList (fun _ _ => .forAll (fun _ _ => modSess_steady fun x => by split; exacts [startedAt_kept x _, ⟨rfl, rfl⟩]) _) _ s

theorem losePayload_steady {y : Payload} : Steady p s (losePayload y s) := by
  unfold losePayload
  split
  · exact .forList (fun _ _ => loseSet_steady) _ s
  · exact loseChain_steady
  · exact .refl
  · exact .refl

theorem mrSend_steady {d : Die} {vc : Fin 4} {y : Payload} : Steady p s (mrSend d vc y s) := .ite modMr_steady losePayload_steady

theorem millraceDown_steady : Steady p s (millraceDown s) := by
  unfold millraceDown
  refine bufferEvents_alerts.steady.after (losePosted_steady.after (rollBack_steady.after ?_))
  exact Steady.trans (.forList (fun _ _ => losePayload_steady) _ s) (.of_lasting rfl)

theorem linkFails_steady : Steady p s (linkFails s) :=
  .ite .refl (stand_alerts.steady.after (raiseFull_alerts.steady.after (millraceDown_steady.after (.of_lasting rfl))))

/-! ## Weirs (R508, R512) -/

theorem grantWeir_steady {n : WeirId} {o : OwnerId} {k : Option Slot} : Steady p s (grantWeir n o k s) := by
  unfold grantWeir
  split
  · exact finishOk_steady.after modWeir_steady
  · exact modWeir_steady

theorem passWeir_steady {n : WeirId} {b : Bool} : Steady p s (passWeir n b s) := by
  unfold passWeir
  split
  · exact modWeir_steady
  · exact grantWeir_steady.after modWeir_steady

theorem releaseWeirs_steady {o : OwnerId} : Steady p s (releaseWeirs o s) :=
  .ite .refl (raise_alerts.steady.after (.forList (fun _ _ => passWeir_steady) _ s))

/-! ## Pairing and ports -/

theorem pairSend_steady {y : Nat} {r : RegionId} {n : Word32} {l : List Byte} : Steady p s (pairSend y r n l s) :=
  .ite .refl (Steady.trans modNet_steady (.forAll (fun _ _ => modPort_steady) _))

theorem abortResync_steady {r : RegionId} : Steady p s (abortResync r s) := by
  unfold abortResync
  split
  · exact .refl
  · exact finish_steady.after (.forAll (fun _ _ => modPairRegion_steady) s)

theorem dieFailed_steady {r : RegionId} {b : Bool} : Steady p s (dieFailed r b s) := by
  unfold dieFailed
  extract_lets q t
  have ht : Steady p s t := modPairRegion_steady
  split
  · exact .ite (abortResync_steady.after (modPairRegion_steady.after ht)) ht
  · exact .ite ht (raise_alerts.steady.after (modPairRegion_steady.after ht))

theorem declareFault_steady {n : Nat} : Steady p s (declareFault n s) := by
  unfold declareFault
  refine .ite .refl (.forAll (fun r t => ?_) s)
  refine .ite ?_ (.ite pairSend_steady .refl)
  exact .ite (dieFailed_steady.after pairSend_steady) pairSend_steady

theorem payTag_steady {k : BitVec 4} : Steady p s (payTag k s) := modNet_steady

theorem txDone_steady {f : TxFrame} {q : PortId} {b : Bool} : Steady p s (txDone f q b s) := by
  unfold txDone
  split
  · exact .refl
  · exact .ite modNet_steady (finish_steady.after modNet_steady)

theorem dropFrames_steady {q : PortId} : Steady p s (dropFrames q s) :=
  Steady.trans (Steady.trans modPort_steady (.forList (fun _ _ => payTag_steady) _ _)) (.forList (fun _ _ => txDone_steady) _ _)

/-! ## Collection of events (R342, R438) -/

theorem modCq_steady {m : CqId} {f : Cq → Cq} : Steady p s (s.modCq m f) := modRings_steady

theorem writeCq_steady {m : CqId} {i : Word32} {l : List Byte} {b : Bool} : Steady p s (writeCq m i l b s) :=
  hostWrite_steady.after (modCq_steady.after hostWrite_steady)

theorem dropRecord_steady : Steady p s (dropRecord s) := by
  unfold dropRecord
  extract_lets tell t
  have ht : Steady p s t := modRings_steady
  exact .ite (raise_alerts.steady.after ht) ht

theorem recordEvent_steady {e : Event} {n : Word32} : Steady p s (recordEvent e n s) :=
  .ite .refl (.ite (writeCq_steady.after modCq_steady) dropRecord_steady)

theorem trgWaiting_steady : Steady p s (trgWaiting s) := by
  refine Steady.trans (Alerts.steady modEvents_alerts) (.forList (fun n t => ?_) _ _)
  refine mrSend_steady.after ?_
  exact .ite ((raise_alerts.trans modTrig_alerts).steady) .refl

/-- A collected event steps EVT_SEQ, and leaves the rest (R342). -/
theorem collect_lasts {e : Event} : Lasts p s (collect e s) := by
  unfold collect
  extract_lets n was e' t u v
  have ht : Lasts p s t := ⟨fun _ hw => ⟨hw, fun _ _ _ => rfl⟩, fun _ => rfl, fun _ => rfl, fun _ => rfl, fun e he _ => ⟨e, he, rfl, rfl⟩, fun _ h => h, fun _ => rfl⟩
  have hu : Steady p t u := .ite .refl applyEvent_alerts.steady
  have hv : Steady p u v := .ite declareFault_steady .refl
  refine ht.steady ((hu.trans hv).trans (recordEvent_steady.after ?_))
  exact .ite (trgWaiting_steady.after trgEvent_alerts.steady) .refl

theorem Lasts.forList {α : Type} {f : α → State → State} (h : ∀ x t, Lasts p t (f x t)) (l : List α) (s : State) : Lasts p s (forList f l s) := by
  induction l generalizing s with
  | nil => exact Steady.refl.toLasts
  | cons x l ih => exact (h x s).trans (ih (f x s))

theorem collectOwn_lasts : Lasts p s (collectOwn s) :=
  (Alerts.steady modEvents_alerts).toLasts.trans (.forList (fun _ _ => collect_lasts) _ _)

/-! ## Regions (R218, R579) -/

theorem failSwap_steady {k : Slot} : Steady p s (failSwap k s) := finish_steady.after (.forAll (fun _ _ => modRegion_steady) s)

theorem endSwap_steady {r : RegionId} {k : Slot} : Steady p s (endSwap r k s) := by
  unfold endSwap
  extract_lets t
  have ht : Steady p s t := modRegion_steady
  exact .ite ht (finishOk_steady.after ht)

theorem stopSwap_steady {r : RegionId} {k : Slot} : Steady p s (stopSwap r k s) := .ite failSwap_steady endSwap_steady

theorem stopRegion_steady {r : RegionId} : Steady p s (stopRegion r s) := by
  unfold stopRegion
  extract_lets t g a b c d e
  have ha : Steady p s a := Steady.trans leaveTest_alerts.steady (.forList (fun _ _ => finishHeld_steady) _ _)
  have hb : Steady p s b := ha.trans (.forList (fun _ _ => finish_steady) _ _)
  have hc : Steady p s c := hb.trans (.forList (fun _ _ => stopSwap_steady) _ _)
  have hd : Steady p s d := hc.trans (.forList (fun _ _ => modIsland_steady) _ _)
  exact modRegion_steady.after (modPairRegion_steady.after hd)

theorem enterDev_steady {d : DevState} : Steady p s (enterDev d s) := by
  unfold enterDev
  extract_lets a b c
  have ha : Steady p s a := .ite closeDebug_steady .refl
  have hb : Steady p s b := Steady.after modPower_steady ha
  have hc : Steady p s c := .ite (clearForces_alerts.steady.after hb) hb
  exact .ite (hc.trans (.forAll (fun _ _ => .ite .refl stopRegion_steady) _)) hc

/-! ## Sessions (R317, R322) -/

theorem captureReport_steady {k : SessId} (h : p → 0x80000 ≤ s.sessions[k].bufAddr) : Steady p s (captureReport k s) :=
  raise_alerts.steady.after (captureStore_steady h)

theorem endSession_steady {k : SessId} {st : Word16} {b : Bool} (h : p → ∀ n : SessId, 0x80000 ≤ s.sessions[n].bufAddr) :
    Steady p s (endSession k st b s) := by
  have hm : Steady p s (s.modSess k fun x => { x.progress with
      state := .ended, status := st, stopped := b, stopReq := [], notices := [], acc := [], accCount := 0, preShort := x.progress.short }) :=
    modSess_steady fun _ => ⟨rfl, rfl⟩
  refine (Steady.trans hm (captureReport_steady fun hp => ?_)).trans (.forList (fun _ _ => finishOk_steady) _ _)
  rw [hm.bufs]
  exact h hp k

/-- A fold of steps each of which is steady while the sessions' buffers lie where they lie. -/
theorem Steady.forList_bufs {α : Type} {f : α → State → State} (hf : ∀ x t, (p → ∀ n : SessId, 0x80000 ≤ t.sessions[n].bufAddr) → Steady p t (f x t))
    (l : List α) (s : State) (h : p → ∀ n : SessId, 0x80000 ≤ s.sessions[n].bufAddr) : Steady p s (Machine.forList f l s) := by
  induction l generalizing s with
  | nil => exact .refl
  | cons x l ih => exact (hf x s h).trans (ih (f x s) fun hp n => (hf x s h).bufs n ▸ h hp n)

theorem abortSessions_steady (h : p → ∀ n : SessId, 0x80000 ≤ s.sessions[n].bufAddr) : Steady p s (abortSessions s) :=
  .forList_bufs (fun _ _ ht => .ite (endSession_steady ht) .refl) _ s h

/-! ## The C-die's warm reset -/

theorem dropWaiting_steady : Steady p s (dropWaiting s) := .forAll (fun _ _ => modRegion_steady) s

theorem settleTx_steady : Steady p s (settleTx s) :=
  Steady.trans (Steady.after modNet_steady (.forList (fun _ _ => finish_steady) _ s)) (.forList (fun _ _ => payTag_steady) _ _)

theorem failResyncs_steady : Steady p s (failResyncs s) := .forAll (fun _ _ => .ite .refl abortResync_steady) s

theorem settleHeld_steady : Steady p s (settleHeld s) := dropWaiting_steady.after (settleTx_steady.after failResyncs_steady)

theorem dropWaiters_steady : Steady p s (dropWaiters s) := .of_lasting rfl

theorem orphanSessions_steady : Steady p s (orphanSessions s) :=
  .forAll (fun _ _ => modSess_steady fun _ => by split <;> exact ⟨rfl, rfl⟩) s

theorem answerAccesses_steady : Steady p s (answerAccesses s) := modHost_steady

theorem resetPairC_steady : Steady p s (resetPairC s) := Steady.trans modPair_steady (.forAll (fun _ _ => modPairRegion_steady) _)

theorem wireAbsent_steady : Steady p s (wireAbsent s) := modSaf_steady

theorem resetLoop_steady {n : Nat} : Steady p s (s.modLoop (resetLoop n)) := by
  refine .of_lasting ?_
  have hp : ((resetLoop n s.loop).probes.map Probe.gen) = s.loop.probes.map Probe.gen := by
    simp [resetLoop, Function.comp_def]
  simp only [State.lasting, State.modLoop, hp]

theorem cDieDown_lasts (h : p → ∀ w ∈ s.arb.capBuf, 0x80000 ≤ w.1) : Lasts p s (cDieDown s) := by
  unfold cDieDown
  split
  · exact Steady.refl.toLasts
  · extract_lets a b c d e f g i j
    have ha : Steady p s a :=
      Steady.trans (dropWaiters_steady.after (settleHeld_steady.after (flushCapture_steady h))) (.forAll (fun _ _ => releaseWeirs_steady) _)
    have hb : Lasts p s b :=
      ((ha.toLasts.trans collectOwn_lasts).steady openShadow_alerts.steady).steady closeDebug_steady
    have hd : Steady p b d := Steady.after modPower_steady linkFails_steady
    have he : Steady p d e := wireAbsent_steady.after modSafCh_steady
    have hf : Steady p e f := resetPairC_steady.after (clearForces_alerts.steady.after
      (answerAccesses_steady.after (orphanSessions_steady.after losePosted_steady)))
    have hg : Steady p f g := .forAll (fun _ _ => unstand_alerts.steady) _
    have hi : Steady p g i := modArb_steady.after (resetLoop_steady.after modRings_steady)
    have hj : Steady p i j := modHost_steady.after (Alerts.steady modEvents_alerts)
    exact hb.steady (hd.trans (he.trans (hf.trans (hg.trans (hi.trans (hj.trans links_steady))))))

/-! ## The P-die's warm reset -/

theorem applyAgain_steady {k : Slot} : Steady p s (applyAgain k s) := modWork_steady

theorem resetNet_steady : Steady p s (resetNet s) := by
  unfold resetNet
  extract_lets a lent b
  have hb : Steady p s b := Steady.trans (.forAll (fun _ _ => dropFrames_steady) s) (.forList (fun _ _ => applyAgain_steady) _ _)
  exact releaseWeirs_steady.after (hb.trans (.of_lasting rfl))

theorem resetPairP_steady : Steady p s (resetPairP s) := by
  unfold resetPairP
  extract_lets cmds t
  have ht : Steady p s t := .forList (fun _ _ => applyAgain_steady) _ s
  exact modPair_steady.after ht

theorem markOutage_steady : Steady p s (markOutage s) := .ite modTime_steady .refl

theorem resetBlocks_steady : Steady p s (resetBlocks s) := .of_lasting rfl

theorem dropConditions_steady : Steady p s (dropConditions s) :=
  .forAll (fun _ _ => .ite modSrc_alerts.steady .refl) s

/-- Up to the end of the P-die's run, and from it on, all that lasts through its reset is steady. -/
theorem pDieDown_parts (h : p → ∀ n : SessId, 0x80000 ≤ s.sessions[n].bufAddr) (hr : s.power.pRun = true) :
    ∃ t, Steady p s t ∧ Steady p (t.modPower fun q => { q with pRun := false, lastReset := 4, pdieCnt := satInc q.pdieCnt, domFault := 0 }) (pDieDown s) := by
  have hab : Steady p s (if s.power.cRun then abortSessions s else s) := .ite (abortSessions_steady h) .refl
  unfold pDieDown
  rw [if_neg (by simp [hr])]
  extract_lets a b c d e f g
  have hb : Steady p s b :=
    Steady.trans (closeDebug_steady.after (markOutage_steady.after hab)) (.forAll (fun _ _ => .ite .refl stopRegion_steady) _)
  have hd : Steady p s d := linkFails_steady.after (resetPairP_steady.after (resetNet_steady.after hb))
  have hf : Steady p e f := modTime_steady
  have hg : Steady p f g := dropConditions_steady.after (resetBlocks_steady.after (.ite .refl enterDev_steady))
  exact ⟨d, hd, hf.trans (hg.trans (modSaf_steady.trans links_steady))⟩

theorem modPower_lasts {f : Power → Power} : Lasts p s (s.modPower f) :=
  ⟨fun _ hw => ⟨hw, fun _ _ _ => rfl⟩, fun _ => rfl, fun _ => rfl, fun _ => rfl, fun e he _ => ⟨e, he, rfl, rfl⟩, fun _ h => h, fun _ => rfl⟩

theorem pDieDown_down (h : s.power.pRun = false) : pDieDown s = s := if_pos (by simp [h])

theorem pDieDown_lasts (h : p → ∀ n : SessId, 0x80000 ≤ s.sessions[n].bufAddr) : Lasts p s (pDieDown s) := by
  cases hr : s.power.pRun
  · exact (pDieDown_down hr).symm ▸ Steady.refl.toLasts
  · obtain ⟨t, ht, hd⟩ := pDieDown_parts h hr
    exact (ht.toLasts.trans modPower_lasts).steady hd

theorem pDieDown_seq (s : State) : (pDieDown s).events.seq = s.events.seq := by
  cases hr : s.power.pRun
  · rw [pDieDown_down hr]
  · obtain ⟨t, ht, hd⟩ := pDieDown_parts (p := False) False.elim hr
    exact hd.seq.trans ht.seq

/-- After it the P-die does not run (R32, R538). -/
theorem pDieDown_run (s : State) : (pDieDown s).power.pRun = false := by
  cases hr : s.power.pRun
  · rw [pDieDown_down hr, hr]
  · obtain ⟨t, -, hd⟩ := pDieDown_parts (p := False) False.elim hr
    exact hd.run

end Sys2Proof.Machine
end

section
-- One proof after another, as above: elaborated side by side they wait for the same lemmas, each with a thread and its stack.
set_option Elab.async false

/-!
SUPPORT. Registers across a reset (R538, R539): what a table reads after some of its keys have been dropped and others written, and with it
the register words at the end of a die's reset. What AO alone keeps (R352, R357, R359, R537).
-/
namespace Sys2Proof.Machine

open Sys2Proof

variable {s t : State}

/-! ## Tables -/

section

variable {α : Type} {d : Nat → α}

theorem look_filter_key (g : Nat → Bool) (l : List (Nat × α)) (k : Nat) :
    look d (l.filter fun q => g q.1) k = if g k then look d l k else d k := by
  induction l with
  | nil => simp [look]
  | cons q l ih =>
    obtain ⟨j, x⟩ := q
    by_cases hj : j = k
    · subst hj
      by_cases hg : g j = true
      · simp [hg, look]
      · simpa [hg] using ih
    · by_cases hg : g j = true <;> simpa [hg, look, hj] using ih

/-- Entries of a canonical table written one after the other into another: each key reads as the former has it, else as before. -/
theorem look_puts [DecidableEq α] {m : List (Nat × α)} (k : Nat) (hm : tableWf d m = true) : ∀ {l : List (Nat × α)}, tableWf d l = true →
    look d (m.foldl (fun l q => put d l q.1 q.2) l) k = if look d m k = d k then look d l k else look d m k := by
  induction m with
  | nil => simp [look]
  | cons q m ih =>
    intro l hl
    obtain ⟨j, x⟩ := q
    obtain ⟨hx, hj, hw⟩ := tableWf_cons.1 hm
    refine (ih hw (tableWf_put j x hl)).trans ?_
    by_cases hk : j = k
    · subst hk
      rw [if_pos (look_above hj), look_put_same j x hl, look, if_pos rfl, if_neg hx]
    · rw [look_put_other j x (Ne.symm hk) hl, look, if_neg hk]

end

/-! ## Registers at the end of a die's reset -/

theorem restoreRegs_reg {d : Die} (h : RegsSound s) (off : Nat) :
    (restoreRegs d s).reg off = if dieRegister d off then look resetWord s.sealRecord off else s.reg off := by
  have hl : tableWf resetWord (s.regs.filter fun q => !dieRegister d q.1) = true := tableWf_filter _ h.1.1
  have hm : tableWf resetWord (s.sealRecord.filter fun q => dieRegister d q.1) = true := tableWf_filter _ h.2.1
  refine (look_puts off hm hl).trans ?_
  rw [look_filter_key (dieRegister d), look_filter_key fun k => !dieRegister d k]
  by_cases hd : dieRegister d off = true
  · by_cases hr : look resetWord s.sealRecord off = resetWord off <;> simp [hd, hr]
  · simp [hd, State.reg]

theorem cDieUp_frame (s : State) : (cDieUp s).frame = (restoreRegs .c s).frame := by
  unfold cDieUp
  extract_lets t0 t u v w q
  have hu : u.frame = (restoreRegs .c s).frame := closeCDieWindow_frame _ (endDieSafe_frame _ rfl)
  have hv : v.frame = (restoreRegs .c s).frame := ite_frame (loseMemory_frame _ hu) hu
  have hw : w.frame = (restoreRegs .c s).frame := resumeContexts_frame _ (reloadCode_frame _ (modLoop_frame _ _ hv))
  exact reportOrphans_frame _ (startReplay_frame _ _ (raise_frame _ _ _ _ _ (fresh_frame _ hw)))

theorem pDieUp_frame (s : State) : (pDieUp s).frame = (restoreRegs .p s).frame := by
  unfold pDieUp
  extract_lets core t u v w q
  have ht : t.frame = (restoreRegs .p s).frame := rfl
  have hu : u.frame = (restoreRegs .p s).frame := ite_frame ht (channel1PowerUp_frame _ ht)
  have hv : v.frame = (restoreRegs .p s).frame :=
    forAll_frame (fun i t _ => standWindow_frame i t) (restartTrigs_frame _ (startBanks_frame _ hu))
  have hw : w.frame = (restoreRegs .p s).frame := netUp_frame _ hv
  exact startReplay_frame _ _ (raise_frame _ _ _ _ _ (fresh_frame _ hw))

theorem sealRecord_of_frame (h : t.frame = s.frame) : t.sealRecord = s.sealRecord := congrArg (fun x => x.2.2) h

theorem reg_of_frame (h : t.frame = s.frame) (off : Nat) : t.reg off = s.reg off := by
  rw [State.reg, regs_of_frame h, State.reg]

/-! ## Package memory through the end of the P-die's reset -/

@[simp] theorem raise_mem (k : SourceId) (d : EvDef) (a b : Word32) (s : State) : (raise k d a b s).mem = s.mem := raise_alerts.keeps State.mem
@[simp] theorem stand_mem (k : SourceId) (d : EvDef) (s : State) : (stand k d s).mem = s.mem := rfl
@[simp] theorem unstand_mem (k : SourceId) (d : EvDef) (s : State) : (unstand k d s).mem = s.mem := rfl

@[simp] theorem discCleared_mem (s0 : State) (q : SafPair) (s : State) : (discCleared s0 q s).mem = s.mem := by
  unfold discCleared
  split
  · split <;> simp
  · rfl

@[simp] theorem clearTestFaults_mem (s : State) : (clearTestFaults s).mem = s.mem := by
  unfold clearTestFaults
  extract_lets t
  have ht : t.mem = s.mem := forAll_keeps State.mem (fun o t => by split <;> simp) s
  split <;> simp [ht]

@[simp] theorem channel1PowerUp_mem (s : State) : (channel1PowerUp s).mem = s.mem := by
  simp [channel1PowerUp, channelPowerUp]

@[simp] theorem standWindow_mem (c : ChanId) (s : State) : (standWindow c s).mem = s.mem := by
  have hs (b : Bool) (s : State) : (setWindow c b s).mem = s.mem := rfl
  unfold standWindow
  dsimp only
  split
  · split <;> simp [hs]
  · split
    · unfold assertWindow
      split <;> simp [hs]
    · rfl
  · rfl

@[simp] theorem startBanks_mem (s : State) : (startBanks s).mem = s.mem := forAll_keeps State.mem (by intros; rfl) s
@[simp] theorem restartTrigs_mem (s : State) : (restartTrigs s).mem = s.mem := forAll_keeps State.mem (by intros; rfl) s

@[simp] theorem loseLock_mem (s : State) : (loseLock s).mem = s.mem := by
  unfold loseLock
  dsimp only
  split <;> simp

@[simp] theorem netUp_mem (s : State) : (netUp s).mem = s.mem := by
  unfold netUp
  split
  · unfold timeRestart
    dsimp only
    rw [raise_mem, loseLock_mem]
    split <;> rfl
  · rfl

theorem pDieUp_mem (s : State) : (pDieUp s).mem = s.mem := by
  unfold pDieUp
  extract_lets core t u v w q
  have hu : u.mem = s.mem := by
    show (if core then t else channel1PowerUp t).mem = s.mem
    split <;> simp [t, restoreRegs]
  have hv : v.mem = u.mem :=
    (forAll_keeps State.mem standWindow_mem _).trans ((restartTrigs_mem _).trans (startBanks_mem _))
  show (raise 183 evPdieWarmReset _ 0 (netUp v).fresh.2).mem = s.mem
  simp [hu, hv]

/-! ## What AO alone keeps -/

/-- Of `s` there lasts in `t` what AO keeps, and the rest of the durable contents is empty or at its reset word (R352, R357, R537). -/
def AoKept (s t : State) : Prop :=
  t.rings.nextAsn = s.rings.nextAsn ∧ t.rings.journal = [] ∧ t.mem = [] ∧ t.sealRecord = [] ∧ t.events.seq = s.events.seq ∧
    (∀ n : SessId, t.sessions[n].gen = s.sessions[n].gen) ∧ (∀ n : Fin 16, t.loop.probes[n].gen = s.loop.probes[n].gen) ∧
    (∀ n : WeirId, t.weirs[n].gen = s.weirs[n].gen) ∧ t.rings.regionWords = s.rings.regionWords ∧ t.rings.timeWords = s.rings.timeWords ∧
    ∀ off, t.reg off = if aoRegister off then s.reg off else resetWord off

theorem aoOnly_kept (s : State) : AoKept s (aoOnly s) :=
  ⟨rfl, rfl, rfl, rfl, rfl, fun n => by simp [aoOnly], fun n => by simp [aoOnly], fun n => by simp [aoOnly], rfl, rfl,
    fun off => look_filter_key aoRegister s.regs off⟩

theorem goStabled_kept (s : State) : AoKept s (goStabled s) := by
  have h : AoKept s (aoOnly (markOutage s)) := by
    unfold markOutage
    split
    · exact aoOnly_kept _
    · exact aoOnly_kept s
  exact h

theorem wakeUp_kept (l : BitVec 3) (c : BitVec 6) (s : State) : AoKept s (wakeUp l c s) := by
  have h := aoOnly_kept s
  unfold wakeUp
  extract_lets t
  split
  · exact h
  · exact h

end Sys2Proof.Machine

namespace Sys2Proof

open Sys2Proof.Machine

/-- Settles O43: what lasts through each operation of a warm reset, the register words at its end, and what AO alone keeps. -/
theorem resetsKeep : Obligations.ResetsKeep := by
  refine ⟨fun s t ht => ?_, fun s off h => ⟨(sealRecord_of_frame (cDieUp_frame s)).trans rfl, ?_⟩,
    fun s off h => ⟨(sealRecord_of_frame (pDieUp_frame s)).trans rfl, pDieUp_mem s, ?_⟩, fun s t ht => ?_, fun s => ⟨rfl, rfl, rfl, rfl, rfl, rfl, rfl⟩⟩
  · have hl : Lasts ((∀ w ∈ s.arb.capBuf, 0x80000 ≤ w.1) ∧ ∀ n : SessId, 0x80000 ≤ s.sessions[n].bufAddr) s t := by
      rcases ht with rfl | rfl
      · exact cDieDown_lasts And.left
      · exact pDieDown_lasts And.right
    have hf : t.frame = s.frame := by
      rcases ht with rfl | rfl
      · exact cDieDown_frame s rfl
      · exact pDieDown_frame s rfl
    exact ⟨hl.gens, hl.probes, hl.entries, hl.asn, regs_of_frame hf, sealRecord_of_frame hf, fun hp => hp ▸ pDieDown_seq s,
      fun hw hc hb => (hl.mem ⟨hc, hb⟩ hw).2⟩
  · rw [reg_of_frame (cDieUp_frame s), restoreRegs_reg h]
  · rw [reg_of_frame (pDieUp_frame s), restoreRegs_reg h]
  · rcases ht with rfl | ⟨l, c, rfl⟩
    · exact goStabled_kept s
    · exact wakeUp_kept l c s

end Sys2Proof
end

section
-- One proof after another, as above: elaborated side by side they wait for the same lemmas, each with a thread and its stack.
set_option Elab.async false

/-!
SUPPORT. Package safe state while the P-die is in reset (R34, R35): what settles a change holds every unit off and opens channel 1's switches
then, and nothing that follows in the same tick turns them on again.
-/
namespace Sys2Proof.Machine

open Sys2Proof

variable {s t : State}

/-- While the P-die is in reset, the outputs have the safe values of R34. -/
def DownSafe (s : State) : Prop := s.power.pRun = false → PackageSafe s

/-- What the outputs go by while the P-die is in reset: its run, the gates, the switches of both channels. -/
def State.outs (s : State) := (s.power.pRun, s.units.map GateUnit.gate, s.saf.ch.map SafChannel.so)

/-! ## The outputs of a P-die in reset -/

theorem pkgSafe_down (h : s.power.pRun = false) : s.pkgSafe = true := by
  simp [State.pkgSafe, State.pkgSafeHeld, h]

/-- While the P-die is in reset the contactor drive is off and discharge requested; units and safe outputs are left to see to. -/
theorem packageSafe_down (h : s.power.pRun = false) (hg : GatesOff s) (ho : ∀ o : SoId, s.soOn o = false) : PackageSafe s where
  gates := hg
  soA := ho 0
  soB := ho 1
  drive := by simp [State.cdrvOn, h]
  discharge := by simp [State.dchOn, h]

theorem soOn_of_outs (h : t.outs = s.outs) (o : SoId) : t.soOn o = s.soOn o := by
  have hc : t.saf.ch.map SafChannel.so = s.saf.ch.map SafChannel.so := congrArg (fun x => x.2.2) h
  have h0 : t.saf.ch[0].so = s.saf.ch[0].so := by simpa using congrArg (fun v => v[0]) hc
  have h1 : t.saf.ch[1].so = s.saf.ch[1].so := by simpa using congrArg (fun v => v[1]) hc
  rw [State.soOn, State.soOn, h0, h1]

theorem gate_of_outs (h : t.outs = s.outs) (u : UnitId) : t.units[u].gate = s.units[u].gate := by
  have hg : t.units.map GateUnit.gate = s.units.map GateUnit.gate := congrArg (fun x => x.2.1) h
  simpa using congrArg (fun v => v[u]) hg

theorem DownSafe.of_outs (h : DownSafe s) (ht : t.outs = s.outs) : DownSafe t := by
  intro hr
  have hs : PackageSafe s := h ((congrArg (fun x => x.1) ht).symm.trans hr)
  refine packageSafe_down hr (fun u => (gate_of_outs ht u).trans (hs.gates u)) fun o => (soOn_of_outs ht o).trans ?_
  match o with
  | 0 => exact hs.soA
  | 1 => exact hs.soB

theorem DownSafe.ite {c : Prop} [Decidable c] (hs : DownSafe s) (ht : DownSafe t) : DownSafe (if c then s else t) := by
  split <;> assumption

/-! ## The switches of the safe outputs -/

theorem soWant_down (h : s.power.pRun = false) (c : SafCh) (o : SoId) : s.soWant c o = false := by
  simp [State.soWant, State.soReq, pkgSafe_down h]

theorem settleSwitches_soOn (h : s.power.pRun = false) (o : SoId) : (settleSwitches s).soOn o = false := by
  have h0 : (s.chSwitches 0).so = #v[false, false] := by simp [State.chSwitches, soWant_down h]
  have ho : (settleSwitches s).soOn o = ((s.chSwitches 0).so[o] && (s.chSwitches 1).so[o]) := rfl
  rw [ho, h0]
  match o with
  | 0 => rfl
  | 1 => rfl

/-! ## What follows the switches -/

/-- The P-die's run and the safety channels. -/
def State.doors (s : State) := (s.power.pRun, s.saf.ch)

theorem soOn_of_doors (h : t.doors = s.doors) (o : SoId) : t.soOn o = s.soOn o := by
  have hc : t.saf.ch = s.saf.ch := congrArg (fun x => x.2) h
  rw [State.soOn, State.soOn, hc]

theorem noteOutputs_soOn (h : (noteOutput 1 (noteOutput 0 (settleSwitches s))).power.pRun = false) (o : SoId) :
    (noteOutput 1 (noteOutput 0 (settleSwitches s))).soOn o = false :=
  settleSwitches_soOn (s := s) h o

theorem settleSaf_soOn (h : (settleSaf s).power.pRun = false) (o : SoId) : (settleSaf s).soOn o = false := noteOutputs_soOn h o

theorem ite_doors {c : Prop} [Decidable c] {a b : State} (ha : a.doors = s.doors) (hb : b.doors = s.doors) : (if c then a else b).doors = s.doors := by
  split <;> assumption

theorem openWindows_alerts {o : ShadowObj} {l m : List (Nat × BitVec 8)} : Alerts s (openWindows o l m s) := by
  unfold openWindows
  split
  · exact .refl
  · exact openShadow_alerts

theorem openWindows_doors (o : ShadowObj) (l m : List (Nat × BitVec 8)) (s : State) : (openWindows o l m s).doors = s.doors :=
  openWindows_alerts.keeps State.doors

/-- A change made or not made, after what kept the doors, keeps them if it does. -/
theorem doors_when {c : Prop} [Decidable c] {a b : State} (hb : b.doors = a.doors) (ha : a.doors = s.doors) :
    (if c then b else a).doors = s.doors :=
  ite_doors (hb.trans ha) ha

theorem modSrc_doors {n : SourceId} {f : Source → Source} : (s.modSrc n f).doors = s.doors := rfl

theorem modRegion_doors {r : RegionId} {f : Region → Region} : (s.modRegion r f).doors = s.doors := rfl

theorem modIsland_doors {i : IslandId} {f : Island → Island} : (s.modIsland i f).doors = s.doors := rfl

theorem settleRegion_doors (s0 : State) (r : RegionId) (s : State) : (settleRegion s0 r s).doors = s.doors := by
  unfold settleRegion
  extract_lets a b c
  have ha : a.doors = s.doors := openWindows_doors _ _ _ s
  have hb : b.doors = s.doors := doors_when modSrc_doors ha
  have hc : c.doors = s.doors := doors_when modRegion_doors hb
  exact doors_when modRegion_doors hc

theorem settleIsland_doors (s0 : State) (i : IslandId) (s : State) : (settleIsland s0 i s).doors = s.doors := by
  unfold settleIsland
  extract_lets a off b
  have ha : a.doors = s.doors := openWindows_doors _ _ _ s
  have hb : b.doors = s.doors := doors_when modIsland_doors ha
  exact ite_doors hb (modIsland_doors.trans hb)

theorem endStopped_doors (u : UnitId) (s : State) : (endStopped u s).doors = s.doors := ite_doors rfl rfl

theorem settleUnit_doors (u : UnitId) (s : State) : (settleUnit u s).doors = s.doors := by
  unfold settleUnit
  extract_lets x a b
  have ha : a.doors = s.doors := ite_doors rfl rfl
  have hb : b.doors = s.doors := ite_doors ha ha
  exact ite_doors hb hb

theorem gateIsland_doors (i : IslandId) (s : State) : (gateIsland i s).doors = s.doors := ite_doors rfl rfl

theorem settleGates_doors (i : IslandId) (s : State) : (settleGates i s).doors = s.doors := ite_doors (gateIsland_doors i s) rfl

theorem countSwitched_doors (s0 s : State) : (countSwitched s0 s).doors = s.doors :=
  forAll_keeps State.doors (by intros; exact ite_doors rfl rfl) s

/-! ## Gates -/

theorem unitHeld_down (h : s.power.pRun = false) (u : UnitId) : s.unitHeld u = true := by
  have hr (r : RegionId) : s.regionHeld r = true := by
    simp [State.regionHeld, State.showsInhibit, State.inhibited, pkgSafe_down h]
  unfold State.unitHeld State.cmdHeld State.heldForTest
  split <;> simp [hr]

/-- A change of one unit that turns no gate on leaves each gate off that was off. -/
theorem modUnit_gate_off {u v : UnitId} {f : GateUnit → GateUnit} (hf : ∀ x, x.gate = false → (f x).gate = false) (h : s.units[v].gate = false) :
    (s.modUnit u f).units[v].gate = false := by
  rw [State.modUnit_units]
  by_cases huv : u = v
  · subst huv
    rw [upd_same]
    exact hf _ h
  · rwa [upd_other _ _ huv]

theorem setGate_gate_off {u v : UnitId} (h : s.units[v].gate = false) : (setGate u false s).units[v].gate = false :=
  modUnit_gate_off (fun _ _ => rfl) h

theorem ite_gate_off {c : Prop} [Decidable c] {v : UnitId} (hs : s.units[v].gate = false) (ht : t.units[v].gate = false) :
    (if c then s else t).units[v].gate = false := by
  split <;> assumption

/-- While the P-die is in reset, settling a unit turns its gate off and no other on. -/
theorem settleUnit_gate_off {u v : UnitId} (h : s.power.pRun = false) (hv : s.units[v].gate = false ∨ v = u) :
    (settleUnit u s).units[v].gate = false := by
  unfold settleUnit
  extract_lets x a b
  have ha : a.units[v].gate = false := by
    have hq : a = s.modUnit u fun x => { x with gate := false } := if_neg (by simp [unitHeld_down h])
    rw [hq]
    rcases hv with hv | rfl
    · exact modUnit_gate_off (fun _ _ => rfl) hv
    · rw [State.modUnit_units, upd_same]
  have hb : b.units[v].gate = false := ite_gate_off ha (modUnit_gate_off (fun _ hx => hx) (modUnit_gate_off (fun _ hx => hx) ha))
  exact ite_gate_off (modUnit_gate_off (fun _ hx => hx) hb) hb

theorem run_of_doors (h : t.doors = s.doors) : t.power.pRun = s.power.pRun := congrArg (fun x => x.1) h

theorem settleUnits_gate_off {l : List UnitId} {v : UnitId} (h : s.power.pRun = false) (hv : s.units[v].gate = false ∨ v ∈ l) :
    (forList settleUnit l s).units[v].gate = false := by
  induction l generalizing s with
  | nil => exact hv.resolve_right (List.not_mem_nil)
  | cons u l ih =>
    refine ih ((run_of_doors (settleUnit_doors u s)).trans h) ?_
    rcases hv with hv | hv
    · exact .inl (settleUnit_gate_off h (.inl hv))
    · rcases List.mem_cons.1 hv with rfl | hv
      · exact .inl (settleUnit_gate_off h (.inr rfl))
      · exact .inr hv

theorem settleUnits_gatesOff (h : s.power.pRun = false) : GatesOff (forAll settleUnit s) := fun v =>
  settleUnits_gate_off h (.inr (List.mem_finRange v))

theorem gateIsland_gate_off (h : s.power.pRun = false) {i : IslandId} {v : UnitId} (hv : s.units[v].gate = false) :
    (gateIsland i s).units[v].gate = false := by
  have hg : (setGate (unitL i) false (setGate (unitH i) false s)).units[v].gate = false := setGate_gate_off (setGate_gate_off hv)
  simp only [gateIsland, unitHeld_down h, Bool.not_true, Bool.and_false]
  exact ite_gate_off hg hg

theorem settleGates_gate_off (h : s.power.pRun = false) {i : IslandId} {v : UnitId} (hv : s.units[v].gate = false) :
    (settleGates i s).units[v].gate = false :=
  ite_gate_off (gateIsland_gate_off h hv) hv

theorem settleGates_gatesOff (h : s.power.pRun = false) (hg : GatesOff s) : GatesOff (forAll settleGates s) := by
  suffices hl : ∀ l : List IslandId, GatesOff (forList settleGates l s) from hl _
  intro l
  induction l generalizing s with
  | nil => exact hg
  | cons i l ih => exact ih ((run_of_doors (settleGates_doors i s)).trans h) fun v => settleGates_gate_off h (hg v)

theorem countSwitched_units (s0 s : State) : (countSwitched s0 s).units = s.units :=
  forAll_keeps State.units (by intros; split <;> rfl) s

/-! ## What settles a change -/

/-- After the switches, only run and gates are yet to follow. -/
theorem settle_doors (s0 s : State) : (settle s0 s).doors = (settleSaf (settleDev (dropTrips s))).doors := by
  unfold settle
  extract_lets a b c d
  calc (countSwitched s0 (forAll settleGates d)).doors
    _ = (forAll settleGates d).doors := countSwitched_doors s0 _
    _ = d.doors := forAll_keeps State.doors settleGates_doors d
    _ = (forAll endStopped c).doors := forAll_keeps State.doors settleUnit_doors _
    _ = c.doors := forAll_keeps State.doors endStopped_doors c
    _ = b.doors := forAll_keeps State.doors (settleIsland_doors s0) b
    _ = a.doors := forAll_keeps State.doors (settleRegion_doors s0) a

theorem settledUnits_gatesOff {s0 : State} (h : (countSwitched s0 (forAll settleGates (forAll settleUnit s))).power.pRun = false) :
    GatesOff (countSwitched s0 (forAll settleGates (forAll settleUnit s))) := by
  rw [run_of_doors (countSwitched_doors s0 _), run_of_doors (forAll_keeps State.doors settleGates_doors _)] at h
  intro u
  rw [countSwitched_units]
  exact settleGates_gatesOff h (settleUnits_gatesOff ((run_of_doors (forAll_keeps State.doors settleUnit_doors s)).symm.trans h)) u

theorem settle_gatesOff {s0 : State} (h : (settle s0 s).power.pRun = false) : GatesOff (settle s0 s) := by
  rw [settle] at h ⊢
  exact settledUnits_gatesOff h

theorem DownSafe.settle (s0 s : State) : DownSafe (settle s0 s) := fun h =>
  packageSafe_down h (settle_gatesOff h) fun o =>
    (soOn_of_doors (settle_doors s0 s) o).trans (settleSaf_soOn ((run_of_doors (settle_doors s0 s)).symm.trans h) o)

/-! ## What settles a change leaves the P-die in run or reset -/

theorem dropTrips_run (s : State) : (dropTrips s).power.pRun = s.power.pRun := rfl

theorem enterDev_run (d : DevState) (s : State) : (enterDev d s).power.pRun = s.power.pRun :=
  (enterDev_steady (p := False)).run

theorem settleDev_run (s : State) : (settleDev s).power.pRun = s.power.pRun := by
  unfold settleDev
  split
  · split
    · exact enterDev_run _ s
    · split
      · rfl
      · exact enterDev_run _ s
  · split
    · exact enterDev_run _ s
    · split
      · exact enterDev_run _ s
      · rfl
  · split
    · rfl
    · exact enterDev_run _ s
  · rfl

theorem reportDemands_run (s : State) : (reportDemands s).power.pRun = s.power.pRun := by
  have hr (t : State) (c : Prop) [Decidable c] (n : SourceId) (k : EvDef) (f : Saf → Saf) :
      (if c then t else (raise n k 0 0 t).modSaf f).power.pRun = t.power.pRun := by
    split
    · rfl
    · exact raise_alerts.keeps fun s => s.power.pRun
  exact (hr _ _ _ _ _).trans (hr _ _ _ _ _)

theorem clearByRequest_run (o : SoId) (s : State) : (clearByRequest o s).power.pRun = s.power.pRun := by
  unfold clearByRequest
  extract_lets f a b
  have ha : a.power.pRun = s.power.pRun := raise_alerts.keeps fun s => s.power.pRun
  have hu (t : State) (c : Prop) [Decidable c] (k : EvDef) (h : t.power.pRun = s.power.pRun) :
      (if c then t else unstand 177 k t).power.pRun = s.power.pRun := by
    split
    · exact h
    · exact (unstand_alerts.keeps fun s => s.power.pRun).trans h
  split
  · exact hu _ _ _ (hu _ _ _ ha)
  · rfl

theorem abandonTests_run (s : State) : (abandonTests s).power.pRun = s.power.pRun := by
  unfold abandonTests
  refine forAll_keeps (fun s => s.power.pRun) (fun c t => ?_) s
  refine forAll_keeps (fun s => s.power.pRun) (fun o t => ?_) t
  split
  · exact raise_alerts.keeps fun s => s.power.pRun
  · rfl

theorem noteDemand_run (s : State) : (noteDemand s).power.pRun = s.power.pRun := rfl

theorem settleOutputs_run (s : State) :
    (noteOutput 1 (noteOutput 0 (settleSwitches (settlePath2 (settlePath1 s))))).power.pRun = s.power.pRun := rfl

theorem settleSaf_run (s : State) : (settleSaf s).power.pRun = s.power.pRun :=
  (settleOutputs_run _).trans ((abandonTests_run _).trans
    ((clearByRequest_run 1 _).trans ((clearByRequest_run 0 _).trans ((noteDemand_run _).trans (reportDemands_run s)))))

theorem settle_run (s0 s : State) : (settle s0 s).power.pRun = s.power.pRun :=
  (run_of_doors (settle_doors s0 s)).trans ((settleSaf_run _).trans ((settleDev_run _).trans (dropTrips_run s)))

end Sys2Proof.Machine
end

section
-- One proof after another, as above: elaborated side by side they wait for the same lemmas, each with a thread and its stack.
set_option Elab.async false

/-!
SUPPORT. What moves neither the P-die's run nor a gate nor a switch of the safe outputs: the parts of the state that hold other things, and the
operations of the rows that end without settling.
-/
namespace Sys2Proof.Machine

open Sys2Proof

variable {s t : State}

/-! ## Parts of the state -/

@[simp] theorem modHost_outs (f : HostLink → HostLink) : (s.modHost f).outs = s.outs := rfl
@[simp] theorem modEvents_outs (f : Events → Events) : (s.modEvents f).outs = s.outs := rfl
@[simp] theorem modTrig_outs (v : TrigId) (f : TrigUnit → TrigUnit) : (s.modTrig v f).outs = s.outs := rfl
@[simp] theorem modRings_outs (f : Rings → Rings) : (s.modRings f).outs = s.outs := rfl
@[simp] theorem modCq_outs (m : CqId) (f : Cq → Cq) : (s.modCq m f).outs = s.outs := rfl
@[simp] theorem modSess_outs (k : SessId) (f : Session → Session) : (s.modSess k f).outs = s.outs := rfl
@[simp] theorem modPair_outs (f : Pair → Pair) : (s.modPair f).outs = s.outs := rfl
@[simp] theorem modPairRegion_outs (r : RegionId) (f : PairRegion → PairRegion) : (s.modPairRegion r f).outs = s.outs := rfl
@[simp] theorem modNet_outs (f : Net → Net) : (s.modNet f).outs = s.outs := rfl
@[simp] theorem modPort_outs (p : PortId) (f : Port → Port) : (s.modPort p f).outs = s.outs := rfl
@[simp] theorem modLoop_outs (f : Loop → Loop) : (s.modLoop f).outs = s.outs := rfl
@[simp] theorem modRt_outs (c : CtxId) (f : CtxRt → CtxRt) : (s.modRt c f).outs = s.outs := rfl
@[simp] theorem modArb_outs (f : Arb → Arb) : (s.modArb f).outs = s.outs := rfl
@[simp] theorem modMr_outs (d : Die) (f : MrDir → MrDir) : (s.modMr d f).outs = s.outs := by
  cases d <;> rfl
@[simp] theorem modRegion_outs (r : RegionId) (f : Region → Region) : (s.modRegion r f).outs = s.outs := rfl
@[simp] theorem modBank_outs (b : BankId) (f : Bank → Bank) : (s.modBank b f).outs = s.outs := rfl

theorem ite_outs {c : Prop} [Decidable c] {a b : State} (ha : a.outs = s.outs) (hb : b.outs = s.outs) : (if c then a else b).outs = s.outs := by
  split <;> assumption

theorem forList_outs {α : Type} {f : α → State → State} (h : ∀ x t, (f x t).outs = t.outs) (l : List α) (s : State) : (forList f l s).outs = s.outs :=
  forList_keeps State.outs h l s

theorem forAll_outs {n : Nat} {f : Fin n → State → State} (h : ∀ i t, (f i t).outs = t.outs) (s : State) : (forAll f s).outs = s.outs :=
  forList_keeps State.outs h _ s

/-- A change of one unit that leaves its gate leaves every gate. -/
theorem modUnit_outs {u : UnitId} {f : GateUnit → GateUnit} (hf : ∀ x, (f x).gate = x.gate) : (s.modUnit u f).outs = s.outs := by
  have hu : (upd s.units u f).map GateUnit.gate = s.units.map GateUnit.gate := by
    ext i hi
    by_cases h : u.val = i
    · subst h
      simp [upd, hf]
    · simp [upd, h]
  exact congrArg (fun g => (s.power.pRun, g, s.saf.ch.map SafChannel.so)) hu

@[simp] theorem raise_outs (k : SourceId) (d : EvDef) (a b : Word32) (s : State) : (raise k d a b s).outs = s.outs := raise_alerts.keeps State.outs

@[simp] theorem injected_outs (s : State) : (injected s).outs = s.outs := rfl

/-! ## Memory and journal -/

@[simp] theorem readLine_outs (n : Nat) (e : SymErr) (r : BitVec 8) (y : BitVec 4) (s : State) : (readLine n e r y s).outs = s.outs :=
  ite_outs ((raise_outs _ _ _ _ _).trans rfl) ((raise_outs _ _ _ _ _).trans rfl)

@[simp] theorem write_outs (r : BitVec 8) (a : Nat) (l : List Byte) (s : State) : (s.write r a l).outs = s.outs :=
  have h (x : List (Nat × SymErr)) : ((forList (fun e t => readLine e.1 e.2 r 2 t) x s).store a l).outs = s.outs :=
    forList_outs (fun _ _ => readLine_outs _ _ _ _ _) x s
  ite_outs (h _) (h _)

@[simp] theorem storeCtxWords_outs (c : Nat) (w : AsnWords) (s : State) : (storeCtxWords c w s).outs = s.outs := by
  simp [storeCtxWords]

@[simp] theorem wroteJournal_outs (k : Nat) (s : State) : (wroteJournal k s).outs = s.outs := by
  unfold wroteJournal
  extract_lets hit t
  have ht : t.outs = s.outs := modRings_outs _
  exact ite_outs ((injected_outs t).trans ht) ht

@[simp] theorem modEntry_outs (k : Slot) (f : JEntry → JEntry) (s : State) : (modEntry k f s).outs = s.outs := wroteJournal_outs _ _

@[simp] theorem dropWork_outs (k : Slot) (s : State) : (dropWork k s).outs = s.outs := rfl

@[simp] theorem recordTarget_outs (e : JEntry) (s : State) : (recordTarget e s).outs = s.outs := by
  unfold recordTarget
  dsimp only
  split
  · exact ite_outs (storeCtxWords_outs _ _ _) rfl
  · exact forList_outs (fun _ _ => modRings_outs _) _ s
  · split <;> rfl
  · split <;> rfl
  · split <;> rfl
  · rfl
  · exact forList_outs (fun _ _ => modPairRegion_outs _ _) _ s
  · rfl
  · rfl

@[simp] theorem finish_outs (k : Slot) (st : Word16) (d : Word32) (r : Word64) (b : Bool) (s : State) : (finish k st d r b s).outs = s.outs := by
  unfold finish
  split
  · rfl
  · extract_lets e q re record u v
    have hrec (t : State) : (record t).outs = t.outs := ite_outs (write_outs _ _ _ _) rfl
    have hu : u.outs = s.outs := ite_outs ((recordTarget_outs _ _).trans ((hrec _).trans rfl)) rfl
    have hv : v.outs = s.outs := (dropWork_outs _ _).trans ((modEntry_outs _ _ _).trans hu)
    exact ite_outs hv hv

@[simp] theorem applyWrite_outs (c : CtxId) (off : Nat) (l : List Byte) (s : State) : (applyWrite c off l s).outs = s.outs := by
  simp [applyWrite, throughCtx]

theorem applyHeld_outs (h : ParamHeld) (s : State) : (applyHeld h s).outs = s.outs := by
  unfold applyHeld
  split <;> simp [finishOk]

theorem applyOrphan_outs (k : Slot) (s : State) : (applyOrphan k s).outs = s.outs := by
  unfold applyOrphan
  split
  · split
    · exact ite_outs rfl (applyHeld_outs _ s)
    · exact applyHeld_outs _ s
  · rfl

/-! ## Host and rings -/

@[simp] theorem readAs_outs (v : Word32) (s : State) : (readAs v s).outs = s.outs := rfl

@[simp] theorem hostRead_outs (y : DmaUse) (a : Word64) (s : State) : (hostRead y a s).outs = s.outs := rfl

theorem ackOne_outs (e : JEntry) (s : State) : (ackOne e s).outs = s.outs := rfl

theorem fetchData_outs (k : Slot) (a : Word64) (s : State) : (fetchData k a s).outs = s.outs := ite_outs rfl rfl

@[simp] theorem writeCq_outs (m : CqId) (i : Word32) (l : List Byte) (b : Bool) (s : State) : (writeCq m i l b s).outs = s.outs := rfl

theorem postEntry_outs (e : JEntry) (s : State) : (postEntry e s).outs = s.outs := by
  unfold postEntry
  extract_lets i l u v
  have hu : u.outs = s.outs := ite_outs rfl rfl
  have hv : v.outs = s.outs := (dropWork_outs _ _).trans ((writeCq_outs _ _ _ _ _).trans hu)
  simp [hv]

theorem signalVector_outs (v : Nat) (s : State) : (signalVector v s).outs = s.outs := ite_outs rfl rfl

theorem writeMsix_outs (b : Nat) (w : Word32) (s : State) : (writeMsix b w s).outs = s.outs :=
  ite_outs rfl (ite_outs rfl rfl)

theorem readQdata_outs (b : BankId) (s : State) : (readQdata b s).outs = s.outs := by
  unfold readQdata
  split <;> rfl

theorem readTxq_outs (s : State) : (readTxq s).outs = s.outs := by
  unfold readTxq
  split <;> rfl

/-! ## Links, ports and the pair -/

theorem losePayload_outs (y : Payload) (s : State) : (losePayload y s).outs = s.outs := by
  match y with
  | .samples l => exact forList_outs (fun _ t => forAll_outs (fun _ _ => modSess_outs _ _) t) l s
  | .chain f => exact forList_outs (fun _ t => forAll_outs (fun _ _ => modSess_outs _ _) t) _ s
  | .duty _ => rfl
  | .notice _ => rfl

@[simp] theorem mrSend_outs (d : Die) (vc : Fin 4) (y : Payload) (s : State) : (mrSend d vc y s).outs = s.outs :=
  ite_outs (modMr_outs d _) (losePayload_outs y s)

theorem sendNext_outs (d : Die) (s : State) : (sendNext d s).outs = s.outs := by
  unfold sendNext
  extract_lets t m
  have ht : t.outs = s.outs := modMr_outs _ _
  exact ite_outs ((modMr_outs d _).trans ht) (ite_outs ht ((modMr_outs d _).trans ht))

theorem flushPacked_outs (b : BankId) (s : State) : (flushPacked b s).outs = s.outs := ite_outs rfl (mrSend_outs _ _ _ s)

theorem chainFlush_outs (n : ChainId) (s : State) : (chainFlush n s).outs = s.outs := ite_outs rfl (mrSend_outs _ _ _ s)

theorem trgWaiting_outs (s : State) : (trgWaiting s).outs = s.outs := by
  refine forList_outs (fun n t => ?_) _ _
  exact (mrSend_outs _ _ _ _).trans (ite_outs ((modTrig_outs _ _).trans (raise_outs _ _ _ _ t)) rfl)

theorem judgeNotice_outs (k : SessId) (n : Notice) (s : State) : (judgeNotice k n s).outs = s.outs := by
  unfold judgeNotice
  dsimp only
  split <;> rfl

theorem queueFrame_outs (l : List PortId) (b : Bool) (f : TxFrame) (s : State) : (queueFrame l b f s).outs = s.outs :=
  (forList_outs (fun _ _ => modPort_outs _ _) l _).trans (ite_outs (modNet_outs _) rfl)

@[simp] theorem pairSend_outs (y : Nat) (r : RegionId) (n : Word32) (l : List Byte) (s : State) : (pairSend y r n l s).outs = s.outs :=
  ite_outs rfl ((forAll_outs (fun _ _ => modPort_outs _ _) _).trans (modNet_outs _))

@[simp] theorem sendCheckpoint_outs (r : RegionId) (s : State) : (sendCheckpoint r s).outs = s.outs := by
  unfold sendCheckpoint
  extract_lets e owner n l blob head chunk t u
  have ht : t.outs = s.outs := forList_outs (fun c t => by simp [chunk]) l _
  simp [u, ht]

@[simp] theorem noteStore_outs (mj : Nat) (s : State) : (noteStore mj s).outs = s.outs := rfl

theorem inputBack_outs (mv : Nat) (s : State) : (inputBack mv s).outs = s.outs := ite_outs (raise_outs _ _ _ _ _) rfl

end Sys2Proof.Machine
end

section
-- One proof after another, as above: elaborated side by side they wait for the same lemmas, each with a thread and its stack.
set_option Elab.async false

/-!
SUPPORT. Every step keeps the outputs of a P-die in reset safe: a row that changes anything more than `State.outs` leaves alone ends by settling
the change, and what it settles is safe (R34, R35).
-/
namespace Sys2Proof.Machine

open Sys2Proof

variable {s t : State}

/-- Where an outcome is a next state, the outputs are safe in it while the P-die is in reset. -/
def NextDown (o : Host.Outcome State Fault Refusal) : Prop := ∀ t, o = .next t → DownSafe t

theorem DownSafe.next (h : DownSafe t) : NextDown (.next t) := by
  rintro _ ⟨⟩
  exact h

theorem NextDown.ite {c : Prop} [Decidable c] {a b : Host.Outcome State Fault Refusal} (ha : NextDown a) (hb : NextDown b) :
    NextDown (if c then a else b) := by
  split <;> assumption

/-! ## The forms of a row -/

theorem DownSafe.settled {s0 : State} : NextDown (.next (Machine.settle s0 t)) := (DownSafe.settle s0 t).next

theorem DownSafe.settledIf {c : Prop} [Decidable c] {s0 : State} (h : DownSafe s) : NextDown (.next (if c then Machine.settle s0 t else s)) :=
  (DownSafe.ite (.settle s0 t) h).next

theorem DownSafe.settledUnless {c : Prop} [Decidable c] {s0 : State} (h : DownSafe s) :
    NextDown (.next (if c then s else Machine.settle s0 t)) :=
  (DownSafe.ite h (.settle s0 t)).next

theorem DownSafe.keptIf {c : Prop} [Decidable c] (h : DownSafe s) (ht : t.outs = s.outs) : NextDown (.next (if c then t else s)) :=
  (DownSafe.ite (h.of_outs ht) h).next

section
variable (h : DownSafe s)
include h

theorem immediate_downSafe {k : Slot} {opcode : Nat} {f : State → State} : NextDown (immediate k opcode f s) := h.settledIf

theorem ctxRow_downSafe {k : Slot} {opcode : Nat} {f : State → State} : NextDown (ctxRow k opcode f s) := by
  unfold ctxRow
  exact .ite (immediate_downSafe h) h.next

theorem pairRow_downSafe {y : Nat} {f : RegionId → Word32 → List Byte → State → State} : NextDown (pairRow y f s) := by
  refine DownSafe.next ?_
  split
  · exact h
  · exact .ite (.settle _ _) h

theorem afterRun_downSafe {c : CtxId} {y : Nat} {may : Word32 → Bool} {f : Word32 → State → State} : NextDown (afterRun c y may f s) := by
  refine DownSafe.next ?_
  split
  · exact h
  · exact .ite (.settle _ _) h

theorem hostAccess_downSafe {d : Die} {off : Nat} {v : Word32} {b : Bool} {op : State → State} (hop : DownSafe (op s)) :
    DownSafe (hostAccess d off v b op s) :=
  .ite h (.ite (.ite (h.of_outs (readAs_outs _ s)) h) (.ite hop (h.of_outs (modHost_outs _))))

theorem hostRead_downSafe {d : Die} {off : Nat} {v : Word32} {b : Bool} {op : State → State} (hop : (op s).outs = s.outs) :
    NextDown (.next (hostAccess d off v b op s)) :=
  (hostAccess_downSafe h (h.of_outs hop)).next

theorem hostWord_downSafe {d : Die} {off : Nat} {v : Word32} {op : State → State} : DownSafe (hostWord d off v op s) :=
  hostAccess_downSafe h (.settle _ _)

theorem hostWord_nextDown {d : Die} {off : Nat} {v : Word32} {op : State → State} : NextDown (.next (hostWord d off v op s)) :=
  (hostWord_downSafe h).next

theorem writeReg_downSafe {off : Nat} {v : Word32} : DownSafe (writeReg off v s) :=
  .ite (.ite (h.of_outs (writeMsix_outs _ _ s)) h) (hostWord_downSafe h)

theorem hostStore_downSafe {off : Nat} {v : Word64} {n : Nat} : DownSafe (hostStore off v n s) :=
  .ite (writeReg_downSafe (writeReg_downSafe h)) (.ite (writeReg_downSafe h) h)

/-! ## The rows that look further before they settle -/

theorem execCtxWrite_downSafe {k : Slot} : NextDown (execCtxWrite k s) := by
  unfold execCtxWrite
  exact .ite (h.of_outs (applyOrphan_outs k s)).next (ctxRow_downSafe h)

theorem execCtxRead_downSafe {k : Slot} : NextDown (execCtxRead k s) := by
  unfold execCtxRead
  exact .ite (ctxRow_downSafe h) h.next

theorem execCaptureCopy_downSafe {k : Slot} : NextDown (execCaptureCopy k s) := by
  unfold execCaptureCopy
  exact .ite (immediate_downSafe h) h.next

theorem execArbCommitApply_downSafe : NextDown (execArbCommitApply s) :=
  (DownSafe.ite h (.ite (h.of_outs (modArb_outs _)) (.settle _ _))).next

theorem execInjectionApply_downSafe : NextDown (execInjectionApply s) := by
  refine DownSafe.next (.ite h ?_)
  split
  · exact h.of_outs ((modMr_outs _ _).trans (injected_outs s))
  · exact h

theorem execDebugAccessDone_downSafe : NextDown (execDebugAccessDone s) := by
  refine DownSafe.next ?_
  split
  · exact h
  · exact .ite h (.settle _ _)

theorem execPDieAccessTimeout_downSafe : NextDown (execPDieAccessTimeout s) := by
  refine DownSafe.next ?_
  split
  · exact h
  · exact .ite (.ite (h.of_outs rfl) (h.of_outs rfl)) h

theorem execDoorbellPoll_downSafe : NextDown (execDoorbellPoll s) := by
  refine h.keptIf ?_
  refine (forAll_outs (fun m t => ite_outs (hostRead_outs _ _ t) rfl) _).trans ?_
  exact (forAll_outs (fun q t => ite_outs (hostRead_outs _ _ t) rfl) _).trans (modRings_outs _)

theorem execDescriptorAccept_downSafe {q : SqId} : NextDown (execDescriptorAccept q s) := by
  refine DownSafe.next ?_
  split
  · exact h
  · refine .ite h (.ite (.ite h (.settle _ _)) (.ite h ?_))
    split
    · exact .settle _ _
    · exact h

theorem execJournalAcknowledge_downSafe {k : Slot} : NextDown (execJournalAcknowledge k s) := by
  refine DownSafe.next ?_
  split
  · exact .ite (h.of_outs (ackOne_outs _ s)) h
  · exact h

theorem execTimedActionDue_downSafe {k : Slot} : NextDown (execTimedActionDue k s) := by
  refine DownSafe.next ?_
  split
  · exact h
  · exact .ite (h.of_outs (fetchData_outs _ _ s)) (.ite (.settle _ _) h)

theorem execCompletionPost_downSafe {k : Slot} : NextDown (execCompletionPost k s) := by
  refine DownSafe.next (.ite ?_ h)
  split
  · exact h.of_outs (postEntry_outs _ s)
  · exact h

theorem execMsixSignal_downSafe {m : CqId} : NextDown (execMsixSignal m s) :=
  h.keptIf ((signalVector_outs _ _).trans (modCq_outs m _))

theorem execHostDmaReadComplete_downSafe {n : Nat} {st : BitVec 3} {l : List Byte} : NextDown (execHostDmaReadComplete n st l s) := by
  refine DownSafe.next ?_
  split
  · exact h
  · exact .settle _ _

theorem execHostDmaError_downSafe {n : Nat} : NextDown (execHostDmaError n s) := by
  refine DownSafe.next ?_
  split
  · exact h
  · exact .ite h (.settle _ _)

theorem execPatrolScrub_downSafe {b : Bool} {n : Nat} : NextDown (execPatrolScrub b n s) := by
  refine DownSafe.next (.ite ?_ (.ite ?_ h))
  all_goals
    split
    · exact .settle _ _
    · exact h

theorem execRegionBoundary_downSafe {r : RegionId} : NextDown (execRegionBoundary r s) := by
  refine DownSafe.next ?_
  split
  · exact .ite (.settle _ _) h
  · exact h

theorem execRegionTrigger_downSafe {r : RegionId} : NextDown (execRegionTrigger r s) := by
  refine DownSafe.next ?_
  split
  · exact h
  · exact .ite (.settle _ _) h

theorem execIslandWrap_downSafe {i : IslandId} : NextDown (execIslandWrap i s) := by
  refine DownSafe.next ?_
  split
  · exact h
  · split
    · exact h
    · exact .ite (.settle _ _) h

theorem execUnitEdge_downSafe {u : UnitId} : NextDown (execUnitEdge u s) := by
  refine DownSafe.next ?_
  split
  · exact h
  · exact .ite (.settle _ _) h

theorem execDutyFrameReceive_downSafe {r : RegionId} : NextDown (execDutyFrameReceive r s) := by
  refine DownSafe.next ?_
  split
  · exact h
  · exact .ite (.settle _ _) h

theorem execHoldTimeEnd_downSafe {r : RegionId} : NextDown (execHoldTimeEnd r s) := by
  refine DownSafe.next ?_
  split
  · exact h
  · exact .ite h (.ite (h.of_outs (modRegion_outs r _)) (.ite (.settle _ _) (.settle _ _)))

theorem execContextRelease_downSafe {r : RegionId} : NextDown (execContextRelease r s) := by
  refine DownSafe.next (.ite h (.ite (h.of_outs (modLoop_outs _)) ?_))
  split
  · exact .settle _ _
  · exact .ite (.settle _ _) h

theorem execDutyFrameSend_downSafe {r : RegionId} : NextDown (execDutyFrameSend r s) := by
  refine DownSafe.next ?_
  split
  · exact h
  · exact .ite (h.of_outs ((modLoop_outs _).trans (mrSend_outs _ _ _ s))) h

theorem execRampComplete_downSafe {c : CtxId} : NextDown (execRampComplete c s) := by
  unfold execRampComplete
  split
  · exact h.next
  · exact afterRun_downSafe h

theorem execDesaturationArmed_downSafe {u : UnitId} : NextDown (execDesaturationArmed u s) := by
  refine DownSafe.next ?_
  split
  · exact h
  · exact .ite (h.of_outs (modUnit_outs fun _ => rfl)) h

theorem execSoftTurnOffEnd_downSafe {u : UnitId} : NextDown (execSoftTurnOffEnd u s) := by
  refine DownSafe.next ?_
  split
  · exact h
  · exact .ite h (.settle _ _)

theorem execComparatorTestDone_downSafe {i : IslandId} {b : Bool} : NextDown (execComparatorTestDone i b s) := by
  refine DownSafe.next ?_
  split
  · exact h
  · exact .ite h (.settle _ _)

theorem execIslandStartFailed_downSafe {i : IslandId} {n : Option (Fin 4)} : NextDown (execIslandStartFailed i n s) := by
  refine DownSafe.next ?_
  split
  · exact h
  · exact .ite (.settle _ _) h

theorem execIslandBiasRestore_downSafe {i : IslandId} : NextDown (execIslandBiasRestore i s) := by
  refine DownSafe.next ?_
  split
  · exact h
  · exact .ite h (.settle _ _)

theorem execInjectedTrigger_downSafe {b : BankId} : NextDown (execInjectedTrigger b s) := by
  refine DownSafe.next ?_
  split
  · exact h
  · exact .ite (h.of_outs (modBank_outs b _)) (.ite (.settle _ _) (h.of_outs ((modBank_outs b _).trans (modBank_outs b _))))

theorem execInjectedConversionComplete_downSafe {b : BankId} : NextDown (execInjectedConversionComplete b s) := by
  refine DownSafe.next ?_
  split
  · exact h
  · exact .ite (.settle _ _) h

theorem execCalibrationMeasurementEnd_downSafe {b : BankId} {c : Bool} {w : Word32} : NextDown (execCalibrationMeasurementEnd b c w s) :=
  (DownSafe.ite (.ite (.settle _ _) (.ite (h.of_outs (modBank_outs b _)) (h.of_outs (modBank_outs b _)))) h).next

theorem execCaptureTrigger_downSafe {k : SessId} : NextDown (execCaptureTrigger k s) := by
  refine DownSafe.next ?_
  split
  · exact .ite (h.of_outs (judgeNotice_outs k _ s)) h
  · exact h

theorem execCaptureDone_downSafe {k : SessId} : NextDown (execCaptureDone k s) :=
  (DownSafe.ite h (.ite (.settle _ _) (.ite (.settle _ _) h))).next

theorem execArbiterGrant_downSafe {k : Fin 16} {b : Bool} {q : BitVec 5} : NextDown (execArbiterGrant k b q s) :=
  (DownSafe.ite h (h.of_outs (modArb_outs _))).next

theorem execArbiterWatchdog_downSafe : NextDown (execArbiterWatchdog s) := by
  refine DownSafe.next ?_
  split
  · exact h
  · exact .ite h (.settle _ _)

theorem execWeirAcquireTimedOut_downSafe {k : Slot} : NextDown (execWeirAcquireTimedOut k s) := by
  refine DownSafe.next ?_
  split
  · exact h
  · exact .ite h (.settle _ _)

theorem execTxTimestamp_downSafe {p : PortId} : NextDown (execTxTimestamp p s) := by
  refine DownSafe.next ?_
  split
  · exact .ite h (.settle _ _)
  · exact h

theorem execSampleFrameReceive_downSafe : NextDown (execSampleFrameReceive s) := by
  refine DownSafe.next ?_
  split
  · exact h
  · refine .ite h ?_
    split
    · exact h.of_outs rfl
    · exact .ite h (.ite (h.of_outs rfl) (.settle _ _))

theorem execResynchronisationStart_downSafe {r : RegionId} : NextDown (execResynchronisationStart r s) := by
  refine DownSafe.next (.ite h (.ite (h.of_outs rfl) (.ite (.ite ?_ ?_) h)))
  all_goals exact h.of_outs ((modPairRegion_outs r _).trans (sendCheckpoint_outs r s))

theorem execResynchronisationFailed_downSafe {r : RegionId} : NextDown (execResynchronisationFailed r s) := by
  refine DownSafe.next ?_
  split
  · exact h
  · exact .ite h (.settle _ _)

theorem execEventCollect_downSafe : NextDown (execEventCollect s) := by
  have ht : DownSafe (if s.power.pRun then trgWaiting s else s) := .ite (h.of_outs (trgWaiting_outs s)) h
  refine DownSafe.next ?_
  split
  · exact ht
  · exact .ite (.settle _ _) ht

theorem execContactorFeedbackFault_downSafe {c : SafCh} {o : SoId} : NextDown (execContactorFeedbackFault c o s) :=
  (DownSafe.ite (.ite (.settle _ _) (.ite (.settle _ _) h)) h).next

theorem execChannel2Rejoined_downSafe : NextDown (execChannel2Rejoined s) := by
  refine DownSafe.next ?_
  split
  · exact h
  · exact .ite (.settle _ _) h

theorem execDchRetry_downSafe {b : Bool} : NextDown (execDchRetry b s) := by
  refine DownSafe.next ?_
  split
  · exact h
  · exact .ite (.settle _ _) h

theorem execInputReturn_downSafe {mv mj : Nat} : NextDown (execInputReturn mv mj s) :=
  (DownSafe.ite h (.ite (.settle _ _) (.ite (.settle _ _) (h.of_outs ((inputBack_outs mv _).trans (noteStore_outs mj s)))))).next

theorem execPdIsoRestart_downSafe : NextDown (execPdIsoRestart s) := by
  refine DownSafe.next ?_
  split
  · exact h
  · exact .ite h (.settle _ _)

theorem execPllLockLost_downSafe {y : Pll} : NextDown (execPllLockLost y s) := by
  refine DownSafe.next ?_
  split
  all_goals exact .ite (.settle _ _) h

theorem execAutoCDieReset_downSafe : NextDown (execAutoCDieReset s) := by
  refine DownSafe.next ?_
  split
  · exact h
  · exact .ite (.settle _ _) h

theorem execEnvExitElapsed_downSafe {c : CtxId} : NextDown (execEnvExitElapsed c s) := by
  unfold execEnvExitElapsed
  exact afterRun_downSafe h

theorem execGapResumeElapsed_downSafe {c : CtxId} : NextDown (execGapResumeElapsed c s) := by
  unfold execGapResumeElapsed
  exact afterRun_downSafe h

theorem execAnchorFreezeEnd_downSafe {c : CtxId} : NextDown (execAnchorFreezeEnd c s) := by
  unfold execAnchorFreezeEnd
  exact afterRun_downSafe h

theorem execFoldBackStart_downSafe {c : CtxId} : NextDown (execFoldBackStart c s) := by
  unfold execFoldBackStart
  exact afterRun_downSafe h

theorem execSweepStart_downSafe {c : CtxId} : NextDown (execSweepStart c s) := by
  unfold execSweepStart
  exact afterRun_downSafe h

theorem execSweepPointEnd_downSafe {c : CtxId} : NextDown (execSweepPointEnd c s) := by
  unfold execSweepPointEnd
  exact afterRun_downSafe h

theorem execHelloReceive_downSafe : NextDown (execHelloReceive s) := by
  unfold execHelloReceive
  exact pairRow_downSafe h

theorem execFaultDeclarationReceive_downSafe : NextDown (execFaultDeclarationReceive s) := by
  unfold execFaultDeclarationReceive
  exact pairRow_downSafe h

theorem execParameterFrameReceive_downSafe : NextDown (execParameterFrameReceive s) := by
  unfold execParameterFrameReceive
  exact pairRow_downSafe h

theorem execCheckpointChunkReceive_downSafe : NextDown (execCheckpointChunkReceive s) := by
  unfold execCheckpointChunkReceive
  exact pairRow_downSafe h

theorem execCheckpointCommitReceive_downSafe : NextDown (execCheckpointCommitReceive s) := by
  unfold execCheckpointCommitReceive
  exact pairRow_downSafe h

theorem execInputLoss_downSafe {mv mj : Nat} : NextDown (execInputLoss mv mj s) := by
  refine DownSafe.next (.ite h ?_)
  exact h.of_outs ((noteStore_outs mj _).trans rfl)

theorem execAoClockMeasure_downSafe {e : BitVec 16} : NextDown (execAoClockMeasure e s) := by
  refine DownSafe.next (.ite h (.ite (.settle _ _) ?_))
  exact h.of_outs rfl

end

/-- Every row keeps what is safe while the P-die is in reset. -/
theorem exec_downSafe (h : DownSafe s) : ∀ c : Instr, NextDown (exec c s)
  | .nop _ => immediate_downSafe h
  | .ctxWrite _ => execCtxWrite_downSafe h
  | .ctxRead _ => execCtxRead_downSafe h
  | .ctxEnable _ => ctxRow_downSafe h
  | .ctxDisable _ => ctxRow_downSafe h
  | .regionMode _ => h.settledIf
  | .regionCommit _ => h.settledIf
  | .captureArm _ => immediate_downSafe h
  | .captureCopy _ => execCaptureCopy_downSafe h
  | .captureStop _ => immediate_downSafe h
  | .probeStart _ => ctxRow_downSafe h
  | .probeStop _ => ctxRow_downSafe h
  | .netTx _ => immediate_downSafe h
  | .netRxPost _ => immediate_downSafe h
  | .timeAdjust _ => immediate_downSafe h
  | .weirAcquire _ => immediate_downSafe h
  | .weirRelease _ => immediate_downSafe h
  | .pairSwap _ => immediate_downSafe h
  | .pairResync _ => immediate_downSafe h
  | .faultClear _ => immediate_downSafe h
  | .eventForce _ => immediate_downSafe h
  | .barrier _ => immediate_downSafe h
  | .setupSeal _ => hostWord_nextDown h
  | .enterService _ => hostWord_nextDown h
  | .leaveService _ => hostWord_nextDown h
  | .enterStabled _ => hostWord_nextDown h
  | .pwrCmdCDieWarmReset _ => hostWord_nextDown h
  | .pwrCmdPackageWarmReset _ => hostWord_nextDown h
  | .pwrCmdPDieWarmReset _ => hostWord_nextDown h
  | .restart _ => hostWord_nextDown h
  | .leUcodeDataWrite _ => hostWord_nextDown h
  | .verify _ => hostWord_nextDown h
  | .verifyDone => h.settledIf
  | .load _ => hostWord_nextDown h
  | .imageLoadDone _ => h.settledIf
  | .adcQdataRead b => hostRead_downSafe h (readQdata_outs b s)
  | .go _ _ => hostWord_nextDown h
  | .timeTxqE0Read => hostRead_downSafe h (readTxq_outs s)
  | .timeNowRead => hostRead_downSafe h rfl
  | .aoTimeRead => hostRead_downSafe h rfl
  | .timeLockCfgWrite _ => hostWord_nextDown h
  | .channelSwitch _ _ => hostWord_nextDown h
  | .freeze _ _ => hostWord_nextDown h
  | .unfreeze _ _ => hostWord_nextDown h
  | .triggerConfigWrite _ _ _ => hostWord_nextDown h
  | .rearm _ _ => hostWord_nextDown h
  | .comparatorSelfTest _ _ => hostWord_nextDown h
  | .rebias _ _ => hostWord_nextDown h
  | .arbCommit _ => hostWord_nextDown h
  | .arbCommitApply => execArbCommitApply_downSafe h
  | .arm _ => hostWord_nextDown h
  | .injectionApply => execInjectionApply_downSafe h
  | .evtForceWrite _ _ => hostWord_nextDown h
  | .soOnRequest _ => hostWord_nextDown h
  | .debugOpen _ => hostWord_nextDown h
  | .dbgRead _ => hostWord_nextDown h
  | .dbgWrite _ => hostWord_nextDown h
  | .debugAccessDone => execDebugAccessDone_downSafe h
  | .registerWrite _ _ _ => (hostStore_downSafe h).next
  | .pDieAccessTimeout => execPDieAccessTimeout_downSafe h
  | .doorbellPoll => execDoorbellPoll_downSafe h
  | .descriptorAccept _ => execDescriptorAccept_downSafe h
  | .journalAcknowledge _ => execJournalAcknowledge_downSafe h
  | .timedActionDue _ => execTimedActionDue_downSafe h
  | .completionPost _ => execCompletionPost_downSafe h
  | .msixSignal _ => execMsixSignal_downSafe h
  | .hostDmaReadComplete _ _ _ => execHostDmaReadComplete_downSafe h
  | .hostDmaError _ => execHostDmaError_downSafe h
  | .hostSilent => h.settledIf
  | .pcieEndpointReset => h.settledUnless
  | .pcieLinkDown => h.settledIf
  | .pcieLinkReturn => h.settledUnless
  | .journalReplay _ => h.settledUnless
  | .patrolScrub _ _ => execPatrolScrub_downSafe h
  | .millraceFrameReceive _ _ _ => h.settledIf
  | .millraceLinkFailure _ _ => h.settledIf
  | .millraceLinkUp => h.settledIf
  | .regionBoundary _ => execRegionBoundary_downSafe h
  | .regionTrigger _ => execRegionTrigger_downSafe h
  | .islandWrap _ => execIslandWrap_downSafe h
  | .unitEdge _ => execUnitEdge_downSafe h
  | .tripAssert _ => h.settledIf
  | .recoveryEnd _ => h.settledIf
  | .dutyFrameReceive _ => execDutyFrameReceive_downSafe h
  | .cDieLossDetect _ => h.keptIf (modRegion_outs _ _)
  | .holdTimeEnd _ => execHoldTimeEnd_downSafe h
  | .contextRelease _ => execContextRelease_downSafe h
  | .timebaseSlot => h.settledIf
  | .contextRunComplete _ => h.settledIf
  | .dutyFrameSend _ => execDutyFrameSend_downSafe h
  | .prefetchIssue _ => h.settledIf
  | .prefetchLanded _ => h.settledIf
  | .writebackSweep => h.settledIf
  | .loopEngineHeartbeatLost => h.settledIf
  | .busDeclaredDead _ => afterRun_downSafe h
  | .startDelayExpire _ => afterRun_downSafe h
  | .contactorFailedToClose _ => afterRun_downSafe h
  | .contactorOpenedWithoutCommand _ => afterRun_downSafe h
  | .bsHoldElapsed _ => afterRun_downSafe h
  | .syncWindowsHeld _ => afterRun_downSafe h
  | .syncWindowsNotMet _ => afterRun_downSafe h
  | .envExitElapsed _ => execEnvExitElapsed_downSafe h
  | .gapResumeElapsed _ => execGapResumeElapsed_downSafe h
  | .anchorFreezeEnd _ => execAnchorFreezeEnd_downSafe h
  | .foldBackStart _ => execFoldBackStart_downSafe h
  | .stopFactorZero _ => afterRun_downSafe h
  | .rampComplete _ => execRampComplete_downSafe h
  | .blendEnd _ => afterRun_downSafe h
  | .sweepStart _ => execSweepStart_downSafe h
  | .sweepPointEnd _ => execSweepPointEnd_downSafe h
  | .islandLinkLost _ _ => h.settledIf
  | .islandLinkRelock _ => h.settledIf
  | .islandInterlock _ => h.settledIf
  | .switchingTimeMeasured _ _ _ _ _ => h.settledUnless
  | .uvlo _ _ => h.settledUnless
  | .uvloRelease _ _ => h.settledIf
  | .desaturationArmed _ => execDesaturationArmed_downSafe h
  | .desaturation _ _ => h.settledIf
  | .softTurnOffEnd _ => execSoftTurnOffEnd_downSafe h
  | .comparatorTestDone _ _ => execComparatorTestDone_downSafe h
  | .islandOverTemperature _ _ => h.settledUnless
  | .islandStart _ => h.settledIf
  | .islandReady _ => h.settledIf
  | .islandStartFailed _ _ => execIslandStartFailed_downSafe h
  | .islandBlockReset _ => h.settledIf
  | .islandBiasRestore _ => execIslandBiasRestore_downSafe h
  | .bankTimer _ => h.settledUnless
  | .samplingInstant _ _ => h.settledIf
  | .setComplete _ => h.settledIf
  | .injectedTrigger _ => execInjectedTrigger_downSafe h
  | .injectedSamplingInstant _ _ => h.settledIf
  | .injectedConversionComplete _ => execInjectedConversionComplete_downSafe h
  | .calibrationStepStart _ => h.keptIf (modBank_outs _ _)
  | .calibrationHandOver _ => h.keptIf (modBank_outs _ _)
  | .calibrationMeasurementEnd _ _ _ => execCalibrationMeasurementEnd_downSafe h
  | .calibrationHandBack _ => h.keptIf (modBank_outs _ _)
  | .packedFrameFlush _ => h.keptIf (flushPacked_outs _ s)
  | .windowComparatorAsserted _ _ => h.settledIf
  | .windowComparatorRelease _ _ => h.settledIf
  | .chainFrameFlush _ => h.keptIf (chainFlush_outs _ s)
  | .triggerHoldOffEnd _ => h.keptIf (modTrig_outs _ _)
  | .captureTrigger _ => execCaptureTrigger_downSafe h
  | .captureDone _ => execCaptureDone_downSafe h
  | .captureProgressWrite _ => h.settledIf
  | .arbiterGrant _ _ _ => execArbiterGrant_downSafe h
  | .refresh => h.keptIf (modArb_outs _)
  | .arbiterWatchdog => execArbiterWatchdog_downSafe h
  | .weirAcquireTimedOut _ => execWeirAcquireTimedOut_downSafe h
  | .weirsReleased _ => h.settledIf
  | .safetySetUpdate => h.settledIf
  | .networkCounterUpdate => h.settledIf
  | .frameReceive _ _ _ => h.settledIf
  | .txTimestamp _ => execTxTimestamp_downSafe h
  | .supervisionFrameSend => h.keptIf ((queueFrame_outs _ _ _ _).trans (modNet_outs _))
  | .lanSilent _ => h.settledIf
  | .prpNodeExpire _ => h.keptIf (modNet_outs _)
  | .linkUp _ => h.settledIf
  | .linkDown _ => h.settledIf
  | .timeLockLost => h.settledIf
  | .sampleFrameReceive => execSampleFrameReceive_downSafe h
  | .dutyCopyReceive => pairRow_downSafe h
  | .helloSend => h.keptIf ((modPair_outs _).trans (pairSend_outs _ _ _ _ s))
  | .helloReceive => execHelloReceive_downSafe h
  | .partnerDown => h.settledIf
  | .faultDeclarationReceive => execFaultDeclarationReceive_downSafe h
  | .controlDieFailed _ _ => h.settledIf
  | .parameterFrameReceive => execParameterFrameReceive_downSafe h
  | .resynchronisationStart _ => execResynchronisationStart_downSafe h
  | .checkpointChunkReceive => execCheckpointChunkReceive_downSafe h
  | .checkpointCommitReceive => execCheckpointCommitReceive_downSafe h
  | .resynchronisationFailed _ => execResynchronisationFailed_downSafe h
  | .eventCollect => execEventCollect_downSafe h
  | .faultRecovered _ => h.settledIf
  | .shadowWindowEnd _ => (h.of_outs (modEvents_outs _)).next
  | .safetyInputChange _ _ _ _ => h.settledIf
  | .discrepancyFault _ _ => h.settledIf
  | .startUpTestPassed _ => h.settledIf
  | .secondPathDecode _ _ => h.settledIf
  | .gateEnable => h.settledIf
  | .soTestPulse _ => h.settledIf
  | .soTestPulseEnd _ _ _ => h.settledIf
  | .safeOutputOverload _ _ _ => h.settledIf
  | .contactorFeedbackFault _ _ => execContactorFeedbackFault_downSafe h
  | .channel2Rejoined => execChannel2Rejoined_downSafe h
  | .channel2AbsentTooLong => h.settledIf
  | .channel2DidNotFollowDemand => h.settledIf
  | .path1ReadbackPulse _ _ => h.settledIf
  | .channel1SelfTest _ => (DownSafe.ite h (.ite (.settle _ _) (.settle _ _))).next
  | .channel2SelfCheck _ => (DownSafe.ite h (.ite (.settle _ _) (.settle _ _))).next
  | .supplyPulseTest _ _ _ => h.settledIf
  | .dchOverload _ _ _ => h.settledIf
  | .dchRetry _ => execDchRetry_downSafe h
  | .cdrvOverload _ _ => h.settledIf
  | .inputLow _ => h.settledUnless
  | .inputLoss _ _ => execInputLoss_downSafe h
  | .inputReturn _ _ => execInputReturn_downSafe h
  | .powerFail _ => h.settledIf
  | .storeAoReserve _ => h.settledIf
  | .powerOnReset => DownSafe.settled
  | .domainRegulationLoss _ => h.settledIf
  | .pdNetRestarted => h.settledUnless
  | .pdIsoRestart => execPdIsoRestart_downSafe h
  | .memsReferenceLost _ _ => h.settledUnless
  | .memsReferenceRecovered _ => h.settledIf
  | .pllLockLost _ => execPllLockLost_downSafe h
  | .aoClockMeasure _ => execAoClockMeasure_downSafe h
  | .cDieWarmReset => DownSafe.settled
  | .cDieResetEnd => h.settledUnless
  | .autoCDieReset => execAutoCDieReset_downSafe h
  | .pDieWarmReset => DownSafe.settled
  | .pDieResetEnd => h.settledUnless
  | .wake _ _ _ => h.settledIf
  | .memInitComplete => h.keptIf rfl
  | .moduleTemperature _ => h.settledUnless
  | .sf2FaultCleared _ => h.settledIf
  | .safeOutputReadbackFault _ _ => h.settledIf
  | .cdSafRestarted => h.settledUnless
  | .postedWriteErrorReported _ _ => DownSafe.settled
  | .portFrameBoundary _ => h.settledIf
  | .millraceFrameBoundary _ => h.keptIf (sendNext_outs _ s)
  | .inputLowCleared _ => h.keptIf rfl

theorem step_downSafe (h : DownSafe s) (ht : step s = .next t) : DownSafe t := by
  cases hp : s.pending with
  | nil =>
    rw [step_nil hp, idle_eq] at ht
    exact DownSafe.settled t ht
  | cons c rest =>
    have hs : DownSafe { s with pending := rest } := h.of_outs rfl
    exact exec_downSafe hs c t ((step_cons hp).symm.trans ht)

end Sys2Proof.Machine

namespace Sys2Proof

open Sys2Proof.Machine

/-- Settles O60: what settles a change leaves the outputs safe while the P-die is in reset, and each row settles what could turn one on. -/
theorem pDieDownIsPackageSafe : Obligations.PDieDownIsPackageSafe := by
  refine ⟨fun s t h ht => step_downSafe h ht, DownSafe.settle, fun s _ => ?_, fun s => ?_⟩
  · have hr : (settle s (pDieDown s)).power.pRun = false := (settle_run s _).trans (pDieDown_run s)
    exact ⟨_, rfl, hr, DownSafe.settle s _ hr⟩
  · exact ⟨_, rfl, DownSafe.settle s _ ((settle_run s _).trans rfl)⟩

end Sys2Proof
end

section
-- One proof after another, as above: elaborated side by side they wait for the same lemmas, each with a thread and its stack.
set_option Elab.async false

/-!
SUPPORT. The rows that follow a context's completed run, in the cases in which they act; here those of the grid-forming templates (R58, R60,
R64, R67, R68, R73, R101, R135, R575).
-/
namespace Sys2Proof.Machine

open Sys2Proof

/-- The run of release n of context c has completed, no other release of it waits, and the loop engine and the context run: what the happenings
that follow a run share (R575). -/
structure RunCompleted (c : CtxId) (n : Word32) (s : State) : Prop where
  last : (s.loop.rt[c]).lastRun = some n
  leRuns : s.leRuns = true
  ctxRuns : s.ctxRuns c = true
  unreleased : (s.loop.rt[c]).released = false

variable {s : State} {c : CtxId} {n : Word32}

/-- A happening after a completed run, of its template and under its own condition. -/
theorem afterRun_completed {t : Nat} {may : Word32 → Bool} {f : Word32 → State → State} (h : RunCompleted c n s) (ht : s.ctxTemplate c = t)
    (hm : may n = true) : afterRun c t may f s = .next (settle s (f n s)) := by
  obtain ⟨hl, he, hc, hr⟩ := h
  simp only [afterRun, hl, he, hc, hr, ht, hm, Bool.not_false, beq_self_eq_true, Bool.and_self, if_true]

/-- Only what f makes of the context's present run-time state counts. -/
theorem modRt_congr {f g : CtxRt → CtxRt} (h : f s.loop.rt[c] = g s.loop.rt[c]) : s.modRt c f = s.modRt c g := by
  have hu : upd s.loop.rt c f = upd s.loop.rt c g := congrArg (fun x => s.loop.rt.set c.val x c.isLt) h
  exact congrArg (fun rt => { s with loop := { s.loop with rt := rt } }) hu

section Rows

variable (h : RunCompleted c n s)
include h

/-! ## The virtual machine -/

theorem execEnvExitElapsed_due (ht : s.ctxTemplate c = 0x01) (hm : (s.vsm c).mode = 4) (hd : s.timerDue c 28 (s.pq c 35) = true) :
    execEnvExitElapsed c s = .next (settle s (transition c (s.vsm c).ret (s.lastIns c) s)) :=
  afterRun_completed h ht (by simp [hm, hd])

theorem execGapResumeElapsed_due (ht : s.ctxTemplate c = 0x01) (hm : (s.vsm c).mode = 5) (hd : s.timerDue c 29 (s.pq c 17) = true) :
    execGapResumeElapsed c s = .next (settle s (transition c 3 (s.lastIns c) s)) :=
  afterRun_completed h ht (by simp [hm, hd])

theorem execAnchorFreezeEnd_due {a : Word32} (ht : s.ctxTemplate c = 0x01) (hu : (s.vsm c).h.unlocked = some a)
    (hl : s.time.locked = false) (hy : (s.vsm c).h.decaying = false) (hd : s.pq c 12 ≤ s.span c a n) :
    execAnchorFreezeEnd c s = .next (settle s (s.modRt c fun x => { x with vsm := { x.vsm with decaying := true } })) :=
  afterRun_completed h ht (by simp [hl, hy, hu, hd])

theorem execBlendEnd_due (ht : s.ctxTemplate c = 0x01) (hb : (s.vsm c).blend = true) (hd : s.paramInt c 31 ≤ (s.vsm c).n) :
    execBlendEnd c s = .next (settle s (endBlend c s)) :=
  afterRun_completed h ht (by simp [hb, hd])

/-! ## Fold-back -/

theorem execFoldBackStart_due (ht : s.ctxTemplate c = 0x06) (hd : s.foldDue c = true) : execFoldBackStart c s =
    .next (settle s (raiseFull (s.srcOf c) evCtxFoldBack 0 0 ((s.ctxRegion c).map ShadowObj.region) false
      (setSw c 3 0 (s.modRt c fun x => { x with folding := true })))) :=
  afterRun_completed h ht hd

/-! ## Ramps -/

/-- A ramp that has made its last run is reported once; the E ramp of black-start RAMP takes the virtual machine to HOLD. -/
theorem execRampComplete_reports {w : Nat} {l : List Nat} (hd : (s.loop.rt[c]).rampDone = w :: l) :
    execRampComplete c s = .next (settle s (s.modRt c fun x =>
      { x with
        rampDone := l
        vsm := if w = 14 ∧ s.ctxTemplate c = 0x01 ∧ (s.vsm c).mode = 1 ∧ x.vsm.phase = 4 then { x.vsm with phase := 5 } else x.vsm })) := by
  rw [execRampComplete, hd]
  exact afterRun_completed h rfl rfl

theorem execRampComplete_other {w : Nat} {l : List Nat} (hd : (s.loop.rt[c]).rampDone = w :: l)
    (ho : s.ctxTemplate c ≠ 0x01 ∨ w ≠ 14 ∨ (s.vsm c).mode ≠ 1 ∨ (s.loop.rt[c]).vsm.phase ≠ 4) :
    execRampComplete c s = .next (settle s (s.modRt c fun x => { x with rampDone := l })) := by
  have hn : ¬(w = 14 ∧ s.ctxTemplate c = 0x01 ∧ (s.vsm c).mode = 1 ∧ (s.loop.rt[c]).vsm.phase = 4) :=
    fun ⟨hw, ht, hm, hp⟩ => ho.elim (· ht) (·.elim (· hw) (·.elim (· hm) (· hp)))
  rw [execRampComplete_reports h hd, modRt_congr]
  simp only [if_neg hn]

theorem execRampComplete_hold {w : Nat} {l : List Nat} (hd : (s.loop.rt[c]).rampDone = w :: l) (ht : s.ctxTemplate c = 0x01) (hw : w = 14)
    (hm : (s.vsm c).mode = 1) (hp : (s.loop.rt[c]).vsm.phase = 4) :
    execRampComplete c s = .next (settle s (s.modRt c fun x => { x with rampDone := l, vsm := { x.vsm with phase := 5 } })) := by
  rw [execRampComplete_reports h hd, modRt_congr]
  simp only [hw, ht, hm, hp, and_self, if_true]

/-! ## Impedance Watch -/

theorem execSweepStart_due (ht : s.ctxTemplate c = 0x13) (hp : watchPaused (s.lastIns c) = false) (hs : (s.loop.rt[c]).sweeping = false)
    (hd : s.sweepDue c n = true) : execSweepStart c s =
    .next (settle s (beginPoint c 0 n (s.modRt c fun x => { x with sweeping := true, sweepAt := some n, points := [] }))) :=
  afterRun_completed h ht (by simp only [hs, hp, hd, Bool.not_false, Bool.and_self])

/-- A point's dwell is over: the point is kept, and the next one begins or the sweep ends. -/
theorem execSweepPointEnd_due (ht : s.ctxTemplate c = 0x13) (hp : watchPaused (s.lastIns c) = false) (hs : (s.loop.rt[c]).sweeping = true)
    (hd : s.dwell c ≤ s.span c (s.loop.rt[c]).pointAt n)
    (hw : s.swBits c 2 + 1 < s.paramInt c 3 ∨ s.onLane (s.adaptTarget c) = false) : execSweepPointEnd c s = .next (settle s (
      let t := s.modRt c fun x => { x with points := x.points ++ [((s.loop.rt[c]).pointF, s.pointGain c (s.loop.rt[c]).pointF)] }
      if t.paramInt c 3 ≤ s.swBits c 2 + 1 then endSweep c t else beginPoint c (s.swBits c 2 + 1) n t)) :=
  afterRun_completed h ht (by
    simpa only [hs, hp, hd, decide_true, Bool.not_false, Bool.and_self, Bool.true_and, Bool.or_eq_true, decide_eq_true_eq,
      Bool.not_eq_true'] using hw)

end Rows

end Sys2Proof.Machine

namespace Sys2Proof

open Sys2Proof.Machine

/-- Settles O26: each row in the case in which it acts; a ramp's end by its word and the machine's phase, a point's end by the points left. -/
theorem formingStepsComplete : Obligations.FormingStepsComplete := by
  intro c n s hn hl hc hr
  have h : RunCompleted c n s := ⟨hn, hl, hc, hr⟩
  refine ⟨fun ht => ⟨execEnvExitElapsed_due h ht, execGapResumeElapsed_due h ht, fun _ => execAnchorFreezeEnd_due h ht, execBlendEnd_due h ht⟩,
    execFoldBackStart_due h, fun w l hd => ⟨execRampComplete_other h hd, execRampComplete_hold h hd⟩,
    fun ht hp => ⟨execSweepStart_due h ht hp, fun i t hs hd hi hw ht' => ?_⟩⟩
  subst hi ht'
  have he := execSweepPointEnd_due h ht hp hs hd hw
  exact ⟨fun hlt => he.trans (by rw [if_neg (Nat.not_le.2 hlt)]), fun hle => he.trans (by rw [if_pos hle])⟩

end Sys2Proof
end

section
-- One proof after another, as above: elaborated side by side they wait for the same lemmas, each with a thread and its stack.
set_option Elab.async false

/-!
SUPPORT. The rows of the black-start sequence and of the synchroniser that follow a completed run, in the cases in which they act (R83, R87 to
R92, R96, R98, R104, R575).
-/
namespace Sys2Proof.Machine

open Sys2Proof

variable {s : State} {c : CtxId} {n : Word32}

section Rows

variable (h : RunCompleted c n s)
include h

/-! ## The dead bus and the start delay -/

theorem execBusDeclaredDead_due (ht : s.ctxTemplate c = 0x0D) (hd : s.busDead c = true) :
    execBusDeclaredDead c s = .next (settle s (declareDead c n s)) :=
  afterRun_completed h ht hd

theorem execStartDelayExpire_due (ht : s.ctxTemplate c = 0x0D) (hs : (s.seqr c).x.stage = .blackStart) (hp : (s.seqr c).phase = 2)
    (hl : (s.seqLast c).lost = false) (hd : s.timerDue c 3 (s.tStart c) = true) :
    execStartDelayExpire c s = .next (settle s (decideStart c n s)) :=
  afterRun_completed h ht (by simp [hs, hp, hl, hd])

/-! ## The contactor -/

theorem execContactorFailedToClose_due (ht : s.ctxTemplate c = 0x0D) (ho : (s.seqr c).x.drive = true) (hf : (s.seqLast c).fb = false)
    (hd : s.timerDue c 4 (s.pq c 7) = true) (hc : (s.seqr c).x.closed = false) : execContactorFailedToClose c s =
    .next (settle s (modSeqr c (fun q => ((q.driveOff n).stop).event evCtxFailedToClose 0 0) s)) :=
  afterRun_completed h ht (by simp [ho, hf, hd, hc])

theorem execContactorOpenedWithoutCommand_due (ht : s.ctxTemplate c = 0x0D) (ho : (s.seqr c).x.drive = true)
    (hf : (s.seqLast c).fb = false) (hd : s.timerDue c 4 (s.pq c 7) = true) (hc : (s.seqr c).x.closed = true) :
    execContactorOpenedWithoutCommand c s =
    .next (settle s (modSeqr c (fun q => ((q.driveOff n).stop).event evCtxOpenedWithoutCommand 0 0) s)) :=
  afterRun_completed h ht (by simp [ho, hf, hd, hc])

theorem execStopFactorZero_due (ht : s.ctxTemplate c = 0x0D) (hs : (s.seqr c).x.stage = .softStop) (ho : (s.seqr c).x.drive = true)
    (hz : (s.links c).factorZero = true) : execStopFactorZero c s = .next (settle s (modSeqr c (fun q => q.driveOff n) s)) :=
  afterRun_completed h ht (by simp [hs, ho, hz])

/-! ## The hand-over and the synchronisation -/

theorem execBsHoldElapsed_due (ht : s.ctxTemplate c = 0x0D) (hs : (s.seqr c).x.stage = .blackStart) (hp : (s.seqr c).phase = 5)
    (hd : s.timerDue c 5 (s.pq c 6) = true) : execBsHoldElapsed c s =
    .next (settle s (modSeqr c (fun q => { q with phase := 0, hold := 0, x := { q.x with stage := .running } }) s)) :=
  afterRun_completed h ht (by simp [hs, hp, hd])

theorem execSyncWindowsNotMet_due (ht : s.ctxTemplate c = 0x0D) (hs : (s.seqr c).x.stage = .synchronise)
    (ho : (s.seqr c).x.drive = false) (hd : s.timerDue c 6 10 = true) : execSyncWindowsNotMet c s =
    .next (settle s (modSeqr c (fun q => { q with win := (timerAt n).toNat }.event evCtxSyncNotMet 0 0) s)) :=
  afterRun_completed h ht (by simp [hs, ho, hd])

/-- The synchroniser sets its close request once the windows have held, and only while the request is not set. -/
theorem execSyncWindowsHeld_due (ht : s.ctxTemplate c = 0x0C) (hd : s.timerDue c 0 (s.pq c 4) = true) (hz : s.outVal c 0 = 0) :
    execSyncWindowsHeld c s = .next (settle s (setOutVal c 0 0x7FFF s)) :=
  afterRun_completed h ht (by simp [hd, hz])

end Rows

end Sys2Proof.Machine

namespace Sys2Proof

open Sys2Proof.Machine

/-- Settles O25: each row in the case in which it acts, by the sequence's stage and phase and the contactor's drive and feedback. -/
theorem sequencerStepsComplete : Obligations.SequencerStepsComplete := by
  intro c n s hn hl hc hr
  have h : RunCompleted c n s := ⟨hn, hl, hc, hr⟩
  refine ⟨fun ht => ⟨?dead, ?delay, ?contactor, ?hold, ?windows, ?factor⟩, execSyncWindowsHeld_due h⟩
  case dead => exact execBusDeclaredDead_due h ht
  case delay => exact execStartDelayExpire_due h ht
  case contactor =>
    exact fun ho hf hd => ⟨execContactorFailedToClose_due h ht ho hf hd, execContactorOpenedWithoutCommand_due h ht ho hf hd⟩
  case hold => exact execBsHoldElapsed_due h ht
  case windows => exact execSyncWindowsNotMet_due h ht
  case factor => exact execStopFactorZero_due h ht

end Sys2Proof
end

section
-- One proof after another, as above: elaborated side by side they wait for the same lemmas, each with a thread and its stack.
set_option Elab.async false

/-!
SUPPORT. What leaves package memory and the Loop Engine as they are: of what settles a change all that follows the device state; and of the Loop
Engine also events, the completion of a command and the stop of a region, so that only its counts of changes of unit state are left (R152).
-/
namespace Sys2Proof.Machine

open Sys2Proof

variable {s t : State}

theorem Alerts.loop (h : Alerts s t) : t.loop = s.loop := h.keeps State.loop

theorem ite_loop {c : Prop} [Decidable c] {a b : State} (ha : a.loop = s.loop) (hb : b.loop = s.loop) : (if c then a else b).loop = s.loop := by
  split <;> assumption

/-! ## Package memory and the journal -/

theorem readLine_loop (n : Nat) (e : SymErr) (r : BitVec 8) (y : BitVec 4) (s : State) : (readLine n e r y s).loop = s.loop :=
  ite_loop raise_alerts.loop raise_alerts.loop

theorem injectLine_loop (a n : Nat) (s : State) : (injectLine a n s).loop = s.loop := ite_loop rfl rfl

theorem write_loop (r : BitVec 8) (a : Nat) (l : List Byte) (s : State) : (s.write r a l).loop = s.loop :=
  (injectLine_loop _ _ _).trans (forList_keeps State.loop (fun _ _ => readLine_loop _ _ _ _ _) _ s)

theorem storeCtxWords_loop (c : Nat) (w : AsnWords) (s : State) : (storeCtxWords c w s).loop = s.loop :=
  (write_loop _ _ _ _).trans (write_loop _ _ _ s)

theorem recordTarget_loop (e : JEntry) (s : State) : (recordTarget e s).loop = s.loop := by
  unfold recordTarget
  dsimp only
  split
  · exact ite_loop (storeCtxWords_loop _ _ s) rfl
  · exact forList_keeps State.loop (by intros; rfl) _ s
  · split <;> rfl
  · split <;> rfl
  · split <;> rfl
  · rfl
  · exact forList_keeps State.loop (by intros; rfl) _ s
  · rfl
  · rfl

theorem modEntry_loop (k : Slot) (f : JEntry → JEntry) (s : State) : (modEntry k f s).loop = s.loop := ite_loop rfl rfl

theorem finish_loop (k : Slot) (st : Word16) (d : Word32) (r : Word64) (b : Bool) (s : State) : (finish k st d r b s).loop = s.loop := by
  unfold finish
  split
  · rfl
  · extract_lets e q re record u v
    have hrec (t : State) : (record t).loop = t.loop := ite_loop (write_loop _ _ _ t) rfl
    have hu : u.loop = s.loop := ite_loop ((recordTarget_loop _ _).trans (hrec _)) rfl
    have hv : v.loop = s.loop := (modEntry_loop k _ u).trans hu
    exact ite_loop hv hv

theorem finishFail_loop (k : Slot) (st : Word16) (d : Word32) (s : State) : (finishFail k st d s).loop = s.loop := finish_loop _ _ _ _ _ s

theorem finishHeld_loop (k : Slot) (st : Word16) (d : Word32) (r : Word64) (b : Bool) (s : State) : (finishHeld k st d r b s).loop = s.loop :=
  ite_loop (finish_loop _ _ _ _ _ s) (finish_loop _ _ _ _ _ s)

/-! ## Regions and the device state -/

theorem failSwap_loop (k : Slot) (s : State) : (failSwap k s).loop = s.loop :=
  (finish_loop _ _ _ _ _ _).trans (forAll_keeps State.loop (by intros; rfl) s)

theorem endSwap_loop (r : RegionId) (k : Slot) (s : State) : (endSwap r k s).loop = s.loop := ite_loop rfl (finish_loop _ _ _ _ _ _)

theorem stopSwap_loop (r : RegionId) (k : Slot) (s : State) : (stopSwap r k s).loop = s.loop := ite_loop (failSwap_loop k s) (endSwap_loop r k s)

theorem stopRegion_loop (r : RegionId) (s : State) : (stopRegion r s).loop = s.loop := by
  unfold stopRegion
  extract_lets t g a b c d e
  have ha : a.loop = s.loop := (forList_keeps State.loop (fun _ _ => finishHeld_loop _ _ _ _ _ _) _ t).trans leaveTest_alerts.loop
  have hb : b.loop = s.loop := (forList_keeps State.loop (fun _ _ => finish_loop _ _ _ _ _ _) _ a).trans ha
  have hc : c.loop = s.loop := (forList_keeps State.loop (stopSwap_loop r) _ b).trans hb
  have hd : d.loop = s.loop := (forList_keeps State.loop (fun _ _ => State.modIsland_loop _ _ _) _ c).trans hc
  exact (State.modRegion_loop _ _ _).trans ((State.modPairRegion_loop _ _ _).trans hd)

theorem enterDev_loop (d : DevState) (s : State) : (enterDev d s).loop = s.loop := by
  unfold enterDev
  extract_lets a b c
  have ha : a.loop = s.loop := ite_loop rfl rfl
  have hc : c.loop = s.loop := ite_loop (clearForces_alerts.loop.trans ha) ha
  exact ite_loop ((forAll_keeps State.loop (fun r t => ite_loop rfl (stopRegion_loop r t)) c).trans hc) hc

theorem settleDev_loop (s : State) : (settleDev s).loop = s.loop := by
  unfold settleDev
  split
  · exact ite_loop (enterDev_loop _ s) (ite_loop rfl (enterDev_loop _ s))
  · exact ite_loop (enterDev_loop _ s) (ite_loop (enterDev_loop _ s) rfl)
  · exact ite_loop rfl (enterDev_loop _ s)
  · rfl

/-! ## What follows the device state -/

/-- What is stored: package memory and the Loop Engine. -/
def State.stores (s : State) := (s.mem, s.loop)

theorem Alerts.stores (h : Alerts s t) : t.stores = s.stores := h.keeps State.stores

theorem modSaf_stores (f : Saf → Saf) (s : State) : (s.modSaf f).stores = s.stores := rfl
theorem modSo_stores (o : SoId) (f : SoFaults → SoFaults) (s : State) : (s.modSo o f).stores = s.stores := rfl
theorem modSafCh_stores (c : SafCh) (f : SafChannel → SafChannel) (s : State) : (s.modSafCh c f).stores = s.stores := rfl
theorem modSrc_stores (k : SourceId) (f : Source → Source) (s : State) : (s.modSrc k f).stores = s.stores := rfl
theorem modRegion_stores (r : RegionId) (f : Region → Region) (s : State) : (s.modRegion r f).stores = s.stores := rfl
theorem modIsland_stores (i : IslandId) (f : Island → Island) (s : State) : (s.modIsland i f).stores = s.stores := rfl
theorem modUnit_stores (u : UnitId) (f : GateUnit → GateUnit) (s : State) : (s.modUnit u f).stores = s.stores := rfl

theorem ite_stores {c : Prop} [Decidable c] {a b : State} (ha : a.stores = s.stores) (hb : b.stores = s.stores) :
    (if c then a else b).stores = s.stores := by
  split <;> assumption

/-- A change of another part made or not made, after what kept the stores, keeps them. -/
theorem stores_when {c : Prop} [Decidable c] {a b : State} (hb : b.stores = a.stores) (ha : a.stores = s.stores) :
    (if c then b else a).stores = s.stores :=
  ite_stores (hb.trans ha) ha

theorem reportDemands_stores (s : State) : (reportDemands s).stores = s.stores := by
  unfold reportDemands
  extract_lets a b t
  have ht : t.stores = s.stores := ite_stores rfl ((modSaf_stores _ _).trans raise_alerts.stores)
  exact ite_stores ht ((modSaf_stores _ _).trans (raise_alerts.stores.trans ht))

theorem clearByRequest_stores (o : SoId) (s : State) : (clearByRequest o s).stores = s.stores := by
  unfold clearByRequest
  extract_lets f t u
  have ht : t.stores = s.stores := raise_alerts.stores.trans (modSo_stores _ _ _)
  have hu : u.stores = s.stores := ite_stores ht (unstand_alerts.stores.trans ht)
  exact ite_stores (ite_stores hu (unstand_alerts.stores.trans hu)) rfl

theorem abandonTests_stores (s : State) : (abandonTests s).stores = s.stores := by
  unfold abandonTests
  refine forAll_keeps State.stores (fun c t => ?_) s
  refine forAll_keeps State.stores (fun o t => ?_) t
  exact ite_stores (raise_alerts.stores.trans ((modSaf_stores _ _).trans (modSafCh_stores _ _ _))) rfl

theorem settleOutputs_stores (s : State) :
    (noteOutput 1 (noteOutput 0 (settleSwitches (settlePath2 (settlePath1 s))))).stores = s.stores := by
  simp only [noteOutput, settleSwitches, settlePath2, settlePath1, modSo_stores, modSaf_stores]

theorem settleSaf_stores (s : State) : (settleSaf s).stores = s.stores :=
  (settleOutputs_stores _).trans ((abandonTests_stores _).trans ((clearByRequest_stores 1 _).trans
    ((clearByRequest_stores 0 _).trans ((modSaf_stores _ _).trans (reportDemands_stores s)))))

theorem settleRegion_stores (s0 : State) (r : RegionId) (s : State) : (settleRegion s0 r s).stores = s.stores := by
  unfold settleRegion
  extract_lets a b c
  have ha : a.stores = s.stores := openWindows_alerts.stores
  have hb : b.stores = s.stores := stores_when (modSrc_stores _ _ _) ha
  have hc : c.stores = s.stores := stores_when (modRegion_stores _ _ _) hb
  exact stores_when (modRegion_stores _ _ _) hc

theorem settleIsland_stores (s0 : State) (i : IslandId) (s : State) : (settleIsland s0 i s).stores = s.stores := by
  unfold settleIsland
  extract_lets a off b
  have ha : a.stores = s.stores := openWindows_alerts.stores
  have hb : b.stores = s.stores := stores_when (modIsland_stores _ _ _) ha
  exact ite_stores hb ((modIsland_stores _ _ _).trans hb)

theorem endStopped_stores (u : UnitId) (s : State) : (endStopped u s).stores = s.stores :=
  ite_stores rfl ((modUnit_stores _ _ _).trans (modIsland_stores _ _ _))

theorem dropCommand_stores (u : UnitId) (s : State) : (dropCommand u s).stores = s.stores := modUnit_stores _ _ _

theorem settleUnit_stores (u : UnitId) (s : State) : (settleUnit u s).stores = s.stores := by
  unfold settleUnit
  extract_lets x a b
  have ha : a.stores = s.stores := ite_stores rfl (modUnit_stores _ _ _)
  have hb : b.stores = s.stores := ite_stores ha ((modUnit_stores _ _ _).trans ((dropCommand_stores u a).trans ha))
  exact stores_when (modUnit_stores _ _ _) hb

theorem gateIsland_stores (i : IslandId) (s : State) : (gateIsland i s).stores = s.stores := ite_stores rfl rfl

theorem settleGates_stores (i : IslandId) (s : State) : (settleGates i s).stores = s.stores := ite_stores (gateIsland_stores i s) rfl

/-! ## What settles a change -/

/-- All that follows the device state stores nothing. -/
theorem settled_stores (s0 s : State) : ∃ t, settle s0 s = countSwitched s0 t ∧ t.stores = (settleDev (dropTrips s)).stores := by
  unfold settle
  extract_lets a b c d
  have hb : b.stores = a.stores := forAll_keeps State.stores (settleRegion_stores s0) a
  have hc : c.stores = b.stores := forAll_keeps State.stores (settleIsland_stores s0) b
  have hd : d.stores = c.stores := (forAll_keeps State.stores settleUnit_stores _).trans (forAll_keeps State.stores endStopped_stores c)
  exact ⟨_, rfl, (forAll_keeps State.stores settleGates_stores d).trans (hd.trans (hc.trans (hb.trans (settleSaf_stores _))))⟩

theorem countSwitched_mem (s0 s : State) : (countSwitched s0 s).mem = s.mem :=
  forAll_keeps State.mem (by intros; split <;> rfl) s

/-- Package memory changes only with the device state. -/
theorem settle_mem (s0 s : State) : (settle s0 s).mem = (settleDev (dropTrips s)).mem := by
  obtain ⟨t, ht, hs⟩ := settled_stores s0 s
  rw [ht, countSwitched_mem]
  exact congrArg Prod.fst hs

/-- The Loop Engine but for its counts of changes of unit state. -/
def State.loopKept (s : State) : Loop := { s.loop with switched := Vector.replicate 8 0 }

theorem countSwitched_loopKept (s0 s : State) : (countSwitched s0 s).loopKept = s.loopKept :=
  forAll_keeps State.loopKept (by intros; split <;> rfl) s

theorem loopKept_of_loop (h : t.loop = s.loop) : t.loopKept = s.loopKept := by
  rw [State.loopKept, h, State.loopKept]

theorem dropTrips_loop (s : State) : (dropTrips s).loop = s.loop := by
  unfold dropTrips
  rfl

theorem settle_loopKept (s0 s : State) : (settle s0 s).loopKept = s.loopKept := by
  obtain ⟨t, ht, hs⟩ := settled_stores s0 s
  have hl : t.loop = (settleDev (dropTrips s)).loop := congrArg Prod.snd hs
  rw [ht, countSwitched_loopKept]
  exact loopKept_of_loop (hl.trans ((settleDev_loop _).trans (dropTrips_loop s)))

theorem loopKept_code (s : State) : s.loopKept.code = s.loop.code := rfl
theorem loopKept_probes (s : State) : s.loopKept.probes = s.loop.probes := rfl

theorem settle_code (s0 s : State) : (settle s0 s).loop.code = s.loop.code := by
  rw [← loopKept_code, settle_loopKept, loopKept_code]

theorem settle_probes (s0 s : State) : (settle s0 s).loop.probes = s.loop.probes := by
  rw [← loopKept_probes, settle_loopKept, loopKept_probes]

end Sys2Proof.Machine
end

section
-- One proof after another, as above: elaborated side by side they wait for the same lemmas, each with a thread and its stack.
set_option Elab.async false

/-!
SUPPORT. A counterexample to the frame of `settle`: of what stops in SAFE not only a waiting commit records its outcome, but also a PAIR_SWAP
that another region of its mask has made already (R361, R363, R430; notes/assumptions/136.md).
-/
namespace Sys2Proof.Machine

open Sys2Proof

/-- A running region of which the PAIR_SWAP of slot 0 waits for the boundary. -/
def swapWaits (g : Region) : Region := { g with phase := .run, bcount := 7, swapReq := [0] }

/-- A timed PAIR_SWAP of regions A and B in slot 0, late at its acceptance (R348), that waits for the boundaries of both, which are paired and have
SYNCED standbys. No commit waits. -/
def lateSwap : State :=
  { State.reset with
    linkUp := true
    regs := [(rPairCfg, 0x301)]
    mem := memPut [] (descAddr 0) ([0x40] ++ List.replicate 15 0 ++ [3])
    power := { State.reset.power with dev := .run, sealed := true }
    rings := { State.reset.rings with
      journal := [{ slot := 0, asn := 1, opcode := 0x40, timed := true, targetClass := 7, targetIndex := 3 }]
      work := [{ slot := 0, kind := .applying, late := some 400 }] }
    regions := upd (upd State.reset.regions 0 swapWaits) 1 swapWaits
    pair := { State.reset.pair with regions := State.reset.pair.regions.map fun p => { p with standby := .synced } } }

/-- At its boundary region B has swapped, which left an outcome record with OK; A still waits. -/
def halfSwapped : State := applySwap 1 0 lateSwap

/-- Then a package-safe reaction begins. -/
def halfSwappedUnsafe : State := halfSwapped.modSrc 160 fun f => { f with state := .fault, reaction := .packageSafe }

theorem halfSwappedUnsafe_noCommits : ∀ r : RegionId, halfSwappedUnsafe.regions[r].phase = .off ∨ halfSwappedUnsafe.regions[r].commits = [] := by
  decide +kernel

/-- The STATUS in the outcome record is OK before. -/
theorem halfSwappedUnsafe_status : halfSwappedUnsafe.byte (outcomeAddr 0 + 4) = 0 := by
  decide +kernel

/-- It is LATE after: the module goes to SAFE, where region A stops, with which the swap completes. -/
theorem settleDev_halfSwapped_status : (settleDev (dropTrips halfSwappedUnsafe)).byte (outcomeAddr 0 + 4) = 1 := by
  decide +kernel

theorem settle_halfSwapped_status (s0 : State) : (settle s0 halfSwappedUnsafe).byte (outcomeAddr 0 + 4) = 1 := by
  rw [← settleDev_halfSwapped_status, State.byte, State.byte, settle_mem]

end Sys2Proof.Machine

namespace Sys2Proof

open Sys2Proof.Machine

/-- Refutes O58: with no commit waiting, a region that stops in SAFE ends the PAIR_SWAP that another region has made already, whose outcome
record in package memory then reads LATE in place of OK. -/
theorem not_settleFrame : ¬ Obligations.SettleFrame := by
  intro h
  obtain ⟨-, -, -, -, -, -, -, -, -, -, -, -, -, -, -, -, -, -, hcommits⟩ := h halfSwapped halfSwappedUnsafe
  obtain ⟨hmem, -⟩ := hcommits halfSwappedUnsafe_noCommits
  have hsame : (settle halfSwapped halfSwappedUnsafe).byte (outcomeAddr 0 + 4) = halfSwappedUnsafe.byte (outcomeAddr 0 + 4) := by
    rw [State.byte, hmem, State.byte]
  rw [settle_halfSwapped_status, halfSwappedUnsafe_status] at hsame
  exact absurd hsame (by decide)

end Sys2Proof
end

section
-- One proof after another, as above: elaborated side by side they wait for the same lemmas, each with a thread and its stack.
set_option Elab.async false

/-!
SUPPORT. The rows of the probe commands in the cases in which they act (R138, R143, R144), and with them the row of a command on a context.
-/
namespace Sys2Proof.Machine

open Sys2Proof

variable {s : State} {k : Slot} {c : CtxId}

theorem opcodeOf_of_mayApply {op : Nat} (h : s.mayApply k op = true) : s.opcodeOf k = op := by
  simp only [State.mayApply, Bool.and_eq_true, beq_iff_eq] at h
  exact h.1

theorem ctxRow_free {op : Nat} {f : State → State} (ht : s.ctxTarget k = some c) (hf : s.ctxFree c = true) (ha : s.timedAhead k c = false)
    (hm : s.mayApply k op = true) : ctxRow k op f s = .next (settle s (f s)) := by
  simp only [ctxRow, ht, hf, ha, immediate, hm, Bool.not_false, Bool.and_self, if_true]

theorem ctxRow_untargeted {op : Nat} {f : State → State} (ht : s.ctxTarget k = none) (hm : s.mayApply k op = true) :
    ctxRow k op f s = .next (settle s (f s)) := by
  simp only [ctxRow, ht, immediate, hm, if_true]

theorem doProbeStart_takes {n : Fin 16} (hc : dCtx (s.desc k) = c) (hm : s.mirrored c = false) (hs : s.ctxState c ≠ 0)
    (ht : s.ctxTemplate c ≠ 0x13) (hp : s.probeOf c = none) (hn : s.freeProbe = some n) (hr : probeRange (s.desc k) = none) :
    doProbeStart k s =
      let a := probeOperands (s.desc k)
      let lim := s.rf rLeProbeLimit 0 16
      let clamp := decide (lim < (sx 16 (leAt a 2 2)).natAbs)
      let b := if clamp then a.take 2 ++ leBytes 2 lim ++ a.drop 4 else a
      let gen := (s.loop.probes[n]).gen + 1
      finish k (if clamp then stClamped else stOk) 0 (BitVec.ofNat 64 (probeId n gen)) true
        ((setPb c 0 (b ++ [0, 0] ++ bytesAt (s.desc k) 60 4 ++ leBytes 4 0 ++ leBytes 1 (probeId n gen) ++ List.replicate 11 0) s).modProbe n
          fun _ => { ctx := some c, last := c, gen := gen, lfsr := prbsSeed (leAt b 27 1) (leAt b 28 2) }) := by
  subst hc
  have hg : (s.mirrored (dCtx (s.desc k)) || s.ctxState (dCtx (s.desc k)) == 0 || s.ctxTemplate (dCtx (s.desc k)) == 0x13 ||
      (s.probeOf (dCtx (s.desc k))).isSome) = false := by
    simp only [hm, hp, beq_false_of_ne hs, beq_false_of_ne ht, Option.isSome_none, Bool.or_self]
  simp only [doProbeStart, hg, hn, hr, Bool.false_eq_true, if_false]

theorem doProbeStop_named {n : Fin 16} (hn : s.namedProbe (s.desc k) = some (n, c)) (hm : s.mirrored c = false) :
    doProbeStop k s = finishOk k 0 (endProbe c 3 (modEntry k (fun e => { e with targetClass := 1, targetIndex := BitVec.ofNat 8 c.val }) s)) := by
  simp only [doProbeStop, hn, hm, Bool.false_eq_true, if_false]

theorem doProbeStop_unnamed (hn : s.namedProbe (s.desc k) = none) : doProbeStop k s = finishFail k stState 0 s := by
  simp only [doProbeStop, hn]

theorem ctxTarget_probeStop (h : s.opcodeOf k = 0x14) : s.ctxTarget k = (s.namedProbe (s.desc k)).map Prod.snd := if_pos h

end Sys2Proof.Machine

namespace Sys2Proof

open Sys2Proof.Machine

/-- Settles O3: each row in the case in which it acts; a PROBE_START by whether the limit clamps its amplitude. -/
theorem probeCommandsComplete : Obligations.ProbeCommandsComplete := by
  refine ⟨fun k s c n b ht hf ha hm hc hi hs htp hp hn hr hb hl => ?_, fun k s c n b ht hf ha hm hc hi hs htp hp hn hr hl hb => ?_,
    fun k s n c hm hn hf ha hi => ?_⟩
  · subst hb
    refine (ctxRow_free ht hf ha hm).trans ?_
    rw [doProbeStart_takes hc hi hs htp hp hn hr]
    simp only [decide_eq_false (Nat.not_lt.2 hl), Bool.false_eq_true, if_false]
  · subst hb
    refine (ctxRow_free ht hf ha hm).trans ?_
    rw [doProbeStart_takes hc hi hs htp hp hn hr]
    simp only [decide_eq_true hl, if_true]
  · have ht : s.ctxTarget k = some c := by rw [ctxTarget_probeStop (opcodeOf_of_mayApply hm), hn]; rfl
    exact (ctxRow_free ht hf ha hm).trans (by rw [doProbeStop_named hn hi])

end Sys2Proof
end

section
-- One proof after another, as above: elaborated side by side they wait for the same lemmas, each with a thread and its stack.
set_option Elab.async false

/-!
SUPPORT. The rows of the microcode and image loads and of an SQ's restart in the cases in which they act (R145 to R150, R172, R335).
-/
namespace Sys2Proof.Machine

open Sys2Proof

variable {s : State}

theorem writeUcode_unsealed {v : Word32} (h : s.power.sealed = false) : writeUcode v s = s.modLoop fun p =>
    { p with code := put (fun _ => 0) p.code p.codeWord.toNat v, codeWord := p.codeWord + 1
             ucodeEntries := if s.codeAt p.codeWord.toNat = v then p.ucodeEntries else [] } := by
  rw [writeUcode, if_neg (by simp [h])]

theorem writeUcodeCtrl_starts {v : Word32} (h : s.power.sealed = false) (hv : v.getLsbD 0 = true) : writeUcodeCtrl v s =
    s.modLoop fun p => { p with ucodeResult := 0xF, ucodeFail := 0, ucodeEntries := [] } := by
  simp only [writeUcodeCtrl, h, hv, Bool.not_true, Bool.false_eq_true, if_false]

theorem writeImageCtrl_starts {v : Word32} (h : s.power.sealed = false) (hv : v.getLsbD 0 = true) (hl : s.loop.imageLoading = false) :
    writeImageCtrl v s = s.modLoop fun l => { l with imageLoading := true, imageResult := 0xF, imageFail := 0 } := by
  simp only [writeImageCtrl, h, hv, hl, Bool.not_true, Bool.false_eq_true, if_false]

theorem execLeUcodeDataWrite_reaches {v : Word32} (hr : s.hostReaches = true) (hc : s.power.cRun = true) :
    execLeUcodeDataWrite v s = .next (settle s (writeUcode v s)) := by
  rw [execLeUcodeDataWrite, hostWord_reaches hr hc (.inl rfl)]

theorem execVerify_reaches {v : Word32} (hr : s.hostReaches = true) (hc : s.power.cRun = true) :
    execVerify v s = .next (settle s (writeUcodeCtrl v s)) := by
  rw [execVerify, hostWord_reaches hr hc (.inl rfl)]

theorem execLoad_reaches {v : Word32} (hr : s.hostReaches = true) (hc : s.power.cRun = true) :
    execLoad v s = .next (settle s (writeImageCtrl v s)) := by
  rw [execLoad, hostWord_reaches hr hc (.inl rfl)]

theorem execVerifyDone_due (hr : s.loop.ucodeResult = 0xF) (hc : s.power.cRun = true) : execVerifyDone s = .next (settle s (verifyDone s)) := by
  simp only [execVerifyDone, hr, hc, decide_true, Bool.and_self, if_true]

theorem verifyDone_valid (h : s.verifyImage.1 = 1) : verifyDone s =
    (s.modLoop fun p => { p with ucodeResult := 1, ucodeFail := BitVec.ofNat 14 s.verifyImage.2, ucodeEntries := s.image.entries }).write 0x01
      0x100000 ((List.range 16384).map fun j => leBytes 4 (s.codeAt j).toNat).flatten := by
  simp only [verifyDone, h, if_true]
  rfl

theorem verifyDone_rejected (h : s.verifyImage.1 ≠ 1) : verifyDone s =
    raise 121 evLeUcodeRejected (BitVec.ofNat 32 s.verifyImage.1) (BitVec.ofNat 32 s.verifyImage.2)
      ((s.modLoop fun p =>
        { p with ucodeResult := BitVec.ofNat 4 s.verifyImage.1, ucodeFail := BitVec.ofNat 14 s.verifyImage.2, ucodeEntries := [] }).write 0x01
          0x100000 ((List.range 16384).map fun j => leBytes 4 (s.codeAt j).toNat).flatten) := by
  simp only [verifyDone, if_neg h]
  rfl

theorem execImageLoadDone_due {i : Option (List Byte)} (hl : s.loop.imageLoading = true) (hc : s.power.cRun = true) :
    execImageLoadDone i s = .next (settle s (imageDone i s)) := by
  simp only [execImageLoadDone, hl, hc, Bool.and_self, if_true]

theorem imageDone_whole {l : List Byte} (h : l.length = 524304) : imageDone (some l) s =
    let t := s.modLoop fun p =>
      { p with imageLoading := false, imageResult := BitVec.ofNat 4 (imageResult l).1, imageFail := BitVec.ofNat 8 (imageResult l).2 }
    if (imageResult l).1 = 1 then
      (t.write 0x01 0 (imageEntries l)).modLoop fun p => { p with cache := [], rt := Vector.replicate 256 {}, rtSaved := Vector.replicate 256 {} }
    else t := by
  have hf : (some l).filter (fun l => l.length == 524304) = some l := by simp [h]
  simp only [imageDone, hf]
  rfl

theorem imageDone_unread (s : State) : imageDone none s =
    hostError (s.addr64 rLeImageAddrLo rLeImageAddrHi) 0x10 false (s.fresh.1.setWidth 3)
      { s with free := s.free + 1, loop := { s.loop with imageLoading := false, imageResult := 5 } } := rfl

theorem forList_eq_self {α : Type} {f : α → State → State} {l : List α} (h : ∀ x ∈ l, ∀ t, f x t = t) (s : State) : forList f l s = s := by
  induction l generalizing s with
  | nil => rfl
  | cons x l ih =>
    show forList f l (f x s) = s
    rw [h x List.mem_cons_self, ih fun y hy => h y (List.mem_cons_of_mem x hy)]

theorem forAll_single {n : Nat} {f : Fin n → State → State} (i : Fin n) (h : ∀ j, j ≠ i → ∀ t, f j t = t) (s : State) :
    forAll f s = f i s := by
  suffices hl : ∀ l : List (Fin n), l.Nodup → i ∈ l → forList f l s = f i s from hl _ (List.nodup_finRange n) (List.mem_finRange i)
  intro l
  induction l generalizing s with
  | nil => exact fun _ hi => absurd hi List.not_mem_nil
  | cons j l ih =>
    intro hd hi
    obtain ⟨hj, hd⟩ := List.nodup_cons.1 hd
    show forList f l (f j s) = f i s
    rcases List.mem_cons.1 hi with rfl | hi
    · exact forList_eq_self (fun k hk => h k fun e => hj (e ▸ hk)) _
    · rw [h j (fun e => hj (e ▸ hi)), ih s hd hi]

theorem bitAt_two_pow (q p : Fin 8) : bitAt (BitVec.ofNat 8 (2 ^ q.val)) p.val = decide (p = q) := by
  revert q p; decide

theorem lineAddr_of_regs {t : State} (h : t.regs = s.regs) (n : Nat) : t.lineAddr n = s.lineAddr n := by
  simp only [State.lineAddr, State.addr64, State.reg, h]

/-- An SQ that starts anew from DEV_IDX. -/
def startSq (q : SqId) (s : State) : State :=
  unstand (srcSq q) evSqStopped
    (s.modSq q fun x => { x with stopped := false, failedLines := 0, failedDescs := 0, fetched := none, waitReported := false })

theorem startSq_readBackFailed (q : SqId) (s : State) : (startSq q s).rings.sq[q].readBackFailed = s.rings.sq[q].readBackFailed := by
  simp only [startSq, unstand, State.modSrc_rings, State.modSq_rings, upd_same]

theorem startSq_lineAddr (q : SqId) (n : Nat) (s : State) : (startSq q s).lineAddr n = s.lineAddr n := lineAddr_of_regs rfl n

theorem restartSq_stopped {q : SqId} (h : s.rings.sq[q].stopped = true) : restartSq q s =
    raise (srcSq q) evSqRestarted 0 0 (releaseWeirs ⟨q.val, by omega⟩ (hostRead (.sqLine q) (s.lineAddr q.val)
      (if s.rings.sq[q].readBackFailed then (startSq q s).modRings fun r => { r with replaying := true } else startSq q s))) := by
  have ha : (if s.rings.sq[q].readBackFailed then (startSq q s).modRings fun r => { r with replaying := true } else startSq q s).lineAddr q.val =
      s.lineAddr q.val := by
    split
    · exact startSq_lineAddr q q.val s
    · exact startSq_lineAddr q q.val s
  rw [← ha, ← startSq_readBackFailed, restartSq, if_pos h]
  rfl

theorem execRestart_one {q : SqId} (hr : s.hostReaches = true) (hc : s.power.cRun = true) :
    execRestart (BitVec.ofNat 8 (2 ^ q.val)) s = .next (settle s (restartSq q s)) := by
  have hone (t : State) : forAll (fun p t => if bitAt (BitVec.ofNat 8 (2 ^ q.val)) p.val then restartSq p t else t) t = restartSq q t := by
    rw [forAll_single q fun p hp t => if_neg (by rw [bitAt_two_pow]; exact of_decide_eq_true.mt hp), bitAt_two_pow, decide_eq_true rfl]
    rfl
  rw [execRestart, hostWord_reaches hr hc (.inl rfl), hone]

end Sys2Proof.Machine

namespace Sys2Proof

open Sys2Proof.Machine

/-- Settles O11: each row in the case in which it acts; the checks' end by their result, the image by whether it was read. -/
theorem loadCommandsComplete : Obligations.LoadCommandsComplete := by
  refine ⟨fun v s hr hc hs => ?_, fun v s hr hc hs hv => ?_, fun s hu hc hv => ?_, fun v s hr hc hs hv hl => ?_, fun s hu hc hv => ?_,
    fun l s hl hi hc => ?_, fun s hi hc => ⟨s.fresh.1.setWidth 3, ?_⟩, fun q t s hr hc hs ht => ?_⟩
  · rw [← writeUcode_unsealed hs]
    exact execLeUcodeDataWrite_reaches hr hc
  · rw [← writeUcodeCtrl_starts hs hv]
    exact execVerify_reaches hr hc
  · rw [← verifyDone_valid hv]
    exact execVerifyDone_due hu hc
  · rw [← writeImageCtrl_starts hs hv hl]
    exact execLoad_reaches hr hc
  · rw [← verifyDone_rejected hv]
    exact execVerifyDone_due hu hc
  · rw [← imageDone_whole hl]
    exact execImageLoadDone_due hi hc
  · exact (execImageLoadDone_due hi hc).trans (congrArg _ (congrArg _ (imageDone_unread s)))
  · subst ht
    exact (execRestart_one hr hc).trans (congrArg _ (congrArg _ (restartSq_stopped hs)))

end Sys2Proof
end

section
-- One proof after another, as above: elaborated side by side they wait for the same lemmas, each with a thread and its stack.
set_option Elab.async false

/-!
SUPPORT. The rows of releases, the timebase, the cache and the heartbeat in the cases in which they act (R108, R111, R121, R176, R178, R461, R497).
-/
namespace Sys2Proof.Machine

open Sys2Proof

variable {s : State} {r : RegionId} {c : CtxId}

/-! ## Releases and the timebase (R108, R111, R121) -/

theorem execContextRelease_off (hl : s.leRuns = true) (hi : s.regionIdle r = true) (hp : s.pReach = true) (hm : s.isMirror r = false)
    (ho : s.regions[r].phase = .off) : execContextRelease r s = .next (s.modLoop fun l => { l with sets := upd l.sets r fun _ => [] }) := by
  simp only [execContextRelease, hl, hi, hp, hm, ho, Bool.not_true, Bool.not_false, Bool.or_self, Bool.and_self, beq_self_eq_true,
    Bool.false_eq_true, if_false, if_true]

theorem execContextRelease_set {p : List SampleSet × SampleSet × List SampleSet} (hl : s.leRuns = true) (hi : s.regionIdle r = true)
    (ho : s.pReach = false ∨ s.isMirror r = true ∨ s.regions[r].phase ≠ .off) (hs : splitRelease (s.loop.sets[r]) = some p)
    (hc : s.computes r = true) : execContextRelease r s =
    .next (settle s (releaseRegion r p.2.1.count p.1 (s.modLoop fun l => { l with sets := upd l.sets r fun _ => p.2.2 }))) := by
  have hn : (s.pReach && !s.isMirror r && s.regions[r].phase == .off) = false := by
    rcases ho with ho | ho | ho
    · rw [ho, Bool.false_and, Bool.false_and]
    · rw [ho, Bool.not_true, Bool.and_false, Bool.false_and]
    · rw [beq_false_of_ne ho, Bool.and_false]
  simp only [execContextRelease, hl, hi, hn, hs, hc, Bool.not_true, Bool.or_self, Bool.false_eq_true, if_false, if_true]

theorem execTimebaseSlot_due (hl : s.leRuns = true) (ht : s.nextSlotAt ≤ s.now) : execTimebaseSlot s = .next (settle s (beginSlot s)) := by
  simp only [execTimebaseSlot, hl, ht, decide_true, Bool.and_self, if_true]

theorem execContextRunComplete_ready (h : s.runReady c = true) : execContextRunComplete c s = .next (settle s (completeRun c s)) := by
  rw [execContextRunComplete, if_pos h]

/-! ## The cache (R176, R178, R495, R497) -/

theorem issuePrefetch_room (h : s.claimed < 96) : issuePrefetch c s =
    (if s.arb.active.assured ≤ s.inFlight ∧ s.beyondInFlight = false then s.modArb fun a => { a with leLines := 0 } else s).modRt c fun x =>
      { x with prefetching := true, beyond := decide (s.arb.active.assured ≤ s.inFlight) } := by
  simp only [issuePrefetch, h, if_true, Bool.and_eq_true, decide_eq_true_eq, Bool.not_eq_true']

theorem execPrefetchIssue_due (hl : s.leRuns = true) (he : s.ctxEnabled c = true) (hp : s.ctxPin c = false) (hr : s.resident c = false)
    (hf : (s.loop.rt[c]).prefetching = false) (hm : s.refreshing = false) (ha : s.slotsAhead c = some 1) :
    execPrefetchIssue c s = .next (settle s (issuePrefetch c (makeRoom s))) := by
  simp only [execPrefetchIssue, hl, he, hp, hr, hf, hm, ha, Bool.not_false, beq_self_eq_true, Bool.and_self, if_true]

theorem mayLand_of_lines (hm : s.refreshing = false) (h : (s.loop.rt[c]).beyond = false ∨ entryLines ≤ s.arb.leLines) : s.mayLand c = true := by
  simpa only [State.mayLand, hm, Bool.not_false, Bool.true_and, Bool.or_eq_true, Bool.not_eq_true', decide_eq_true_eq] using h

theorem execPrefetchLanded_moved (hl : s.leRuns = true) (hf : (s.loop.rt[c]).prefetching = true) (hm : s.mayLand c = true) :
    execPrefetchLanded c s = .next (
      let t := (if (s.loop.rt[c]).beyond then s.modArb fun a => { a with leLines := a.leLines - 32 } else s).modRt c
        fun x => { x with prefetching := false, beyond := false }
      settle s (if t.ctxEnabled c then loadEntry c t else t)) := by
  simp only [execPrefetchLanded, hl, hf, hm, Bool.and_self, if_true]
  rfl

theorem execWritebackSweep_due (hl : s.leRuns = true) (hm : s.refreshing = false) (ht : 400 ≤ (s.loop.slot - s.loop.sweptAt).toNat) :
    execWritebackSweep s = .next (settle s ((forList (fun (e : CacheEntry) t => writeBack e.ctx t) (s.loop.cache.filter CacheEntry.pinned) s).modLoop
      fun l => { l with sweptAt := l.slot })) := by
  simp only [execWritebackSweep, hl, hm, ht, Bool.not_false, decide_true, Bool.and_self, if_true]

/-! ## The heartbeat (R461) -/

theorem execLoopEngineHeartbeatLost_due (hl : s.leRuns = true) (ht : s.loop.slotAt + 20000 ≤ s.now) : execLoopEngineHeartbeatLost s =
    .next (settle s ((raiseFull 121 evLeHeartbeat 0 0 (some .cDie) false s).modLoop fun l => { l with slotAt := s.now })) := by
  simp only [execLoopEngineHeartbeatLost, hl, ht, decide_true, Bool.and_self, if_true]

end Sys2Proof.Machine

namespace Sys2Proof

open Sys2Proof.Machine

/-- Settles O24: each row in the case in which it acts. -/
theorem loopStepsComplete : Obligations.LoopStepsComplete := by
  refine ⟨fun r s => execContextRelease_off, fun r p s => execContextRelease_set, fun s => execTimebaseSlot_due,
    fun c s => execContextRunComplete_ready, fun c m t s hl he hp hr hf hm ha hroom hc ht => ?_, fun c t s hl hf hm hb ht => ?_,
    fun s => execWritebackSweep_due, fun s => execLoopEngineHeartbeatLost_due⟩
  · subst hroom ht
    exact (execPrefetchIssue_due hl he hp hr hf hm ha).trans (congrArg _ (congrArg _ (issuePrefetch_room hc)))
  · subst ht
    exact execPrefetchLanded_moved hl hf (mayLand_of_lines hm hb)

end Sys2Proof
end

section
-- One proof after another, as above: elaborated side by side they wait for the same lemmas, each with a thread and its stack.
set_option Elab.async false

/-!
SUPPORT. What is refused and changes nothing: a lane mask that meets another, settings of the Loop Engine after the Seal, the stop of a probe that no
longer runs, REGION_MODE outside the states of R530 (R114, R144, R530, R572).
-/
namespace Sys2Proof.Machine

open Sys2Proof

variable {s : State} {k : Slot}

theorem regWrite_lanes (r : RegionId) (v : Word32) (s : State) : regWrite (rLeLanes r) v s = writeLanes r v s := by
  fin_cases r <;> rfl

theorem dieOf_lanes (r : RegionId) : dieOf (rLeLanes r) = .c := by
  revert r; decide

theorem rLeLanes_lt (r : RegionId) : rLeLanes r < 0x100000 := by
  revert r; decide

theorem writeLanes_taken {r : RegionId} {v : Word32} (hs : s.power.sealed = false) (ht : s.laneTaken r v = true) :
    writeLanes r v s = raise 121 evLeLaneRefused (BitVec.ofNat 32 r.val) 0 s := by
  rw [writeLanes, if_pos (by rw [hs, ht]; rfl)]

theorem writeUcodeCtrl_sealed {v : Word32} (h : s.power.sealed = true) (hv : v.getLsbD 0 = true) :
    writeUcodeCtrl v s = raise 136 evRingRwsWrite 0 0 s := by
  simp only [writeUcodeCtrl, h, hv, Bool.not_true, Bool.false_eq_true, if_false, if_true, rwsWritten]

theorem writeUcode_sealed_loop {v : Word32} (h : s.power.sealed = true) : (writeUcode v s).loop = s.loop := by
  rw [writeUcode, if_pos h]
  exact ite_loop rfl raise_alerts.loop

theorem namedProbe_other_gen {d : List Byte}
    (h : (s.loop.probes[dByte d 16 % 16]'(Nat.mod_lt _ (by decide))).gen.toNat ≠ dByte d 16 / 16) : s.namedProbe d = none := if_neg h

theorem modeAccepted_safe (r : RegionId) (h : s.power.dev = .safe) : s.modeAccepted r = false := by
  simp [State.modeAccepted, h]

theorem execRegionMode_due (h : s.mayApply k 0x05 = true) : execRegionMode k s = .next (settle s (doRegionMode k s)) := by
  rw [execRegionMode, if_pos h]

theorem doRegionMode_refused {r : RegionId} {p : Phase} (hr : regionNo (leAt (s.desc k) 16 1) = some r)
    (hp : phaseOf (leAt (s.desc k) 17 1) = some p) (hm : s.modeAccepted r = false) : doRegionMode k s = finishFail k stState 0 s := by
  simp only [doRegionMode, hr, hp, hm, Bool.not_false, if_true]

end Sys2Proof.Machine

namespace Sys2Proof

open Sys2Proof.Machine

/-- Settles O55: each refusal leaves only its event or its STATE; what settles it leaves registers, code store and probes. -/
theorem refusedChangesNothing : Obligations.RefusedChangesNothing := by
  refine ⟨fun r v s hw hr hc hs ht => ?_, fun v s hr hc hs => ⟨fun hv => ?_, ?_⟩, fun k s hm hg => ?_, fun k s r p hm hd hr hp => ?_⟩
  · have he := execRegisterWrite_reaches hw (rLeLanes_lt r) hr hc (.inl (dieOf_lanes r))
    rw [regWrite_lanes, writeLanes_taken hs ht] at he
    exact ⟨_, he, rfl, (settle_regs _ _).trans (raise_regs _ _ _ _ s), rfl⟩
  · rw [← writeUcodeCtrl_sealed hs hv]
    exact execVerify_reaches hr hc
  · exact ⟨_, execLeUcodeDataWrite_reaches hr hc, by rw [settle_code, writeUcode_sealed_loop hs]⟩
  · have hn : s.namedProbe (s.desc k) = none := namedProbe_other_gen hg
    have ht : s.ctxTarget k = none := by rw [ctxTarget_probeStop (opcodeOf_of_mayApply hm), hn]; rfl
    have he := ctxRow_untargeted (f := doProbeStop k) ht hm
    rw [doProbeStop_unnamed hn] at he
    exact ⟨_, he, rfl, by rw [settle_probes, finishFail_loop]⟩
  · rw [← doRegionMode_refused hr hp (modeAccepted_safe r hd)]
    exact execRegionMode_due hm

end Sys2Proof
end

section
-- One proof after another, as above: elaborated side by side they wait for the same lemmas, each with a thread and its stack.
set_option Elab.async false

/-!
SUPPORT. The rows of the context commands in the cases in which they act (R132, R133, R179 to R182, R188), and the case in which the context is not
free for them.
-/
namespace Sys2Proof.Machine

open Sys2Proof

variable {s : State} {k : Slot} {c : CtxId}

/-- The row of a command changes nothing while its context is not free, or while a timed command goes before it. -/
theorem ctxRow_waits {op : Nat} {f : State → State} (ht : s.ctxTarget k = some c) (h : s.ctxFree c = false ∨ s.timedAhead k c = true) :
    ctxRow k op f s = .next s := by
  have hw : (s.ctxFree c && !s.timedAhead k c) = false := by
    rcases h with h | h
    · rw [h, Bool.false_and]
    · rw [h, Bool.not_true, Bool.and_false]
  simp only [ctxRow, ht, hw, Bool.false_eq_true, if_false]

/-! ## CTX_WRITE (R181) -/

theorem execCtxWrite_unheld (h : (s.pair.held.any fun x => x.slot == some k) = false) :
    execCtxWrite k s = ctxRow k 0x01 (doCtxWrite k) s := by
  simp only [execCtxWrite, h, Bool.false_eq_true, if_false]

/-- A write that all the checks pass and that no sequencer takes as a START, to a context that does not run on a pair, is applied at once. -/
theorem doCtxWrite_applies (hc : dCtx (s.desc k) = c) (hd : s.dataHere k = true) (hr : writeRange (s.desc k) = none)
    (hf : ((s.workOf k).map Work.dmaFailed).getD false = false) (hm : s.mirrored c = false)
    (hp : ∀ r, s.ctxRegion c = some r → (s.isPaired r && s.carrierRuns r) = false)
    (ha : s.areasOk c (leAt (s.desc k) 18 2) (s.writeData k).length = true)
    (hb : (applyWrite c (leAt (s.desc k) 18 2) (s.writeData k) s).badWord c (leAt (s.desc k) 18 2) (s.writeData k).length = none)
    (hj : (applyWrite c (leAt (s.desc k) 18 2) (s.writeData k) s).writeJoint s c (leAt (s.desc k) 18 2) (s.writeData k).length = true)
    (hs : s.writesStart c (leAt (s.desc k) 18 2) (s.writeData k) = false) :
    doCtxWrite k s = finishOk k 0 (applyWrite c (leAt (s.desc k) 18 2) (s.writeData k) s) := by
  subst hc
  simp only [doCtxWrite, hd, hr, hf, hm, ha, hb, hj, hs, Bool.not_true, Bool.not_false, Bool.and_self, Bool.or_self, Bool.false_and,
    Bool.false_eq_true, if_false, if_true]
  split
  case h_1 r hreg => rw [hp r hreg, if_neg Bool.false_ne_true]
  case h_2 => rfl

/-! ## CTX_READ (R182) -/

theorem execCtxRead_linked (h : s.hostUp = true) : execCtxRead k s = ctxRow k 0x02 (doCtxRead k) s := if_pos h

theorem doCtxRead_inRange (h : readRange (s.desc k) = none) : doCtxRead k s =
    finishOk k (BitVec.ofNat 64 (ofLe ((s.readBytes (dCtx (s.desc k)) (leAt (s.desc k) 18 2) (leAt (s.desc k) 20 2)).take 8)))
      (hostWrite (BitVec.ofNat 64 (leAt (s.desc k) 24 8)) (s.readBytes (dCtx (s.desc k)) (leAt (s.desc k) 18 2) (leAt (s.desc k) 20 2)) s) := by
  simp only [doCtxRead, h]

/-! ## CTX_ENABLE (R175, R179, R189) -/

/-- An enabling that passes its checks, and finds room in the cache where the context is pinned: the state `t` is checked, `m` has the room, `u` has
the context's state words cleared, and `v` has its entry loaded. -/
theorem doCtxEnable_enables {t m u v : State} (hc : dCtx (s.desc k) = c) (hm : s.mirrored c = false) (hp : s.pairedBusy c = false)
    (hs : s.ctxState c = 0) (hn : s.ctxTemplate c ≠ 0x1F ∨ s.loop.ucodeEntries ≠ [])
    (ht : t = storeCost c (setCtxState c (if (s.ctxRegion c).any s.openLoop then 3 else 1) s)) (hok : t.enableOk c = true)
    (hroom : m = (if t.ctxPin c then makeRoom t else t)) (hfits : t.ctxPin c = false ∨ m.claimed < 96)
    (hu : u = (setLost c 0 (clearWords c m)).modRt c (fun x => { seen := t.loop.switched.toList, block := x.block }))
    (hv : v = saveRt c (if u.ctxPin c then loadEntry c u else u)) :
    doCtxEnable k s = finishOk k (BitVec.ofNat 64 (v.ctxCost c)) (showTbLimit v) := by
  subst hc
  have hcode : (s.ctxTemplate (dCtx (s.desc k)) == 0x1F && s.loop.ucodeEntries.isEmpty) = false := by
    rcases hn with hn | hn
    · rw [beq_false_of_ne hn, Bool.false_and]
    · rw [List.isEmpty_eq_false_iff.2 hn, Bool.and_false]
  have hfull : (t.ctxPin (dCtx (s.desc k)) && decide (96 ≤ (makeRoom t).claimed)) = false := by
    cases hpin : t.ctxPin (dCtx (s.desc k)) with
    | false => rfl
    | true =>
      rw [hpin, if_pos rfl] at hroom
      rw [← hroom, decide_eq_false (Nat.not_le.2 (hfits.resolve_left (by simp [hpin])))]
      rfl
  have hgate : (s.mirrored (dCtx (s.desc k)) || s.pairedBusy (dCtx (s.desc k)) || s.ctxState (dCtx (s.desc k)) != 0 ||
      (s.ctxTemplate (dCtx (s.desc k)) == 0x1F && s.loop.ucodeEntries.isEmpty)) = false := by
    rw [hm, hp, hs, hcode]
    rfl
  unfold doCtxEnable
  extract_lets c o enabled room cleared loaded
  have ho : o = (s.ctxRegion c).any s.openLoop := by
    unfold o
    cases s.ctxRegion c <;> rfl
  have he : enabled = t := by rw [ht, ← ho]
  have hc : cleared = u := by rw [hu, hroom, ← he]
  have hl : loaded = v := by rw [hv, ← hc]
  have hr : room = makeRoom t := congrArg makeRoom he
  rw [if_neg (Bool.eq_false_iff.1 hgate), if_neg (by rw [he, hok]; exact Bool.false_ne_true),
    if_neg (by rw [he, hr, hfull]; exact Bool.false_ne_true), hl]

/-! ## CTX_DISABLE (R180) -/

/-- A disabling of a context that drives no region, or whose region is inhibited or latched. -/
theorem doCtxDisable_disables (hc : dCtx (s.desc k) = c) (hm : s.mirrored c = false) (hp : s.pairedBusy c = false) (hs : s.ctxState c ≠ 0)
    (hd : s.writesOut c = true → ∀ r, s.ctxRegion c = some r → s.showsInhibit r = true ∨ s.latched r = true) :
    doCtxDisable k s = finishOk k 0 (disableCtx c s) := by
  subst hc
  have hdriven (r : RegionId) (hr : s.ctxRegion (dCtx (s.desc k)) = some r) :
      (s.writesOut (dCtx (s.desc k)) && !(s.showsInhibit r || s.latched r)) = false := by
    cases hw : s.writesOut (dCtx (s.desc k)) with
    | false => rfl
    | true => rcases hd hw r hr with h | h <;> simp [h]
  simp only [doCtxDisable, hm, hp, beq_false_of_ne hs]
  cases hr : s.ctxRegion (dCtx (s.desc k)) with
  | none => simp only [Bool.and_false, Bool.or_self, Bool.false_eq_true, if_false]
  | some r => simp only [hdriven r hr, Bool.or_self, Bool.false_eq_true, if_false]

end Sys2Proof.Machine

namespace Sys2Proof

open Sys2Proof.Machine

/-- Settles O2: each row in the case in which it acts, and the rows of CTX_ENABLE and CTX_DISABLE while the context is not free. -/
theorem contextCommandsComplete : Obligations.ContextCommandsComplete := by
  refine ⟨fun k s c ht hf ha hd hm hh hc hr hfail hi hp hareas hb hj hs => ?_, fun k s c hup ht hf ha hm hr => ?_,
    fun k s c t m u v ht hf ha hm hc hi hp hs hn hstate hok hroom hfits hu hv => ?_, fun k s c ht hw => ?_,
    fun k s c ht hf ha hm hc hi hp hs hd => ?_⟩
  · rw [← doCtxWrite_applies hc hd hr hfail hi hp hareas hb hj hs]
    exact (execCtxWrite_unheld hh).trans (ctxRow_free ht hf ha hm)
  · rw [← doCtxRead_inRange hr]
    exact (execCtxRead_linked hup).trans (ctxRow_free ht hf ha hm)
  · rw [← doCtxEnable_enables hc hi hp hs hn hstate hok hroom hfits hu hv]
    exact ctxRow_free ht hf ha hm
  · exact ⟨ctxRow_waits ht hw, ctxRow_waits ht hw⟩
  · rw [← doCtxDisable_disables hc hi hp hs hd]
    exact ctxRow_free ht hf ha hm

end Sys2Proof
end

section
-- One proof after another, as above: elaborated side by side they wait for the same lemmas, each with a thread and its stack.
set_option Elab.async false

/-!
SUPPORT. What keeps a unit off (R199, R210, R213, R220, R250): the part of the state that holds go by, its footing, and what settles a change, after
which each unit is off as far as it is held.
-/
namespace Sys2Proof.Machine

open Sys2Proof

variable {s t : State}

/-! ## What holds go by -/

/-- What a source holds with: its fault state and its reaction. -/
def Source.footing (f : Source) := (f.state, f.reaction)
/-- What a region's holds go by. -/
def Region.footing (g : Region) := (g.phase, g.hold, g.copyInhibit, g.lossInhibit, g.sourceInhibit, g.tripLatch)
/-- What an island's holds go by. -/
def Island.footing (i : Island) := (i.bias, i.ready, i.link, i.linkHold, i.started)
/-- What a unit's own holds go by. -/
def GateUnit.footing (x : GateUnit) := (x.tripCyc, x.tripLatch, x.waitWrap, x.testHold, x.uvlo, x.uvloHeld, x.desatHold, x.softOff)
/-- What a hold ends in a unit. -/
def GateUnit.drive (x : GateUnit) := (x.gate, x.cmdOn, x.edges)

/-- What holds go by, but for the units' own. -/
def State.ground (s : State) :=
  (s.regs, s.events.src.map Source.footing, s.regions.map Region.footing, s.islands.map Island.footing, s.saf.path1Block, s.power.dev,
    s.power.pRun, s.pair.regions.map PairRegion.partnerActive)

/-- What holds go by, with what they end. -/
def State.footing (s : State) := (s.ground, s.units.map GateUnit.footing, s.units.map GateUnit.drive)

/-- A view of an element is the same where the views of the whole vectors are. -/
theorem getElem_of_map {α β : Type} {n : Nat} {g : α → β} {v w : Vector α n} (h : v.map g = w.map g) (i : Fin n) : g v[i] = g w[i] := by
  simpa using congrArg (fun x => x[i]) h

/-- A change of one element that leaves a view of it leaves the view of the whole vector. -/
theorem upd_map {α β : Type} {n : Nat} {g : α → β} {f : α → α} (hf : ∀ x, g (f x) = g x) (v : Vector α n) (i : Fin n) :
    (upd v i f).map g = v.map g := by
  ext j hj
  by_cases h : i.val = j
  · subst h
    simp [upd, hf]
  · simp [upd, h]

section Ground
variable (h : t.ground = s.ground)
include h

theorem regs_of_ground : t.regs = s.regs := congrArg (·.1) h

theorem source_of_ground (k : SourceId) : t.events.src[k].footing = s.events.src[k].footing := getElem_of_map (congrArg (·.2.1) h) k

theorem region_of_ground (r : RegionId) : t.regions[r].footing = s.regions[r].footing := getElem_of_map (congrArg (·.2.2.1) h) r

theorem island_of_ground (i : IslandId) : t.islands[i].footing = s.islands[i].footing := getElem_of_map (congrArg (·.2.2.2.1) h) i

theorem path1Block_of_ground : t.saf.path1Block = s.saf.path1Block := congrArg (·.2.2.2.2.1) h

theorem fedByPartner_of_ground (r : RegionId) : t.fedByPartner r = s.fedByPartner r := getElem_of_map (congrArg (·.2.2.2.2.2.2.2) h) r

theorem rf_of_ground (off lsb n : Nat) : t.rf off lsb n = s.rf off lsb n := by
  simp only [State.rf, State.reg, regs_of_ground h]

theorem regionOf_of_ground (i : IslandId) : t.regionOf i = s.regionOf i := congrArg regionNo (rf_of_ground h _ _ _)

theorem driveHolds_of_ground (u : UnitId) : t.driveHolds u = s.driveHolds u := by
  simp only [State.driveHolds, State.driveMode, rf_of_ground h]

theorem srcCovers_of_ground (k : SourceId) (r : RegionId) : t.srcCovers k r = s.srcCovers k r := by
  simp only [State.srcCovers, regionOf_of_ground h, State.rb, State.reg, regs_of_ground h]

theorem held_of_ground (k : SourceId) : t.held k = s.held k := by
  have hk := source_of_ground h k
  simp only [Source.footing, Prod.mk.injEq] at hk
  simp only [State.held, hk]

theorem activeSrcs_of_ground : t.activeSrcs = s.activeSrcs := by
  have hv : t.events.src.toList.map Source.footing = s.events.src.toList.map Source.footing := by
    rw [← Vector.toList_map, ← Vector.toList_map]
    exact congrArg (fun x => x.2.1.toList) h
  have hz (l : List Source) : ((List.finRange 192).zip l).filterMap (fun p => if p.2.state = .clear then none else some p.1) =
      ((List.finRange 192).zip (l.map Source.footing)).filterMap fun p => if p.2.1 = .clear then none else some p.1 := by
    rw [List.zip_map_right, List.filterMap_map]
    rfl
  rw [State.activeSrcs, State.activeSrcs, hz, hz, hv]

theorem pkgSafe_of_ground : t.pkgSafe = s.pkgSafe := by
  have hd : t.power.dev = s.power.dev := congrArg (·.2.2.2.2.2.1) h
  have hr : t.power.pRun = s.power.pRun := congrArg (·.2.2.2.2.2.2.1) h
  simp only [State.pkgSafe, State.pkgSafeHeld, activeSrcs_of_ground h, held_of_ground h, hd, hr]

theorem inhibitBy_of_ground (r : RegionId) (k : SourceId) : t.inhibitBy r k = s.inhibitBy r k := by
  simp only [State.inhibitBy, held_of_ground h, srcCovers_of_ground h, fedByPartner_of_ground h]

theorem latchBy_of_ground (r : RegionId) (k : SourceId) : t.latchBy r k = s.latchBy r k := by
  simp only [State.latchBy, held_of_ground h, srcCovers_of_ground h]

theorem regionHeld_of_ground (r : RegionId) : t.regionHeld r = s.regionHeld r := by
  have hr := region_of_ground h r
  simp only [Region.footing, Prod.mk.injEq] at hr
  have hi : s.inhibitBy r = t.inhibitBy r := funext fun k => (inhibitBy_of_ground h r k).symm
  have hl : s.latchBy r = t.latchBy r := funext fun k => (latchBy_of_ground h r k).symm
  simp only [State.regionHeld, State.showsInhibit, State.inhibited, State.latched, hr, hi, hl, path1Block_of_ground h, pkgSafe_of_ground h,
    activeSrcs_of_ground h]

theorem reactionCovers_of_ground (u : UnitId) : t.reactionCovers u = s.reactionCovers u := by
  simp only [State.reactionCovers, activeSrcs_of_ground h, State.unitOffBy, State.islandOffBy, held_of_ground h]

theorem heldForTest_of_ground (u : UnitId) : t.heldForTest u = s.heldForTest u := by
  simp only [State.heldForTest, driveHolds_of_ground h, reactionCovers_of_ground h, regionOf_of_ground h, regionHeld_of_ground h]

end Ground

/-! ## What a unit is held by -/

/-- No more holds unit u in `t` than in `s`. -/
structure Eases (u : UnitId) (s t : State) : Prop where
  held : t.unitHeld u = true → s.unitHeld u = true
  stops : t.cmdStops u = true → s.cmdStops u = true

variable {u v : UnitId}

theorem or_imp_or {a b c : Bool} (h : a = true → b = true) : (a || c) = true → (b || c) = true := by
  simp only [Bool.or_eq_true]
  exact Or.imp_left h

/-- With the unit's own holds, its island's and the gate block as they were, no more holds it where no more holds its region's command. -/
theorem Eases.of_heldForTest (hx : t.units[u].footing = s.units[u].footing) (hi : t.islands[islandOf u].footing = s.islands[islandOf u].footing)
    (hp : t.saf.path1Block = s.saf.path1Block) (ht : t.heldForTest u = true → s.heldForTest u = true) : Eases u s t := by
  simp only [GateUnit.footing, Prod.mk.injEq] at hx
  simp only [Island.footing, Prod.mk.injEq] at hi
  have hc : t.cmdHeld u = true → s.cmdHeld u = true := by
    simp only [State.cmdHeld, hx, hi, Bool.or_assoc]
    exact or_imp_or ht
  have hl : t.islandHolds u = s.islandHolds u := by
    simp only [State.islandHolds, hx, hi, hp]
  constructor
  · rw [State.unitHeld, State.unitHeld, hl]
    exact or_imp_or hc
  · simp only [State.cmdStops, hi, hp, Bool.or_assoc]
    exact or_imp_or hc

theorem Eases.of_ground (h : t.ground = s.ground) (hx : t.units[u].footing = s.units[u].footing) : Eases u s t :=
  .of_heldForTest hx (island_of_ground h _) (path1Block_of_ground h) fun ht => (heldForTest_of_ground h u).symm.trans ht

/-- What ends the command holds the unit. -/
theorem unitHeld_of_cmdStops (h : s.cmdStops u = true) : s.unitHeld u = true := by
  simp only [State.cmdStops, State.unitHeld, State.islandHolds, Bool.or_eq_true] at h ⊢
  tauto

/-- Unit u is off as far as it is held. -/
def UnitOff (u : UnitId) (s : State) : Prop :=
  (s.unitHeld u = true → s.units[u].gate = false) ∧ (s.cmdStops u = true → s.units[u].cmdOn = false ∧ s.units[u].edges = [])

theorem UnitOff.eased (h : UnitOff u s) (he : Eases u s t) (hd : t.units[u].drive = s.units[u].drive) : UnitOff u t := by
  simp only [GateUnit.drive, Prod.mk.injEq] at hd
  obtain ⟨hg, hc, hl⟩ := hd
  rw [UnitOff, hg, hc, hl]
  exact ⟨fun hu => h.1 (he.held hu), fun hu => h.2 (he.stops hu)⟩

theorem HeldUnitsOff.of_footing (h : HeldUnitsOff s) (ht : t.footing = s.footing) : HeldUnitsOff t := fun u =>
  UnitOff.eased (h u) (.of_ground (congrArg (·.1) ht) (getElem_of_map (congrArg (·.2.1) ht) u)) (getElem_of_map (congrArg (·.2.2) ht) u)

/-! ## What settles a unit -/

theorem modUnit_unit {f : GateUnit → GateUnit} : (s.modUnit u f).units[u] = f s.units[u] := by
  rw [State.modUnit_units, upd_same]

theorem modUnit_unit_other {f : GateUnit → GateUnit} (h : v ≠ u) : (s.modUnit v f).units[u] = s.units[u] := by
  rw [State.modUnit_units, upd_other _ _ h]

/-- A change of one unit that leaves its own holds eases every unit. -/
theorem modUnit_eases {f : GateUnit → GateUnit} (hf : ∀ x, (f x).footing = x.footing) : Eases u s (s.modUnit v f) :=
  .of_ground rfl (getElem_of_map (upd_map hf s.units v) u)

/-- A change of one unit that leaves its own holds and what they end leaves each unit off that was. -/
theorem UnitOff.modUnit {f : GateUnit → GateUnit} (h : UnitOff u s) (hf : ∀ x, (f x).footing = x.footing) (hd : ∀ x, (f x).drive = x.drive) :
    UnitOff u (s.modUnit v f) :=
  h.eased (modUnit_eases hf) (getElem_of_map (upd_map hd s.units v) u)

theorem UnitOff.ite {c : Prop} [Decidable c] (hs : UnitOff u s) (ht : UnitOff u t) : UnitOff u (if c then s else t) := by
  split <;> assumption

theorem UnitOff.of_drive (hg : s.units[u].gate = false) (hc : s.units[u].cmdOn = false) (he : s.units[u].edges = []) : UnitOff u s :=
  ⟨fun _ => hg, fun _ => ⟨hc, he⟩⟩

/-- A unit with nothing changed that its holds go by is off as far as it was. -/
theorem UnitOff.of_ground (h : UnitOff u s) (hg : t.ground = s.ground) (hx : t.units[u] = s.units[u]) : UnitOff u t :=
  h.eased (.of_ground hg (congrArg GateUnit.footing hx)) (congrArg GateUnit.drive hx)

/-- Settling a unit leaves it off as far as it is held. -/
theorem settleUnit_off (u : UnitId) (s : State) : UnitOff u (settleUnit u s) := by
  unfold settleUnit
  extract_lets clears a b
  have ha : a.unitHeld u = true → a.units[u].gate = false := by
    by_cases hu : s.unitHeld u = true
    · have hq : a = s.modUnit u fun x => { x with gate := false } := if_neg (by simp [hu])
      rw [hq, modUnit_unit]
      exact fun _ => rfl
    · have hq : a = s := if_pos (by simpa using hu)
      rw [hq]
      exact fun h => absurd h hu
  have hb : UnitOff u b := by
    by_cases hc : a.cmdStops u = true
    · have hq : b = (dropCommand u a).modUnit u fun y => { y with waitWrap := y.waitWrap || clears } := if_neg (by simp [hc])
      rw [hq]
      refine .of_drive ?_ ?_ ?_ <;> rw [modUnit_unit, dropCommand, modUnit_unit]
      exact ha (unitHeld_of_cmdStops hc)
    · have hq : b = a := if_pos (by simpa using hc)
      rw [hq]
      exact ⟨ha, fun h => absurd h hc⟩
  exact .ite (hb.modUnit (fun _ => rfl) fun _ => rfl) hb

/-- A change of one unit made or not made, after what left the ground and another unit, leaves them. -/
theorem ite_other {c : Prop} [Decidable c] {a b : State} (ha : a.ground = s.ground ∧ a.units[u] = s.units[u])
    (hb : b.ground = s.ground ∧ b.units[u] = s.units[u]) :
    (if c then a else b).ground = s.ground ∧ (if c then a else b).units[u] = s.units[u] := by
  split <;> assumption

theorem modUnit_other {f : GateUnit → GateUnit} (hv : v ≠ u) (h : t.ground = s.ground ∧ t.units[u] = s.units[u]) :
    (t.modUnit v f).ground = s.ground ∧ (t.modUnit v f).units[u] = s.units[u] :=
  ⟨h.1, (modUnit_unit_other hv).trans h.2⟩

/-- Settling a unit changes neither another one nor what its holds go by. -/
theorem settleUnit_other (hv : v ≠ u) (s : State) : (settleUnit v s).ground = s.ground ∧ (settleUnit v s).units[u] = s.units[u] := by
  unfold settleUnit
  extract_lets clears a b
  have ha : a.ground = s.ground ∧ a.units[u] = s.units[u] := ite_other ⟨rfl, rfl⟩ (modUnit_other hv ⟨rfl, rfl⟩)
  have hb : b.ground = s.ground ∧ b.units[u] = s.units[u] := ite_other ha (modUnit_other hv (modUnit_other hv ha))
  exact ite_other (modUnit_other hv hb) hb

theorem settleUnit_keepsOff (v : UnitId) (h : UnitOff u s) : UnitOff u (settleUnit v s) := by
  by_cases hv : v = u
  · exact hv ▸ settleUnit_off v s
  · exact h.of_ground (settleUnit_other hv s).1 (settleUnit_other hv s).2

theorem settleUnits_off {l : List UnitId} (h : UnitOff u s ∨ u ∈ l) : UnitOff u (forList settleUnit l s) := by
  induction l generalizing s with
  | nil => exact h.resolve_right List.not_mem_nil
  | cons v l ih =>
    refine ih ?_
    rcases h with h | h
    · exact .inl (settleUnit_keepsOff v h)
    · rcases List.mem_cons.1 h with rfl | h
      · exact .inl (settleUnit_off u s)
      · exact .inr h

/-! ## What settles the gates -/

/-- A gate turned on only where its unit is not held leaves every unit off that was. -/
theorem setGate_keepsOff {b : Bool} (h : UnitOff u s) (hb : s.unitHeld v = true → b = false) : UnitOff u (setGate v b s) := by
  have he (w : UnitId) : Eases w s (setGate v b s) := modUnit_eases fun _ => rfl
  by_cases hv : v = u
  · subst hv
    rw [UnitOff, setGate, modUnit_unit]
    exact ⟨fun hu => hb ((he v).held hu), fun hu => h.2 ((he v).stops hu)⟩
  · exact h.eased (he u) (congrArg GateUnit.drive (modUnit_unit_other hv))

theorem modIsland_keepsOff {i : IslandId} {f : Island → Island} (hf : ∀ x, (f x).footing = x.footing) (h : UnitOff u s) :
    UnitOff u (s.modIsland i f) := by
  refine h.of_ground ?_ rfl
  have hi : (upd s.islands i f).map Island.footing = s.islands.map Island.footing := upd_map hf _ _
  simp only [State.ground, State.modIsland, hi]

theorem gateIsland_keepsOff (i : IslandId) (h : UnitOff u s) : UnitOff u (gateIsland i s) := by
  unfold gateIsland
  extract_lets hi lo both t
  have ht : UnitOff u t := by
    refine setGate_keepsOff (setGate_keepsOff h fun hu => ?_) fun hu => ?_
    · simp [hu]
    · have hs : s.unitHeld lo = true := (modUnit_eases fun _ => rfl : Eases lo s (setGate hi _ s)).held hu
      simp [hs]
  exact .ite ht (modIsland_keepsOff (fun _ => rfl) ht)

theorem settleGates_keepsOff (i : IslandId) (h : UnitOff u s) : UnitOff u (settleGates i s) := .ite (gateIsland_keepsOff i h) h

theorem forAll_keepsOff {n : Nat} {f : Fin n → State → State} (hf : ∀ i t, UnitOff u t → UnitOff u (f i t)) (h : UnitOff u s) :
    UnitOff u (forAll f s) := by
  suffices hl : ∀ l : List (Fin n), UnitOff u (forList f l s) from hl _
  intro l
  induction l generalizing s with
  | nil => exact h
  | cons i l ih => exact ih (hf i s h)

theorem countSwitched_footing (s0 s : State) : (countSwitched s0 s).footing = s.footing :=
  forAll_keeps State.footing (by intros; split <;> rfl) s

/-- What settles a change holds off every unit that is held. -/
theorem HeldUnitsOff.settle (s0 s : State) : HeldUnitsOff (settle s0 s) := by
  unfold Machine.settle
  extract_lets a b c d
  have hd : HeldUnitsOff (forAll settleGates d) := fun u =>
    forAll_keepsOff (fun i _ => settleGates_keepsOff i) (settleUnits_off (.inr (List.mem_finRange u)))
  exact HeldUnitsOff.of_footing hd (countSwitched_footing s0 _)

end Sys2Proof.Machine
end

section
-- One proof after another, as above: elaborated side by side they wait for the same lemmas, each with a thread and its stack.
set_option Elab.async false

/-!
SUPPORT. What leaves the footing of holds as it is: the parts of the state that hold other things, events that enter no fault state, and the
operations of the rows that end without settling.
-/
namespace Sys2Proof.Machine

open Sys2Proof

variable {s t : State}

/-! ## Parts of the state -/

theorem ite_footing {c : Prop} [Decidable c] {a b : State} (ha : a.footing = s.footing) (hb : b.footing = s.footing) :
    (if c then a else b).footing = s.footing := by
  split <;> assumption

theorem forList_footing {α : Type} {f : α → State → State} (h : ∀ x t, (f x t).footing = t.footing) (l : List α) (s : State) :
    (forList f l s).footing = s.footing := forList_keeps State.footing h l s

theorem modMr_footing (d : Die) (f : MrDir → MrDir) (s : State) : (s.modMr d f).footing = s.footing := by
  cases d <;> rfl

theorem modRings_footing (f : Rings → Rings) (s : State) : (s.modRings f).footing = s.footing := rfl

theorem modSess_footing (k : SessId) (f : Session → Session) (s : State) : (s.modSess k f).footing = s.footing := rfl

theorem modEvents_footing {f : Events → Events} (hf : ∀ e, (f e).src = e.src) : (s.modEvents f).footing = s.footing := by
  simp only [State.footing, State.ground, State.modEvents, hf]

theorem modSrc_footing {k : SourceId} {f : Source → Source} (hf : ∀ x, (f x).footing = x.footing) : (s.modSrc k f).footing = s.footing := by
  have hk : (upd s.events.src k f).map Source.footing = s.events.src.map Source.footing := upd_map hf _ _
  simp only [State.footing, State.ground, State.modSrc, State.modEvents, hk]

theorem modRegion_footing {r : RegionId} {f : Region → Region} (hf : ∀ g, (f g).footing = g.footing) : (s.modRegion r f).footing = s.footing := by
  have hr : (upd s.regions r f).map Region.footing = s.regions.map Region.footing := upd_map hf _ _
  simp only [State.footing, State.ground, State.modRegion, hr]

theorem modPairRegion_footing {r : RegionId} {f : PairRegion → PairRegion} (hf : ∀ p, (f p).partnerActive = p.partnerActive) :
    (s.modPairRegion r f).footing = s.footing := by
  have hr : (upd s.pair.regions r f).map PairRegion.partnerActive = s.pair.regions.map PairRegion.partnerActive := upd_map hf _ _
  simp only [State.footing, State.ground, State.modPairRegion, State.modPair, hr]

/-! ## Events that hold nothing -/

theorem trgTake_footing (v : TrigId) (s : State) : (trgTake v s).footing = s.footing := ite_footing rfl rfl

theorem trgStep_footing (v : TrigId) (b : Bool) (s : State) : (trgStep v b s).2.footing = s.footing := by
  unfold trgStep
  dsimp only
  split
  case h_4 => split_ifs <;> rfl
  all_goals rfl

theorem combine_footing (v w : TrigId) (n : Nat) (s : State) : (combine v w n s).2.footing = s.footing := by
  unfold combine
  dsimp only
  split <;> rfl

theorem fire_footing (fuel : Nat) : ∀ (v : TrigId) (n : Nat) (s : State), (fire fuel v n s).footing = s.footing := by
  induction fuel with
  | zero => exact fun _ _ _ => rfl
  | succ fuel ih =>
    intro v n s
    have hstep (w : TrigId) (m : Nat) (t : State) :
        (if (trgStep w true t).1 then fire fuel w m (trgStep w true t).2 else (trgStep w true t).2).footing = t.footing :=
      ite_footing ((ih _ _ _).trans (trgStep_footing _ _ _)) (trgStep_footing _ _ _)
    refine (forList_footing (fun w t => ite_footing ?_ rfl) _ _).trans (rfl : (fireOne v n s).footing = s.footing)
    exact (forList_footing (hstep w) _ _).trans ((combine_footing _ _ _ _).trans (trgTake_footing w t))

theorem trgEvent_footing (k : SourceId) (v : Sev) (s : State) : (trgEvent k v s).footing = s.footing := by
  refine forList_footing (fun w t => ite_footing ?_ rfl) _ s
  have hw : (trgStep w true (trgTake w t)).2.footing = t.footing := (trgStep_footing _ _ _).trans (trgTake_footing w t)
  exact ite_footing ((fire_footing _ _ _ _).trans hw) hw

theorem pushEvent_footing (e : Event) (s : State) : (pushEvent e s).footing = s.footing := by
  unfold pushEvent
  extract_lets e t
  have ht : t.footing = s.footing := (ite_footing (trgEvent_footing _ _ _) rfl).trans (modSrc_footing fun _ => rfl)
  refine (modEvents_footing fun v => ?_).trans ht
  split_ifs <;> rfl

/-- An event of severity INFO or WARN, and one of a C-die source, which is collected first, enter no fault state (R438, R440). -/
theorem raise_footing {k : SourceId} {d : EvDef} (h : d.sev.code < 2 ∨ srcDie k = .c) (a b : Word32) (s : State) :
    (raise k d a b s).footing = s.footing := by
  have hp : (pushEvent (mkEvent k d a b none false s) s).footing = s.footing := pushEvent_footing _ s
  refine Eq.trans ?_ hp
  rw [raise, raiseFull]
  split
  case isTrue hc =>
    have hd : d.sev.code < 2 := h.resolve_right fun he => by simp [he] at hc
    rw [applyEvent, if_pos (.inl hd)]
  case isFalse => rfl

/-! ## Memory and journal -/

theorem readLine_footing (n : Nat) (e : SymErr) (r : BitVec 8) (y : BitVec 4) (s : State) : (readLine n e r y s).footing = s.footing :=
  ite_footing (raise_footing (.inr rfl) _ _ _) (raise_footing (.inr rfl) _ _ _)

theorem write_footing (r : BitVec 8) (a : Nat) (l : List Byte) (s : State) : (s.write r a l).footing = s.footing :=
  have h (x : List (Nat × SymErr)) : ((forList (fun e t => readLine e.1 e.2 r 2 t) x s).store a l).footing = s.footing :=
    forList_footing (fun _ _ => readLine_footing _ _ _ _ _) x s
  ite_footing (h _) (h _)

theorem storeCtxWords_footing (c : Nat) (w : AsnWords) (s : State) : (storeCtxWords c w s).footing = s.footing :=
  (write_footing _ _ _ _).trans (write_footing _ _ _ s)

theorem modEntry_footing (k : Slot) (f : JEntry → JEntry) (s : State) : (modEntry k f s).footing = s.footing := ite_footing rfl rfl

theorem recordTarget_footing (e : JEntry) (s : State) : (recordTarget e s).footing = s.footing := by
  unfold recordTarget
  dsimp only
  split
  · exact ite_footing (storeCtxWords_footing _ _ s) rfl
  · exact forList_footing (by intros; rfl) _ s
  · split <;> rfl
  · split <;> rfl
  · split <;> rfl
  · rfl
  · exact forList_footing (fun _ _ => modPairRegion_footing (by intro; rfl)) _ s
  · rfl
  · rfl

theorem finish_footing (k : Slot) (st : Word16) (d : Word32) (r : Word64) (b : Bool) (s : State) : (finish k st d r b s).footing = s.footing := by
  unfold finish
  split
  · rfl
  · extract_lets e q re record u v
    have hrec (t : State) : (record t).footing = t.footing := ite_footing (write_footing _ _ _ t) rfl
    have hu : u.footing = s.footing := ite_footing ((recordTarget_footing _ _).trans (hrec _)) rfl
    have hv : v.footing = s.footing := (modEntry_footing k _ u).trans hu
    exact ite_footing hv hv

theorem applyHeld_footing (h : ParamHeld) (s : State) : (applyHeld h s).footing = s.footing := by
  have hw (t : State) : (applyWrite h.ctx h.off h.data t).footing = t.footing := write_footing _ _ _ _
  unfold applyHeld
  split
  · exact (finish_footing _ _ _ _ _ _).trans (hw _)
  · exact hw _

theorem applyOrphan_footing (k : Slot) (s : State) : (applyOrphan k s).footing = s.footing := by
  unfold applyOrphan
  split
  · split
    · exact ite_footing rfl (applyHeld_footing _ s)
    · exact applyHeld_footing _ s
  · rfl

theorem dropWork_footing (k : Slot) (s : State) : (dropWork k s).footing = s.footing := rfl

theorem writeCq_footing (m : CqId) (i : Word32) (l : List Byte) (b : Bool) (s : State) : (writeCq m i l b s).footing = s.footing := rfl

theorem postEntry_footing (e : JEntry) (s : State) : (postEntry e s).footing = s.footing := by
  unfold postEntry
  extract_lets i l t u
  have ht : t.footing = s.footing := ite_footing rfl rfl
  have hu : u.footing = s.footing := (dropWork_footing _ _).trans ((writeCq_footing _ _ _ _ t).trans ht)
  exact (modRings_footing _ _).trans ((modEntry_footing _ _ u).trans hu)

/-! ## Host, links, ports and the pair -/

theorem writeMsix_footing (b : Nat) (w : Word32) (s : State) : (writeMsix b w s).footing = s.footing := ite_footing rfl (ite_footing rfl rfl)

theorem readQdata_footing (b : BankId) (s : State) : (readQdata b s).footing = s.footing := by
  unfold readQdata
  split <;> rfl

theorem readTxq_footing (s : State) : (readTxq s).footing = s.footing := by
  unfold readTxq
  split <;> rfl

theorem losePayload_footing (y : Payload) (s : State) : (losePayload y s).footing = s.footing := by
  match y with
  | .samples l => exact forList_footing (fun _ t => forAll_keeps State.footing (fun _ _ => modSess_footing _ _ _) t) l s
  | .chain f => exact forList_footing (fun _ t => forAll_keeps State.footing (fun _ _ => modSess_footing _ _ _) t) _ s
  | .duty _ => rfl
  | .notice _ => rfl

theorem mrSend_footing (d : Die) (vc : Fin 4) (y : Payload) (s : State) : (mrSend d vc y s).footing = s.footing :=
  ite_footing (modMr_footing d _ s) (losePayload_footing y s)

theorem sendNext_footing (d : Die) (s : State) : (sendNext d s).footing = s.footing := by
  unfold sendNext
  extract_lets t m
  have ht : t.footing = s.footing := modMr_footing _ _ s
  have hr : ({ t with replayCnt := satInc t.replayCnt } : State).footing = t.footing := rfl
  exact ite_footing ((modMr_footing d _ _).trans (hr.trans ht)) (ite_footing ht ((modMr_footing d _ t).trans ht))

theorem flushPacked_footing (b : BankId) (s : State) : (flushPacked b s).footing = s.footing := ite_footing rfl (mrSend_footing _ _ _ s)

theorem chainFlush_footing (n : ChainId) (s : State) : (chainFlush n s).footing = s.footing := ite_footing rfl (mrSend_footing _ _ _ s)

theorem trgWaiting_footing (s : State) : (trgWaiting s).footing = s.footing := by
  refine forList_footing (fun n t => ?_) _ _
  exact (mrSend_footing _ _ _ _).trans (ite_footing (raise_footing (.inl (by decide)) _ _ t) rfl)

theorem judgeNotice_footing (k : SessId) (n : Notice) (s : State) : (judgeNotice k n s).footing = s.footing := by
  unfold judgeNotice
  dsimp only
  split <;> rfl

theorem queueFrame_footing (l : List PortId) (b : Bool) (f : TxFrame) (s : State) : (queueFrame l b f s).footing = s.footing :=
  (forList_footing (by intros; rfl) l _).trans (ite_footing rfl rfl)

theorem pairSend_footing (y : Nat) (r : RegionId) (n : Word32) (l : List Byte) (s : State) : (pairSend y r n l s).footing = s.footing :=
  ite_footing rfl (forAll_keeps State.footing (by intros; rfl) _)

theorem sendCheckpoint_footing (r : RegionId) (s : State) : (sendCheckpoint r s).footing = s.footing := by
  unfold sendCheckpoint
  extract_lets e owner n l blob head chunk t u
  have ht : t.footing = s.footing := forList_footing (fun c t => (pairSend_footing _ _ _ _ _).trans (pairSend_footing _ _ _ _ t)) l _
  have hu : u.footing = s.footing := (pairSend_footing _ _ _ _ t).trans ht
  exact (modPairRegion_footing (by intro; rfl)).trans hu

theorem inputBack_footing (mv : Nat) (s : State) : (inputBack mv s).footing = s.footing :=
  ite_footing (raise_footing (.inl (by decide)) _ _ _) rfl

end Sys2Proof.Machine
end

section
-- One proof after another, as above: elaborated side by side they wait for the same lemmas, each with a thread and its stack.
set_option Elab.async false

/-!
SUPPORT. Every step keeps held units off (R199, R210, R213, R220, R250): a row settles what it changes, or leaves the footing of holds, or eases them
as it gives a region its partner's duties (R31).
-/
namespace Sys2Proof.Machine

open Sys2Proof

variable {s t : State}

/-- What is off as far as it is held in `s` is so in `t`. -/
def KeepsOff (s t : State) : Prop := HeldUnitsOff s → HeldUnitsOff t

/-- Where an outcome is a next state, held units stay off in it. -/
def NextOff (s : State) (o : Host.Outcome State Fault Refusal) : Prop := ∀ t, o = .next t → KeepsOff s t

theorem KeepsOff.next (h : KeepsOff s t) : NextOff s (.next t) := by
  rintro _ ⟨⟩
  exact h

@[simp] theorem KeepsOff.refl : KeepsOff s s := fun h => h

@[simp] theorem KeepsOff.settle {s0 : State} : KeepsOff s (Machine.settle s0 t) := fun _ => HeldUnitsOff.settle s0 t

theorem KeepsOff.of_footing (h : t.footing = s.footing) : KeepsOff s t := fun hs => HeldUnitsOff.of_footing hs h

theorem KeepsOff.trans {u : State} (h : KeepsOff s t) (h' : KeepsOff t u) : KeepsOff s u := fun hs => h' (h hs)

theorem KeepsOff.ite {c : Prop} [Decidable c] {a b : State} (ha : KeepsOff s a) (hb : KeepsOff s b) : KeepsOff s (if c then a else b) := by
  split <;> assumption

@[simp] theorem nextOff_next : NextOff s (.next t) ↔ KeepsOff s t := ⟨fun h => h t rfl, KeepsOff.next⟩

@[simp] theorem keepsOff_ite {c : Prop} [Decidable c] {a b : State} :
    KeepsOff s (if c then a else b) ↔ (c → KeepsOff s a) ∧ (¬c → KeepsOff s b) := by
  split <;> simp [*]

theorem NextOff.ite {c : Prop} [Decidable c] {a b : Host.Outcome State Fault Refusal} (ha : NextOff s a) (hb : NextOff s b) :
    NextOff s (if c then a else b) := by
  split <;> assumption

/-! ## The forms of a row -/

theorem nextOff_settle {s0 : State} : NextOff s (.next (settle s0 t)) := KeepsOff.settle.next

theorem nextOff_settleIf {c : Prop} [Decidable c] {s0 : State} : NextOff s (.next (if c then settle s0 t else s)) := (KeepsOff.settle.ite .refl).next

theorem nextOff_settleUnless {c : Prop} [Decidable c] {s0 : State} : NextOff s (.next (if c then s else settle s0 t)) :=
  (KeepsOff.refl.ite .settle).next

theorem nextOff_spareIf {c : Prop} [Decidable c] (ht : t.footing = s.footing) : NextOff s (.next (if c then t else s)) :=
  ((KeepsOff.of_footing ht).ite .refl).next

theorem immediate_keepsOff {k : Slot} {opcode : Nat} {f : State → State} : NextOff s (immediate k opcode f s) := nextOff_settleIf

theorem ctxRow_keepsOff {k : Slot} {opcode : Nat} {f : State → State} : NextOff s (ctxRow k opcode f s) := by
  unfold ctxRow
  exact .ite immediate_keepsOff KeepsOff.refl.next

theorem pairRow_keepsOff {y : Nat} {f : RegionId → Word32 → List Byte → State → State} : NextOff s (pairRow y f s) := by
  unfold pairRow
  split <;> simp

theorem afterRun_keepsOff {c : CtxId} {y : Nat} {may : Word32 → Bool} {f : Word32 → State → State} : NextOff s (afterRun c y may f s) := by
  unfold afterRun
  split <;> simp

theorem hostAccess_keepsOff {d : Die} {off : Nat} {v : Word32} {b : Bool} {op : State → State} (hop : KeepsOff s (op s)) :
    KeepsOff s (hostAccess d off v b op s) :=
  .ite .refl (.ite (.ite (.of_footing (by rfl)) .refl) (.ite hop (.of_footing (by rfl))))

theorem hostRead_keepsOff {d : Die} {off : Nat} {v : Word32} {b : Bool} {op : State → State} (hop : (op s).footing = s.footing) :
    NextOff s (.next (hostAccess d off v b op s)) :=
  (hostAccess_keepsOff (.of_footing hop)).next

theorem hostWord_keepsOff {d : Die} {off : Nat} {v : Word32} {op : State → State} : KeepsOff s (hostWord d off v op s) :=
  hostAccess_keepsOff .settle

theorem hostWord_nextOff {d : Die} {off : Nat} {v : Word32} {op : State → State} : NextOff s (.next (hostWord d off v op s)) :=
  hostWord_keepsOff.next

theorem writeReg_keepsOff {off : Nat} {v : Word32} : KeepsOff s (writeReg off v s) :=
  .ite (.ite (.of_footing (writeMsix_footing _ _ s)) .refl) hostWord_keepsOff

theorem hostStore_keepsOff {off : Nat} {v : Word64} {n : Nat} : KeepsOff s (hostStore off v n s) :=
  .ite (writeReg_keepsOff.trans writeReg_keepsOff) (.ite writeReg_keepsOff .refl)

/-! ## The rows that settle whatever they change -/

theorem execDebugAccessDone_keepsOff : NextOff s (execDebugAccessDone s) := by
  refine KeepsOff.next ?_
  split <;> simp

theorem execHostDmaReadComplete_keepsOff {n : Nat} {st : BitVec 3} {l : List Byte} : NextOff s (execHostDmaReadComplete n st l s) := by
  refine KeepsOff.next ?_
  split <;> simp

theorem execHostDmaError_keepsOff {n : Nat} : NextOff s (execHostDmaError n s) := by
  refine KeepsOff.next ?_
  split <;> simp

theorem execRegionBoundary_keepsOff {r : RegionId} : NextOff s (execRegionBoundary r s) := by
  refine KeepsOff.next ?_
  split <;> simp

theorem execRegionTrigger_keepsOff {r : RegionId} : NextOff s (execRegionTrigger r s) := by
  refine KeepsOff.next ?_
  split <;> simp

theorem execUnitEdge_keepsOff {u : UnitId} : NextOff s (execUnitEdge u s) := by
  refine KeepsOff.next ?_
  split <;> simp

theorem execDutyFrameReceive_keepsOff {r : RegionId} : NextOff s (execDutyFrameReceive r s) := by
  refine KeepsOff.next ?_
  split <;> simp

theorem execSoftTurnOffEnd_keepsOff {u : UnitId} : NextOff s (execSoftTurnOffEnd u s) := by
  refine KeepsOff.next ?_
  split <;> simp

theorem execComparatorTestDone_keepsOff {i : IslandId} {b : Bool} : NextOff s (execComparatorTestDone i b s) := by
  refine KeepsOff.next ?_
  split <;> simp

theorem execIslandStartFailed_keepsOff {i : IslandId} {n : Option (Fin 4)} : NextOff s (execIslandStartFailed i n s) := by
  refine KeepsOff.next ?_
  split <;> simp

theorem execIslandBiasRestore_keepsOff {i : IslandId} : NextOff s (execIslandBiasRestore i s) := by
  refine KeepsOff.next ?_
  split <;> simp

theorem execInjectedConversionComplete_keepsOff {b : BankId} : NextOff s (execInjectedConversionComplete b s) := by
  refine KeepsOff.next ?_
  split <;> simp

theorem execArbiterWatchdog_keepsOff : NextOff s (execArbiterWatchdog s) := by
  refine KeepsOff.next ?_
  split <;> simp

theorem execWeirAcquireTimedOut_keepsOff {k : Slot} : NextOff s (execWeirAcquireTimedOut k s) := by
  refine KeepsOff.next ?_
  split <;> simp

theorem execTxTimestamp_keepsOff {p : PortId} : NextOff s (execTxTimestamp p s) := by
  refine KeepsOff.next ?_
  split <;> simp

theorem execResynchronisationFailed_keepsOff {r : RegionId} : NextOff s (execResynchronisationFailed r s) := by
  refine KeepsOff.next ?_
  split <;> simp

theorem execChannel2Rejoined_keepsOff : NextOff s (execChannel2Rejoined s) := by
  refine KeepsOff.next ?_
  split <;> simp

theorem execDchRetry_keepsOff {b : Bool} : NextOff s (execDchRetry b s) := by
  refine KeepsOff.next ?_
  split <;> simp

theorem execPdIsoRestart_keepsOff : NextOff s (execPdIsoRestart s) := by
  refine KeepsOff.next ?_
  split <;> simp

theorem execPllLockLost_keepsOff {y : Pll} : NextOff s (execPllLockLost y s) := by
  refine KeepsOff.next ?_
  split <;> simp

theorem execAutoCDieReset_keepsOff : NextOff s (execAutoCDieReset s) := by
  refine KeepsOff.next ?_
  split <;> simp

theorem execIslandWrap_keepsOff {i : IslandId} : NextOff s (execIslandWrap i s) := by
  unfold execIslandWrap
  split
  · simp
  · split <;> simp

theorem execPatrolScrub_keepsOff {b : Bool} {n : Nat} : NextOff s (execPatrolScrub b n s) := by
  refine (KeepsOff.ite ?_ (.ite ?_ .refl)).next
  all_goals split <;> simp

theorem execDescriptorAccept_keepsOff {q : SqId} : NextOff s (execDescriptorAccept q s) := by
  refine KeepsOff.next ?_
  split
  · exact .refl
  · refine .ite .refl (.ite (.ite .refl .settle) (.ite .refl ?_))
    split <;> simp

theorem execCaptureDone_keepsOff {k : SessId} : NextOff s (execCaptureDone k s) :=
  (KeepsOff.refl.ite (.ite .settle (.ite .settle .refl))).next

theorem execContactorFeedbackFault_keepsOff {c : SafCh} {o : SoId} : NextOff s (execContactorFeedbackFault c o s) :=
  (KeepsOff.ite (.ite .settle (.ite .settle .refl)) .refl).next

theorem execCtxRead_keepsOff {k : Slot} : NextOff s (execCtxRead k s) := by
  unfold execCtxRead
  exact .ite ctxRow_keepsOff KeepsOff.refl.next

theorem execCaptureCopy_keepsOff {k : Slot} : NextOff s (execCaptureCopy k s) := by
  unfold execCaptureCopy
  exact .ite immediate_keepsOff KeepsOff.refl.next

theorem execRampComplete_keepsOff {c : CtxId} : NextOff s (execRampComplete c s) := by
  unfold execRampComplete
  split
  · exact KeepsOff.refl.next
  · exact afterRun_keepsOff

theorem execEnvExitElapsed_keepsOff {c : CtxId} : NextOff s (execEnvExitElapsed c s) := by
  unfold execEnvExitElapsed
  exact afterRun_keepsOff

theorem execGapResumeElapsed_keepsOff {c : CtxId} : NextOff s (execGapResumeElapsed c s) := by
  unfold execGapResumeElapsed
  exact afterRun_keepsOff

theorem execAnchorFreezeEnd_keepsOff {c : CtxId} : NextOff s (execAnchorFreezeEnd c s) := by
  unfold execAnchorFreezeEnd
  exact afterRun_keepsOff

theorem execFoldBackStart_keepsOff {c : CtxId} : NextOff s (execFoldBackStart c s) := by
  unfold execFoldBackStart
  exact afterRun_keepsOff

theorem execSweepStart_keepsOff {c : CtxId} : NextOff s (execSweepStart c s) := by
  unfold execSweepStart
  exact afterRun_keepsOff

theorem execSweepPointEnd_keepsOff {c : CtxId} : NextOff s (execSweepPointEnd c s) := by
  unfold execSweepPointEnd
  exact afterRun_keepsOff

theorem execHelloReceive_keepsOff : NextOff s (execHelloReceive s) := by
  unfold execHelloReceive
  exact pairRow_keepsOff

theorem execFaultDeclarationReceive_keepsOff : NextOff s (execFaultDeclarationReceive s) := by
  unfold execFaultDeclarationReceive
  exact pairRow_keepsOff

theorem execParameterFrameReceive_keepsOff : NextOff s (execParameterFrameReceive s) := by
  unfold execParameterFrameReceive
  exact pairRow_keepsOff

theorem execCheckpointChunkReceive_keepsOff : NextOff s (execCheckpointChunkReceive s) := by
  unfold execCheckpointChunkReceive
  exact pairRow_keepsOff

theorem execCheckpointCommitReceive_keepsOff : NextOff s (execCheckpointCommitReceive s) := by
  unfold execCheckpointCommitReceive
  exact pairRow_keepsOff

/-! ## The rows that leave something unsettled -/

theorem execCtxWrite_keepsOff {k : Slot} : NextOff s (execCtxWrite k s) := by
  unfold execCtxWrite
  exact .ite (KeepsOff.of_footing (applyOrphan_footing k s)).next ctxRow_keepsOff

theorem execArbCommitApply_keepsOff : NextOff s (execArbCommitApply s) :=
  (KeepsOff.refl.ite (.ite (.of_footing (by rfl)) .settle)).next

theorem execInjectionApply_keepsOff : NextOff s (execInjectionApply s) := by
  refine (KeepsOff.refl.ite ?_).next
  split
  · exact .of_footing (modMr_footing _ _ _)
  · exact .refl

theorem execPDieAccessTimeout_keepsOff : NextOff s (execPDieAccessTimeout s) := by
  refine KeepsOff.next ?_
  split
  · exact .refl
  · exact .ite (.ite (.of_footing (by rfl)) (.of_footing (by rfl))) .refl

theorem execDoorbellPoll_keepsOff : NextOff s (execDoorbellPoll s) := by
  refine nextOff_spareIf ?_
  refine (forAll_keeps State.footing (by intros; exact ite_footing rfl rfl) _).trans ?_
  exact (forAll_keeps State.footing (by intros; exact ite_footing rfl rfl) _).trans (modRings_footing _ s)

theorem execJournalAcknowledge_keepsOff {k : Slot} : NextOff s (execJournalAcknowledge k s) := by
  refine KeepsOff.next ?_
  split
  · exact .ite (.of_footing (by rfl)) .refl
  · exact .refl

theorem execTimedActionDue_keepsOff {k : Slot} : NextOff s (execTimedActionDue k s) := by
  refine KeepsOff.next ?_
  split
  · exact .refl
  · exact .ite (.of_footing (ite_footing (by rfl) (by rfl))) (.ite .settle .refl)

theorem execCompletionPost_keepsOff {k : Slot} : NextOff s (execCompletionPost k s) := by
  refine (KeepsOff.ite ?_ .refl).next
  split
  · exact .of_footing (postEntry_footing _ s)
  · exact .refl

theorem execMsixSignal_keepsOff {m : CqId} : NextOff s (execMsixSignal m s) := nextOff_spareIf (ite_footing (by rfl) (by rfl))

theorem execHoldTimeEnd_keepsOff {r : RegionId} : NextOff s (execHoldTimeEnd r s) := by
  refine KeepsOff.next ?_
  split
  · exact .refl
  · exact .ite .refl (.ite (.of_footing (modRegion_footing (by intro; rfl))) (.ite .settle .settle))

theorem execContextRelease_keepsOff {r : RegionId} : NextOff s (execContextRelease r s) := by
  refine (KeepsOff.refl.ite (.ite (.of_footing (by rfl)) ?_)).next
  split <;> simp

theorem execDutyFrameSend_keepsOff {r : RegionId} : NextOff s (execDutyFrameSend r s) := by
  refine KeepsOff.next ?_
  split
  · exact .refl
  · exact .ite (.of_footing (mrSend_footing _ _ _ s)) .refl

theorem execDesaturationArmed_keepsOff {u : UnitId} : NextOff s (execDesaturationArmed u s) := by
  refine KeepsOff.next ?_
  split
  · exact .refl
  · exact .ite (fun h v => UnitOff.modUnit (h v) (fun _ => rfl) fun _ => rfl) .refl

theorem execInjectedTrigger_keepsOff {b : BankId} : NextOff s (execInjectedTrigger b s) := by
  refine KeepsOff.next ?_
  split
  · exact .refl
  · exact .ite (.of_footing (by rfl)) (.ite .settle (.of_footing (by rfl)))

theorem execCalibrationMeasurementEnd_keepsOff {b : BankId} {c : Bool} {w : Word32} : NextOff s (execCalibrationMeasurementEnd b c w s) :=
  (KeepsOff.ite (.ite .settle (.ite (.of_footing (by rfl)) (.of_footing (by rfl)))) .refl).next

theorem execCaptureTrigger_keepsOff {k : SessId} : NextOff s (execCaptureTrigger k s) := by
  refine KeepsOff.next ?_
  split
  · exact .ite (.of_footing (judgeNotice_footing k _ s)) .refl
  · exact .refl

theorem execArbiterGrant_keepsOff {k : Fin 16} {b : Bool} {q : BitVec 5} : NextOff s (execArbiterGrant k b q s) :=
  (KeepsOff.refl.ite (.of_footing (by rfl))).next

theorem execSampleFrameReceive_keepsOff : NextOff s (execSampleFrameReceive s) := by
  refine KeepsOff.next ?_
  split
  · exact .refl
  · refine .ite .refl ?_
    split
    · exact .of_footing (by rfl)
    · exact .ite .refl (.ite (.of_footing (modPairRegion_footing (by intro; rfl))) .settle)

theorem execEventCollect_keepsOff : NextOff s (execEventCollect s) := by
  have ht : KeepsOff s (if s.power.pRun then trgWaiting s else s) := .ite (.of_footing (trgWaiting_footing s)) .refl
  refine KeepsOff.next ?_
  split
  · exact ht
  · exact .ite .settle ht

theorem execInputLoss_keepsOff {mv mj : Nat} : NextOff s (execInputLoss mv mj s) := (KeepsOff.refl.ite (.of_footing (by rfl))).next

theorem execInputReturn_keepsOff {mv mj : Nat} : NextOff s (execInputReturn mv mj s) :=
  (KeepsOff.refl.ite (.ite .settle (.ite .settle (.of_footing ((inputBack_footing mv _).trans (by rfl)))))).next

theorem execAoClockMeasure_keepsOff {e : BitVec 16} : NextOff s (execAoClockMeasure e s) :=
  (KeepsOff.refl.ite (.ite .settle (.of_footing (by rfl)))).next

/-- A region that its partner begins to feed is held by no reaction that did not hold it before (R31). -/
theorem inhibitBy_of_fed {q r : RegionId} {k : SourceId} {f : PairRegion → PairRegion} (hf : ∀ p, (f p).partnerActive = true)
    (h : (s.modPairRegion q f).inhibitBy r k = true) : s.inhibitBy r k = true := by
  have hk : (s.modPairRegion q f).held k = s.held k := rfl
  have hc : (s.modPairRegion q f).srcCovers k r = s.srcCovers k r := rfl
  have hp : s.fedByPartner r = true → (s.modPairRegion q f).fedByPartner r = true := by
    intro hr
    show (upd s.pair.regions q f)[r].partnerActive = true
    by_cases hq : q = r
    · rw [hq, upd_same]
      exact hf _
    · rwa [upd_other _ _ hq]
  rw [State.inhibitBy, hk, hc] at h
  rw [State.inhibitBy]
  split at h
  case h_2 =>
    simp only [Bool.and_eq_true, Bool.not_eq_true'] at h ⊢
    exact ⟨h.1, Bool.eq_false_iff.2 fun hr => by simp [hp hr] at h⟩
  all_goals exact h

theorem regionHeld_of_fed {q r : RegionId} {f : PairRegion → PairRegion} (hf : ∀ p, (f p).partnerActive = true)
    (h : (s.modPairRegion q f).regionHeld r = true) : s.regionHeld r = true := by
  have ha : (s.modPairRegion q f).activeSrcs.any ((s.modPairRegion q f).inhibitBy r) = true → s.activeSrcs.any (s.inhibitBy r) = true := by
    simp only [List.any_eq_true]
    exact fun ⟨k, hk, hi⟩ => ⟨k, hk, inhibitBy_of_fed hf hi⟩
  simp only [State.regionHeld, State.showsInhibit, State.inhibited, Bool.or_eq_true] at h ⊢
  exact Or.imp_left (Or.imp_left (Or.imp_right (Or.imp_right ha))) h

theorem fed_keepsOff {q : RegionId} {f : PairRegion → PairRegion} (hf : ∀ p, (f p).partnerActive = true) : KeepsOff s (s.modPairRegion q f) := by
  intro h u
  refine UnitOff.eased (h u) (.of_heldForTest rfl rfl rfl fun ht => ?_) rfl
  have hr : (s.modPairRegion q f).regionOf (islandOf u) = s.regionOf (islandOf u) := rfl
  rw [State.heldForTest, hr] at ht
  rw [State.heldForTest]
  split at ht
  case h_1 =>
    rw [Bool.or_eq_true] at ht ⊢
    exact ht.imp_right (regionHeld_of_fed hf)
  case h_2 => exact ht

theorem execResynchronisationStart_keepsOff {r : RegionId} : NextOff s (execResynchronisationStart r s) := by
  have hs : KeepsOff s (sendCheckpoint r s) := .of_footing (sendCheckpoint_footing r s)
  have hp {t : State} {f : PairRegion → PairRegion} (hf : ∀ p, (f p).partnerActive = p.partnerActive) : KeepsOff t (t.modPairRegion r f) :=
    .of_footing (modPairRegion_footing hf)
  refine (KeepsOff.refl.ite (.ite ?_ (.ite (.ite ?_ ?_) .refl))).next
  · exact (hp (by intro; rfl)).trans (hp (by intro; rfl))
  · exact hs.trans (fed_keepsOff (by intro; rfl))
  · exact hs.trans (hp (by intro; rfl))

/-! ## Every row -/

/-- Every row keeps held units off. -/
theorem exec_keepsOff : ∀ c : Instr, NextOff s (exec c s)
  | .nop _ => immediate_keepsOff
  | .ctxWrite _ => execCtxWrite_keepsOff
  | .ctxRead _ => execCtxRead_keepsOff
  | .ctxEnable _ => ctxRow_keepsOff
  | .ctxDisable _ => ctxRow_keepsOff
  | .regionMode _ => nextOff_settleIf
  | .regionCommit _ => nextOff_settleIf
  | .captureArm _ => immediate_keepsOff
  | .captureCopy _ => execCaptureCopy_keepsOff
  | .captureStop _ => immediate_keepsOff
  | .probeStart _ => ctxRow_keepsOff
  | .probeStop _ => ctxRow_keepsOff
  | .netTx _ => immediate_keepsOff
  | .netRxPost _ => immediate_keepsOff
  | .timeAdjust _ => immediate_keepsOff
  | .weirAcquire _ => immediate_keepsOff
  | .weirRelease _ => immediate_keepsOff
  | .pairSwap _ => immediate_keepsOff
  | .pairResync _ => immediate_keepsOff
  | .faultClear _ => immediate_keepsOff
  | .eventForce _ => immediate_keepsOff
  | .barrier _ => immediate_keepsOff
  | .setupSeal _ => hostWord_nextOff
  | .enterService _ => hostWord_nextOff
  | .leaveService _ => hostWord_nextOff
  | .enterStabled _ => hostWord_nextOff
  | .pwrCmdCDieWarmReset _ => hostWord_nextOff
  | .pwrCmdPackageWarmReset _ => hostWord_nextOff
  | .pwrCmdPDieWarmReset _ => hostWord_nextOff
  | .restart _ => hostWord_nextOff
  | .leUcodeDataWrite _ => hostWord_nextOff
  | .verify _ => hostWord_nextOff
  | .verifyDone => nextOff_settleIf
  | .load _ => hostWord_nextOff
  | .imageLoadDone _ => nextOff_settleIf
  | .adcQdataRead b => hostRead_keepsOff (readQdata_footing b s)
  | .go _ _ => hostWord_nextOff
  | .timeTxqE0Read => hostRead_keepsOff (readTxq_footing s)
  | .timeNowRead => hostRead_keepsOff rfl
  | .aoTimeRead => hostRead_keepsOff rfl
  | .timeLockCfgWrite _ => hostWord_nextOff
  | .channelSwitch _ _ => hostWord_nextOff
  | .freeze _ _ => hostWord_nextOff
  | .unfreeze _ _ => hostWord_nextOff
  | .triggerConfigWrite _ _ _ => hostWord_nextOff
  | .rearm _ _ => hostWord_nextOff
  | .comparatorSelfTest _ _ => hostWord_nextOff
  | .rebias _ _ => hostWord_nextOff
  | .arbCommit _ => hostWord_nextOff
  | .arbCommitApply => execArbCommitApply_keepsOff
  | .arm _ => hostWord_nextOff
  | .injectionApply => execInjectionApply_keepsOff
  | .evtForceWrite _ _ => hostWord_nextOff
  | .soOnRequest _ => hostWord_nextOff
  | .debugOpen _ => hostWord_nextOff
  | .dbgRead _ => hostWord_nextOff
  | .dbgWrite _ => hostWord_nextOff
  | .debugAccessDone => execDebugAccessDone_keepsOff
  | .registerWrite _ _ _ => hostStore_keepsOff.next
  | .pDieAccessTimeout => execPDieAccessTimeout_keepsOff
  | .doorbellPoll => execDoorbellPoll_keepsOff
  | .descriptorAccept _ => execDescriptorAccept_keepsOff
  | .journalAcknowledge _ => execJournalAcknowledge_keepsOff
  | .timedActionDue _ => execTimedActionDue_keepsOff
  | .completionPost _ => execCompletionPost_keepsOff
  | .msixSignal _ => execMsixSignal_keepsOff
  | .hostDmaReadComplete _ _ _ => execHostDmaReadComplete_keepsOff
  | .hostDmaError _ => execHostDmaError_keepsOff
  | .hostSilent => nextOff_settleIf
  | .pcieEndpointReset => nextOff_settleUnless
  | .pcieLinkDown => nextOff_settleIf
  | .pcieLinkReturn => nextOff_settleUnless
  | .journalReplay _ => nextOff_settleUnless
  | .patrolScrub _ _ => execPatrolScrub_keepsOff
  | .millraceFrameReceive _ _ _ => nextOff_settleIf
  | .millraceLinkFailure _ _ => nextOff_settleIf
  | .millraceLinkUp => nextOff_settleIf
  | .regionBoundary _ => execRegionBoundary_keepsOff
  | .regionTrigger _ => execRegionTrigger_keepsOff
  | .islandWrap _ => execIslandWrap_keepsOff
  | .unitEdge _ => execUnitEdge_keepsOff
  | .tripAssert _ => nextOff_settleIf
  | .recoveryEnd _ => nextOff_settleIf
  | .dutyFrameReceive _ => execDutyFrameReceive_keepsOff
  | .cDieLossDetect _ => nextOff_spareIf (modRegion_footing (by intro; rfl))
  | .holdTimeEnd _ => execHoldTimeEnd_keepsOff
  | .contextRelease _ => execContextRelease_keepsOff
  | .timebaseSlot => nextOff_settleIf
  | .contextRunComplete _ => nextOff_settleIf
  | .dutyFrameSend _ => execDutyFrameSend_keepsOff
  | .prefetchIssue _ => nextOff_settleIf
  | .prefetchLanded _ => nextOff_settleIf
  | .writebackSweep => nextOff_settleIf
  | .loopEngineHeartbeatLost => nextOff_settleIf
  | .busDeclaredDead _ => afterRun_keepsOff
  | .startDelayExpire _ => afterRun_keepsOff
  | .contactorFailedToClose _ => afterRun_keepsOff
  | .contactorOpenedWithoutCommand _ => afterRun_keepsOff
  | .bsHoldElapsed _ => afterRun_keepsOff
  | .syncWindowsHeld _ => afterRun_keepsOff
  | .syncWindowsNotMet _ => afterRun_keepsOff
  | .envExitElapsed _ => execEnvExitElapsed_keepsOff
  | .gapResumeElapsed _ => execGapResumeElapsed_keepsOff
  | .anchorFreezeEnd _ => execAnchorFreezeEnd_keepsOff
  | .foldBackStart _ => execFoldBackStart_keepsOff
  | .stopFactorZero _ => afterRun_keepsOff
  | .rampComplete _ => execRampComplete_keepsOff
  | .blendEnd _ => afterRun_keepsOff
  | .sweepStart _ => execSweepStart_keepsOff
  | .sweepPointEnd _ => execSweepPointEnd_keepsOff
  | .islandLinkLost _ _ => nextOff_settleIf
  | .islandLinkRelock _ => nextOff_settleIf
  | .islandInterlock _ => nextOff_settleIf
  | .switchingTimeMeasured _ _ _ _ _ => nextOff_settleUnless
  | .uvlo _ _ => nextOff_settleUnless
  | .uvloRelease _ _ => nextOff_settleIf
  | .desaturationArmed _ => execDesaturationArmed_keepsOff
  | .desaturation _ _ => nextOff_settleIf
  | .softTurnOffEnd _ => execSoftTurnOffEnd_keepsOff
  | .comparatorTestDone _ _ => execComparatorTestDone_keepsOff
  | .islandOverTemperature _ _ => nextOff_settleUnless
  | .islandStart _ => nextOff_settleIf
  | .islandReady _ => nextOff_settleIf
  | .islandStartFailed _ _ => execIslandStartFailed_keepsOff
  | .islandBlockReset _ => nextOff_settleIf
  | .islandBiasRestore _ => execIslandBiasRestore_keepsOff
  | .bankTimer _ => nextOff_settleUnless
  | .samplingInstant _ _ => nextOff_settleIf
  | .setComplete _ => nextOff_settleIf
  | .injectedTrigger _ => execInjectedTrigger_keepsOff
  | .injectedSamplingInstant _ _ => nextOff_settleIf
  | .injectedConversionComplete _ => execInjectedConversionComplete_keepsOff
  | .calibrationStepStart _ => nextOff_spareIf (by rfl)
  | .calibrationHandOver _ => nextOff_spareIf (by rfl)
  | .calibrationMeasurementEnd _ _ _ => execCalibrationMeasurementEnd_keepsOff
  | .calibrationHandBack _ => nextOff_spareIf (by rfl)
  | .packedFrameFlush _ => nextOff_spareIf (flushPacked_footing _ s)
  | .windowComparatorAsserted _ _ => nextOff_settleIf
  | .windowComparatorRelease _ _ => nextOff_settleIf
  | .chainFrameFlush _ => nextOff_spareIf (chainFlush_footing _ s)
  | .triggerHoldOffEnd _ => nextOff_spareIf (by rfl)
  | .captureTrigger _ => execCaptureTrigger_keepsOff
  | .captureDone _ => execCaptureDone_keepsOff
  | .captureProgressWrite _ => nextOff_settleIf
  | .arbiterGrant _ _ _ => execArbiterGrant_keepsOff
  | .refresh => nextOff_spareIf (by rfl)
  | .arbiterWatchdog => execArbiterWatchdog_keepsOff
  | .weirAcquireTimedOut _ => execWeirAcquireTimedOut_keepsOff
  | .weirsReleased _ => nextOff_settleIf
  | .safetySetUpdate => nextOff_settleIf
  | .networkCounterUpdate => nextOff_settleIf
  | .frameReceive _ _ _ => nextOff_settleIf
  | .txTimestamp _ => execTxTimestamp_keepsOff
  | .supervisionFrameSend => nextOff_spareIf (queueFrame_footing _ _ _ _)
  | .lanSilent _ => nextOff_settleIf
  | .prpNodeExpire _ => nextOff_spareIf (by rfl)
  | .linkUp _ => nextOff_settleIf
  | .linkDown _ => nextOff_settleIf
  | .timeLockLost => nextOff_settleIf
  | .sampleFrameReceive => execSampleFrameReceive_keepsOff
  | .dutyCopyReceive => pairRow_keepsOff
  | .helloSend => nextOff_spareIf (pairSend_footing _ _ _ _ s)
  | .helloReceive => execHelloReceive_keepsOff
  | .partnerDown => nextOff_settleIf
  | .faultDeclarationReceive => execFaultDeclarationReceive_keepsOff
  | .controlDieFailed _ _ => nextOff_settleIf
  | .parameterFrameReceive => execParameterFrameReceive_keepsOff
  | .resynchronisationStart _ => execResynchronisationStart_keepsOff
  | .checkpointChunkReceive => execCheckpointChunkReceive_keepsOff
  | .checkpointCommitReceive => execCheckpointCommitReceive_keepsOff
  | .resynchronisationFailed _ => execResynchronisationFailed_keepsOff
  | .eventCollect => execEventCollect_keepsOff
  | .faultRecovered _ => nextOff_settleIf
  | .shadowWindowEnd _ => (KeepsOff.of_footing rfl).next
  | .safetyInputChange _ _ _ _ => nextOff_settleIf
  | .discrepancyFault _ _ => nextOff_settleIf
  | .startUpTestPassed _ => nextOff_settleIf
  | .secondPathDecode _ _ => nextOff_settleIf
  | .gateEnable => nextOff_settleIf
  | .soTestPulse _ => nextOff_settleIf
  | .soTestPulseEnd _ _ _ => nextOff_settleIf
  | .safeOutputOverload _ _ _ => nextOff_settleIf
  | .contactorFeedbackFault _ _ => execContactorFeedbackFault_keepsOff
  | .channel2Rejoined => execChannel2Rejoined_keepsOff
  | .channel2AbsentTooLong => nextOff_settleIf
  | .channel2DidNotFollowDemand => nextOff_settleIf
  | .path1ReadbackPulse _ _ => nextOff_settleIf
  | .channel1SelfTest _ => (KeepsOff.refl.ite (.ite .settle .settle)).next
  | .channel2SelfCheck _ => (KeepsOff.refl.ite (.ite .settle .settle)).next
  | .supplyPulseTest _ _ _ => nextOff_settleIf
  | .dchOverload _ _ _ => nextOff_settleIf
  | .dchRetry _ => execDchRetry_keepsOff
  | .cdrvOverload _ _ => nextOff_settleIf
  | .inputLow _ => nextOff_settleUnless
  | .inputLoss _ _ => execInputLoss_keepsOff
  | .inputReturn _ _ => execInputReturn_keepsOff
  | .powerFail _ => nextOff_settleIf
  | .storeAoReserve _ => nextOff_settleIf
  | .powerOnReset => nextOff_settle
  | .domainRegulationLoss _ => nextOff_settleIf
  | .pdNetRestarted => nextOff_settleUnless
  | .pdIsoRestart => execPdIsoRestart_keepsOff
  | .memsReferenceLost _ _ => nextOff_settleUnless
  | .memsReferenceRecovered _ => nextOff_settleIf
  | .pllLockLost _ => execPllLockLost_keepsOff
  | .aoClockMeasure _ => execAoClockMeasure_keepsOff
  | .cDieWarmReset => nextOff_settle
  | .cDieResetEnd => nextOff_settleUnless
  | .autoCDieReset => execAutoCDieReset_keepsOff
  | .pDieWarmReset => nextOff_settle
  | .pDieResetEnd => nextOff_settleUnless
  | .wake _ _ _ => nextOff_settleIf
  | .memInitComplete => nextOff_spareIf rfl
  | .moduleTemperature _ => nextOff_settleUnless
  | .sf2FaultCleared _ => nextOff_settleIf
  | .safeOutputReadbackFault _ _ => nextOff_settleIf
  | .cdSafRestarted => nextOff_settleUnless
  | .postedWriteErrorReported _ _ => nextOff_settle
  | .portFrameBoundary _ => nextOff_settleIf
  | .millraceFrameBoundary _ => nextOff_spareIf (sendNext_footing _ s)
  | .inputLowCleared _ => nextOff_spareIf rfl

theorem step_keepsOff (ht : step s = .next t) : KeepsOff s t := by
  cases hp : s.pending with
  | nil =>
    rw [step_nil hp, idle_eq] at ht
    exact nextOff_settle t ht
  | cons c rest =>
    have hs : KeepsOff s { s with pending := rest } := .of_footing rfl
    exact hs.trans (exec_keepsOff c t ((step_cons hp).symm.trans ht))

end Sys2Proof.Machine

namespace Sys2Proof

open Sys2Proof.Machine

/-- Settles O59: what settles a change turns off each unit that is held, and a row that does not settle changes nothing that holds go by, or eases
them. -/
theorem heldUnitsAreOff : Obligations.HeldUnitsAreOff :=
  ⟨fun _ _ h ht => step_keepsOff ht h, HeldUnitsOff.settle⟩

end Sys2Proof
end

section
-- One proof after another, as above: elaborated side by side they wait for the same lemmas, each with a thread and its stack.
set_option Elab.async false

/-!
SUPPORT. REGION_MODE and REGION_COMMIT as they are applied, and the carrier's rows in the cases in which they act (R196, R199, R204, R205, R211,
R216, R218, R219, R223).
-/
namespace Sys2Proof.Machine

open Sys2Proof

variable {s : State} {k : Slot} {r : RegionId} {p : Phase}

/-! ## REGION_MODE and REGION_COMMIT (R204, R216 to R218) -/

theorem modeFromOff_starts (ha : s.modeAllowed r p = true) (hp : p ≠ .off) (hs : s.safeComing = false) (hm : s.mayStart r = true) :
    modeFromOff r p k s = finishOk k 0 (raiseMode r (startCarrier r p s)) := by
  simp only [modeFromOff, ha, hp, hs, hm, Bool.not_true, Bool.false_eq_true, if_false, if_true]

section
variable (hr : regionNo (leAt (s.desc k) 16 1) = some r)
include hr

theorem doRegionMode_off (hp : phaseOf (leAt (s.desc k) 17 1) = some p) (ha : s.modeAccepted r = true) (ho : s.regions[r].phase = .off) :
    doRegionMode k s = modeFromOff r p k s := by
  simp only [doRegionMode, hr, hp, ha, ho, Bool.not_true, Bool.false_eq_true, if_false, if_true]

theorem doRegionMode_waits (hp : phaseOf (leAt (s.desc k) 17 1) = some p) (ha : s.modeAccepted r = true) (ho : s.regions[r].phase ≠ .off) :
    doRegionMode k s =
      modWork k (fun w => { w with kind := .applying }) (s.modRegion r fun g => { g with modeReqs := g.modeReqs ++ [(p, k)] }) := by
  simp only [doRegionMode, hr, hp, ha, ho, Bool.not_true, Bool.false_eq_true, if_false]

theorem doRegionCommit_writes (hn : k ∉ s.regions[r].commits) (hc : s.commitCheck r (s.desc k) = none) :
    doRegionCommit k s = commitWritten k r (writeCommit r (s.pendingOver r k) (commitEntries (s.desc k)) (!s.isTimed k) s) := by
  simp only [doRegionCommit, hr, List.contains_eq_mem, hn, hc, decide_false, Bool.false_eq_true, if_false]

end

theorem isTimed_of_entry {e : JEntry} (h : s.entry k = some e) : s.isTimed k = e.timed := by
  simp only [State.isTimed, h]

theorem execRegionCommit_due (h : s.mayApply k 0x06 = true) : execRegionCommit k s = .next (settle s (doRegionCommit k s)) := by
  rw [execRegionCommit, if_pos h]

/-! ## Boundaries, triggers, wraps and edges (R196, R199, R205, R211) -/

theorem execRegionBoundary_due {t : Nat} (hb : s.nextBoundary r = some t) (ht : t ≤ s.now) (hc : s.carrierRuns r = true)
    (hp : s.power.pRun = true) : execRegionBoundary r s = .next (settle s (boundary r t s)) := by
  simp only [execRegionBoundary, hb, ht, hc, hp, decide_true, Bool.and_self, if_true]

theorem execRegionTrigger_due {t : Nat} (hb : s.regions[r].lastBoundary = some t) (hc : s.carrierRuns r = true) (hn : s.regions[r].triggered = false)
    (hp : s.power.pRun = true) (ht : t + s.rf (rPwmTrigpos r) 0 21 ≤ s.now) : execRegionTrigger r s = .next (settle s (regionTrigger r s)) := by
  simp only [execRegionTrigger, hb, hc, hn, hp, ht, Bool.not_false, decide_true, Bool.and_self, if_true]

theorem execIslandWrap_due {i : IslandId} {b : Nat} (hr : s.regionOf i = some r) (hb : s.regions[r].lastBoundary = some b)
    (hw : (s.islands[i]).nextWrap < s.fine + 10) (he : (s.islands[i]).nextWrap < 10 * b + s.period r) (hp : s.power.pRun = true) :
    execIslandWrap i s = .next (settle s (wrap i r s)) := by
  simp only [execIslandWrap, hr, hb, hw, he, hp, and_self, if_true]

theorem execUnitEdge_due {u : UnitId} {e : Nat × Bool} {rest : List (Nat × Bool)} (he : s.units[u].edges = e :: rest) (ht : e.1 < s.fine + 10)
    (hp : s.power.pRun = true) : execUnitEdge u s =
    .next (settle s (gateIsland (islandOf u) (commandUnit u e.2 (s.modUnit u fun x => { x with edges := rest })))) := by
  simp only [execUnitEdge, he, ht, hp, and_self, if_true]

/-! ## Trips and RECOVERY (R219, R223) -/

theorem execTripAssert_asserted {n : TripId} (hi : s.tripInput n = true) (ha : s.tripActive[n] = false) (hp : s.power.pRun = true) :
    execTripAssert n s = .next (settle s (forAll (tripRegion n) { s with tripActive := upd s.tripActive n fun _ => true })) := by
  simp only [execTripAssert, hi, ha, hp, Bool.not_false, Bool.and_self, if_true]

/-- A change to RUN leaves TRIP_CNT as it is (R218). -/
theorem changePhase_run (r : RegionId) (s : State) :
    changePhase r .run s = (leaveTest r s).modRegion r fun g => { g with phase := .run, recLeft := none } := rfl

theorem execRecoveryEnd_due (hr : s.regions[r].phase = .recovery) (hl : s.regions[r].recLeft = some 0) :
    execRecoveryEnd r s = .next (settle s (changePhase r .run s)) := by
  rw [execRecoveryEnd, if_pos ⟨hr, hl⟩]

end Sys2Proof.Machine

namespace Sys2Proof

open Sys2Proof.Machine

/-- Settles O4: each row in the case in which it acts; a REGION_MODE by whether the region's carrier runs. -/
theorem regionCommandsComplete : Obligations.RegionCommandsComplete := by
  refine ⟨fun k s r p hm hr hp ha hl ho hn hs hk => ?_, fun k s r p hm hr hp ha ho => ?_, fun k s r e hm _ hr _ hn hc he => ?_⟩
  · rw [← modeFromOff_starts hl hn hs hk, ← doRegionMode_off hr hp ha ho]
    exact execRegionMode_due hm
  · rw [← doRegionMode_waits hr hp ha ho]
    exact execRegionMode_due hm
  · rw [← isTimed_of_entry he]
    exact (execRegionCommit_due hm).trans (congrArg _ (congrArg _ (doRegionCommit_writes hr hn hc)))

/-- Settles O22: each row in the case in which it acts. -/
theorem carrierStepsComplete : Obligations.CarrierStepsComplete := by
  refine ⟨fun r t s => execRegionBoundary_due, fun r t s => execRegionTrigger_due, fun i r b s => execIslandWrap_due,
    fun u e rest s => execUnitEdge_due, fun n s => execTripAssert_asserted, fun r s hr hl => ?_⟩
  rw [← changePhase_run]
  exact execRecoveryEnd_due hr hl

end Sys2Proof
end

section
-- One proof after another, as above: elaborated side by side they wait for the same lemmas, each with a thread and its stack.
set_option Elab.async false

/-!
SUPPORT. The rows of the driver islands in the cases in which they act: the link, the interlock and the measured times (R240 to R245), the
protection of the units (R237, R238, R248 to R256), the start and the block reset (R257, R258).
-/
namespace Sys2Proof.Machine

open Sys2Proof

variable {s t : State} {i : IslandId} {u : UnitId} {n : Nat}

/-! ## The island link (R240, R241) -/

theorem execIslandLinkLost_locked {b : Bool} (hl : (s.islands[i]).link = true) (hp : s.power.pRun = true) :
    execIslandLinkLost i b s = .next (settle s (linkLost i b s)) := by
  simp only [execIslandLinkLost, hl, hp, Bool.true_or, Bool.and_self, if_true]

theorem execIslandLinkRelock_lost (hl : (s.islands[i]).link = false ∨ (s.islands[i]).returnUp = false) (hb : (s.islands[i]).bias = true)
    (hp : s.power.pRun = true) (ht : t = s.modIsland i fun x => { x with link := true, returnUp := true }) :
    execIslandLinkRelock i s = .next (settle s (if (s.islands[i]).ready then evaluate i t else t)) := by
  subst ht
  have hlost : ((s.islands[i]).link && (s.islands[i]).returnUp) = false := Bool.and_eq_false_iff.2 hl
  simp only [execIslandLinkRelock, hlost, hb, hp, Bool.not_false, Bool.and_self, if_true]

/-! ## The interlock and the measured switching times (R242, R245) -/

/-- The interlock acts: both gates off, and its count (R242). -/
def interlocked (i : IslandId) (s : State) : State :=
  ((s.modUnit (unitH i) fun g => { g with gate := false }).modUnit (unitL i) fun g => { g with gate := false }).modIsland i fun y =>
    { y with ilkActive := true, ilkCnt := satInc y.ilkCnt }

section
variable (hh : s.units[unitH i].cmdOn = true) (hl : s.units[unitL i].cmdOn = true) (ha : (s.islands[i]).ilkActive = false)
include hh hl ha

theorem execIslandInterlock_quiet (he : (s.islands[i]).ilkEvent = some n) (hn : s.now < n + msTicks 10) :
    execIslandInterlock i s = .next (settle s (interlocked i s)) := by
  simp only [execIslandInterlock, hh, hl, ha, he, Nat.not_le.2 hn, decide_false, Bool.not_false, Bool.and_self, Bool.false_eq_true, if_false,
    if_true]
  rfl

/-- The interlock's event is raised where none was in the last 10 ms (R242). -/
theorem execIslandInterlock_reports (hd : ∀ n, (s.islands[i]).ilkEvent = some n → n + msTicks 10 ≤ s.now) :
    execIslandInterlock i s = .next (settle s
      ((raise (srcIsland i) evIslandInterlock 0 0 (interlocked i s)).modIsland i fun y => { y with ilkEvent := some s.now })) := by
  cases he : (s.islands[i]).ilkEvent with
  | none =>
    simp only [execIslandInterlock, hh, hl, ha, he, Bool.not_false, Bool.and_self, if_true]
    rfl
  | some n =>
    simp only [execIslandInterlock, hh, hl, ha, he, hd n he, decide_true, Bool.not_false, Bool.and_self, if_true]
    rfl

end

/-- A unit that keeps a valid measured time of its edge kind (R245). -/
def GateUnit.measured (on : Bool) (fine : Nat) (x : GateUnit) : GateUnit :=
  if on then { x with tonValid := true, ton := BitVec.ofNat 12 fine } else { x with toffValid := true, toff := BitVec.ofNat 12 fine }

section
variable {vLeg fine cross : Nat} (hr : s.returns (islandOf u) = true) (hp : s.power.pRun = true)
include hr hp

theorem execSwitchingTimeMeasured_valid {on : Bool} (hv : 50000 ≤ vLeg) (h1 : 1 ≤ fine) (hf : fine ≤ 4095) (hc : cross ≤ 4095)
    (ht : t = s.modUnit u (GateUnit.measured on fine)) :
    execSwitchingTimeMeasured u on vLeg fine cross s = .next (settle s (if s.adapts u then adapt u on fine t else t)) := by
  subst ht
  simp only [execSwitchingTimeMeasured, hr, hp, hv, h1, hf, hc, decide_true, Bool.not_true, Bool.or_self, Bool.and_self, Bool.true_and,
    Bool.false_eq_true, if_false, if_true]
  rfl

theorem execSwitchingTimeMeasured_invalidOff (hi : vLeg < 50000 ∨ fine = 0 ∨ 4095 < fine ∨ 4095 < cross) :
    execSwitchingTimeMeasured u false vLeg fine cross s = .next (settle s (s.modUnit u fun x => { x with toffValid := false })) := by
  have hinv : (decide (50000 ≤ vLeg) && decide (1 ≤ fine) && decide (fine ≤ 4095) && decide (cross ≤ 4095)) = false := by
    simp only [Bool.and_eq_false_iff, decide_eq_false_iff_not]
    omega
  simp only [execSwitchingTimeMeasured, hr, hp, hinv, Bool.not_true, Bool.or_self, Bool.false_and, Bool.false_eq_true, if_false]

end

/-! ## Undervoltage and desaturation (R237, R238, R248 to R252) -/

theorem execUvlo_below {rail : Nat} (hu : s.units[u].uvlo = false) (hr : rail + 2500 < s.vOn (islandOf u))
    (ht : t = (softTurnOff u false s).modUnit u fun x => { x with uvlo := true, uvloHeld := true, uvloClean := false }) :
    execUvlo u rail s = .next (settle s (if t.uvloSignal u then uvloSeen u t else t)) := by
  subst ht
  simp only [execUvlo, hu, Nat.not_le.2 hr, decide_false, Bool.or_self, Bool.false_eq_true, if_false]

theorem execUvloRelease_above {rail : Nat} (hu : s.units[u].uvlo = true) (hr : s.vOn (islandOf u) < rail + 2000)
    (he : (s.islands[islandOf u]).evaluated = true) :
    execUvloRelease u rail s = .next (settle s (unstand (srcUnit u) evUnitUvlo (s.modUnit u fun x => { x with uvlo := false }))) := by
  simp only [execUvloRelease, hu, hr, he, decide_true, Bool.and_self, if_true]

theorem execDesaturationArmed_blanked (ho : s.units[u].onAt = some n) (hc : s.units[u].cmdOn = true) (ha : s.units[u].armed = false)
    (hw : bitAt (s.reg (rIslDesat (islandOf u) (side u))) 31 = true) (ht : n + fld (s.reg (rIslDesat (islandOf u) (side u))) 0 11 ≤ s.now) :
    execDesaturationArmed u s = .next (s.modUnit u fun x => { x with armed := true }) := by
  simp only [execDesaturationArmed, ho, hc, ha, hw, ht, decide_true, Bool.not_false, Bool.and_self, if_true]

theorem execDesaturation_above {sense : Nat} (ht : 100 * s.rf (rIslDesat (islandOf u) (side u)) 11 7 < sense)
    (ha : s.units[u].armed = true ∨ s.units[u].armedOff = some s.now) : execDesaturation u sense s = .next (settle s (desaturate u s)) := by
  have harmed : (s.units[u].armed || s.units[u].armedOff == some s.now) = true := by simpa only [Bool.or_eq_true, beq_iff_eq] using ha
  simp only [execDesaturation, ht, harmed, decide_true, Bool.and_self, if_true]

theorem execSoftTurnOffEnd_due (ho : s.units[u].softOff = some n) (ht : n + 8 + s.rf (rIslDesat (islandOf u) (side u)) 22 8 ≤ s.now) :
    execSoftTurnOffEnd u s = .next (settle s (s.modUnit u fun x =>
      { x with softOff := none, softIsDesat := false, softSnk := some 15,
               desatSigEnd := if x.softIsDesat then some (s.now + 24) else x.desatSigEnd })) := by
  simp only [execSoftTurnOffEnd, ho, if_neg (Nat.not_lt.2 ht)]

/-! ## The comparator test and the temperature (R254 to R256) -/

theorem modIsland_island {f : Island → Island} : (s.modIsland i f).islands[i] = f s.islands[i] := by
  rw [State.modIsland_islands, upd_same]

theorem raise_islands (k : SourceId) (d : EvDef) (a b : Word32) (s : State) : (raise k d a b s).islands = s.islands :=
  raise_alerts.keeps State.islands

/-- The result of a comparator's test is kept, and one that failed is reported (R254). -/
def comparatorTested (i : IslandId) (c : Fin 4) (rest : List (Fin 4)) (pass : Bool) (s : State) : State :=
  let t := s.modIsland i fun x =>
    { x with testLeft := rest, testAt := s.now, testResult := setResult x.testResult c (if pass then 1 else 2) }
  if pass then t else raise (srcUnit (testUnit i c)) evUnitSelfTestFailed 0 0 t

/-- Neither the result nor its event touches whether the P-die evaluates the island. -/
theorem comparatorTested_evaluated (i : IslandId) (c : Fin 4) (rest : List (Fin 4)) (pass : Bool) (s : State) :
    ((comparatorTested i c rest pass s).islands[i]).evaluated = (s.islands[i]).evaluated := by
  cases pass <;> simp only [comparatorTested, raise_islands, modIsland_island, Bool.false_eq_true, if_false, if_true]

/-- The row of a comparator test's end once its 6400 ticks have passed; a UVLO comparator's signal is evaluated with it (R238). -/
theorem execComparatorTestDone_due {c : Fin 4} {rest : List (Fin 4)} {pass : Bool} (hl : (s.islands[i]).testLeft = c :: rest)
    (ht : (s.islands[i]).testAt + 6400 ≤ s.now) :
    execComparatorTestDone i pass s = .next (settle s
      (if 2 ≤ c.val ∧ (s.islands[i]).evaluated then uvloFound (testUnit i c) (comparatorTested i c rest pass s)
        else comparatorTested i c rest pass s)) := by
  rw [← comparatorTested_evaluated i c rest pass s]
  simp only [execComparatorTestDone, hl, if_neg (Nat.not_lt.2 ht)]
  rfl

theorem execIslandOverTemperature_reads {temp : BitVec 12} {w o : Bool × State} (hr : s.returns i = true) (hp : s.power.pRun = true)
    (hw : w = tempStep (srcIsland i) evIslandOverTempWarn temp.toInt (4 * s.rf (rIslCfg i) 8 8 : Nat) (s.islands[i]).tempWarned s)
    (ho : o = tempStep (srcIsland i) evIslandOverTemp temp.toInt 600 (s.islands[i]).tempOver w.2) :
    execIslandOverTemperature i temp s =
      .next (settle s (o.2.modIsland i fun x => { x with temp := temp, tempWarned := w.1, tempOver := o.1 })) := by
  subst ho hw
  simp only [execIslandOverTemperature, hr, hp, Bool.not_true, Bool.or_self, Bool.false_eq_true, if_false]

/-! ## The island's start and its block reset (R257, R258) -/

theorem execIslandStart_wanted (hw : s.biasWanted i = true) (hb : (s.islands[i]).bias = false) :
    execIslandStart i s = .next (settle s (startIsland i s)) := by
  simp only [execIslandStart, hw, hb, Bool.not_false, Bool.and_self, if_true]

theorem execIslandReady_starting (hb : (s.islands[i]).bias = true) (hs : (s.islands[i]).startAt.isSome = true)
    (hf : (s.islands[i]).startFailed = false) (hp : s.power.pRun = true)
    (ht : t = s.modIsland i fun x => { x with ready := true, link := true, returnUp := true, startAt := none, testResult := 0x55 }) :
    execIslandReady i s = .next (settle s (evaluate i
      ((t.modUnit (unitH i) fun g => { g with uvlo := false }).modUnit (unitL i) fun g => { g with uvlo := false }))) := by
  subst ht
  simp only [execIslandReady, hb, hs, hf, hp, Bool.not_false, Bool.and_self, if_true]

section
variable (hs : (s.islands[i]).startAt = some n) (hb : (s.islands[i]).bias = true) (hf : (s.islands[i]).startFailed = false)
include hs hb hf

theorem execIslandStartFailed_late (ht : n + msTicks 10 ≤ s.now) :
    execIslandStartFailed i none s =
      .next (settle s (raise (srcIsland i) evIslandStartFailed 0 0 (s.modIsland i fun x => { x with startFailed := true }))) := by
  simp only [execIslandStartFailed, hs, hb, hf, ht, decide_true, Option.isSome_none, Bool.not_false, Bool.or_true, Bool.and_self, if_true]

theorem execIslandStartFailed_test (c : Fin 4) :
    execIslandStartFailed i (some c) s = .next (settle s (raise (srcIsland i) evIslandStartFailed 0 0
      (raise (srcUnit (testUnit i c)) evUnitSelfTestFailed 0 0 (s.modIsland i fun x =>
        { x with startFailed := true, testResult := setResult x.testResult c 2 })))) := by
  simp only [execIslandStartFailed, hs, hb, hf, Option.isSome_some, Bool.not_false, Bool.true_or, Bool.and_self, if_true]

end

/-- What a block reset clears of a unit of the island: its hold and carries, with its strengths at the start (R258). -/
def clearUnit (u : UnitId) (s : State) : State :=
  startStrengths u (s.modUnit u fun x => { x with desatHold := false, uvloHeld := x.uvlo, carry := 0, gate := false })

theorem execIslandBlockReset_asked (hr : (s.islands[i]).resetReq = true) (hp : s.power.pRun = true) :
    execIslandBlockReset i s = .next (settle s (clearUnit (unitL i) (clearUnit (unitH i) (closeDebug (s.modIsland i fun x =>
      { x with resetReq := false, resetAt := some s.now, bias := false, ready := false, startAt := none, startFailed := false }))))) := by
  simp only [execIslandBlockReset, hr, hp, Bool.and_self, if_true]
  rfl

theorem execIslandBiasRestore_due (hr : (s.islands[i]).resetAt = some n) (hn : n + msTicks 10 ≤ s.now)
    (ht : t = s.modIsland i fun x => { x with resetAt := none }) :
    execIslandBiasRestore i s = .next (settle s (if t.biasWanted i then startIsland i t else t)) := by
  subst ht
  simp only [execIslandBiasRestore, hr, if_neg (Nat.not_lt.2 hn)]

end Sys2Proof.Machine

namespace Sys2Proof

open Sys2Proof.Machine

/-- Settles O27: each row in the case in which it acts; the interlock's event by the time since the last one, a measured time by its edge kind. -/
theorem islandLinkStepsComplete : Obligations.IslandLinkStepsComplete := by
  refine ⟨fun i b s => execIslandLinkLost_locked, fun i t s => execIslandLinkRelock_lost, fun i n t s hh hl ha he hn ht => ?_,
    fun i t s hh hl ha hd ht => ?_, fun u vLeg fine cross t s => execSwitchingTimeMeasured_valid (on := true),
    fun u vLeg fine cross t s => execSwitchingTimeMeasured_valid (on := false), fun u vLeg fine cross s => execSwitchingTimeMeasured_invalidOff⟩
  · subst ht
    exact execIslandInterlock_quiet hh hl ha he hn
  · subst ht
    exact execIslandInterlock_reports hh hl ha hd

/-- Settles O28: each row in the case in which it acts; a comparator test's end by whether its unit's UVLO is evaluated with it. -/
theorem unitProtectionStepsComplete : Obligations.UnitProtectionStepsComplete := by
  refine ⟨fun u rail t s => execUvlo_below, fun u rail s => execUvloRelease_above, fun u t s => execDesaturationArmed_blanked,
    fun u sense s => execDesaturation_above, fun u t s => execSoftTurnOffEnd_due, fun i n rest s hl ht hn => ?_,
    fun i n rest s hl ht hn he => ?_, fun i temp w o s => execIslandOverTemperature_reads⟩
  · have hskip : ¬(2 ≤ n.val ∧ (s.islands[i]).evaluated = true) := by
      rintro ⟨h2, he⟩
      rcases hn with hn | hn
      · omega
      · exact Bool.false_ne_true (hn.symm.trans he)
    have hdone (pass : Bool) : exec (.comparatorTestDone i pass) s = .next (settle s (comparatorTested i n rest pass s)) :=
      (execComparatorTestDone_due hl ht).trans (by rw [if_neg hskip])
    exact ⟨hdone true, hdone false⟩
  · exact (execComparatorTestDone_due hl ht).trans (by rw [if_pos ⟨hn, he⟩]; rfl)

/-- Settles O29: each row in the case in which it acts; a failed start by its cause. -/
theorem islandStartStepsComplete : Obligations.IslandStartStepsComplete := by
  refine ⟨fun i s => execIslandStart_wanted, fun i t s => execIslandReady_starting,
    fun i t s hs hb hf => ⟨execIslandStartFailed_late hs hb hf, execIslandStartFailed_test hs hb hf⟩, fun i f t s hr hp hf ht => ?_,
    fun i n t s => execIslandBiasRestore_due⟩
  subst hf ht
  exact execIslandBlockReset_asked hr hp

end Sys2Proof
end

section
-- One proof after another, as above: elaborated side by side they wait for the same lemmas, each with a thread and its stack.
set_option Elab.async false

/-!
SUPPORT. The reads with a side effect (R286, R397, R410, R545) and the command bits (R253, R258, R271, R307, R478, R505) in the cases in
which they act.
-/
namespace Sys2Proof.Machine

open Sys2Proof

variable {s t : State} {v : Word32} {b : BankId} {u : TrigId} {i : IslandId}

/-! ## Reads with a side effect -/

/-- A row that is a read, in a tick in which the read reaches its register. -/
theorem readRow_reaches {d : Die} {off : Nat} {op : State → State} (hr : s.hostReaches = true) (hc : s.power.cRun = true)
    (hd : d = .c ∨ s.pReach = true) (ht : op s = t) :
    .next (hostAccess d off v true op s) = (.next t : Host.Outcome State Fault Refusal) := by
  subst ht
  simp [hostAccess, hr, hc, hd]

theorem readQdata_head {e : Word32} {rest : List Word32} (h : (s.banks[b]).queue = e :: rest) :
    readQdata b s = readAs e (s.modBank b fun x =>
      { x with
        queue := rest
        fullReported := x.fullReported && decide (1024 ≤ rest.length)
        threshReported := x.threshReported && decide (s.rf (rAdcQcfg b) 0 12 ≤ rest.length) }) := by
  simp only [readQdata, h]

theorem readQdata_empty (h : (s.banks[b]).queue = []) : readQdata b s = readAs 0 s := by
  simp only [readQdata, h]

theorem readTxq_head {e : TxStamp} {rest : List TxStamp} (h : s.net.txq = e :: rest) :
    readTxq s = readAs e.ts (s.modNet fun x =>
      { x with txq := rest, txqLatch := some e, txqReported := x.txqReported && decide (8 ≤ rest.length) }) := by
  simp only [readTxq, h]

theorem readTxq_empty (h : s.net.txq = []) : readTxq s = readAs 0 (s.modNet fun x => { x with txqLatch := none }) := by
  simp only [readTxq, h]

/-! ## The P-die's command bits -/

/-- A row that is a write, in a tick in which the write reaches its register. -/
theorem wordRow_reaches {d : Die} {off : Nat} {op : State → State} (hr : s.hostReaches = true) (hc : s.power.cRun = true)
    (hd : d = .c ∨ s.pReach = true) (ht : op s = t) :
    .next (hostWord d off v op s) = (.next (settle s t) : Host.Outcome State Fault Refusal) := by
  subst ht
  exact congrArg _ (hostWord_reaches hr hc hd)

theorem writeInjSw_go (hv : bitAt v 0 = true) (hc : s.converts = true) :
    writeInjSw b v s = s.modBank b fun x => { x with injReq := x.injReq ++ [none] } := by
  simp only [writeInjSw, hv, hc, Bool.and_self, if_true]

theorem writeTrgCmd_rearms (hv : bitAt v 0 = true) (hf : s.trigs[u].state = .fired) :
    writeTrgCmd u v s = s.modTrig u fun t => { t with state := .armed } := by
  rw [writeTrgCmd, if_pos ⟨hv, hf⟩]

/-- The comparators that a write of ISL_TEST asks for (R253). -/
def askedTests (v : Word32) : List (Fin 4) := (List.finRange 4).filter fun n => bitAt v n.val

/-- Where every comparator asked for belongs to a held unit, all are tested and none is refused (R253). -/
theorem writeIslTest_allHeld (hl : (s.islands[i]).testLeft = []) (hh : ∀ n ∈ askedTests v, s.heldForTest (testUnit i n) = true) :
    writeIslTest i v s = forList (fun n t => t.modUnit (testUnit i n) fun x => { x with testHold := true }) (askedTests v)
      (s.modIsland i fun x =>
        { x with testLeft := askedTests v, testAt := s.now
                 testResult := (askedTests v).foldl (fun w n => setResult w n 0) x.testResult }) := by
  have htested : ((askedTests v).filter fun n => s.heldForTest (testUnit i n)) = askedTests v := List.filter_eq_self.2 hh
  have hrefused : ((askedTests v).filter fun n => !s.heldForTest (testUnit i n)) = [] :=
    List.filter_eq_nil_iff.2 fun n hn => by simp only [hh n hn, Bool.not_true, Bool.false_eq_true, not_false_eq_true]
  unfold askedTests at htested hrefused ⊢
  simp only [writeIslTest, hl, htested, hrefused, List.isEmpty_nil, List.foldl_nil, Bool.not_true, Bool.false_eq_true, if_false]

theorem writeIslCtrl_rebias (hv : bitAt v 0 = true) : writeIslCtrl i v s =
    s.modIsland i fun x => if s.bothHeld i then { x with resetReq := true } else { x with rebiasRefused := true } := by
  simp only [writeIslCtrl, hv, Bool.not_true, Bool.false_eq_true, if_false]

/-! ## The arbiter's commit (R505) -/

theorem writeArbCommit_valid (hv : bitAt v 0 = true) (ha : s.arb.shadow.valid = true) :
    writeArbCommit v s = s.modArb fun a => { a with commitPending := true } := by
  simp only [writeArbCommit, hv, ha, Bool.not_true, Bool.false_eq_true, if_false, if_true]

theorem writeArbCommit_refused (hv : bitAt v 0 = true) (ha : s.arb.shadow.valid = false) : writeArbCommit v s = refuseCommit s := by
  simp only [writeArbCommit, hv, ha, Bool.not_true, Bool.false_eq_true, if_false]

theorem execArbCommitApply_due (hp : s.arb.commitPending = true) (hc : s.power.cRun = true) (hm : s.memSlot % 16 = 0)
    (ha : s.arb.shadow.valid = true) :
    execArbCommitApply s = .next (s.modArb fun a => { a with active := a.shadow, commitPending := false }) := by
  simp only [execArbCommitApply, hp, hc, hm, ha, beq_self_eq_true, Bool.and_self, Bool.not_true, Bool.false_eq_true, if_false, if_true]

end Sys2Proof.Machine

namespace Sys2Proof

open Sys2Proof.Machine

/-- Settles O12: every read reaches its register; one of a queue by whether it holds an entry. -/
theorem readsWithEffectComplete : Obligations.ReadsWithEffectComplete := fun _ hr hc hp =>
  ⟨fun _ _ _ hq => readRow_reaches hr hc (.inr hp) (readQdata_head hq), fun _ hq => readRow_reaches hr hc (.inr hp) (readQdata_empty hq),
    fun _ _ hq => readRow_reaches hr hc (.inr hp) (readTxq_head hq), fun hq => readRow_reaches hr hc (.inr hp) (readTxq_empty hq),
    readRow_reaches hr hc (.inr hp) rfl, readRow_reaches hr hc (.inr hp) rfl⟩

/-- Settles O13: every command word reaches its register, a P-die register through the link; what its bits ask for acts. -/
theorem commandBitsComplete : Obligations.CommandBitsComplete :=
  ⟨fun _ _ _ hr hc hp hv ha => wordRow_reaches hr hc (.inr hp) (writeInjSw_go hv ha),
    fun _ _ _ hr hc hp hv hf => wordRow_reaches hr hc (.inr hp) (writeTrgCmd_rearms hv hf),
    fun _ _ _ hr hc hp hl hh =>
      wordRow_reaches hr hc (.inr hp) (writeIslTest_allHeld hl fun n hn => (hh n).symm.trans (List.mem_filter.1 hn).2),
    fun _ _ _ hr hc hp hv => wordRow_reaches hr hc (.inr hp) (writeIslCtrl_rebias hv),
    fun _ _ hr hc hv ha => wordRow_reaches hr hc (.inl rfl) (writeArbCommit_valid hv ha),
    fun _ _ hr hc hv ha => wordRow_reaches hr hc (.inl rfl) (writeArbCommit_refused hv ha),
    fun _ => execArbCommitApply_due,
    fun _ _ hr hc hp => wordRow_reaches hr hc (.inr hp) rfl⟩

end Sys2Proof
end

section
-- One proof after another, as above: elaborated side by side they wait for the same lemmas, each with a thread and its stack.
set_option Elab.async false

/-!
SUPPORT. The rows of a bank's conversions and of its background calibration in the cases in which they act (R266 to R287).
-/
namespace Sys2Proof.Machine

open Sys2Proof

variable {s : State} {b : BankId}

/-! ## Timers and regular sets (R266, R270, R284) -/

/-- The bank timer alone expires, and triggers neither path of the bank (R266). -/
theorem execBankTimer_timerOnly (hc : s.converts = true) (hn : s.now < (s.banks[b]).contNext) (ht : (s.banks[b]).timerNext ≤ s.now)
    (hi : s.injSrc b ≠ 8) (ha : s.adcSrc b ≠ 8) :
    execBankTimer b s = .next (settle s (s.modBank b fun x => { x with timerNext := s.now + s.rf (rAdcTimer b) 0 24 })) := by
  have hnoSet : ¬(s.adcMode b = 1 ∧ s.adcSrc b = 8) := fun h => ha h.2
  simp only [execBankTimer, hc, ht, Nat.not_le.2 hn, if_neg hi, if_neg hnoSet, decide_false, decide_true, Bool.false_and, Bool.not_true,
    Bool.false_eq_true, if_false, if_true]

/-- A continuous set alone is due (R270). -/
theorem execBankTimer_continuousOnly (hc : s.converts = true) (hn : (s.banks[b]).contNext ≤ s.now) (hm : s.adcMode b = 2)
    (ht : s.now < (s.banks[b]).timerNext) : execBankTimer b s = .next (settle s (bankTrigger b 0 none (s.modBank b fun x =>
      { x with contNext := s.now + 40 * (s.rf (rAdcCtrl b) 8 8 + 1) }))) := by
  simp only [execBankTimer, hc, hn, hm, Nat.not_le.2 ht, decide_true, decide_false, beq_self_eq_true, Bool.and_self, Bool.not_true,
    Bool.false_eq_true, if_false, if_true]

/-- A bank in the triggered or the continuous mode converts on triggers (R266, R271). -/
theorem triggeredMode_eq_true (h : s.adcMode b = 1 ∨ s.adcMode b = 2) : (s.adcMode b == 1 || s.adcMode b == 2) = true := by
  simpa only [Bool.or_eq_true, beq_iff_eq] using h

theorem execSamplingInstant_converts {uv : Vector Int 16} (hc : s.converts = true) (hm : s.adcMode b = 1 ∨ s.adcMode b = 2) :
    execSamplingInstant b uv s = .next (settle s (samplingInstant b uv s)) := by
  simp only [execSamplingInstant, hc, triggeredMode_eq_true hm, Bool.and_self, if_true]

theorem execSetComplete_due (hd : s.setDue b = true) (hc : s.converts = true) :
    execSetComplete b s = .next (settle s (setsComplete b s)) := by
  simp only [execSetComplete, hd, hc, Bool.and_self, if_true]

theorem execPackedFrameFlush_due (hp : (s.banks[b]).packed ≠ []) (ht : (s.banks[b]).packedAt + 80 ≤ s.now) (ha : s.anaRuns = true) :
    execPackedFrameFlush b s = .next (flushPacked b s) := by
  have hfull : (s.banks[b]).packed.isEmpty = false := List.isEmpty_eq_false_iff.2 hp
  simp only [execPackedFrameFlush, hfull, ht, ha, decide_true, Bool.not_false, Bool.and_self, if_true]

/-! ## Injected sets (R271, R272, R274) -/

section
variable {q : Option (RegionId × Word32)} {rest : List (Option (RegionId × Word32))} (hq : (s.banks[b]).injReq = q :: rest)
  (hc : s.converts = true) (hm : s.adcMode b = 1 ∨ s.adcMode b = 2)
include hq hc hm

theorem execInjectedTrigger_delays (hd : (s.banks[b]).injDelay = none) :
    execInjectedTrigger b s = .next ((s.modBank b fun x => { x with injReq := rest }).modBank b fun x =>
      { x with injDelay := some { due := s.now + s.rf (rAdcInjDelay b) 0 16, region := q } }) := by
  simp only [execInjectedTrigger, hq, hc, triggeredMode_eq_true hm, hd, Option.isSome_none, Bool.not_true, Bool.or_self, Bool.false_eq_true,
    if_false]

theorem execInjectedTrigger_overruns (hd : (s.banks[b]).injDelay.isSome = true) :
    execInjectedTrigger b s = .next (settle s (injOverrun b (s.modBank b fun x => { x with injReq := rest }))) := by
  simp only [execInjectedTrigger, hq, hc, triggeredMode_eq_true hm, hd, Bool.not_true, Bool.or_self, Bool.false_eq_true, if_false, if_true]

end

theorem execInjectedSamplingInstant_converts {uv : Vector Int 16} (hc : s.converts = true) :
    execInjectedSamplingInstant b uv s = .next (settle s (injSamplingInstant b uv s)) := by
  rw [execInjectedSamplingInstant, if_pos hc]

theorem execInjectedConversionComplete_due {c : Conv} (hi : (s.banks[b]).inj = some c) (ht : c.start + 40 ≤ s.now)
    (hc : s.converts = true) : execInjectedConversionComplete b s = .next (settle s (injComplete b c s)) := by
  simp only [execInjectedConversionComplete, hi, ht, hc, and_self, if_true]

/-! ## Background calibration (R275 to R278) -/

/-- An update of a bank goes by what the bank holds. -/
theorem modBank_congr {f g : Bank → Bank} (h : f s.banks[b] = g s.banks[b]) : s.modBank b f = s.modBank b g :=
  congrArg (fun x => { s with banks := s.banks.set b x }) h

section
variable (hc : s.converts = true)
include hc

theorem execCalibrationStepStart_due (he : s.rb (rAdcCal b) 15 = true) (hs : (s.banks[b]).stopped = false) (hi : (s.banks[b]).cal = .idle)
    (ht : (s.banks[b]).calNext ≤ s.now) : execCalibrationStepStart b s = .next (s.modBank b fun x =>
      { x with cal := if (s.banks[b]).calSlice = 16 then .measuring else .tracking, calAt := s.now }) := by
  simp only [execCalibrationStepStart, hc, he, hs, hi, ht, beq_self_eq_true, decide_true, Bool.not_false, Bool.and_self, if_true]
  exact congrArg _ (modBank_congr rfl)

theorem execCalibrationHandOver_due (hp : (s.banks[b]).cal = .tracking) (ht : (s.banks[b]).calAt + 400 ≤ s.now)
    (hm : s.mayHand b (s.banks[b]).calSlice.val = true) : execCalibrationHandOver b s = .next (s.modBank b fun x =>
      { x with cal := .measuring, calAt := s.now, spareFor := BitVec.ofNat 5 (s.banks[b]).calSlice.val }) := by
  simp only [execCalibrationHandOver, hc, hp, ht, hm, beq_self_eq_true, decide_true, Bool.and_self, if_true]
  exact congrArg _ (modBank_congr rfl)

theorem execCalibrationHandBack_due (hp : (s.banks[b]).cal = .measured) (hm : s.mayHand b (s.banks[b]).calSlice.val = true) :
    execCalibrationHandBack b s = .next (s.modBank b fun x =>
      { x with cal := .idle, spareFor := 0x1F, coefs := x.coefs.set x.calSlice x.newCoef, calSlice := nextSlice x.calSlice
               calNext := s.now + msTicks (s.rf (rAdcCal b) 0 10) }) := by
  simp only [execCalibrationHandBack, hc, hp, hm, beq_self_eq_true, Bool.and_self, if_true]

section
variable {w : Word32} (hp : (s.banks[b]).cal = .measuring) (ht : (s.banks[b]).calAt + 8000 ≤ s.now)
include hp ht

theorem execCalibrationMeasurementEnd_spare (hj : (s.banks[b]).calSlice = 16) :
    execCalibrationMeasurementEnd b true w s = .next (s.modBank b fun x =>
      { x with cal := .idle, calSlice := 0, coefs := x.coefs.set 16 w, calNext := s.now + msTicks (s.rf (rAdcCal b) 0 10) }) := by
  simp only [execCalibrationMeasurementEnd, hc, hp, ht, hj, beq_self_eq_true, decide_true, Bool.and_self, Bool.not_true, Bool.false_eq_true,
    if_false, if_true]

theorem execCalibrationMeasurementEnd_slice (hj : (s.banks[b]).calSlice ≠ 16) :
    execCalibrationMeasurementEnd b true w s = .next (s.modBank b fun x => { x with cal := .measured, newCoef := w }) := by
  simp only [execCalibrationMeasurementEnd, hc, hp, ht, hj, beq_self_eq_true, decide_true, Bool.and_self, Bool.not_true, Bool.false_eq_true,
    if_false, if_true]

theorem execCalibrationMeasurementEnd_fails : execCalibrationMeasurementEnd b false w s = .next (settle s (sliceFailed b s)) := by
  simp only [execCalibrationMeasurementEnd, hc, hp, ht, beq_self_eq_true, decide_true, Bool.and_self, Bool.not_false, if_true]

end
end

end Sys2Proof.Machine

namespace Sys2Proof

open Sys2Proof.Machine

/-- Settles O30: each row in the case in which it acts; an injected trigger by whether one is under delay. -/
theorem bankStepsComplete : Obligations.BankStepsComplete :=
  ⟨fun _ _ hc hn ht hi _ ha => execBankTimer_timerOnly hc hn ht hi ha, fun _ _ => execBankTimer_continuousOnly,
    fun _ _ _ => execSamplingInstant_converts, fun _ _ => execSetComplete_due, fun _ _ _ _ => execInjectedTrigger_delays,
    fun _ _ _ _ => execInjectedTrigger_overruns, fun _ _ _ => execInjectedSamplingInstant_converts,
    fun _ _ _ => execInjectedConversionComplete_due, fun _ _ => execPackedFrameFlush_due⟩

/-- Settles O31: each row in the case in which it acts; a measurement's end by its result, and in range by whether the spare was measured. -/
theorem calibrationStepsComplete : Obligations.CalibrationStepsComplete :=
  ⟨fun _ _ => execCalibrationStepStart_due, fun _ _ => execCalibrationHandOver_due,
    fun _ _ hc hp ht => ⟨fun hj _ => execCalibrationMeasurementEnd_spare hc hp ht hj, fun hj _ => execCalibrationMeasurementEnd_slice hc hp ht hj,
      fun _ => execCalibrationMeasurementEnd_fails hc hp ht⟩,
    fun _ _ => execCalibrationHandBack_due⟩

end Sys2Proof
end

section
-- One proof after another, as above: elaborated side by side they wait for the same lemmas, each with a thread and its stack.
set_option Elab.async false

/-!
SUPPORT. The rows of the window comparators, the chains' frames, the trigger units' hold-off and the capture sessions in the cases in which
they act (R288, R303, R307, R314 to R318, R495).
-/
namespace Sys2Proof.Machine

open Sys2Proof

variable {s : State} {k : SessId}

/-! ## Window comparators (R288, R290) -/

section
variable {ch : ChanId} {uv : Int} (ha : s.anaRuns = true)
include ha

theorem execWindowComparatorAsserted_crosses (hw : s.window ch = false) (hu : s.winAsserts ch uv = true) :
    execWindowComparatorAsserted ch uv s = .next (settle s (assertWindow ch s)) := by
  simp only [execWindowComparatorAsserted, ha, hw, hu, Bool.not_false, Bool.and_self, if_true]

theorem execWindowComparatorRelease_inside (hw : s.window ch = true) (hu : s.winReleases ch uv = true) :
    execWindowComparatorRelease ch uv s = .next (settle s (setWindow ch false s)) := by
  simp only [execWindowComparatorRelease, ha, hw, hu, Bool.and_self, if_true]

end

theorem assertWindow_quiet {ch : ChanId} (h : s.onceMs (s.channels[ch]).winEvent = false) : assertWindow ch s = setWindow ch true s := by
  simp only [assertWindow, h, Bool.false_eq_true, if_false]

theorem assertWindow_reports {ch : ChanId} (h : s.onceMs (s.channels[ch]).winEvent = true) :
    assertWindow ch s = (raise (srcBank (bankOf ch) 2) evBank2Window (BitVec.ofNat 32 ch.val) 0 (setWindow ch true s)).modChan ch fun x =>
      { x with winEvent := some s.now } := by
  rw [assertWindow, if_pos h]

/-! ## Chain frames and hold-off (R303, R307) -/

theorem execChainFrameFlush_due {n : ChainId} (hu : (s.chains[n]).unsent ≠ []) (ht : (s.chains[n]).unsentAt + s.rf (rFltOut n) 0 16 ≤ s.now) :
    execChainFrameFlush n s = .next (chainFlush n s) := by
  have hsome : (s.chains[n]).unsent.isEmpty = false := List.isEmpty_eq_false_iff.2 hu
  simp only [execChainFrameFlush, hsome, ht, decide_true, Bool.not_false, Bool.and_self, if_true]

theorem execTriggerHoldOffEnd_due {u : TrigId} (hs : s.trigs[u].state = .holdOff) (hm : s.rb (rCapTrgCtrl u) 6 = false)
    (ht : s.trigs[u].holdEnd ≤ s.now) : execTriggerHoldOffEnd u s = .next (s.modTrig u fun t => { t with state := .armed }) := by
  simp only [execTriggerHoldOffEnd, hs, hm, ht, Bool.not_false, and_self, if_true]

/-! ## A session's trigger and end (R315 to R318) -/

theorem execCaptureTrigger_judges {n : Notice} {rest : List Notice} {l : Word32} (hn : (s.sessions[k]).notices = n :: rest)
    (hl : (s.sessions[k]).lastId = some l) (ha : (s.sessions[k]).state = .armed) (hc : s.power.cRun = true)
    (hd : 0 ≤ idDiff l ((s.sessions[k]).noticeId n)) : execCaptureTrigger k s = .next (judgeNotice k n s) := by
  simp only [execCaptureTrigger, hn, hl, ha, hc, hd, and_self, if_true]

section
variable (ha : (s.sessions[k]).active = true) (hc : s.power.cRun = true)
include ha hc

theorem execCaptureDone_full (hf : (s.sessions[k]).full = true) :
    execCaptureDone k s = .next (settle s (endSession k (if (s.sessions[k]).clamped then stClamped else stOk) false s)) := by
  simp only [execCaptureDone, ha, hc, hf, Bool.not_true, Bool.or_self, Bool.false_eq_true, if_false, if_true]

theorem execCaptureDone_stops (hf : (s.sessions[k]).full = false) (hr : (s.sessions[k]).stopReq ≠ []) (hn : (s.sessions[k]).accCount = 0) :
    execCaptureDone k s = .next (settle s (endSession k stOk true s)) := by
  have hasked : (s.sessions[k]).stopReq.isEmpty = false := List.isEmpty_eq_false_iff.2 hr
  simp only [execCaptureDone, ha, hc, hf, hasked, hn, Bool.not_true, Bool.not_false, Bool.or_self, Bool.false_eq_true, and_self, if_false,
    if_true]

end

/-! ## A session's progress (R314, R495) -/

theorem readLine_refreshing (n : Nat) (e : SymErr) (r : BitVec 8) (y : BitVec 4) (s : State) :
    (readLine n e r y s).refreshing = s.refreshing := by
  unfold readLine
  dsimp only
  split <;> exact raise_alerts.keeps State.refreshing

/-- A write to package memory leaves the refresh as it is, whatever errors its lines hold. -/
theorem write_refreshing (r : BitVec 8) (a : Nat) (l : List Byte) (s : State) : (s.write r a l).refreshing = s.refreshing := by
  have hread (x : List (Nat × SymErr)) : (forList (fun e t => readLine e.1 e.2 r 2 t) x s).refreshing = s.refreshing :=
    forList_keeps State.refreshing (fun _ _ => readLine_refreshing _ _ _ _ _) x s
  unfold State.write injectLine
  dsimp only
  split <;> exact hread _

theorem captureStore_direct (a : Nat) (l : List Byte) (h : s.refreshing = false) : captureStore a l s = s.write 0x04 a l := by
  rw [captureStore, if_neg (by rw [h]; exact Bool.false_ne_true)]

/-- Stores that the capture writer's buffer takes, in order (R495). -/
def bufferCapture (l : List (Nat × List Byte)) (s : State) : State := s.modArb fun x => { x with capBuf := x.capBuf ++ l }

theorem bufferCapture_append (l m : List (Nat × List Byte)) (s : State) :
    bufferCapture m (bufferCapture l s) = bufferCapture (l ++ m) s := by
  simp only [bufferCapture, State.modArb, List.append_assoc]

theorem captureStore_buffered (a : Nat) (l : List Byte) (h : s.refreshing = true) : captureStore a l s = bufferCapture [(a, l)] s := by
  rw [captureStore, if_pos h, bufferCapture]

theorem captureStore_refreshing (a : Nat) (l : List Byte) (s : State) : (captureStore a l s).refreshing = s.refreshing := by
  rw [captureStore]
  split
  · rfl
  · exact write_refreshing _ _ _ _

/-- The capture writer stores the header's fields that tell a session's progress (R314). -/
def storeProgress (k : SessId) (y : Session) (s : State) : State :=
  captureStore (y.bufAddr + 44) (bytesAt (y.header k) 44 4) (captureStore (y.bufAddr + 28) (bytesAt (y.header k) 28 4)
    (captureStore (y.bufAddr + 16) (bytesAt (y.header k) 16 8) s))

theorem storeProgress_direct (y : Session) (h : s.refreshing = false) : storeProgress k y s =
    ((s.write 0x04 (y.bufAddr + 16) (bytesAt (y.header k) 16 8)).write 0x04 (y.bufAddr + 28) (bytesAt (y.header k) 28 4)).write 0x04
      (y.bufAddr + 44) (bytesAt (y.header k) 44 4) := by
  rw [storeProgress, captureStore_direct _ _ (by rwa [captureStore_refreshing, captureStore_refreshing]),
    captureStore_direct _ _ (by rwa [captureStore_refreshing]), captureStore_direct _ _ h]

theorem storeProgress_buffered (y : Session) (h : s.refreshing = true) : storeProgress k y s =
    bufferCapture [(y.bufAddr + 16, bytesAt (y.header k) 16 8), (y.bufAddr + 28, bytesAt (y.header k) 28 4),
      (y.bufAddr + 44, bytesAt (y.header k) 44 4)] s := by
  rw [storeProgress, captureStore_buffered _ _ (by rwa [captureStore_refreshing, captureStore_refreshing]),
    captureStore_buffered _ _ (by rwa [captureStore_refreshing]), captureStore_buffered _ _ h, bufferCapture_append, bufferCapture_append]
  rfl

theorem execCaptureProgressWrite_due {y : Session} (ha : (s.sessions[k]).active = true) (hc : s.power.cRun = true)
    (ht : (s.sessions[k]).progressAt + msTicks 1 ≤ s.now) (hy : y = { (s.sessions[k]).progress with progressAt := s.now }) :
    execCaptureProgressWrite k s = .next (settle s ((storeProgress k y s).modSess k fun _ => y)) := by
  subst hy
  simp only [execCaptureProgressWrite, ha, hc, ht, decide_true, Bool.and_self, if_true]
  rfl

end Sys2Proof.Machine

namespace Sys2Proof

open Sys2Proof.Machine

/-- Settles O32: each row in the case in which it acts; a comparator's event by the time since its last one, a session's end by whether it
is full, and its progress by whether a refresh has the memory. -/
theorem windowChainCaptureStepsComplete : Obligations.WindowChainCaptureStepsComplete := by
  refine ⟨fun ch uv s ha hw hu he => ?_, fun ch uv s ha hw hu he => ?_, fun ch uv s => execWindowComparatorRelease_inside,
    fun n s => execChainFrameFlush_due, fun u s => execTriggerHoldOffEnd_due, fun k n rest l s => execCaptureTrigger_judges,
    fun k s => execCaptureDone_full, fun k s => execCaptureDone_stops, fun k y s ha hc hr ht hy => ?_, fun k y s ha hc hr ht hy => ?_⟩
  · rw [← assertWindow_quiet he]
    exact execWindowComparatorAsserted_crosses ha hw hu
  · rw [← assertWindow_reports he]
    exact execWindowComparatorAsserted_crosses ha hw hu
  · rw [← storeProgress_direct y hr]
    exact execCaptureProgressWrite_due ha hc ht hy
  · refine ⟨(storeProgress k y s).modSess k fun _ => y, execCaptureProgressWrite_due ha hc ht hy, ?_⟩
    rw [storeProgress_buffered y hr]
    exact ⟨rfl, upd_same _ k _, rfl⟩

end Sys2Proof
end

section
-- One proof after another, as above: elaborated side by side they wait for the same lemmas, each with a thread and its stack.
set_option Elab.async false

/-!
SUPPORT. The capture commands (R312, R318, R319) and the writes to a chain's source and a trigger unit's registers (R298, R306, R308) in
the cases in which they act.
-/
namespace Sys2Proof.Machine

open Sys2Proof

variable {s : State} {k : Slot} {n : SessId}

/-- The row of an immediate command whose turn has come, of which the case that it is in is known. -/
theorem immediate_applies {op : Nat} {f : State → State} {t : State} (hm : s.mayApply k op = true) (ht : f s = t) :
    immediate k op f s = .next (settle s t) := by
  subst ht
  rw [immediate, if_pos hm]

/-! ## CAPTURE_ARM (R312) -/

/-- An untimed CAPTURE_ARM that names a trigger unit arms the free session with the operands given. -/
theorem doCaptureArm_arms {x : Session} (hf : s.freeSession = some n) (hu : s.isTimed k = false)
    (hx : x = armOperands (s.desc k) { gen := (s.sessions[n]).gen + 1, words := (s.sessions[n]).words, armTick := s.now, progressAt := s.now,
                                       state := .armed, atTime := 0 })
    (hr : s.armRange x = none) (ht : x.trigger ≠ 15) :
    doCaptureArm k s = finishOk k (BitVec.ofNat 64 (sessId n x.gen + 2 ^ 32 * x.cap))
      ((modEntry k (fun e => { e with targetIndex := BitVec.ofNat 8 n.val }) s).modSess n fun _ => x) := by
  subst hx
  simp only [doCaptureArm, hf, hu, hr, ht, Bool.false_eq_true, if_false]

/-! ## CAPTURE_STOP (R318) -/

theorem doCaptureStop_active (hn : s.namedSession (s.desc k) = some n) (ha : (s.sessions[n]).active = true) :
    doCaptureStop k s = applying k (s.modSess n fun x => { x with stopReq := x.stopReq ++ [k] }) := by
  simp only [doCaptureStop, hn, ha, if_true]

theorem doCaptureStop_ended (hn : s.namedSession (s.desc k) = some n) (ha : (s.sessions[n]).active = false) :
    doCaptureStop k s = finishOk k 0 (s.modSess n fun x => { x with state := .free }) := by
  simp only [doCaptureStop, hn, ha, Bool.false_eq_true, if_false]

/-! ## CAPTURE_COPY (R319) -/

/-- The row of CAPTURE_COPY while the link is up and no refresh has the memory (R495, R576). -/
theorem execCaptureCopy_linkUp (hh : s.host.up = true) (he : s.host.endpointReset = false) (hr : s.refreshing = false) :
    execCaptureCopy k s = immediate k 0x11 (doCaptureCopy k) s := by
  simp only [execCaptureCopy, hh, he, hr, Bool.not_false, Bool.and_self, if_true]

/-- A copy that keeps its session, of which every line can be read. -/
theorem doCaptureCopy_copies {size : Nat} {t : State} (hn : s.namedSession (s.desc k) = some n) (he : (s.sessions[n]).state = .ended)
    (hz : size = 64 + (s.sessions[n]).stored * (s.sessions[n]).recSize) (ha : leAt (s.desc k) 24 8 % 64 = 0)
    (hs : hostSpan (leAt (s.desc k) 24 8) size = true) (hl : size ≤ leAt (s.desc k) 32 4)
    (hq : readSpans (s.sessions[n]).spans (flushCapture s) = (none, t)) (hk : dByte (s.desc k) 17 % 2 = 0) :
    doCaptureCopy k s = finishOk k (BitVec.ofNat 64 size)
      (hostWrite (BitVec.ofNat 64 (leAt (s.desc k) 24 8)) ((s.sessions[n]).spans.flatMap fun p => t.bytes p.1 p.2) t) := by
  subst hz
  have hfits : ¬leAt (s.desc k) 32 4 < 64 + (s.sessions[n]).stored * (s.sessions[n]).recSize := Nat.not_lt.2 hl
  have hkept : ¬dByte (s.desc k) 17 % 2 = 1 := by omega
  simp only [doCaptureCopy, hn, he, ha, hs, hq, hfits, hkept, ne_eq, not_true_eq_false, Bool.not_true, Bool.false_eq_true, or_self, if_false]

/-! ## FLT_n_SRC (R298) -/

section
variable {c : ChainId} {v : Word32}

theorem writeFltSrc_switches (h : fld (s.reg (rFltSrc c)) 0 6 ≠ fld ((writeWord (rFltSrc c) v s).reg (rFltSrc c)) 0 6) :
    writeFltSrc c v s = (writeWord (rFltSrc c) v s).modChain c fun x => { x with restart := some 1, prevX := none, prevCount := none } := by
  rw [writeFltSrc, if_pos h]

theorem writeFltSrc_freezes (h : fld (s.reg (rFltSrc c)) 0 6 = fld ((writeWord (rFltSrc c) v s).reg (rFltSrc c)) 0 6)
    (hf : bitAt ((writeWord (rFltSrc c) v s).reg (rFltSrc c)) 6 = true) : writeFltSrc c v s = writeWord (rFltSrc c) v s := by
  simp only [writeFltSrc, ← h, hf, ne_eq, not_true_eq_false, Bool.not_true, Bool.and_false, Bool.false_eq_true, if_false]

theorem writeFltSrc_unfreezes (h : fld (s.reg (rFltSrc c)) 0 6 = fld ((writeWord (rFltSrc c) v s).reg (rFltSrc c)) 0 6)
    (ho : bitAt (s.reg (rFltSrc c)) 6 = true) (hf : bitAt ((writeWord (rFltSrc c) v s).reg (rFltSrc c)) 6 = false) :
    writeFltSrc c v s = (writeWord (rFltSrc c) v s).modChain c fun x => { x with restart := some (x.restart.getD 2) } := by
  simp only [writeFltSrc, ← h, ho, hf, ne_eq, not_true_eq_false, Bool.not_false, Bool.and_self, if_false, if_true]

end

/-! ## The registers of a trigger unit (R306, R308) -/

/-- A setting that is valid, of a unit that watches a sample: it clears CFG_ERR and waits for the next sample. -/
theorem writeTrg_valid {u : TrigId} {off : Nat} {v : Word32} {t : State}
    (ht : t = (writeWord off v s).modTrig u fun x => { x with written := true }) (hv : t.trgInvalid u = false)
    (hk : 1 ≤ (t.modTrig u fun x => { x with cfgErr := false }).trgKind u ∧ (t.modTrig u fun x => { x with cfgErr := false }).trgKind u ≤ 4) :
    writeTrg u off v s = t.modTrig u fun x => { x with cfgErr := false } := by
  subst ht
  simp only [writeTrg, hv, hk, Bool.false_and, Bool.false_eq_true, and_self, if_false, if_true]

end Sys2Proof.Machine

namespace Sys2Proof

open Sys2Proof.Machine

/-- Settles O5: each command in the case in which it acts; a CAPTURE_STOP by whether its session is active. -/
theorem captureCommandsComplete : Obligations.CaptureCommandsComplete :=
  ⟨fun _ _ _ _ hm hf hu hx hr ht => immediate_applies hm (doCaptureArm_arms hf hu hx hr ht),
    fun _ _ _ hm hn ha => immediate_applies hm (doCaptureStop_active hn ha),
    fun _ _ _ hm hn ha => immediate_applies hm (doCaptureStop_ended hn ha),
    fun _ _ _ _ _ hh hp hm hn he hr hz ha hs hl hq hk =>
      (execCaptureCopy_linkUp hh hp hr).trans (immediate_applies hm (doCaptureCopy_copies hn he hz ha hs hl hq hk))⟩

/-- Settles O14: every write reaches its register; that of FLT_n_SRC by what it changes of the channel and of FREEZE. -/
theorem chainAndTriggerWritesComplete : Obligations.ChainAndTriggerWritesComplete := fun _ hr hc hp =>
  ⟨fun _ _ hn => wordRow_reaches hr hc (.inr hp) (writeFltSrc_switches hn),
    fun _ _ hn hf => wordRow_reaches hr hc (.inr hp) (writeFltSrc_freezes hn hf),
    fun _ _ hn ho hf => wordRow_reaches hr hc (.inr hp) (writeFltSrc_unfreezes hn ho hf),
    fun _ _ _ _ ht hv hk => wordRow_reaches hr hc (.inr hp) (writeTrg_valid ht hv (by omega)),
    fun _ => wordRow_reaches hr hc (.inr hp) rfl⟩

end Sys2Proof
end

section
-- One proof after another, as above: elaborated side by side they wait for the same lemmas, each with a thread and its stack.
set_option Elab.async false

/-!
SUPPORT. The end of a command (R358, R361, R363): what its effect leaves of the journal and of package memory above the context table, its outcome
record, and the entry that it closes.
-/
namespace Sys2Proof.Machine

open Sys2Proof

variable {s t : State} {k j : Slot} {e x : JEntry}

/-! ## Entries -/

theorem slot_of_entry (h : s.entry k = some e) : e.slot = k := by
  simpa using List.find?_some h

/-- A change of each entry for itself, which leaves the slots as they are, changes what a slot holds alike. -/
theorem entry_of_map {g : JEntry → JEntry} (hg : ∀ x, (g x).slot = x.slot) (h : t.rings.journal = s.rings.journal.map g) :
    t.entry k = (s.entry k).map g := by
  rw [State.entry, h, List.find?_map]
  simp only [Function.comp_def, hg]
  rfl

theorem entry_of_journal (h : t.rings.journal = s.rings.journal) : t.entry k = s.entry k := by
  rw [State.entry, h, State.entry]

/-- The entries, the commands that wait to be posted, and whether the C-die runs. -/
def State.ledger (s : State) : List JEntry × List Slot × Bool := (s.rings.journal, s.rings.finished, s.power.cRun)

theorem wroteJournal_ledger (n : Nat) (s : State) : (wroteJournal n s).ledger = s.ledger := by
  unfold wroteJournal
  dsimp only
  split <;> rfl

theorem modEntry_journal (f : JEntry → JEntry) :
    (modEntry k f s).rings.journal = s.rings.journal.map fun x => if x.slot = k then f x else x :=
  congrArg Prod.fst (wroteJournal_ledger k.val _)

theorem modEntry_finished (f : JEntry → JEntry) : (modEntry k f s).rings.finished = s.rings.finished :=
  congrArg (fun l => l.2.1) (wroteJournal_ledger k.val _)

theorem modEntry_cRun (f : JEntry → JEntry) : (modEntry k f s).power.cRun = s.power.cRun :=
  congrArg (fun l => l.2.2) (wroteJournal_ledger k.val _)

theorem modEntry_mem (f : JEntry → JEntry) : (modEntry k f s).mem = s.mem := by
  unfold modEntry wroteJournal
  dsimp only
  split <;> rfl

theorem modEntry_entry {f : JEntry → JEntry} (hf : ∀ x, (f x).slot = x.slot) :
    (modEntry k f s).entry j = (s.entry j).map fun x => if x.slot = k then f x else x :=
  entry_of_map (fun x => by split <;> simp only [hf]) (modEntry_journal f)

theorem modEntry_entry_same {f : JEntry → JEntry} (hf : ∀ x, (f x).slot = x.slot) (h : s.entry k = some x) :
    (modEntry k f s).entry k = some (f x) := by
  rw [modEntry_entry hf, h, Option.map_some, if_pos (slot_of_entry h)]

theorem modEntry_entry_other {f : JEntry → JEntry} (hf : ∀ x, (f x).slot = x.slot) (hj : j ≠ k) (h : s.entry j = some x) :
    (modEntry k f s).entry j = some x := by
  rw [modEntry_entry hf, h, Option.map_some, if_neg (by rwa [slot_of_entry h])]

/-- An overtaken entry takes its mark and nothing else. -/
theorem markOvertaken_entry (h : s.entry j = some x) : ∃ o, (markOvertaken e s).entry j = some { x with ooo := o } := by
  have hm : (markOvertaken e s).entry j = (s.entry j).map fun x => if s.overtakes e x then { x with ooo := true } else x :=
    entry_of_map (fun x => by split <;> rfl) rfl
  rw [hm, h, Option.map_some]
  split
  · exact ⟨true, rfl⟩
  · exact ⟨x.ooo, rfl⟩

/-! ## Writes to package memory -/

theorem readLine_ledger (n : Nat) (e : SymErr) (r : BitVec 8) (y : BitVec 4) (s : State) : (readLine n e r y s).ledger = s.ledger := by
  unfold readLine
  dsimp only
  split <;> exact raise_alerts.keeps State.ledger

theorem write_ledger (r : BitVec 8) (a : Nat) (l : List Byte) (s : State) : (s.write r a l).ledger = s.ledger := by
  have hread (x : List (Nat × SymErr)) : (forList (fun e t => readLine e.1 e.2 r 2 t) x s).ledger = s.ledger :=
    forList_keeps State.ledger (fun _ _ => readLine_ledger _ _ _ _ _) x s
  unfold State.write injectLine
  dsimp only
  split <;> exact hread _

/-- What a block write takes its bytes by: memory and the lines that are initialised (R535). -/
def State.cells (s : State) : List Host.Cell × Bool × List Nat := (s.mem, s.power.memInit, s.initLines)

theorem readLine_cells (n : Nat) (e : SymErr) (r : BitVec 8) (y : BitVec 4) (s : State) : (readLine n e r y s).cells = s.cells := by
  unfold readLine
  dsimp only
  split <;> exact raise_alerts.keeps State.cells

theorem store_mem_of_cells (a : Nat) (l : List Byte) (h : t.cells = s.cells) : (t.store a l).mem = (s.store a l).mem := by
  obtain ⟨hm, hi, hn⟩ : t.mem = s.mem ∧ t.power.memInit = s.power.memInit ∧ t.initLines = s.initLines := by
    simpa only [State.cells, Prod.mk.injEq] using h
  have hready : t.lineReady = s.lineReady := by
    funext n
    rw [State.lineReady, hi, hn, State.lineReady]
  have hbyte : t.byte = s.byte := by
    funext n
    rw [State.byte, hm, State.byte]
  rw [State.store_mem, State.store_mem, State.taken, hm, hi, hready, hbyte, State.taken]

/-- Symbol errors in the lines that a write covers leave the bytes that it writes as they are. -/
theorem write_mem (r : BitVec 8) (a : Nat) (l : List Byte) (s : State) : (s.write r a l).mem = (s.store a l).mem := by
  have hstore (x : List (Nat × SymErr)) : ((forList (fun e t => readLine e.1 e.2 r 2 t) x s).store a l).mem = (s.store a l).mem :=
    store_mem_of_cells a l (forList_keeps State.cells (fun _ _ => readLine_cells _ _ _ _ _) x s)
  unfold State.write injectLine
  dsimp only
  split <;> exact hstore _

theorem byte_of_mem (h : t.mem = s.mem) (a : Nat) : t.byte a = s.byte a := by rw [State.byte, h, State.byte]

theorem write_wf (r : BitVec 8) (a : Nat) (l : List Byte) (h : Memory.wf s.mem = true) : Memory.wf (s.write r a l).mem = true := by
  rw [write_mem]
  exact store_wf s a l h

theorem byte_write_outside {r : BitVec 8} {a i : Nat} {l : List Byte} (h : Memory.wf s.mem = true) (hi : i < a ∨ a + l.length ≤ i) :
    (s.write r a l).byte i = s.byte i :=
  (byte_of_mem (write_mem r a l s) i).trans (byte_store_outside s a i l h hi)

/-- A write to the memory that the start-up initialises stands there byte for byte (R534). -/
theorem byte_write_inside {r : BitVec 8} {a i : Nat} {l : List Byte} (h : Memory.wf s.mem = true) (ha : a + l.length ≤ 0x150000)
    (hi : i < l.length) : (s.write r a l).byte (a + i) = l[i] := by
  rw [byte_of_mem (write_mem r a l s), byte_store_inside s a i l h hi, taken_getElem s a i l hi,
    if_pos (by simp only [decide_eq_true ha, Bool.or_true, Bool.true_or])]

/-! ## The ASN words of a target (R364, R577) -/

theorem storeCtxWords_ledger (c : Nat) (w : AsnWords) (s : State) : (storeCtxWords c w s).ledger = s.ledger :=
  (write_ledger _ _ _ _).trans (write_ledger _ _ _ s)

theorem recordTarget_ledger (e : JEntry) (s : State) : (recordTarget e s).ledger = s.ledger := by
  unfold recordTarget
  dsimp only
  split
  · split
    · exact storeCtxWords_ledger _ _ s
    · rfl
  · exact forList_keeps State.ledger (by intros; rfl) _ s
  · split <;> rfl
  · split <;> rfl
  · split <;> rfl
  · rfl
  · exact forList_keeps State.ledger (by intros; rfl) _ s
  · rfl
  · rfl

theorem storeCtxWords_byte {c i : Nat} {w : AsnWords} (hc : c < 256) (hi : 0x80000 ≤ i) (h : Memory.wf s.mem = true) :
    (storeCtxWords c w s).byte i = s.byte i := by
  have hend : ctxAddr c + 0x800 ≤ i := by unfold ctxAddr; omega
  rw [storeCtxWords, byte_write_outside (write_wf _ _ _ h) (.inr (by rw [leBytes_length]; omega)),
    byte_write_outside h (.inr (by rw [leBytes_length]; omega))]

/-- The ASN words of contexts stand in the context table, the others not in package memory. -/
theorem recordTarget_byte {i : Nat} (hi : 0x80000 ≤ i) (h : Memory.wf s.mem = true) : (recordTarget e s).byte i = s.byte i := by
  unfold recordTarget
  dsimp only
  split
  · split
    · next hc => exact storeCtxWords_byte hc hi h
    · rfl
  · exact byte_of_mem (forList_keeps State.mem (by intros; rfl) _ s) i
  · split <;> rfl
  · split <;> rfl
  · split <;> rfl
  · rfl
  · exact byte_of_mem (forList_keeps State.mem (by intros; rfl) _ s) i
  · rfl
  · rfl

/-! ## The end of a command (R358, R361, R363) -/

/-- What the end of a command brings before its entry is closed: where the command has taken effect, its mark on the entries that it overtakes, its
outcome record and itself on its target; else nothing. -/
def takeEffect (b : Bool) (k : Slot) (e : JEntry) (p : Word16 × Word32) (r : Word64) (s : State) : State :=
  let o := { e with ooo := s.overtaken e }
  if b then recordTarget o ((markOvertaken o s).write 0x02 (outcomeAddr k) (outcomeRecord e.asn p.1 p.2 r)) else s

theorem outcomeRecord_length (n : Word32) (st : Word16) (d : Word32) (r : Word64) : (outcomeRecord n st d r).length = 32 := by
  simp only [outcomeRecord, List.length_append, leBytes_length]

theorem takeEffect_ledger (k : Slot) (e : JEntry) (p : Word16 × Word32) (r : Word64) (s : State) :
    (takeEffect true k e p r s).ledger = (markOvertaken { e with ooo := s.overtaken e } s).ledger :=
  (recordTarget_ledger _ _).trans (write_ledger _ _ _ _)

theorem takeEffect_entry (b : Bool) (k : Slot) (e : JEntry) (p : Word16 × Word32) (r : Word64) (h : s.entry j = some x) :
    ∃ o, (takeEffect b k e p r s).entry j = some { x with ooo := o } := by
  cases b with
  | false => exact ⟨x.ooo, h⟩
  | true =>
    rw [entry_of_journal (congrArg Prod.fst (takeEffect_ledger k e p r s))]
    exact markOvertaken_entry h

theorem takeEffect_finished (b : Bool) (k : Slot) (e : JEntry) (p : Word16 × Word32) (r : Word64) (s : State) :
    (takeEffect b k e p r s).rings.finished = s.rings.finished := by
  cases b with
  | false => rfl
  | true => exact congrArg (fun l => l.2.1) (takeEffect_ledger k e p r s)

theorem takeEffect_cRun (b : Bool) (k : Slot) (e : JEntry) (p : Word16 × Word32) (r : Word64) (s : State) :
    (takeEffect b k e p r s).power.cRun = s.power.cRun := by
  cases b with
  | false => rfl
  | true => exact congrArg (fun l => l.2.2) (takeEffect_ledger k e p r s)

theorem takeEffect_byte {p : Word16 × Word32} {r : Word64} {i : Nat} (h : Memory.wf s.mem = true)
    (hi : i < (outcomeRecord e.asn p.1 p.2 r).length) :
    (takeEffect true k e p r s).byte (outcomeAddr k + i) = (outcomeRecord e.asn p.1 p.2 r)[i] := by
  have hk := k.isLt
  have ha : outcomeAddr k = 0x110000 + 32 * k.val := rfl
  have hl := outcomeRecord_length e.asn p.1 p.2 r
  have hw : Memory.wf (markOvertaken { e with ooo := s.overtaken e } s).mem = true := h
  rw [takeEffect, if_pos rfl, recordTarget_byte (by omega) (write_wf _ _ _ hw), byte_write_inside hw (by omega) hi]

/-- The entry of a command that has ended at time `n`. -/
def JEntry.closed (o : Bool) (p : Word16 × Word32) (r n : Word64) (x : JEntry) : JEntry :=
  { x with ooo := o, state := .applied, status := p.1, detail := p.2, result := r, doneAt := n }

theorem closed_slot (o : Bool) (p : Word16 × Word32) (r n : Word64) (x : JEntry) : (x.closed o p r n).slot = x.slot := rfl

section
variable {st : Word16} {d : Word32} {r : Word64} {b : Bool} (he : s.entry k = some e) (hc : s.power.cRun = true)
include he hc

/-- The end of a command: its effect where it has one, its entry, and its place among those that wait to be posted. -/
theorem finish_closes (ht : t = takeEffect b k e (s.lateStatus k st d) r s) :
    ∃ f : Rings → Rings, (∀ g, (f g).journal = g.journal ∧ (f g).finished = g.finished ++ [k]) ∧
      finish k st d r b s = (modEntry k (JEntry.closed (s.overtaken e) (s.lateStatus k st d) r t.cTimeNs) t).modRings f := by
  unfold finish
  split
  case h_1 hn => rw [he] at hn; cases hn
  case h_2 y hy =>
  obtain rfl : e = y := Option.some.inj (he.symm.trans hy)
  extract_lets o p re record u v
  have hrec : record (markOvertaken o s) = (markOvertaken o s).write 0x02 (outcomeAddr k) (outcomeRecord o.asn p.1 p.2 r) := if_pos hc
  have hu : u = t := by rw [ht, takeEffect, ← hrec]
  have hv : v.power.cRun = true := by
    have hvu : v.power.cRun = u.power.cRun := modEntry_cRun _
    rw [hvu, hu, ht, takeEffect_cRun, hc]
  rw [if_pos hv, ← hu]
  exact ⟨fun g => { g with
    work := g.work.filter fun w => w.slot ≠ k, finished := g.finished ++ [k], rePost := g.rePost ++ re.toList
    reapplied := satAdd g.reapplied re.toList.length }, fun _ => ⟨rfl, rfl⟩, rfl⟩

theorem finish_entry_same : ∃ n, (finish k st d r b s).entry k = some (e.closed (s.overtaken e) (s.lateStatus k st d) r n) := by
  obtain ⟨f, hf, hfin⟩ := finish_closes (st := st) (d := d) (r := r) (b := b) he hc rfl
  obtain ⟨o, ho⟩ := takeEffect_entry b k e (s.lateStatus k st d) r he
  rw [hfin, entry_of_journal (hf _).1, modEntry_entry_same (closed_slot _ _ _ _) ho]
  exact ⟨_, rfl⟩

theorem finish_entry_other (hj : j ≠ k) (hx : s.entry j = some x) : ∃ o, (finish k st d r b s).entry j = some { x with ooo := o } := by
  obtain ⟨f, hf, hfin⟩ := finish_closes (st := st) (d := d) (r := r) (b := b) he hc rfl
  obtain ⟨o, ho⟩ := takeEffect_entry b k e (s.lateStatus k st d) r hx
  rw [hfin, entry_of_journal (hf _).1, modEntry_entry_other (closed_slot _ _ _ _) hj ho]
  exact ⟨o, rfl⟩

theorem finish_finished : (finish k st d r b s).rings.finished = s.rings.finished ++ [k] := by
  obtain ⟨f, hf, hfin⟩ := finish_closes (st := st) (d := d) (r := r) (b := b) he hc rfl
  rw [hfin]
  refine (hf _).2.trans ?_
  rw [modEntry_finished, takeEffect_finished]

theorem finish_mem : (finish k st d r b s).mem = (takeEffect b k e (s.lateStatus k st d) r s).mem := by
  obtain ⟨f, -, hfin⟩ := finish_closes (st := st) (d := d) (r := r) (b := b) he hc rfl
  rw [hfin]
  exact modEntry_mem _

end

end Sys2Proof.Machine

namespace Sys2Proof

open Sys2Proof.Machine

/-- Settles O56: the end of a command closes its entry alone, and after the outcome record it writes nothing above the context table. -/
theorem finishRecordsOutcome : Obligations.FinishRecordsOutcome := by
  intro k st d r b e s he hc
  refine ⟨?_, finish_finished he hc, fun j x hj hx => finish_entry_other he hc hj hx, fun hb hw i hi => ?_, fun hb => ?_⟩
  · obtain ⟨n, hn⟩ := finish_entry_same (st := st) (d := d) (r := r) (b := b) he hc
    exact ⟨_, hn, rfl, rfl, rfl, rfl, rfl, rfl, rfl⟩
  · subst hb
    exact (byte_of_mem (finish_mem he hc) _).trans (takeEffect_byte hw hi)
  · subst hb
    exact finish_mem he hc

end Sys2Proof
end

section
-- One proof after another, as above: elaborated side by side they wait for the same lemmas, each with a thread and its stack.
set_option Elab.async false

/-!
SUPPORT. NOP, BARRIER, the commands on Weirs and on the pair, the Seal, and the steps of the rings in the cases in which they act (R331 to R362, R430,
R431, R507 to R509).
-/
namespace Sys2Proof.Machine

open Sys2Proof

variable {s : State} {k : Slot}

/-! ## BARRIER (R347) -/

theorem doBarrier_met (h : s.barrierMet k = true) : doBarrier k s = finishOk k 0 s := if_pos h

theorem doBarrier_unmet (h : s.barrierMet k = false) : doBarrier k s = s := if_neg (Bool.eq_false_iff.1 h)

/-! ## Weirs (R507 to R509) -/

section
variable {n : WeirId} (hn : dByte (s.desc k) 16 = n.val)
include hn

/-- The Weir named, which ranks above all that the ring holds, is granted where it is free, else waited for. -/
theorem doWeirAcquire_ranked (hr : ∀ m ∈ s.weirsOf (s.ownerOf k), m < n) : doWeirAcquire k s =
    if s.weirs[n].owner.isNone then grantWeir n (s.ownerOf k) (some k) s
    else (modWork k (fun w => { w with kind := .applying }) s).modWeir n fun w =>
      { w with waiters := insWaiter (s.ownerOf k, some k, s.now) w.waiters } := by
  have hlt : dByte (s.desc k) 16 < 32 := hn ▸ n.isLt
  have hid : (⟨dByte (s.desc k) 16, hlt⟩ : WeirId) = n := Fin.ext hn
  have hrank : ((s.weirsOf (s.ownerOf k)).any fun m => decide (n ≤ m)) = false :=
    List.any_eq_false.2 fun m hm => by simpa using hr m hm
  simp only [doWeirAcquire, dif_pos hlt, hid, hrank, Bool.false_eq_true, if_false]

theorem doWeirRelease_owned (ho : s.weirs[n].owner = some (s.ownerOf k)) (hg : s.weirs[n].gen.toNat = dByte (s.desc k) 17 % 16) :
    doWeirRelease k s = passWeir n (s.weirs[n].suspect && !(dByte (s.desc k) 17).testBit 4) (finishOk k 0 s) := by
  have hlt : dByte (s.desc k) 16 < 32 := hn ▸ n.isLt
  have hid : (⟨dByte (s.desc k) 16, hlt⟩ : WeirId) = n := Fin.ext hn
  simp only [doWeirRelease, dif_pos hlt, hid, ho, hg, and_self, if_true]

end

/-! ## PAIR_SWAP and PAIR_RESYNC (R430, R431) -/

theorem doPairSwap_asks (hl : s.swapLeft k ≠ [])
    (h : (∀ r ∈ s.swapMask k, s.maySwap r = true) ∨ (s.swapLeft k).length < (s.swapMask k).length) : doPairSwap k s =
      applying k (forList (fun r t => t.modRegion r fun g => { g with swapReq := g.swapReq ++ [k] }) (s.swapLeft k) s) := by
  have hmay : ¬((s.swapLeft k).length = (s.swapMask k).length ∧ ((s.swapMask k).any fun r => !s.maySwap r) = true) := by
    rintro ⟨hlen, hany⟩
    obtain ⟨r, hr, hn⟩ := List.any_eq_true.1 hany
    rcases h with h | h
    · simp [h r hr] at hn
    · omega
  unfold doPairSwap
  extract_lets l left
  rw [if_neg hmay, if_neg (Bool.eq_false_iff.1 (List.isEmpty_eq_false_iff.2 hl))]

theorem doPairSwap_done (hl : s.swapLeft k = []) (hm : s.swapMask k ≠ []) : doPairSwap k s = finishOk k 0 s := by
  have hlen : ¬0 = (s.swapMask k).length := fun h => hm (List.length_eq_zero_iff.1 h.symm)
  simp only [doPairSwap, hl, List.length_nil, hlen, List.isEmpty_nil, false_and, if_false, if_true]

theorem doPairResync_asks (hm : maskRegions (dByte (s.desc k) 16) ≠ []) (hu : s.pair.up = true)
    (h : ∀ r ∈ maskRegions (dByte (s.desc k) 16), s.isPaired r = true ∧ (s.pair.regions[r]).resyncAt = none) : doPairResync k s =
      applying k (forList (fun r t => t.modPairRegion r fun p =>
        { p with wanted := true, resyncAt := some s.now, resyncCmd := some k, discarded := 0
                 standby := if p.standby = .synced then .resync else p.standby, held := p.held && !p.partnerActive })
        (maskRegions (dByte (s.desc k) 16)) s) := by
  have hfree : ((maskRegions (dByte (s.desc k) 16)).any fun r => !s.isPaired r || (s.pair.regions[r]).resyncAt.isSome) = false :=
    List.any_eq_false.2 fun r hr => by
      simp only [(h r hr).1, (h r hr).2, Option.isSome_none, Bool.not_true, Bool.or_self, Bool.false_eq_true, not_false_eq_true]
  simp only [doPairResync, hu, hfree, List.isEmpty_eq_false_iff.2 hm, Bool.not_true, Bool.or_self, Bool.false_eq_true, if_false]

/-! ## The Seal (R331) -/

theorem writeSeal_met {v : Word32} (hd : s.power.dev = .setup) (h : s.sealChecks (fld v 0 16) = 1) : writeSeal v s = makeSeal s := by
  simp only [writeSeal, hd, h, ne_eq, not_true_eq_false, if_false, if_true]

theorem writeSeal_unmet {v : Word32} (hd : s.power.dev = .setup) (h : s.sealChecks (fld v 0 16) ≠ 1) :
    writeSeal v s = s.modPower fun p => { p with sealResult := s.sealChecks (fld v 0 16) } := by
  simp only [writeSeal, hd, h, ne_eq, not_true_eq_false, if_false]

/-! ## Polling and acceptance (R333, R336, R337, R360) -/

theorem execDoorbellPoll_due (hr : s.ringsRun = true) (hs : s.power.sealed = true)
    (ht : s.rings.polled + usTicks (s.rf rSysDbPoll 0 10) ≤ s.now) : execDoorbellPoll s =
      .next (forAll (fun m t => if t.cqEn m then hostRead (.cqLine m) (t.lineAddr (8 + m.val)) t else t)
        (forAll (fun q t => if t.sqEn q then hostRead (.sqLine q) (t.lineAddr q.val) t else t)
          (s.modRings fun r => { r with polled := s.now, turn := 0, takenInTurn := 0 }))) := by
  simp only [execDoorbellPoll, hr, hs, ht, decide_true, Bool.and_self, if_true]

theorem execDescriptorAccept_takes {q : SqId} {d : List Byte} (hf : s.rings.sq[q].fetched = some d) (hr : s.ringsRun = true)
    (hp : s.pReach = true) (hs : s.power.sealed = true) (he : s.sqEn q = true) (hn : s.rings.sq[q].stopped = false)
    (hb : s.rings.sq[q].readBackFailed = false) (hy : s.replayRuns = false) (hm : s.refreshing = false) (ha : s.acceptRoom q = true)
    (ht : s.sqTurn = some q) (hk : s.freeSlot = some k) : execDescriptorAccept q s = .next (settle s (acceptInto q k d s)) := by
  simp only [execDescriptorAccept, hf, hr, hp, hs, he, hn, hb, hy, hm, ha, ht, hk, Bool.not_true, Bool.not_false, Bool.and_self, ne_eq,
    not_true_eq_false, Bool.false_eq_true, if_false]

theorem execJournalAcknowledge_oldest {rest : List Slot} {e : JEntry} (hu : s.rings.unacked = k :: rest) (he : s.entry k = some e)
    (hp : s.pReach = true) (hc : s.power.cRun = true) : execJournalAcknowledge k s =
      .next (hostWrite (s.lineAddr e.sq.val + 32) (leBytes 4 (s.rings.sq[e.sq].devIdx + 1).toNat)
        ((s.modRings fun r => { r with unacked := rest }).modSq e.sq fun x => { x with devIdx := s.rings.sq[e.sq].devIdx + 1 })) := by
  have hrest : (s.modRings fun r => { r with unacked := r.unacked.drop 1 }) = s.modRings fun r => { r with unacked := rest } := by
    simp only [State.modRings, hu, List.drop_succ_cons, List.drop_zero]
  simp only [execJournalAcknowledge, hu, List.head?_cons, he, hp, hc, and_self, if_true, ackOne, hrest]
  rfl

/-! ## Timed actions (R349, R350) -/

theorem execTimedActionDue_reads (he : (s.entry k).isSome = true) (hf : s.fetchDue k = true) :
    execTimedActionDue k s = .next (fetchData k (dDataAddr (s.desc k)) s) := by
  obtain ⟨e, he⟩ := Option.isSome_iff_exists.1 he
  simp only [execTimedActionDue, he, hf, if_true]

theorem execTimedActionDue_first {e : JEntry} (he : s.entry k = some e) (hf : s.fetchDue k = false) (ha : s.actionDue k = true)
    (hn : (s.rings.journal.any fun x => x.slot != k && s.actionDue x.slot && s.dueBefore x e) = false) :
    execTimedActionDue k s = .next (settle s (applyCommand k s)) := by
  simp only [execTimedActionDue, he, hf, ha, hn, Bool.not_false, Bool.and_self, Bool.false_eq_true, if_false, if_true]

/-! ## Posting and interrupts (R354, R362) -/

theorem execCompletionPost_first {e : JEntry} (hr : s.ringsRun = true) (hp : s.pReach = true) (hh : s.hostUp = true)
    (hy : s.rings.replaying = false) (hf : s.rings.finished.find? s.postable = some k) (he : s.entry k = some e) :
    execCompletionPost k s = .next (postEntry e s) := by
  simp only [execCompletionPost, hr, hp, hh, hy, hf, he, Bool.not_false, beq_self_eq_true, Bool.and_self, if_true]

theorem execMsixSignal_due {m : CqId} (h : s.signalDue m = true) : execMsixSignal m s =
    .next (signalVector (s.rf (rSysCqInt m) 0 5) (s.modCq m fun c => { c with unsignalled := 0, urgent := false })) := by
  rw [execMsixSignal, if_pos h]

theorem signalVector_unmasked {v : Nat} (h : s.msixMasked v = false) : signalVector v s = sendMsix v s := if_neg (Bool.eq_false_iff.1 h)

theorem signalVector_masked {v : Nat} (h : s.msixMasked v = true) :
    signalVector v s = s.modHost fun h => { h with msixPending := h.msixPending ||| BitVec.ofNat 32 (2 ^ v) } := if_pos h

end Sys2Proof.Machine

namespace Sys2Proof

open Sys2Proof.Machine

/-- Settles O1: each command is applied in its turn, a BARRIER by whether what it waits for is met. -/
theorem nopAndBarrierComplete : Obligations.NopAndBarrierComplete :=
  ⟨fun _ _ hm => immediate_applies hm rfl, fun _ _ hm hb => immediate_applies hm (doBarrier_met hb),
    fun _ _ hm hb => immediate_applies hm (doBarrier_unmet hb)⟩

/-- Settles O7: a Weir by whether it is free, a PAIR_SWAP by whether regions are left to swap. -/
theorem weirPairCommandsComplete : Obligations.WeirPairCommandsComplete := by
  refine ⟨fun k s n hm hn hr ho => immediate_applies hm ?_, fun k s n hm hn hr ho => immediate_applies hm ?_,
    fun k s n hm hn ho hg => immediate_applies hm (doWeirRelease_owned hn ho hg), fun k s l hm hl hleft h => immediate_applies hm ?_,
    fun k s hm hl hn => immediate_applies hm (doPairSwap_done hl hn), fun k s l hm hl hn hu h => immediate_applies hm ?_⟩
  · rw [doWeirAcquire_ranked hn hr, ho]
    rfl
  · rw [doWeirAcquire_ranked hn hr, if_neg (by simpa [Option.isSome_iff_ne_none] using ho)]
  · subst hl
    exact doPairSwap_asks hleft (h.imp_left fun h r hr => by simpa [State.maySwap] using h r hr)
  · subst hl
    exact doPairResync_asks hn hu h

/-- Settles O10: the write of the Seal reaches its register, and acts by its checks. -/
theorem sealCompletes : Obligations.SealCompletes := fun _ _ hr hc hd =>
  ⟨fun h => wordRow_reaches hr hc (.inl rfl) (writeSeal_met hd h), fun h => wordRow_reaches hr hc (.inl rfl) (writeSeal_unmet hd h)⟩

/-- Settles O18: each row in the case in which it acts; a timed action by whether its data is still to be read, a signal by its mask. -/
theorem ringStepsComplete : Obligations.RingStepsComplete := by
  refine ⟨fun s => execDoorbellPoll_due, fun q k d s => execDescriptorAccept_takes, fun k rest e s => execJournalAcknowledge_oldest,
    fun k s => execTimedActionDue_reads, fun k e s => execTimedActionDue_first, fun k e s => execCompletionPost_first,
    fun m v s hd hv hu => ?_, fun m s hd hm => ?_⟩
  · subst hv
    exact (execMsixSignal_due hd).trans (congrArg _ (signalVector_unmasked hu))
  · exact (execMsixSignal_due hd).trans (congrArg _ (signalVector_masked hm))

end Sys2Proof
end

section
-- One proof after another, as above: elaborated side by side they wait for the same lemmas, each with a thread and its stack.
set_option Elab.async false

/-!
SUPPORT. The steps of the memory arbiter and of the Weirs that no command makes, in the cases in which they act (R495, R499, R500, R504, R511, R512,
R515).
-/
namespace Sys2Proof.Machine

open Sys2Proof

variable {s : State}

/-! ## Arbitration (R499, R500) -/

theorem holder_of_grant {a : Arb} {q : BitVec 5} {m : Fin 5} {n : Nat} (hg : a.grant = some (m, n)) (hn : 0 < n) (hq : bitAt q m.val = true) :
    a.holder q = some (m, n) := by
  simp [Arb.holder, hg, hn, hq]

theorem holder_eq_none {a : Arb} {q : BitVec 5} (h : ∀ (m : Fin 5) n, a.grant = some (m, n) → 0 < n → bitAt q m.val = false) :
    a.holder q = none := by
  refine Option.filter_eq_none_iff.2 fun g hg => ?_
  simpa using h g.1 g.2 hg

section
variable {l : Fin 16} {b : Bool} {q : BitVec 5} {n : Nat} (ho : s.slotOpen l = true)
  (ha : s.arb.active.arbitrated l (b && decide (0 < s.inFlight)) = true)
  (hn : n = if s.arb.mover (s.requestsOf q) = some 1 ∧ s.beyondInFlight = true then s.arb.leLines + 1 else s.arb.leLines)
include ho ha hn

/-- A burst that holds the slot goes on. -/
theorem execArbiterGrant_burst {m : Fin 5} {c : Nat} (hg : s.arb.holder (s.requestsOf q) = some (m, c)) : execArbiterGrant l b q s =
    .next (s.modArb fun a => { a.burst m c s.now with slotDone := some s.memSlot, leLines := n }) := by
  subst hn
  simp only [execArbiterGrant, ho, ha, hg, State.modArb, Bool.not_true, Bool.or_self, Bool.false_eq_true, if_false, Bool.and_eq_true,
    decide_eq_true_eq]

/-- A slot that no burst holds is arbitrated anew. -/
theorem execArbiterGrant_anew (hg : s.arb.holder (s.requestsOf q) = none) : execArbiterGrant l b q s =
    .next (s.modArb fun a =>
      { ({ a with grant := none } : Arb).arbitrate (s.requestsOf q) s.now with slotDone := some s.memSlot, leLines := n }) := by
  subst hn
  simp only [execArbiterGrant, ho, ha, hg, State.modArb, Bool.not_true, Bool.or_self, Bool.false_eq_true, if_false, Bool.and_eq_true,
    decide_eq_true_eq]

end

/-! ## Refresh and the watchdog (R495, R504) -/

theorem execRefresh_due (ht : ∀ t, s.arb.refreshAt = some t → t + 1560 ≤ s.now) (hc : s.power.cRun = true) :
    execRefresh s = .next (s.modArb fun a => { a with refreshAt := some s.now }) := by
  unfold execRefresh
  cases hr : s.arb.refreshAt with
  | none => simp only [hc, Bool.and_self, if_true]
  | some t => simp only [ht t hr, hc, decide_true, Bool.and_self, if_true]

theorem execArbiterWatchdog_due {m : Fin 5} {n : Nat} (hg : s.arb.grant = some (m, n)) (ht : s.arb.progressAt + usTicks 10 ≤ s.now)
    (hc : s.power.cRun = true) : execArbiterWatchdog s =
      .next (settle s (resetRequester m (raise 164 evArbWatchdog (BitVec.ofNat 32 (requesterCode m).toNat) 0
        (s.modArb fun a => { a with ptr := 0, losses := Vector.replicate 5 0, backoff := Vector.replicate 5 0, grant := none
                                    wdCnt := satInc a.wdCnt, wdReq := requesterCode m })))) := by
  simp only [execArbiterWatchdog, hg, hc, Nat.not_lt.2 ht, Bool.not_true, Bool.false_eq_true, or_self, if_false]

/-! ## Weirs (R345, R511, R512, R515) -/

theorem execWeirAcquireTimedOut_due {k : Slot} {n : WeirId} {o : OwnerId} {w : Nat}
    (hn : ((List.finRange 32).find? fun n => s.weirs[n].waiters.any fun x => x.2.1 == some k) = some n)
    (hw : (s.weirs[n].waiters.find? fun x => x.2.1 == some k) = some (o, some k, w)) (hu : leAt (s.desc k) 20 4 ≠ 0)
    (ht : w + usTicks (leAt (s.desc k) 20 4) ≤ s.now) : execWeirAcquireTimedOut k s =
      .next (settle s (raise 165 evWeirTimedOut (BitVec.ofNat 32 n.val) (BitVec.ofNat 32 (s.ownerOf k).val)
        (finish k stState 1 0 true (s.modWeir n fun w => { w with waiters := w.waiters.filter fun x => x.2.1 != some k })))) := by
  simp only [execWeirAcquireTimedOut, hn, hw, hu, Nat.not_lt.2 ht, or_self, if_false]

theorem execWeirsReleased_down {w : OwnerId} (h : s.ownerDown w = true) : execWeirsReleased w s = .next (settle s (releaseWeirs w s)) := by
  rw [execWeirsReleased, if_pos h]

/-- A device whose update is due writes its set under its free Weir at once. -/
theorem devUpdate_free {o : OwnerId} {n : WeirId} {due : Bool} {f : State → State} (ho : s.weirs[n].owner = none) (hd : due = true)
    (hw : (s.weirs[n].waiters.any fun x => x.1 == o) = false) : devUpdate o n due f s = passWeir n false (f (grantWeir n o none s)) := by
  simp only [devUpdate, ho, hd, hw, reduceCtorEq, Option.isNone_none, Bool.not_true, Bool.or_self, Bool.false_eq_true, if_false, if_true]

theorem execSafetySetUpdate_serves (he : s.safEn = true) (hs : s.safPowered = true) (hc : s.power.cRun = true) (hp : s.pReach = true)
    (ha : s.awake = true) : execSafetySetUpdate s =
      .next (settle s (devUpdate 8 s.safWeir (decide (s.arb.safAt + msTicks 1 ≤ s.now)) writeSafSet s)) := by
  simp only [execSafetySetUpdate, he, hs, hc, hp, ha, Bool.and_self, if_true]

theorem execNetworkCounterUpdate_serves (he : s.netEn = true) (hn : s.netRuns = true) (hc : s.power.cRun = true) (hp : s.pReach = true) :
    execNetworkCounterUpdate s = .next (settle s (devUpdate 9 s.netWeir (decide (s.arb.netAt + sTicks 1 ≤ s.now)) writeNetSet s)) := by
  simp only [execNetworkCounterUpdate, he, hn, hc, hp, Bool.and_self, if_true]

end Sys2Proof.Machine

namespace Sys2Proof

open Sys2Proof.Machine

/-- Settles O33: each row in the case in which it acts; a slot by whether a burst holds it, a device's set by its Weir, which is free. -/
theorem arbiterStepsComplete : Obligations.ArbiterStepsComplete := by
  refine ⟨fun l b q w m n k s ho ha hg hw hn hq hk => ?_, fun l b q w k s ho ha hw hg hk => ?_, fun s => execRefresh_due,
    fun m n s => execArbiterWatchdog_due, fun k n o w s => execWeirAcquireTimedOut_due, fun w s => execWeirsReleased_down,
    fun s he hs hc hp ha ho ht hw => ?_, fun s he hn hc hp ho ht hw => ?_⟩
  · subst hw
    exact execArbiterGrant_burst ho ha hk (holder_of_grant hg hn hq)
  · subst hw
    exact execArbiterGrant_anew ho ha hk (holder_eq_none hg)
  · rw [← devUpdate_free ho (decide_eq_true ht) hw]
    exact execSafetySetUpdate_serves he hs hc hp ha
  · rw [← devUpdate_free ho (decide_eq_true ht) hw]
    exact execNetworkCounterUpdate_serves he hn hc hp

end Sys2Proof
end

section
-- One proof after another, as above: elaborated side by side they wait for the same lemmas, each with a thread and its stack.
set_option Elab.async false

/-!
SUPPORT. The commands and the steps of the network and of time in the cases in which they act (R384 to R389, R392, R396, R401, R407, R408).
-/
namespace Sys2Proof.Machine

open Sys2Proof

variable {s : State} {k : Slot} {p : PortId}

/-! ## Commands (R387, R389, R401) -/

/-- A frame that passes every check passes those that need no frame. -/
theorem txPre_of_txCheck {d l : List Byte} {b : Bool} {n : Nat} (h : txCheck d l b n = none) : txPre d b = none := (Option.or_eq_none_iff.1 h).1

/-- A NET_TX without TS_REQ, with its frame here and every check met, queues it. -/
theorem runNetTx_queues {w : Work} {l : List Byte} (hw : s.workOf k = some w) (hd : w.data = some l) (hf : w.dmaFailed = false)
    (ht : dByte (s.desc k) 26 / 4 % 2 = 0) (hc : txCheck (s.desc k) l (!(s.txPorts (s.desc k)).isEmpty) (s.rf rNetPairCfg 0 16) = none) :
    runNetTx k s = applying k (queueFrame (s.txPorts (s.desc k)) (dByte (s.desc k) 26 % 4 == 0 && !isPtp l)
      { bytes := l, cmd := some k, timed := s.isTimed k } s) := by
  have hready : s.dataReady k = true := by simp only [State.dataReady, hw, hd, Option.isSome_some, Bool.true_or]
  have hread : dataFailed k s = false := by simp only [dataFailed, hw, hf]
  have hmay : s.txMay (s.desc k) = true := by simp only [State.txMay, ht, beq_self_eq_true, Bool.true_or]
  have hl : ((s.workOf k).bind Work.data).getD [] = l := by rw [hw, Option.bind_some, hd, Option.getD_some]
  have hqueue : doNetTx k s = applying k (queueFrame (s.txPorts (s.desc k)) (dByte (s.desc k) 26 % 4 == 0 && !isPtp l)
      { bytes := l, cmd := some k, timed := s.isTimed k } s) := by
    simp only [doNetTx, hl, hc, ht, if_true]
  simp only [runNetTx, txPre_of_txCheck hc, hready, hread, hmay, hqueue, Bool.not_true, Bool.false_eq_true, if_false, if_true]

/-- A buffer within its limits is lent. -/
theorem doNetRxPost_lends {e : JEntry} (hn : s.net.bufs.length < 256) (hs : hostSpan (leAt (s.desc k) 16 8) (leAt (s.desc k) 24 2) = true)
    (hl : 64 ≤ leAt (s.desc k) 24 2) (hu : leAt (s.desc k) 24 2 ≤ 2048) (he : s.entry k = some e) :
    doNetRxPost k s = modWork k (fun w => { w with kind := .lent }) (s.modNet fun x =>
      { x with
        bufs := insBuf { slot := k, asn := e.asn, addr := BitVec.ofNat 64 (leAt (s.desc k) 16 8), len := leAt (s.desc k) 24 2 } x.bufs
        nobufReported := false }) := by
  simp only [doNetRxPost, Nat.not_le.2 hn, hs, Nat.not_lt.2 hl, Nat.not_lt.2 hu, he, Bool.not_true, Bool.false_eq_true, or_self, if_false]

/-- A rate within its limit, without a step and without FORCE, is taken at once. -/
theorem doTimeAdjust_rate (hstep : (dByte (s.desc k) 32).testBit 0 = false) (hrate : (dByte (s.desc k) 32).testBit 1 = true)
    (hforce : (dByte (s.desc k) 32).testBit 2 = false) (hlim : (sx 64 (leAt (s.desc k) 24 8)).natAbs ≤ rhoLimit) (he : s.lockExpired = false) :
    doTimeAdjust k s = finishOk k s.timeNs (judgeLock 0 (syncTime
      (setTime (adjusted s (some (sx 64 (leAt (s.desc k) 24 8))) none) s))) := by
  simp only [doTimeAdjust, hstep, hrate, hforce, Nat.not_lt.2 hlim, he, Bool.false_and, Bool.and_false, decide_false, Bool.false_eq_true, if_false,
    if_true]

/-! ## Frames (R384 to R387, R392, R396) -/

theorem execFrameReceive_linked {l : List Byte} {ok : Bool} (hl : s.linkOf p = true) :
    execFrameReceive p l ok s = .next (settle s (frameReceive p l ok s)) := by
  rw [execFrameReceive, if_pos hl]

theorem execFrameReceive_unlinked {l : List Byte} {ok : Bool} (hl : s.linkOf p = false) : execFrameReceive p l ok s = .next s := by
  rw [execFrameReceive, hl, if_neg Bool.false_ne_true]

theorem execTxTimestamp_due {f : TxFrame} (hs : (s.net.ports[p]).sending = some f) (hf : f.stamped = false) (hr : s.netRuns = true) :
    execTxTimestamp p s = .next (settle s (txTimestamp p f s)) := by
  simp only [execTxTimestamp, hs, hf, hr, Bool.not_true, Bool.or_self, Bool.false_eq_true, if_false]

theorem execPortFrameBoundary_free (hl : s.linkOf p = true) (hs : (s.net.ports[p]).sending = none) :
    execPortFrameBoundary p s = .next (settle s (portBoundary p s)) := by
  simp only [execPortFrameBoundary, hl, hs, Bool.and_self, if_true]

theorem execSupervisionFrameSend_due (hr : s.netRuns = true) (ht : s.net.lastSup + msTicks (s.rf rNetPrpCfg 16 16) ≤ s.now) :
    execSupervisionFrameSend s = .next (queueFrame ((List.finRange 2).filter fun p => s.linkOf p) true
      { bytes := s.supAddr ++ s.mac ++ beBytes 2 0x88FB ++ beBytes 2 0x0001 ++ beBytes 2 s.net.supSeq.toNat ++ [20, 6] ++ s.mac ++ [0, 0] }
      (s.modNet fun x => { x with lastSup := s.now, supSeq := x.supSeq + 1 })) := by
  simp only [execSupervisionFrameSend, hr, ht, decide_true, Bool.and_self, if_true]

/-! ## Silent ports, expired nodes, the link and the lock (R385, R386, R407, R408) -/

theorem execLanSilent_due (hr : s.netRuns = true) (hs : (s.net.ports[p]).silent = false)
    (ht : (s.net.ports[p]).lastRx + 3 * msTicks (s.rf rNetPrpCfg 16 16) ≤ s.now)
    (ho : s.now < (s.net.ports[(1 - p : PortId)]).lastRx + 3 * msTicks (s.rf rNetPrpCfg 16 16))
    (hl : (s.net.ports[p]).lastRx < (s.net.ports[(1 - p : PortId)]).lastRx) :
    execLanSilent p s = .next (settle s (raise (srcPort p) evPortSilent 0 0 (s.modPort p fun q => { q with silent := true }))) := by
  simp only [execLanSilent, hr, hs, ht, ho, hl, decide_true, Bool.not_false, Bool.and_self, if_true]

theorem execPrpNodeExpire_idle {m : BitVec 48} {n : PrpNode} (hn : n ∈ s.net.nodes) (hm : n.mac = m) (ht : n.last + sTicks 60 ≤ s.now) :
    execPrpNodeExpire m s = .next (s.modNet fun x => { x with nodes := x.nodes.filter (fun n => n.mac ≠ m), nodeFullFor := [] }) := by
  rw [execPrpNodeExpire, if_pos (List.any_eq_true.2 ⟨n, hn, by simp [hm, ht]⟩)]

theorem execLinkUp_down (hr : s.netRuns = true) (hl : (s.net.ports[p]).link = false) : execLinkUp p s =
    .next (settle s (raise (srcPort p) evPortUp 0 0 (unstand (srcPort p) evPortDown (s.modPort p fun q => { q with link := true })))) := by
  simp only [execLinkUp, hr, hl, Bool.not_false, Bool.and_self, if_true]

theorem execLinkDown_up (hl : (s.net.ports[p]).link = true) : execLinkDown p s =
    .next (settle s (stand (srcPort p) evPortDown (raise (srcPort p) evPortDown 0 0 (dropFrames p (s.modPort p fun q => { q with link := false }))))) := by
  rw [execLinkDown, if_pos hl]

theorem execTimeLockLost_expired (h : s.lockExpired = true) : execTimeLockLost s = .next (settle s (loseLock s)) := by
  rw [execTimeLockLost, if_pos h]

end Sys2Proof.Machine

namespace Sys2Proof

open Sys2Proof.Machine

/-- Settles O6: each command in the case in which it acts. -/
theorem networkTimeCommandsComplete : Obligations.NetworkTimeCommandsComplete :=
  ⟨fun _ _ _ _ hm hw hd hf ht hc => immediate_applies hm (runNetTx_queues hw hd hf ht hc),
    fun _ _ _ hm hn hs hl hu he => immediate_applies hm (doNetRxPost_lends hn hs hl hu he),
    fun _ _ hm hstep hrate hforce hlim he => immediate_applies hm (doTimeAdjust_rate hstep hrate hforce hlim he)⟩

/-- Settles O34: each row in the case in which it acts. -/
theorem networkStepsComplete : Obligations.NetworkStepsComplete :=
  ⟨fun _ _ _ _ _ _ => execFrameReceive_linked, fun _ _ _ => execTxTimestamp_due, fun _ _ => execPortFrameBoundary_free,
    fun _ => execSupervisionFrameSend_due, fun _ _ => execLanSilent_due, fun _ _ _ => execPrpNodeExpire_idle, fun _ _ => execLinkUp_down,
    fun _ _ => execLinkDown_up, fun _ => execTimeLockLost_expired⟩

end Sys2Proof
end

section
-- One proof after another, as above: elaborated side by side they wait for the same lemmas, each with a thread and its stack.
set_option Elab.async false

/-!
SUPPORT. The rows of mirrored control in the cases in which they act (R417 to R421, R424, R427 to R429).
-/
namespace Sys2Proof.Machine

open Sys2Proof

variable {s : State} {r m : RegionId} {n : Word32} {b : List Byte}

/-! ## Frames of the pair (R416 to R418, R420, R424, R428) -/

/-- A row that takes the oldest pair frame, of its type, while the network runs. -/
theorem pairRow_takes {y : Nat} {f : RegionId → Word32 → List Byte → State → State} (hh : s.pairHead y = some (r, n, b)) (hn : s.netRuns = true) :
    pairRow y f s = .next (settle s (f r n b (popPair s))) := by
  simp only [pairRow, hh, hn, if_true]

theorem execDutyCopyReceive_takes (hh : s.pairHead 2 = some (r, n, b)) (hn : s.netRuns = true) :
    execDutyCopyReceive s = .next (settle s (dutyCopyReceive r n b (popPair s))) := pairRow_takes hh hn

theorem execHelloReceive_takes (hh : s.pairHead 3 = some (r, n, b)) (hn : s.netRuns = true) :
    execHelloReceive s = .next (settle s (helloReceive b (popPair s))) := pairRow_takes hh hn

theorem execFaultDeclarationReceive_takes (hh : s.pairHead 4 = some (r, n, b)) (hn : s.netRuns = true) :
    execFaultDeclarationReceive s = .next (settle s (faultDeclared r (popPair s))) := pairRow_takes hh hn

theorem execParameterFrameReceive_takes (hh : s.pairHead 5 = some (r, n, b)) (hn : s.netRuns = true) (hp : (popPair s).pReach = true)
    (hc : (popPair s).power.cRun = true) : execParameterFrameReceive s = .next (settle s (parameterFrame r n b (popPair s))) := by
  refine (pairRow_takes hh hn).trans ?_
  simp only [hp, hc, Bool.and_self, if_true]

theorem execCheckpointChunkReceive_takes (hh : s.pairHead 6 = some (r, n, b)) (hn : s.netRuns = true) (hp : (popPair s).pReach = true)
    (hl : (popPair s).leRuns = true) : execCheckpointChunkReceive s = .next (settle s (checkpointChunk r n b (popPair s))) := by
  refine (pairRow_takes hh hn).trans ?_
  simp only [hp, hl, Bool.and_self, if_true]

theorem execCheckpointCommitReceive_takes (hh : s.pairHead 7 = some (r, n, b)) (hn : s.netRuns = true) (hp : (popPair s).pReach = true)
    (hl : (popPair s).leRuns = true) : execCheckpointCommitReceive s = .next (settle s (checkpointCommit r n b (popPair s))) := by
  refine (pairRow_takes hh hn).trans ?_
  simp only [hp, hl, Bool.and_self, if_true]

/-- A sample frame of a letter whose region is idle releases its contexts, or is kept for the catch-up (R412, R428). -/
theorem execSampleFrameReceive_idle (hh : s.pairHead 1 = some (r, n, b)) (hn : s.netRuns = true) (hm : s.mirrorLetter r = some m)
    (hu : s.linkUp = true) (hl : s.leRuns = true) (hi : s.regionIdle m = true) : execSampleFrameReceive s = .next (settle s
      (let t := (popPair s).modPairRegion m fun p => { p with lastFrame := s.now }
       if s.computes m then releaseRegion m n (parseSets b.length b) t else keepSets m n (parseSets b.length b) t)) := by
  simp only [execSampleFrameReceive, hh, hn, hm, hu, hl, hi, Bool.not_true, Bool.and_self, Bool.and_false, Bool.false_eq_true, if_false]

theorem execHelloSend_due (hn : s.netRuns = true) (hp : s.rb rPairCfg 0 = true) (hs : s.power.sealed = true)
    (ht : s.pair.lastHello + msTicks 1 ≤ s.now) :
    execHelloSend s = .next ((pairSend 3 0 0 s.helloBody s).modPair fun p => { p with lastHello := s.now }) := by
  simp only [execHelloSend, hn, hp, hs, ht, decide_true, Bool.and_self, if_true]

theorem execPartnerDown_due (hn : s.netRuns = true) (hu : s.pair.up = true) (ht : s.pair.lastRx + msTicks 10 ≤ s.now) :
    execPartnerDown s = .next (settle s (raise 150 evPairPartnerDown 0 0 (s.modPair fun p => { p with up := false }))) := by
  simp only [execPartnerDown, hn, hu, ht, decide_true, Bool.and_self, if_true]

/-! ## The referee (R424) -/

/-- The referee's finding of the active die acts. -/
theorem execControlDieFailed_active {a : Bool} (hp : s.power.pRun = true) (hi : s.isPaired r = true) (hc : s.carrierRuns r = true)
    (ha : (s.pair.regions[r]).partnerActive = a) (hf : s.refereeFinds r a = true) :
    execControlDieFailed r a s = .next (settle s (dieFailed r a s)) := by
  simp only [execControlDieFailed, hp, hi, hc, ha, hf, beq_self_eq_true, Bool.true_or, Bool.and_self, if_true]

/-! ## Resynchronisation (R427, R429) -/

/-- The local die of a region that the partner's leads begins to wait for a snapshot. -/
theorem execResynchronisationStart_waits (hw : (s.pair.regions[r]).wanted = true) (hi : s.isPaired r = true) (hm : s.mayResync r = true)
    (hc : s.carrierRuns r = true) (ha : (s.pair.regions[r]).partnerActive = true) : execResynchronisationStart r s =
      .next ((s.modPairRegion r fun p => { p with chunks := [], held := false, catching := false }).modPairRegion r fun p =>
        { p with wanted := false, mayReturn := false, standby := .resync, matching := 0, probation := [], resyncAt := p.resyncAt.or (some s.now) }) := by
  simp only [execResynchronisationStart, hw, hi, hm, hc, ha, Bool.true_or, Bool.and_self, Bool.not_true, Bool.false_eq_true, if_false, if_true]

/-- A mirror letter's region is not one of this package's pair. -/
theorem isPaired_of_isMirror (h : s.isMirror r = true) : s.isPaired r = false := by
  simp only [State.isMirror, Bool.and_eq_true, Bool.not_eq_true'] at h
  obtain ⟨-, hp⟩ := h
  simp only [State.isPaired, hp, Bool.and_false, Bool.false_and]

/-- A mirror letter's die that has become the active one sends its snapshot. -/
theorem execResynchronisationStart_mirror (hm : s.mayResync r = true) (hs : s.maySnapshot r = true) (hi : s.isMirror r = true) :
    execResynchronisationStart r s =
      .next ((sendCheckpoint r s).modPairRegion r fun p => { p with wanted := false, partnerActive := true }) := by
  simp only [execResynchronisationStart, hm, hs, hi, isPaired_of_isMirror hi, Bool.false_and, Bool.true_or, Bool.and_self, Bool.not_true,
    Bool.false_eq_true, if_false, if_true]

theorem modPairRegion_congr {f g : PairRegion → PairRegion} (h : f (s.pair.regions[r]) = g (s.pair.regions[r])) :
    s.modPairRegion r f = s.modPairRegion r g := by
  simp only [State.modPairRegion, State.modPair, upd, Fin.getElem_fin] at h ⊢
  rw [h]

theorem pairSend_pair (y : Nat) (r : RegionId) (n : Word32) (l : List Byte) (s : State) : (pairSend y r n l s).pair = s.pair := by
  unfold pairSend
  split
  · rfl
  · exact forAll_keeps State.pair (by intros; rfl) _

/-- A snapshot sent leaves the time since when its resynchronisation has lasted. -/
theorem sendCheckpoint_resyncAt (r : RegionId) (s : State) :
    ((sendCheckpoint r s).pair.regions[r]).resyncAt = (s.pair.regions[r]).resyncAt := by
  unfold sendCheckpoint
  extract_lets e owner n l blob head chunk t u
  have hc (c : CtxId) (t : State) : (chunk c 0x400 (chunk c 0 t)).pair = t.pair := (pairSend_pair _ _ _ _ _).trans (pairSend_pair _ _ _ _ t)
  have ht : t.pair.regions = s.pair.regions := forList_keeps (fun t => t.pair.regions) (fun c t => congrArg Pair.regions (hc c t)) l _
  have hu : u.pair.regions = s.pair.regions := (congrArg Pair.regions (pairSend_pair _ _ _ _ t)).trans ht
  simp only [State.modPairRegion_pair, upd_same, hu]

/-- The local die that leads a running region sends its snapshot. -/
theorem execResynchronisationStart_leader (hm : s.mayResync r = true) (hs : s.maySnapshot r = true) (hi : s.isMirror r = false)
    (hc : s.carrierRuns r = true) (ha : (s.pair.regions[r]).partnerActive = false) : execResynchronisationStart r s =
      .next ((sendCheckpoint r s).modPairRegion r fun p => { p with
        wanted := false, mayReturn := false, standby := .resync, matching := 0, probation := []
        resyncAt := ((s.pair.regions[r]).resyncAt).or (some s.now) }) := by
  simp only [execResynchronisationStart, hm, hs, hi, hc, ha, Bool.false_and, Bool.and_false, Bool.or_true, Bool.and_self, Bool.not_true,
    Bool.false_eq_true, if_false, if_true]
  exact congrArg _ (modPairRegion_congr (by rw [sendCheckpoint_resyncAt]))

theorem execResynchronisationFailed_due {t : Nat} (hr : (s.pair.regions[r]).resyncAt = some t)
    (hd : 3 ≤ (s.pair.regions[r]).discarded ∨ t + msTicks 250 ≤ s.now) : execResynchronisationFailed r s =
      .next (settle s (abortResync r (raise 152 evResyncFailed (BitVec.ofNat 32 r.val) 0 (s.modPairRegion r fun p =>
        { p with standby := .absent, wanted := false, resyncAt := none, discarded := 0, matching := 0, chunks := [], probation := []
                 keptSets := [], held := p.held && !(s.isMirror r || (s.pair.regions[r]).partnerActive), catching := false })))) := by
  have hover : ¬((s.pair.regions[r]).discarded < 3 ∧ s.now < t + msTicks 250) := by omega
  simp only [execResynchronisationFailed, hr, ← Bool.decide_and, decide_eq_true_eq, if_neg hover]

end Sys2Proof.Machine

namespace Sys2Proof

open Sys2Proof.Machine

/-- Settles O35: each row in the case in which it acts; a resynchronisation's start by who leads the region. -/
theorem pairStepsComplete : Obligations.PairStepsComplete :=
  ⟨fun _ _ _ _ _ => execSampleFrameReceive_idle, fun _ _ _ _ => execDutyCopyReceive_takes, fun _ => execHelloSend_due,
    fun _ _ _ _ => execHelloReceive_takes, fun _ => execPartnerDown_due, fun _ _ _ _ => execFaultDeclarationReceive_takes,
    fun _ _ _ => execControlDieFailed_active, fun _ _ _ _ => execParameterFrameReceive_takes,
    fun _ _ hw _ _ hi hm hc ha => execResynchronisationStart_waits hw hi hm hc ha,
    fun _ _ hm hs => ⟨execResynchronisationStart_mirror hm hs, execResynchronisationStart_leader hm hs⟩,
    fun _ _ _ _ => execCheckpointChunkReceive_takes, fun _ _ _ _ => execCheckpointCommitReceive_takes,
    fun _ _ _ => execResynchronisationFailed_due⟩

end Sys2Proof
end

section
-- One proof after another, as above: elaborated side by side they wait for the same lemmas, each with a thread and its stack.
set_option Elab.async false

/-!
SUPPORT. The commands on events, injection and forcing, and the steps of the event system, in the cases in which they act (R438, R445, R448, R450,
R457 to R459, R463).
-/
namespace Sys2Proof.Machine

open Sys2Proof

variable {s : State} {k : Slot} {n : SourceId}

/-! ## FAULT_CLEAR and EVENT_FORCE (R448, R458, R459) -/

section
variable (hn : leAt (s.desc k) 16 2 = n.val) (hr : reservedSource n.val = false)
include hn hr

/-- FAULT_CLEAR of one source whose condition has ended clears it. -/
theorem doFaultClear_one (hc : s.conditionBefore n = false) : doFaultClear k s =
    finishOk k (BitVec.ofNat 64 (b2n (s.events.src[n].state != .clear))) (clearSource n s) := by
  have hall : n.val ≠ 0xFFFF := by omega
  simp only [doFaultClear, hn, hall, hr, hc, Fin.is_lt, Fin.eta, Bool.false_eq_true, dite_true, if_false]

theorem doEventForce_allowed (hm : s.mayForce n = true) :
    doEventForce k s = finishOk k 0 (setForce n ((dByte (s.desc k) 18).testBit 0) s) := by
  simp only [doEventForce, hn, hr, hm, Fin.is_lt, Fin.eta, Bool.not_true, Bool.false_eq_true, dite_true, if_false]

end

/-- FAULT_CLEAR of all clears every source whose condition has ended. -/
theorem doFaultClear_all (hn : leAt (s.desc k) 16 2 = 0xFFFF) : doFaultClear k s =
    finishOk k (BitVec.ofNat 64 (((allSources.filter fun j => !s.conditionBefore j).filter fun j => s.events.src[j].state != .clear).length +
      65536 * (allSources.filter s.conditionBefore).length)) (forList clearSource (allSources.filter fun j => !s.conditionBefore j) s) := by
  simp only [doFaultClear, hn, if_true]

theorem writeForce_unsealed {w : Fin 6} {v : Word32} (h : s.power.sealed = false) : writeForce w v s =
    forList (fun k t => setForce k (v.getLsbD (k.val % 32)) t)
      ((List.finRange 192).filter fun k => k.val / 32 == w.val && !reservedSource k.val) s := by
  simp only [writeForce, h, Bool.false_eq_true, if_false]

/-! ## Injection (R457, R463) -/

/-- A write of EVT_INJ_CTRL with ARM, where injection is possible, arms it with no more than its target allows. -/
theorem writeInjCtrl_arms {v : Word32} (hm : s.mayInject = true) (hv : bitAt v 8 = true) (ht : fld v 0 2 ≠ 3) : writeInjCtrl v s =
    (keepWord rEvtInjCtrl (setFld (v &&& 0xFF) 2 3 (min (if fld v 0 2 = 2 then 5 else 4) (fld v 2 3))) s).modEvents fun e =>
      { e with inj := { e.inj with armed := true } } := by
  simp only [writeInjCtrl, hm, hv, bne_iff_ne.2 ht, Bool.and_self, if_true]

theorem injects_of_armed {y : Nat} (ha : s.events.inj.armed = true) (ht : fld (s.reg rEvtInjCtrl) 0 2 = y) : s.injects y = true := by
  simp only [State.injects, State.rf, ha, ht, beq_self_eq_true, Bool.and_self]

/-- The armed injection marks the next frame of its channel. -/
theorem execInjectionApply_marks {d : Die} {f : MrFrame} {g : Nat → List MrFrame → List MrFrame} (ha : s.events.inj.armed = true)
    (ht : fld (s.reg rEvtInjCtrl) 0 2 = 2) (hd : d = if bitAt (s.reg rEvtInjCtrl) 7 then Die.c else Die.p)
    (hf : ((s.mr d).wire.find? fun x => x.vc.val == fld (s.reg rEvtInjCtrl) 5 2) = some f)
    (hg : g = fun (n : Nat) (l : List MrFrame) => l.map fun x => if x.seq = f.seq then { x with invert := n } else x) :
    execInjectionApply s = .next ((injected s).modMr d fun m =>
      { m with wire := g (fld (s.reg rEvtInjCtrl) 2 3) m.wire, sent := g (fld (s.reg rEvtInjCtrl) 2 3 - 1) m.sent }) := by
  subst hd hg
  simp only [execInjectionApply, injects_of_armed ha ht, hf, Bool.not_true, Bool.false_eq_true, if_false]

/-- With no line in error a write stores its bytes, and the armed injection acts with it. -/
theorem write_clean (q : BitVec 8) (a : Nat) (l : List Byte) (h : s.memErr = []) : s.write q a l = injectLine a l.length (s.store a l) := by
  simp only [State.write, State.errLines, h, List.filter_nil, forList, List.foldl_nil]

theorem injectLine_hits {a n : Nat} (ha : s.events.inj.armed = true) (ht : fld (s.reg rEvtInjCtrl) 0 2 = 0)
    (h1 : a < 64 * ((s.reg rEvtInjAddr).toNat / 64) + 64) (h2 : 64 * ((s.reg rEvtInjAddr).toNat / 64) < a + n) : injectLine a n s =
      injected { s with memErr := putErr s.memErr ((s.reg rEvtInjAddr).toNat / 64) (complemented (fld (s.reg rEvtInjCtrl) 2 3)) } := by
  simp only [injectLine, injects_of_armed ha ht, h1, h2, decide_true, Bool.and_self, if_true]
  rfl

theorem wroteJournal_hits (ha : s.events.inj.armed = true) (ht : fld (s.reg rEvtInjCtrl) 0 2 = 1) :
    wroteJournal (fld (s.reg rEvtInjAddr) 0 13) s = injected (s.modRings fun r =>
      { r with journalErr := putErr r.journalErr (fld (s.reg rEvtInjAddr) 0 13) (complemented (fld (s.reg rEvtInjCtrl) 2 3)) }) := by
  simp only [wroteJournal, injects_of_armed ha ht, State.rf, beq_self_eq_true, Bool.and_self, if_true]

/-! ## Collection, recovery and shadow windows (R438, R445, R450) -/

theorem execEventCollect_oldest {e : Event} {t : List Event} {u : State} (hu : u = if s.power.pRun then trgWaiting s else s)
    (he : u.events.raised = e :: t) (hc : u.power.cRun = true) :
    execEventCollect s = .next (settle u (collect e (u.modEvents fun v => { v with raised := t }))) := by
  subst hu
  simp only [execEventCollect, he, hc, if_true]

theorem execFaultRecovered_due (hr : s.events.src[n].recovers = true) (hc : s.conditionBefore n = false)
    (ht : s.events.src[n].quietSince s.now + msTicks (s.rf (rEvtRecov n) 0 16) ≤ s.now) : execFaultRecovered n s =
      .next (settle s (reenter n (raise n evRecovered 0 0 (s.modSrc n fun f =>
        { f with
          state := .clear, reaction := .none, recovCnt := satInc f.recovCnt
          recovered := s.now :: f.recovered.filter fun t => decide (s.now ≤ t + sTicks (s.rf (rEvtRecov n) 20 12)) })))) := by
  simp only [execFaultRecovered, hr, hc, ht, decide_true, Bool.not_false, Bool.and_self, if_true]

/-- A window of the object has ended. -/
def Shadow.over (w : ShadowObj) (now : Nat) (x : Shadow) : Bool := x.obj == w && (match x.ends with | some t => decide (t ≤ now) | none => false)

theorem Shadow.over_iff {w : ShadowObj} {now : Nat} {x : Shadow} : x.over w now = true ↔ x.obj = w ∧ ∃ t, x.ends = some t ∧ t ≤ now := by
  cases h : x.ends with
  | none => simp [Shadow.over, h]
  | some t => simp [Shadow.over, h]

theorem execShadowWindowEnd_closes (w : ShadowObj) (s : State) : execShadowWindowEnd w s =
    .next (s.modEvents fun v => { v with shadows := v.shadows.filter fun x => !x.over w s.now }) := rfl

end Sys2Proof.Machine

namespace Sys2Proof

open Sys2Proof.Machine

/-- Settles O8: each command in the case in which it acts; FAULT_CLEAR by what it names. -/
theorem eventCommandsComplete : Obligations.EventCommandsComplete := by
  refine ⟨fun k s n hm hn hr hc => immediate_applies hm (doFaultClear_one hn hr hc), fun k s l hm hn hl => ?_,
    fun k s n hm hn hr hf => immediate_applies hm (doEventForce_allowed hn hr hf)⟩
  subst hl
  exact immediate_applies hm (doFaultClear_all hn)

/-- Settles O15: the writes reach their registers; the armed injection acts with the frame, the line or the slot of its target. -/
theorem injectionAndForceComplete : Obligations.InjectionAndForceComplete := by
  refine ⟨fun v s hr hc hm hv ht => wordRow_reaches hr hc (.inl rfl) (writeInjCtrl_arms hm hv ht), fun d f g s => execInjectionApply_marks,
    fun q a l n s ha ht hn h1 h2 he => ?_, fun s ha ht => ?_,
    fun w v s hr hc hs => wordRow_reaches hr hc (.inl rfl) (writeForce_unsealed hs)⟩
  · subst hn
    rw [write_clean q a l he, injectLine_hits (s := s.store a l) ha ht h1 h2]
    exact ⟨by simp only [injected, State.modEvents_memErr, State.store, he, List.filter_nil]; rfl, rfl⟩
  · rw [wroteJournal_hits ha ht]
    exact ⟨rfl, rfl⟩

/-- Settles O36: each row in the case in which it acts; of the windows those of the object that are over go. -/
theorem eventStepsComplete : Obligations.EventStepsComplete := by
  refine ⟨fun e t u s => execEventCollect_oldest, fun k s => execFaultRecovered_due, fun w s => ⟨_, execShadowWindowEnd_closes w s, fun x => ?_⟩⟩
  rw [List.mem_filter, Bool.not_eq_true', ← Bool.not_eq_true, Shadow.over_iff]

end Sys2Proof
end

section
-- One proof after another, as above: elaborated side by side they wait for the same lemmas, each with a thread and its stack.
set_option Elab.async false

/-!
SUPPORT. The rows of the safety functions in the cases in which they act: inputs, the second path and the gates (R466 to R474), the safe outputs
(R477 to R484), the paths' tests and the overloads (R485 to R487, R550, R554).
-/
namespace Sys2Proof.Machine

open Sys2Proof

variable {s t : State} {c : SafCh} {o : SoId} {n : Nat}

/-! ## Inputs (R468, R469, R472) -/

theorem execSafetyInputChange_lasts {x : SafInput} {b : Bool} (hj : s.chJudges c = true) (hb : (s.saf.ch[c]).inputs[x.idx] ≠ b)
    (hn : s.filtTicks x ≤ n) : execSafetyInputChange c x b n s =
      .next (settle s (discCleared s .cov (discCleared s .inh (s.modSafCh c (SafChannel.read x b s.now))))) := by
  simp only [execSafetyInputChange, hj, bne_iff_ne.2 hb, hn, decide_true, Bool.true_or, Bool.and_self, if_true]

theorem execDiscrepancyFault_stood {p : SafPair} (hs : s.power.sealed = true) (hj : s.chJudges c = true)
    (hf : (s.saf.ch[c]).discFault[p.idx] = false) (hd : (s.saf.ch[c]).readA p ≠ (s.saf.ch[c]).readB p)
    (hn : (s.saf.ch[c]).discSince[p.idx] = some n) (ht : n + msTicks (s.discMs p) ≤ s.now) :
    execDiscrepancyFault c p s = .next (settle s (latchDisc c p s)) := by
  simp only [execDiscrepancyFault, hs, hj, hf, decide_eq_true hd, hn, ht, decide_true, Bool.not_false, Bool.and_self, if_true]

theorem execStartUpTestPassed_due (hj : s.chJudges c = true) (hp : (s.saf.ch[c]).startup = false)
    (hn : (s.saf.ch[c]).startupSince = some n) (ht : n + msTicks 20 ≤ s.now) : execStartUpTestPassed c s =
      .next (settle s (raise 176 evSf1Passed 0 0 (s.modSafCh c fun y => { y with startup := true, startupSince := none }))) := by
  simp only [execStartUpTestPassed, hj, hp, hn, ht, decide_true, Bool.not_false, Bool.and_self, if_true]

/-! ## The second path and the gates (R466, R474) -/

/-- A wave that the decoder can take so, present. -/
theorem execSecondPathDecode_present {l : List Nat} {w : WireState} (hp : s.chPowered 0 = true) (hw : s.decodeWave l n = w)
    (hc : s.wireCan w = true) (ha : w ≠ .absent) :
    execSecondPathDecode l n s = .next (settle s (s.modSaf fun f => { f with wire := w, absentSince := none })) := by
  simp only [execSecondPathDecode, hp, hw, hc, ha, Bool.and_self, if_true, if_false]

/-- With power-good low the wave decodes as absent. -/
theorem execSecondPathDecode_absent {l : List Nat} (hp : s.chPowered 0 = true) (hg : s.power.powerGood = false) (hc : s.wireCan .absent = true) :
    execSecondPathDecode l n s = .next (settle s (wireAbsent s)) := by
  have hw : s.decodeWave l n = .absent := by simp only [State.decodeWave, hg, Bool.not_false, if_true]
  simp only [execSecondPathDecode, hp, hw, hc, Bool.and_self, if_true]

theorem execGateEnable_lifts (hb : s.saf.path1Block = true) (hp : s.saf.biasPermit = true) (ha : s.path1Acts = false)
    (hm : s.mayEnable = true) (hn : s.saf.biasAt = some n) (hr : s.islandsReady = true ∨ n + 4000000 ≤ s.now) :
    execGateEnable s = .next (settle s (s.modSaf fun f => { f with path1Block := false })) := by
  have hready : (s.islandsReady || decide (n + 4000000 ≤ s.now)) = true := by simpa using hr
  simp only [execGateEnable, hb, hp, ha, hm, hn, hready, Bool.not_false, Bool.and_self, if_true]

/-! ## The safe outputs (R477, R480, R484, R487) -/

/-- The channel acts on the outputs: channel 2 only while it is not absent (R485). -/
theorem bothPresent (h : c = 1 → s.ch2Absent = false) : (c == 1 && s.ch2Absent) = false := by
  rw [Bool.and_eq_false_imp]
  exact fun hc => h (beq_iff_eq.1 hc)

theorem execSoTestPulse_due (hs : s.power.sealed = true) (hj : s.chJudges c = true) (ha : c = 1 → s.ch2Absent = false)
    (hd : s.testDue c = true) (hp : (s.saf.ch[c]).pulse = Vector.replicate 2 false) (ht : s.testable c 0 = true ∨ s.testable c 1 = true) :
    execSoTestPulse c s = .next (settle s (s.modSafCh c fun y =>
      { y with pulse := #v[s.testable c 0, s.testable c 1], pulseAt := s.now, lastTest := s.now })) := by
  have hany : (s.testable c 0 || s.testable c 1) = true := by simpa using ht
  have hidle : ((s.saf.ch[c]).pulse[0] || (s.saf.ch[c]).pulse[1]) = false := by
    rw [hp]
    rfl
  simp only [execSoTestPulse, hs, hj, bothPresent ha, hd, hidle, hany, Bool.not_false, Bool.and_self, if_true]

/-- The end of a test pulse judges the switch of each output that it has opened. -/
theorem execSoTestPulseEnd_due {a b : Option Nat} {p q : Bool} (hp : (s.saf.ch[c]).pulse = #v[p, q]) (ho : p = true ∨ q = true)
    (ht : (s.saf.ch[c]).pulseAt + s.testPulse ≤ s.now)
    (he : t = (let u := if p then judgeTest c 0 (fellInTime a) s else s
               if q then judgeTest c 1 (fellInTime b) u else u)) :
    execSoTestPulseEnd c a b s = .next (settle s (t.modSafCh c fun y => { y with pulse := Vector.replicate 2 false })) := by
  have hfirst : (s.saf.ch[c]).pulse[0] = p := by rw [hp]; rfl
  have hsecond : (s.saf.ch[c]).pulse[1] = q := by rw [hp]; rfl
  have hany : (p || q) = true := by simpa using ho
  subst he
  simp only [execSoTestPulseEnd, hfirst, hsecond, hany, ht, decide_true, Bool.and_self, if_true]

theorem execSafeOutputOverload_over {ma : Nat} (ho : s.soOn o = true) (h : 6000 < ma ∨ (2500 < ma ∧ msTicks 10 ≤ n)) :
    execSafeOutputOverload o ma n s = .next (settle s (stand 177 evSf2Overload
      (raise 177 evSf2Overload (BitVec.ofNat 32 o.val) 0 (s.modSo o fun f => { f with overload := true })))) := by
  have hover : (decide (6000 < ma) || overloaded 2500 ma n) = true := by simpa [overloaded] using h
  simp only [execSafeOutputOverload, ho, hover, Bool.and_self, if_true]

section
variable (hs : s.power.sealed = true) (hj : s.chJudges c = true) (ha : c = 1 → s.ch2Absent = false)
  (ht : (s.saf.so[o]).changedAt + s.feedbackTime ≤ s.now)
include hs hj ha ht

theorem execContactorFeedbackFault_welded (he : (s.saf.so[o]).energised = false) (hm : s.mirrorRead c o = false)
    (hw : (s.saf.so[o]).welded = false) : execContactorFeedbackFault c o s =
      .next (settle s (stand 177 evSf2Welded (raise 177 evSf2Welded (BitVec.ofNat 32 o.val) 0 (s.modSo o fun f => { f with welded := true })))) := by
  simp only [execContactorFeedbackFault, hs, hj, bothPresent ha, ht, he, hm, hw, decide_true, Bool.not_false, Bool.and_self, if_true]

theorem execContactorFeedbackFault_notClosed (he : (s.saf.so[o]).energised = true) (hm : s.mirrorRead c o = true)
    (hn : (s.saf.so[o]).notClosed = false) : execContactorFeedbackFault c o s = .next (settle s (stand 177 evSf2NotClosed
      (raise 177 evSf2NotClosed (BitVec.ofNat 32 o.val) 0 (s.modSo o fun f => { f with notClosed := true })))) := by
  simp only [execContactorFeedbackFault, hs, hj, bothPresent ha, ht, he, hm, hn, decide_true, Bool.not_false, Bool.not_true, Bool.false_and,
    Bool.and_self, Bool.false_eq_true, if_true, if_false]

end

/-- A welded contactor whose mirror contact has read closed for a second is so no longer; the condition stands while the other is. -/
theorem execSf2FaultCleared_due (hw : (s.saf.so[o]).welded = true) (hn : (s.saf.so[o]).clearSince = some n) (ht : n + sTicks 1 ≤ s.now)
    (he : t = raise 177 evSf2Cleared (BitVec.ofNat 32 o.val) 0 (s.modSo o fun f => { f with welded := false })) :
    execSf2FaultCleared o s = .next (settle s
      (if (t.saf.so[(0 : SoId)]).welded || (t.saf.so[(1 : SoId)]).welded then t else unstand 177 evSf2Welded t)) := by
  subst he
  simp only [execSf2FaultCleared, hw, hn, ht, decide_true, Bool.and_self, if_true]
  rfl

theorem execSafeOutputReadbackFault_off (hj : s.chJudges c = true) (hd : s.soDemanded o = false) :
    execSafeOutputReadbackFault c o s = .next (settle s (s.modSo o fun f => { f with readback := true })) := by
  simp only [execSafeOutputReadbackFault, hj, hd, Bool.not_false, Bool.and_self, if_true]

/-! ## Channel 2's absence (R485 to R487) -/

theorem execChannel2Rejoined_back (hn : s.saf.absentSince = some n) (ha : s.ch2Absent = true) (hg : s.power.powerGood = true)
    (hp : s.chPowered 0 = true) (hw : s.waveOk = true) : execChannel2Rejoined s =
      .next (settle s (unstand 181 evPathAbsentLong (raise 181 evPathRejoined 0 0 (raise 180 evCh2Absent (BitVec.ofNat 32 ((s.now - n) / 400000)) 0
        (s.modSaf fun f => { f with wire := .enable, absentSince := none, ch2Timeout := false }))))) := by
  simp only [execChannel2Rejoined, hn, ha, hg, hp, hw, Bool.and_self, if_true]

theorem execChannel2AbsentTooLong_due (hs : s.power.sealed = true) (hp : s.chPowered 0 = true) (ha : s.ch2Absent = true)
    (hr : s.saf.ch2Timeout = false) (hn : s.saf.absentSince = some n) (ht : n + 40000000 * s.rf rSafCh2Cfg 0 7 < s.now) :
    execChannel2AbsentTooLong s = .next (settle s (stand 181 evPathAbsentLong
      (raise 181 evPathAbsentLong 0 0 (s.modSaf fun f => { f with ch2Timeout := true })))) := by
  simp only [execChannel2AbsentTooLong, hs, hp, ha, hr, hn, ht, decide_true, Bool.not_false, Bool.and_self, if_true]

theorem execChannel2DidNotFollowDemand_due (hp : s.chPowered 0 = true) (hd : s.sf1Demand 0 = true) (hg : s.power.powerGood = true)
    (hw : s.saf.wire = .enable) (hr : s.saf.ch2NotFollowed = false) (hn : s.saf.demandAt = some n) (ht : n + msTicks 4 ≤ s.now) :
    execChannel2DidNotFollowDemand s = .next (settle s (stand 181 evPathNotFollowed
      (raise 181 evPathNotFollowed 0 0 (s.modSaf fun f => { f with ch2NotFollowed := true })))) := by
  simp only [execChannel2DidNotFollowDemand, hp, hd, hg, hw, hr, hn, ht, beq_self_eq_true, decide_true, Bool.not_false, Bool.and_self, if_true]

/-! ## The paths' readbacks and the channels' self-tests (R487) -/

theorem gatesOff_iff : s.gatesOff = true ↔ ∀ u : UnitId, s.units[u].gate = false := by
  simp [State.gatesOff, Fin.forall_iff]

/-- A bad readback of path 1, with no gate on and path 2's rails off, makes path 2 act. -/
theorem execPath1ReadbackPulse_path1 (hp : s.chPowered 0 = true)
    (hd : s.saf.demandAt.isSome = true ∨ periodic (sTicks 1) s.saf.readBackAt s.now = true) (hf : s.saf.path1Fault = false)
    (hg : ∀ u : UnitId, s.units[u].gate = false) : execPath1ReadbackPulse false true s =
      .next (settle s (stand 181 evPathReadback (raise 181 evPathReadback 0 0
        (s.modSaf fun f => { f with readBackAt := some s.now, path1Fault := true })))) := by
  have hdue : (s.saf.demandAt.isSome || periodic (sTicks 1) s.saf.readBackAt s.now) = true := by simpa using hd
  have hoff : (s.modSaf fun f => { f with readBackAt := some s.now }).gatesOff = true := gatesOff_iff.2 hg
  simp only [execPath1ReadbackPulse, hp, hdue, judgePath1, judgePath2, hoff, State.modSaf_saf, hf, Bool.not_true, Bool.or_self, Bool.true_or,
    Bool.and_self, Bool.false_eq_true, if_true, if_false]
  rfl

/-- Rails that are not off once path 2 has had its time after a demand hold path 1 acted. -/
theorem execPath1ReadbackPulse_path2 (hp : s.chPowered 0 = true) (hn : s.saf.demandAt = some n) (ht : n + msTicks 2 ≤ s.now)
    (hf : s.saf.path2Fault = false) : execPath1ReadbackPulse true false s =
      .next (settle s (stand 181 evPathPath2 (raise 181 evPathPath2 0 0
        (s.modSaf fun f => { f with readBackAt := some s.now, path2Fault := true })))) := by
  have hdue : decide (n + msTicks 2 ≤ (s.modSaf fun f => { f with readBackAt := some s.now }).now) = true := decide_eq_true ht
  simp only [execPath1ReadbackPulse, hp, hn, judgePath1, judgePath2, hdue, State.modSaf_saf, hf, Option.isSome_some, Bool.true_or, Bool.not_true,
    Bool.or_self, Bool.and_self, Bool.false_eq_true, if_true, if_false]
  rfl

section
variable (hp : s.chPowered 0 = true) (hf : s.ch1Failed = false) (ht : periodic (msTicks 10) (s.saf.ch[(0 : SafCh)]).checkedAt s.now = true)
include hp hf ht

theorem execChannel1SelfTest_passed :
    execChannel1SelfTest true s = .next (settle s ((noteCheck 0 s).modSafCh 0 fun c => { c with selfOk := true })) := by
  have ht' : periodic (msTicks 10) (s.saf.ch[0]).checkedAt s.now = true := ht
  simp only [execChannel1SelfTest, hp, hf, ht', Bool.not_true, Bool.or_self, Bool.false_eq_true, if_false, if_true]

theorem execChannel1SelfTest_failed : execChannel1SelfTest false s = .next (settle s (stand 179 evCh1SelfTest (raise 179 evCh1SelfTest 0 0
    ((noteCheck 0 s).modSafCh 0 fun c => { c with selfOk := false })))) := by
  have ht' : periodic (msTicks 10) (s.saf.ch[0]).checkedAt s.now = true := ht
  simp only [execChannel1SelfTest, hp, hf, ht', Bool.not_true, Bool.or_self, Bool.false_eq_true, if_false]

end

section
variable (hj : s.chJudges 1 = true) (ht : periodic (msTicks 100) (s.saf.ch[(1 : SafCh)]).checkedAt s.now = true)
include hj ht

theorem execChannel2SelfCheck_passed : execChannel2SelfCheck true s =
    .next (settle s (unstand 180 evCh2SelfCheck ((noteCheck 1 s).modSafCh 1 fun c => { c with selfOk := true }))) := by
  have ht' : periodic (msTicks 100) (s.saf.ch[1]).checkedAt s.now = true := ht
  simp only [execChannel2SelfCheck, hj, ht', Bool.not_true, Bool.or_self, Bool.false_eq_true, if_false, if_true]

theorem execChannel2SelfCheck_failed (hn : evCh2SelfCheck.code ∉ (s.events.src[(180 : SourceId)]).standing) : execChannel2SelfCheck false s =
    .next (settle s (stand 180 evCh2SelfCheck (raise 180 evCh2SelfCheck 0 0 ((noteCheck 1 s).modSafCh 1 fun c => { c with selfOk := false })))) := by
  have ht' : periodic (msTicks 100) (s.saf.ch[1]).checkedAt s.now = true := ht
  simp only [execChannel2SelfCheck, hj, ht', hn, Bool.not_true, Bool.or_self, Bool.false_eq_true, if_false]

end

/-! ## Pulses of the loop supplies (R550, R551) -/

/-- Input i of the channel does not follow a pulse of the supply as it should. -/
def SafChannel.strays (x : SafChannel) (o : SoId) (f : BitVec 6) (i : Fin 6) : Bool :=
  x.inputs[i] && (f.getLsbD i.val != decide (i.val % 2 = o.val))

theorem strays_of_noDemand {x : SafChannel} {f : BitVec 6} {i : Fin 6} (h : x.inputs[i] = false) : x.strays o f i = false := by
  rw [SafChannel.strays, h, Bool.false_and]

section
variable {f : BitVec 6} (hj : s.chJudges c = true) (hp : s.supplyPulses o c = true)
include hj hp

/-- No input strays: the pulse is only noted. -/
theorem execSupplyPulseTest_followed (h : ∀ i, (s.saf.ch[c]).strays o f i = false) : execSupplyPulseTest o c f s =
    .next (settle s (s.modSafCh c fun y => { y with supAt := upd y.supAt o fun _ => some s.now })) := by
  unfold SafChannel.strays at h
  simp only [execSupplyPulseTest, h, hj, hp, Bool.or_self, Bool.false_and, Bool.and_self, Bool.false_eq_true, if_false, if_true]

/-- Input 0 alone of all strays: its pair's discrepancy is latched. -/
theorem execSupplyPulseTest_inhibit (h0 : (s.saf.ch[c]).strays o f 0 = true) (hd : (s.saf.ch[c]).discFault[(0 : Fin 2)] = false)
    (h : ∀ i : Fin 6, 2 ≤ i.val → (s.saf.ch[c]).strays o f i = false) : execSupplyPulseTest o c f s =
      .next (settle s ((latchDisc c .inh s).modSafCh c fun y => { y with supAt := upd y.supAt o fun _ => some s.now })) := by
  have h2 := h 2 (by decide)
  have h3 := h 3 (by decide)
  have h4 := h 4 (by decide)
  have h5 := h 5 (by decide)
  have hd' : (s.saf.ch[c]).discFault[0] = false := hd
  unfold SafChannel.strays at h0 h2 h3 h4 h5
  simp only [execSupplyPulseTest, h0, h2, h3, h4, h5, hd', hj, hp, Bool.or_self, Bool.true_or, Bool.false_and, Bool.not_false, Bool.and_self,
    Bool.false_eq_true, if_false, if_true]

end

/-! ## DCH, CDRV and channel 2's domain (R517, R554) -/

theorem execDchOverload_over {b : Bool} {ma : Nat} (hd : s.dchOn = true) (h : b = true ∨ (750 < ma ∧ msTicks 10 ≤ n)) :
    execDchOverload b ma n s = .next (settle s (s.modSaf fun f => { f with dchOver := some s.now })) := by
  have hover : (b || overloaded 750 ma n) = true := by simpa [overloaded] using h
  simp only [execDchOverload, hd, hover, Bool.and_self, if_true]

theorem execDchRetry_due {b : Bool} (hn : s.saf.dchOver = some n) (ht : n + sTicks 1 ≤ s.now) :
    execDchRetry b s = .next (settle s (s.modSaf fun f => { f with dchOver := if b then some s.now else none })) := by
  simp only [execDchRetry, hn, ht, if_true]

theorem execCdrvOverload_over {ma : Nat} (hd : s.cdrvOn = true) (hm : 1500 < ma) (hn : msTicks 10 ≤ n) :
    execCdrvOverload ma n s = .next (settle s { s with cdrvOff := true }) := by
  simp only [execCdrvOverload, overloaded, hd, hm, hn, decide_true, Bool.and_self, if_true]

theorem execCdSafRestarted_off (hd : bitAt s.power.domOn 8 = false) (hc : s.power.cRun = true)
    (ht : t = channelPowerUp 1 (wireAbsent (s.modPower fun p => { p with domOn := p.domOn ||| 0x100, powerGood := true }))) :
    execCdSafRestarted s = .next (settle s (raise 184 evCdieSafRestarted 0 0 (unstand 180 evCh2SelfCheck
      (unstand 181 evPathNotFollowed (t.modSaf fun f => { f with ch2NotFollowed := false }))))) := by
  subst ht
  simp only [execCdSafRestarted, hd, hc, Bool.not_true, Bool.or_self, Bool.false_eq_true, if_false]

end Sys2Proof.Machine

namespace Sys2Proof

open Sys2Proof.Machine

/-- Settles O37: each row in the case in which it acts; the wave by whether it is present. -/
theorem safetyInputStepsComplete : Obligations.SafetyInputStepsComplete :=
  ⟨fun _ _ _ _ _ => execSafetyInputChange_lasts, fun _ _ _ _ => execDiscrepancyFault_stood, fun _ _ _ => execStartUpTestPassed_due,
    fun _ _ _ _ => execSecondPathDecode_present, fun _ _ _ => execSecondPathDecode_absent, fun _ _ => execGateEnable_lifts⟩

/-- Settles O38: each row in the case in which it acts; a contactor's fault by whether its output is energised. -/
theorem safeOutputStepsComplete : Obligations.SafeOutputStepsComplete :=
  ⟨fun _ _ => execSoTestPulse_due, fun _ _ _ _ _ _ _ => execSoTestPulseEnd_due, fun _ _ _ _ => execSafeOutputOverload_over,
    fun _ _ _ hs hj ha ht => ⟨execContactorFeedbackFault_welded hs hj ha ht, execContactorFeedbackFault_notClosed hs hj ha ht⟩,
    fun _ _ _ _ => execSf2FaultCleared_due, fun _ _ _ => execSafeOutputReadbackFault_off⟩

/-- Settles O39: each row in the case in which it acts; a self-test by its result, a supply's pulse by the inputs that do not follow it. -/
theorem secondPathStepsComplete : Obligations.SecondPathStepsComplete := by
  refine ⟨fun _ _ => execChannel2Rejoined_back, fun _ _ => execChannel2AbsentTooLong_due, fun _ _ => execChannel2DidNotFollowDemand_due,
    fun _ => execPath1ReadbackPulse_path1, fun _ _ => execPath1ReadbackPulse_path2,
    fun _ hp hf ht => ⟨execChannel1SelfTest_passed hp hf ht, execChannel1SelfTest_failed hp hf ht⟩,
    fun _ hj ht => ⟨execChannel2SelfCheck_passed hj ht, execChannel2SelfCheck_failed hj ht⟩,
    fun o c f s hj hp h => execSupplyPulseTest_followed hj hp fun i => ?_, fun o c f t s hj hp hi hf hd ht h => ?_,
    fun _ _ _ _ => execDchOverload_over, fun _ _ _ => execDchRetry_due, fun _ _ _ => execCdrvOverload_over,
    fun _ _ hd _ hc ht => execCdSafRestarted_off hd hc ht⟩
  · cases hi : (s.saf.ch[c]).inputs[i] with
    | false => exact strays_of_noDemand hi
    | true => rw [SafChannel.strays, h i hi, bne_self_eq_false, Bool.and_false]
  · subst ht
    refine execSupplyPulseTest_inhibit hj hp ?_ hd fun i hi => strays_of_noDemand (h i hi)
    have hstray : f.getLsbD 0 ≠ decide (0 = o.val) := by simpa only [eq_comm] using hf
    rw [SafChannel.strays, hi, Bool.true_and]
    exact bne_iff_ne.2 hstray

end Sys2Proof
end

section
-- One proof after another, as above: elaborated side by side they wait for the same lemmas, each with a thread and its stack.
set_option Elab.async false

/-!
SUPPORT. PWR_CMD by its key, its action and the device state (R528, R531, R537, R538), and the rows of supply, domains, clocks and temperature in the
cases in which they act (R517, R519 to R521, R525, R526, R544).
-/
namespace Sys2Proof.Machine

open Sys2Proof

variable {s t : State} {mv mj n : Nat}

/-! ## PWR_CMD (R531) -/

/-- A word of PWR_CMD: its key and its action. -/
def cmdWord (key : BitVec 16) (a : Nat) : Word32 := BitVec.ofNat 32 (key.toNat + 65536 * a)

theorem cmdWord_key (key : BitVec 16) {a : Nat} : fld (cmdWord key a) 0 16 = key.toNat := by
  simp only [cmdWord, fld, BitVec.toNat_ofNat, Nat.shiftRight_zero]
  omega

theorem cmdWord_action (key : BitVec 16) {a : Nat} (ha : a < 8) : fld (cmdWord key a) 16 3 = a := by
  simp only [cmdWord, fld, BitVec.toNat_ofNat]
  omega

theorem writePwrCmd_wrongKey {key : BitVec 16} {a : Nat} (hk : key ≠ 0xC3A5) : writePwrCmd (cmdWord key a) s = cmdResult 2 s := by
  have hn : fld (cmdWord key a) 0 16 ≠ 0xC3A5 := by
    rw [cmdWord_key key]
    exact fun h => hk (BitVec.eq_of_toNat_eq h)
  rw [writePwrCmd, if_pos hn]

/-- With the key, an action of the table: refused in a state that is none of its own, or with a region not in OFF where it requires that, else done. -/
theorem writePwrCmd_action {a : Nat} (ha : a < 8) {l : List DevState} {o : Bool} {f : State → State} (h : pwrAction a = some (l, o, f)) :
    writePwrCmd (cmdWord 0xC3A5 a) s =
      if !l.contains s.power.dev then cmdResult 3 s else if o && !s.allOff then cmdResult 4 s else f (cmdResult 1 s) := by
  rw [writePwrCmd, if_neg (by rw [cmdWord_key]; decide), cmdWord_action _ ha, h]

/-- A row of PWR_CMD, in a tick in which it reaches its register, of which the case that it is in is known. -/
theorem pwrCmd_reaches {key : BitVec 16} {a : Nat} (hr : s.hostReaches = true) (hc : s.power.cRun = true) (hp : s.pReach = true)
    (ht : writePwrCmd (cmdWord key a) s = t) : pwrCmd key a s = .next (settle s t) := by
  subst ht
  exact congrArg Host.Outcome.next (hostWord_reaches hr hc (.inr hp))

/-- What each action of PWR_CMD asks for: its number, the states it is allowed in, whether it needs every region in OFF, and what it does (R531). -/
inductive PwrAct : Nat → List DevState → Bool → (State → State) → Prop
  | enterService : PwrAct 1 [.ready, .safe] true (enterDev .service)
  | leaveService : PwrAct 2 [.service] false leaveService
  | enterStabled : PwrAct 3 [.setup, .ready, .safe, .service] true enterStabled
  | cDieReset : PwrAct 4 [.ready, .run, .safe, .service] false cDieDown
  | packageReset : PwrAct 5 [.setup, .ready, .safe, .service] true packageReset
  | pDieReset : PwrAct 6 [.service] false pDieDown

section
variable {a : Nat} {l : List DevState} {o : Bool} {f : State → State}

theorem PwrAct.row (h : PwrAct a l o f) : a < 8 ∧ pwrAction a = some (l, o, f) := by
  cases h <;> exact ⟨by decide, rfl⟩

variable (h : PwrAct a l o f) (hr : s.hostReaches = true) (hc : s.power.cRun = true) (hp : s.pReach = true)
include hr hc hp

theorem pwrCmd_wrongKey {key : BitVec 16} (hk : key ≠ 0xC3A5) : pwrCmd key a s = .next (settle s (cmdResult 2 s)) :=
  pwrCmd_reaches hr hc hp (writePwrCmd_wrongKey hk)

include h

theorem pwrCmd_wrongState (hd : s.power.dev ∉ l) : pwrCmd 0xC3A5 a s = .next (settle s (cmdResult 3 s)) := by
  refine pwrCmd_reaches hr hc hp ((writePwrCmd_action h.row.1 h.row.2).trans (if_pos ?_))
  simpa using hd

theorem pwrCmd_notOff (hd : s.power.dev ∈ l) (ho : o = true) (hn : s.allOff = false) :
    pwrCmd 0xC3A5 a s = .next (settle s (cmdResult 4 s)) := by
  refine pwrCmd_reaches hr hc hp ((writePwrCmd_action h.row.1 h.row.2).trans ?_)
  rw [if_neg (by simpa using hd), if_pos (by simp [ho, hn])]

theorem pwrCmd_acts (hd : s.power.dev ∈ l) (ho : o = true → s.allOff = true) :
    pwrCmd 0xC3A5 a s = .next (settle s (f (cmdResult 1 s))) := by
  refine pwrCmd_reaches hr hc hp ((writePwrCmd_action h.row.1 h.row.2).trans ?_)
  rw [if_neg (by simpa using hd), if_neg (by simpa using ho)]

end

/-! ## Supply (R519 to R521) -/

theorem execInputLow_enters (hl : s.power.low = false) (hn : s.power.lost = false) (hv : mv < 16800) : execInputLow mv s =
    .next (settle s (raise 182 evSupplyLow 0 0 (s.modPower fun p => { p with low := true, vbat := vbatOf mv }))) := by
  simp only [execInputLow, hl, hn, Nat.not_le.2 hv, decide_false, Bool.or_self, Bool.false_eq_true, if_false]

theorem execInputLowCleared_back (hl : s.power.low = true) (hn : s.power.lost = false) (hv : 16800 ≤ mv) :
    execInputLowCleared mv s = .next (s.modPower fun p => { p with low := false, vbat := vbatOf mv }) := by
  simp only [execInputLowCleared, hl, hn, hv, decide_true, Bool.not_false, Bool.and_self, if_true]

theorem lossThreshold_bounds : 13200 ≤ lossThreshold ∧ lossThreshold ≤ 14000 := by
  unfold lossThreshold
  omega

theorem returnThreshold_bounds : 15500 ≤ returnThreshold ∧ returnThreshold ≤ 16500 := by
  unfold returnThreshold
  omega

theorem execInputLoss_below (hn : s.power.lost = false) (hv : mv < lossThreshold) : execInputLoss mv mj s =
    .next (s.modPower fun p =>
      { p with lost := true, low := true, lostAt := s.now, vbat := vbatOf mv, store := BitVec.ofNat 8 (Config.storeCharge mj % 101) }) := by
  simp only [execInputLoss, hn, Nat.not_le.2 hv, decide_false, Bool.or_self, Bool.false_eq_true, if_false]
  rfl

theorem execInputLoss_above (hv : lossThreshold ≤ mv) : execInputLoss mv mj s = .next s := by
  simp only [execInputLoss, hv, decide_true, Bool.or_true, if_true]

theorem execInputReturn_below (hv : mv < returnThreshold) : execInputReturn mv mj s = .next s := by
  simp only [execInputReturn, hv, decide_true, Bool.or_true, if_true]

/-- The input back: the band below 16.8 V is entered anew. -/
theorem inputBack_noteStore : inputBack mv (noteStore mj s) =
    let t := s.modPower fun p => { p with
      lost := false, low := decide (mv < 16800), vbat := vbatOf mv, store := BitVec.ofNat 8 (Config.storeCharge mj % 101) }
    if mv < 16800 then raise 182 evSupplyLow 0 0 t else t := by
  simp only [inputBack, decide_eq_true_eq]
  rfl

theorem execInputReturn_ridden (hl : s.power.lost = true) (hv : returnThreshold ≤ mv) (hf : s.power.failed = false)
    (ht : s.now ≤ s.power.lostAt + msTicks 10) : execInputReturn mv mj s =
      .next (settle s (raise 182 evSupplyRidden (BitVec.ofNat 32 ((s.now - s.power.lostAt) / 400)) 0
        ((inputBack mv (noteStore mj s)).modPower fun p => { p with ridden := satInc p.ridden }))) := by
  have hn : s.now - s.power.lostAt ≤ msTicks 10 := by omega
  simp only [execInputReturn, hl, hf, hn, Nat.not_lt.2 hv, decide_false, Bool.not_true, Bool.or_self, Bool.false_eq_true, if_false, if_true]

theorem execInputReturn_failed (hl : s.power.lost = true) (hv : returnThreshold ≤ mv) (hf : s.power.failed = true) : execInputReturn mv mj s =
    .next (settle s (unstand 182 evSupplyPowerFail ((inputBack mv (noteStore mj s)).modPower fun p => { p with failed := false }))) := by
  simp only [execInputReturn, hl, hf, Nat.not_lt.2 hv, decide_false, Bool.not_true, Bool.or_self, Bool.false_eq_true, if_false, if_true]

theorem execPowerFail_due (hl : s.power.lost = true) (hf : s.power.failed = false) (h : s.power.lostAt + msTicks 10 ≤ s.now ∨ mj ≤ 60) :
    execPowerFail mj s = .next (settle s (powerFail (noteStore mj s))) := by
  have hdue : (decide (s.power.lostAt + msTicks 10 ≤ s.now) || decide (mj ≤ 60 + Config.reserveMargin)) = true := by
    simp only [Bool.or_eq_true, decide_eq_true_eq]
    omega
  simp only [execPowerFail, hl, hf, hdue, Bool.not_false, Bool.and_self, if_true]

theorem execStoreAoReserve_spent (hl : s.power.lost = true) (hf : s.power.failed = true) (hd : s.power.dev ≠ .stabled) :
    execStoreAoReserve 0 s = .next (settle s (goStabled (noteStore 0 (s.modPower fun p => { p with failStabled := true })))) := by
  simp only [execStoreAoReserve, hl, hf, bne_iff_ne.2 hd, beq_self_eq_true, Bool.and_self, if_true]

/-! ## Domains (R517) -/

theorem execDomainRegulationLoss_on {d : Domain} (hd : bitAt s.power.domOn d.no = true) :
    execDomainRegulationLoss d s = .next (settle s (domainLost d s)) := by
  rw [execDomainRegulationLoss, if_pos hd]

theorem execPdNetRestarted_off (hd : bitAt s.power.domOn 3 = false) (hr : s.reached (rampTicks + 1) = true)
    (h : s.power.sealed = false ∨ s.rb rPwrDomCfg 0 = false) : execPdNetRestarted s =
      .next (settle s (raise 183 evPdieNetRestarted 0 0 (netUp (s.modPower fun p => { p with domOn := p.domOn ||| 8 })))) := by
  have hmay : (s.power.sealed && s.rb rPwrDomCfg 0) = false := by
    rw [Bool.and_eq_false_iff]
    exact h
  simp only [execPdNetRestarted, hd, hr, hmay, Bool.not_true, Bool.or_self, Bool.false_eq_true, if_false]

theorem execPdIsoRestart_due (hn : s.power.isoLostAt = some n) (ht : n + msTicks 10 ≤ s.now) : execPdIsoRestart s =
    .next (settle s (unstand 183 evPdieIsoLost (s.modPower fun p => { p with isoLostAt := none, domOn := p.domOn ||| 0x10 }))) := by
  simp only [execPdIsoRestart, hn, Nat.not_lt.2 ht, if_false]

/-! ## Clocks (R525, R526) -/

theorem execMemsReferenceLost_gone {d : Int} (hm : s.power.memsOk = true) (h : 200 ≤ n ∨ 300 < d.natAbs) : execMemsReferenceLost n d s =
    .next (settle s (cDieDown (pDieDown (stand 185 evClockMemsLost
      (raiseNow 185 evClockMemsLost (s.modPower fun p => { p with memsOk := false, memsHeld := true })))))) := by
  have hbad : (decide (n < 200) && decide (d.natAbs ≤ 300)) = false := by
    rw [← Bool.decide_and, decide_eq_false_iff_not]
    omega
  simp only [execMemsReferenceLost, hm, hbad, Bool.not_true, Bool.or_self, Bool.false_eq_true, if_false]

theorem execMemsReferenceRecovered_due (hm : s.power.memsHeld = true) (hn : 10000 ≤ n) : execMemsReferenceRecovered n s =
    .next (settle s (unstand 185 evClockMemsLost (s.modPower fun p => { p with memsOk := true, memsHeld := false }))) := by
  simp only [execMemsReferenceRecovered, hm, hn, decide_true, Bool.and_self, if_true]

/-- The PLL's number in the event of its lost lock, a free value. -/
def State.pllNumber (s : State) : Word32 := s.fresh.1.setWidth 32

theorem execPllLockLost_pDie (h : s.power.pLock = true) : execPllLockLost .pDie s =
    .next (settle s (pDieDown ((raise 185 evClockPllLost s.pllNumber 0 s.fresh.2).modPower fun q => { q with pLock := false }))) := by
  simp only [execPllLockLost, h, if_true]
  rfl

theorem execPllLockLost_cDie (h : s.power.cLock = true) : execPllLockLost .cDie s =
    .next (settle s (cDieDown ((raise 185 evClockPllLost s.pllNumber 0 s.fresh.2).modPower fun q => { q with cLock := false }))) := by
  simp only [execPllLockLost, h, if_true]
  rfl

theorem execPllLockLost_memory (h : s.power.mLock = true) : execPllLockLost .memory s =
    .next (settle s (cDieDown ((raise 185 evClockPllLost s.pllNumber 0 s.fresh.2).modPower fun q => { q with mLock := false }))) := by
  simp only [execPllLockLost, h, if_true]
  rfl

theorem execAoClockMeasure_due {e : BitVec 16} (hp : s.power.pRun = true) (hm : s.power.memsOk = true)
    (hn : periodic (sTicks 1) s.power.aoMeasuredAt s.now = true)
    (ht : t = s.modPower fun p => { p with aoErr := e, aoMeasuredAt := some s.now }) :
    execAoClockMeasure e s = .next (if 300 < e.toInt.natAbs then settle s (raise 186 evAoDeviation 0 0 t) else t) := by
  subst ht
  simp only [execAoClockMeasure, hp, hm, hn, Bool.not_true, Bool.or_self, Bool.false_eq_true, if_false]

/-! ## Temperature (R544) -/

theorem execModuleTemperature_reads {x : BitVec 12} {w o : Bool × State} (ha : s.awake = true) (hp : s.power.pRun = true)
    (hw : w = tempStep 187 evTempWarning x.toInt (4 * s.rf rPwrTemp 16 8 : Nat) s.power.tempWarned s)
    (ho : o = tempStep 187 evTempOver x.toInt 420 s.power.tempOver w.2) : execModuleTemperature x s =
      .next (settle s (o.2.modPower fun p => { p with temp := x, tempWarned := w.1, tempOver := o.1 })) := by
  subst ho hw
  simp only [execModuleTemperature, ha, hp, Bool.not_true, Bool.or_self, Bool.false_eq_true, if_false]

end Sys2Proof.Machine

namespace Sys2Proof

open Sys2Proof.Machine

/-- Settles O9: each action by its key, by the states it is allowed in and by whether its regions are in OFF. -/
theorem powerCommandsComplete : Obligations.PowerCommandsComplete := by
  intro s hr hc hp
  have acts {a l o f} (h : PwrAct a l o f) (hd : s.power.dev ∈ l) (ho : o = true → s.allOff = true) := pwrCmd_acts h hr hc hp hd ho
  have notOff {a l o f} (h : PwrAct a l o f) (hd : s.power.dev ∈ l) (ho : o = true) (hn : s.allOff = false) := pwrCmd_notOff h hr hc hp hd ho hn
  have wrongState {a l o f} (h : PwrAct a l o f) (hd : s.power.dev ∉ l) := pwrCmd_wrongState h hr hc hp hd
  have wrongKey {a key} (hk : key ≠ 0xC3A5) := pwrCmd_wrongKey (a := a) hr hc hp hk
  refine ⟨fun hd ho => acts .enterService (by simpa using hd) fun _ => ho, fun hd => acts .leaveService (by simp [hd]) nofun,
    fun hd ho => ⟨acts .enterStabled (by simpa using hd) fun _ => ho, acts .packageReset (by simpa using hd) fun _ => ho⟩,
    fun hd => acts .cDieReset (by simpa using hd) nofun, fun hd => acts .pDieReset (by simp [hd]) nofun,
    fun key hk => ⟨wrongKey hk, wrongKey hk, wrongKey hk, wrongKey hk, wrongKey hk, wrongKey hk⟩,
    fun h1 h2 => wrongState .enterService (by simp [h1, h2]), fun h => ⟨wrongState .leaveService (by simp [h]), wrongState .pDieReset (by simp [h])⟩,
    fun h => ⟨wrongState .enterStabled (by simp [h]), wrongState .packageReset (by simp [h])⟩, fun h => wrongState .cDieReset (by simp [h]),
    fun hd hn => ⟨notOff .enterService (by simpa using hd) rfl hn, notOff .enterStabled ?_ rfl hn, notOff .packageReset ?_ rfl hn⟩⟩
  all_goals
    rcases hd with hd | hd
    · simp [hd]
    · simp [hd]

/-- Settles O40: each row in the case in which it acts, with the module's thresholds, which lie within their limits. -/
theorem supplyStepsComplete : Obligations.SupplyStepsComplete := by
  refine ⟨fun _ _ hl hn hv _ => execInputLow_enters hl hn hv, fun _ _ => execInputLowCleared_back,
    ⟨lossThreshold, returnThreshold, lossThreshold_bounds.1, lossThreshold_bounds.2, returnThreshold_bounds.1, returnThreshold_bounds.2,
      fun _ _ _ => execInputLoss_below, fun _ _ _ _ => execInputLoss_above, fun _ _ _ _ => execInputReturn_below,
      fun mv mj t u s hl hv ht hu => ?_⟩, fun _ _ => execPowerFail_due, fun _ => execStoreAoReserve_spent⟩
  subst ht hu
  rw [← inputBack_noteStore]
  exact ⟨execInputReturn_ridden hl hv, execInputReturn_failed hl hv⟩

/-- Settles O41: each row in the case in which it acts; the AO clock's error by its size. -/
theorem domainAndClockStepsComplete : Obligations.DomainAndClockStepsComplete := by
  refine ⟨fun _ _ => execDomainRegulationLoss_on, fun _ => execPdNetRestarted_off, fun _ _ => execPdIsoRestart_due,
    fun _ _ _ => execMemsReferenceLost_gone, fun _ _ => execMemsReferenceRecovered_due,
    fun s => ⟨fun h => ⟨_, execPllLockLost_pDie h⟩, fun h => ⟨_, execPllLockLost_cDie h⟩, fun h => ⟨_, execPllLockLost_memory h⟩⟩,
    fun e t s hp hm hn ht => ⟨fun h => ?_, fun h => ?_⟩, fun _ _ _ _ => execModuleTemperature_reads⟩
  · exact (execAoClockMeasure_due hp hm hn ht).trans (by rw [if_neg (Nat.not_lt.2 h)])
  · exact (execAoClockMeasure_due hp hm hn ht).trans (by rw [if_pos h])

end Sys2Proof
end

section
-- One proof after another, as above: elaborated side by side they wait for the same lemmas, each with a thread and its stack.
set_option Elab.async false

/-!
SUPPORT. The rows of the host link (R335, R461, R541, R576) and of the debug block (R574) in the cases in which they act.
-/
namespace Sys2Proof.Machine

open Sys2Proof

variable {s t : State} {v : Word32} {id : Nat} {r : DmaRead}

/-! ## The host link -/

section
variable (hf : (s.host.reads.find? fun r => r.id == id) = some r)
include hf

theorem execHostDmaReadComplete_good (data : List Byte) : execHostDmaReadComplete id 0 data s =
    .next (settle s (readDone r.use data (s.modHost fun h => { h with reads := h.reads.filter fun x => x.id != id }))) := by
  simp only [execHostDmaReadComplete, hf, if_true]

theorem execHostDmaReadComplete_failed {st : BitVec 3} (data : List Byte) (h : st ≠ 0) : execHostDmaReadComplete id st data s =
    .next (settle s (readFailed r st (s.modHost fun h => { h with reads := h.reads.filter fun x => x.id != id }))) := by
  simp only [execHostDmaReadComplete, hf, h, if_false]

theorem execHostDmaError_due (hd : r.issued + usTicks 50 ≤ s.now) : execHostDmaError id s =
    .next (settle s (readFailed r 7 (s.modHost fun h => { h with reads := h.reads.filter fun x => x.id != id }))) := by
  simp only [execHostDmaError, hf, Nat.not_lt.2 hd, if_false]

end

theorem execHostSilent_due (hm : s.rf rEvtHostwd 0 16 ≠ 0) (hr : s.ringsRun = true) (hn : s.host.silentReported = false)
    (hd : s.host.lastHead + msTicks (s.rf rEvtHostwd 0 16) ≤ s.now) :
    execHostSilent s = .next (settle s (raise 137 evHostSilent 0 0 (s.modHost fun h => { h with silentReported := true }))) := by
  simp only [execHostSilent, hr, hn, hd, hm, ne_eq, not_false_eq_true, Bool.not_false, and_self, if_true]

theorem execPcieEndpointReset_ready (h : s.endpointReady = true) :
    execPcieEndpointReset s = .next (settle s (endpointResets (closeDebug (s.modPower fun p => { p with lastReset := 5 })))) := by
  simp only [execPcieEndpointReset, h, Bool.not_true, Bool.false_eq_true, if_false]

theorem execPcieLinkDown_up (h : s.host.up = true) : execPcieLinkDown s =
    .next (settle s (stand 137 evHostLinkDown (raise 137 evHostLinkDown 0 0 (s.modHost fun h => { h with up := false })))) := by
  simp only [execPcieLinkDown, h, if_true]

theorem execPcieLinkReturn_ready (h : s.host.up = false ∨ s.host.endpointReset = true) (hr : s.endpointReady = true) : execPcieLinkReturn s =
    .next (settle s (deliverHeld (unstand 137 evHostLinkDown (s.modHost fun h =>
      { h with up := true, endpointReset := false, issued := h.waiting.reverse ++ h.issued, waiting := [] })))) := by
  have hdown : (s.host.up && !s.host.endpointReset) = false := by
    rcases h with h | h <;> simp [h]
  simp only [execPcieLinkReturn, hdown, hr, Bool.not_true, Bool.or_self, Bool.false_eq_true, if_false]

/-! ## The debug block -/

/-- The key in SERVICE opens the block of the package variant that has it. -/
theorem writeDbg_key (hd : s.power.dev = .service) (hk : fld v 0 16 = 0xD8B6) :
    writeDbg v s = if Config.isDA then s.modPower fun p => { p with debugOpen := true } else s := by
  simp only [writeDbg, hd, hk, beq_self_eq_true, Bool.and_true]

section
variable (ho : s.power.debugOpen = true) (hb : s.dbgBlock.busy = none)
include ho hb

theorem writeDbgCtrl_read (h0 : bitAt v 0 = true) (h1 : bitAt v 1 = false) :
    writeDbgCtrl v s = { s with dbgBlock := { s.dbgBlock with busy := some false } } := by
  simp only [writeDbgCtrl, ho, hb, h0, h1, Option.isSome_none, Bool.not_true, Bool.or_self, Bool.false_eq_true, if_false]

theorem writeDbgCtrl_write (h0 : bitAt v 0 = false) (h1 : bitAt v 1 = true) :
    writeDbgCtrl v s = { s with dbgBlock := { s.dbgBlock with busy := some true } } := by
  simp only [writeDbgCtrl, ho, hb, h0, h1, Option.isSome_none, Bool.not_true, Bool.or_self, Bool.false_eq_true, if_false]

end

/-- The capture slots of the frame are those whose number is a multiple of 4, and a frame is of 16. -/
theorem captureSlot_memSlot : captureSlot (Fin.ofNat 16 s.memSlot) = decide (s.memSlot % 4 = 0) := by
  rw [captureSlot, Fin.val_ofNat, Nat.mod_mod_of_dvd _ (by decide)]
  rfl

/-- The access ends in a slot that neither a refresh nor a capture takes. -/
theorem execDebugAccessDone_free {w : Bool} (hb : s.dbgBlock.busy = some w) (hr : s.refreshing = false) (hm : s.memSlot % 4 ≠ 0)
    (ht : (if w then debugWrite s else debugRead s) = t) :
    execDebugAccessDone s = .next (settle s { t with dbgBlock := { t.dbgBlock with busy := none } }) := by
  subst ht
  simp only [execDebugAccessDone, hb, hr, captureSlot_memSlot, hm, decide_false, Bool.or_self, Bool.false_eq_true, if_false]

theorem debugWrite_eq :
    debugWrite s = s.write 0x06 s.debugLine (s.dbgBlock.line.toList.map fun w => leBytes 4 w.toNat).flatten := rfl

/-- What a read leaves in the line buffer, by the state in which the line has been read and by its bytes. -/
theorem debugRead_eq {l : List Byte} (ht : t = (readMem s.debugLine 64 0x06 0 s).2)
    (hl : l = (match t.errLines t.debugLine 64 with | e :: _ => t.stored e.1 e.2 | [] => t.bytes t.debugLine 64)) : debugRead s =
      { t with dbgBlock := { t.dbgBlock with line := Vector.ofFn fun w : Fin 16 => BitVec.ofNat 32 (leAt l (4 * w.val) 4) } } := by
  subst ht hl
  rfl

end Sys2Proof.Machine

namespace Sys2Proof

open Sys2Proof.Machine

/-- Settles O19: each row in the case in which it acts, a read of host memory by its status. -/
theorem hostLinkStepsComplete : Obligations.HostLinkStepsComplete :=
  ⟨fun _ data _ _ hf => execHostDmaReadComplete_good hf data, fun _ data _ _ _ hf h => execHostDmaReadComplete_failed hf data h,
    fun _ _ _ => execHostDmaError_due, fun _ => execHostSilent_due, fun _ => execPcieEndpointReset_ready, fun _ => execPcieLinkDown_up,
    fun _ => execPcieLinkReturn_ready, fun _ _ _ => rfl⟩

/-- Settles O16: each command reaches its register and acts in an open, idle block; the access that ends is a write or a read. -/
theorem debugCompletes : Obligations.DebugCompletes := by
  refine ⟨fun v s hr hc hd hk => wordRow_reaches hr hc (.inl rfl) (writeDbg_key hd hk),
    fun v s hr hc ho hb h0 h1 => wordRow_reaches hr hc (.inl rfl) (writeDbgCtrl_read ho hb h0 h1),
    fun v s hr hc ho hb h0 h1 => wordRow_reaches hr hc (.inl rfl) (writeDbgCtrl_write ho hb h0 h1),
    fun t s hb hr hm ht => ?_, fun t l s hb hr hm ht hl => ?_⟩
  · exact execDebugAccessDone_free hb hr hm ((if_pos rfl).trans (debugWrite_eq.trans ht.symm))
  · have hread := execDebugAccessDone_free hb hr hm ((if_neg Bool.false_ne_true).trans (debugRead_eq ht hl))
    exact hread

end Sys2Proof
end

section
-- One proof after another, as above: elaborated side by side they wait for the same lemmas, each with a thread and its stack.
set_option Elab.async false

/-!
SUPPORT. Host accesses by their size and their place: which registers a write covers whole, what a read of BAR0 and of BAR2 answers (R354, R567, R568).
-/
namespace Sys2Proof.Machine

open Sys2Proof

variable {s : State} {off : Nat} {v : BitVec 64}

/-! ## Writes by size -/

/-- A write that reaches no further than the end of the register it begins in, and does not begin it, covers none whole. -/
theorem hostStore_none {size : Nat} (h : off + size < (off + 3) / 4 * 4 + 4) : hostStore off v size s = s := by
  have h4 : ¬(off + 3) / 4 * 4 + 4 ≤ off + min size 8 := by omega
  have h8 : ¬(off + 3) / 4 * 4 + 8 ≤ off + min size 8 := by omega
  simp only [hostStore, if_neg h4, if_neg h8]

/-- A write of 64 bits at an aligned offset is two of 32 bits, the lower address first. -/
theorem hostStore_wide (ha : off % 4 = 0) :
    hostStore off v 8 s = writeReg (off + 4) ((v >>> 32).setWidth 32) (writeReg off (v.setWidth 32) s) := by
  have hf : (off + 3) / 4 * 4 = off := by omega
  simp [hostStore, hf]

/-- A write of 64 bits at an unaligned offset covers one register whole. -/
theorem hostStore_straddling (ha : off % 4 ≠ 0) :
    hostStore off v 8 s = hostStore (off + (4 - off % 4)) (v >>> (8 * (4 - off % 4))) 4 s := by
  have hf : (off + 3) / 4 * 4 = off + (4 - off % 4) := by omega
  have h8 : ¬off + (4 - off % 4) + 8 ≤ off + min 8 8 := by omega
  have h4 : off + (4 - off % 4) + 4 ≤ off + min 8 8 := by omega
  have hd : off + (4 - off % 4) - off = 4 - off % 4 := by omega
  rw [hostStore_word (by omega)]
  simp only [hostStore, hf, hd, if_neg h8, if_pos h4]

theorem wfAccess_wide_aligned (h : wfAccess off v 8 = true) : off % 4 = 0 := by
  simp only [wfAccess, Bool.and_eq_true, beq_iff_eq] at h
  omega

theorem wfAccess_narrow_fits {size : Nat} (h : wfAccess off v size = true) (hs : size = 1 ∨ size = 2) : off + size < (off + 3) / 4 * 4 + 4 := by
  simp only [wfAccess, Bool.and_eq_true, beq_iff_eq] at h
  obtain ⟨⟨-, ha⟩, -⟩ := h
  rcases hs with rfl | rfl <;> omega

theorem setWidth_low (v : BitVec 64) : (v &&& 0xFFFFFFFF).setWidth 32 = v.setWidth 32 := by
  rw [BitVec.setWidth_and]
  exact BitVec.and_allOnes

/-! ## Offsets that no register occupies -/

theorem findSome?_map_eq_none {α β γ : Type} {l : List α} {f : α → Option β} {g : α → β → γ} (h : l.findSome? f = none) :
    (l.findSome? fun a => (f a).map (g a)) = none := by
  simpa using h

theorem readReg_unoccupied (hr : regRow off = none) (h : (readers.findSome? fun r => instOf r.1 r.2.1 r.2.2.1 off) = none) :
    s.readReg off = 0 := by
  simp only [State.readReg, findSome?_map_eq_none h, hr, Option.isSome_none, Bool.false_eq_true, if_false]

theorem regWrite_unoccupied {w : Word32} (hr : regRow off = none) (h : (writers.findSome? fun w => instOf w.1 w.2.1 w.2.2.1 off) = none) :
    regWrite off w s = s := by
  simp only [regWrite, findSome?_map_eq_none h, writeWord, hr]

/-! ## Reads -/

section
variable (hr : s.hostReaches = true)
include hr

theorem hostReads_bar2 (b : Nat) : s.hostReads (bar2 + b) = some (s.readMsix b) := by
  simp only [State.hostReads, hr, Bool.not_true, Bool.false_eq_true, if_false, Nat.le_add_right, if_true, Nat.add_sub_cancel_left]

variable (ho : off < bar2)
include ho

theorem hostReads_resetting (hc : s.power.cRun = false) : s.hostReads off = some 0xFFFFFFFF := by
  simp only [State.hostReads, hr, hc, Nat.not_le.2 ho, Bool.not_true, Bool.not_false, Bool.false_eq_true, if_false, if_true]

theorem hostReads_running (hc : s.power.cRun = true) :
    s.hostReads off = if dieOf off = .c ∨ s.pReach = true then some (s.readReg off) else none := by
  simp only [State.hostReads, hr, hc, Nat.not_le.2 ho, Bool.not_true, Bool.false_eq_true, if_false, Bool.or_eq_true, decide_eq_true_eq]

end

theorem hostReads_unreached (hr : s.hostReaches = false) : s.hostReads off = none := by
  simp only [State.hostReads, hr, Bool.not_false, if_true]

/-! ## An image of another length -/

theorem imageDone_odd {l : List Byte} (h : wfImage (some l) = false) : imageDone (some l) s = imageDone none s := by
  have hl : (l.length == 524304) = false := h
  simp only [imageDone, Option.filter_some, hl, Bool.false_eq_true, if_false, Option.filter_none]

/-! ## The MSI-X table read back (R354) -/

theorem sendMsix_msixTable (k : Nat) : (sendMsix k s).host.msixTable = s.host.msixTable := by
  simp only [sendMsix, hostWrite, State.modHost]
  split <;> rfl

/-- A data word of the MSI-X table is read back as it was written. -/
theorem msixWord_writeMsix {k : Nat} {x : Word32} (hk : k < 32) (h : tableWf msixReset s.host.msixTable = true) :
    (writeMsix (4 * (4 * k + 2)) x s).msixWord (4 * k + 2) = x := by
  have hput : look msixReset (put msixReset s.host.msixTable (4 * k + 2) (msixStored 2 x)) (4 * k + 2) = x := look_put_same _ _ h
  rw [writeMsix_word hk (by decide)]
  dsimp only
  split
  · exact hput
  · rw [State.msixWord, sendMsix_msixTable]
    exact hput

end Sys2Proof.Machine

namespace Sys2Proof

open Sys2Proof.Machine

/-- Settles O47: a write by the registers it covers whole, an image by its length, a frame by its port's link. -/
theorem oddOperandsComplete : Obligations.OddOperandsComplete := by
  refine ⟨fun off v size s ha hs => congrArg _ (hostStore_none (by omega)), fun off v s ha => congrArg _ (hostStore_straddling ha),
    fun l s hl => ?_, fun _ _ _ _ => execFrameReceive_linked, fun _ _ _ _ => execFrameReceive_unlinked⟩
  show execImageLoadDone (some l) s = execImageLoadDone none s
  rw [execImageLoadDone, execImageLoadDone, imageDone_odd hl]

/-- Settles O54: an access by its size, its offset and what answers it. -/
theorem narrowWideAndEmptyAccesses : Obligations.NarrowWideAndEmptyAccesses := by
  refine ⟨fun off v size s hw hs => congrArg _ (hostStore_none (wfAccess_narrow_fits hw hs)), fun off v s hw => ?_,
    fun _ _ => readReg_unoccupied, fun _ _ _ => regWrite_unoccupied, fun b s hr hb => ?_, fun s hr => ?_, fun k v s hk hr ht => ?_,
    fun off s ho hr => ⟨hostReads_resetting hr ho, hostReads_running hr ho⟩, fun _ _ => hostReads_unreached⟩
  · have ha := wfAccess_wide_aligned hw
    refine ⟨_, rfl, congrArg Host.Outcome.next ?_⟩
    rw [hostStore_wide ha, hostStore_word ha, hostStore_word (by omega), setWidth_low]
  · rw [hostReads_bar2 hr, State.readMsix, if_pos hb]
  · rw [hostReads_bar2 hr, State.readMsix, if_neg (by decide), if_pos rfl]
  · exact ⟨_, execRegisterWrite_msix (w := 2) hr, msixWord_writeMsix hk ht⟩

end Sys2Proof
end

section
-- One proof after another, as above: elaborated side by side they wait for the same lemmas, each with a thread and its stack.
set_option Elab.async false

/-!
SUPPORT. The queue under every command: of those that keep the register words the frame says it, of the others each operation here.
-/
namespace Sys2Proof.Machine

open Sys2Proof

/-- The commands that wait are `q`. -/
def Queued (q : List Instr) (s : State) : Prop := s.pending = q

variable {q : List Instr} {s : State}

theorem Queued.of_frame {t : State} (h : Queued q s) (ht : t.frame = s.frame) : Queued q t := by
  have hp : t.pending = s.pending := congrArg (fun x => x.1) ht
  exact hp.trans h

/-- An operation that keeps the frame keeps the queue. -/
theorem Queued.keep {f : State → State} (hf : ∀ t y, t.frame = y → (f t).frame = y) {s : State} (h : Queued q s) : Queued q (f s) :=
  h.of_frame (hf _ _ rfl)

theorem Queued.ite {c : Prop} [Decidable c] {t : State} (hs : Queued q s) (ht : Queued q t) : Queued q (if c then s else t) := by
  split
  · exact hs
  · exact ht

/-! ## Register words -/

theorem keepWord_queue (off : Nat) (w : Word32) (h : Queued q s) : Queued q (keepWord off w s) := .ite h h

theorem writeWord_queue (off : Nat) (v : Word32) (h : Queued q s) : Queued q (writeWord off v s) := by
  unfold writeWord
  split
  · exact h
  · extract_lets old m new t
    have ht : Queued q t := .ite h (keepWord_queue off new h)
    exact .ite (ht.keep fun x _ => rwsWritten_frame x) ht

theorem hostWord_queue (d : Die) (off : Nat) (v : Word32) {op : State → State} (hop : ∀ t, Queued q t → Queued q (op t)) (h : Queued q s) :
    Queued q (hostWord d off v op s) :=
  .ite h (.ite (.ite (h.keep fun t _ => readAs_frame _ t) h) (.ite ((hop s h).keep fun t _ => settle_frame _ t) (h.keep fun t _ => modHost_frame t _)))

theorem writeLanes_queue (r : RegionId) (v : Word32) (h : Queued q s) : Queued q (writeLanes r v s) :=
  have hw := writeWord_queue (rLeLanes r) v h
  .ite (h.keep fun t _ => raise_frame _ _ _ _ t) (.ite hw (hw.keep fun t _ e => dispatch_frame _ (showTbLimit_frame t e)))

theorem writeTbLanes_queue (v : Word32) (h : Queued q s) : Queued q (writeTbLanes v s) :=
  have hw := writeWord_queue rLeTbLanes v h
  .ite hw (hw.keep fun t _ e => dispatch_frame _ (showTbLimit_frame t e))

theorem writeLockCfg_queue (v : Word32) (h : Queued q s) : Queued q (writeLockCfg v s) := (writeWord_queue _ v h).keep fun t _ => loseLock_frame t

theorem writeInjCtrl_queue (v : Word32) (h : Queued q s) : Queued q (writeInjCtrl v s) :=
  have ht (n : Nat) : Queued q (keepWord rEvtInjCtrl (setFld (v &&& 0xFF) 2 3 n) s) := keepWord_queue _ _ h
  .ite (.ite ((ht _).keep fun u _ => modEvents_frame u _) (ht _)) (.ite (h.keep fun u _ => modEvents_frame u _) h)

theorem writeInjAddr_queue (v : Word32) (h : Queued q s) : Queued q (writeInjAddr v s) := .ite (keepWord_queue _ _ h) h

theorem writeTrg_queue (u : TrigId) (off : Nat) (v : Word32) (h : Queued q s) : Queued q (writeTrg u off v s) := by
  unfold writeTrg
  extract_lets t bad t2 t3
  have ht : Queued q t := (writeWord_queue off v h).keep fun x _ => modTrig_frame x _ _
  have ht2 : Queued q t2 := .ite (ht.keep fun x _ => raise_frame _ _ _ _ x) ht
  have ht3 : Queued q t3 := ht2.keep fun x _ => modTrig_frame x _ _
  exact .ite ht3 (ht3.keep fun x _ => trgTake_frame _ x)

theorem writeWin_queue (c : ChanId) (off : Nat) (v : Word32) (h : Queued q s) : Queued q (writeWin c off v s) :=
  (writeWord_queue off v h).keep fun x _ => standWindow_frame c x

theorem writeFltSrc_queue (n : ChainId) (v : Word32) (h : Queued q s) : Queued q (writeFltSrc n v s) := by
  unfold writeFltSrc
  extract_lets old t new
  have ht : Queued q t := writeWord_queue _ _ h
  exact .ite (ht.keep fun x _ => modChain_frame x _ _) (.ite (ht.keep fun x _ => modChain_frame x _ _) ht)

/-! ## The Seal, resets and power -/

theorem makeSeal_queue (h : Queued q s) : Queued q (makeSeal s) := by
  unfold makeSeal
  extract_lets t u v
  have hr : Queued q { t with sealRecord := t.regs } := h
  have hu : Queued q u := hr.keep fun x _ => enterDev_frame _ x
  have hv : Queued q v := hu.keep fun x _ e =>
    copyParams_frame _ (sealChains_frame _ (startBanks_frame _ (sealRings_frame _ (sealNet_frame _ e))))
  exact .ite (hv.keep fun x _ => raise_frame _ _ _ _ x) hv

theorem writeSeal_queue (v : Word32) (h : Queued q s) : Queued q (writeSeal v s) :=
  .ite h (.ite (makeSeal_queue h) (h.keep fun x _ => modPower_frame x _))

theorem cDieUp_queue (h : Queued q s) : Queued q (cDieUp s) := by
  unfold cDieUp
  extract_lets t0 t u v w p
  have hr : Queued q (restoreRegs .c t) := h
  have hu : Queued q u := hr.keep fun x _ e => closeCDieWindow_frame _ (endDieSafe_frame _ e)
  have hv : Queued q v := .ite (hu.keep fun x _ => loseMemory_frame x) hu
  have hw : Queued q w := hv.keep fun x _ e => resumeContexts_frame _ (reloadCode_frame _ (modLoop_frame x _ e))
  have hp : Queued q p.2 := hw.keep fun x _ => fresh_frame x
  exact hp.keep fun x _ e => reportOrphans_frame _ (startReplay_frame _ _ (raise_frame _ _ _ _ x e))

theorem pDieUp_queue (h : Queued q s) : Queued q (pDieUp s) := by
  unfold pDieUp
  extract_lets core t u v w p
  have ht : Queued q t := h
  have hu : Queued q u := .ite ht (ht.keep fun x _ => channel1PowerUp_frame x)
  have hv : Queued q v := hu.keep fun x _ e => forAll_frame (fun i t _ => standWindow_frame i t) (restartTrigs_frame _ (startBanks_frame x e))
  have hw : Queued q w := hv.keep fun x _ => netUp_frame x
  have hp : Queued q p.2 := hw.keep fun x _ => fresh_frame x
  exact hp.keep fun x _ e => startReplay_frame _ _ (raise_frame _ _ _ _ x e)

theorem powerOn_queue (h : Queued q s) : Queued q (powerOn s) := by
  unfold powerOn
  exact Queued.of_frame (s := { State.reset with pending := s.pending }) h (modPower_frame _ _ (aoAlone_frame _ _ rfl))

theorem aoOnly_queue (h : Queued q s) : Queued q (aoOnly s) := h

theorem goStabled_queue (h : Queued q s) : Queued q (goStabled s) :=
  (aoOnly_queue (h.keep fun x _ => markOutage_frame x)).keep fun x _ e => modPower_frame _ _ (aoAlone_frame _ x e)

theorem wakeUp_queue (last : BitVec 3) (cause : BitVec 6) (h : Queued q s) : Queued q (wakeUp last cause s) :=
  have ht := (aoOnly_queue h).keep fun x _ e => modEvents_frame _ (fun v => { v with pbuf := s.events.pbuf })
    (modPower_frame _ (fun p => { p with lastReset := last, wakeCause := cause, failStabled := false, wakeAt := s.now })
      (aoAlone_frame .waking x e))
  .ite (ht.keep fun x _ => stand_frame _ _ x) ht

theorem enterStabled_queue (h : Queued q s) : Queued q (enterStabled s) := goStabled_queue (h.keep fun x _ => drainJournal_frame _ _ x)

theorem powerFail_queue (h : Queued q s) : Queued q (powerFail s) :=
  .ite ((goStabled_queue (h.keep fun x _ => modPower_frame x _)).keep fun x _ => signalFail_frame x)
    (.ite (h.keep fun x _ => signalFail_frame x) (h.keep fun x _ e => powerFailHandling_frame _ (signalFail_frame x e)))

theorem domainLost_queue (d : Domain) (h : Queued q s) : Queued q (domainLost d s) := by
  unfold domainLost
  extract_lets bit mark
  have hm : ∀ t, Queued q t → Queued q (mark t) := fun t ht => ht.keep fun x _ => modPower_frame x _
  clear_value mark
  split
  case h_1 => exact powerOn_queue h
  case h_2 | h_3 => exact hm _ (h.keep fun x _ => pDieDown_frame x)
  case h_4 => exact hm _ (h.keep fun x _ e => netOff_frame _ (markOutage_frame x e))
  case h_5 => exact (hm _ h).keep fun x _ e => stand_frame _ _ _ (raise_frame _ _ _ _ _ (modPower_frame x _ e))
  case h_6 | h_7 => exact hm _ (h.keep fun x _ => cDieDown_frame x)
  case h_8 => exact (hm _ (h.keep fun x _ => cDieDown_frame x)).keep fun x _ => endpointResets_frame x
  case h_9 =>
    exact ((hm _ h).keep fun x _ => modPower_frame x _).keep fun x _ e => releaseWeirs_frame _ _ (wireAbsent_frame _ (modSafCh_frame x _ _ e))
  case h_10 => exact hm _ (h.keep fun x _ e => cDieDown_frame _ (modPower_frame x _ e))

theorem pwrAction_queue {n : Nat} {a : List DevState × Bool × (State → State)} (ha : pwrAction n = some a) (h : Queued q s) :
    Queued q (a.2.2 s) := by
  unfold pwrAction at ha
  split at ha <;> cases ha
  · exact h.keep fun x _ => enterDev_frame _ x
  · exact h.keep fun x _ => leaveService_frame x
  · exact enterStabled_queue h
  · exact h.keep fun x _ => cDieDown_frame x
  · exact wakeUp_queue _ _ (enterStabled_queue h)
  · exact h.keep fun x _ => pDieDown_frame x

theorem writePwrCmd_queue (v : Word32) (h : Queued q s) : Queued q (writePwrCmd v s) := by
  have hc (n : BitVec 4) : Queued q (cmdResult n s) := h.keep fun x _ => cmdResult_frame _ x
  refine .ite (hc 2) ?_
  split
  · exact hc 5
  · rename_i a ha
    exact .ite (hc 3) (.ite (hc 4) (pwrAction_queue ha (hc 1)))

/-! ## Host writes and the link's return -/

theorem writers_queue : ∀ w ∈ writers, ∀ i v s, Queued q s → Queued q (w.2.2.2 i v s) := by
  simp only [writers, List.forall_mem_append, List.forall_mem_cons, List.not_mem_nil, false_imp_iff, implies_true, and_true]
  and_intros <;> intro i v s h
  · exact writeSeal_queue _ h
  · exact h.keep fun x _ => writeDbg_frame _ x
  · exact writePwrCmd_queue _ h
  · exact h.keep fun x _ => writeDomStatus_frame _ x
  · exact h.keep fun x _ => writeRingCtrl_frame _ x
  · exact writeInjCtrl_queue _ h
  · exact writeInjAddr_queue _ h
  · exact h.keep fun x _ => writeInjStatus_frame _ x
  · exact h.keep fun x _ => writeForce_frame _ _ x
  · exact h.keep fun x _ => writeFecInfo_frame _ _ x
  · exact h.keep fun x _ => writeIslStatus_frame _ _ x
  · exact h.keep fun x _ => writeIslTest_frame _ _ x
  · exact h.keep fun x _ => writeIslCtrl_frame _ _ x
  · exact h.keep fun x _ => writeInjSw_frame _ _ x
  · exact h.keep fun x _ => writeWinst_frame _ _ x
  · exact writeFltSrc_queue _ _ h
  · exact writeTrg_queue _ _ _ h
  · exact writeTrg_queue _ _ _ h
  · exact writeTrg_queue _ _ _ h
  · exact writeTrg_queue _ _ _ h
  · exact h.keep fun x _ => writeTrgCmd_frame _ _ x
  · exact writeLanes_queue _ _ h
  · exact writeTbLanes_queue _ h
  · exact h.keep fun x _ => writeUcodeAddr_frame _ x
  · exact h.keep fun x _ => writeUcode_frame _ x
  · exact h.keep fun x _ => writeUcodeCtrl_frame _ x
  · exact h.keep fun x _ => writeImageCtrl_frame _ x
  · exact h.keep fun x _ => writeTimeStatus_frame _ x
  · exact writeLockCfg_queue _ h
  · exact h.keep fun x _ => writeSoReq_frame _ x
  · exact h.keep fun x _ => writeArbOrder_frame _ x
  · exact h.keep fun x _ => writeArbCfg_frame _ x
  · exact h.keep fun x _ => writeArbCommit_frame _ x
  · exact h.keep fun x _ => writeArbStatus_frame _ x
  · exact h.keep fun x _ => writeDbgAddr_frame _ x
  · exact h.keep fun x _ => writeDbgCtrl_frame _ x
  · exact h.keep fun x _ => writeDbgLine_frame _ _ x
  · intro t ht
    obtain ⟨b, -, rfl⟩ := List.mem_map.1 v
    exact writeWin_queue _ _ _ ht

theorem regWrite_queue (off : Nat) (v : Word32) (h : Queued q s) : Queued q (regWrite off v s) := by
  unfold regWrite
  split
  · rename_i f hf
    obtain ⟨w, hw, hi⟩ := List.exists_of_findSome?_eq_some hf
    obtain ⟨i, -, rfl⟩ := Option.map_eq_some_iff.1 hi
    exact writers_queue w hw i v s h
  · exact writeWord_queue _ _ h

theorem hostStore_queue (off : Nat) (v : Word64) (size : Nat) (h : Queued q s) : Queued q (hostStore off v size s) :=
  have hw {t : State} (a : Nat) (x : Word32) (ht : Queued q t) : Queued q (writeReg a x t) :=
    .ite (.ite (ht.keep fun y _ => writeMsix_frame _ _ y) ht) (hostWord_queue _ _ _ (fun _ => regWrite_queue a x) ht)
  .ite (hw _ _ (hw _ _ h)) (.ite (hw _ _ h) h)

theorem serveAccess_queue (a : WaitingAccess) (h : Queued q s) : Queued q (serveAccess a s) :=
  .ite (h.keep fun x _ => readEffect_frame _ x) ((regWrite_queue _ _ h).keep fun x _ => settle_frame _ x)

theorem forList_queue {α : Type} {f : α → State → State} (hf : ∀ a t, Queued q t → Queued q (f a t)) (l : List α) (h : Queued q s) :
    Queued q (forList f l s) := by
  induction l generalizing s with
  | nil => exact h
  | cons a l ih => exact ih (hf a s h)

theorem linkReturns_queue (h : Queued q s) : Queued q (linkReturns s) := by
  unfold linkReturns
  extract_lets t u v
  have h0 : Queued q { s with linkUp := true, lane0 := true, lane1 := true, mrP := {}, mrC := {} } := h
  have hu : Queued q u := (h0.keep fun x _ => syncTime_frame x).keep fun x _ e => deliverEvents_frame _ (unstand_frame _ _ _ e)
  have hv : Queued q v := .ite (hu.keep fun x _ => startReplay_frame _ x) hu
  have hr : Queued q (if v.power.sealed then wantResync v else v) := .ite (hv.keep fun x _ => wantResync_frame x) hv
  exact forList_queue (fun a _ => serveAccess_queue a) _ hr

/-! ## The commands -/

theorem settle_queue {s0 : State} (h : Queued q s) : Queued q (settle s0 s) := h.keep fun x _ => settle_frame _ x

theorem noteStore_queue (mj : Nat) (h : Queued q s) : Queued q (noteStore mj s) := h.keep fun x _ => noteStore_frame mj x

/-- Where an outcome is a next state, its queue is `q`. -/
def NextQueued (q : List Instr) (o : Host.Outcome State Fault Refusal) : Prop := ∀ t, o = .next t → Queued q t

theorem Queued.next (h : Queued q s) : NextQueued q (.next s) := by
  rintro t ⟨⟩
  exact h

theorem hostWord_nextQueued {d : Die} {off : Nat} {v : Word32} {op : State → State} (hop : ∀ t, Queued q t → Queued q (op t)) (h : Queued q s) :
    NextQueued q (.next (hostWord d off v op s)) := (hostWord_queue d off v hop h).next

/-- The commands that may write register words keep the queue, row by row. -/
theorem exec_queue_writers (h : Queued q s) : ∀ c : Instr, mayWriteWords c = true → NextQueued q (exec c s)
  | .setupSeal _, _ => hostWord_nextQueued (fun _ => writeSeal_queue _) h
  | .enterService _, _ => hostWord_nextQueued (fun _ => writePwrCmd_queue _) h
  | .leaveService _, _ => hostWord_nextQueued (fun _ => writePwrCmd_queue _) h
  | .enterStabled _, _ => hostWord_nextQueued (fun _ => writePwrCmd_queue _) h
  | .pwrCmdCDieWarmReset _, _ => hostWord_nextQueued (fun _ => writePwrCmd_queue _) h
  | .pwrCmdPackageWarmReset _, _ => hostWord_nextQueued (fun _ => writePwrCmd_queue _) h
  | .pwrCmdPDieWarmReset _, _ => hostWord_nextQueued (fun _ => writePwrCmd_queue _) h
  | .timeLockCfgWrite _, _ => hostWord_nextQueued (fun _ => writeLockCfg_queue _) h
  | .channelSwitch _ _, _ => hostWord_nextQueued (fun _ => writeFltSrc_queue _ _) h
  | .freeze _ _, _ => hostWord_nextQueued (fun _ => writeFltSrc_queue _ _) h
  | .unfreeze _ _, _ => hostWord_nextQueued (fun _ => writeFltSrc_queue _ _) h
  | .triggerConfigWrite _ _ _, _ => hostWord_nextQueued (fun _ => writeTrg_queue _ _ _) h
  | .arm _, _ => hostWord_nextQueued (fun _ => writeInjCtrl_queue _) h
  | .registerWrite _ _ _, _ => (hostStore_queue _ _ _ h).next
  | .millraceLinkUp, _ => (Queued.ite (settle_queue (linkReturns_queue h)) h).next
  | .powerFail _, _ => (Queued.ite (settle_queue (powerFail_queue (noteStore_queue _ h))) h).next
  | .storeAoReserve _, _ =>
    (Queued.ite (settle_queue (goStabled_queue (noteStore_queue _ (h.keep fun x _ => modPower_frame x _)))) h).next
  | .powerOnReset, _ => (settle_queue (powerOn_queue h)).next
  | .domainRegulationLoss _, _ => (Queued.ite (settle_queue (domainLost_queue _ h)) h).next
  | .cDieResetEnd, _ => (Queued.ite h (settle_queue (cDieUp_queue h))).next
  | .pDieResetEnd, _ => (Queued.ite h (settle_queue (pDieUp_queue h))).next
  | .wake _ _ _, _ => (Queued.ite (settle_queue (wakeUp_queue _ _ h)) h).next

/-- An outcome is a next state. -/
def Completes (o : Host.Outcome State Fault Refusal) : Prop := ∃ t, o = .next t

theorem Completes.ite {c : Prop} [Decidable c] {a b : Host.Outcome State Fault Refusal} (ha : Completes a) (hb : Completes b) :
    Completes (if c then a else b) := by
  split
  · exact ha
  · exact hb

theorem ctxRow_completes (k : Slot) (opcode : Nat) (f : State → State) : Completes (ctxRow k opcode f s) := .ite ⟨_, rfl⟩ ⟨_, rfl⟩

theorem execRampComplete_completes (c : CtxId) : Completes (execRampComplete c s) := by
  unfold execRampComplete
  split
  · exact ⟨_, rfl⟩
  · exact ⟨_, rfl⟩

/-- Every command ends in a next state, row by row: no row has a fault or a refusal. -/
theorem exec_completes (s : State) (c : Instr) : Completes (exec c s) := by
  cases c
  case ctxWrite k => exact .ite ⟨_, rfl⟩ (ctxRow_completes k 0x01 _)
  case ctxRead k => exact .ite (ctxRow_completes k 0x02 _) ⟨_, rfl⟩
  case ctxEnable k => exact ctxRow_completes k 0x03 _
  case ctxDisable k => exact ctxRow_completes k 0x04 _
  case probeStart k => exact ctxRow_completes k 0x13 _
  case probeStop k => exact ctxRow_completes k 0x14 _
  case captureCopy k => exact .ite ⟨_, rfl⟩ ⟨_, rfl⟩
  case rampComplete c => exact execRampComplete_completes c
  all_goals exact ⟨_, rfl⟩

end Sys2Proof.Machine

namespace Sys2Proof

open Sys2Proof.Machine

/-- Settles O46: a row of `exec` for a command, the tick for an empty queue. -/
theorem everyStepCompletes : Obligations.EveryStepCompletes := by
  refine ⟨fun c s => exec_completes s c, fun s => ?_⟩
  cases hp : s.pending with
  | nil => exact ⟨_, step_nil hp⟩
  | cons c rest => exact step_cons hp ▸ exec_completes _ c

/-- Settles O48: by the frame of the commands that keep the register words, and by the rows of those that may write them. -/
theorem execKeepsQueue : Obligations.ExecKeepsQueue := by
  intro c s t ht
  cases hc : mayWriteWords c with
  | false => exact congrArg (fun x => x.1) (exec_frame hc s t ht)
  | true => exact exec_queue_writers rfl c hc t ht

/-- Settles O44. -/
theorem stepRunsFront : Obligations.StepRunsFront := fun _ _ _ => step_cons

end Sys2Proof
end

section
-- One proof after another, as above: elaborated side by side they wait for the same lemmas, each with a thread and its stack.
set_option Elab.async false

/-!
SUPPORT. An arbitrated slot's effect on the pointer, the losses and the back-offs (R499 to R501).
-/
namespace Sys2Proof.Machine

open Sys2Proof

section
variable {a : Arb} {r : BitVec 5} {n : Nat} {w i : Fin 5}

theorem asks_mem {l : List (Fin 5)} {m : Nat} (h : a.asks l m = some w) : w ∈ l := List.mem_of_find?_eq_some h

/-- The winner is one of those that request. -/
theorem winner_mem {l : List (Fin 5)} (h : a.winner l = some w) : w ∈ l := by
  rcases Option.or_eq_some_iff.1 h with h | ⟨-, h⟩
  · exact asks_mem h
  · obtain ⟨m, -, hm⟩ := List.exists_of_findSome?_eq_some h
    exact asks_mem hm

theorem mem_requesters : i ∈ a.requesters r ↔ bitAt r i.val = true ∧ a.backoff[i] = 0 := by
  simp [Arb.requesters]

/-- What an arbitrated slot with a winner does to the pointer, the losses and the back-offs. -/
theorem arbitrate_won (h : a.winner (a.requesters r) = some w) :
    (a.arbitrate r n).ptr = ((a.active.order[w]).toNat + 1) % 5 ∧
    (∀ i : Fin 5, (a.arbitrate r n).losses[i] = if i = w then 0 else if i ∈ a.requesters r then a.losses[i] + 1 else a.losses[i]) ∧
    (∀ i : Fin 5, (a.arbitrate r n).backoff[i] =
      if i ≠ w ∧ i ∈ a.requesters r then min 64 (2 ^ a.losses[i]) else a.backoff[i] - 1) := by
  have hw : a.countDown.winner (a.requesters r) = some w := h
  have hl (i : Fin 5) : a.countDown.losses[i] = a.losses[i] := rfl
  have hb (i : Fin 5) : a.countDown.backoff[i] = a.backoff[i] - 1 := by simp [Arb.countDown]
  refine ⟨?_, fun i => ?_, fun i => ?_⟩
  · simp only [Arb.arbitrate, hw]
    rfl
  · simp only [Arb.arbitrate, hw, ← hl]
    simp
  · simp only [Arb.arbitrate, hw, ← hl, ← hb]
    simp

end

end Sys2Proof.Machine

namespace Sys2Proof

open Sys2Proof.Machine

/-- Settles O57: the winner, a loser and a requester that sits the slot out are cases of one slot's effect. -/
theorem losersBackOff : Obligations.LosersBackOff := by
  intro a q now w hw
  obtain ⟨hptr, hloss, hback⟩ := arbitrate_won (n := now) hw
  refine ⟨hptr, (hloss w).trans (if_pos rfl), fun i hi hq hb => ?_, fun i hb => ?_⟩
  · have hm : i ∈ a.requesters q := mem_requesters.2 ⟨hq, hb⟩
    exact ⟨(hloss i).trans (by rw [if_neg hi, if_pos hm]), (hback i).trans (if_pos ⟨hi, hm⟩)⟩
  · have hm : i ∉ a.requesters q := fun h => hb (mem_requesters.1 h).2
    have hi : i ≠ w := fun h => hm (h ▸ winner_mem hw)
    exact ⟨hm, (hloss i).trans (by rw [if_neg hi, if_neg hm]), (hback i).trans (if_neg fun h => hm h.2)⟩

end Sys2Proof
end

section
-- One proof after another, as above: elaborated side by side they wait for the same lemmas, each with a thread and its stack.
set_option Elab.async false

/-!
SUPPORT. What holds in the reset state (R359, R538, R570): every part of it at its default.
-/
namespace Sys2Proof.Machine

open Sys2Proof

theorem reset_unit (u : UnitId) : State.reset.units[u] = {} := Vector.getElem_replicate ..

theorem reset_region (r : RegionId) : State.reset.regions[r] = {} := Vector.getElem_replicate ..

theorem gatesOff_reset : GatesOff State.reset := fun u => by rw [reset_unit]

theorem packageSafe_reset : PackageSafe State.reset where
  gates := gatesOff_reset
  soA := by decide
  soB := by decide
  drive := by decide
  discharge := by decide

theorem regsSound_reset : RegsSound State.reset := ⟨wordsSound_nil, wordsSound_nil⟩

theorem tablesSound_reset : TablesSound State.reset := ⟨rfl, rfl, rfl⟩

theorem journalSound_reset : JournalSound State.reset := ⟨.nil, nofun, nofun, nofun, nofun⟩

theorem heldUnitsOff_reset : HeldUnitsOff State.reset := fun u =>
  ⟨fun _ => gatesOff_reset u, fun _ => by rw [reset_unit]; exact ⟨rfl, rfl⟩⟩

end Sys2Proof.Machine

namespace Sys2Proof

open Sys2Proof.Machine

/-- Settles O49: each part of the reset state by its default; three register words by evaluation. -/
theorem resetState : Obligations.ResetState :=
  ⟨rfl, rfl, fun r => by rw [reset_region], fun _ => rfl, by decide +kernel, by decide +kernel, by decide +kernel, rfl, rfl, rfl,
    packageSafe_reset, regsSound_reset, tablesSound_reset, journalSound_reset, heldUnitsOff_reset⟩

end Sys2Proof
end

section
-- One proof after another, as above: elaborated side by side they wait for the same lemmas, each with a thread and its stack.
set_option Elab.async false

/-!
SUPPORT. The journal and whatever names its slots (R359, R360, R362, R366). An operation keeps the journal orderly where it neither adds an entry nor
changes the slot or the ASN of one, and where whatever names a slot after it names one that the journal holds a command in. One lemma per operation, in
the order of the model's files; only those that end, accept, report, post, lose or return a command change what the first section looks at.
-/
namespace Sys2Proof.Machine

open Sys2Proof

/-! ## What is looked at -/

/-- The slot and the ASN of each entry, in the journal's order. -/
def State.keys (s : State) : List (Slot × Word32) := s.rings.journal.map fun e => (e.slot, e.asn)

/-- The slots of what the C-die holds of commands: work, finished, to be posted with more than the entry says, acceptance not acknowledged. -/
def Rings.names (r : Rings) : List Slot := r.work.map Work.slot ++ (r.finished ++ (r.rePost.map RePost.slot ++ r.unacked))

/-- The journal and what names its slots. -/
def Rings.roll (r : Rings) : List JEntry × List Work × List Slot × List RePost × List Slot := (r.journal, r.work, r.finished, r.rePost, r.unacked)

/-- The journal is sound, and its entries are among those with the keys `L`, in their order. -/
structure Orderly (L : List (Slot × Word32)) (s : State) : Prop where
  keys : s.keys.Sublist L
  sound : JournalSound s

variable {L : List (Slot × Word32)} {s t : State} {k : Slot}

theorem journalSound_iff : JournalSound s ↔ (s.keys.Pairwise fun x y => x.1 ≠ y.1) ∧ ∀ k ∈ s.rings.names, Held s k := by
  have hk : (s.keys.Pairwise fun x y => x.1 ≠ y.1) ↔ s.rings.journal.Pairwise fun x y => x.slot ≠ y.slot := List.pairwise_map
  simp only [hk, Rings.names, List.forall_mem_append, List.forall_mem_map]
  exact ⟨fun h => ⟨h.slots, h.work, h.finished, h.rePost, h.unacked⟩, fun ⟨h1, h2, h3, h4, h5⟩ => ⟨h1, h2, h3, h4, h5⟩⟩

theorem asnsDiffer_iff : AsnsDiffer s ↔ s.keys.Pairwise fun x y => x.2 ≠ y.2 := by
  rw [State.keys, List.pairwise_map]
  rfl

/-- From one state to the other each entry changes for itself, neither its slot nor its ASN, and none that is not POSTED to POSTED. -/
def Marked (s t : State) : Prop := ∃ g : JEntry → JEntry, t.rings.journal = s.rings.journal.map g ∧
  ∀ e, (g e).slot = e.slot ∧ (g e).asn = e.asn ∧ (e.state ≠ .posted → (g e).state ≠ .posted)

namespace Marked

variable {u : State}

theorem of_journal (h : t.rings.journal = s.rings.journal) : Marked s t := ⟨id, h.trans (List.map_id _).symm, fun _ => ⟨rfl, rfl, id⟩⟩

theorem refl : Marked s s := of_journal rfl

theorem trans (h : Marked s t) (h' : Marked t u) : Marked s u := by
  obtain ⟨f, hf, hs⟩ := h
  obtain ⟨g, hg, ht⟩ := h'
  refine ⟨g ∘ f, by rw [hg, hf, List.map_map], fun e => ?_⟩
  obtain ⟨hslot, hasn, hpost⟩ := ht (f e)
  exact ⟨hslot.trans (hs e).1, hasn.trans (hs e).2.1, fun hp => hpost ((hs e).2.2 hp)⟩

theorem ite {c : Prop} [Decidable c] (ht : Marked s t) (hu : Marked s u) : Marked s (if c then t else u) := by
  split <;> assumption

theorem forList {α : Type} {f : α → State → State} (hf : ∀ x t, Marked t (f x t)) (l : List α) (s : State) : Marked s (Machine.forList f l s) := by
  induction l generalizing s with
  | nil => exact refl
  | cons x l ih => exact (hf x s).trans (ih _)

theorem forAll {n : Nat} {f : Fin n → State → State} (hf : ∀ i t, Marked t (f i t)) (s : State) : Marked s (Machine.forAll f s) := forList hf _ s

theorem keys (h : Marked s t) : t.keys = s.keys := by
  obtain ⟨g, hg, hs⟩ := h
  rw [State.keys, hg, List.map_map, State.keys]
  exact List.map_congr_left fun e _ => Prod.ext (hs e).1 (hs e).2.1

theorem held (h : Marked s t) (hk : Held s k) : Held t k := by
  obtain ⟨g, hg, hs⟩ := h
  obtain ⟨e, he, hek, hp⟩ := hk
  exact ⟨g e, hg ▸ List.mem_map_of_mem he, (hs e).1.trans hek, (hs e).2.2 hp⟩

end Marked

namespace Orderly

theorem of_sound (h : JournalSound s) : Orderly s.keys s := ⟨.refl _, h⟩

theorem mono {M : List (Slot × Word32)} (h : Orderly L s) (hm : L.Sublist M) : Orderly M s := ⟨h.keys.trans hm, h.sound⟩

theorem held (h : Orderly L s) (hk : k ∈ s.rings.names) : Held s k := (journalSound_iff.1 h.sound).2 k hk

/-- An operation that adds no key, and after which whatever is named is held if what was named before was. -/
theorem change (h : Orderly L s) (hk : t.keys.Sublist s.keys) (hn : ∀ k ∈ t.rings.names, (k ∈ s.rings.names → Held s k) → Held t k) :
    Orderly L t :=
  ⟨hk.trans h.keys, journalSound_iff.2 ⟨(journalSound_iff.1 h.sound).1.sublist hk, fun k hm => hn k hm fun hs => h.held hs⟩⟩

/-- An operation that keeps the journal, and after which nothing is named that was not named or held before. -/
theorem rename (h : Orderly L s) (hj : t.rings.journal = s.rings.journal) (hn : ∀ k ∈ t.rings.names, k ∈ s.rings.names ∨ Held s k) : Orderly L t := by
  refine h.change (by rw [State.keys, hj]; exact .refl _) fun k hk hs => ?_
  obtain ⟨e, he, hek⟩ := (hn k hk).elim hs id
  exact ⟨e, hj ▸ he, hek⟩

theorem of_roll (h : Orderly L s) (hr : t.rings.roll = s.rings.roll) : Orderly L t := by
  simp only [Rings.roll, Prod.mk.injEq] at hr
  obtain ⟨hj, hw, hf, hp, hu⟩ := hr
  exact h.rename hj fun k hk => .inl (by rwa [Rings.names, hw, hf, hp, hu] at hk)

/-- An operation that marks entries, and after which nothing is named that was not named before or is held after it. -/
theorem marked (h : Orderly L s) (hm : Marked s t) (hn : ∀ k ∈ t.rings.names, k ∈ s.rings.names ∨ Held t k) : Orderly L t :=
  h.change (hm.keys ▸ .refl _) fun k hk hs => (hn k hk).elim (fun h => hm.held (hs h)) id

/-- An operation that adds no key and leaves no name. -/
theorem emptied (h : Orderly L s) (hk : t.keys.Sublist s.keys) (hn : t.rings.names = []) : Orderly L t :=
  h.change hk fun k hm => by simp [hn] at hm

theorem empty (hj : t.rings.journal = []) (hn : t.rings.names = []) : Orderly L t := by
  have hk : t.keys = [] := by rw [State.keys, hj, List.map_nil]
  exact ⟨hk ▸ List.nil_sublist L, journalSound_iff.2 ⟨hk ▸ .nil, fun k hm => by simp [hn] at hm⟩⟩

/-- An operation that takes entries out of the journal and leaves no name of one that it takes out. -/
theorem withdraw {p : JEntry → Bool} (h : Orderly L s) (hj : t.rings.journal = s.rings.journal.filter p) (hn : ∀ k ∈ t.rings.names, k ∈ s.rings.names)
    (hp : ∀ e, e.slot ∈ t.rings.names → e.state ≠ .posted → p e = true) : Orderly L t := by
  refine h.change (by rw [State.keys, hj]; exact List.filter_sublist.map _) fun k hm hs => ?_
  obtain ⟨e, he, rfl, hne⟩ := hs (hn k hm)
  exact ⟨e, hj ▸ List.mem_filter.2 ⟨he, hp e hm hne⟩, rfl, hne⟩

theorem ite {c : Prop} [Decidable c] (hs : Orderly L s) (ht : Orderly L t) : Orderly L (if c then s else t) := by
  split <;> assumption

theorem dite {c : Prop} [Decidable c] {f : c → State} {g : ¬c → State} (hf : ∀ x, Orderly L (f x)) (hg : ∀ x, Orderly L (g x)) :
    Orderly L (if x : c then f x else g x) := by
  split
  · exact hf _
  · exact hg _

theorem iteSnd {α : Type} {c : Prop} [Decidable c] {p q : α × State} (hp : Orderly L p.2) (hq : Orderly L q.2) :
    Orderly L (if c then p else q).2 := by
  split <;> assumption

theorem iteRun {c : Prop} [Decidable c] {p q : RunRes} (hp : Orderly L p.s) (hq : Orderly L q.s) : Orderly L (if c then p else q).s := by
  split <;> assumption

theorem foldl {α : Type} {f : State → α → State} (hf : ∀ t x, Orderly L t → Orderly L (f t x)) {l : List α} (h : Orderly L s) :
    Orderly L (l.foldl f s) := by
  induction l generalizing s with
  | nil => exact h
  | cons x l ih => exact ih (hf s x h)

theorem foldlSnd {α β : Type} {f : β × State → α → β × State} (hf : ∀ p x, Orderly L p.2 → Orderly L (f p x).2) {l : List α} {p : β × State}
    (h : Orderly L p.2) : Orderly L (l.foldl f p).2 := by
  induction l generalizing p with
  | nil => exact h
  | cons x l ih => exact ih (hf p x h)

theorem forAll {n : Nat} {f : Fin n → State → State} (hf : ∀ i t, Orderly L t → Orderly L (f i t)) (h : Orderly L s) :
    Orderly L (Machine.forAll f s) := foldl (fun t i => hf i t) h

theorem forList {α : Type} {f : α → State → State} {l : List α} (hf : ∀ x t, Orderly L t → Orderly L (f x t)) (h : Orderly L s) :
    Orderly L (Machine.forList f l s) := foldl (fun t x => hf x t) h

end Orderly

/-- Where an outcome is a next state, its journal is orderly. -/
def NextOrderly (L : List (Slot × Word32)) (o : Host.Outcome State Fault Refusal) : Prop := ∀ t, o = .next t → Orderly L t

theorem NextOrderly.next (h : Orderly L s) : NextOrderly L (.next s) := by
  rintro t ⟨⟩
  exact h

theorem NextOrderly.ite {c : Prop} [Decidable c] {a b : Host.Outcome State Fault Refusal} (ha : NextOrderly L a) (hb : NextOrderly L b) :
    NextOrderly L (if c then a else b) := by
  split <;> assumption

/-! ## Names -/

theorem mem_names {r : Rings} : k ∈ r.names ↔ (∃ w ∈ r.work, w.slot = k) ∨ k ∈ r.finished ∨ (∃ p ∈ r.rePost, p.slot = k) ∨ k ∈ r.unacked := by
  simp only [Rings.names, List.mem_append, List.mem_map]

/-- A part of what is named. -/
theorem names_of_subset {r q : Rings} (hw : ∀ w ∈ r.work, w ∈ q.work) (hf : ∀ k ∈ r.finished, k ∈ q.finished) (hp : ∀ p ∈ r.rePost, p ∈ q.rePost)
    (hu : ∀ k ∈ r.unacked, k ∈ q.unacked) (hk : k ∈ r.names) : k ∈ q.names := by
  rcases mem_names.1 hk with ⟨w, h, rfl⟩ | h | ⟨p, h, rfl⟩ | h
  · exact mem_names.2 (.inl ⟨w, hw w h, rfl⟩)
  · exact mem_names.2 (.inr (.inl (hf k h)))
  · exact mem_names.2 (.inr (.inr (.inl ⟨p, hp p h, rfl⟩)))
  · exact mem_names.2 (.inr (.inr (.inr (hu k h))))

/-- What is still named once the names of the slots without a property are taken away. -/
theorem names_without {r q : Rings} {p : Slot → Bool} (hw : r.work = q.work.filter fun w => p w.slot) (hf : r.finished = q.finished.filter p)
    (hp : r.rePost = q.rePost.filter fun x => p x.slot) (hu : ∀ k ∈ r.unacked, k ∈ q.unacked ∧ p k = true) (hk : k ∈ r.names) :
    k ∈ q.names ∧ p k = true := by
  rcases mem_names.1 hk with ⟨w, h, rfl⟩ | h | ⟨x, h, rfl⟩ | h
  · obtain ⟨h, hp⟩ := List.mem_filter.1 (hw ▸ h)
    exact ⟨mem_names.2 (.inl ⟨w, h, rfl⟩), hp⟩
  · obtain ⟨h, hp⟩ := List.mem_filter.1 (hf ▸ h)
    exact ⟨mem_names.2 (.inr (.inl h)), hp⟩
  · obtain ⟨h, hp⟩ := List.mem_filter.1 (hp ▸ h)
    exact ⟨mem_names.2 (.inr (.inr (.inl ⟨x, h, rfl⟩))), hp⟩
  · exact ⟨mem_names.2 (.inr (.inr (.inr (hu k h).1))), (hu k h).2⟩

/-- What is named where each list holds what it held before, or names of one more slot. -/
theorem names_grown {r q : Rings} {j : Slot} (hw : ∀ w ∈ r.work, w ∈ q.work ∨ w.slot = j) (hf : ∀ k ∈ r.finished, k ∈ q.finished ∨ k = j)
    (hp : ∀ p ∈ r.rePost, p ∈ q.rePost ∨ p.slot = j) (hu : ∀ k ∈ r.unacked, k ∈ q.unacked ∨ k = j) (hk : k ∈ r.names) : k ∈ q.names ∨ k = j := by
  rcases mem_names.1 hk with ⟨w, h, rfl⟩ | h | ⟨p, h, rfl⟩ | h
  · exact (hw w h).imp (fun h => mem_names.2 (.inl ⟨w, h, rfl⟩)) id
  · exact (hf k h).imp (fun h => mem_names.2 (.inr (.inl h))) id
  · exact (hp p h).imp (fun h => mem_names.2 (.inr (.inr (.inl ⟨p, h, rfl⟩)))) id
  · exact (hu k h).imp (fun h => mem_names.2 (.inr (.inr (.inr h)))) id

theorem names_of_roll (h : t.rings.roll = s.rings.roll) : t.rings.names = s.rings.names := by
  simp only [Rings.roll, Prod.mk.injEq] at h
  obtain ⟨-, hw, hf, hp, hu⟩ := h
  rw [Rings.names, hw, hf, hp, hu, Rings.names]

theorem mem_append_singleton_or {α β : Type} {l : List α} {x y : α} {g : α → β} (h : y ∈ l ++ [x]) : y ∈ l ∨ g y = g x :=
  (List.mem_append.1 h).imp id fun h => congrArg g (List.mem_singleton.1 h)

/-- A slot named that the journal holds. -/
theorem Orderly.naming {f : Rings → Rings} (h : Orderly L s) (hk : Held s k) (hj : ∀ r, (f r).journal = r.journal := by intro; rfl)
    (hn : ∀ r, ∀ j ∈ (f r).names, j ∈ r.names ∨ j = k) : Orderly L (s.modRings f) :=
  h.rename (hj _) fun j hm => (hn _ j hm).imp id fun hjk : j = k => hjk ▸ hk

/-- An entry added in a free slot, and named. -/
theorem enter_orderly {e : JEntry} (h : Orderly L s) (hk : ∀ x ∈ s.rings.journal, x.slot ≠ e.slot) (hp : e.state ≠ .posted)
    (hj : t.rings.journal = s.rings.journal ++ [e]) (hn : ∀ k ∈ t.rings.names, k ∈ s.rings.names ∨ k = e.slot) :
    Orderly (L ++ [(e.slot, e.asn)]) t := by
  have hkeys : t.keys = s.keys ++ [(e.slot, e.asn)] := by rw [State.keys, hj, List.map_append, State.keys]; rfl
  refine ⟨hkeys ▸ h.keys.append (.refl _), journalSound_iff.2 ⟨?_, fun k hm => ?_⟩⟩
  · rw [hkeys]
    refine List.pairwise_append.2 ⟨(journalSound_iff.1 h.sound).1, .cons nofun .nil, fun x hx y hy => ?_⟩
    obtain ⟨z, hz, rfl⟩ := List.mem_map.1 hx
    rw [List.mem_singleton.1 hy]
    exact hk z hz
  · rcases hn k hm with hs | rfl
    · obtain ⟨x, hx, hxk⟩ := h.held hs
      exact ⟨x, hj ▸ List.mem_append_left _ hx, hxk⟩
    · exact ⟨e, hj ▸ List.mem_append_right _ List.mem_cons_self, rfl, hp⟩

/-- A state that holds a command in a slot, chosen of two. -/
theorem held_ite {c : Prop} [Decidable c] (hs : Held s k) (ht : Held t k) : Held (if c then s else t) k := by
  split <;> assumption

theorem sessionsWeirs_orderly {x y} (h : Orderly L s) : Orderly L { s with sessions := x, weirs := y } := .of_roll h rfl

theorem links_orderly {x y a b} (h : Orderly L s) : Orderly L { s with mrP := x, mrC := y, lane0 := a, lane1 := b } := .of_roll h rfl

/-! ## Ops -/

theorem fresh_orderly (h : Orderly L s) : Orderly L (State.fresh s).2 := .of_roll h rfl

theorem freshN_orderly {n} (h : Orderly L s) : Orderly L (s.freshN n).2 := by
  induction n generalizing s with
  | zero => exact h
  | succ n ih => exact ih (fresh_orderly h)

theorem modPower_orderly {f} (h : Orderly L s) : Orderly L (State.modPower s f) := .of_roll h rfl

theorem modHost_orderly {f} (h : Orderly L s) : Orderly L (State.modHost s f) := .of_roll h rfl

/-- A change of the rings that leaves the journal and what names its slots. -/
theorem modRings_orderly {f} (h : Orderly L s) (hf : ∀ r, (f r).roll = r.roll := by intro; rfl) : Orderly L (s.modRings f) := h.of_roll (hf s.rings)

/-- A change of the rings after which nothing else is named. -/
theorem modRings_unname {f : Rings → Rings} (h : Orderly L s) (hj : ∀ r, (f r).journal = r.journal := by intro; rfl)
    (hn : ∀ r, ∀ k ∈ (f r).names, k ∈ r.names) : Orderly L (s.modRings f) := h.rename (hj _) fun k hk => .inl (hn _ k hk)

theorem modLoop_orderly {f} (h : Orderly L s) : Orderly L (State.modLoop s f) := .of_roll h rfl

theorem modNet_orderly {f} (h : Orderly L s) : Orderly L (State.modNet s f) := .of_roll h rfl

theorem modTime_orderly {f} (h : Orderly L s) : Orderly L (State.modTime s f) := .of_roll h rfl

theorem modPair_orderly {f} (h : Orderly L s) : Orderly L (State.modPair s f) := .of_roll h rfl

theorem modSaf_orderly {f} (h : Orderly L s) : Orderly L (State.modSaf s f) := .of_roll h rfl

theorem modArb_orderly {f} (h : Orderly L s) : Orderly L (State.modArb s f) := .of_roll h rfl

theorem modEvents_orderly {f} (h : Orderly L s) : Orderly L (State.modEvents s f) := .of_roll h rfl

theorem modRegion_orderly {r f} (h : Orderly L s) : Orderly L (State.modRegion s r f) := .of_roll h rfl

theorem modIsland_orderly {i f} (h : Orderly L s) : Orderly L (State.modIsland s i f) := .of_roll h rfl

theorem modUnit_orderly {u f} (h : Orderly L s) : Orderly L (State.modUnit s u f) := .of_roll h rfl

theorem modBank_orderly {b f} (h : Orderly L s) : Orderly L (State.modBank s b f) := .of_roll h rfl

theorem modChan_orderly {c f} (h : Orderly L s) : Orderly L (State.modChan s c f) := .of_roll h rfl

theorem modChain_orderly {n f} (h : Orderly L s) : Orderly L (State.modChain s n f) := .of_roll h rfl

theorem modTrig_orderly {u f} (h : Orderly L s) : Orderly L (State.modTrig s u f) := .of_roll h rfl

theorem modSess_orderly {k f} (h : Orderly L s) : Orderly L (State.modSess s k f) := .of_roll h rfl

theorem modWeir_orderly {n f} (h : Orderly L s) : Orderly L (State.modWeir s n f) := .of_roll h rfl

theorem modSrc_orderly {k f} (h : Orderly L s) : Orderly L (State.modSrc s k f) := modEvents_orderly h

theorem modSq_orderly {q f} (h : Orderly L s) : Orderly L (State.modSq s q f) := modRings_orderly h

theorem modCq_orderly {m f} (h : Orderly L s) : Orderly L (State.modCq s m f) := modRings_orderly h

theorem modPort_orderly {p f} (h : Orderly L s) : Orderly L (State.modPort s p f) := modNet_orderly h

theorem modPairRegion_orderly {r f} (h : Orderly L s) : Orderly L (State.modPairRegion s r f) := modPair_orderly h

theorem modSafCh_orderly {c f} (h : Orderly L s) : Orderly L (State.modSafCh s c f) := modSaf_orderly h

theorem modSo_orderly {o f} (h : Orderly L s) : Orderly L (State.modSo s o f) := modSaf_orderly h

theorem modRt_orderly {c f} (h : Orderly L s) : Orderly L (State.modRt s c f) := modLoop_orderly h

theorem modProbe_orderly {n f} (h : Orderly L s) : Orderly L (State.modProbe s n f) := modLoop_orderly h

theorem modMr_orderly {d f} (h : Orderly L s) : Orderly L (State.modMr s d f) := by
  unfold State.modMr
  split
  · exact .of_roll h rfl
  · exact .of_roll h rfl

theorem closeDebug_orderly (h : Orderly L s) : Orderly L (closeDebug s) := by
  unfold closeDebug
  exact .of_roll h rfl

/-! ## Trigger -/

theorem trgTake_orderly {u} (h : Orderly L s) : Orderly L (trgTake u s) := .ite (modTrig_orderly h) h

theorem fireOne_orderly {u tick} (h : Orderly L s) : Orderly L (fireOne u tick s) := by
  unfold fireOne
  exact modTrig_orderly (modEvents_orderly h)

theorem trgStep_orderly {u met} (h : Orderly L s) : Orderly L (trgStep u met s).2 := by
  unfold trgStep
  extract_lets -underBinder +onlyGivenNames t count
  split
  · exact h
  · exact h
  · exact h
  · exact .iteSnd (.iteSnd h h) (.iteSnd (modTrig_orderly h) h)

theorem combine_orderly {v u tick} (h : Orderly L s) : Orderly L (combine v u tick s).2 := by
  unfold combine
  extract_lets -underBinder +onlyGivenNames w t isA isB win a b near after
  split
  · exact h
  · exact modTrig_orderly h
  · exact modTrig_orderly h
  · exact h

theorem fire_orderly {n u tick} (h : Orderly L s) : Orderly L (fire n u tick s) := by
  induction n generalizing u tick s with
  | zero => exact fireOne_orderly h
  | succ n ih =>
    refine .forList (fun v t ht => .ite (.forList (fun m t ht => ?_) (combine_orderly (trgTake_orderly ht))) ht) (fireOne_orderly h)
    exact .ite (ih (trgStep_orderly ht)) (trgStep_orderly ht)

theorem trgEvent_orderly {k v} (h : Orderly L s) : Orderly L (trgEvent k v s) :=
    .forList (fun _ _ ht => .ite (.ite (fire_orderly (trgStep_orderly (trgTake_orderly ht))) (trgStep_orderly (trgTake_orderly ht))) ht) h

/-! ## Raise -/

theorem noteTrigger_orderly {e} (h : Orderly L s) : Orderly L (noteTrigger e s) := .ite (trgEvent_orderly h) h

theorem pushEvent_orderly {e} (h : Orderly L s) : Orderly L (pushEvent e s) := by
  unfold pushEvent
  exact modEvents_orderly (noteTrigger_orderly (modSrc_orderly h))

theorem applyEvent_orderly {e} (h : Orderly L s) : Orderly L (applyEvent e s) :=
    .ite h (.ite (.ite (pushEvent_orderly (modSrc_orderly (.ite (modPower_orderly (modEvents_orderly h)) (modEvents_orderly h))))
      (modSrc_orderly (.ite (modPower_orderly (modEvents_orderly h)) (modEvents_orderly h)))) (modSrc_orderly (.ite (modPower_orderly
      (modEvents_orderly h)) (modEvents_orderly h))))

theorem reenter_orderly {k} (h : Orderly L s) : Orderly L (reenter k s) := by
  unfold reenter
  exact .forList (fun _ _ => applyEvent_orderly) (modEvents_orderly h)

theorem raiseFull_orderly {k d detail arg det forced} (h : Orderly L s) : Orderly L (raiseFull k d detail arg det forced s) := by
  unfold raiseFull
  exact .ite (applyEvent_orderly (pushEvent_orderly h)) (pushEvent_orderly h)

theorem raise_orderly {k d detail arg} (h : Orderly L s) : Orderly L (raise k d detail arg s) := raiseFull_orderly h

theorem stand_orderly {k d} (h : Orderly L s) : Orderly L (stand k d s) := modSrc_orderly h

theorem unstand_orderly {k d} (h : Orderly L s) : Orderly L (unstand k d s) := modSrc_orderly h

theorem openShadow_orderly {o ends cause} (h : Orderly L s) : Orderly L (openShadow o ends cause s) := by
  unfold openShadow
  split
  · exact modEvents_orderly h
  · exact modEvents_orderly h

/-! ## MemProt -/

theorem captureError_orderly {d addr req type synd nsym} (h : Orderly L s) : Orderly L (captureError d addr req type synd nsym s) := by
  unfold captureError
  exact modEvents_orderly h

theorem clearError_orderly {d} (h : Orderly L s) : Orderly L (clearError d s) := modEvents_orderly h

theorem hostError_orderly {addr req write status} (h : Orderly L s) : Orderly L (hostError addr req write status s) :=
    raise_orderly (captureError_orderly h)

theorem readLine_roll (n : Nat) (e : SymErr) (r : BitVec 8) (y : BitVec 4) (s : State) : (readLine n e r y s).rings.roll = s.rings.roll := by
  unfold readLine
  dsimp only
  split <;> exact raise_alerts.keeps fun s => s.rings.roll

theorem readMem_roll (a n : Nat) (r : BitVec 8) (y : BitVec 4) (s : State) : (readMem a n r y s).2.rings.roll = s.rings.roll :=
  forList_keeps (fun s => s.rings.roll) (fun _ _ => readLine_roll _ _ _ _ _) _ s

theorem readLine_orderly {line e req type} (h : Orderly L s) : Orderly L (readLine line e req type s) := .of_roll h (readLine_roll _ _ _ _ s)

theorem readMem_orderly {a n req type} (h : Orderly L s) : Orderly L (readMem a n req type s).2 := .of_roll h (readMem_roll _ _ _ _ s)

/-- A lost slot's entry goes, and with it whatever names the slot (R371, R372). -/
theorem forgetSlot_orderly {k} (h : Orderly L s) : Orderly L (forgetSlot k s) := by
  unfold forgetSlot
  extract_lets -underBinder +onlyGivenNames s₂ is s₃ s₄ s₅ s₆
  have hnames (j : Slot) (hj : j ∈ s₂.rings.names) : j ∈ s.rings.names ∧ decide (j.val ≠ k) = true :=
    names_without (q := s.rings) rfl rfl rfl (fun x hx => List.mem_filter.1 hx) hj
  have hs₂ : Orderly L s₂ := h.withdraw rfl (fun j hj => (hnames j hj).1) fun e he _ => (hnames _ he).2
  have hs₃ : Orderly L s₃ := modHost_orderly hs₂
  have hs₄ : Orderly L s₄ := .of_roll hs₃ rfl
  have hs₅ : Orderly L s₅ := modPair_orderly hs₄
  have hs₆ : Orderly L s₆ := modNet_orderly hs₅
  exact modLoop_orderly hs₆

theorem readJournal_orderly {k e req type} (h : Orderly L s) : Orderly L (readJournal k e req type s) := by
  unfold readJournal
  extract_lets ok u v
  have hu : Orderly L u := captureError_orderly h
  have hv : Orderly L v := modRings_orderly hu
  exact .ite (raise_orderly (.of_roll hv rfl)) (raise_orderly (forgetSlot_orderly (.of_roll hv rfl)))

theorem injected_orderly (h : Orderly L s) : Orderly L (injected s) := modEvents_orderly h

theorem write_roll (r : BitVec 8) (a : Nat) (l : List Byte) (s : State) : (s.write r a l).rings.roll = s.rings.roll := by
  have hread (x : List (Nat × SymErr)) : (forList (fun e t => readLine e.1 e.2 r 2 t) x s).rings.roll = s.rings.roll :=
    forList_keeps (fun s => s.rings.roll) (fun _ _ => readLine_roll _ _ _ _ _) x s
  unfold State.write injectLine
  dsimp only
  split <;> exact hread _

theorem write_orderly {req a l} (h : Orderly L s) : Orderly L (State.write s req a l) := .of_roll h (write_roll _ _ _ s)

theorem wroteJournal_roll (n : Nat) (s : State) : (wroteJournal n s).rings.roll = s.rings.roll := by
  unfold wroteJournal
  dsimp only
  split <;> rfl

theorem wroteJournal_orderly {k} (h : Orderly L s) : Orderly L (wroteJournal k s) := .of_roll h (wroteJournal_roll _ s)

theorem captureStore_orderly {a l} (h : Orderly L s) : Orderly L (captureStore a l s) := .ite (modArb_orderly h) (write_orderly h)

theorem flushCapture_orderly (h : Orderly L s) : Orderly L (flushCapture s) := .forList (fun _ _ => write_orderly) (modArb_orderly h)

/-! ## Journal -/

theorem journal_of_roll (h : t.rings.roll = s.rings.roll) : t.rings.journal = s.rings.journal := congrArg Prod.fst h

theorem modEntry_roll (k : Slot) (f : JEntry → JEntry) (s : State) : (modEntry k f s).rings.roll =
    (s.rings.journal.map fun e => if e.slot = k then f e else e, s.rings.work, s.rings.finished, s.rings.rePost, s.rings.unacked) :=
  wroteJournal_roll k.val _

theorem modEntry_marked {k f}
    (hf : ∀ e, (f e).slot = e.slot ∧ (f e).asn = e.asn ∧ (e.state ≠ .posted → (f e).state ≠ .posted) := by exact fun _ => ⟨rfl, rfl, id⟩) :
    Marked s (modEntry k f s) := by
  refine Marked.trans ⟨_, rfl, fun e => ?_⟩ (.of_journal (journal_of_roll (wroteJournal_roll k.val _)))
  split
  · exact hf e
  · exact ⟨rfl, rfl, id⟩

/-- A change of entries that leaves their slots and ASNs and posts none. -/
theorem modEntry_orderly {k f} (h : Orderly L s)
    (hf : ∀ e, (f e).slot = e.slot ∧ (f e).asn = e.asn ∧ (e.state ≠ .posted → (f e).state ≠ .posted) := by exact fun _ => ⟨rfl, rfl, id⟩) :
    Orderly L (modEntry k f s) :=
  wroteJournal_orderly (h.marked (Marked.trans (modEntry_marked (k := k) hf) (.of_journal (journal_of_roll (wroteJournal_roll k.val _)).symm))
    fun _ => .inl)

/-- A slot of which an entry is changed to one that is not POSTED is held. -/
theorem modEntry_held {k} {f : JEntry → JEntry} (hf : ∀ e, (f e).slot = e.slot ∧ (f e).state ≠ .posted) (hk : ∃ e ∈ s.rings.journal, e.slot = k) :
    Held (modEntry k f s) k := by
  obtain ⟨e, he, hek⟩ := hk
  refine ⟨f e, ?_, (hf e).1.trans hek, (hf e).2⟩
  rw [modEntry_journal]
  exact List.mem_map.2 ⟨e, he, if_pos hek⟩

/-- Work changed, each for itself, in all but its slot. -/
theorem mapWork_orderly {f : Work → Work} (h : Orderly L s) (hf : ∀ w, (f w).slot = w.slot) :
    Orderly L (s.modRings fun r => { r with work := r.work.map f }) := by
  refine h.rename rfl fun k hk => .inl ?_
  have hm : (s.rings.work.map f).map Work.slot = s.rings.work.map Work.slot := by
    rw [List.map_map]
    exact List.map_congr_left fun w _ => hf w
  rwa [Rings.names, State.modRings_rings, hm] at hk

theorem modWork_orderly {k f} (h : Orderly L s) (hf : ∀ w, (f w).slot = w.slot := by intro; rfl) : Orderly L (modWork k f s) :=
  mapWork_orderly h fun w => by split <;> simp only [hf]

theorem dropWork_orderly {k} (h : Orderly L s) : Orderly L (dropWork k s) :=
  modRings_unname h (hn := fun _ _ => names_of_subset (fun _ hw => List.mem_of_mem_filter hw) (fun _ => id) (fun _ => id) fun _ => id)

theorem storeCtxWords_roll (c : Nat) (w : AsnWords) (s : State) : (storeCtxWords c w s).rings.roll = s.rings.roll :=
  (write_roll _ _ _ _).trans (write_roll _ _ _ s)

theorem storeCtxWords_orderly {c w} (h : Orderly L s) : Orderly L (storeCtxWords c w s) := .of_roll h (storeCtxWords_roll _ _ s)

theorem recordTarget_roll (e : JEntry) (s : State) : (recordTarget e s).rings.roll = s.rings.roll := by
  unfold recordTarget
  dsimp only
  split
  · split
    · exact storeCtxWords_roll _ _ s
    · rfl
  · exact forList_keeps (fun s => s.rings.roll) (by intros; rfl) _ s
  · split <;> rfl
  · split <;> rfl
  · split <;> rfl
  · rfl
  · exact forList_keeps (fun s => s.rings.roll) (by intros; rfl) _ s
  · rfl
  · rfl

theorem markOvertaken_marked {e} : Marked s (markOvertaken e s) := by
  refine ⟨_, rfl, fun x => ?_⟩
  split <;> exact ⟨rfl, rfl, id⟩

theorem markOvertaken_orderly {e} (h : Orderly L s) : Orderly L (markOvertaken e s) := h.marked markOvertaken_marked fun _ => .inl

/-- The outcome record of a command written, where the C-die runs (R363). -/
def recordOutcome (k : Slot) (l : List Byte) (s : State) : State := if s.power.cRun then s.write 0x02 (outcomeAddr k) l else s

theorem recordOutcome_roll (k : Slot) (l : List Byte) (s : State) : (recordOutcome k l s).rings.roll = s.rings.roll := by
  unfold recordOutcome
  split
  · exact write_roll _ _ _ s
  · rfl

/-- What a command's effect leaves besides it: its mark on the entries that it overtakes, its outcome record, itself on its target (R361, R363, R364). -/
def effectMarks (k : Slot) (e : JEntry) (l : List Byte) (s : State) : State := recordTarget e (recordOutcome k l (markOvertaken e s))

theorem effectMarks_roll (k : Slot) (e : JEntry) (l : List Byte) (s : State) :
    (effectMarks k e l s).rings.roll = (markOvertaken e s).rings.roll := (recordTarget_roll _ _).trans (recordOutcome_roll _ _ _)

theorem effectMarks_marked {k : Slot} {e : JEntry} {l : List Byte} : Marked s (effectMarks k e l s) :=
  markOvertaken_marked.trans (.of_journal (journal_of_roll (effectMarks_roll k e l s)))

theorem effectMarks_orderly {k : Slot} {e : JEntry} {l : List Byte} (h : Orderly L s) : Orderly L (effectMarks k e l s) :=
  .of_roll (markOvertaken_orderly h) (effectMarks_roll k e l s)

/-- What a command is posted with besides its entry: that it has been re-applied, where its work was returned by a replay (R367). -/
def State.reApplication (s : State) (k : Slot) (op : Nat) : Option RePost :=
  (s.workOf k).bind fun w => w.replay.map fun c => { slot := k, cause := c, reApplied := true, handled := w.replayed op }

theorem reApplication_slot {k : Slot} {op : Nat} {p : RePost} (h : p ∈ (s.reApplication k op).toList) : p.slot = k := by
  simp only [State.reApplication, Option.mem_toList, Option.bind_eq_some_iff, Option.map_eq_some_iff] at h
  obtain ⟨w, -, c, -, rfl⟩ := h
  rfl

/-- A command closed: its entry changed, its work gone, and where the C-die runs its slot among the finished (R361). -/
def closeCommand (k : Slot) (f : JEntry → JEntry) (re : List RePost) (n : Word16) (s : State) : State :=
  let t := dropWork k (modEntry k f s)
  if t.power.cRun then t.modRings fun r => { r with finished := r.finished ++ [k], rePost := r.rePost ++ re, reapplied := n } else t

/-- The state in which a command that ends has had its effect, if it has one, and has not yet been closed. -/
def beforeClose (b : Bool) (k : Slot) (x : JEntry) (p : Word16 × Word32) (r : Word64) (s : State) : State :=
  if b then effectMarks k { x with ooo := s.overtaken x } (outcomeRecord x.asn p.1 p.2 r) s else s

theorem finish_eq_close {k st d r b} {x : JEntry} (h : s.entry k = some x) (ht : t = beforeClose b k x (s.lateStatus k st d) r s) :
    ∃ n, finish k st d r b s =
      closeCommand k (JEntry.closed (s.overtaken x) (s.lateStatus k st d) r t.cTimeNs) (s.reApplication k x.opcode.toNat).toList n t := by
  subst ht
  unfold finish
  split
  case h_1 hn => cases h.symm.trans hn
  case h_2 y hy =>
  obtain rfl : x = y := Option.some.inj (h.symm.trans hy)
  exact ⟨_, rfl⟩

theorem finish_of_none {k st d r b} (h : s.entry k = none) : finish k st d r b s = s := by
  rw [finish, h]

theorem closed_marks (o : Bool) (p : Word16 × Word32) (r n : Word64) (y : JEntry) :
    (y.closed o p r n).slot = y.slot ∧ (y.closed o p r n).asn = y.asn ∧ (y.state ≠ .posted → (y.closed o p r n).state ≠ .posted) :=
  ⟨rfl, rfl, fun _ => nofun⟩

section
variable {o : Bool} {p : Word16 × Word32} {r m : Word64} {re : List RePost} {n : Word16}

theorem closeCommand_marked : Marked s (closeCommand k (JEntry.closed o p r m) re n s) :=
  have hm : Marked s (modEntry k (JEntry.closed o p r m) s) := modEntry_marked (closed_marks o p r m)
  .ite (hm.trans (.of_journal rfl)) (hm.trans (.of_journal rfl))

theorem closeCommand_orderly (h : Orderly L s) (hk : ∃ e ∈ s.rings.journal, e.slot = k) (hre : ∀ p ∈ re, p.slot = k) :
    Orderly L (closeCommand k (JEntry.closed o p r m) re n s) := by
  have hm : Orderly L (dropWork k (modEntry k (JEntry.closed o p r m) s)) := dropWork_orderly (modEntry_orderly h (closed_marks o p r m))
  have hheld : Held (dropWork k (modEntry k (JEntry.closed o p r m) s)) k := modEntry_held (fun y => ⟨rfl, nofun⟩) hk
  exact .ite (hm.naming hheld (hn := fun _ _ => names_grown (fun _ => .inl) (fun _ => mem_append_singleton_or (g := id))
    (fun q hq => (List.mem_append.1 hq).imp id (hre q)) fun _ => .inl)) hm

end

theorem exists_of_entry {k : Slot} {x : JEntry} (h : s.entry k = some x) : ∃ e ∈ s.rings.journal, e.slot = k :=
  ⟨x, List.mem_of_find?_eq_some h, slot_of_entry h⟩

theorem beforeClose_marked {b k x p r} : Marked s (beforeClose b k x p r s) := .ite effectMarks_marked .refl

/-- The end of a command changes each entry for itself. -/
theorem finish_marked {k st d r b} : Marked s (finish k st d r b s) := by
  cases h : s.entry k with
  | none => exact .of_journal (by rw [finish_of_none h])
  | some x =>
    obtain ⟨n, heq⟩ := finish_eq_close (st := st) (d := d) (r := r) (b := b) h rfl
    exact heq ▸ beforeClose_marked.trans closeCommand_marked

theorem finish_orderly {k st detail result effect} (h : Orderly L s) : Orderly L (finish k st detail result effect s) := by
  cases he : s.entry k with
  | none => exact (finish_of_none he).symm ▸ h
  | some x =>
    obtain ⟨n, heq⟩ := finish_eq_close (st := st) (d := detail) (r := result) (b := effect) he rfl
    obtain ⟨y, hy, hk⟩ := exists_of_entry he
    obtain ⟨g, hg, hs⟩ : Marked s (beforeClose effect k x (s.lateStatus k st detail) result s) := beforeClose_marked
    rw [heq]
    exact closeCommand_orderly (.ite (effectMarks_orderly h) h) ⟨g y, hg ▸ List.mem_map_of_mem hy, (hs y).1.trans hk⟩
      (fun _ => reApplication_slot)

theorem finishOk_orderly {k result} (h : Orderly L s) : Orderly L (finishOk k result s) := finish_orderly h

theorem finishHeld_orderly {k st detail result effect} (h : Orderly L s) : Orderly L (finishHeld k st detail result effect s) :=
  .ite (finish_orderly h) (modRings_unname (finish_orderly h)
    (hn := fun _ _ => names_of_subset (fun _ => id) (fun _ hk => List.mem_of_mem_filter hk) (fun _ => id) fun _ => id))

theorem finishFail_orderly {k st detail} (h : Orderly L s) : Orderly L (finishFail k st detail s) := finish_orderly h

theorem hostWrite_orderly {addr data} (h : Orderly L s) : Orderly L (hostWrite addr data s) := modHost_orderly h

theorem hostRead_orderly {use addr} (h : Orderly L s) : Orderly L (hostRead use addr s) := modHost_orderly h

theorem fetchData_orderly {k addr} (h : Orderly L s) : Orderly L (fetchData k addr s) := .ite h (hostRead_orderly h)

/-! ## SafCore -/

theorem clearByRequest_orderly {o} (h : Orderly L s) : Orderly L (clearByRequest o s) := by
  unfold clearByRequest
  extract_lets -underBinder +onlyGivenNames f
  exact .ite (.ite (.ite (raise_orderly (modSo_orderly h)) (unstand_orderly (raise_orderly (modSo_orderly h)))) (unstand_orderly (.ite
    (raise_orderly (modSo_orderly h)) (unstand_orderly (raise_orderly (modSo_orderly h)))))) h

theorem noteOutput_orderly {o} (h : Orderly L s) : Orderly L (noteOutput o s) := by
  unfold noteOutput
  exact modSo_orderly h

theorem abandonTests_orderly (h : Orderly L s) : Orderly L (abandonTests s) :=
    .forAll (fun _ _ ht => .forAll (fun _ _ ht₂ => .ite (raise_orderly (modSaf_orderly (modSafCh_orderly ht₂))) ht₂) ht) h

theorem noteDemand_orderly (h : Orderly L s) : Orderly L (noteDemand s) := by
  unfold noteDemand
  exact modSaf_orderly h

theorem reportDemands_orderly (h : Orderly L s) : Orderly L (reportDemands s) := by
  unfold reportDemands
  extract_lets -underBinder +onlyGivenNames a b s₂
  have hs₂ : Orderly L s₂ := .ite h (modSaf_orderly (raise_orderly h))
  exact .ite hs₂ (modSaf_orderly (raise_orderly hs₂))

theorem settlePath1_orderly (h : Orderly L s) : Orderly L (settlePath1 s) := modSaf_orderly h

theorem settlePath2_orderly (h : Orderly L s) : Orderly L (settlePath2 s) := modSaf_orderly h

theorem settleSwitches_orderly (h : Orderly L s) : Orderly L (settleSwitches s) := modSaf_orderly h

theorem settleSaf_orderly (h : Orderly L s) : Orderly L (settleSaf s) := by
  unfold settleSaf
  extract_lets -underBinder +onlyGivenNames s₂
  have hs₂ : Orderly L s₂ := abandonTests_orderly (clearByRequest_orderly (clearByRequest_orderly (noteDemand_orderly
    (reportDemands_orderly h))))
  exact noteOutput_orderly (noteOutput_orderly (settleSwitches_orderly (settlePath2_orderly (settlePath1_orderly hs₂))))

/-! ## Settle -/

theorem unforce_orderly {k} (h : Orderly L s) : Orderly L (unforce k s) := modSrc_orderly h

theorem clearForces_orderly (h : Orderly L s) : Orderly L (clearForces s) := .forAll (fun _ _ => unforce_orderly) h

theorem leaveTest_orderly {r} (h : Orderly L s) : Orderly L (leaveTest r s) :=
    .ite (.forAll (fun _ _ ht => .ite (unforce_orderly ht) ht) h) h

theorem failSwap_orderly {k} (h : Orderly L s) : Orderly L (failSwap k s) := finish_orderly (.forAll (fun _ _ => modRegion_orderly) h)

theorem endSwap_orderly {r k} (h : Orderly L s) : Orderly L (endSwap r k s) := by
  unfold endSwap
  exact .ite (modRegion_orderly h) (finishOk_orderly (modRegion_orderly h))

theorem stopSwap_orderly {r k} (h : Orderly L s) : Orderly L (stopSwap r k s) := .ite (failSwap_orderly h) (endSwap_orderly h)

theorem stopRegion_orderly {r} (h : Orderly L s) : Orderly L (stopRegion r s) := by
  unfold stopRegion
  extract_lets -underBinder +onlyGivenNames s₂ g s₃ s₄ s₅ s₆ s₇
  have hs₂ : Orderly L s₂ := leaveTest_orderly h
  have hs₃ : Orderly L s₃ := .forList (fun _ _ => finishHeld_orderly) hs₂
  have hs₄ : Orderly L s₄ := .forList (fun _ _ => finish_orderly) hs₃
  have hs₅ : Orderly L s₅ := .forList (fun _ _ => stopSwap_orderly) hs₄
  have hs₆ : Orderly L s₆ := .forList (fun _ _ => modIsland_orderly) hs₅
  have hs₇ : Orderly L s₇ := modPairRegion_orderly hs₆
  exact modRegion_orderly hs₇

theorem enterDev_orderly {d} (h : Orderly L s) : Orderly L (enterDev d s) := by
  unfold enterDev
  extract_lets -underBinder +onlyGivenNames s₂ s₃ s₄
  have hs₂ : Orderly L s₂ := .ite (closeDebug_orderly h) h
  have hs₃ : Orderly L s₃ := modPower_orderly hs₂
  have hs₄ : Orderly L s₄ := .ite (clearForces_orderly hs₃) hs₃
  exact .ite (.forAll (fun _ _ ht => .ite ht (stopRegion_orderly ht)) hs₄) hs₄

theorem settleDev_orderly (h : Orderly L s) : Orderly L (settleDev s) := by
  unfold settleDev
  split
  · exact .ite (enterDev_orderly h) (.ite h (enterDev_orderly h))
  · exact .ite (enterDev_orderly h) (.ite (enterDev_orderly h) h)
  · exact .ite h (enterDev_orderly h)
  · exact h

theorem openWindows_orderly {o was is} (h : Orderly L s) : Orderly L (openWindows o was is s) := by
  unfold openWindows
  split
  · exact h
  · exact openShadow_orderly h

theorem settleRegion_orderly {s0 r} (h : Orderly L s) : Orderly L (settleRegion s0 r s) := by
  unfold settleRegion
  extract_lets -underBinder +onlyGivenNames s₂ s₃ s₄
  have hs₂ : Orderly L s₂ := openWindows_orderly h
  have hs₃ : Orderly L s₃ := .ite (modSrc_orderly hs₂) hs₂
  have hs₄ : Orderly L s₄ := .ite (modRegion_orderly hs₃) hs₃
  exact .ite (modRegion_orderly hs₄) hs₄

theorem settleIsland_orderly {s0 i} (h : Orderly L s) : Orderly L (settleIsland s0 i s) := by
  unfold settleIsland
  extract_lets -underBinder +onlyGivenNames s₂ off s₃
  have hs₂ : Orderly L s₂ := openWindows_orderly h
  have hs₃ : Orderly L s₃ := .ite (modIsland_orderly hs₂) hs₂
  exact .ite hs₃ (modIsland_orderly hs₃)

theorem dropCommand_orderly {u} (h : Orderly L s) : Orderly L (dropCommand u s) := modUnit_orderly h

theorem settleUnit_orderly {u} (h : Orderly L s) : Orderly L (settleUnit u s) := by
  unfold settleUnit
  extract_lets -underBinder +onlyGivenNames clears s₂ s₃
  have hs₂ : Orderly L s₂ := .ite h (modUnit_orderly h)
  have hs₃ : Orderly L s₃ := .ite hs₂ (modUnit_orderly (dropCommand_orderly hs₂))
  exact .ite (modUnit_orderly hs₃) hs₃

theorem endStopped_orderly {u} (h : Orderly L s) : Orderly L (endStopped u s) := by
  unfold endStopped
  exact .ite h (modUnit_orderly (modIsland_orderly h))

theorem setGate_orderly {u on} (h : Orderly L s) : Orderly L (setGate u on s) := modUnit_orderly h

theorem gateIsland_orderly {i} (h : Orderly L s) : Orderly L (gateIsland i s) := by
  unfold gateIsland
  exact .ite (setGate_orderly (setGate_orderly h)) (modIsland_orderly (setGate_orderly (setGate_orderly h)))

theorem settleGates_orderly {i} (h : Orderly L s) : Orderly L (settleGates i s) := by
  unfold settleGates
  exact .ite (gateIsland_orderly h) h

theorem dropTrips_orderly (h : Orderly L s) : Orderly L (dropTrips s) := .of_roll h rfl

theorem countSwitched_orderly {s0} (h : Orderly L s) : Orderly L (countSwitched s0 s) :=
    .forAll (fun _ _ ht => .ite (modLoop_orderly ht) ht) h

theorem settle_orderly {s0} (h : Orderly L s) : Orderly L (settle s0 s) := by
  unfold settle
  extract_lets -underBinder +onlyGivenNames s₂ s₃ s₄ s₅
  have hs₂ : Orderly L s₂ := settleSaf_orderly (settleDev_orderly (dropTrips_orderly h))
  have hs₃ : Orderly L s₃ := .forAll (fun _ _ => settleRegion_orderly) hs₂
  have hs₄ : Orderly L s₄ := .forAll (fun _ _ => settleIsland_orderly) hs₃
  have hs₅ : Orderly L s₅ := .forAll (fun _ _ => settleUnit_orderly) (.forAll (fun _ _ => endStopped_orderly) hs₄)
  exact countSwitched_orderly (.forAll (fun _ _ => settleGates_orderly) hs₅)

/-! ## Gate -/

theorem readAs_orderly {v} (h : Orderly L s) : Orderly L (readAs v s) := modHost_orderly h

theorem hostAccess_orderly {die off v read op} (hop : ∀ t, Orderly L t → Orderly L (op t)) (h : Orderly L s) : Orderly L
    (hostAccess die off v read op s) :=
    .ite h (.ite (.ite (readAs_orderly h) h) (.ite (hop _ h) (modHost_orderly h)))

theorem hostWord_orderly {die off v op} (hop : ∀ t, Orderly L t → Orderly L (op t)) (h : Orderly L s) : Orderly L
    (hostWord die off v op s) :=
    hostAccess_orderly (fun _ ht => settle_orderly (hop _ ht)) h

theorem rwsWritten_orderly (h : Orderly L s) : Orderly L (rwsWritten s) := raise_orderly h

/-! ## CtxCore -/

theorem putCtx_orderly {c off l} (h : Orderly L s) : Orderly L (putCtx c off l s) := .ite (modLoop_orderly h) (write_orderly h)

theorem throughCtx_orderly {c off l} (h : Orderly L s) : Orderly L (throughCtx c off l s) := write_orderly (modLoop_orderly h)

theorem saveRt_orderly {c} (h : Orderly L s) : Orderly L (saveRt c s) := modLoop_orderly h

theorem writeBack_orderly {c} (h : Orderly L s) : Orderly L (writeBack c s) := by
  unfold writeBack
  split
  · exact h
  · exact saveRt_orderly (modLoop_orderly (.forList (fun _ _ => write_orderly) h))

theorem setCtxState_orderly {c v} (h : Orderly L s) : Orderly L (setCtxState c v s) := throughCtx_orderly h

theorem stepCtx16_orderly {c off} (h : Orderly L s) : Orderly L (stepCtx16 c off s) := throughCtx_orderly h

theorem stepCtx32_orderly {c off} (h : Orderly L s) : Orderly L (stepCtx32 c off s) := throughCtx_orderly h

theorem setOutVal_orderly {c n v} (h : Orderly L s) : Orderly L (setOutVal c n v s) := putCtx_orderly h

theorem setSw_orderly {c k v} (h : Orderly L s) : Orderly L (setSw c k v s) := putCtx_orderly h

theorem settleBusFb_orderly {k} (h : Orderly L s) : Orderly L (settleBusFb k s) := .ite h (unstand_orderly h)

/-! ## Confluence -/

theorem writeEntry_orderly {r above e} (h : Orderly L s) : Orderly L (writeEntry r above e s) := by
  unfold writeEntry
  extract_lets -underBinder +onlyGivenNames i keepCmp keepPhase p replaced clipped s₂
  have hs₂ : Orderly L s₂ := modRegion_orderly h
  exact modIsland_orderly hs₂

theorem writeCommit_orderly {r above l late} (h : Orderly L s) : Orderly L (writeCommit r above l late s) := by
  unfold writeCommit
  exact .forList (fun _ _ => writeEntry_orderly) (.ite (modRegion_orderly h) h)

theorem commitFrame_orderly {f late} (h : Orderly L s) : Orderly L (commitFrame f late s) := modRegion_orderly (writeCommit_orderly h)

theorem staleCopy_orderly (h : Orderly L s) : Orderly L (staleCopy s) := by
  unfold staleCopy
  exact .ite (modPair_orderly (raise_orderly (modPair_orderly h))) (modPair_orderly h)

theorem diverge_orderly {r seq} (h : Orderly L s) : Orderly L (diverge r seq s) := by
  unfold diverge
  exact modPairRegion_orderly (raise_orderly (modPair_orderly h))

theorem discardEpoch_orderly {r} (h : Orderly L s) : Orderly L (discardEpoch r s) := by
  unfold discardEpoch
  exact modPairRegion_orderly (raise_orderly (modPair_orderly h))

theorem finishResync_orderly {k} (h : Orderly L s) : Orderly L (finishResync k s) := .ite h (finishOk_orderly h)

theorem probationMatch_orderly {r seq} (h : Orderly L s) : Orderly L (probationMatch r seq s) := by
  unfold probationMatch
  extract_lets -underBinder +onlyGivenNames s₂ p
  have hs₂ : Orderly L s₂ := modPairRegion_orderly h
  refine .ite hs₂ ?_
  extract_lets -underBinder +onlyGivenNames s₃ s₄
  have hs₃ : Orderly L s₃ := raise_orderly (modPair_orderly hs₂)
  have hs₄ : Orderly L s₄ := modPairRegion_orderly hs₃
  split
  · exact finishResync_orderly hs₄
  · exact hs₄

theorem acceptCopy_orderly {r seq body partner} (h : Orderly L s) : Orderly L (acceptCopy r seq body partner s) := by
  unfold acceptCopy
  exact modPairRegion_orderly (.ite (commitFrame_orderly h) h)

theorem creditCopy_orderly {r seq partner} (h : Orderly L s) : Orderly L (creditCopy r seq partner s) := modPairRegion_orderly h

theorem countedCopy_orderly {r seq body partner} (h : Orderly L s) : Orderly L (countedCopy r seq body partner s) := by
  unfold countedCopy
  extract_lets -underBinder +onlyGivenNames s₂ s₃
  have hs₂ : Orderly L s₂ := modPairRegion_orderly h
  have hs₃ : Orderly L s₃ := by
    unfold s₃
    split
    · exact acceptCopy_orderly hs₂
    · exact .ite (creditCopy_orderly hs₂) (diverge_orderly (creditCopy_orderly hs₂))
  split
  · exact hs₃
  · extract_lets -underBinder +onlyGivenNames s₄
    have hs₄ : Orderly L s₄ := creditCopy_orderly (modPairRegion_orderly hs₃)
    exact .ite (probationMatch_orderly hs₄) (discardEpoch_orderly (diverge_orderly hs₄))

theorem uncountedCopy_orderly {r seq body partner} (h : Orderly L s) : Orderly L (uncountedCopy r seq body partner s) := by
  unfold uncountedCopy
  extract_lets -underBinder +onlyGivenNames p
  refine .ite (.ite (modPairRegion_orderly h) h) ?_
  refine .ite ?_ h
  split
  · exact modPairRegion_orderly h
  · extract_lets -underBinder +onlyGivenNames s₂
    have hs₂ : Orderly L s₂ := creditCopy_orderly h
    exact .ite (probationMatch_orderly hs₂) (discardEpoch_orderly (diverge_orderly hs₂))

theorem receiveCopy_orderly {r seq body partner} (h : Orderly L s) : Orderly L (receiveCopy r seq body partner s) :=
    .ite (staleCopy_orderly h) (.ite (countedCopy_orderly h) (uncountedCopy_orderly h))

/-! ## MrCore -/

theorem loseChain_orderly {f} (h : Orderly L s) : Orderly L (loseChain f s) :=
    .forList (fun _ _ ht => .forAll (fun _ _ => modSess_orderly) ht) h

theorem loseSet_orderly {y} (h : Orderly L s) : Orderly L (loseSet y s) := .forAll (fun _ _ => modSess_orderly) h

theorem losePayload_orderly {p} (h : Orderly L s) : Orderly L (losePayload p s) := by
  unfold losePayload
  split
  · exact .forList (fun _ _ => loseSet_orderly) h
  · exact loseChain_orderly h
  · exact h
  · exact h

theorem renumber_orderly {b n} (h : Orderly L s) : Orderly L (renumber b n s) := by
  unfold renumber
  exact .forAll (fun _ _ => modSess_orderly) (modEvents_orderly (modMr_orderly h))

theorem mrSend_orderly {d vc p} (h : Orderly L s) : Orderly L (mrSend d vc p s) := .ite (modMr_orderly h) (losePayload_orderly h)

theorem pairSend_orderly {type r seq body} (h : Orderly L s) : Orderly L (pairSend type r seq body s) :=
    .ite h (.forAll (fun _ _ => modPort_orderly) (modNet_orderly h))

/-! ## Filter -/

theorem trgWaiting_orderly (h : Orderly L s) : Orderly L (trgWaiting s) :=
    .forList (fun _ _ ht => mrSend_orderly (.ite (modTrig_orderly (raise_orderly ht)) ht)) (modEvents_orderly h)

theorem trgSample_orderly {u x tick} (h : Orderly L s) : Orderly L (trgSample u x tick s) := by
  unfold trgSample
  extract_lets -underBinder +onlyGivenNames s₂ w th q p
  have hs₂ : Orderly L s₂ := trgTake_orderly h
  have hp : Orderly L p.2 := trgStep_orderly (modTrig_orderly hs₂)
  exact .ite (trgWaiting_orderly (fire_orderly hp)) hp

theorem trgInput_orderly {chain n x tick} (h : Orderly L s) : Orderly L (trgInput chain n x tick s) :=
    .forList (fun _ _ => trgSample_orderly) h

theorem trgGap_orderly {n} (h : Orderly L s) : Orderly L (trgGap n s) :=
    .forList (fun _ _ ht => modTrig_orderly (trgTake_orderly ht)) h

theorem writeTrgCmd_orderly {u v} (h : Orderly L s) : Orderly L (writeTrgCmd u v s) := .ite (modTrig_orderly h) h

theorem chainFlush_orderly {n} (h : Orderly L s) : Orderly L (chainFlush n s) := by
  unfold chainFlush
  exact .ite h (modChain_orderly (mrSend_orderly h))

theorem chainOut_orderly {n valid y} (h : Orderly L s) : Orderly L (chainOut n valid y s) := by
  unfold chainOut
  extract_lets -underBinder +onlyGivenNames s₂ v done s₃ s₄ c s₅
  have hs₂ : Orderly L s₂ := .ite h (chainFlush_orderly h)
  have hs₃ : Orderly L s₃ := modChain_orderly hs₂
  have hs₄ : Orderly L s₄ := .ite (chainFlush_orderly hs₃) hs₃
  have hs₅ : Orderly L s₅ := .ite (raise_orderly hs₄) hs₄
  exact .ite (trgInput_orderly hs₅) (trgGap_orderly hs₅)

theorem chainInput_orderly {n x count ovr} (h : Orderly L s) : Orderly L (chainInput n x count ovr s) := by
  unfold chainInput
  exact .forList (fun _ _ => chainOut_orderly) (modChain_orderly h)

/-! ## Operands -/

theorem applying_orderly {k} (h : Orderly L s) : Orderly L (applying k s) := modWork_orderly h

/-! ## Region -/

theorem startCarrier_orderly {r p} (h : Orderly L s) : Orderly L (startCarrier r p s) := by
  unfold startCarrier
  extract_lets -underBinder +onlyGivenNames s₂ s₃ s₄ s₅
  have hs₂ : Orderly L s₂ := .forList (fun _ _ => modIsland_orderly) h
  have hs₃ : Orderly L s₃ := modRegion_orderly hs₂
  have hs₄ : Orderly L s₄ := unstand_orderly hs₃
  have hs₅ : Orderly L s₅ := modLoop_orderly hs₄
  exact .ite (modPairRegion_orderly hs₅) hs₅

theorem changePhase_orderly {r p} (h : Orderly L s) : Orderly L (changePhase r p s) := modRegion_orderly (.ite h (leaveTest_orderly h))

theorem raiseMode_orderly {r} (h : Orderly L s) : Orderly L (raiseMode r s) := raise_orderly h

theorem modeFromOff_orderly {r p k} (h : Orderly L s) : Orderly L (modeFromOff r p k s) :=
    .ite (finishFail_orderly h) (.ite (finishOk_orderly (raiseMode_orderly h)) (.ite (finishFail_orderly h) (.ite (finishOk_orderly
      (raiseMode_orderly (startCarrier_orderly h))) (finishFail_orderly h))))

theorem doRegionMode_orderly {k} (h : Orderly L s) : Orderly L (doRegionMode k s) := by
  unfold doRegionMode
  extract_lets -underBinder +onlyGivenNames d
  split
  · exact finishFail_orderly h
  · exact finishFail_orderly h
  · exact .ite (finishFail_orderly h) (.ite (modeFromOff_orderly h) (modWork_orderly (modRegion_orderly h)))

theorem commitWritten_orderly {k r} (h : Orderly L s) : Orderly L (commitWritten k r s) := modWork_orderly (modRegion_orderly h)

theorem doRegionCommit_orderly {k} (h : Orderly L s) : Orderly L (doRegionCommit k s) := by
  unfold doRegionCommit
  extract_lets -underBinder +onlyGivenNames d
  split
  · exact finishFail_orderly h
  · refine .ite (modWork_orderly h) ?_
    split
    · exact finishFail_orderly h
    · exact commitWritten_orderly (writeCommit_orderly h)

theorem replaceUnits_orderly {i l p} (h : Orderly L s) : Orderly L (replaceUnits i l p s) := by
  unfold replaceUnits
  exact .ite h (modUnit_orderly (modUnit_orderly h))

theorem transferIsland_orderly {b p i} (h : Orderly L s) : Orderly L (transferIsland b p i s) := by
  unfold transferIsland
  exact .ite (modIsland_orderly h) (replaceUnits_orderly (modIsland_orderly (modIsland_orderly h)))

theorem applyMode_orderly {r q} (h : Orderly L s) : Orderly L (applyMode r q s) :=
    .ite (modeFromOff_orderly h) (.ite (finishFail_orderly h) (.ite (finishOk_orderly (stopRegion_orderly (modRegion_orderly
      (raiseMode_orderly h)))) (finishOk_orderly (changePhase_orderly (raiseMode_orderly h)))))

theorem doPairSwap_orderly {k} (h : Orderly L s) : Orderly L (doPairSwap k s) := by
  unfold doPairSwap
  extract_lets -underBinder +onlyGivenNames l left
  exact .ite (finishFail_orderly h) (.ite (finishOk_orderly h) (applying_orderly (.forList (fun _ _ => modRegion_orderly) h)))

theorem recordSwap_orderly {r k} (h : Orderly L s) : Orderly L (recordSwap r k s) := by
  unfold recordSwap
  split
  · exact h
  · exact modRings_orderly (write_orderly (markOvertaken_orderly h))

theorem applySwap_orderly {r k} (h : Orderly L s) : Orderly L (applySwap r k s) :=
    .ite (failSwap_orderly h) (endSwap_orderly (.ite (recordSwap_orderly (modPairRegion_orderly h)) h))

theorem failover_orderly {r} (h : Orderly L s) : Orderly L (failover r s) := by
  unfold failover
  exact .ite (raise_orderly (modPairRegion_orderly h)) h

theorem boundaryCopies_orderly {r n} (h : Orderly L s) : Orderly L (boundaryCopies r n s) := by
  unfold boundaryCopies
  refine .ite h ?_
  extract_lets -underBinder +onlyGivenNames p got miss good s₂ s₃
  have hs₂ : Orderly L s₂ := modPairRegion_orderly h
  have hs₃ : Orderly L s₃ := by
    unfold s₃
    split
    · exact hs₂
    · exact modPairRegion_orderly (commitFrame_orderly hs₂)
  exact .ite (.ite (modRegion_orderly hs₃) (unstand_orderly (modRegion_orderly hs₃))) hs₃

theorem transferDiscrete_orderly {r} (h : Orderly L s) : Orderly L (transferDiscrete r s) := by
  unfold transferDiscrete
  extract_lets -underBinder +onlyGivenNames g s₂
  have hs₂ : Orderly L s₂ := by
    unfold s₂
    split
    · exact h
    · exact .of_roll h rfl
  exact modRegion_orderly hs₂

theorem startDue_orderly {r e} (h : Orderly L s) : Orderly L (startDue r e s) := by
  unfold startDue
  refine .ite (doRegionMode_orderly h) ?_
  refine .ite (doPairSwap_orderly h) ?_
  split
  · exact finishFail_orderly h
  · exact commitWritten_orderly (.forList (fun _ _ => writeEntry_orderly) h)

theorem atBoundary_orderly {r n commits modes e} (h : Orderly L s) : Orderly L (atBoundary r n commits modes e s) := by
  unfold atBoundary
  refine .ite (finishHeld_orderly h) ?_
  refine .ite (applySwap_orderly h) ?_
  split
  · exact applyMode_orderly h
  · exact h

theorem boundary_orderly {r t} (h : Orderly L s) : Orderly L (boundary r t s) := by
  unfold boundary
  extract_lets -underBinder +onlyGivenNames s₂ n p s₃ s₄ commits modes l s₅ s₆
  have hs₂ : Orderly L s₂ := .forList (fun _ _ => startDue_orderly) h
  have hs₃ : Orderly L s₃ := .forList (fun _ _ => transferIsland_orderly) hs₂
  have hs₄ : Orderly L s₄ := transferDiscrete_orderly hs₃
  have hs₅ : Orderly L s₅ := modRegion_orderly hs₄
  have hs₆ : Orderly L s₆ := .forList (fun _ _ => atBoundary_orderly) (failover_orderly (boundaryCopies_orderly hs₅))
  exact .ite (stopRegion_orderly hs₆) hs₆

theorem countTrip_orderly {r n} (h : Orderly L s) : Orderly L (countTrip r n s) := by
  unfold countTrip
  extract_lets -underBinder +onlyGivenNames g counting cnt reached s₂
  have hs₂ : Orderly L s₂ := modRegion_orderly h
  exact .ite (raise_orderly hs₂) hs₂

theorem tripRegion_orderly {n r} (h : Orderly L s) : Orderly L (tripRegion n r s) := by
  unfold tripRegion
  extract_lets -underBinder +onlyGivenNames us
  exact .ite h (countTrip_orderly (.ite (raise_orderly (.forList (fun _ _ => modUnit_orderly) h)) (modRegion_orderly (.ite (.forList
    (fun _ _ => modUnit_orderly) h) (raise_orderly (.forList (fun _ _ => modUnit_orderly) h))))))

theorem wrapRelease_orderly {u} (h : Orderly L s) : Orderly L (wrapRelease u s) := by
  unfold wrapRelease
  extract_lets -underBinder +onlyGivenNames x cyc still testing s₂
  have hs₂ : Orderly L s₂ := modUnit_orderly h
  exact modUnit_orderly hs₂

theorem endHeld_orderly {u} (h : Orderly L s) : Orderly L (endHeld u s) := .ite (dropCommand_orderly h) h

theorem wrapPeriod_orderly {i p} (h : Orderly L s) : Orderly L (wrapPeriod i p s) := by
  unfold wrapPeriod
  extract_lets -underBinder +onlyGivenNames x w h₂ l c mid wH wL sH sL ends heldH heldL eH eL s₂ s₃
  have hs₂ : Orderly L s₂ := modUnit_orderly h
  have hs₃ : Orderly L s₃ := modUnit_orderly hs₂
  exact modIsland_orderly hs₃

theorem recountTrips_orderly {r i} (h : Orderly L s) : Orderly L (recountTrips r i s) :=
    .forAll (fun _ _ ht => .ite (countTrip_orderly ht) ht) h

theorem wrap_orderly {i r} (h : Orderly L s) : Orderly L (wrap i r s) := by
  unfold wrap
  extract_lets -underBinder +onlyGivenNames s₂ s₃ s₄ s₅ s₆
  have hs₂ : Orderly L s₂ := dropTrips_orderly h
  have hs₃ : Orderly L s₃ := endHeld_orderly (endHeld_orderly hs₂)
  have hs₄ : Orderly L s₄ := modIsland_orderly hs₃
  have hs₅ : Orderly L s₅ := wrapRelease_orderly (wrapRelease_orderly hs₄)
  have hs₆ : Orderly L s₆ := recountTrips_orderly hs₅
  exact wrapPeriod_orderly hs₆

theorem commandUnit_orderly {u on} (h : Orderly L s) : Orderly L (commandUnit u on s) := modUnit_orderly h

theorem resumeFrames_orderly {r} (h : Orderly L s) : Orderly L (resumeFrames r s) := by
  unfold resumeFrames
  extract_lets -underBinder +onlyGivenNames g t
  have ht : Orderly L t := modRegion_orderly h
  exact .ite ht (.ite (.ite ht (raise_orderly ht)) (unstand_orderly ht))

/-! ## Adc -/

theorem overrun_orderly {b} (h : Orderly L s) : Orderly L (overrun b s) := by
  unfold overrun
  exact .ite (modBank_orderly h) (raise_orderly (modBank_orderly h))

theorem dropTrigger_orderly {b src} (h : Orderly L s) : Orderly L (dropTrigger b src s) := by
  unfold dropTrigger
  split
  · exact renumber_orderly (overrun_orderly h)
  · exact overrun_orderly h

theorem injOverrun_orderly {b} (h : Orderly L s) : Orderly L (injOverrun b s) := by
  unfold injOverrun
  exact .ite (modBank_orderly h) (raise_orderly (modBank_orderly h))

theorem bankTrigger_orderly {b delay src} (h : Orderly L s) : Orderly L (bankTrigger b delay src s) :=
    .ite (dropTrigger_orderly h) (modBank_orderly h)

theorem pairSample_orderly {x} (h : Orderly L s) : Orderly L (pairSample x s) :=
    .ite (.ite (modRegion_orderly (pairSend_orderly h)) (modRegion_orderly h)) h

theorem regionTrigger_orderly {r} (h : Orderly L s) : Orderly L (regionTrigger r s) := by
  unfold regionTrigger
  extract_lets -underBinder +onlyGivenNames n s₂ s₃
  have hs₂ : Orderly L s₂ := modRegion_orderly h
  have hs₃ : Orderly L s₃ := .ite hs₂ (.forAll (fun _ _ ht => .ite (bankTrigger_orderly (.ite (modBank_orderly ht) ht)) (.ite
    (modBank_orderly ht) ht)) hs₂)
  exact .ite (mrSend_orderly (pairSample_orderly hs₃)) hs₃

theorem openWire_orderly {c code} (h : Orderly L s) : Orderly L (openWire c code s) := by
  unfold openWire
  extract_lets -underBinder +onlyGivenNames b j w n mode x rev v suspect seen flag up down turn s₂
  have hs₂ : Orderly L s₂ := modChan_orderly h
  exact .ite (raise_orderly (modBank_orderly hs₂)) (.ite (raise_orderly (modBank_orderly hs₂)) hs₂)

theorem openWires_orderly {b m codes} (h : Orderly L s) : Orderly L (openWires b m codes s) :=
    .forList (fun _ _ => openWire_orderly) h

theorem enqueue_orderly {b e} (h : Orderly L s) : Orderly L (enqueue b e s) :=
    .ite (.ite (modBank_orderly h) (raise_orderly (modBank_orderly h))) (.ite (raise_orderly (modBank_orderly (modBank_orderly h)))
      (modBank_orderly h))

theorem enqueueSet_orderly {b m ow codes ovr stamp} (h : Orderly L s) : Orderly L (enqueueSet b m ow codes ovr stamp s) :=
    .forList (fun _ _ ht => .ite (enqueue_orderly ht) ht) h

theorem readQdata_orderly {b} (h : Orderly L s) : Orderly L (readQdata b s) := by
  unfold readQdata
  split
  · exact readAs_orderly h
  · exact readAs_orderly (modBank_orderly h)

theorem injLost_orderly {b} (h : Orderly L s) : Orderly L (injLost b s) := by
  unfold injLost
  split
  · exact h
  · exact raise_orderly (enqueueSet_orderly (modBank_orderly h))

theorem preempt_orderly {b m} (h : Orderly L s) : Orderly L (preempt b m s) := by
  unfold preempt
  split
  · exact h
  · exact .ite h (.ite (modBank_orderly h) (.ite (injLost_orderly h) (modBank_orderly h)))

theorem sample_orderly {b d latched uv} (h : Orderly L s) : Orderly L (sample b d latched uv s) := by
  unfold sample
  exact preempt_orderly (modBank_orderly h)

theorem flushPacked_orderly {b} (h : Orderly L s) : Orderly L (flushPacked b s) := by
  unfold flushPacked
  exact .ite h (modBank_orderly (mrSend_orderly h))

theorem sendSet_orderly {x} (h : Orderly L s) : Orderly L (sendSet x s) := by
  unfold sendSet
  extract_lets -underBinder +onlyGivenNames s₂
  have hs₂ : Orderly L s₂ := pairSample_orderly h
  exact .ite (mrSend_orderly (flushPacked_orderly hs₂)) (.ite (flushPacked_orderly (modBank_orderly hs₂)) (modBank_orderly hs₂))

theorem setComplete_orderly {b} (h : Orderly L s) : Orderly L (setComplete b s) := by
  unfold setComplete
  split
  · exact h
  · extract_lets -underBinder +onlyGivenNames s₂ ow s₃ cs s₄ s₅ release
    have hs₂ : Orderly L s₂ := openWires_orderly h
    have hs₃ : Orderly L s₃ := enqueueSet_orderly hs₂
    have hs₄ : Orderly L s₄ := .forList (fun _ _ ht => .forList (fun _ _ => chainInput_orderly) ht) hs₃
    have hs₅ : Orderly L s₅ := .forList (fun _ _ => trgInput_orderly) hs₄
    exact sendSet_orderly (modBank_orderly hs₅)

theorem setsComplete_orderly {b} (h : Orderly L s) : Orderly L (setsComplete b s) :=
    setComplete_orderly (.forAll (fun _ _ ht => .ite (setComplete_orderly ht) ht) h)

theorem samplingInstant_orderly {b uv} (h : Orderly L s) : Orderly L (samplingInstant b uv s) := by
  unfold samplingInstant
  extract_lets -underBinder +onlyGivenNames s₂ x
  have hs₂ : Orderly L s₂ := .ite (setsComplete_orderly h) h
  split
  · exact sample_orderly (modBank_orderly hs₂)
  · exact .ite (sample_orderly (modBank_orderly hs₂)) hs₂
  · exact .ite (modBank_orderly hs₂) hs₂
  · exact .ite (dropTrigger_orderly (modBank_orderly hs₂)) hs₂
  · exact hs₂

theorem writeInjSw_orderly {b v} (h : Orderly L s) : Orderly L (writeInjSw b v s) := .ite (modBank_orderly h) h

theorem injSample_orderly {b d latched uv} (h : Orderly L s) : Orderly L (injSample b d latched uv s) := by
  unfold injSample
  exact modBank_orderly h

theorem injSamplingInstant_orderly {b uv} (h : Orderly L s) : Orderly L (injSamplingInstant b uv s) := by
  unfold injSamplingInstant
  extract_lets -underBinder +onlyGivenNames x
  split
  · exact injSample_orderly (modBank_orderly h)
  · exact .ite (injSample_orderly (modBank_orderly h)) h
  · exact .ite (modBank_orderly h) h
  · exact .ite (injOverrun_orderly (modBank_orderly h)) h
  · exact h

theorem injComplete_orderly {b c} (h : Orderly L s) : Orderly L (injComplete b c s) := by
  unfold injComplete
  extract_lets -underBinder +onlyGivenNames s₂ ow n s₃
  have hs₂ : Orderly L s₂ := openWires_orderly h
  have hs₃ : Orderly L s₃ := enqueueSet_orderly hs₂
  exact sendSet_orderly (modBank_orderly (.ite hs₃ (renumber_orderly hs₃)))

theorem sliceFailed_orderly {b} (h : Orderly L s) : Orderly L (sliceFailed b s) := by
  unfold sliceFailed
  extract_lets -underBinder +onlyGivenNames x j s₂
  have hs₂ : Orderly L s₂ := modBank_orderly h
  exact .ite hs₂ (.ite (stand_orderly (raise_orderly (modBank_orderly hs₂))) (raise_orderly hs₂))

theorem setWindow_orderly {c on} (h : Orderly L s) : Orderly L (setWindow c on s) := by
  unfold setWindow
  exact modBank_orderly h

theorem assertWindow_orderly {ch} (h : Orderly L s) : Orderly L (assertWindow ch s) := by
  unfold assertWindow
  exact .ite (modChan_orderly (raise_orderly (setWindow_orderly h))) (setWindow_orderly h)

theorem standWindow_orderly {ch} (h : Orderly L s) : Orderly L (standWindow ch s) := by
  unfold standWindow
  extract_lets -underBinder +onlyGivenNames w
  split
  · exact .ite (setWindow_orderly h) h
  · exact .ite (assertWindow_orderly h) h
  · exact h

theorem writeWinst_orderly {b v} (h : Orderly L s) : Orderly L (writeWinst b v s) := modBank_orderly h

/-! ## Cq -/

theorem writeCq_orderly {m i l urgent} (h : Orderly L s) : Orderly L (writeCq m i l urgent s) := by
  unfold writeCq
  exact hostWrite_orderly (modCq_orderly (hostWrite_orderly h))

theorem markStopped_orderly {q} (h : Orderly L s) : Orderly L (markStopped q s) := modSq_orderly h

/-! ## Time -/

theorem loseLock_orderly (h : Orderly L s) : Orderly L (loseLock s) := by
  unfold loseLock
  exact .ite (raise_orderly (modTime_orderly h)) (modTime_orderly h)

theorem judgeLock_orderly {step} (h : Orderly L s) : Orderly L (judgeLock step s) :=
    .ite (loseLock_orderly h) (.ite (raise_orderly (modTime_orderly (modTime_orderly h))) (modTime_orderly h))

theorem setTime_orderly {p} (h : Orderly L s) : Orderly L (setTime p s) := modTime_orderly h

theorem syncTime_orderly (h : Orderly L s) : Orderly L (syncTime s) := modTime_orderly h

theorem markJumped_orderly {was} (h : Orderly L s) : Orderly L (markJumped was s) := mapWork_orderly h fun w => by dsimp only; split <;> rfl

theorem doTimeAdjust_orderly {k} (h : Orderly L s) : Orderly L (doTimeAdjust k s) := by
  unfold doTimeAdjust
  extract_lets -underBinder +onlyGivenNames d step rho f stepV rateV force
  exact .ite (finishFail_orderly h) (.ite (finishFail_orderly h) (.ite (raise_orderly (finishFail_orderly (modTime_orderly h)))
    (finishOk_orderly (.ite (raise_orderly (loseLock_orderly (.ite (markJumped_orderly (syncTime_orderly (setTime_orderly (.ite
    (loseLock_orderly h) h)))) (syncTime_orderly (setTime_orderly (.ite (loseLock_orderly h) h)))))) (judgeLock_orderly (.ite
    (markJumped_orderly (syncTime_orderly (setTime_orderly (.ite (loseLock_orderly h) h)))) (syncTime_orderly (setTime_orderly (.ite
    (loseLock_orderly h) h)))))))))

theorem timeRestart_orderly (h : Orderly L s) : Orderly L (timeRestart s) := by
  unfold timeRestart
  extract_lets -underBinder +onlyGivenNames n out b s₂ s₃
  have hs₂ : Orderly L s₂ := modTime_orderly h
  have hs₃ : Orderly L s₃ := .ite (syncTime_orderly hs₂) hs₂
  exact raise_orderly (loseLock_orderly hs₃)

theorem readTimeNow_orderly (h : Orderly L s) : Orderly L (readTimeNow s) := readAs_orderly (modTime_orderly h)

theorem readAoTime_orderly (h : Orderly L s) : Orderly L (readAoTime s) := readAs_orderly (modTime_orderly h)

theorem writeTimeStatus_orderly {v} (h : Orderly L s) : Orderly L (writeTimeStatus v s) := modTime_orderly h

/-! ## Net -/

theorem queueFrame_orderly {ports rct f} (h : Orderly L s) : Orderly L (queueFrame ports rct f s) := by
  unfold queueFrame
  exact .forList (fun _ _ => modPort_orderly) (.ite (modNet_orderly h) h)

theorem doNetTx_orderly {k} (h : Orderly L s) : Orderly L (doNetTx k s) := by
  unfold doNetTx
  extract_lets -underBinder +onlyGivenNames d l ports
  split
  · exact finishFail_orderly h
  · extract_lets -underBinder +onlyGivenNames asn rct
    refine .ite (applying_orderly (queueFrame_orderly h)) ?_
    split
    · exact h
    · exact applying_orderly (queueFrame_orderly (modNet_orderly h))

theorem runNetTx_orderly {k} (h : Orderly L s) : Orderly L (runNetTx k s) := by
  unfold runNetTx
  extract_lets -underBinder +onlyGivenNames d
  split
  · exact finishFail_orderly h
  · exact .ite (fetchData_orderly h) (.ite (finishFail_orderly h) (.ite (doNetTx_orderly h) h))

theorem txDone_orderly {f p took} (h : Orderly L s) : Orderly L (txDone f p took s) := by
  unfold txDone
  split
  · exact h
  · exact .ite (modNet_orderly h) (finish_orderly (modNet_orderly h))

theorem portBoundary_orderly {p} (h : Orderly L s) : Orderly L (portBoundary p s) := by
  unfold portBoundary
  extract_lets -underBinder +onlyGivenNames q s₂
  have hs₂ : Orderly L s₂ := .ite (modPort_orderly h) h
  split
  · exact modPort_orderly hs₂
  · exact txDone_orderly (modPort_orderly hs₂)
  · exact hs₂

theorem payTag_orderly {t} (h : Orderly L s) : Orderly L (payTag t s) := modNet_orderly h

theorem queueStamp_orderly {e} (h : Orderly L s) : Orderly L (queueStamp e s) := by
  unfold queueStamp
  extract_lets -underBinder +onlyGivenNames s₂
  have hs₂ : Orderly L s₂ := payTag_orderly h
  exact .ite (.ite (modNet_orderly hs₂) (raise_orderly (modNet_orderly hs₂))) (modNet_orderly hs₂)

theorem txTimestamp_orderly {p f} (h : Orderly L s) : Orderly L (txTimestamp p f s) := by
  unfold txTimestamp
  extract_lets -underBinder +onlyGivenNames t bytes s₂
  have hs₂ : Orderly L s₂ := modPort_orderly h
  split
  · exact hs₂
  · exact queueStamp_orderly hs₂

theorem readTxq_orderly (h : Orderly L s) : Orderly L (readTxq s) := by
  unfold readTxq
  split
  · exact readAs_orderly (modNet_orderly h)
  · exact readAs_orderly (modNet_orderly h)

theorem deliverOne_orderly {e} (h : Orderly L s) : Orderly L (deliverOne e s) :=
    .ite (finish_orderly (hostWrite_orderly h)) (modNet_orderly h)

theorem deliverHeld_orderly (h : Orderly L s) : Orderly L (deliverHeld s) :=
    .forList (fun _ _ => deliverOne_orderly) (modNet_orderly h)

theorem doNetRxPost_orderly {k} (h : Orderly L s) : Orderly L (doNetRxPost k s) := by
  unfold doNetRxPost
  extract_lets -underBinder +onlyGivenNames d n
  exact .ite (finishFail_orderly h) (.ite (finishFail_orderly h) (.ite (finishFail_orderly h) (modWork_orderly (modNet_orderly h))))

theorem hostFrame_orderly {p rct l} (h : Orderly L s) : Orderly L (hostFrame p rct l s) := by
  unfold hostFrame
  split
  · exact .ite (modNet_orderly h) (raise_orderly (modNet_orderly h))
  · exact deliverOne_orderly (modNet_orderly h)

theorem prpCopy_orderly {src seq} (h : Orderly L s) : Orderly L (prpCopy src seq s).2 := by
  unfold prpCopy
  split
  · exact .of_roll h rfl
  · exact .iteSnd (.of_roll h rfl) (.iteSnd h (raise_orderly (modNet_orderly h)))

theorem touchNode_orderly {src} (h : Orderly L s) : Orderly L (touchNode src s) := modNet_orderly h

theorem wrongLan_orderly {p} (h : Orderly L s) : Orderly L (wrongLan p s) := by
  unfold wrongLan
  exact .ite (modNet_orderly (raise_orderly (modPort_orderly h))) (modPort_orderly h)

theorem pairFrame_orderly {l} (h : Orderly L s) : Orderly L (pairFrame l s) :=
    .ite (.ite (modNet_orderly (raise_orderly (modNet_orderly h))) (modNet_orderly h)) (.ite (modPair_orderly h) (.ite (staleCopy_orderly
      (modPair_orderly h)) (modPair_orderly h)))

theorem deliverFrame_orderly {p rct l} (h : Orderly L s) : Orderly L (deliverFrame p rct l s) :=
    .ite (pairFrame_orderly h) (.ite (.ite (hostFrame_orderly h) h) (hostFrame_orderly h))

theorem frameReceive_orderly {p l fcsOk} (h : Orderly L s) : Orderly L (frameReceive p l fcsOk s) := by
  unfold frameReceive
  refine .ite (modPort_orderly h) ?_
  extract_lets -underBinder +onlyGivenNames s₂
  have hs₂ : Orderly L s₂ := modPort_orderly h
  refine .ite (modPort_orderly hs₂) ?_
  extract_lets -underBinder +onlyGivenNames s₃
  have hs₃ : Orderly L s₃ := touchNode_orderly hs₂
  split
  · exact deliverFrame_orderly hs₃
  · extract_lets -underBinder +onlyGivenNames s₄ q
    have hs₄ : Orderly L s₄ := .ite hs₃ (wrongLan_orderly hs₃)
    have hq : Orderly L q.2 := .iteSnd hs₄ (prpCopy_orderly hs₄)
    exact .ite (deliverFrame_orderly hq) hq

theorem dropFrames_orderly {p} (h : Orderly L s) : Orderly L (dropFrames p s) := by
  unfold dropFrames
  exact .forList (fun _ _ => txDone_orderly) (.forList (fun _ _ => payTag_orderly) (modPort_orderly h))

/-! ## Island -/

theorem startStrengths_orderly {u} (h : Orderly L s) : Orderly L (startStrengths u s) := by
  unfold startStrengths
  exact modUnit_orderly h

theorem softTurnOff_orderly {u desat} (h : Orderly L s) : Orderly L (softTurnOff u desat s) := by
  unfold softTurnOff
  exact modUnit_orderly h

theorem uvloSeen_orderly {u} (h : Orderly L s) : Orderly L (uvloSeen u s) := stand_orderly (raiseFull_orderly h)

theorem uvloFound_orderly {u} (h : Orderly L s) : Orderly L (uvloFound u s) := .ite (unstand_orderly h) (.ite h (uvloSeen_orderly h))

theorem evaluate_orderly {i} (h : Orderly L s) : Orderly L (evaluate i s) := by
  unfold evaluate
  exact uvloFound_orderly (uvloFound_orderly (unstand_orderly (modIsland_orderly h)))

theorem linkLost_orderly {i atIsland} (h : Orderly L s) : Orderly L (linkLost i atIsland s) := by
  unfold linkLost
  exact .ite (stand_orderly (raiseFull_orderly (modIsland_orderly h))) (modIsland_orderly h)

theorem adapt_orderly {u on t} (h : Orderly L s) : Orderly L (adapt u on t s) := by
  unfold adapt
  extract_lets -underBinder +onlyGivenNames tgt lim x cur d new moved n done report s₂
  have hs₂ : Orderly L s₂ := modUnit_orderly h
  exact .ite (raise_orderly hs₂) hs₂

theorem desaturate_orderly {u} (h : Orderly L s) : Orderly L (desaturate u s) := by
  unfold desaturate
  exact .ite (raiseFull_orderly (modUnit_orderly (softTurnOff_orderly h))) (modUnit_orderly (softTurnOff_orderly h))

theorem writeIslTest_orderly {i v} (h : Orderly L s) : Orderly L (writeIslTest i v s) :=
    .ite h (.forList (fun _ _ => modUnit_orderly) (modIsland_orderly h))

theorem tempStep_orderly {k d now limit reported} (h : Orderly L s) : Orderly L (tempStep k d now limit reported s).2 := by
  unfold tempStep
  exact .ite (stand_orderly (.ite h (raise_orderly h))) (unstand_orderly h)

theorem startIsland_orderly {i} (h : Orderly L s) : Orderly L (startIsland i s) := by
  unfold startIsland
  exact startStrengths_orderly (startStrengths_orderly (modIsland_orderly h))

theorem writeIslCtrl_orderly {i v} (h : Orderly L s) : Orderly L (writeIslCtrl i v s) := .ite h (modIsland_orderly h)

theorem writeIslStatus_orderly {i v} (h : Orderly L s) : Orderly L (writeIslStatus i v s) := modIsland_orderly h

/-! ## Cache -/

theorem setResident_orderly {c b} (h : Orderly L s) : Orderly L (setResident c b s) := by
  unfold setResident
  exact throughCtx_orderly h

theorem evict_orderly {c} (h : Orderly L s) : Orderly L (evict c s) :=
    .ite (modLoop_orderly (setResident_orderly (writeBack_orderly h))) h

theorem makeRoom_orderly (h : Orderly L s) : Orderly L (makeRoom s) := by
  unfold makeRoom
  refine .ite h ?_
  split
  · exact evict_orderly h
  · split
    · exact modRt_orderly h
    · exact h

theorem loadEntry_orderly {c} (h : Orderly L s) : Orderly L (loadEntry c s) := by
  unfold loadEntry
  exact setResident_orderly (modLoop_orderly (readMem_orderly h))

theorem loadRoom_orderly {c} (h : Orderly L s) : Orderly L (loadRoom c s) := by
  unfold loadRoom
  exact .ite (loadEntry_orderly (makeRoom_orderly h)) (makeRoom_orderly h)

theorem readEntry_orderly {c} (h : Orderly L s) : Orderly L (readEntry c s) := by
  unfold readEntry
  split
  · exact h
  · extract_lets -underBinder +onlyGivenNames p ok s₂
    have hp : Orderly L p.2 := fresh_orderly h
    have hs₂ : Orderly L s₂ := captureError_orderly hp
    exact .ite (raise_orderly (modLoop_orderly hs₂)) (raise_orderly (modRt_orderly (modLoop_orderly (setResident_orderly hs₂))))

theorem issuePrefetch_orderly {c} (h : Orderly L s) : Orderly L (issuePrefetch c s) := by
  unfold issuePrefetch
  exact .ite (modRt_orderly (.ite (modArb_orderly h) h)) h

/-! ## Signal -/

theorem setRamp_orderly {c k r} (h : Orderly L s) : Orderly L (setRamp c k r s) := setSw_orderly (setSw_orderly (setSw_orderly h))

/-! ## Vsm -/

theorem setpoint_orderly {c ins k kT slot word e} (h : Orderly L s) : Orderly L (setpoint c ins k kT slot word e s).2 := by
  unfold setpoint
  extract_lets -underBinder +onlyGivenNames goal target r rt r₂ q s₂
  have hs₂ : Orderly L s₂ := modRt_orderly h
  exact setRamp_orderly hs₂

theorem putVsm_orderly {c v} (h : Orderly L s) : Orderly L (putVsm c v s) := by
  unfold putVsm
  exact modRt_orderly (setRamp_orderly (setRamp_orderly (setRamp_orderly (.forList (fun _ _ => setSw_orderly) h))))

theorem reportShed_orderly {c level} (h : Orderly L s) : Orderly L (reportShed c level s) := by
  unfold reportShed
  exact .ite h (raise_orderly (modRt_orderly h))

theorem transition_orderly {c m ins} (h : Orderly L s) : Orderly L (transition c m ins s) := by
  unfold transition
  exact setOutVal_orderly (reportShed_orderly (.ite (raiseFull_orderly (putVsm_orderly h)) (putVsm_orderly h)))

theorem vsmRun_orderly {c n ins} (h : Orderly L s) : Orderly L (vsmRun c n ins s).s := by
  unfold vsmRun
  extract_lets -underBinder +onlyGivenNames i req k sp s₂ v0 done v o v₂ r u permit factor level s₃ s₄ s₅ s₆ status s₇
  have hsp : Orderly L sp.2 := setpoint_orderly h
  have hs₂ : Orderly L s₂ := hsp
  have hs₃ : Orderly L s₃ := putVsm_orderly hs₂
  have hs₄ : Orderly L s₄ := modRt_orderly hs₃
  have hs₅ : Orderly L s₅ := .ite (raise_orderly hs₄) hs₄
  have hs₆ : Orderly L s₆ := reportShed_orderly hs₅
  have hs₇ : Orderly L s₇ := by
    unfold s₇
    split
    · exact transition_orderly hs₆
    · exact hs₆
  exact hs₇

/-! ## Forming -/

theorem droopRun_orderly {c ins} (h : Orderly L s) : Orderly L (droopRun c ins s).s := by
  unfold droopRun
  extract_lets -underBinder +onlyGivenNames a b s₂ qf dq term out d qn
  have ha : Orderly L a.2 := setpoint_orderly h
  have hb : Orderly L b.2 := setpoint_orderly ha
  have hs₂ : Orderly L s₂ := hb
  exact modRt_orderly (setSw_orderly hs₂)

theorem putAdapt_orderly {c r} (h : Orderly L s) : Orderly L (putAdapt c r s) := modRt_orderly h

theorem impedanceRun_orderly {c ins} (h : Orderly L s) : Orderly L (impedanceRun c ins s).s := by
  unfold impedanceRun
  extract_lets -underBinder +onlyGivenNames i th w rp rDrop rpDrop xDrop block last on tr cz dz a b a₂ b₂ z oa ob oz
  exact putAdapt_orderly (setSw_orderly h)

theorem overloadStep_orderly {c above} (h : Orderly L s) : Orderly L (overloadStep c above s) := by
  unfold overloadStep
  extract_lets -underBinder +onlyGivenNames t t₂ s₂
  have hs₂ : Orderly L s₂ := setSw_orderly (modRt_orderly h)
  exact .ite (setSw_orderly (modRt_orderly hs₂)) (.ite (setSw_orderly hs₂) hs₂)

theorem envelopeRun_orderly {c ins} (h : Orderly L s) : Orderly L (envelopeRun c ins s).s := by
  unfold envelopeRun
  extract_lets -underBinder +onlyGivenNames i imag mag stage1 r above s₂ folding lims ilim inlim p ref iN big s1 s2 k scale open_
    status o
  have hs₂ : Orderly L s₂ := overloadStep_orderly h
  exact modRt_orderly (setSw_orderly (setSw_orderly hs₂))

theorem synchroniserRun_orderly {c n ins} (h : Orderly L s) : Orderly L (synchroniserRun c n ins s).s := by
  unfold synchroniserRun
  extract_lets -underBinder +onlyGivenNames i dth lim ws met s₂ s₃
  have hs₂ : Orderly L s₂ := setSw_orderly h
  have hs₃ : Orderly L s₃ := modRt_orderly hs₂
  exact hs₃

theorem putSeqr_orderly {c fb q} (h : Orderly L s) : Orderly L (putSeqr c fb q s) := by
  unfold putSeqr
  extract_lets -underBinder +onlyGivenNames m s₂ s₃ s₄ s₅ s₆
  have hs₂ : Orderly L s₂ := .forList (fun _ _ => setSw_orderly) h
  have hs₃ : Orderly L s₃ := modRt_orderly hs₂
  have hs₄ : Orderly L s₄ := .ite (stand_orderly hs₃) (settleBusFb_orderly hs₃)
  have hs₅ : Orderly L s₅ := .ite (throughCtx_orderly hs₄) hs₄
  have hs₆ : Orderly L s₆ := .forList (fun _ _ => raise_orderly) hs₅
  exact .forList (fun _ _ => setOutVal_orderly) hs₆

theorem applyWrite_orderly {c off data} (h : Orderly L s) : Orderly L (applyWrite c off data s) := by
  unfold applyWrite
  extract_lets -underBinder +onlyGivenNames set before hits s₂ moved
  have hs₂ : Orderly L s₂ := throughCtx_orderly h
  exact modRt_orderly hs₂

theorem completeKept_orderly {c} (h : Orderly L s) : Orderly L (completeKept c s) := by
  unfold completeKept
  exact .forList (fun _ _ ht => finishOk_orderly (applyWrite_orderly ht)) (modRt_orderly h)

theorem sequencerRun_orderly {c n ins} (h : Orderly L s) : Orderly L (sequencerRun c n ins s).s := by
  unfold sequencerRun
  extract_lets y x u q
  have hu : Orderly L u := .ite (completeKept_orderly h) h
  clear_value q u
  exact putSeqr_orderly hu

theorem tableRun_orderly {c n ins} (h : Orderly L s) : Orderly L (tableRun c n ins s).s := by
  unfold tableRun
  extract_lets -underBinder +onlyGivenNames x pts y y₂ d last y₃
  exact setSw_orderly h

theorem setWords_orderly {c f k} (h : Orderly L s) : Orderly L (setWords c f k s) := .foldl (fun _ _ => setSw_orderly) h

theorem freeSetpoints_orderly {c t k ins} (h : Orderly L s) : Orderly L (freeSetpoints c t k ins s) :=
    .foldl (fun _ _ => setpoint_orderly) h

theorem freeRun_orderly {c n ins keep} (h : Orderly L s) : Orderly L (freeRun c n ins keep s).s := by
  unfold freeRun
  exact freeSetpoints_orderly (.ite h (setWords_orderly h))

theorem separatorRun_orderly {c n ins} (h : Orderly L s) : Orderly L (separatorRun c n ins s).s := by
  unfold separatorRun
  extract_lets -underBinder +onlyGivenNames r k o z a b
  have hr : Orderly L r.s := freeRun_orderly h
  exact hr

theorem meterRun_orderly {c n ins} (h : Orderly L s) : Orderly L (meterRun c n ins s).s := by
  unfold meterRun
  extract_lets -underBinder +onlyGivenNames vs x v i pw sq add count t m ends u u₂ sat
  have hu : Orderly L u := setSw_orderly (setWords_orderly h)
  have hu₂ : Orderly L u₂ := setSw_orderly hu
  clear_value u₂
  exact .iteRun hu₂ hu₂

theorem voltageRun_orderly {c n ins} (h : Orderly L s) : Orderly L (voltageRun c n ins s).s := by
  unfold voltageRun
  extract_lets -underBinder +onlyGivenNames i step th u inj a b ins₂ r block
  have hr : Orderly L r.s := freeRun_orderly h
  exact modRt_orderly (setSw_orderly hr)

theorem harmonicRun_orderly {c n ins} (h : Orderly L s) : Orderly L (harmonicRun c n ins s).s := by
  unfold harmonicRun
  extract_lets r block
  have hr : Orderly L r.s := freeRun_orderly h
  exact modRt_orderly hr

theorem legRun_orderly {c n ins} (h : Orderly L s) : Orderly L (legRun c n ins s).s := by
  unfold legRun
  extract_lets -underBinder +onlyGivenNames duties
  refine .iteRun h ?_
  extract_lets -underBinder +onlyGivenNames r
  have hr : Orderly L r.s := freeRun_orderly h
  split
  · exact hr
  · exact modRt_orderly hr

theorem beginPoint_orderly {c i n} (h : Orderly L s) : Orderly L (beginPoint c i n s) := by
  unfold beginPoint
  exact setSw_orderly (modRt_orderly h)

theorem watchRun_orderly {c n ins} (h : Orderly L s) : Orderly L (watchRun c n ins s).s := by
  unfold watchRun
  exact .iteRun (modRt_orderly h) (.iteRun (.foldl (fun _ _ => setSw_orderly) h) h)

/-! ## Microcode -/

theorem writeUcode_orderly {v} (h : Orderly L s) : Orderly L (writeUcode v s) :=
    .ite (.ite h (rwsWritten_orderly h)) (modLoop_orderly h)

theorem writeUcodeCtrl_orderly {v} (h : Orderly L s) : Orderly L (writeUcodeCtrl v s) :=
    .ite h (.ite (rwsWritten_orderly h) (modLoop_orderly h))

theorem verifyDone_orderly (h : Orderly L s) : Orderly L (verifyDone s) := by
  unfold verifyDone
  exact .ite (write_orderly (modLoop_orderly h)) (raise_orderly (write_orderly (modLoop_orderly h)))

theorem ucodeRun_orderly {c ins} (h : Orderly L s) : Orderly L (ucodeRun c ins s).s := by
  unfold ucodeRun
  extract_lets -underBinder +onlyGivenNames m e u t t₂
  have ht : Orderly L t := .forList (fun _ _ => setSw_orderly) h
  have ht₂ : Orderly L t₂ := .forList (fun _ _ => raise_orderly) ht
  exact ht₂

theorem templateRun_orderly {c n ins} (h : Orderly L s) : Orderly L (templateRun c n ins s).s := by
  unfold templateRun
  split
  · exact vsmRun_orderly h
  · exact droopRun_orderly h
  · exact voltageRun_orderly h
  · exact legRun_orderly h
  · exact impedanceRun_orderly h
  · exact envelopeRun_orderly h
  · exact separatorRun_orderly h
  · exact harmonicRun_orderly h
  · exact synchroniserRun_orderly h
  · exact sequencerRun_orderly h
  · exact meterRun_orderly h
  · exact tableRun_orderly h
  · exact watchRun_orderly h
  · exact ucodeRun_orderly h
  · exact freeRun_orderly h
  · exact freeRun_orderly h
  · exact freeRun_orderly h
  · exact freeRun_orderly h
  · exact freeRun_orderly h
  · exact freeRun_orderly h
  · exact h

/-! ## LoopCheck -/

theorem showTbLimit_orderly (h : Orderly L s) : Orderly L (showTbLimit s) := modLoop_orderly h

theorem storeCost_orderly {c} (h : Orderly L s) : Orderly L (storeCost c s) := throughCtx_orderly h

/-! ## Probe -/

theorem setPb_orderly {c off l} (h : Orderly L s) : Orderly L (setPb c off l s) := throughCtx_orderly h

theorem endProbe_orderly {c status} (h : Orderly L s) : Orderly L (endProbe c status s) := by
  unfold endProbe
  split
  · exact h
  · exact raise_orderly (modProbe_orderly (setPb_orderly h))

theorem advanceProbe_orderly {c} (h : Orderly L s) : Orderly L (advanceProbe c s) := by
  unfold advanceProbe
  split
  · exact h
  · extract_lets -underBinder +onlyGivenNames p delay j on inj
    exact modProbe_orderly h

theorem recordProbe_orderly {c resp skipped sat} (h : Orderly L s) : Orderly L (recordProbe c resp skipped sat s) := by
  unfold recordProbe
  split
  · exact h
  · extract_lets -underBinder +onlyGivenNames p k cnt due room s₂
    have hs₂ : Orderly L s₂ := .ite (setPb_orderly (write_orderly h)) h
    exact .ite (endProbe_orderly hs₂) (.ite (endProbe_orderly hs₂) hs₂)

/-! ## Run -/

theorem readInputs_orderly {c} (h : Orderly L s) : Orderly L (readInputs c s).2 := by
  refine .foldlSnd (fun p n hp => ?_) h
  split
  · exact hp
  · exact fresh_orderly hp

theorem setLost_orderly {c v} (h : Orderly L s) : Orderly L (setLost c v s) := .ite h (throughCtx_orderly h)

theorem setOpenLoop_orderly {r b} (h : Orderly L s) : Orderly L (setOpenLoop r b s) := modLoop_orderly h

theorem closeLoop_orderly {d} (h : Orderly L s) : Orderly L (closeLoop d s) :=
    .ite h (.ite (setWords_orderly (setCtxState_orderly h)) (.ite (modRt_orderly (setCtxState_orderly h)) (setCtxState_orderly h)))

theorem settleHeldFb_orderly {k} (h : Orderly L s) : Orderly L (settleHeldFb k s) := .ite h (.ite h (unstand_orderly h))

theorem settleLost_orderly {c} (h : Orderly L s) : Orderly L (settleLost c s) := by
  unfold settleLost
  extract_lets -underBinder +onlyGivenNames s₂
  have hs₂ : Orderly L s₂ := settleHeldFb_orderly h
  split
  · exact hs₂
  · extract_lets -underBinder +onlyGivenNames s₃
    have hs₃ : Orderly L s₃ := .ite hs₂ (unstand_orderly hs₂)
    exact .ite (raise_orderly (unstand_orderly (setOpenLoop_orderly (.forList (fun _ _ => closeLoop_orderly) hs₃)))) hs₃

theorem holdCtx_orderly {c} (h : Orderly L s) : Orderly L (holdCtx c s) := endProbe_orderly (setCtxState_orderly h)

theorem loseFeedback_orderly {c new} (h : Orderly L s) : Orderly L (loseFeedback c new s) := by
  unfold loseFeedback
  extract_lets -underBinder +onlyGivenNames cls src own
  split
  · extract_lets -underBinder +onlyGivenNames current opens other s₂
    have hs₂ : Orderly L s₂ := .ite (stand_orderly (raiseFull_orderly (setOpenLoop_orderly (.forList (fun _ _ ht => .ite
      (setCtxState_orderly ht) ht) h)))) h
    exact .ite (.ite (stand_orderly (raiseFull_orderly hs₂)) (modRt_orderly (holdCtx_orderly (stand_orderly (raiseFull_orderly hs₂)))))
      (.ite (stand_orderly (raiseFull_orderly (holdCtx_orderly hs₂))) hs₂)
  · exact .ite h (stand_orderly (raise_orderly (holdCtx_orderly h)))

theorem runDetectors_orderly {c vals} (h : Orderly L s) : Orderly L (runDetectors c vals s) := by
  unfold runDetectors
  extract_lets -underBinder +onlyGivenNames p s₂
  have hs₂ : Orderly L s₂ := modRt_orderly (setLost_orderly h)
  exact settleLost_orderly (.ite hs₂ (loseFeedback_orderly hs₂))

theorem countRun_orderly {c sat} (h : Orderly L s) : Orderly L (countRun c sat s) := by
  unfold countRun
  exact .ite (stepCtx16_orderly (throughCtx_orderly (stepCtx32_orderly h))) (throughCtx_orderly (stepCtx32_orderly h))

theorem runWith_orderly {c vals} (h : Orderly L s) : Orderly L (runWith c vals s) := by
  unfold runWith
  extract_lets -underBinder +onlyGivenNames n ins inj quiet r s₂ s₃
  have hr : Orderly L r.s := .iteRun h (templateRun_orderly h)
  have hs₂ : Orderly L s₂ := .forList (fun _ _ => setOutVal_orderly) hr
  have hs₃ : Orderly L s₃ := modRt_orderly (countRun_orderly hs₂)
  exact recordProbe_orderly hs₃

theorem skipRun_orderly {c} (h : Orderly L s) : Orderly L (skipRun c s) := by
  unfold skipRun
  extract_lets -underBinder +onlyGivenNames first s₂ s₃ s₄ p resp
  have hs₂ : Orderly L s₂ := modLoop_orderly (stepCtx16_orderly h)
  have hs₃ : Orderly L s₃ := .ite (raise_orderly hs₂) hs₂
  have hs₄ : Orderly L s₄ := modRt_orderly hs₃
  have hp : Orderly L p.2 := freshN_orderly hs₄
  exact recordProbe_orderly hp

theorem modLane_orderly {k f} (h : Orderly L s) : Orderly L (modLane k f s) := modLoop_orderly h

theorem startRun_orderly {k c} (h : Orderly L s) : Orderly L (startRun k c s) := by
  unfold startRun
  extract_lets -underBinder +onlyGivenNames s₂
  have hs₂ : Orderly L s₂ := readEntry_orderly h
  exact .ite (.ite (loadRoom_orderly (modRt_orderly (skipRun_orderly hs₂))) (modRt_orderly (skipRun_orderly hs₂))) (.ite (modRt_orderly
    (runDetectors_orderly (readInputs_orderly hs₂))) (modLane_orderly (modRt_orderly (runDetectors_orderly (readInputs_orderly hs₂)))))

theorem laneStep_orderly {l t} (h : Orderly L s) (ht : laneStep l s = some t) : Orderly L t := by
  unfold laneStep at ht
  extract_lets region first free timebase at ht
  clear_value region first free timebase
  split at ht
  · exact Option.some.inj ht ▸ startRun_orderly h
  · split at ht
    · exact Option.some.inj ht ▸ startRun_orderly (modLane_orderly h)
    · split at ht
      · exact Option.some.inj ht ▸ modLane_orderly h
      · obtain ⟨p, -, rfl⟩ := Option.map_eq_some_iff.1 ht
        exact startRun_orderly h

theorem dispatchN_orderly {n} (h : Orderly L s) : Orderly L (dispatchN n s) := by
  induction n generalizing s with
  | zero => exact h
  | succ n ih =>
    unfold dispatchN
    split
    · rename_i t ht
      exact ih (laneStep_orderly h ht)
    · exact h

theorem dispatch_orderly (h : Orderly L s) : Orderly L (dispatch s) := .ite (dispatchN_orderly h) h

theorem completeRun_orderly {c} (h : Orderly L s) : Orderly L (completeRun c s) := by
  unfold completeRun
  exact dispatch_orderly (modLoop_orderly (modRt_orderly (runWith_orderly h)))

/-! ## CtxCmd -/

theorem holdWrite_orderly {k c r off data} (h : Orderly L s) : Orderly L (holdWrite k c r off data s) := by
  unfold holdWrite
  exact applying_orderly (.ite (pairSend_orderly (modPair_orderly h)) (modPair_orderly h))

theorem applyHeld_orderly {h0} (h : Orderly L s) : Orderly L (applyHeld h0 s) := by
  unfold applyHeld
  extract_lets -underBinder +onlyGivenNames s₂
  have hs₂ : Orderly L s₂ := applyWrite_orderly (modPair_orderly h)
  split
  · exact finishOk_orderly hs₂
  · exact hs₂

theorem doCtxWrite_orderly {k} (h : Orderly L s) : Orderly L (doCtxWrite k s) := by
  unfold doCtxWrite
  extract_lets -underBinder +onlyGivenNames d c off data failed len
  split
  · exact finishFail_orderly h
  · refine .ite (finishFail_orderly h) ?_
    refine .ite (fetchData_orderly h) ?_
    refine .ite (finishFail_orderly h) ?_
    extract_lets -underBinder +onlyGivenNames t
    have ht : Orderly L t := applyWrite_orderly h
    split
    · exact finishFail_orderly h
    · refine .ite (finishFail_orderly h) ?_
      extract_lets -underBinder +onlyGivenNames start stage
      refine .ite (modWork_orderly (modRt_orderly h)) ?_
      refine .ite (finishFail_orderly h) ?_
      split
      · exact .ite (holdWrite_orderly h) (finishOk_orderly ht)
      · exact finishOk_orderly ht

theorem applyOrphan_orderly {k} (h : Orderly L s) : Orderly L (applyOrphan k s) := by
  unfold applyOrphan
  split
  · split
    · exact .ite h (applyHeld_orderly h)
    · exact applyHeld_orderly h
  · exact h

theorem doCtxRead_orderly {k} (h : Orderly L s) : Orderly L (doCtxRead k s) := by
  unfold doCtxRead
  extract_lets -underBinder +onlyGivenNames d
  split
  · exact finishFail_orderly h
  · exact finishOk_orderly (hostWrite_orderly h)

theorem clearWords_orderly {c} (h : Orderly L s) : Orderly L (clearWords c s) := by
  unfold clearWords
  extract_lets -underBinder +onlyGivenNames t k s₂ s₃
  have hs₂ : Orderly L s₂ := write_orderly h
  have hs₃ : Orderly L s₃ := .forList (fun _ _ => setSw_orderly) hs₂
  exact .ite (setSw_orderly hs₃) (.ite (setSw_orderly hs₃) hs₃)

theorem doCtxEnable_orderly {k} (h : Orderly L s) : Orderly L (doCtxEnable k s) := by
  unfold doCtxEnable
  extract_lets -underBinder +onlyGivenNames c
  exact .ite (finishFail_orderly h) (.ite (finishFail_orderly h) (.ite h (finishOk_orderly (showTbLimit_orderly (saveRt_orderly (.ite
    (loadEntry_orderly (modRt_orderly (setLost_orderly (clearWords_orderly (.ite (makeRoom_orderly (storeCost_orderly
    (setCtxState_orderly h))) (storeCost_orderly (setCtxState_orderly h))))))) (modRt_orderly (setLost_orderly (clearWords_orderly (.ite
    (makeRoom_orderly (storeCost_orderly (setCtxState_orderly h))) (storeCost_orderly (setCtxState_orderly h))))))))))))

theorem disableCtx_orderly {c} (h : Orderly L s) : Orderly L (disableCtx c s) := by
  unfold disableCtx
  extract_lets -underBinder +onlyGivenNames s₂ kept r s₃ s₄
  have hs₂ : Orderly L s₂ := showTbLimit_orderly (setCtxState_orderly (evict_orderly (endProbe_orderly h)))
  have hs₃ : Orderly L s₃ := .forList (fun _ _ => finishFail_orderly) (saveRt_orderly (modRt_orderly hs₂))
  have hs₄ : Orderly L s₄ := settleBusFb_orderly (settleHeldFb_orderly hs₃)
  clear_value r
  split
  · exact hs₄
  · extract_lets -underBinder +onlyGivenNames s₅
    have hs₅ : Orderly L s₅ := .ite hs₄ (unstand_orderly hs₄)
    split
    · exact settleLost_orderly hs₅
    · exact setOpenLoop_orderly (unstand_orderly hs₅)

theorem doCtxDisable_orderly {k} (h : Orderly L s) : Orderly L (doCtxDisable k s) := by
  unfold doCtxDisable
  exact .ite (finishFail_orderly h) (finishOk_orderly (disableCtx_orderly h))

theorem doProbeStart_orderly {k} (h : Orderly L s) : Orderly L (doProbeStart k s) := by
  unfold doProbeStart
  extract_lets -underBinder +onlyGivenNames d c
  refine .ite (finishFail_orderly h) ?_
  split
  · exact finishFail_orderly h
  · split
    · exact finishFail_orderly h
    · extract_lets -underBinder +onlyGivenNames b lim clamp b₂ gen s₂ s₃
      have hs₂ : Orderly L s₂ := setPb_orderly h
      have hs₃ : Orderly L s₃ := modProbe_orderly hs₂
      exact finish_orderly hs₃

theorem doProbeStop_orderly {k} (h : Orderly L s) : Orderly L (doProbeStop k s) := by
  unfold doProbeStop
  split
  · exact finishFail_orderly h
  · exact .ite (finishFail_orderly h) (finishOk_orderly (endProbe_orderly (modEntry_orderly h)))

theorem doCtxCommand_orderly {k} (h : Orderly L s) : Orderly L (doCtxCommand k s) := by
  unfold doCtxCommand
  split
  · exact doCtxWrite_orderly h
  · exact doCtxRead_orderly h
  · exact doCtxEnable_orderly h
  · exact doCtxDisable_orderly h
  · exact doProbeStart_orderly h
  · exact doProbeStop_orderly h
  · exact h

/-! ## Release -/

theorem applyAtRelease_orderly {l} (h : Orderly L s) : Orderly L (applyAtRelease l s) :=
    .forList (fun _ _ ht => .ite (doCtxCommand_orderly ht) ht) h

theorem applyCounted_orderly {l n} (h : Orderly L s) : Orderly L (applyCounted l n s) :=
    .forList (fun _ _ ht => .ite (applyHeld_orderly ht) ht) h

theorem clearUndetected_orderly {c} (h : Orderly L s) : Orderly L (clearUndetected c s) := by
  unfold clearUndetected
  exact .ite h (settleLost_orderly (setLost_orderly h))

theorem resumeHeld_orderly {c} (h : Orderly L s) : Orderly L (resumeHeld c s) := by
  unfold resumeHeld
  exact .ite (modRt_orderly (setCtxState_orderly h)) h

theorem releaseCtx_orderly {n c} (h : Orderly L s) : Orderly L (releaseCtx n c s) := by
  unfold releaseCtx
  extract_lets -underBinder +onlyGivenNames s₂ prev now s₃ s₄ s₅
  have hs₂ : Orderly L s₂ := throughCtx_orderly h
  have hs₃ : Orderly L s₃ := modRt_orderly hs₂
  have hs₄ : Orderly L s₄ := resumeHeld_orderly (clearUndetected_orderly hs₃)
  have hs₅ : Orderly L s₅ := advanceProbe_orderly hs₄
  exact .ite (runDetectors_orderly (readInputs_orderly hs₅)) (.ite (modRt_orderly hs₅) (.ite (loadRoom_orderly (skipRun_orderly hs₅))
    (skipRun_orderly hs₅)))

theorem releaseRegion_orderly {r n sets} (h : Orderly L s) : Orderly L (releaseRegion r n sets s) := by
  unfold releaseRegion
  extract_lets -underBinder +onlyGivenNames s₂ s₃ l s₄ s₅
  have hs₂ : Orderly L s₂ := modLoop_orderly h
  have hs₃ : Orderly L s₃ := .forList (fun _ _ => modRt_orderly) hs₂
  have hs₄ : Orderly L s₄ := applyCounted_orderly (applyAtRelease_orderly hs₃)
  have hs₅ : Orderly L s₅ := .forList (fun _ _ => releaseCtx_orderly) hs₄
  exact dispatch_orderly (modLoop_orderly hs₅)

theorem keepSets_orderly {r n sets} (h : Orderly L s) : Orderly L (keepSets r n sets s) := by
  unfold keepSets
  exact .ite (applyCounted_orderly h) (modPairRegion_orderly h)

theorem catchUpRelease_orderly {r} (h : Orderly L s) : Orderly L (catchUpRelease r s) := by
  unfold catchUpRelease
  split
  · exact modPairRegion_orderly h
  · extract_lets -underBinder +onlyGivenNames s₂
    have hs₂ : Orderly L s₂ := releaseRegion_orderly (modPairRegion_orderly h)
    exact .ite hs₂ (modLoop_orderly hs₂)

theorem dropRelease_orderly {c} (h : Orderly L s) : Orderly L (dropRelease c s) := by
  unfold dropRelease
  exact modRt_orderly (.ite (raise_orderly (modLoop_orderly (stepCtx16_orderly h))) (modLoop_orderly (stepCtx16_orderly h)))

theorem beginSlot_orderly (h : Orderly L s) : Orderly L (beginSlot s) := by
  unfold beginSlot
  extract_lets -underBinder +onlyGivenNames n s₂ l s₃
  have hs₂ : Orderly L s₂ := modLoop_orderly h
  have hs₃ : Orderly L s₃ := applyAtRelease_orderly hs₂
  exact dispatch_orderly (.forList (fun _ _ ht => .ite (dropRelease_orderly ht) (releaseCtx_orderly ht)) hs₃)

theorem loopSet_orderly {x} (h : Orderly L s) : Orderly L (loopSet x s) := by
  unfold loopSet
  exact .ite (modLoop_orderly (modLoop_orderly h)) (modLoop_orderly h)

theorem loopChain_orderly {f} (h : Orderly L s) : Orderly L (loopChain f s) := by
  unfold loopChain
  refine .ite ?_ h
  split
  · exact modLoop_orderly h
  · exact h

/-! ## Pair -/

theorem popPair_orderly (h : Orderly L s) : Orderly L (popPair s) := modPair_orderly h

theorem confluence_orderly {r seq body partner} (h : Orderly L s) : Orderly L (confluence r seq body partner s) := by
  unfold confluence
  exact .ite (resumeFrames_orderly (receiveCopy_orderly h)) (receiveCopy_orderly h)

theorem dutyFrameReceive_orderly {f} (h : Orderly L s) : Orderly L (dutyFrameReceive f s) := by
  unfold dutyFrameReceive
  extract_lets -underBinder +onlyGivenNames r
  exact .ite (.ite (.ite (raise_orderly (modPairRegion_orderly (pairSend_orderly h))) (modPairRegion_orderly (pairSend_orderly h)))
    (pairSend_orderly h)) (.ite (confluence_orderly h) (.ite (resumeFrames_orderly (commitFrame_orderly h)) h))

theorem dutyCopyReceive_orderly {r seq body} (h : Orderly L s) : Orderly L (dutyCopyReceive r seq body s) :=
    .ite h (.ite (staleCopy_orderly h) (confluence_orderly h))

theorem measureLatency_orderly {lat} (h : Orderly L s) : Orderly L (measureLatency lat s) := by
  unfold measureLatency
  exact .ite (modPair_orderly (raise_orderly (modPair_orderly h))) (modPair_orderly h)

theorem wantResync_orderly (h : Orderly L s) : Orderly L (wantResync s) :=
    .forAll (fun _ _ ht => .ite (modPairRegion_orderly ht) ht) h

theorem helloReceive_orderly {body} (h : Orderly L s) : Orderly L (helloReceive body s) := by
  unfold helloReceive
  extract_lets -underBinder +onlyGivenNames now sent back there s₂ s₃ bad
  have hs₂ : Orderly L s₂ := modPair_orderly h
  have hs₃ : Orderly L s₃ := .ite hs₂ (measureLatency_orderly hs₂)
  exact .ite (modPair_orderly (.ite (raise_orderly (.ite hs₃ (stand_orderly (raise_orderly hs₃)))) (.ite hs₃ (stand_orderly
    (raise_orderly hs₃))))) (.ite (modPair_orderly (unstand_orderly hs₃)) (wantResync_orderly (raise_orderly (modPair_orderly
    (unstand_orderly hs₃)))))

theorem abortResync_orderly {r} (h : Orderly L s) : Orderly L (abortResync r s) := by
  unfold abortResync
  split
  · exact h
  · exact finish_orderly (.forAll (fun _ _ => modPairRegion_orderly) h)

theorem dieFailed_orderly {r partner} (h : Orderly L s) : Orderly L (dieFailed r partner s) := by
  unfold dieFailed
  extract_lets -underBinder +onlyGivenNames p s₂
  have hs₂ : Orderly L s₂ := modPairRegion_orderly h
  exact .ite (.ite (abortResync_orderly (modPairRegion_orderly hs₂)) hs₂) (.ite hs₂ (raise_orderly (modPairRegion_orderly hs₂)))

theorem faultDeclared_orderly {r} (h : Orderly L s) : Orderly L (faultDeclared r s) := by
  unfold faultDeclared
  extract_lets -underBinder +onlyGivenNames s₂
  have hs₂ : Orderly L s₂ := .ite (dieFailed_orderly h) h
  split
  · exact modPairRegion_orderly hs₂
  · exact hs₂

theorem declareFault_orderly {cause} (h : Orderly L s) : Orderly L (declareFault cause s) :=
    .ite h (.forAll (fun _ _ ht => .ite (.ite (dieFailed_orderly (pairSend_orderly ht)) (pairSend_orderly ht)) (.ite
      (pairSend_orderly ht) ht)) h)

theorem parameterFrame_orderly {r n body} (h : Orderly L s) : Orderly L (parameterFrame r n body s) := by
  unfold parameterFrame
  split
  · exact h
  · exact .ite h (modPair_orderly h)

theorem sendCheckpoint_orderly {r} (h : Orderly L s) : Orderly L (sendCheckpoint r s) := by
  unfold sendCheckpoint
  extract_lets -underBinder +onlyGivenNames e owner n l blob head chunk t t₂
  have hchunk : ∀ a0 a1 t, Orderly L t → Orderly L (chunk a0 a1 t) := fun _ _ _ => pairSend_orderly
  have ht : Orderly L t := .forList (fun _ _ ht₃ => hchunk _ _ _ (hchunk _ _ _ ht₃)) (modPair_orderly h)
  have ht₂ : Orderly L t₂ := pairSend_orderly ht
  exact modPairRegion_orderly ht₂

theorem checkpointChunk_orderly {r n body} (h : Orderly L s) : Orderly L (checkpointChunk r n body s) := by
  unfold checkpointChunk
  split
  · exact h
  · exact modPairRegion_orderly h

theorem restoreEntry_orderly {m c data} (h : Orderly L s) : Orderly L (restoreEntry m c data s) := by
  unfold restoreEntry
  extract_lets -underBinder +onlyGivenNames w s₂ s₃ s₄
  have hs₂ : Orderly L s₂ := modLoop_orderly h
  have hs₃ : Orderly L s₃ := storeCtxWords_orderly (write_orderly hs₂)
  have hs₄ : Orderly L s₄ := modRt_orderly (setResident_orderly hs₃)
  exact .ite (loadRoom_orderly hs₄) hs₄

theorem restoreEntries_orderly {m l} (h : Orderly L s) : Orderly L (restoreEntries m l s) :=
    .forList (fun _ _ => restoreEntry_orderly) (modLoop_orderly h)

theorem checkpointCommit_orderly {r n body} (h : Orderly L s) : Orderly L (checkpointCommit r n body s) := by
  unfold checkpointCommit
  split
  · exact h
  · extract_lets +onlyGivenNames e u p blob part kept l t
    have hu : Orderly L u := modPairRegion_orderly h
    have ht : Orderly L t := restoreEntries_orderly hu
    refine .ite (discardEpoch_orderly hu) ?_
    refine modPairRegion_orderly (.forList (fun x t ht => ?_) (modPair_orderly ht))
    split
    · exact finishOk_orderly ht
    · exact ht

theorem doPairResync_orderly {k} (h : Orderly L s) : Orderly L (doPairResync k s) := by
  unfold doPairResync
  extract_lets -underBinder +onlyGivenNames l
  exact .ite (finishFail_orderly h) (.ite (finishOk_orderly h) (applying_orderly (.forList (fun _ _ => modPairRegion_orderly) h)))

/-! ## Events -/

theorem dropRecord_orderly (h : Orderly L s) : Orderly L (dropRecord s) := by
  unfold dropRecord
  exact .ite (raise_orderly (modRings_orderly h)) (modRings_orderly h)

theorem recordEvent_orderly {e seq} (h : Orderly L s) : Orderly L (recordEvent e seq s) :=
    .ite h (.ite (writeCq_orderly (modCq_orderly h)) (dropRecord_orderly h))

theorem collect_orderly {e} (h : Orderly L s) : Orderly L (collect e s) := by
  unfold collect
  extract_lets -underBinder +onlyGivenNames n was e₂ s₂ s₃ s₄
  have hs₂ : Orderly L s₂ := modEvents_orderly h
  have hs₃ : Orderly L s₃ := .ite hs₂ (applyEvent_orderly hs₂)
  have hs₄ : Orderly L s₄ := .ite (declareFault_orderly hs₃) hs₃
  exact recordEvent_orderly (.ite (trgWaiting_orderly (trgEvent_orderly hs₄)) hs₄)

theorem bufferEvents_orderly (h : Orderly L s) : Orderly L (bufferEvents s) := by
  unfold bufferEvents
  exact .forList (fun _ _ ht => modEvents_orderly (.ite ht (applyEvent_orderly ht))) (modEvents_orderly h)

theorem deliverEvents_orderly (h : Orderly L s) : Orderly L (deliverEvents s) := by
  unfold deliverEvents
  exact .ite (modEvents_orderly h) (raise_orderly (modEvents_orderly h))

theorem clearRegionTrips_orderly {r} (h : Orderly L s) : Orderly L (clearRegionTrips r s) := by
  unfold clearRegionTrips
  exact .forAll (fun _ _ ht => .ite (modUnit_orderly ht) ht) (modRegion_orderly h)

theorem clearWelds_orderly {k} (h : Orderly L s) : Orderly L (clearWelds k s) := .forAll (fun _ _ ht => .ite (modRt_orderly ht) ht) h

theorem clearSource_orderly {k} (h : Orderly L s) : Orderly L (clearSource k s) := by
  unfold clearSource
  extract_lets -underBinder +onlyGivenNames was s₂ s₃ s₄
  have hs₂ : Orderly L s₂ := modSrc_orderly h
  have hs₃ : Orderly L s₃ := .dite (fun _ => clearRegionTrips_orderly hs₂) (fun _ => hs₂)
  have hs₄ : Orderly L s₄ := .ite (clearWelds_orderly hs₃) hs₃
  exact reenter_orderly (.ite hs₄ (raise_orderly hs₄))

theorem doFaultClear_orderly {k} (h : Orderly L s) : Orderly L (doFaultClear k s) := by
  unfold doFaultClear
  extract_lets -underBinder +onlyGivenNames n
  exact .ite (finishOk_orderly (.forList (fun _ _ => clearSource_orderly) h)) (.dite (fun _ => .ite (finishFail_orderly h) (.ite
    (finishFail_orderly h) (finishOk_orderly (clearSource_orderly h)))) (fun _ => finishFail_orderly h))

theorem setForce_orderly {k on} (h : Orderly L s) : Orderly L (setForce k on s) :=
    .ite h (.ite (.ite h (raiseFull_orderly (modSrc_orderly h))) (unforce_orderly h))

theorem doEventForce_orderly {k} (h : Orderly L s) : Orderly L (doEventForce k s) := by
  unfold doEventForce
  extract_lets -underBinder +onlyGivenNames d n
  exact .dite (fun _ => .ite (finishFail_orderly h) (.ite (finishFail_orderly h) (finishOk_orderly (setForce_orderly h)))) (fun _ => .ite
    (finishFail_orderly h) (finishFail_orderly h))

theorem writeForce_orderly {w v} (h : Orderly L s) : Orderly L (writeForce w v s) := by
  unfold writeForce
  exact .ite (.ite (rwsWritten_orderly h) h) (.forList (fun _ _ => setForce_orderly) h)

/-! ## Arb -/

theorem writeArbOrder_orderly {v} (h : Orderly L s) : Orderly L (writeArbOrder v s) := modArb_orderly h

theorem writeArbCfg_orderly {v} (h : Orderly L s) : Orderly L (writeArbCfg v s) := modArb_orderly h

theorem refuseCommit_orderly (h : Orderly L s) : Orderly L (refuseCommit s) := raise_orderly (modArb_orderly h)

theorem writeArbCommit_orderly {v} (h : Orderly L s) : Orderly L (writeArbCommit v s) :=
    .ite h (.ite (modArb_orderly h) (refuseCommit_orderly h))

theorem grantWeir_orderly {n o cmd} (h : Orderly L s) : Orderly L (grantWeir n o cmd s) := by
  unfold grantWeir
  extract_lets -underBinder +onlyGivenNames s₂
  have hs₂ : Orderly L s₂ := modWeir_orderly h
  split
  · exact finishOk_orderly hs₂
  · exact hs₂

theorem passWeir_orderly {n suspect} (h : Orderly L s) : Orderly L (passWeir n suspect s) := by
  unfold passWeir
  split
  · exact modWeir_orderly h
  · exact grantWeir_orderly (modWeir_orderly h)

theorem doWeirAcquire_orderly {k} (h : Orderly L s) : Orderly L (doWeirAcquire k s) := by
  unfold doWeirAcquire
  extract_lets -underBinder +onlyGivenNames b
  exact .dite (fun _ => .ite (finishFail_orderly h) (.ite (grantWeir_orderly h) (modWeir_orderly (modWork_orderly h))))
    (fun _ => finishFail_orderly h)

theorem doWeirRelease_orderly {k} (h : Orderly L s) : Orderly L (doWeirRelease k s) := by
  unfold doWeirRelease
  extract_lets -underBinder +onlyGivenNames d b
  exact .dite (fun _ => .ite (passWeir_orderly (finishOk_orderly h)) (finishFail_orderly h)) (fun _ => finishFail_orderly h)

theorem releaseWeirs_orderly {o} (h : Orderly L s) : Orderly L (releaseWeirs o s) := by
  unfold releaseWeirs
  exact .ite h (raise_orderly (.forList (fun _ _ => passWeir_orderly) h))

theorem abortMoved_orderly {k} (h : Orderly L s) : Orderly L (abortMoved k s) := by
  unfold abortMoved
  split
  · exact h
  · exact finishFail_orderly (modHost_orderly h)

theorem dropCommandFrames_orderly {k} (h : Orderly L s) : Orderly L (dropCommandFrames k s) :=
    .ite h (.forList (fun _ _ => payTag_orderly) (modNet_orderly h))

theorem resetNetEngine_orderly (h : Orderly L s) : Orderly L (resetNetEngine s) := by
  unfold resetNetEngine
  extract_lets -underBinder +onlyGivenNames s₂ k
  have hs₂ : Orderly L s₂ := by
    unfold s₂
    split
    · exact h
    · exact modPort_orderly (modNet_orderly h)
  exact releaseWeirs_orderly (abortMoved_orderly (dropCommandFrames_orderly hs₂))

theorem rewriteCopy_orderly (h : Orderly L s) : Orderly L (rewriteCopy s) := by
  unfold rewriteCopy
  split
  · exact write_orderly h
  · exact h

theorem abandonPrefetch_orderly (h : Orderly L s) : Orderly L (abandonPrefetch s) := by
  unfold abandonPrefetch
  extract_lets -underBinder +onlyGivenNames l due
  split
  · exact h
  · exact modArb_orderly (modRt_orderly h)

theorem resetRequester_orderly {i} (h : Orderly L s) : Orderly L (resetRequester i s) := by
  unfold resetRequester
  split
  · exact rewriteCopy_orderly h
  · exact abandonPrefetch_orderly h
  · exact resetNetEngine_orderly h
  · exact abortMoved_orderly h
  · exact h

/-! ## Image -/

theorem writeImageCtrl_orderly {v} (h : Orderly L s) : Orderly L (writeImageCtrl v s) :=
    .ite h (.ite (rwsWritten_orderly h) (.ite h (modLoop_orderly h)))

theorem imageDone_orderly {image} (h : Orderly L s) : Orderly L (imageDone image s) := by
  unfold imageDone
  extract_lets -underBinder +onlyGivenNames s₂
  have hs₂ : Orderly L s₂ := modLoop_orderly h
  split
  · exact hostError_orderly (modLoop_orderly (fresh_orderly hs₂))
  · exact .ite (modLoop_orderly (write_orderly (modLoop_orderly hs₂))) (modLoop_orderly hs₂)

/-! ## Capture -/

theorem doCaptureArm_orderly {k} (h : Orderly L s) : Orderly L (doCaptureArm k s) := by
  unfold doCaptureArm
  split
  · exact finishFail_orderly h
  · extract_lets -underBinder +onlyGivenNames d old at0 x
    split
    · exact finishFail_orderly h
    · exact finishOk_orderly (modSess_orderly (modEntry_orderly h))

theorem takePosition_orderly {k v} (h : Orderly L s) : Orderly L (takePosition k v s) := by
  unfold takePosition
  exact .ite h (.ite (modSess_orderly h) (modSess_orderly (captureStore_orderly h)))

theorem takeGap_orderly {k id} (h : Orderly L s) : Orderly L (takeGap k id s) := takePosition_orderly (modSess_orderly h)

theorem takeSample_orderly {k id v tick} (h : Orderly L s) : Orderly L (takeSample k id v tick s) := by
  unfold takeSample
  extract_lets -underBinder +onlyGivenNames x
  exact .ite h (.ite (modSess_orderly h) (takePosition_orderly (modSess_orderly (.forList (fun _ _ => takeGap_orderly) h))))

theorem captureSet_orderly {x} (h : Orderly L s) : Orderly L (captureSet x s) :=
    .forAll (fun _ _ ht => .ite (takeSample_orderly ht) ht) h

theorem joinChains_orderly {k id tick} (h : Orderly L s) : Orderly L (joinChains k id tick s) := by
  unfold joinChains
  exact .ite (takeSample_orderly (modSess_orderly h)) h

theorem captureChain_orderly {f} (h : Orderly L s) : Orderly L (captureChain f s) :=
    .forAll (fun _ _ ht => .ite (.foldl (fun _ _ ht₂ => joinChains_orderly (modSess_orderly ht₂)) ht) ht) h

theorem captureNotice_orderly {n} (h : Orderly L s) : Orderly L (captureNotice n s) :=
    .forAll (fun _ _ ht => .ite (modSess_orderly ht) ht) h

theorem judgeNotice_orderly {k n} (h : Orderly L s) : Orderly L (judgeNotice k n s) := by
  unfold judgeNotice
  extract_lets -underBinder +onlyGivenNames x
  split
  · exact modSess_orderly h
  · exact modSess_orderly h

theorem captureReport_orderly {k} (h : Orderly L s) : Orderly L (captureReport k s) := by
  unfold captureReport
  exact raise_orderly (captureStore_orderly h)

theorem endSession_orderly {k st stopped} (h : Orderly L s) : Orderly L (endSession k st stopped s) := by
  unfold endSession
  exact .forList (fun _ _ => finishOk_orderly) (captureReport_orderly (modSess_orderly h))

theorem abortSessions_orderly (h : Orderly L s) : Orderly L (abortSessions s) :=
    .forAll (fun _ _ ht => .ite (endSession_orderly ht) ht) h

theorem orphanSessions_orderly (h : Orderly L s) : Orderly L (orphanSessions s) := .forAll (fun _ _ => modSess_orderly) h

theorem reportOrphans_orderly (h : Orderly L s) : Orderly L (reportOrphans s) :=
    .forAll (fun _ _ ht => .ite (modSess_orderly (captureReport_orderly ht)) ht) h

theorem doCaptureStop_orderly {k} (h : Orderly L s) : Orderly L (doCaptureStop k s) := by
  unfold doCaptureStop
  split
  · exact finishFail_orderly h
  · exact .ite (applying_orderly (modSess_orderly h)) (finishOk_orderly (modSess_orderly h))

theorem readSpans_orderly {l} (h : Orderly L s) : Orderly L (readSpans l s).2 := by
  induction l generalizing s with
  | nil => exact h
  | cons p t ih => exact .iteSnd (ih h) (ih (readMem_orderly h))

theorem doCaptureCopy_orderly {k} (h : Orderly L s) : Orderly L (doCaptureCopy k s) := by
  unfold doCaptureCopy
  extract_lets -underBinder +onlyGivenNames d
  split
  · exact finishFail_orderly h
  · extract_lets -underBinder +onlyGivenNames x size
    refine .ite (finishFail_orderly h) ?_
    refine .ite (finishFail_orderly h) ?_
    refine .ite (finishFail_orderly h) ?_
    extract_lets -underBinder +onlyGivenNames q data s₂ s₃
    have hq : Orderly L q.2 := readSpans_orderly (flushCapture_orderly h)
    have hs₂ : Orderly L s₂ := hostWrite_orderly hq
    have hs₃ : Orderly L s₃ := .ite (modSess_orderly hs₂) hs₂
    split
    · exact finishOk_orderly hs₃
    · exact finish_orderly hs₃

/-! ## Rings -/

theorem doBarrier_orderly {k} (h : Orderly L s) : Orderly L (doBarrier k s) := .ite (finishOk_orderly h) h

theorem stopSq_orderly {q cause} (h : Orderly L s) : Orderly L (stopSq q cause s) :=
    .ite h (stand_orderly (raise_orderly (releaseWeirs_orderly (markStopped_orderly h))))

theorem failedLine_orderly {q} (h : Orderly L s) : Orderly L (failedLine q s) :=
    .ite h (.ite (stopSq_orderly (modSq_orderly h)) (modSq_orderly h))

theorem failedDesc_orderly {q} (h : Orderly L s) : Orderly L (failedDesc q s) :=
    .ite h (.ite (stopSq_orderly (modSq_orderly h)) (modSq_orderly h))

theorem restartSq_orderly {q} (h : Orderly L s) : Orderly L (restartSq q s) :=
    .ite (raise_orderly (releaseWeirs_orderly (hostRead_orderly (.ite (modRings_orderly (unstand_orderly (modSq_orderly h))) (unstand_orderly
      (modSq_orderly h)))))) h

theorem fetchNext_orderly {q} (h : Orderly L s) : Orderly L (fetchNext q s) := by
  unfold fetchNext
  exact .ite h (hostRead_orderly h)

theorem sqLineRead_orderly {q data} (h : Orderly L s) : Orderly L (sqLineRead q data s) := by
  unfold sqLineRead
  exact .ite (stopSq_orderly (modSq_orderly h)) (fetchNext_orderly (modSq_orderly h))

theorem cqLineRead_orderly {m data} (h : Orderly L s) : Orderly L (cqLineRead m data s) := by
  unfold cqLineRead
  exact .ite (modHost_orderly (modCq_orderly h)) (modCq_orderly h)

theorem readDone_orderly {u data} (h : Orderly L s) : Orderly L (readDone u data s) := by
  unfold readDone
  split
  · exact sqLineRead_orderly h
  · exact cqLineRead_orderly h
  · exact modSq_orderly h
  · exact modWork_orderly h

theorem readFailed_orderly {r status} (h : Orderly L s) : Orderly L (readFailed r status s) := by
  unfold readFailed
  extract_lets -underBinder +onlyGivenNames det s₂
  have hs₂ : Orderly L s₂ := raiseFull_orderly (captureError_orderly h)
  split
  · exact failedLine_orderly hs₂
  · exact fetchNext_orderly (failedDesc_orderly hs₂)
  · exact hs₂
  · exact modWork_orderly hs₂

theorem endpointResets_orderly (h : Orderly L s) : Orderly L (endpointResets s) :=
    raise_orderly (.forAll (fun _ _ ht => .ite (stopSq_orderly ht) ht) (modHost_orderly h))

theorem ageWords_orderly {asn} (h : Orderly L s) : Orderly L (ageWords asn s) := by
  unfold ageWords
  refine .ite h ?_
  extract_lets -underBinder +onlyGivenNames s₂ s₃ s₄
  have hs₂ : Orderly L s₂ := .foldl (fun _ _ => storeCtxWords_orderly) h
  have hs₃ : Orderly L s₃ := modRings_orderly hs₂
  have hs₄ : Orderly L s₄ := sessionsWeirs_orderly hs₃
  exact modPair_orderly hs₄

/-- A descriptor accepted into a free slot: its entry comes last, with the next ASN (R357 to R360). -/
theorem acceptInto_orderly {q k d} (h : Orderly L s) (hk : ∀ e ∈ s.rings.journal, e.slot ≠ k) :
    Orderly (L ++ [(k, s.rings.nextAsn)]) (acceptInto q k d s) := by
  unfold acceptInto
  extract_lets -underBinder +onlyGivenNames asn late timed t bad e s₂ s₃ s₄
  have hw : (s.write 0x02 (descAddr k) d).rings.roll = s.rings.roll := write_roll _ _ _ s
  have hnames (j : Slot) (hj : j ∈ s₂.rings.names) : j ∈ (s.write 0x02 (descAddr k) d).rings.names ∨ j = k :=
    names_grown (r := s₂.rings) (fun _ => mem_append_singleton_or) (fun _ => .inl) (fun _ => .inl) (fun _ => mem_append_singleton_or (g := id)) hj
  have hs₂ : Orderly (L ++ [(e.slot, e.asn)]) s₂ :=
    enter_orderly h hk nofun (congrArg (· ++ [e]) (journal_of_roll hw)) fun j hj => names_of_roll hw ▸ hnames j hj
  have hs₃ : Orderly (L ++ [(k, s.rings.nextAsn)]) s₃ := modSq_orderly hs₂
  have hs₄ : Orderly (L ++ [(k, s.rings.nextAsn)]) s₄ := ageWords_orderly (fetchNext_orderly (wroteJournal_orderly hs₃))
  clear_value bad
  split
  · exact .ite (raise_orderly (finishFail_orderly hs₄)) (finishFail_orderly hs₄)
  · exact hs₄

theorem ackOne_orderly {e} (h : Orderly L s) : Orderly L (ackOne e s) := by
  unfold ackOne
  exact hostWrite_orderly (modSq_orderly (modRings_unname h
    (hn := fun _ _ => names_of_subset (fun _ => id) (fun _ => id) (fun _ => id) fun _ hk => List.mem_of_mem_drop hk)))

/-- Acceptances that were never acknowledged go, and with them whatever names their slots (R360). -/
theorem rollBack_orderly (h : Orderly L s) : Orderly L (rollBack s) := by
  unfold rollBack
  split
  · exact h
  · extract_lets -underBinder +onlyGivenNames l first mine s₂ s₃
    have hs₂ : Orderly L s₂ := .forAll (fun _ _ => modSq_orderly) h
    have hs₃ : Orderly L s₃ := modHost_orderly hs₂
    have hnames {r : Rings} {j : Slot} (hw : r.work = s₃.rings.work.filter fun w => !l.contains w.slot)
        (hf : r.finished = s₃.rings.finished.filter fun k => !l.contains k) (hp : r.rePost = s₃.rings.rePost.filter fun p => !l.contains p.slot)
        (hu : r.unacked = []) (hj : j ∈ r.names) : j ∈ s₃.rings.names ∧ (!l.contains j) = true :=
      names_without hw hf hp (fun x hx => by simp [hu] at hx) hj
    exact hs₃.withdraw rfl (fun j hj => (hnames rfl rfl rfl rfl hj).1) fun e he _ => (hnames rfl rfl rfl rfl he).2

/-- An entry freed goes, and with it whatever names its slot (R362). -/
theorem freeEntry_orderly {k} (h : Orderly L s) : Orderly L (freeEntry k s) := by
  have hnames (j : Slot) (hj : j ∈ (freeEntry k s).rings.names) : j ∈ s.rings.names ∧ decide (j ≠ k) = true :=
    names_without (q := s.rings) rfl rfl rfl (fun x hx => List.mem_filter.1 hx) hj
  exact h.withdraw rfl (fun j hj => (hnames j hj).1) fun e he _ => (hnames _ he).2

theorem writeCq_roll (m : CqId) (i : Word32) (l : List Byte) (b : Bool) (s : State) : (writeCq m i l b s).rings.roll = s.rings.roll := rfl

/-- The state in which a completion has been written and its entry not yet marked (R362). -/
def writeCompletion (e : JEntry) (i : Word32) (s : State) : State :=
  writeCq e.cq i (s.completion e i) false (if e.ciValid then s else s.modCq e.cq fun c => { c with nextIdx := i + 1 })

theorem writeCompletion_roll (e : JEntry) (i : Word32) (s : State) : (writeCompletion e i s).rings.roll = s.rings.roll := by
  refine (writeCq_roll _ _ _ _ _).trans ?_
  split <;> rfl

/-- What an entry becomes as it is posted at an index. -/
def JEntry.posted (i : Word32) (x : JEntry) : JEntry := { x with state := .posted, unrecorded := x.state == .accepted, ciValid := true, cqIdx := i }

/-- The journal and what names its slots after an entry has been posted: the entry is marked, and only an acceptance names its slot. -/
theorem postEntry_roll (e : JEntry) (s : State) : ∃ i, (postEntry e s).rings.roll =
    (s.rings.journal.map fun x => if x.slot = e.slot then x.posted i else x, s.rings.work.filter fun w => w.slot ≠ e.slot,
      s.rings.finished.filter (· ≠ e.slot), s.rings.rePost.filter fun p => p.slot ≠ e.slot, s.rings.unacked) := by
  let i := if e.ciValid then e.cqIdx else s.rings.cq[e.cq].nextIdx
  let m := modEntry e.slot (JEntry.posted i) (dropWork e.slot (writeCompletion e i s))
  have hw := writeCompletion_roll e i s
  have hm : m.rings.roll = _ := modEntry_roll _ _ _
  simp only [Rings.roll, dropWork, State.modRings_rings, Prod.mk.injEq] at hw hm
  obtain ⟨hj, hwork, hf, hp, hu⟩ := hw
  obtain ⟨hj', hwork', hf', hp', hu'⟩ := hm
  refine ⟨i, ?_⟩
  show (m.rings.journal, m.rings.work, m.rings.finished.filter _, m.rings.rePost.filter _, m.rings.unacked) = _
  rw [hj', hwork', hf', hp', hu', hj, hwork, hf, hp, hu]

theorem postEntry_keys (e : JEntry) (s : State) : (postEntry e s).keys = s.keys := by
  obtain ⟨i, hr⟩ := postEntry_roll e s
  have hj : (postEntry e s).rings.journal = _ := congrArg Prod.fst hr
  rw [State.keys, hj, List.map_map, State.keys]
  refine List.map_congr_left fun x _ => ?_
  show (_, _) = _
  dsimp only [Function.comp_apply]
  split <;> rfl

/-- An entry whose acceptance has been acknowledged is posted, and nothing names its slot any more (R362). -/
theorem postEntry_orderly {e} (h : Orderly L s) (hu : e.slot ∉ s.rings.unacked) : Orderly L (postEntry e s) := by
  obtain ⟨i, hr⟩ := postEntry_roll e s
  simp only [Rings.roll, Prod.mk.injEq] at hr
  obtain ⟨hj, hw, hf, hp, hun⟩ := hr
  refine h.change (postEntry_keys e s ▸ .refl _) fun k hk hs => ?_
  obtain ⟨hk, hne⟩ := names_without (p := fun j => decide (j ≠ e.slot)) hw hf hp
    (fun j hm => ⟨hun ▸ hm, decide_eq_true fun h => hu (h ▸ hun ▸ hm)⟩) hk
  obtain ⟨x, hx, rfl, hp⟩ := hs hk
  exact ⟨x, hj ▸ List.mem_map.2 ⟨x, hx, if_neg (of_decide_eq_true hne)⟩, rfl, hp⟩

theorem losePosted_orderly (h : Orderly L s) : Orderly L (losePosted s) := by
  refine h.marked ⟨_, rfl, fun e => ?_⟩ fun _ => .inl
  by_cases hp : e.state = .posted
  · rw [if_pos hp]
    exact ⟨rfl, rfl, fun hn => (hn hp).elim⟩
  · rw [if_neg hp]
    exact ⟨rfl, rfl, id⟩

theorem sendMsix_orderly {v} (h : Orderly L s) : Orderly L (sendMsix v s) := hostWrite_orderly h

theorem signalVector_orderly {v} (h : Orderly L s) : Orderly L (signalVector v s) := .ite (modHost_orderly h) (sendMsix_orderly h)

theorem writeMsix_orderly {b w} (h : Orderly L s) : Orderly L (writeMsix b w s) := by
  unfold writeMsix
  exact .ite h (.ite (modHost_orderly h) (sendMsix_orderly (modHost_orderly (modHost_orderly h))))

/-! ## Replay -/

theorem applyCommand_orderly {k} (h : Orderly L s) : Orderly L (applyCommand k s) := by
  unfold applyCommand
  split
  · exact finishOk_orderly h
  · exact doRegionMode_orderly h
  · exact doRegionCommit_orderly h
  · exact doCaptureArm_orderly h
  · exact doCaptureStop_orderly h
  · exact runNetTx_orderly h
  · exact doTimeAdjust_orderly h
  · exact doPairSwap_orderly h
  · exact doFaultClear_orderly h
  · exact doEventForce_orderly h
  · exact doCtxCommand_orderly h

theorem startReplay_orderly {cause} (h : Orderly L s) : Orderly L (startReplay cause s) := modRings_orderly h

theorem readBackFailed_orderly {e} (h : Orderly L s) : Orderly L (readBackFailed e s) := by
  unfold readBackFailed
  extract_lets -underBinder +onlyGivenNames p s₂
  have hp : Orderly L p.2 := fresh_orderly h
  have hs₂ : Orderly L s₂ := raise_orderly (hostError_orderly hp)
  exact .forAll (fun _ _ ht => .ite (modSq_orderly (stopSq_orderly ht)) ht) hs₂

/-- An entry that the journal holds handed to posting. -/
theorem skipEntry_orderly {e lost kept} (h : Orderly L s) (he : Held s e.slot) : Orderly L (skipEntry e lost kept s) :=
  h.naming he (hn := fun _ _ => names_grown (fun _ => .inl) (fun _ => mem_append_singleton_or (g := id)) (fun _ => mem_append_singleton_or) fun _ => .inl)

theorem readMem_marked {a n r y} : Marked s (readMem a n r y s).2 := .of_journal (journal_of_roll (readMem_roll a n r y s))

theorem skipApplied_orderly {e} (h : Orderly L s) (he : Held s e.slot) : Orderly L (skipApplied e s) := by
  unfold skipApplied
  exact skipEntry_orderly (readMem_orderly h) (readMem_marked.held he)

theorem skipApplied_marked {e} : Marked s (skipApplied e s) := by
  unfold skipApplied
  exact readMem_marked.trans (.of_journal rfl)

/-- Work returned to the C-die for an entry that the journal holds. -/
theorem returnWork_orderly {e kind} (h : Orderly L s) (he : Held s e.slot) : Orderly L (returnWork e kind s) := by
  unfold returnWork
  exact h.naming he (hn := fun _ _ => names_grown (fun _ => mem_append_singleton_or) (fun _ => .inl) (fun _ => .inl) fun _ => .inl)

theorem returnEntry_orderly {e} (h : Orderly L s) (he : Held s e.slot) : Orderly L (returnEntry e s) :=
  .ite (returnWork_orderly h he) (.ite (finishFail_orderly (readMem_orderly h)) (returnWork_orderly (readMem_orderly h) (readMem_marked.held he)))

theorem returnEntry_marked {e} : Marked s (returnEntry e s) :=
  .ite (.of_journal rfl) (.ite (readMem_marked.trans finish_marked) (readMem_marked.trans (.of_journal rfl)))

theorem grantWeir_marked {n o cmd} : Marked s (grantWeir n o cmd s) := by
  unfold grantWeir
  dsimp only
  split
  · exact Marked.trans (.of_journal rfl) finish_marked
  · exact .of_journal rfl

theorem passWeir_marked {n b} : Marked s (passWeir n b s) := by
  unfold passWeir
  split
  · exact .of_journal rfl
  · refine Marked.trans ?_ grantWeir_marked
    exact .of_journal rfl

theorem alerts_marked (h : Alerts s t) : Marked s t := by
  have hj : t.rings.journal = s.rings.journal := h.keeps fun s => s.rings.journal
  exact .of_journal hj

theorem releaseWeirs_marked {o} : Marked s (releaseWeirs o s) := by
  unfold releaseWeirs
  refine .ite .refl (Marked.trans (Marked.forList ?_ _ _) (alerts_marked raise_alerts))
  exact fun _ _ => passWeir_marked

theorem stopSq_marked {q cause} : Marked s (stopSq q cause s) := by
  have hstop : Marked s (markStopped q s) := .of_journal rfl
  unfold stopSq
  exact .ite .refl (((hstop.trans releaseWeirs_marked).trans (alerts_marked raise_alerts)).trans (alerts_marked stand_alerts))

theorem readBackFailed_marked {e} : Marked s (readBackFailed e s) := by
  unfold readBackFailed
  extract_lets p t
  have hp : Marked s p.2 := .of_journal rfl
  have herr {a r w st} : Marked p.2 (hostError a r w st p.2) := .of_journal (raise_alerts.keeps fun s => s.rings.journal)
  have ht : Marked s t := (hp.trans herr).trans (alerts_marked raise_alerts)
  refine ht.trans (.forAll ?_ _)
  exact fun _ _ => .ite (stopSq_marked.trans (.of_journal rfl)) .refl

section
variable {l : List ReadBack} {e : JEntry}

theorem replayEntry_orderly (h : Orderly L s) (he : Held s e.slot) : Orderly L (replayEntry l e s) := by
  unfold replayEntry
  extract_lets -underBinder +onlyGivenNames held written
  exact .ite h (.ite (readBackFailed_orderly h) (.ite (freeEntry_orderly h) (.ite (skipEntry_orderly h he) (.ite (skipApplied_orderly h he)
    (returnEntry_orderly h he)))))

/-- The handling of one entry leaves the others in the journal. -/
theorem replayEntry_held {j : Slot} (hj : j ≠ e.slot) (h : Held s j) : Held (replayEntry l e s) j := by
  have hfree : Held (freeEntry e.slot s) j := by
    obtain ⟨x, hx, rfl, hp⟩ := h
    exact ⟨x, List.mem_filter.2 ⟨hx, decide_eq_true hj⟩, rfl, hp⟩
  unfold replayEntry
  extract_lets -underBinder +onlyGivenNames held written
  exact held_ite h (held_ite (readBackFailed_marked.held h) (held_ite hfree (held_ite h (held_ite (skipApplied_marked.held h)
    (returnEntry_marked.held h)))))

/-- The replay handles its entries one after another; those still to be handled stand in the journal. -/
theorem replay_orderly {todo : List JEntry} (h : Orderly L s) (hd : todo.Pairwise fun x y => x.slot ≠ y.slot) (ht : ∀ e ∈ todo, Held s e.slot) :
    Orderly L (forList (replayEntry l) todo s) := by
  induction todo generalizing s with
  | nil => exact h
  | cons e todo ih =>
    obtain ⟨hne, hd⟩ := List.pairwise_cons.1 hd
    exact ih (replayEntry_orderly h (ht e List.mem_cons_self)) hd fun x hx =>
      replayEntry_held (hne x hx).symm (ht x (List.mem_cons_of_mem e hx))

end

/-! ## Millrace -/

theorem sendNext_orderly {d} (h : Orderly L s) : Orderly L (sendNext d s) := by
  unfold sendNext
  extract_lets -underBinder +onlyGivenNames s₂ m
  have hs₂ : Orderly L s₂ := modMr_orderly h
  exact .ite (modMr_orderly (.of_roll hs₂ rfl)) (.ite hs₂ (modMr_orderly hs₂))

theorem deliver_orderly {p} (h : Orderly L s) : Orderly L (deliver p s) := by
  unfold deliver
  split
  · exact .forList (fun _ _ ht => captureSet_orderly (loopSet_orderly ht)) h
  · exact captureChain_orderly (loopChain_orderly h)
  · exact captureNotice_orderly h
  · exact .of_roll h rfl

theorem badFrame_orderly {d f diff} (h : Orderly L s) : Orderly L (badFrame d f diff s) := by
  unfold badFrame
  exact modMr_orderly (raise_orderly (captureError_orderly h))

theorem frameArrives_orderly {d skip err} (h : Orderly L s) : Orderly L (frameArrives d skip err s) := by
  unfold frameArrives
  extract_lets -underBinder +onlyGivenNames m
  split
  · exact h
  · extract_lets -underBinder +onlyGivenNames s₂
    have hs₂ : Orderly L s₂ := modMr_orderly h
    exact .ite (badFrame_orderly hs₂) (.ite (deliver_orderly (modMr_orderly hs₂)) (.ite (modMr_orderly hs₂) hs₂))

theorem loseFrames_orderly {m} (h : Orderly L s) : Orderly L (loseFrames m s) := .forList (fun _ _ => losePayload_orderly) h

theorem millraceDown_orderly (h : Orderly L s) : Orderly L (millraceDown s) := by
  unfold millraceDown
  refine bufferEvents_orderly ?_
  refine losePosted_orderly ?_
  refine rollBack_orderly ?_
  extract_lets -underBinder +onlyGivenNames x
  have hx : Orderly L x := loseFrames_orderly h
  exact .of_roll hx rfl

theorem linkFails_orderly (h : Orderly L s) : Orderly L (linkFails s) :=
    .ite h (stand_orderly (raiseFull_orderly (millraceDown_orderly (.of_roll h rfl))))

theorem dropLock_orderly {d c} (h : Orderly L s) : Orderly L (dropLock d c s) := .ite (.of_roll h rfl) h

/-! ## SafetyFns -/

theorem discCleared_orderly {s0 p} (h : Orderly L s) : Orderly L (discCleared s0 p s) :=
    .ite (.ite (raise_orderly (unstand_orderly h)) (unstand_orderly h)) h

theorem latchDisc_orderly {c p} (h : Orderly L s) : Orderly L (latchDisc c p s) := stand_orderly (raise_orderly (modSafCh_orderly h))

theorem wireAbsent_orderly (h : Orderly L s) : Orderly L (wireAbsent s) := modSaf_orderly h

theorem judgePath1_orderly {ok} (h : Orderly L s) : Orderly L (judgePath1 ok s) :=
    .ite h (stand_orderly (raise_orderly (modSaf_orderly h)))

theorem judgePath2_orderly {off} (h : Orderly L s) : Orderly L (judgePath2 off s) :=
    .ite h (stand_orderly (raise_orderly (modSaf_orderly h)))

theorem noteCheck_orderly {c} (h : Orderly L s) : Orderly L (noteCheck c s) := modSafCh_orderly h

theorem judgeTest_orderly {c o fell} (h : Orderly L s) : Orderly L (judgeTest c o fell s) :=
    .ite (modSaf_orderly h) (stand_orderly (raise_orderly (modSo_orderly (modSafCh_orderly (modSaf_orderly h)))))

theorem copyParams_orderly (h : Orderly L s) : Orderly L (copyParams s) := by
  unfold copyParams
  exact .ite (modSafCh_orderly (modSafCh_orderly h)) (stand_orderly (raise_orderly (modSafCh_orderly (modSafCh_orderly h))))

theorem clearTestFaults_orderly (h : Orderly L s) : Orderly L (clearTestFaults s) := by
  unfold clearTestFaults
  extract_lets -underBinder +onlyGivenNames s₂
  have hs₂ : Orderly L s₂ := .forAll (fun _ _ ht => .ite (raise_orderly (modSo_orderly ht)) ht) h
  exact .ite hs₂ (unstand_orderly hs₂)

theorem channelPowerUp_orderly {c} (h : Orderly L s) : Orderly L (channelPowerUp c s) := by
  unfold channelPowerUp
  exact raise_orderly (clearTestFaults_orderly (discCleared_orderly (discCleared_orderly (modSafCh_orderly h))))

/-! ## Tick -/

theorem stepCounters_orderly (h : Orderly L s) : Orderly L (stepCounters s) := by
  by_cases hp : s.pReach = true
  · have hr : (stepCounters s).rings = s.rings.freePosted := if_pos hp
    refine h.withdraw (by rw [hr]; rfl) (fun k hk => by rw [hr] at hk; exact hk) fun e _ he => ?_
    simpa using he
  · have hr : (stepCounters s).rings = s.rings := if_neg hp
    exact h.of_roll (by rw [hr])

theorem tick_orderly (h : Orderly L s) : Orderly L (tick s) :=
    .ite (stepCounters_orderly h) (flushCapture_orderly (stepCounters_orderly h))

/-! ## Power -/

theorem applyAgain_orderly {k} (h : Orderly L s) : Orderly L (applyAgain k s) := modWork_orderly h

/-- An entry reported: it is freed, or marked. -/
theorem reportEntry_keys (e : JEntry) (s : State) : (reportEntry e s).keys.Sublist s.keys := by
  unfold reportEntry
  split
  · exact postEntry_keys e s ▸ .refl _
  · exact List.filter_sublist.map _

theorem ackAll_orderly (h : Orderly L s) : Orderly L (ackAll s) := .forList (fun _ _ => ackOne_orderly) h

theorem forList_keys {α : Type} {f : α → State → State} (hf : ∀ x t, (f x t).keys.Sublist t.keys) (l : List α) (s : State) :
    (forList f l s).keys.Sublist s.keys := by
  induction l generalizing s with
  | nil => exact .refl _
  | cons x l ih => exact (ih (f x s)).trans (hf x s)

/-- An entry of a sound journal put in its place, changed in no more than what it is known by: the keys stay. -/
theorem modEntry_keys_of_mem {x : JEntry} (h : JournalSound s) (ht : t.keys.Sublist s.keys) (hx : (x.slot, x.asn) ∈ s.keys) :
    (modEntry x.slot (fun _ => x) t).keys = t.keys := by
  rw [State.keys, modEntry_journal, List.map_map, State.keys]
  refine List.map_congr_left fun y hy => ?_
  dsimp only [Function.comp_apply]
  split
  case isTrue hs =>
    have hy : (y.slot, y.asn) ∈ s.keys := ht.subset (List.mem_map_of_mem hy)
    by_contra hne
    exact (List.Pairwise.forall_of_forall_of_flip (l := s.keys) (R := fun x y => x = y ∨ x.1 ≠ y.1) (fun _ _ => .inl rfl)
      ((journalSound_iff.1 h).1.imp .inr) ((journalSound_iff.1 h).1.imp fun hxy => .inr (Ne.symm hxy)) hx hy).elim hne fun hn => hn hs.symm
  case isFalse => rfl

/-- The commands that remain ended and reported: no key is added. -/
theorem reportOpen_keys {l : List JEntry} {f : JEntry → State → JEntry} (h : JournalSound s) (hf : ∀ e u, (f e u).slot = e.slot ∧ (f e u).asn = e.asn)
    (hl : ∀ e ∈ l, (e.slot, e.asn) ∈ s.keys) (ht : t.keys.Sublist s.keys) :
    (forList (fun e u => reportEntry (f e u) (modEntry (f e u).slot (fun _ => f e u) u)) l t).keys.Sublist s.keys := by
  induction l generalizing t with
  | nil => exact ht
  | cons e l ih =>
    refine ih (fun x hx => hl x (List.mem_cons_of_mem e hx)) ((reportEntry_keys _ _).trans ?_)
    rw [modEntry_keys_of_mem h ht (by rw [(hf e t).1, (hf e t).2]; exact hl e List.mem_cons_self)]
    exact ht

/-- The journal drained: what it keeps is known by the same keys, and nothing names a slot any more (R373, R374). -/
theorem drainJournal_orderly {st detail} (h : Orderly L s) : Orderly L (drainJournal st detail s).2 := by
  unfold drainJournal
  extract_lets -underBinder +onlyGivenNames s₂ done rest open_ s₃ s₄ s₅
  have hs₂ : Orderly L s₂ := ackAll_orderly h
  have hs₄ : s₄.keys.Sublist s₂.keys := forList_keys reportEntry_keys _ s₂
  have hopen : ∀ e ∈ open_, (e.slot, e.asn) ∈ s₂.keys := fun e he => List.mem_map_of_mem (List.mem_of_mem_filter he)
  clear_value s₄
  have hs₅ : s₅.keys.Sublist s₂.keys := reportOpen_keys (f := fun e u => { e with
    state := .applied, status := st, detail := detail, result := 0, doneAt := u.cTimeNs }) hs₂.sound (fun _ _ => ⟨rfl, rfl⟩) hopen hs₄
  clear_value s₅
  exact hs₂.emptied (t := purgeCommands s₅) hs₅ rfl

theorem dropWaiting_orderly (h : Orderly L s) : Orderly L (dropWaiting s) := .forAll (fun _ _ => modRegion_orderly) h

theorem settleTx_orderly (h : Orderly L s) : Orderly L (settleTx s) := by
  unfold settleTx
  extract_lets -underBinder +onlyGivenNames taken holds s₂ stays owed
  have hs₂ : Orderly L s₂ := .forList (fun _ _ => finish_orderly) h
  exact .forList (fun _ _ => payTag_orderly) (modNet_orderly hs₂)

theorem failResyncs_orderly (h : Orderly L s) : Orderly L (failResyncs s) :=
    .forAll (fun _ _ ht => .ite ht (abortResync_orderly ht)) h

theorem settleHeld_orderly (h : Orderly L s) : Orderly L (settleHeld s) :=
    dropWaiting_orderly (settleTx_orderly (failResyncs_orderly h))

theorem resetPairC_orderly (h : Orderly L s) : Orderly L (resetPairC s) := by
  unfold resetPairC
  exact .forAll (fun _ _ => modPairRegion_orderly) (modPair_orderly h)

theorem dropWaiters_orderly (h : Orderly L s) : Orderly L (dropWaiters s) := .of_roll h rfl

theorem answerAccesses_orderly (h : Orderly L s) : Orderly L (answerAccesses s) := modHost_orderly h

theorem collectOwn_orderly (h : Orderly L s) : Orderly L (collectOwn s) := by
  unfold collectOwn
  exact .forList (fun _ _ => collect_orderly) (modEvents_orderly h)

theorem resetRings_orderly (h : Orderly L s) : Orderly L (s.modRings resetRings) :=
  modRings_unname h (hn := fun _ _ => names_of_subset nofun nofun nofun fun _ => id)

theorem cDieDown_orderly (h : Orderly L s) : Orderly L (cDieDown s) := by
  unfold cDieDown
  refine .ite h ?_
  extract_lets -underBinder +onlyGivenNames s₂ s₃ s₄ s₅ s₆ s₇ s₈ s₉ s₁₀
  have hs₂ : Orderly L s₂ := .forAll (fun _ _ => releaseWeirs_orderly) (dropWaiters_orderly (settleHeld_orderly (flushCapture_orderly h)))
  have hs₃ : Orderly L s₃ := closeDebug_orderly (openShadow_orderly (collectOwn_orderly hs₂))
  have hs₄ : Orderly L s₄ := linkFails_orderly hs₃
  have hs₅ : Orderly L s₅ := modPower_orderly hs₄
  have hs₆ : Orderly L s₆ := wireAbsent_orderly (modSafCh_orderly hs₅)
  have hs₇ : Orderly L s₇ := resetPairC_orderly (clearForces_orderly (answerAccesses_orderly (orphanSessions_orderly
    (losePosted_orderly hs₆))))
  have hs₈ : Orderly L s₈ := .forAll (fun _ _ => unstand_orderly) hs₇
  have hs₉ : Orderly L s₉ := modArb_orderly (modLoop_orderly (resetRings_orderly hs₈))
  have hs₁₀ : Orderly L s₁₀ := modHost_orderly (modEvents_orderly hs₉)
  exact links_orderly hs₁₀

theorem reloadCode_orderly (h : Orderly L s) : Orderly L (reloadCode s) := by
  unfold reloadCode
  exact modLoop_orderly h

theorem resumeContexts_orderly (h : Orderly L s) : Orderly L (resumeContexts s) :=
    .forList (fun _ _ ht => .ite (loadRoom_orderly (.ite (setResident_orderly ht) ht)) (.ite (setResident_orderly ht) ht)) h

theorem loseMemory_orderly (h : Orderly L s) : Orderly L (loseMemory s) := by
  unfold loseMemory
  extract_lets u v w
  have hu : Orderly L u := .of_roll h rfl
  exact stand_orderly (raise_orderly (modPower_orderly (modLoop_orderly (modRings_orderly hu))))

theorem endDieSafe_orderly (h : Orderly L s) : Orderly L (endDieSafe s) := by
  unfold endDieSafe
  exact modPower_orderly (.forAll (fun _ _ ht => .ite (modSrc_orderly ht) ht) h)

theorem closeCDieWindow_orderly (h : Orderly L s) : Orderly L (closeCDieWindow s) := modEvents_orderly h

theorem resetNet_orderly (h : Orderly L s) : Orderly L (resetNet s) := by
  unfold resetNet
  extract_lets -underBinder +onlyGivenNames s₂ lent s₃
  have hs₂ : Orderly L s₂ := .forAll (fun _ _ => dropFrames_orderly) h
  have hs₃ : Orderly L s₃ := .forList (fun _ _ => applyAgain_orderly) hs₂
  exact releaseWeirs_orderly (.of_roll hs₃ rfl)

theorem resetPairP_orderly (h : Orderly L s) : Orderly L (resetPairP s) := by
  unfold resetPairP
  exact modPair_orderly (.forList (fun _ _ => applyAgain_orderly) h)

theorem dropConditions_orderly (h : Orderly L s) : Orderly L (dropConditions s) :=
    .forAll (fun _ _ ht => .ite (modSrc_orderly ht) ht) h

theorem resetBlocks_orderly (h : Orderly L s) : Orderly L (resetBlocks s) := .of_roll h rfl

theorem markOutage_orderly (h : Orderly L s) : Orderly L (markOutage s) := .ite (modTime_orderly h) h

theorem pDieDown_orderly (h : Orderly L s) : Orderly L (pDieDown s) := by
  unfold pDieDown
  refine .ite h ?_
  extract_lets -underBinder +onlyGivenNames s₂ s₃ s₄ s₅ s₆ s₇ s₈ x
  have hs₂ : Orderly L s₂ := closeDebug_orderly (markOutage_orderly (.ite (abortSessions_orderly h) h))
  have hs₃ : Orderly L s₃ := .forAll (fun _ _ ht => .ite ht (stopRegion_orderly ht)) hs₂
  have hs₄ : Orderly L s₄ := resetPairP_orderly (resetNet_orderly hs₃)
  have hs₅ : Orderly L s₅ := linkFails_orderly hs₄
  have hs₆ : Orderly L s₆ := modPower_orderly hs₅
  have hs₇ : Orderly L s₇ := modTime_orderly hs₆
  have hs₈ : Orderly L s₈ := dropConditions_orderly (resetBlocks_orderly (.ite hs₇ (enterDev_orderly hs₇)))
  have hx : Orderly L x := modSaf_orderly hs₈
  exact links_orderly hx

theorem startBanks_orderly (h : Orderly L s) : Orderly L (startBanks s) := by
  refine .forAll (fun b t ht => ?_) h
  exact modBank_orderly ht

theorem restartTrigs_orderly (h : Orderly L s) : Orderly L (restartTrigs s) := .forAll (fun _ _ => modTrig_orderly) h

theorem channel1PowerUp_orderly (h : Orderly L s) : Orderly L (channel1PowerUp s) := by
  unfold channel1PowerUp
  exact channelPowerUp_orderly (unstand_orderly (unstand_orderly (unstand_orderly (modSaf_orderly h))))

theorem netUp_orderly (h : Orderly L s) : Orderly L (netUp s) := .ite (timeRestart_orderly (modNet_orderly h)) h

theorem aoAlone_orderly {d} (h : Orderly L s) : Orderly L (aoAlone d s) := modPower_orderly h

theorem startPDie_orderly (h : Orderly L s) : Orderly L (startPDie s) := by
  unfold startPDie
  extract_lets -underBinder +onlyGivenNames s₂
  have hs₂ : Orderly L s₂ := .ite (channel1PowerUp_orderly h) h
  exact .ite (.ite (modTime_orderly (modNet_orderly (modPower_orderly hs₂))) (netUp_orderly (modPower_orderly hs₂))) hs₂

theorem startCDie_orderly (h : Orderly L s) : Orderly L (startCDie s) := by
  unfold startCDie
  exact .ite (modLoop_orderly (modPower_orderly (.ite (modSafCh_orderly h) h))) (.ite (modSafCh_orderly h) h)

theorem trainLink_orderly (h : Orderly L s) : Orderly L (trainLink s) :=
    .ite (deliverEvents_orderly (syncTime_orderly (.of_roll h rfl))) h

theorem finishWake_orderly (h : Orderly L s) : Orderly L (finishWake s) := .ite (raise_orderly (modPower_orderly h)) h

theorem startUp_orderly (h : Orderly L s) : Orderly L (startUp s) := by
  unfold startUp
  extract_lets -underBinder +onlyGivenNames n
  exact .ite (modPower_orderly h) (.ite (modPower_orderly h) (.ite (startPDie_orderly h) (.ite (modPower_orderly h) (.ite
    (startCDie_orderly h) (.ite (trainLink_orderly h) (.ite (finishWake_orderly h) h))))))

theorem idle_orderly (h : Orderly L s) : Orderly L (idle s) := by
  unfold idle
  exact settle_orderly (.ite (startUp_orderly (tick_orderly h)) (tick_orderly h))

theorem raiseNow_orderly {k d} (h : Orderly L s) : Orderly L (raiseNow k d s) := by
  unfold raiseNow
  exact applyEvent_orderly (pushEvent_orderly h)

theorem powerFailHandling_orderly (h : Orderly L s) : Orderly L (powerFailHandling s) := by
  unfold powerFailHandling
  exact raise_orderly (drainJournal_orderly (modRings_unname (enterDev_orderly h)
    (hn := fun _ _ => names_of_subset (fun _ => id) (fun _ => id) nofun fun _ => id)))

theorem signalFail_orderly (h : Orderly L s) : Orderly L (signalFail s) := modPower_orderly (stand_orderly (raiseNow_orderly h))

theorem leaveService_orderly (h : Orderly L s) : Orderly L (leaveService s) := by
  unfold leaveService
  exact enterDev_orderly (.of_roll h rfl)

theorem cmdResult_orderly {n} (h : Orderly L s) : Orderly L (cmdResult n s) := modPower_orderly h

/-! ## PowerRows -/

theorem noteStore_orderly {mj} (h : Orderly L s) : Orderly L (noteStore mj s) := modPower_orderly h

theorem inputBack_orderly {mv} (h : Orderly L s) : Orderly L (inputBack mv s) := by
  unfold inputBack
  exact .ite (raise_orderly (modPower_orderly h)) (modPower_orderly h)

theorem netOff_orderly (h : Orderly L s) : Orderly L (netOff s) := by
  unfold netOff
  exact modPair_orderly (resetNet_orderly (.forAll (fun _ _ ht => .ite (stand_orderly (raise_orderly ht)) ht) h))

/-! ## Setup -/

theorem sealNet_orderly (h : Orderly L s) : Orderly L (sealNet s) := .ite (modPower_orderly (netOff_orderly (markOutage_orderly h))) h

theorem sealRings_orderly (h : Orderly L s) : Orderly L (sealRings s) := modHost_orderly (modRings_orderly h)

theorem sealChains_orderly (h : Orderly L s) : Orderly L (sealChains s) := .of_roll h rfl

theorem writeSoReq_orderly {v} (h : Orderly L s) : Orderly L (writeSoReq v s) := modSaf_orderly h

theorem writeDbg_orderly {v} (h : Orderly L s) : Orderly L (writeDbg v s) := .ite (modPower_orderly h) h

theorem writeDbgCtrl_orderly {v} (h : Orderly L s) : Orderly L (writeDbgCtrl v s) := by
  unfold writeDbgCtrl
  refine .ite h ?_
  split
  · exact h
  · exact .of_roll h rfl
  · exact .of_roll h rfl
  · extract_lets -underBinder +onlyGivenNames p x
    have hp : Orderly L p.2 := fresh_orderly h
    have hx : Orderly L x := hp
    exact .of_roll hx rfl

theorem writeDbgAddr_orderly {v} (h : Orderly L s) : Orderly L (writeDbgAddr v s) := .ite (.of_roll h rfl) h

theorem writeDbgLine_orderly {w v} (h : Orderly L s) : Orderly L (writeDbgLine w v s) := .ite (.of_roll h rfl) h

theorem debugRead_orderly (h : Orderly L s) : Orderly L (debugRead s) := by
  unfold debugRead
  extract_lets -underBinder +onlyGivenNames s₂ l
  have hs₂ : Orderly L s₂ := readMem_orderly h
  exact .of_roll hs₂ rfl

theorem debugWrite_orderly (h : Orderly L s) : Orderly L (debugWrite s) := write_orderly h

/-! ## Access -/

theorem writeUcodeAddr_orderly {v} (h : Orderly L s) : Orderly L (writeUcodeAddr v s) :=
    .ite (.ite h (rwsWritten_orderly h)) (modLoop_orderly h)

theorem writeDomStatus_orderly {v} (h : Orderly L s) : Orderly L (writeDomStatus v s) := modPower_orderly h

theorem writeInjStatus_orderly {v} (h : Orderly L s) : Orderly L (writeInjStatus v s) := modEvents_orderly h

theorem writeFecInfo_orderly {d v} (h : Orderly L s) : Orderly L (writeFecInfo d v s) := .ite (clearError_orderly h) h

theorem writeArbStatus_orderly {v} (h : Orderly L s) : Orderly L (writeArbStatus v s) := modArb_orderly h

theorem writeRingCtrl_orderly {v} (h : Orderly L s) : Orderly L (writeRingCtrl v s) :=
    .forAll (fun _ _ ht => .ite (restartSq_orderly ht) ht) h

theorem readEffect_orderly {off} (h : Orderly L s) : Orderly L (readEffect off s) := by
  unfold readEffect
  split
  · exact readQdata_orderly h
  · exact .ite (readTxq_orderly h) (.ite (readTimeNow_orderly h) (.ite (readAoTime_orderly h) h))

/-! ## FormingRows -/

theorem modSeqr_orderly {c f} (h : Orderly L s) : Orderly L (modSeqr c f s) := putSeqr_orderly h

theorem declareDead_orderly {c n} (h : Orderly L s) : Orderly L (declareDead c n s) := by
  unfold declareDead
  exact modSeqr_orderly h

theorem decideStart_orderly {c n} (h : Orderly L s) : Orderly L (decideStart c n s) := by
  unfold decideStart
  exact modSeqr_orderly h

theorem endBlend_orderly {c} (h : Orderly L s) : Orderly L (endBlend c s) := by
  unfold endBlend
  extract_lets -underBinder +onlyGivenNames v src v₂ x s₂ s₃
  have hs₂ : Orderly L s₂ := putVsm_orderly h
  have hs₃ : Orderly L s₃ := .ite hs₂ (raise_orderly hs₂)
  exact .ite hs₃ (raise_orderly hs₃)

theorem adaptRPos_orderly {w c new} (h : Orderly L s) : Orderly L (adaptRPos w c new s) := by
  unfold adaptRPos
  exact .ite h (raise_orderly (putAdapt_orderly (throughCtx_orderly h)))

theorem adaptSweep_orderly {c rcd} (h : Orderly L s) : Orderly L (adaptSweep c rcd s) := by
  unfold adaptSweep
  exact .ite h (.ite (.ite (adaptRPos_orderly h) h) (.ite (.ite (adaptRPos_orderly h) h) h))

theorem endSweep_orderly {c} (h : Orderly L s) : Orderly L (endSweep c s) := by
  unfold endSweep
  extract_lets -underBinder +onlyGivenNames rcd s₂ s₃
  have hs₂ : Orderly L s₂ := setSw_orderly (setSw_orderly h)
  have hs₃ : Orderly L s₃ := setOutVal_orderly (modRt_orderly hs₂)
  exact .ite (modRt_orderly hs₃) (.ite (adaptSweep_orderly (modRt_orderly hs₃)) (modRt_orderly hs₃))

/-! ## Status -/

theorem devUpdate_orderly {o n due write} (hwrite : ∀ t, Orderly L t → Orderly L (write t)) (h : Orderly L s) : Orderly L
    (devUpdate o n due write s) :=
    by
  unfold devUpdate
  extract_lets -underBinder +onlyGivenNames w
  exact .ite (passWeir_orderly (hwrite _ h)) (.ite h (.ite (passWeir_orderly (hwrite _ (grantWeir_orderly h))) (modWeir_orderly h)))

theorem writeSafSet_orderly (h : Orderly L s) : Orderly L (writeSafSet s) := by
  unfold writeSafSet
  exact .of_roll h rfl

theorem writeNetSet_orderly (h : Orderly L s) : Orderly L (writeNetSet s) := by
  unfold writeNetSet
  exact .of_roll h rfl

/-! ## Filter -/

theorem execRearm_orderly {u v} (h : Orderly L s) : NextOrderly L (execRearm u v s) :=
    .next (hostWord_orderly (fun _ => writeTrgCmd_orderly) h)

theorem execTriggerHoldOffEnd_orderly {u} (h : Orderly L s) : NextOrderly L (execTriggerHoldOffEnd u s) := by
  unfold execTriggerHoldOffEnd
  exact .next (.ite (modTrig_orderly h) h)

theorem execChainFrameFlush_orderly {n} (h : Orderly L s) : NextOrderly L (execChainFrameFlush n s) := by
  unfold execChainFrameFlush
  exact .next (.ite (chainFlush_orderly h) h)

/-! ## Operands -/

theorem immediate_orderly {k opcode f} (hf : ∀ t, Orderly L t → Orderly L (f t)) (h : Orderly L s) : NextOrderly L
    (immediate k opcode f s) :=
    .next (.ite (settle_orderly (hf _ h)) h)

/-! ## Region -/

theorem execRegionMode_orderly {slot} (h : Orderly L s) : NextOrderly L (execRegionMode slot s) :=
    .next (.ite (settle_orderly (doRegionMode_orderly h)) h)

theorem execRegionCommit_orderly {slot} (h : Orderly L s) : NextOrderly L (execRegionCommit slot s) :=
    .next (.ite (settle_orderly (doRegionCommit_orderly h)) h)

theorem execRegionBoundary_orderly {r} (h : Orderly L s) : NextOrderly L (execRegionBoundary r s) := by
  unfold execRegionBoundary
  refine .next ?_
  split
  · exact .ite (settle_orderly (boundary_orderly h)) h
  · exact h

theorem execRecoveryEnd_orderly {r} (h : Orderly L s) : NextOrderly L (execRecoveryEnd r s) :=
    .next (.ite (settle_orderly (changePhase_orderly h)) h)

theorem execTripAssert_orderly {n} (h : Orderly L s) : NextOrderly L (execTripAssert n s) :=
    .next (.ite (settle_orderly (.forAll (fun _ _ => tripRegion_orderly) (.of_roll h rfl))) h)

theorem execIslandWrap_orderly {i} (h : Orderly L s) : NextOrderly L (execIslandWrap i s) := by
  unfold execIslandWrap
  refine .next ?_
  split
  · exact h
  · split
    · exact h
    · exact .ite (settle_orderly (wrap_orderly h)) h

theorem execUnitEdge_orderly {u} (h : Orderly L s) : NextOrderly L (execUnitEdge u s) := by
  unfold execUnitEdge
  refine .next ?_
  split
  · exact h
  · exact .ite (settle_orderly (gateIsland_orderly (commandUnit_orderly (modUnit_orderly h)))) h

theorem execCDieLossDetect_orderly {r} (h : Orderly L s) : NextOrderly L (execCDieLossDetect r s) := by
  unfold execCDieLossDetect
  exact .next (.ite (modRegion_orderly h) h)

theorem execHoldTimeEnd_orderly {r} (h : Orderly L s) : NextOrderly L (execHoldTimeEnd r s) := by
  unfold execHoldTimeEnd
  refine .next ?_
  split
  · exact h
  · exact .ite h (.ite (modRegion_orderly h) (.ite (settle_orderly (stand_orderly (raise_orderly (modRegion_orderly
    (modRegion_orderly h))))) (settle_orderly (stand_orderly (raise_orderly (modRegion_orderly (modRegion_orderly h)))))))

/-! ## Adc -/

theorem execRegionTrigger_orderly {r} (h : Orderly L s) : NextOrderly L (execRegionTrigger r s) := by
  unfold execRegionTrigger
  extract_lets -underBinder +onlyGivenNames g
  refine .next ?_
  split
  · exact h
  · exact .ite (settle_orderly (regionTrigger_orderly h)) h

theorem execBankTimer_orderly {b} (h : Orderly L s) : NextOrderly L (execBankTimer b s) :=
    .next (.ite h (settle_orderly (.ite (.ite (bankTrigger_orderly (.ite (modBank_orderly (modBank_orderly (.ite (bankTrigger_orderly
      (modBank_orderly h)) h))) (modBank_orderly (.ite (bankTrigger_orderly (modBank_orderly h)) h)))) (.ite (modBank_orderly
      (modBank_orderly (.ite (bankTrigger_orderly (modBank_orderly h)) h))) (modBank_orderly (.ite (bankTrigger_orderly
      (modBank_orderly h)) h)))) (.ite (bankTrigger_orderly (modBank_orderly h)) h))))

theorem execAdcQdataRead_orderly {b} (h : Orderly L s) : NextOrderly L (execAdcQdataRead b s) :=
    .next (hostAccess_orderly (fun _ => readQdata_orderly) h)

theorem execSetComplete_orderly {b} (h : Orderly L s) : NextOrderly L (execSetComplete b s) :=
    .next (.ite (settle_orderly (setsComplete_orderly h)) h)

theorem execSamplingInstant_orderly {b uv} (h : Orderly L s) : NextOrderly L (execSamplingInstant b uv s) :=
    .next (.ite (settle_orderly (samplingInstant_orderly h)) h)

theorem execPackedFrameFlush_orderly {b} (h : Orderly L s) : NextOrderly L (execPackedFrameFlush b s) := by
  unfold execPackedFrameFlush
  exact .next (.ite (flushPacked_orderly h) h)

theorem execGo_orderly {b v} (h : Orderly L s) : NextOrderly L (execGo b v s) := .next (hostWord_orderly (fun _ => writeInjSw_orderly) h)

theorem execInjectedTrigger_orderly {b} (h : Orderly L s) : NextOrderly L (execInjectedTrigger b s) := by
  unfold execInjectedTrigger
  refine .next ?_
  split
  · exact h
  · exact .ite (modBank_orderly h) (.ite (settle_orderly (injOverrun_orderly (modBank_orderly h))) (modBank_orderly (modBank_orderly h)))

theorem execInjectedSamplingInstant_orderly {b uv} (h : Orderly L s) : NextOrderly L (execInjectedSamplingInstant b uv s) :=
    .next (.ite (settle_orderly (injSamplingInstant_orderly h)) h)

theorem execInjectedConversionComplete_orderly {b} (h : Orderly L s) : NextOrderly L (execInjectedConversionComplete b s) := by
  unfold execInjectedConversionComplete
  refine .next ?_
  split
  · exact h
  · exact .ite (settle_orderly (injComplete_orderly h)) h

theorem execCalibrationStepStart_orderly {b} (h : Orderly L s) : NextOrderly L (execCalibrationStepStart b s) := by
  unfold execCalibrationStepStart
  exact .next (.ite (modBank_orderly h) h)

theorem execCalibrationHandOver_orderly {b} (h : Orderly L s) : NextOrderly L (execCalibrationHandOver b s) := by
  unfold execCalibrationHandOver
  exact .next (.ite (modBank_orderly h) h)

theorem execCalibrationMeasurementEnd_orderly {b inRange coef} (h : Orderly L s) : NextOrderly L
    (execCalibrationMeasurementEnd b inRange coef s) :=
    by
  unfold execCalibrationMeasurementEnd
  exact .next (.ite (.ite (settle_orderly (sliceFailed_orderly h)) (.ite (modBank_orderly h) (modBank_orderly h))) h)

theorem execCalibrationHandBack_orderly {b} (h : Orderly L s) : NextOrderly L (execCalibrationHandBack b s) := by
  unfold execCalibrationHandBack
  exact .next (.ite (modBank_orderly h) h)

theorem execWindowComparatorAsserted_orderly {ch uv} (h : Orderly L s) : NextOrderly L (execWindowComparatorAsserted ch uv s) :=
    .next (.ite (settle_orderly (assertWindow_orderly h)) h)

theorem execWindowComparatorRelease_orderly {ch uv} (h : Orderly L s) : NextOrderly L (execWindowComparatorRelease ch uv s) :=
    .next (.ite (settle_orderly (setWindow_orderly h)) h)

/-! ## Time -/

theorem execTimeLockLost_orderly (h : Orderly L s) : NextOrderly L (execTimeLockLost s) :=
    .next (.ite (settle_orderly (loseLock_orderly h)) h)

theorem execTimeAdjust_orderly {slot} (h : Orderly L s) : NextOrderly L (execTimeAdjust slot s) :=
    immediate_orderly (fun _ => doTimeAdjust_orderly) h

theorem execTimeNowRead_orderly (h : Orderly L s) : NextOrderly L (execTimeNowRead s) :=
    .next (hostAccess_orderly (fun _ => readTimeNow_orderly) h)

theorem execAoTimeRead_orderly (h : Orderly L s) : NextOrderly L (execAoTimeRead s) :=
    .next (hostAccess_orderly (fun _ => readAoTime_orderly) h)

/-! ## Net -/

theorem execNetTx_orderly {slot} (h : Orderly L s) : NextOrderly L (execNetTx slot s) := immediate_orderly (fun _ => runNetTx_orderly) h

theorem execPortFrameBoundary_orderly {p} (h : Orderly L s) : NextOrderly L (execPortFrameBoundary p s) := by
  unfold execPortFrameBoundary
  exact .next (.ite (settle_orderly (portBoundary_orderly h)) h)

theorem execTxTimestamp_orderly {p} (h : Orderly L s) : NextOrderly L (execTxTimestamp p s) := by
  unfold execTxTimestamp
  refine .next ?_
  split
  · exact .ite h (settle_orderly (txTimestamp_orderly h))
  · exact h

theorem execTimeTxqE0Read_orderly (h : Orderly L s) : NextOrderly L (execTimeTxqE0Read s) :=
    .next (hostAccess_orderly (fun _ => readTxq_orderly) h)

theorem execNetRxPost_orderly {slot} (h : Orderly L s) : NextOrderly L (execNetRxPost slot s) :=
    immediate_orderly (fun _ => doNetRxPost_orderly) h

theorem execFrameReceive_orderly {p frame fcsOk} (h : Orderly L s) : NextOrderly L (execFrameReceive p frame fcsOk s) :=
    .next (.ite (settle_orderly (frameReceive_orderly h)) h)

theorem execSupervisionFrameSend_orderly (h : Orderly L s) : NextOrderly L (execSupervisionFrameSend s) :=
    .next (.ite (queueFrame_orderly (modNet_orderly h)) h)

theorem execLanSilent_orderly {p} (h : Orderly L s) : NextOrderly L (execLanSilent p s) := by
  unfold execLanSilent
  exact .next (.ite (settle_orderly (raise_orderly (modPort_orderly h))) h)

theorem execPrpNodeExpire_orderly {node} (h : Orderly L s) : NextOrderly L (execPrpNodeExpire node s) := .next (.ite (modNet_orderly h) h)

theorem execLinkUp_orderly {p} (h : Orderly L s) : NextOrderly L (execLinkUp p s) :=
    .next (.ite (settle_orderly (raise_orderly (unstand_orderly (modPort_orderly h)))) h)

theorem execLinkDown_orderly {p} (h : Orderly L s) : NextOrderly L (execLinkDown p s) :=
    .next (.ite (settle_orderly (stand_orderly (raise_orderly (dropFrames_orderly (modPort_orderly h))))) h)

/-! ## Island -/

theorem execIslandLinkLost_orderly {i atIsland} (h : Orderly L s) : NextOrderly L (execIslandLinkLost i atIsland s) := by
  unfold execIslandLinkLost
  exact .next (.ite (settle_orderly (linkLost_orderly h)) h)

theorem execIslandLinkRelock_orderly {i} (h : Orderly L s) : NextOrderly L (execIslandLinkRelock i s) := by
  unfold execIslandLinkRelock
  exact .next (.ite (settle_orderly (.ite (evaluate_orderly (modIsland_orderly h)) (modIsland_orderly h))) h)

theorem execIslandInterlock_orderly {i} (h : Orderly L s) : NextOrderly L (execIslandInterlock i s) := by
  unfold execIslandInterlock
  extract_lets -underBinder +onlyGivenNames x
  exact .next (.ite (settle_orderly (.ite (modIsland_orderly (raise_orderly (modIsland_orderly (modUnit_orderly (modUnit_orderly h)))))
    (modIsland_orderly (modUnit_orderly (modUnit_orderly h))))) h)

theorem execSwitchingTimeMeasured_orderly {u turnOn vLeg fine cross} (h : Orderly L s) : NextOrderly L
    (execSwitchingTimeMeasured u turnOn vLeg fine cross s) :=
    .next (.ite h (settle_orderly (.ite (adapt_orderly (modUnit_orderly h)) (modUnit_orderly h))))

theorem execUvlo_orderly {u rail} (h : Orderly L s) : NextOrderly L (execUvlo u rail s) :=
    .next (.ite h (settle_orderly (.ite (uvloSeen_orderly (modUnit_orderly (softTurnOff_orderly h))) (modUnit_orderly
      (softTurnOff_orderly h)))))

theorem execUvloRelease_orderly {u rail} (h : Orderly L s) : NextOrderly L (execUvloRelease u rail s) :=
    .next (.ite (settle_orderly (.ite (unstand_orderly (modUnit_orderly h)) (modUnit_orderly h))) h)

theorem execDesaturationArmed_orderly {u} (h : Orderly L s) : NextOrderly L (execDesaturationArmed u s) := by
  unfold execDesaturationArmed
  extract_lets -underBinder +onlyGivenNames x w
  refine .next ?_
  split
  · exact h
  · exact .ite (modUnit_orderly h) h

theorem execDesaturation_orderly {u sense} (h : Orderly L s) : NextOrderly L (execDesaturation u sense s) := by
  unfold execDesaturation
  exact .next (.ite (settle_orderly (desaturate_orderly h)) h)

theorem execSoftTurnOffEnd_orderly {u} (h : Orderly L s) : NextOrderly L (execSoftTurnOffEnd u s) := by
  unfold execSoftTurnOffEnd
  refine .next ?_
  split
  · exact h
  · exact .ite h (settle_orderly (modUnit_orderly h))

theorem execComparatorSelfTest_orderly {i v} (h : Orderly L s) : NextOrderly L (execComparatorSelfTest i v s) :=
    .next (hostWord_orderly (fun _ => writeIslTest_orderly) h)

theorem execComparatorTestDone_orderly {i pass} (h : Orderly L s) : NextOrderly L (execComparatorTestDone i pass s) := by
  unfold execComparatorTestDone
  extract_lets -underBinder +onlyGivenNames x
  refine .next ?_
  split
  · exact h
  · exact .ite h (settle_orderly (.ite (uvloFound_orderly (.ite (modIsland_orderly h) (raise_orderly (modIsland_orderly h)))) (.ite
    (modIsland_orderly h) (raise_orderly (modIsland_orderly h)))))

theorem execIslandOverTemperature_orderly {i temp} (h : Orderly L s) : NextOrderly L (execIslandOverTemperature i temp s) := by
  unfold execIslandOverTemperature
  exact .next (.ite h (settle_orderly (modIsland_orderly (tempStep_orderly (tempStep_orderly h)))))

theorem execIslandStart_orderly {i} (h : Orderly L s) : NextOrderly L (execIslandStart i s) :=
    .next (.ite (settle_orderly (startIsland_orderly h)) h)

theorem execIslandReady_orderly {i} (h : Orderly L s) : NextOrderly L (execIslandReady i s) := by
  unfold execIslandReady
  exact .next (.ite (settle_orderly (evaluate_orderly (modUnit_orderly (modUnit_orderly (modIsland_orderly h))))) h)

theorem execIslandStartFailed_orderly {i failed} (h : Orderly L s) : NextOrderly L (execIslandStartFailed i failed s) := by
  unfold execIslandStartFailed
  extract_lets -underBinder +onlyGivenNames x
  refine .next ?_
  split
  · exact h
  · refine .ite ?_ h
    extract_lets -underBinder +onlyGivenNames s' s'₂
    have hs' : Orderly L s' := modIsland_orderly h
    have hs'₂ : Orderly L s'₂ := by
      unfold s'₂
      split
      · exact raise_orderly hs'
      · exact hs'
    exact settle_orderly (raise_orderly hs'₂)

theorem execRebias_orderly {i v} (h : Orderly L s) : NextOrderly L (execRebias i v s) :=
    .next (hostWord_orderly (fun _ => writeIslCtrl_orderly) h)

theorem execIslandBlockReset_orderly {i} (h : Orderly L s) : NextOrderly L (execIslandBlockReset i s) :=
    .next (.ite (settle_orderly (startStrengths_orderly (modUnit_orderly (startStrengths_orderly (modUnit_orderly (closeDebug_orderly
      (modIsland_orderly h))))))) h)

theorem execIslandBiasRestore_orderly {i} (h : Orderly L s) : NextOrderly L (execIslandBiasRestore i s) := by
  unfold execIslandBiasRestore
  refine .next ?_
  split
  · exact h
  · exact .ite h (settle_orderly (.ite (startIsland_orderly (modIsland_orderly h)) (modIsland_orderly h)))

/-! ## Cache -/

theorem execPrefetchIssue_orderly {c} (h : Orderly L s) : NextOrderly L (execPrefetchIssue c s) :=
    .next (.ite (settle_orderly (issuePrefetch_orderly (makeRoom_orderly h))) h)

theorem execPrefetchLanded_orderly {c} (h : Orderly L s) : NextOrderly L (execPrefetchLanded c s) :=
    .next (.ite (settle_orderly (.ite (loadEntry_orderly (modRt_orderly (.ite (modArb_orderly h) h))) (modRt_orderly (.ite
      (modArb_orderly h) h)))) h)

theorem execWritebackSweep_orderly (h : Orderly L s) : NextOrderly L (execWritebackSweep s) :=
    .next (.ite (settle_orderly (modLoop_orderly (.forList (fun _ _ => writeBack_orderly) h))) h)

/-! ## Microcode -/

theorem execLeUcodeDataWrite_orderly {v} (h : Orderly L s) : NextOrderly L (execLeUcodeDataWrite v s) :=
    .next (hostWord_orderly (fun _ => writeUcode_orderly) h)

theorem execVerify_orderly {v} (h : Orderly L s) : NextOrderly L (execVerify v s) :=
    .next (hostWord_orderly (fun _ => writeUcodeCtrl_orderly) h)

theorem execVerifyDone_orderly (h : Orderly L s) : NextOrderly L (execVerifyDone s) :=
    .next (.ite (settle_orderly (verifyDone_orderly h)) h)

/-! ## Run -/

theorem execContextRunComplete_orderly {c} (h : Orderly L s) : NextOrderly L (execContextRunComplete c s) :=
    .next (.ite (settle_orderly (completeRun_orderly h)) h)

theorem execDutyFrameSend_orderly {r} (h : Orderly L s) : NextOrderly L (execDutyFrameSend r s) := by
  unfold execDutyFrameSend
  refine .next ?_
  split
  · exact h
  · exact .ite (modLoop_orderly (mrSend_orderly h)) h

/-! ## CtxCmd -/

theorem ctxRow_orderly {k op f} (hf : ∀ t, Orderly L t → Orderly L (f t)) (h : Orderly L s) : NextOrderly L (ctxRow k op f s) := by
  unfold ctxRow
  exact .ite (immediate_orderly (fun _ ht => hf _ ht) h) (.next h)

theorem execCtxWrite_orderly {slot} (h : Orderly L s) : NextOrderly L (execCtxWrite slot s) :=
    .ite (.next (applyOrphan_orderly h)) (ctxRow_orderly (fun _ => doCtxWrite_orderly) h)

theorem execCtxRead_orderly {slot} (h : Orderly L s) : NextOrderly L (execCtxRead slot s) :=
    .ite (ctxRow_orderly (fun _ => doCtxRead_orderly) h) (.next h)

theorem execCtxEnable_orderly {slot} (h : Orderly L s) : NextOrderly L (execCtxEnable slot s) :=
    ctxRow_orderly (fun _ => doCtxEnable_orderly) h

theorem execCtxDisable_orderly {slot} (h : Orderly L s) : NextOrderly L (execCtxDisable slot s) :=
    ctxRow_orderly (fun _ => doCtxDisable_orderly) h

theorem execProbeStart_orderly {slot} (h : Orderly L s) : NextOrderly L (execProbeStart slot s) :=
    ctxRow_orderly (fun _ => doProbeStart_orderly) h

theorem execProbeStop_orderly {slot} (h : Orderly L s) : NextOrderly L (execProbeStop slot s) :=
    ctxRow_orderly (fun _ => doProbeStop_orderly) h

/-! ## Release -/

theorem execContextRelease_orderly {r} (h : Orderly L s) : NextOrderly L (execContextRelease r s) := by
  unfold execContextRelease
  refine .next ?_
  refine .ite h ?_
  refine .ite (modLoop_orderly h) ?_
  split
  · exact settle_orderly (.ite (releaseRegion_orderly (modLoop_orderly h)) (keepSets_orderly (modLoop_orderly h)))
  · exact .ite (settle_orderly (catchUpRelease_orderly h)) h

theorem execTimebaseSlot_orderly (h : Orderly L s) : NextOrderly L (execTimebaseSlot s) :=
    .next (.ite (settle_orderly (beginSlot_orderly h)) h)

theorem execLoopEngineHeartbeatLost_orderly (h : Orderly L s) : NextOrderly L (execLoopEngineHeartbeatLost s) :=
    .next (.ite (settle_orderly (modLoop_orderly (raiseFull_orderly h))) h)

/-! ## Pair -/

theorem pairRow_orderly {type f} (hf : ∀ a0 a1 a2 t, Orderly L t → Orderly L (f a0 a1 a2 t)) (h : Orderly L s) : NextOrderly L
    (pairRow type f s) :=
    by
  unfold pairRow
  refine .next ?_
  split
  · exact h
  · exact .ite (settle_orderly (hf _ _ _ _ (popPair_orderly h))) h

theorem execDutyFrameReceive_orderly {r} (h : Orderly L s) : NextOrderly L (execDutyFrameReceive r s) := by
  unfold execDutyFrameReceive
  refine .next ?_
  split
  · exact h
  · exact .ite (settle_orderly (dutyFrameReceive_orderly (.of_roll h rfl))) h

theorem execDutyCopyReceive_orderly (h : Orderly L s) : NextOrderly L (execDutyCopyReceive s) :=
    pairRow_orderly (fun _ _ _ _ => dutyCopyReceive_orderly) h

theorem execSampleFrameReceive_orderly (h : Orderly L s) : NextOrderly L (execSampleFrameReceive s) := by
  unfold execSampleFrameReceive
  refine .next ?_
  split
  · exact h
  · refine .ite h ?_
    split
    · exact popPair_orderly h
    · exact .ite h (.ite (modPairRegion_orderly (popPair_orderly h)) (settle_orderly (.ite (releaseRegion_orderly (modPairRegion_orderly
      (popPair_orderly h))) (keepSets_orderly (modPairRegion_orderly (popPair_orderly h))))))

theorem execHelloSend_orderly (h : Orderly L s) : NextOrderly L (execHelloSend s) := .next (.ite (modPair_orderly (pairSend_orderly h)) h)

theorem execHelloReceive_orderly (h : Orderly L s) : NextOrderly L (execHelloReceive s) :=
    pairRow_orderly (fun _ _ _ _ => helloReceive_orderly) h

theorem execPartnerDown_orderly (h : Orderly L s) : NextOrderly L (execPartnerDown s) :=
    .next (.ite (settle_orderly (raise_orderly (modPair_orderly h))) h)

theorem execControlDieFailed_orderly {r partner} (h : Orderly L s) : NextOrderly L (execControlDieFailed r partner s) := by
  unfold execControlDieFailed
  exact .next (.ite (settle_orderly (dieFailed_orderly h)) h)

theorem execFaultDeclarationReceive_orderly (h : Orderly L s) : NextOrderly L (execFaultDeclarationReceive s) :=
    pairRow_orderly (fun _ _ _ _ => faultDeclared_orderly) h

theorem execParameterFrameReceive_orderly (h : Orderly L s) : NextOrderly L (execParameterFrameReceive s) :=
    pairRow_orderly (fun _ _ _ _ ht => .ite (parameterFrame_orderly ht) ht) h

theorem execResynchronisationStart_orderly {r} (h : Orderly L s) : NextOrderly L (execResynchronisationStart r s) := by
  unfold execResynchronisationStart
  extract_lets -underBinder +onlyGivenNames p start
  have hstart : ∀ t, Orderly L t → Orderly L (start t) := fun _ => modPairRegion_orderly
  exact .next (.ite h (.ite (hstart _ (modPairRegion_orderly h)) (.ite (.ite (modPairRegion_orderly (sendCheckpoint_orderly h)) (hstart _
    (sendCheckpoint_orderly h))) h)))

theorem execCheckpointChunkReceive_orderly (h : Orderly L s) : NextOrderly L (execCheckpointChunkReceive s) :=
    pairRow_orderly (fun _ _ _ _ ht => .ite (checkpointChunk_orderly ht) ht) h

theorem execCheckpointCommitReceive_orderly (h : Orderly L s) : NextOrderly L (execCheckpointCommitReceive s) :=
    pairRow_orderly (fun _ _ _ _ ht => .ite (checkpointCommit_orderly ht) ht) h

theorem execResynchronisationFailed_orderly {r} (h : Orderly L s) : NextOrderly L (execResynchronisationFailed r s) := by
  unfold execResynchronisationFailed
  extract_lets -underBinder +onlyGivenNames p
  refine .next ?_
  split
  · exact h
  · exact .ite h (settle_orderly (abortResync_orderly (raise_orderly (modPairRegion_orderly h))))

theorem execPairSwap_orderly {slot} (h : Orderly L s) : NextOrderly L (execPairSwap slot s) :=
    immediate_orderly (fun _ => doPairSwap_orderly) h

theorem execPairResync_orderly {slot} (h : Orderly L s) : NextOrderly L (execPairResync slot s) :=
    immediate_orderly (fun _ => doPairResync_orderly) h

/-! ## Events -/

theorem execEventCollect_orderly (h : Orderly L s) : NextOrderly L (execEventCollect s) := by
  unfold execEventCollect
  extract_lets -underBinder +onlyGivenNames s₂
  have hs₂ : Orderly L s₂ := .ite (trgWaiting_orderly h) h
  refine .next ?_
  split
  · exact hs₂
  · exact .ite (settle_orderly (collect_orderly (modEvents_orderly hs₂))) hs₂

theorem execFaultRecovered_orderly {k} (h : Orderly L s) : NextOrderly L (execFaultRecovered k s) := by
  unfold execFaultRecovered
  exact .next (.ite (settle_orderly (reenter_orderly (raise_orderly (modSrc_orderly h)))) h)

theorem execShadowWindowEnd_orderly {w} (h : Orderly L s) : NextOrderly L (execShadowWindowEnd w s) := .next (modEvents_orderly h)

theorem execFaultClear_orderly {slot} (h : Orderly L s) : NextOrderly L (execFaultClear slot s) :=
    immediate_orderly (fun _ => doFaultClear_orderly) h

theorem execEventForce_orderly {slot} (h : Orderly L s) : NextOrderly L (execEventForce slot s) :=
    immediate_orderly (fun _ => doEventForce_orderly) h

theorem execEvtForceWrite_orderly {w v} (h : Orderly L s) : NextOrderly L (execEvtForceWrite w v s) :=
    .next (hostWord_orderly (fun _ => writeForce_orderly) h)

theorem execInjectionApply_orderly (h : Orderly L s) : NextOrderly L (execInjectionApply s) := by
  unfold execInjectionApply
  extract_lets -underBinder +onlyGivenNames w n d
  refine .next ?_
  refine .ite h ?_
  split
  · exact modMr_orderly (injected_orderly h)
  · exact h

/-! ## Arb -/

theorem execArbCommit_orderly {v} (h : Orderly L s) : NextOrderly L (execArbCommit v s) :=
    .next (hostWord_orderly (fun _ => writeArbCommit_orderly) h)

theorem execArbCommitApply_orderly (h : Orderly L s) : NextOrderly L (execArbCommitApply s) :=
    .next (.ite h (.ite (modArb_orderly h) (settle_orderly (refuseCommit_orderly h))))

theorem execArbiterGrant_orderly {slot prefetch requests} (h : Orderly L s) : NextOrderly L (execArbiterGrant slot prefetch requests s) :=
    .next (.ite h (modArb_orderly h))

theorem execRefresh_orderly (h : Orderly L s) : NextOrderly L (execRefresh s) := by
  unfold execRefresh
  exact .next (.ite (modArb_orderly h) h)

theorem execWeirAcquire_orderly {slot} (h : Orderly L s) : NextOrderly L (execWeirAcquire slot s) :=
    immediate_orderly (fun _ => doWeirAcquire_orderly) h

theorem execWeirRelease_orderly {slot} (h : Orderly L s) : NextOrderly L (execWeirRelease slot s) :=
    immediate_orderly (fun _ => doWeirRelease_orderly) h

theorem execWeirAcquireTimedOut_orderly {slot} (h : Orderly L s) : NextOrderly L (execWeirAcquireTimedOut slot s) := by
  unfold execWeirAcquireTimedOut
  refine .next ?_
  split
  · exact h
  · exact .ite h (settle_orderly (raise_orderly (finish_orderly (modWeir_orderly h))))

theorem execWeirsReleased_orderly {w} (h : Orderly L s) : NextOrderly L (execWeirsReleased w s) :=
    .next (.ite (settle_orderly (releaseWeirs_orderly h)) h)

theorem execArbiterWatchdog_orderly (h : Orderly L s) : NextOrderly L (execArbiterWatchdog s) := by
  unfold execArbiterWatchdog
  refine .next ?_
  split
  · exact h
  · exact .ite h (settle_orderly (resetRequester_orderly (raise_orderly (modArb_orderly h))))

/-! ## Image -/

theorem execLoad_orderly {v} (h : Orderly L s) : NextOrderly L (execLoad v s) :=
    .next (hostWord_orderly (fun _ => writeImageCtrl_orderly) h)

theorem execImageLoadDone_orderly {image} (h : Orderly L s) : NextOrderly L (execImageLoadDone image s) :=
    .next (.ite (settle_orderly (imageDone_orderly h)) h)

/-! ## Capture -/

theorem execCaptureArm_orderly {slot} (h : Orderly L s) : NextOrderly L (execCaptureArm slot s) :=
    immediate_orderly (fun _ => doCaptureArm_orderly) h

theorem execCaptureTrigger_orderly {k} (h : Orderly L s) : NextOrderly L (execCaptureTrigger k s) := by
  unfold execCaptureTrigger
  extract_lets -underBinder +onlyGivenNames x
  refine .next ?_
  split
  · exact .ite (judgeNotice_orderly h) h
  · exact h

theorem execCaptureDone_orderly {k} (h : Orderly L s) : NextOrderly L (execCaptureDone k s) := by
  unfold execCaptureDone
  exact .next (.ite h (.ite (settle_orderly (endSession_orderly h)) (.ite (settle_orderly (endSession_orderly h)) h)))

theorem execCaptureProgressWrite_orderly {k} (h : Orderly L s) : NextOrderly L (execCaptureProgressWrite k s) := by
  unfold execCaptureProgressWrite
  extract_lets -underBinder +onlyGivenNames x
  exact .next (.ite (settle_orderly (modSess_orderly (captureStore_orderly (captureStore_orderly (captureStore_orderly h))))) h)

theorem execCaptureStop_orderly {slot} (h : Orderly L s) : NextOrderly L (execCaptureStop slot s) :=
    immediate_orderly (fun _ => doCaptureStop_orderly) h

theorem execCaptureCopy_orderly {slot} (h : Orderly L s) : NextOrderly L (execCaptureCopy slot s) :=
    .ite (immediate_orderly (fun _ => doCaptureCopy_orderly) h) (.next h)

/-! ## Rings -/

theorem execNop_orderly {slot} (h : Orderly L s) : NextOrderly L (execNop slot s) := immediate_orderly (fun _ => finishOk_orderly) h

theorem execBarrier_orderly {slot} (h : Orderly L s) : NextOrderly L (execBarrier slot s) :=
    immediate_orderly (fun _ => doBarrier_orderly) h

theorem execRestart_orderly {mask} (h : Orderly L s) : NextOrderly L (execRestart mask s) :=
    .next (hostWord_orderly (fun _ ht => .forAll (fun _ _ ht₂ => .ite (restartSq_orderly ht₂) ht₂) ht) h)

theorem execDoorbellPoll_orderly (h : Orderly L s) : NextOrderly L (execDoorbellPoll s) :=
    .next (.ite (.forAll (fun _ _ ht => .ite (hostRead_orderly ht) ht) (.forAll (fun _ _ ht => .ite (hostRead_orderly ht) ht)
      (modRings_orderly h))) h)

theorem execHostDmaReadComplete_orderly {id status data} (h : Orderly L s) : NextOrderly L (execHostDmaReadComplete id status data s) := by
  unfold execHostDmaReadComplete
  refine .next ?_
  split
  · exact h
  · exact settle_orderly (.ite (readDone_orderly (modHost_orderly h)) (readFailed_orderly (modHost_orderly h)))

theorem execHostDmaError_orderly {id} (h : Orderly L s) : NextOrderly L (execHostDmaError id s) := by
  unfold execHostDmaError
  refine .next ?_
  split
  · exact h
  · exact .ite h (settle_orderly (readFailed_orderly (modHost_orderly h)))

theorem execHostSilent_orderly (h : Orderly L s) : NextOrderly L (execHostSilent s) := by
  unfold execHostSilent
  exact .next (.ite (settle_orderly (raise_orderly (modHost_orderly h))) h)

theorem execPcieEndpointReset_orderly (h : Orderly L s) : NextOrderly L (execPcieEndpointReset s) :=
    .next (.ite h (settle_orderly (endpointResets_orderly (closeDebug_orderly (modPower_orderly h)))))

theorem execPcieLinkDown_orderly (h : Orderly L s) : NextOrderly L (execPcieLinkDown s) :=
    .next (.ite (settle_orderly (stand_orderly (raise_orderly (modHost_orderly h)))) h)

theorem execPcieLinkReturn_orderly (h : Orderly L s) : NextOrderly L (execPcieLinkReturn s) :=
    .next (.ite h (settle_orderly (deliverHeld_orderly (unstand_orderly (modHost_orderly h)))))

theorem execPostedWriteErrorReported_orderly {addr req} (h : Orderly L s) : NextOrderly L (execPostedWriteErrorReported addr req s) :=
    .next (settle_orderly (hostError_orderly h))

theorem freeSlot_free {k : Slot} (h : s.freeSlot = some k) : ∀ e ∈ s.rings.journal, e.slot ≠ k := by
  unfold State.freeSlot at h
  have hn : (s.entry k).isNone = true := List.find?_some (p := fun k => (s.entry k).isNone) h
  intro e he hk
  have hf := List.find?_eq_none.1 (Option.isNone_iff_eq_none.1 hn) e he
  simp [hk] at hf

/-- The row of an acceptance: no more than one entry is added, with the next ASN. -/
theorem execDescriptorAccept_orderly {q} (h : Orderly L s) : ∃ k, NextOrderly (L ++ [(k, s.rings.nextAsn)]) (execDescriptorAccept q s) := by
  have hm (k : Slot) : Orderly (L ++ [(k, s.rings.nextAsn)]) s := h.mono (List.sublist_append_left _ _)
  cases hk : s.freeSlot with
  | none =>
    refine ⟨0, ?_⟩
    unfold execDescriptorAccept
    extract_lets -underBinder +onlyGivenNames x
    refine .next ?_
    split
    · exact hm 0
    · rw [hk]
      exact .ite (hm 0) (.ite (.ite (hm 0) (settle_orderly (raise_orderly (modSq_orderly (hm 0))))) (.ite (hm 0) (hm 0)))
  | some k =>
    refine ⟨k, ?_⟩
    unfold execDescriptorAccept
    extract_lets -underBinder +onlyGivenNames x
    refine .next ?_
    split
    · exact hm k
    · rw [hk]
      exact .ite (hm k) (.ite (.ite (hm k) (settle_orderly (raise_orderly (modSq_orderly (hm k)))))
        (.ite (hm k) (settle_orderly (acceptInto_orderly h (freeSlot_free hk)))))

theorem execJournalAcknowledge_orderly {slot} (h : Orderly L s) : NextOrderly L (execJournalAcknowledge slot s) := by
  unfold execJournalAcknowledge
  refine .next ?_
  split
  · exact .ite (ackOne_orderly h) h
  · exact h

theorem unacked_of_postable {k : Slot} (h : s.postable k = true) : k ∉ s.rings.unacked := by
  unfold State.postable at h
  split at h
  · cases h
  · simp only [Bool.and_eq_true, Bool.not_eq_true'] at h
    obtain ⟨⟨⟨⟨-, hu⟩, -⟩, -⟩, -⟩ := h
    simpa using hu

theorem execCompletionPost_orderly {slot} (h : Orderly L s) : NextOrderly L (execCompletionPost slot s) := by
  unfold execCompletionPost
  refine .next ?_
  split
  case isTrue hc =>
    have hp : s.postable slot = true := List.find?_some (by simpa using (Bool.and_eq_true_iff.1 hc).2)
    split
    case h_1 e he => exact postEntry_orderly h (slot_of_entry he ▸ unacked_of_postable hp)
    case h_2 => exact h
  case isFalse => exact h

theorem execMsixSignal_orderly {m} (h : Orderly L s) : NextOrderly L (execMsixSignal m s) :=
    .next (.ite (signalVector_orderly (modCq_orderly h)) h)

theorem execPatrolScrub_orderly {journal line} (h : Orderly L s) : NextOrderly L (execPatrolScrub journal line s) := by
  unfold execPatrolScrub
  refine .next ?_
  refine .ite ?_ ?_
  · split
    · exact settle_orderly (readJournal_orderly h)
    · exact h
  · refine .ite ?_ h
    split
    · exact settle_orderly (readLine_orderly h)
    · exact h

/-! ## Replay -/

theorem execTimedActionDue_orderly {slot} (h : Orderly L s) : NextOrderly L (execTimedActionDue slot s) := by
  unfold execTimedActionDue
  refine .next ?_
  split
  · exact h
  · exact .ite (fetchData_orderly h) (.ite (settle_orderly (applyCommand_orderly h)) h)

theorem execJournalReplay_orderly {readBack} (h : Orderly L s) : NextOrderly L (execJournalReplay readBack s) := by
  unfold execJournalReplay
  refine .next (.ite h ?_)
  extract_lets -underBinder +onlyGivenNames t u todo v skipped w
  have ht : Orderly L t := .forList (fun _ _ => readJournal_orderly) h
  have hu : Orderly L u := modRings_orderly ht
  have hheld : ∀ e ∈ todo, Held u e.slot := fun e he => by
    obtain ⟨hj, hp⟩ := List.mem_filter.1 he
    exact ⟨e, hj, rfl, by simpa using (Bool.and_eq_true_iff.1 hp).1⟩
  have hv : Orderly L v := replay_orderly hu (hu.sound.slots.sublist List.filter_sublist) hheld
  have hw : Orderly L w := modRings_orderly hv
  exact settle_orderly (deliverHeld_orderly (raise_orderly hw))

/-! ## Millrace -/

theorem execMillraceFrameBoundary_orderly {d} (h : Orderly L s) : NextOrderly L (execMillraceFrameBoundary d s) :=
    .next (.ite (sendNext_orderly h) h)

theorem execMillraceFrameReceive_orderly {d skip err} (h : Orderly L s) : NextOrderly L (execMillraceFrameReceive d skip err s) :=
    .next (.ite (settle_orderly (frameArrives_orderly h)) h)

theorem execMillraceLinkFailure_orderly {d cause} (h : Orderly L s) : NextOrderly L (execMillraceLinkFailure d cause s) :=
    .next (.ite (settle_orderly (linkFails_orderly (dropLock_orderly h))) h)

/-! ## SafetyFns -/

theorem execSafetyInputChange_orderly {c x noDemand lasted} (h : Orderly L s) : NextOrderly L
    (execSafetyInputChange c x noDemand lasted s) :=
    .next (.ite (settle_orderly (discCleared_orderly (discCleared_orderly (modSafCh_orderly h)))) h)

theorem execDiscrepancyFault_orderly {c p} (h : Orderly L s) : NextOrderly L (execDiscrepancyFault c p s) := by
  unfold execDiscrepancyFault
  exact .next (.ite (settle_orderly (latchDisc_orderly h)) h)

theorem execStartUpTestPassed_orderly {c} (h : Orderly L s) : NextOrderly L (execStartUpTestPassed c s) := by
  unfold execStartUpTestPassed
  exact .next (.ite (settle_orderly (raise_orderly (modSafCh_orderly h))) h)

theorem execSupplyPulseTest_orderly {sup c followed} (h : Orderly L s) : NextOrderly L (execSupplyPulseTest sup c followed s) := by
  unfold execSupplyPulseTest
  extract_lets -underBinder +onlyGivenNames x wrong t t₂ t₃ t₄
  have ht : Orderly L t := .ite (latchDisc_orderly h) h
  have ht₂ : Orderly L t₂ := .ite (latchDisc_orderly ht) ht
  have ht₃ : Orderly L t₃ := .ite (modSafCh_orderly ht₂) ht₂
  have ht₄ : Orderly L t₄ := .ite (modSafCh_orderly ht₃) ht₃
  exact .next (.ite (settle_orderly (modSafCh_orderly ht₄)) h)

theorem execSecondPathDecode_orderly {halves idle} (h : Orderly L s) : NextOrderly L (execSecondPathDecode halves idle s) := by
  unfold execSecondPathDecode
  exact .next (.ite (settle_orderly (.ite (wireAbsent_orderly h) (modSaf_orderly h))) h)

theorem execGateEnable_orderly (h : Orderly L s) : NextOrderly L (execGateEnable s) := .next (.ite (settle_orderly (modSaf_orderly h)) h)

theorem execChannel2Rejoined_orderly (h : Orderly L s) : NextOrderly L (execChannel2Rejoined s) := by
  unfold execChannel2Rejoined
  refine .next ?_
  split
  · exact h
  · exact .ite (settle_orderly (unstand_orderly (raise_orderly (raise_orderly (modSaf_orderly h))))) h

theorem execChannel2AbsentTooLong_orderly (h : Orderly L s) : NextOrderly L (execChannel2AbsentTooLong s) :=
    .next (.ite (settle_orderly (stand_orderly (raise_orderly (modSaf_orderly h)))) h)

theorem execChannel2DidNotFollowDemand_orderly (h : Orderly L s) : NextOrderly L (execChannel2DidNotFollowDemand s) :=
    .next (.ite (settle_orderly (stand_orderly (raise_orderly (modSaf_orderly h)))) h)

theorem execPath1ReadbackPulse_orderly {ok railsOff} (h : Orderly L s) : NextOrderly L (execPath1ReadbackPulse ok railsOff s) :=
    .next (.ite (settle_orderly (judgePath2_orderly (judgePath1_orderly (modSaf_orderly h)))) h)

theorem execChannel1SelfTest_orderly {ok} (h : Orderly L s) : NextOrderly L (execChannel1SelfTest ok s) := by
  unfold execChannel1SelfTest
  extract_lets -underBinder +onlyGivenNames t
  have ht : Orderly L t := noteCheck_orderly h
  exact .next (.ite h (.ite (settle_orderly (modSafCh_orderly ht)) (settle_orderly (stand_orderly (raise_orderly (modSafCh_orderly ht))))))

theorem execChannel2SelfCheck_orderly {ok} (h : Orderly L s) : NextOrderly L (execChannel2SelfCheck ok s) := by
  unfold execChannel2SelfCheck
  extract_lets -underBinder +onlyGivenNames n
  have hn : Orderly L n := noteCheck_orderly h
  exact .next (.ite h (.ite (settle_orderly (unstand_orderly (modSafCh_orderly hn))) (settle_orderly (.ite (modSafCh_orderly hn)
    (stand_orderly (raise_orderly (modSafCh_orderly hn)))))))

theorem execSafeOutputReadbackFault_orderly {c o} (h : Orderly L s) : NextOrderly L (execSafeOutputReadbackFault c o s) :=
    .next (.ite (settle_orderly (modSo_orderly h)) h)

theorem execSoTestPulse_orderly {c} (h : Orderly L s) : NextOrderly L (execSoTestPulse c s) := by
  unfold execSoTestPulse
  exact .next (.ite (settle_orderly (modSafCh_orderly h)) h)

theorem execSoTestPulseEnd_orderly {c fallA fallB} (h : Orderly L s) : NextOrderly L (execSoTestPulseEnd c fallA fallB s) := by
  unfold execSoTestPulseEnd
  extract_lets -underBinder +onlyGivenNames x t t₂
  have ht : Orderly L t := .ite (judgeTest_orderly h) h
  have ht₂ : Orderly L t₂ := .ite (judgeTest_orderly ht) ht
  exact .next (.ite (settle_orderly (modSafCh_orderly ht₂)) h)

theorem execSafeOutputOverload_orderly {o milliamps lasted} (h : Orderly L s) : NextOrderly L
    (execSafeOutputOverload o milliamps lasted s) :=
    .next (.ite (settle_orderly (stand_orderly (raise_orderly (modSo_orderly h)))) h)

theorem execContactorFeedbackFault_orderly {c o} (h : Orderly L s) : NextOrderly L (execContactorFeedbackFault c o s) := by
  unfold execContactorFeedbackFault
  extract_lets -underBinder +onlyGivenNames f d
  exact .next (.ite (.ite (settle_orderly (stand_orderly (raise_orderly (modSo_orderly h)))) (.ite (settle_orderly (stand_orderly
    (raise_orderly (modSo_orderly h)))) h)) h)

theorem execSf2FaultCleared_orderly {o} (h : Orderly L s) : NextOrderly L (execSf2FaultCleared o s) := by
  unfold execSf2FaultCleared
  extract_lets -underBinder +onlyGivenNames f t
  have ht : Orderly L t := raise_orderly (modSo_orderly h)
  exact .next (.ite (settle_orderly (.ite ht (unstand_orderly ht))) h)

theorem execDchOverload_orderly {shorted milliamps lasted} (h : Orderly L s) : NextOrderly L
    (execDchOverload shorted milliamps lasted s) :=
    .next (.ite (settle_orderly (modSaf_orderly h)) h)

theorem execDchRetry_orderly {again} (h : Orderly L s) : NextOrderly L (execDchRetry again s) := by
  unfold execDchRetry
  refine .next ?_
  split
  · exact h
  · exact .ite (settle_orderly (modSaf_orderly h)) h

theorem execCdrvOverload_orderly {milliamps lasted} (h : Orderly L s) : NextOrderly L (execCdrvOverload milliamps lasted s) :=
    .next (.ite (settle_orderly (.of_roll h rfl)) h)

theorem execCdSafRestarted_orderly (h : Orderly L s) : NextOrderly L (execCdSafRestarted s) :=
    .next (.ite h (settle_orderly (raise_orderly (unstand_orderly (unstand_orderly (modSaf_orderly (channelPowerUp_orderly
      (wireAbsent_orderly (modPower_orderly h)))))))))

/-! ## PowerRows -/

theorem execInputLow_orderly {mv} (h : Orderly L s) : NextOrderly L (execInputLow mv s) :=
    .next (.ite h (settle_orderly (raise_orderly (modPower_orderly h))))

theorem execInputLowCleared_orderly {mv} (h : Orderly L s) : NextOrderly L (execInputLowCleared mv s) :=
    .next (.ite (modPower_orderly h) h)

theorem execInputLoss_orderly {mv mj} (h : Orderly L s) : NextOrderly L (execInputLoss mv mj s) :=
    .next (.ite h (noteStore_orderly (modPower_orderly h)))

theorem execInputReturn_orderly {mv mj} (h : Orderly L s) : NextOrderly L (execInputReturn mv mj s) :=
    .next (.ite h (.ite (settle_orderly (unstand_orderly (modPower_orderly (inputBack_orderly (noteStore_orderly h))))) (.ite
      (settle_orderly (raise_orderly (modPower_orderly (inputBack_orderly (noteStore_orderly h))))) (inputBack_orderly
      (noteStore_orderly h)))))

theorem execPdNetRestarted_orderly (h : Orderly L s) : NextOrderly L (execPdNetRestarted s) :=
    .next (.ite h (settle_orderly (raise_orderly (netUp_orderly (modPower_orderly h)))))

theorem execPdIsoRestart_orderly (h : Orderly L s) : NextOrderly L (execPdIsoRestart s) := by
  unfold execPdIsoRestart
  refine .next ?_
  split
  · exact h
  · exact .ite h (settle_orderly (unstand_orderly (modPower_orderly h)))

theorem execMemsReferenceLost_orderly {edgelessNs diff} (h : Orderly L s) : NextOrderly L (execMemsReferenceLost edgelessNs diff s) :=
    .next (.ite h (settle_orderly (cDieDown_orderly (pDieDown_orderly (stand_orderly (raiseNow_orderly (modPower_orderly h)))))))

theorem execMemsReferenceRecovered_orderly {us} (h : Orderly L s) : NextOrderly L (execMemsReferenceRecovered us s) :=
    .next (.ite (settle_orderly (unstand_orderly (modPower_orderly h))) h)

theorem execPllLockLost_orderly {pll} (h : Orderly L s) : NextOrderly L (execPllLockLost pll s) := by
  unfold execPllLockLost
  extract_lets -underBinder +onlyGivenNames p t
  have hp : Orderly L p.2 := fresh_orderly h
  have ht : Orderly L t := raise_orderly hp
  refine .next ?_
  split
  · exact .ite (settle_orderly (pDieDown_orderly (modPower_orderly ht))) h
  · exact .ite (settle_orderly (cDieDown_orderly (modPower_orderly ht))) h
  · exact .ite (settle_orderly (cDieDown_orderly (modPower_orderly ht))) h

theorem execAoClockMeasure_orderly {err} (h : Orderly L s) : NextOrderly L (execAoClockMeasure err s) :=
    .next (.ite h (.ite (settle_orderly (raise_orderly (modPower_orderly h))) (modPower_orderly h)))

theorem execCDieWarmReset_orderly (h : Orderly L s) : NextOrderly L (execCDieWarmReset s) := .next (settle_orderly (cDieDown_orderly h))

theorem execAutoCDieReset_orderly (h : Orderly L s) : NextOrderly L (execAutoCDieReset s) := by
  unfold execAutoCDieReset
  refine .next ?_
  split
  · exact h
  · exact .ite (settle_orderly (cDieDown_orderly h)) h

theorem execPDieWarmReset_orderly (h : Orderly L s) : NextOrderly L (execPDieWarmReset s) := .next (settle_orderly (pDieDown_orderly h))

theorem execMemInitComplete_orderly (h : Orderly L s) : NextOrderly L (execMemInitComplete s) := .next (.ite (.of_roll h rfl) h)

theorem execModuleTemperature_orderly {temp} (h : Orderly L s) : NextOrderly L (execModuleTemperature temp s) :=
    .next (.ite h (settle_orderly (modPower_orderly (tempStep_orderly (tempStep_orderly h)))))

/-! ## Setup -/

theorem execSoOnRequest_orderly {v} (h : Orderly L s) : NextOrderly L (execSoOnRequest v s) :=
    .next (hostWord_orderly (fun _ => writeSoReq_orderly) h)

theorem execDebugOpen_orderly {v} (h : Orderly L s) : NextOrderly L (execDebugOpen v s) :=
    .next (hostWord_orderly (fun _ => writeDbg_orderly) h)

theorem execDbgRead_orderly {v} (h : Orderly L s) : NextOrderly L (execDbgRead v s) :=
    .next (hostWord_orderly (fun _ => writeDbgCtrl_orderly) h)

theorem execDbgWrite_orderly {v} (h : Orderly L s) : NextOrderly L (execDbgWrite v s) :=
    .next (hostWord_orderly (fun _ => writeDbgCtrl_orderly) h)

theorem execDebugAccessDone_orderly (h : Orderly L s) : NextOrderly L (execDebugAccessDone s) := by
  unfold execDebugAccessDone
  refine .next ?_
  split
  · exact h
  · refine .ite h ?_
    extract_lets -underBinder +onlyGivenNames t
    have ht : Orderly L t := .ite (debugWrite_orderly h) (debugRead_orderly h)
    exact settle_orderly (.of_roll ht rfl)

/-! ## Access -/

theorem execPDieAccessTimeout_orderly (h : Orderly L s) : NextOrderly L (execPDieAccessTimeout s) := by
  unfold execPDieAccessTimeout
  refine .next ?_
  split
  · exact h
  · exact .ite (.ite (readAs_orderly (modHost_orderly h)) (modHost_orderly h)) h

/-! ## FormingRows -/

theorem afterRun_orderly {c t may f} (hf : ∀ a0 t, Orderly L t → Orderly L (f a0 t)) (h : Orderly L s) : NextOrderly L
    (afterRun c t may f s) :=
    by
  unfold afterRun
  refine .next ?_
  split
  · exact h
  · exact .ite (settle_orderly (hf _ _ h)) h

theorem execBusDeclaredDead_orderly {c} (h : Orderly L s) : NextOrderly L (execBusDeclaredDead c s) :=
    afterRun_orderly (fun _ _ => declareDead_orderly) h

theorem execStartDelayExpire_orderly {c} (h : Orderly L s) : NextOrderly L (execStartDelayExpire c s) :=
    afterRun_orderly (fun _ _ => decideStart_orderly) h

theorem execContactorFailedToClose_orderly {c} (h : Orderly L s) : NextOrderly L (execContactorFailedToClose c s) :=
    afterRun_orderly (fun _ _ => modSeqr_orderly) h

theorem execContactorOpenedWithoutCommand_orderly {c} (h : Orderly L s) : NextOrderly L (execContactorOpenedWithoutCommand c s) :=
    afterRun_orderly (fun _ _ => modSeqr_orderly) h

theorem execBsHoldElapsed_orderly {c} (h : Orderly L s) : NextOrderly L (execBsHoldElapsed c s) :=
    afterRun_orderly (fun _ _ => modSeqr_orderly) h

theorem execSyncWindowsHeld_orderly {c} (h : Orderly L s) : NextOrderly L (execSyncWindowsHeld c s) :=
    afterRun_orderly (fun _ _ => setOutVal_orderly) h

theorem execSyncWindowsNotMet_orderly {c} (h : Orderly L s) : NextOrderly L (execSyncWindowsNotMet c s) :=
    afterRun_orderly (fun _ _ => modSeqr_orderly) h

theorem execStopFactorZero_orderly {c} (h : Orderly L s) : NextOrderly L (execStopFactorZero c s) :=
    afterRun_orderly (fun _ _ => modSeqr_orderly) h

theorem execEnvExitElapsed_orderly {c} (h : Orderly L s) : NextOrderly L (execEnvExitElapsed c s) :=
    afterRun_orderly (fun _ _ => transition_orderly) h

theorem execGapResumeElapsed_orderly {c} (h : Orderly L s) : NextOrderly L (execGapResumeElapsed c s) :=
    afterRun_orderly (fun _ _ => transition_orderly) h

theorem execAnchorFreezeEnd_orderly {c} (h : Orderly L s) : NextOrderly L (execAnchorFreezeEnd c s) :=
    afterRun_orderly (fun _ _ => modRt_orderly) h

theorem execRampComplete_orderly {c} (h : Orderly L s) : NextOrderly L (execRampComplete c s) := by
  unfold execRampComplete
  split
  · exact .next h
  · exact afterRun_orderly (fun _ _ => modRt_orderly) h

theorem execBlendEnd_orderly {c} (h : Orderly L s) : NextOrderly L (execBlendEnd c s) := afterRun_orderly (fun _ _ => endBlend_orderly) h

theorem execFoldBackStart_orderly {c} (h : Orderly L s) : NextOrderly L (execFoldBackStart c s) :=
    afterRun_orderly (fun _ _ ht => raiseFull_orderly (setSw_orderly (modRt_orderly ht))) h

theorem execSweepStart_orderly {c} (h : Orderly L s) : NextOrderly L (execSweepStart c s) :=
    afterRun_orderly (fun _ _ ht => beginPoint_orderly (modRt_orderly ht)) h

theorem execSweepPointEnd_orderly {c} (h : Orderly L s) : NextOrderly L (execSweepPointEnd c s) :=
    afterRun_orderly (fun _ _ ht => .ite (endSweep_orderly (modRt_orderly ht)) (beginPoint_orderly (modRt_orderly ht))) h

/-! ## Status -/

theorem execSafetySetUpdate_orderly (h : Orderly L s) : NextOrderly L (execSafetySetUpdate s) :=
    .next (.ite (settle_orderly (devUpdate_orderly (fun _ => writeSafSet_orderly) h)) h)

theorem execNetworkCounterUpdate_orderly (h : Orderly L s) : NextOrderly L (execNetworkCounterUpdate s) :=
    .next (.ite (settle_orderly (devUpdate_orderly (fun _ => writeNetSet_orderly) h)) h)

/-! ## Gate -/

theorem keepWord_orderly {off w} (h : Orderly L s) : Orderly L (keepWord off w s) :=
  .ite (.of_roll h rfl) (.of_roll h rfl)

theorem writeWord_orderly {off v} (h : Orderly L s) : Orderly L (writeWord off v s) := by
  unfold writeWord
  split
  · exact h
  · exact .ite (rwsWritten_orderly (.ite h (keepWord_orderly h))) (.ite h (keepWord_orderly h))

/-! ## Access -/

theorem writeLanes_orderly {r v} (h : Orderly L s) : Orderly L (writeLanes r v s) :=
    .ite (raise_orderly h) (.ite (writeWord_orderly h) (dispatch_orderly (showTbLimit_orderly (writeWord_orderly h))))

theorem writeTbLanes_orderly {v} (h : Orderly L s) : Orderly L (writeTbLanes v s) :=
    .ite (writeWord_orderly h) (dispatch_orderly (showTbLimit_orderly (writeWord_orderly h)))

/-! ## Time -/

theorem writeLockCfg_orderly {v} (h : Orderly L s) : Orderly L (writeLockCfg v s) := loseLock_orderly (writeWord_orderly h)

/-! ## Events -/

theorem writeInjCtrl_orderly {v} (h : Orderly L s) : Orderly L (writeInjCtrl v s) :=
    .ite (.ite (modEvents_orderly (keepWord_orderly h)) (keepWord_orderly h)) (.ite (modEvents_orderly h) h)

theorem writeInjAddr_orderly {v} (h : Orderly L s) : Orderly L (writeInjAddr v s) := .ite (keepWord_orderly h) h

/-! ## Filter -/

theorem writeTrg_orderly {u off v} (h : Orderly L s) : Orderly L (writeTrg u off v s) := by
  unfold writeTrg
  extract_lets -underBinder +onlyGivenNames s₂ bad s₃ s₄
  have hs₂ : Orderly L s₂ := modTrig_orderly (writeWord_orderly h)
  have hs₃ : Orderly L s₃ := .ite (raise_orderly hs₂) hs₂
  have hs₄ : Orderly L s₄ := modTrig_orderly hs₃
  exact .ite hs₄ (trgTake_orderly hs₄)

/-! ## Adc -/

theorem writeWin_orderly {ch off v} (h : Orderly L s) : Orderly L (writeWin ch off v s) := standWindow_orderly (writeWord_orderly h)

/-! ## Filter -/

theorem writeFltSrc_orderly {n v} (h : Orderly L s) : Orderly L (writeFltSrc n v s) := by
  unfold writeFltSrc
  exact .ite (modChain_orderly (writeWord_orderly h)) (.ite (modChain_orderly (writeWord_orderly h)) (writeWord_orderly h))

/-! ## Setup -/

theorem makeSeal_orderly (h : Orderly L s) : Orderly L (makeSeal s) := by
  unfold makeSeal
  extract_lets -underBinder +onlyGivenNames s₂ s₃ s₄
  have hs₂ : Orderly L s₂ := modPower_orderly h
  have hs₃ : Orderly L s₃ := enterDev_orderly (.of_roll hs₂ rfl)
  have hs₄ : Orderly L s₄ := copyParams_orderly (sealChains_orderly (startBanks_orderly (sealRings_orderly (sealNet_orderly hs₃))))
  exact .ite (raise_orderly hs₄) hs₄

theorem writeSeal_orderly {v} (h : Orderly L s) : Orderly L (writeSeal v s) := .ite h (.ite (makeSeal_orderly h) (modPower_orderly h))

/-! ## Power -/

theorem restoreRegs_orderly {d} (h : Orderly L s) : Orderly L (restoreRegs d s) := .of_roll h rfl

theorem cDieUp_orderly (h : Orderly L s) : Orderly L (cDieUp s) := by
  unfold cDieUp
  extract_lets -underBinder +onlyGivenNames s₂ s₃ s₄ s₅ s₆ p
  have hs₂ : Orderly L s₂ := modPower_orderly h
  have hs₃ : Orderly L s₃ := modSafCh_orderly hs₂
  have hs₄ : Orderly L s₄ := closeCDieWindow_orderly (endDieSafe_orderly (restoreRegs_orderly hs₃))
  have hs₅ : Orderly L s₅ := .ite (loseMemory_orderly hs₄) hs₄
  have hs₆ : Orderly L s₆ := resumeContexts_orderly (reloadCode_orderly (modLoop_orderly hs₅))
  have hp : Orderly L p.2 := fresh_orderly hs₆
  exact reportOrphans_orderly (startReplay_orderly (raise_orderly hp))

theorem pDieUp_orderly (h : Orderly L s) : Orderly L (pDieUp s) := by
  unfold pDieUp
  extract_lets -underBinder +onlyGivenNames core s₂ s₃ s₄ s₅ p
  have hs₂ : Orderly L s₂ := restoreRegs_orderly (modPower_orderly h)
  have hs₃ : Orderly L s₃ := .ite hs₂ (channel1PowerUp_orderly hs₂)
  have hs₄ : Orderly L s₄ := .forAll (fun _ _ => standWindow_orderly) (restartTrigs_orderly (startBanks_orderly hs₃))
  have hs₅ : Orderly L s₅ := netUp_orderly hs₄
  have hp : Orderly L p.2 := fresh_orderly hs₅
  exact startReplay_orderly (raise_orderly hp)

/-- What the AO domain keeps holds no memory and no journal (R537). -/
theorem aoOnly_orderly (s : State) : Orderly L (aoOnly s) := .empty rfl rfl

theorem powerOn_orderly (s : State) : Orderly L (powerOn s) := modPower_orderly (aoAlone_orderly (.empty rfl rfl))

theorem goStabled_orderly (s : State) : Orderly L (goStabled s) := modPower_orderly (aoAlone_orderly (aoOnly_orderly _))

theorem wakeUp_orderly (last : BitVec 3) (cause : BitVec 6) (s : State) : Orderly L (wakeUp last cause s) := by
  unfold wakeUp
  extract_lets t
  have ht : Orderly L t := modEvents_orderly (modPower_orderly (aoAlone_orderly (aoOnly_orderly _)))
  exact .ite (stand_orderly ht) ht

theorem enterStabled_orderly (s : State) : Orderly L (enterStabled s) := goStabled_orderly _

theorem packageReset_orderly (s : State) : Orderly L (packageReset s) := wakeUp_orderly _ _ _

theorem powerFail_orderly (h : Orderly L s) : Orderly L (powerFail s) :=
    .ite (signalFail_orderly (goStabled_orderly _)) (.ite (signalFail_orderly h) (powerFailHandling_orderly (signalFail_orderly h)))

/-! ## PowerRows -/

theorem domainLost_orderly {d} (h : Orderly L s) : Orderly L (domainLost d s) := by
  unfold domainLost
  extract_lets -underBinder +onlyGivenNames bit mark
  have hmark : ∀ t, Orderly L t → Orderly L (mark t) := fun _ => modPower_orderly
  split
  · exact powerOn_orderly _
  · exact hmark _ (pDieDown_orderly h)
  · exact hmark _ (pDieDown_orderly h)
  · exact hmark _ (netOff_orderly (markOutage_orderly h))
  · exact stand_orderly (raise_orderly (modPower_orderly (hmark _ h)))
  · exact hmark _ (cDieDown_orderly h)
  · exact hmark _ (cDieDown_orderly h)
  · exact endpointResets_orderly (hmark _ (cDieDown_orderly h))
  · exact releaseWeirs_orderly (wireAbsent_orderly (modSafCh_orderly (modPower_orderly (hmark _ h))))
  · exact hmark _ (cDieDown_orderly (modPower_orderly h))

/-! ## Power -/

theorem pwrAction_orderly {n a} (ha : pwrAction n = some a) (h : Orderly L s) : Orderly L (a.2.2 s) := by
  unfold pwrAction at ha
  split at ha <;> cases ha <;> dsimp only
  · exact enterDev_orderly h
  · exact leaveService_orderly h
  · exact enterStabled_orderly _
  · exact cDieDown_orderly h
  · exact packageReset_orderly _
  · exact pDieDown_orderly h

theorem writePwrCmd_orderly {v} (h : Orderly L s) : Orderly L (writePwrCmd v s) := by
  unfold writePwrCmd
  refine .ite (cmdResult_orderly h) ?_
  split
  · exact cmdResult_orderly h
  · rename_i a ha
    exact .ite (cmdResult_orderly h) (.ite (cmdResult_orderly h) (pwrAction_orderly ha (cmdResult_orderly h)))

/-! ## Access -/

/-- Every register with a behaviour of its own keeps the journal orderly when it is written. -/
theorem writers_orderly : ∀ w ∈ writers, ∀ i v s, Orderly L s → Orderly L (w.2.2.2 i v s) := by
  simp only [writers, List.forall_mem_append, List.forall_mem_cons, List.not_mem_nil, false_imp_iff, implies_true, and_true]
  and_intros <;> intro i v s h
  · exact writeSeal_orderly h
  · exact writeDbg_orderly h
  · exact writePwrCmd_orderly h
  · exact writeDomStatus_orderly h
  · exact writeRingCtrl_orderly h
  · exact writeInjCtrl_orderly h
  · exact writeInjAddr_orderly h
  · exact writeInjStatus_orderly h
  · exact writeForce_orderly h
  · exact writeFecInfo_orderly h
  · exact writeIslStatus_orderly h
  · exact writeIslTest_orderly h
  · exact writeIslCtrl_orderly h
  · exact writeInjSw_orderly h
  · exact writeWinst_orderly h
  · exact writeFltSrc_orderly h
  · exact writeTrg_orderly h
  · exact writeTrg_orderly h
  · exact writeTrg_orderly h
  · exact writeTrg_orderly h
  · exact writeTrgCmd_orderly h
  · exact writeLanes_orderly h
  · exact writeTbLanes_orderly h
  · exact writeUcodeAddr_orderly h
  · exact writeUcode_orderly h
  · exact writeUcodeCtrl_orderly h
  · exact writeImageCtrl_orderly h
  · exact writeTimeStatus_orderly h
  · exact writeLockCfg_orderly h
  · exact writeSoReq_orderly h
  · exact writeArbOrder_orderly h
  · exact writeArbCfg_orderly h
  · exact writeArbCommit_orderly h
  · exact writeArbStatus_orderly h
  · exact writeDbgAddr_orderly h
  · exact writeDbgCtrl_orderly h
  · exact writeDbgLine_orderly h
  · intro t ht
    obtain ⟨b, -, rfl⟩ := List.mem_map.1 v
    exact writeWin_orderly ht

theorem regWrite_orderly {off v} (h : Orderly L s) : Orderly L (regWrite off v s) := by
  unfold regWrite
  split
  · rename_i f hf
    obtain ⟨w, hw, hi⟩ := List.exists_of_findSome?_eq_some hf
    obtain ⟨i, -, rfl⟩ := Option.map_eq_some_iff.1 hi
    exact writers_orderly w hw i v s h
  · exact writeWord_orderly h

theorem writeReg_orderly {off v} (h : Orderly L s) : Orderly L (writeReg off v s) :=
    .ite (.ite (writeMsix_orderly h) h) (hostWord_orderly (fun _ => regWrite_orderly) h)

theorem hostStore_orderly {off v size} (h : Orderly L s) : Orderly L (hostStore off v size s) := by
  unfold hostStore
  exact .ite (writeReg_orderly (writeReg_orderly h)) (.ite (writeReg_orderly h) h)

theorem serveAccess_orderly {a} (h : Orderly L s) : Orderly L (serveAccess a s) :=
    .ite (readEffect_orderly h) (settle_orderly (regWrite_orderly h))

theorem serveAccesses_orderly (h : Orderly L s) : Orderly L (serveAccesses s) :=
    .forList (fun _ _ => serveAccess_orderly) (modHost_orderly h)

theorem linkReturns_orderly (h : Orderly L s) : Orderly L (linkReturns s) := by
  unfold linkReturns
  extract_lets -underBinder +onlyGivenNames s₂ s₃ s₄
  have hs₂ : Orderly L s₂ := syncTime_orderly (.of_roll h rfl)
  have hs₃ : Orderly L s₃ := deliverEvents_orderly (unstand_orderly hs₂)
  have hs₄ : Orderly L s₄ := .ite (startReplay_orderly hs₃) hs₃
  exact serveAccesses_orderly (.ite (wantResync_orderly hs₄) hs₄)

/-! ## Filter -/

theorem execTriggerConfigWrite_orderly {u w v} (h : Orderly L s) : NextOrderly L (execTriggerConfigWrite u w v s) := by
  unfold execTriggerConfigWrite
  exact .next (hostWord_orderly (fun _ => writeTrg_orderly) h)

theorem execChannelSwitch_orderly {n v} (h : Orderly L s) : NextOrderly L (execChannelSwitch n v s) :=
    .next (hostWord_orderly (fun _ => writeFltSrc_orderly) h)

theorem execFreeze_orderly {n v} (h : Orderly L s) : NextOrderly L (execFreeze n v s) :=
    .next (hostWord_orderly (fun _ => writeFltSrc_orderly) h)

theorem execUnfreeze_orderly {n v} (h : Orderly L s) : NextOrderly L (execUnfreeze n v s) :=
    .next (hostWord_orderly (fun _ => writeFltSrc_orderly) h)

/-! ## Time -/

theorem execTimeLockCfgWrite_orderly {v} (h : Orderly L s) : NextOrderly L (execTimeLockCfgWrite v s) :=
    .next (hostWord_orderly (fun _ => writeLockCfg_orderly) h)

/-! ## Events -/

theorem execArm_orderly {v} (h : Orderly L s) : NextOrderly L (execArm v s) := .next (hostWord_orderly (fun _ => writeInjCtrl_orderly) h)

/-! ## Power -/

theorem pwrCmd_orderly {key action} (h : Orderly L s) : NextOrderly L (pwrCmd key action s) := by
  unfold pwrCmd
  exact .next (hostWord_orderly (fun _ => writePwrCmd_orderly) h)

theorem execEnterService_orderly {key} (h : Orderly L s) : NextOrderly L (execEnterService key s) := pwrCmd_orderly h

theorem execLeaveService_orderly {key} (h : Orderly L s) : NextOrderly L (execLeaveService key s) := pwrCmd_orderly h

theorem execEnterStabled_orderly {key} (h : Orderly L s) : NextOrderly L (execEnterStabled key s) := pwrCmd_orderly h

theorem execPwrCmdCDieWarmReset_orderly {key} (h : Orderly L s) : NextOrderly L (execPwrCmdCDieWarmReset key s) := pwrCmd_orderly h

theorem execPwrCmdPackageWarmReset_orderly {key} (h : Orderly L s) : NextOrderly L (execPwrCmdPackageWarmReset key s) := pwrCmd_orderly h

theorem execPwrCmdPDieWarmReset_orderly {key} (h : Orderly L s) : NextOrderly L (execPwrCmdPDieWarmReset key s) := pwrCmd_orderly h

/-! ## PowerRows -/

theorem execPowerFail_orderly {mj} (h : Orderly L s) : NextOrderly L (execPowerFail mj s) :=
    .next (.ite (settle_orderly (powerFail_orderly (noteStore_orderly h))) h)

theorem execStoreAoReserve_orderly {mj} (h : Orderly L s) : NextOrderly L (execStoreAoReserve mj s) :=
    .next (.ite (settle_orderly (goStabled_orderly _)) h)

theorem execPowerOnReset_orderly : NextOrderly L (execPowerOnReset s) := .next (settle_orderly (powerOn_orderly _))

theorem execDomainRegulationLoss_orderly {dom} (h : Orderly L s) : NextOrderly L (execDomainRegulationLoss dom s) :=
    .next (.ite (settle_orderly (domainLost_orderly h)) h)

theorem execCDieResetEnd_orderly (h : Orderly L s) : NextOrderly L (execCDieResetEnd s) :=
    .next (.ite h (settle_orderly (cDieUp_orderly h)))

theorem execPDieResetEnd_orderly (h : Orderly L s) : NextOrderly L (execPDieResetEnd s) :=
    .next (.ite h (settle_orderly (pDieUp_orderly h)))

theorem execWake_orderly {cause lasted mv} (h : Orderly L s) : NextOrderly L (execWake cause lasted mv s) :=
    .next (.ite (settle_orderly (wakeUp_orderly _ _ _)) h)

/-! ## Setup -/

theorem execSetupSeal_orderly {v} (h : Orderly L s) : NextOrderly L (execSetupSeal v s) :=
    .next (hostWord_orderly (fun _ => writeSeal_orderly) h)

/-! ## Access -/

theorem execRegisterWrite_orderly {off v size} (h : Orderly L s) : NextOrderly L (execRegisterWrite off v size s) :=
    .next (hostStore_orderly h)

theorem execMillraceLinkUp_orderly (h : Orderly L s) : NextOrderly L (execMillraceLinkUp s) :=
    .next (.ite (settle_orderly (linkReturns_orderly h)) h)

/-! ## Every command, every step -/

/-- Every command but an acceptance, which adds an entry. -/
theorem exec_orderly (h : Orderly L s) : ∀ c : Instr, (∀ q, c ≠ .descriptorAccept q) → NextOrderly L (exec c s)
  | .nop _, _ => execNop_orderly h
  | .ctxWrite _, _ => execCtxWrite_orderly h
  | .ctxRead _, _ => execCtxRead_orderly h
  | .ctxEnable _, _ => execCtxEnable_orderly h
  | .ctxDisable _, _ => execCtxDisable_orderly h
  | .regionMode _, _ => execRegionMode_orderly h
  | .regionCommit _, _ => execRegionCommit_orderly h
  | .captureArm _, _ => execCaptureArm_orderly h
  | .captureCopy _, _ => execCaptureCopy_orderly h
  | .captureStop _, _ => execCaptureStop_orderly h
  | .probeStart _, _ => execProbeStart_orderly h
  | .probeStop _, _ => execProbeStop_orderly h
  | .netTx _, _ => execNetTx_orderly h
  | .netRxPost _, _ => execNetRxPost_orderly h
  | .timeAdjust _, _ => execTimeAdjust_orderly h
  | .weirAcquire _, _ => execWeirAcquire_orderly h
  | .weirRelease _, _ => execWeirRelease_orderly h
  | .pairSwap _, _ => execPairSwap_orderly h
  | .pairResync _, _ => execPairResync_orderly h
  | .faultClear _, _ => execFaultClear_orderly h
  | .eventForce _, _ => execEventForce_orderly h
  | .barrier _, _ => execBarrier_orderly h
  | .setupSeal _, _ => execSetupSeal_orderly h
  | .enterService _, _ => execEnterService_orderly h
  | .leaveService _, _ => execLeaveService_orderly h
  | .enterStabled _, _ => execEnterStabled_orderly h
  | .pwrCmdCDieWarmReset _, _ => execPwrCmdCDieWarmReset_orderly h
  | .pwrCmdPackageWarmReset _, _ => execPwrCmdPackageWarmReset_orderly h
  | .pwrCmdPDieWarmReset _, _ => execPwrCmdPDieWarmReset_orderly h
  | .restart _, _ => execRestart_orderly h
  | .leUcodeDataWrite _, _ => execLeUcodeDataWrite_orderly h
  | .verify _, _ => execVerify_orderly h
  | .verifyDone, _ => execVerifyDone_orderly h
  | .load _, _ => execLoad_orderly h
  | .imageLoadDone _, _ => execImageLoadDone_orderly h
  | .adcQdataRead _, _ => execAdcQdataRead_orderly h
  | .go _ _, _ => execGo_orderly h
  | .timeTxqE0Read, _ => execTimeTxqE0Read_orderly h
  | .timeNowRead, _ => execTimeNowRead_orderly h
  | .aoTimeRead, _ => execAoTimeRead_orderly h
  | .timeLockCfgWrite _, _ => execTimeLockCfgWrite_orderly h
  | .channelSwitch _ _, _ => execChannelSwitch_orderly h
  | .freeze _ _, _ => execFreeze_orderly h
  | .unfreeze _ _, _ => execUnfreeze_orderly h
  | .triggerConfigWrite _ _ _, _ => execTriggerConfigWrite_orderly h
  | .rearm _ _, _ => execRearm_orderly h
  | .comparatorSelfTest _ _, _ => execComparatorSelfTest_orderly h
  | .rebias _ _, _ => execRebias_orderly h
  | .arbCommit _, _ => execArbCommit_orderly h
  | .arbCommitApply, _ => execArbCommitApply_orderly h
  | .arm _, _ => execArm_orderly h
  | .injectionApply, _ => execInjectionApply_orderly h
  | .evtForceWrite _ _, _ => execEvtForceWrite_orderly h
  | .soOnRequest _, _ => execSoOnRequest_orderly h
  | .debugOpen _, _ => execDebugOpen_orderly h
  | .dbgRead _, _ => execDbgRead_orderly h
  | .dbgWrite _, _ => execDbgWrite_orderly h
  | .debugAccessDone, _ => execDebugAccessDone_orderly h
  | .registerWrite _ _ _, _ => execRegisterWrite_orderly h
  | .pDieAccessTimeout, _ => execPDieAccessTimeout_orderly h
  | .doorbellPoll, _ => execDoorbellPoll_orderly h
  | .descriptorAccept _, hc => absurd rfl (hc _)
  | .journalAcknowledge _, _ => execJournalAcknowledge_orderly h
  | .timedActionDue _, _ => execTimedActionDue_orderly h
  | .completionPost _, _ => execCompletionPost_orderly h
  | .msixSignal _, _ => execMsixSignal_orderly h
  | .hostDmaReadComplete _ _ _, _ => execHostDmaReadComplete_orderly h
  | .hostDmaError _, _ => execHostDmaError_orderly h
  | .hostSilent, _ => execHostSilent_orderly h
  | .pcieEndpointReset, _ => execPcieEndpointReset_orderly h
  | .pcieLinkDown, _ => execPcieLinkDown_orderly h
  | .pcieLinkReturn, _ => execPcieLinkReturn_orderly h
  | .journalReplay _, _ => execJournalReplay_orderly h
  | .patrolScrub _ _, _ => execPatrolScrub_orderly h
  | .millraceFrameReceive _ _ _, _ => execMillraceFrameReceive_orderly h
  | .millraceLinkFailure _ _, _ => execMillraceLinkFailure_orderly h
  | .millraceLinkUp, _ => execMillraceLinkUp_orderly h
  | .regionBoundary _, _ => execRegionBoundary_orderly h
  | .regionTrigger _, _ => execRegionTrigger_orderly h
  | .islandWrap _, _ => execIslandWrap_orderly h
  | .unitEdge _, _ => execUnitEdge_orderly h
  | .tripAssert _, _ => execTripAssert_orderly h
  | .recoveryEnd _, _ => execRecoveryEnd_orderly h
  | .dutyFrameReceive _, _ => execDutyFrameReceive_orderly h
  | .cDieLossDetect _, _ => execCDieLossDetect_orderly h
  | .holdTimeEnd _, _ => execHoldTimeEnd_orderly h
  | .contextRelease _, _ => execContextRelease_orderly h
  | .timebaseSlot, _ => execTimebaseSlot_orderly h
  | .contextRunComplete _, _ => execContextRunComplete_orderly h
  | .dutyFrameSend _, _ => execDutyFrameSend_orderly h
  | .prefetchIssue _, _ => execPrefetchIssue_orderly h
  | .prefetchLanded _, _ => execPrefetchLanded_orderly h
  | .writebackSweep, _ => execWritebackSweep_orderly h
  | .loopEngineHeartbeatLost, _ => execLoopEngineHeartbeatLost_orderly h
  | .busDeclaredDead _, _ => execBusDeclaredDead_orderly h
  | .startDelayExpire _, _ => execStartDelayExpire_orderly h
  | .contactorFailedToClose _, _ => execContactorFailedToClose_orderly h
  | .contactorOpenedWithoutCommand _, _ => execContactorOpenedWithoutCommand_orderly h
  | .bsHoldElapsed _, _ => execBsHoldElapsed_orderly h
  | .syncWindowsHeld _, _ => execSyncWindowsHeld_orderly h
  | .syncWindowsNotMet _, _ => execSyncWindowsNotMet_orderly h
  | .envExitElapsed _, _ => execEnvExitElapsed_orderly h
  | .gapResumeElapsed _, _ => execGapResumeElapsed_orderly h
  | .anchorFreezeEnd _, _ => execAnchorFreezeEnd_orderly h
  | .foldBackStart _, _ => execFoldBackStart_orderly h
  | .stopFactorZero _, _ => execStopFactorZero_orderly h
  | .rampComplete _, _ => execRampComplete_orderly h
  | .blendEnd _, _ => execBlendEnd_orderly h
  | .sweepStart _, _ => execSweepStart_orderly h
  | .sweepPointEnd _, _ => execSweepPointEnd_orderly h
  | .islandLinkLost _ _, _ => execIslandLinkLost_orderly h
  | .islandLinkRelock _, _ => execIslandLinkRelock_orderly h
  | .islandInterlock _, _ => execIslandInterlock_orderly h
  | .switchingTimeMeasured _ _ _ _ _, _ => execSwitchingTimeMeasured_orderly h
  | .uvlo _ _, _ => execUvlo_orderly h
  | .uvloRelease _ _, _ => execUvloRelease_orderly h
  | .desaturationArmed _, _ => execDesaturationArmed_orderly h
  | .desaturation _ _, _ => execDesaturation_orderly h
  | .softTurnOffEnd _, _ => execSoftTurnOffEnd_orderly h
  | .comparatorTestDone _ _, _ => execComparatorTestDone_orderly h
  | .islandOverTemperature _ _, _ => execIslandOverTemperature_orderly h
  | .islandStart _, _ => execIslandStart_orderly h
  | .islandReady _, _ => execIslandReady_orderly h
  | .islandStartFailed _ _, _ => execIslandStartFailed_orderly h
  | .islandBlockReset _, _ => execIslandBlockReset_orderly h
  | .islandBiasRestore _, _ => execIslandBiasRestore_orderly h
  | .bankTimer _, _ => execBankTimer_orderly h
  | .samplingInstant _ _, _ => execSamplingInstant_orderly h
  | .setComplete _, _ => execSetComplete_orderly h
  | .injectedTrigger _, _ => execInjectedTrigger_orderly h
  | .injectedSamplingInstant _ _, _ => execInjectedSamplingInstant_orderly h
  | .injectedConversionComplete _, _ => execInjectedConversionComplete_orderly h
  | .calibrationStepStart _, _ => execCalibrationStepStart_orderly h
  | .calibrationHandOver _, _ => execCalibrationHandOver_orderly h
  | .calibrationMeasurementEnd _ _ _, _ => execCalibrationMeasurementEnd_orderly h
  | .calibrationHandBack _, _ => execCalibrationHandBack_orderly h
  | .packedFrameFlush _, _ => execPackedFrameFlush_orderly h
  | .windowComparatorAsserted _ _, _ => execWindowComparatorAsserted_orderly h
  | .windowComparatorRelease _ _, _ => execWindowComparatorRelease_orderly h
  | .chainFrameFlush _, _ => execChainFrameFlush_orderly h
  | .triggerHoldOffEnd _, _ => execTriggerHoldOffEnd_orderly h
  | .captureTrigger _, _ => execCaptureTrigger_orderly h
  | .captureDone _, _ => execCaptureDone_orderly h
  | .captureProgressWrite _, _ => execCaptureProgressWrite_orderly h
  | .arbiterGrant _ _ _, _ => execArbiterGrant_orderly h
  | .refresh, _ => execRefresh_orderly h
  | .arbiterWatchdog, _ => execArbiterWatchdog_orderly h
  | .weirAcquireTimedOut _, _ => execWeirAcquireTimedOut_orderly h
  | .weirsReleased _, _ => execWeirsReleased_orderly h
  | .safetySetUpdate, _ => execSafetySetUpdate_orderly h
  | .networkCounterUpdate, _ => execNetworkCounterUpdate_orderly h
  | .frameReceive _ _ _, _ => execFrameReceive_orderly h
  | .txTimestamp _, _ => execTxTimestamp_orderly h
  | .supervisionFrameSend, _ => execSupervisionFrameSend_orderly h
  | .lanSilent _, _ => execLanSilent_orderly h
  | .prpNodeExpire _, _ => execPrpNodeExpire_orderly h
  | .linkUp _, _ => execLinkUp_orderly h
  | .linkDown _, _ => execLinkDown_orderly h
  | .timeLockLost, _ => execTimeLockLost_orderly h
  | .sampleFrameReceive, _ => execSampleFrameReceive_orderly h
  | .dutyCopyReceive, _ => execDutyCopyReceive_orderly h
  | .helloSend, _ => execHelloSend_orderly h
  | .helloReceive, _ => execHelloReceive_orderly h
  | .partnerDown, _ => execPartnerDown_orderly h
  | .faultDeclarationReceive, _ => execFaultDeclarationReceive_orderly h
  | .controlDieFailed _ _, _ => execControlDieFailed_orderly h
  | .parameterFrameReceive, _ => execParameterFrameReceive_orderly h
  | .resynchronisationStart _, _ => execResynchronisationStart_orderly h
  | .checkpointChunkReceive, _ => execCheckpointChunkReceive_orderly h
  | .checkpointCommitReceive, _ => execCheckpointCommitReceive_orderly h
  | .resynchronisationFailed _, _ => execResynchronisationFailed_orderly h
  | .eventCollect, _ => execEventCollect_orderly h
  | .faultRecovered _, _ => execFaultRecovered_orderly h
  | .shadowWindowEnd _, _ => execShadowWindowEnd_orderly h
  | .safetyInputChange _ _ _ _, _ => execSafetyInputChange_orderly h
  | .discrepancyFault _ _, _ => execDiscrepancyFault_orderly h
  | .startUpTestPassed _, _ => execStartUpTestPassed_orderly h
  | .secondPathDecode _ _, _ => execSecondPathDecode_orderly h
  | .gateEnable, _ => execGateEnable_orderly h
  | .soTestPulse _, _ => execSoTestPulse_orderly h
  | .soTestPulseEnd _ _ _, _ => execSoTestPulseEnd_orderly h
  | .safeOutputOverload _ _ _, _ => execSafeOutputOverload_orderly h
  | .contactorFeedbackFault _ _, _ => execContactorFeedbackFault_orderly h
  | .channel2Rejoined, _ => execChannel2Rejoined_orderly h
  | .channel2AbsentTooLong, _ => execChannel2AbsentTooLong_orderly h
  | .channel2DidNotFollowDemand, _ => execChannel2DidNotFollowDemand_orderly h
  | .path1ReadbackPulse _ _, _ => execPath1ReadbackPulse_orderly h
  | .channel1SelfTest _, _ => execChannel1SelfTest_orderly h
  | .channel2SelfCheck _, _ => execChannel2SelfCheck_orderly h
  | .supplyPulseTest _ _ _, _ => execSupplyPulseTest_orderly h
  | .dchOverload _ _ _, _ => execDchOverload_orderly h
  | .dchRetry _, _ => execDchRetry_orderly h
  | .cdrvOverload _ _, _ => execCdrvOverload_orderly h
  | .inputLow _, _ => execInputLow_orderly h
  | .inputLoss _ _, _ => execInputLoss_orderly h
  | .inputReturn _ _, _ => execInputReturn_orderly h
  | .powerFail _, _ => execPowerFail_orderly h
  | .storeAoReserve _, _ => execStoreAoReserve_orderly h
  | .powerOnReset, _ => execPowerOnReset_orderly
  | .domainRegulationLoss _, _ => execDomainRegulationLoss_orderly h
  | .pdNetRestarted, _ => execPdNetRestarted_orderly h
  | .pdIsoRestart, _ => execPdIsoRestart_orderly h
  | .memsReferenceLost _ _, _ => execMemsReferenceLost_orderly h
  | .memsReferenceRecovered _, _ => execMemsReferenceRecovered_orderly h
  | .pllLockLost _, _ => execPllLockLost_orderly h
  | .aoClockMeasure _, _ => execAoClockMeasure_orderly h
  | .cDieWarmReset, _ => execCDieWarmReset_orderly h
  | .cDieResetEnd, _ => execCDieResetEnd_orderly h
  | .autoCDieReset, _ => execAutoCDieReset_orderly h
  | .pDieWarmReset, _ => execPDieWarmReset_orderly h
  | .pDieResetEnd, _ => execPDieResetEnd_orderly h
  | .wake _ _ _, _ => execWake_orderly h
  | .memInitComplete, _ => execMemInitComplete_orderly h
  | .moduleTemperature _, _ => execModuleTemperature_orderly h
  | .sf2FaultCleared _, _ => execSf2FaultCleared_orderly h
  | .safeOutputReadbackFault _ _, _ => execSafeOutputReadbackFault_orderly h
  | .cdSafRestarted, _ => execCdSafRestarted_orderly h
  | .postedWriteErrorReported _ _, _ => execPostedWriteErrorReported_orderly h
  | .portFrameBoundary _, _ => execPortFrameBoundary_orderly h
  | .millraceFrameBoundary _, _ => execMillraceFrameBoundary_orderly h
  | .inputLowCleared _, _ => execInputLowCleared_orderly h


theorem exec_adds (h : Orderly L s) (c : Instr) : ∃ k, NextOrderly (L ++ [(k, s.rings.nextAsn)]) (exec c s) := by
  by_cases hc : ∃ q, c = .descriptorAccept q
  · obtain ⟨q, rfl⟩ := hc
    exact execDescriptorAccept_orderly h
  · exact ⟨0, fun t ht => (exec_orderly h c (fun q hq => hc ⟨q, hq⟩) t ht).mono (List.sublist_append_left _ _)⟩

/-- A step leaves a sound journal, in which no key is new but one with the next ASN. -/
theorem step_orderly (h : Orderly L s) (ht : step s = .next t) : ∃ k, Orderly (L ++ [(k, s.rings.nextAsn)]) t := by
  cases hp : s.pending with
  | nil =>
    rw [step_nil hp] at ht
    obtain rfl := Host.Outcome.next.inj ht
    exact ⟨0, (idle_orderly h).mono (List.sublist_append_left _ _)⟩
  | cons c rest =>
    rw [step_cons hp] at ht
    have hq : Orderly L { s with pending := rest } := .of_roll h rfl
    obtain ⟨k, hk⟩ := exec_adds hq c
    exact ⟨k, hk t ht⟩

end Sys2Proof.Machine

namespace Sys2Proof

open Machine

/-- Settles O51: no command adds a key to the journal but an acceptance, whose slot is free and whose ASN is the next, and whatever an operation names
it also holds. -/
theorem stepKeepsJournalSound : Obligations.StepKeepsJournalSound := by
  unfold Obligations.StepKeepsJournalSound
  refine ⟨fun s t hs ht => ?_, fun s t hs ha hn ht => ?_⟩
  · obtain ⟨k, hk⟩ := step_orderly (.of_sound hs) ht
    exact hk.sound
  · obtain ⟨k, hk⟩ := step_orderly (.of_sound hs) ht
    have hfresh : (s.keys ++ [(k, s.rings.nextAsn)]).Pairwise fun x y => x.2 ≠ y.2 := by
      refine List.pairwise_append.2 ⟨asnsDiffer_iff.1 ha, .cons nofun .nil, fun x hx y hy => ?_⟩
      obtain ⟨e, he, rfl⟩ := List.mem_map.1 hx
      rw [List.mem_singleton.1 hy]
      exact hn e he
    exact asnsDiffer_iff.2 (hfresh.sublist hk.keys)

end Sys2Proof
end

section
-- One proof after another, as above: elaborated side by side they wait for the same lemmas, each with a thread and its stack.
set_option Elab.async false

/-!
SUPPORT. The replay of the journal, case by case (R365 to R368), what a completion says of a command that has been replayed, and the scrub of a line
with symbol errors (R376, R377).
-/
namespace Sys2Proof.Machine

open Sys2Proof

variable {s t : State} {k : Slot} {e : JEntry} {l : List ReadBack}

/-! ## The whole replay -/

/-- A replay of a journal without symbol errors, its rings' read-back failures forgotten and its entries not yet handled. -/
def replayBegun (s : State) : State := s.modRings fun r => { r with sq := r.sq.map fun x => { x with readBackFailed := false } }

/-- The entries that a replay handles: those not posted that the C-die does not hold, in the journal's order (R366). -/
def State.toReplay (s : State) : List JEntry := s.rings.journal.filter fun e => e.state != .posted && !s.workHeld e.slot

theorem execJournalReplay_clean (hr : s.rings.replaying = true) (hp : s.pReach = true) (hc : s.power.cRun = true) (hj : s.rings.journalErr = [])
    (ht : t = forList (replayEntry l) s.toReplay (replayBegun s)) :
    execJournalReplay l s = .next (settle s (deliverHeld (raise 162 evReplayDone (BitVec.ofNat 32 t.rings.lastCause.toNat)
      (BitVec.ofNat 32 (s.toReplay.filter fun e => t.rings.rePost.any fun p => p.slot == e.slot && !p.reApplied).length)
      (t.modRings fun r => { r with replaying := false })))) := by
  subst ht
  unfold execJournalReplay
  rw [hr, hp, hc, hj]
  rfl

/-! ## One entry -/

section
variable (hw : s.workHeld e.slot = false)
include hw

theorem replayEntry_written {b : ReadBack} (hb : (l.find? fun b => b.slot == e.slot) = some b) (hci : e.ciValid = true)
    (hh : b.held = some (e.asn, s.cqPhase e.cq e.cqIdx)) : replayEntry l e s = freeEntry e.slot s := by
  simp [replayEntry, hw, hb, hci, hh]

theorem replayEntry_unreadable {b : ReadBack} (hb : (l.find? fun b => b.slot == e.slot) = some b) (hci : e.ciValid = true) (hh : b.held = none) :
    replayEntry l e s = readBackFailed e s := by
  simp [replayEntry, hw, hb, hci, hh]

/-- Another completion stands where an APPLIED entry's was to be written. -/
theorem replayEntry_overwritten {b : ReadBack} {h : Word32 × Bool} (hb : (l.find? fun b => b.slot == e.slot) = some b)
    (hh : b.held = some h) (hne : h ≠ (e.asn, s.cqPhase e.cq e.cqIdx)) (ha : e.state = .applied) :
    replayEntry l e s = skipEntry e false none s := by
  have hw' : (h.1 == e.asn && h.2 == s.cqPhase e.cq e.cqIdx) = false := by
    rw [Bool.eq_false_iff]
    intro h2
    obtain ⟨h3, h4⟩ := Bool.and_eq_true_iff.1 h2
    exact hne (Prod.ext (beq_iff_eq.1 h3) (beq_iff_eq.1 h4))
  simp [replayEntry, hw, hb, hh, ha, hw']

section
variable (hci : e.ciValid = false)
include hci

theorem replayEntry_applied (ha : e.state = .applied) : replayEntry l e s = skipEntry e false none s := by
  simp [replayEntry, hw, hci, ha]

theorem replayEntry_found (ha : e.state = .accepted) (ht : s.appliedOnTarget e = true) : replayEntry l e s = skipApplied e s := by
  simp [replayEntry, hw, hci, ha, ht]

theorem replayEntry_return (ha : e.state = .accepted) (ht : s.appliedOnTarget e = false) : replayEntry l e s = returnEntry e s := by
  simp [replayEntry, hw, hci, ha, ht]

end

end

theorem freeEntry_free : (freeEntry k s).entry k = none := by
  refine List.find?_eq_none.2 fun e he => ?_
  obtain ⟨-, hk⟩ := List.mem_filter.1 he
  simpa using hk

theorem readMem_clean {a n : Nat} {r : BitVec 8} {y : BitVec 4} (h : s.memErr = []) : readMem a n r y s = (none, s) := by
  have hl : s.errLines a n = [] := by rw [State.errLines, h, List.filter_nil]
  rw [readMem, hl]
  rfl

theorem skipApplied_clean (hm : s.memErr = []) (ha : leAt (s.bytes (outcomeAddr e.slot) 32) 0 4 = e.asn.toNat) :
    skipApplied e s = skipEntry e false (some (BitVec.ofNat 16 (leAt (s.bytes (outcomeAddr e.slot) 32) 4 2),
      BitVec.ofNat 64 (leAt (s.bytes (outcomeAddr e.slot) 32) 16 8))) s := by
  simp only [skipApplied, readMem_clean hm, ha, bne_self_eq_false, Option.isSome_none, Bool.or_self]

theorem returnEntry_clean (hm : s.memErr = []) (hb : s.bufferHeld e = false) :
    returnEntry e s = returnWork e (if e.timed && !s.atTimeReached e.slot then .timed else .ready) s := by
  simp [returnEntry, readMem_clean hm, hb]

/-! ## What the completion of a replayed command says (R368) -/

theorem ofLe_lt (l : List Byte) : ofLe l < 256 ^ l.length := by
  induction l with
  | nil => exact Nat.one_pos
  | cons b l ih =>
    have hb := b.isLt
    rw [ofLe, List.length_cons, Nat.pow_succ]
    omega

theorem leAt_two_lt (l : List Byte) (i : Nat) : leAt l i 2 < 2 ^ 16 := by
  have h := ofLe_lt (bytesAt l i 2)
  rwa [bytesAt, List.length_map, List.length_range] at h

theorem outcome_of_rePost {p : RePost} (h : (s.rings.rePost.find? fun p => p.slot == e.slot) = some p) (hl : p.lost = false) :
    s.outcome e = (stReplayed, BitVec.ofNat 32 ((p.kept.getD (e.status, e.result)).1.toNat + 2 ^ 16 * (if p.reApplied then 2 else 1) +
      2 ^ 20 * p.cause.toNat), (p.kept.getD (e.status, e.result)).2) := by
  simp [State.outcome, h, hl, b2n]

theorem rePost_find_last {l : List RePost} {p : RePost} (hl : l.all (fun q => q.slot != k) = true) (hp : p.slot = k) :
    ((l ++ [p]).find? fun q => q.slot == k) = some p := by
  have hn : (l.find? fun q => q.slot == k) = none := List.find?_eq_none.2 fun q hq => by simpa using List.all_eq_true.1 hl q hq
  rw [List.find?_append, hn, Option.none_or, List.find?_cons_of_pos (by simp [hp])]

/-- An entry skipped is posted with its own words, or with those of its outcome record. -/
theorem skipEntry_outcome {kept : Option (Word16 × Word64)} (h : s.rings.rePost.all (fun p => p.slot != e.slot) = true) :
    (skipEntry e false kept s).outcome e = (stReplayed, BitVec.ofNat 32 ((kept.getD (e.status, e.result)).1.toNat + 2 ^ 16 +
      2 ^ 20 * s.rings.lastCause.toNat), (kept.getD (e.status, e.result)).2) :=
  outcome_of_rePost (s := skipEntry e false kept s) (rePost_find_last h rfl) rfl

theorem beforeClose_rePost {b : Bool} {p : Word16 × Word32} {r : Word64} : (beforeClose b k e p r s).rings.rePost = s.rings.rePost := by
  cases b with
  | false => rfl
  | true => exact congrArg (fun l => l.2.2.2.1) (effectMarks_roll k _ _ s)

theorem beforeClose_cRun {b : Bool} {p : Word16 × Word32} {r : Word64} : (beforeClose b k e p r s).power.cRun = s.power.cRun := by
  have hrec (l : List Byte) (u : State) : (recordOutcome k l u).ledger = u.ledger := by
    unfold recordOutcome
    split
    · exact write_ledger _ _ _ u
    · rfl
  cases b with
  | false => rfl
  | true => exact congrArg (fun l => l.2.2) ((recordTarget_ledger _ _).trans (hrec _ _))

theorem closeCommand_rePost {f : JEntry → JEntry} {re : List RePost} {n : Word16} (hc : s.power.cRun = true) :
    (closeCommand k f re n s).rings.rePost = s.rings.rePost ++ re := by
  have hrun : (dropWork k (modEntry k f s)).power.cRun = true := (modEntry_cRun f).trans hc
  have hre : (modEntry k f s).rings.rePost = s.rings.rePost := congrArg (fun l => l.2.2.2.1) (modEntry_roll k f s)
  rw [closeCommand, if_pos hrun]
  exact congrArg (· ++ re) hre

theorem finish_rePost {st : Word16} {d : Word32} {r : Word64} {b : Bool} (he : s.entry k = some e) (hc : s.power.cRun = true) :
    (finish k st d r b s).rings.rePost = s.rings.rePost ++ (s.reApplication k e.opcode.toNat).toList := by
  obtain ⟨n, hn⟩ := finish_eq_close (st := st) (d := d) (r := r) (b := b) he rfl
  rw [hn, closeCommand_rePost (beforeClose_cRun.trans hc), beforeClose_rePost]

/-! ## The scrub (R376, R377): an error's capture changes nothing but the events -/

section
variable {n : Nat} {x : SymErr} {r : BitVec 8} {y : BitVec 4}

theorem readLine_corrected (h : x.length ≤ 2) : ∃ t, readLine n x r y s = raise 160 evMemCorrected 0 0 t ∧
    t.memErr = s.memErr.filter (fun e => e.1 ≠ n) ∧ t.memCorr = satInc s.memCorr ∧ t.mem = s.mem := by
  have hx : x.corrected = true := decide_eq_true h
  rw [readLine, hx]
  exact ⟨_, rfl, rfl, rfl, rfl⟩

theorem readLine_uncorrectable (h : 2 < x.length) : ∃ t, readLine n x r y s = raise 160 evMemUncorrectable 0 0 t ∧
    t.memErr = s.memErr ∧ t.memUncorr = satInc s.memUncorr ∧ t.mem = s.mem := by
  have hx : x.corrected = false := decide_eq_false (Nat.not_le.2 h)
  rw [readLine, hx]
  exact ⟨_, rfl, rfl, rfl, rfl⟩

theorem readJournal_corrected (h : x.length ≤ 2) : ∃ t, readJournal n x r y s = raise 161 evJrnlCorrected 0 0 t ∧
    t.jrnlCorr = satInc s.jrnlCorr ∧ t.rings.journal = s.rings.journal ∧
    t.rings.journalErr = s.rings.journalErr.filter fun e => e.1 ≠ n := by
  have hx : x.corrected = true := decide_eq_true h
  rw [readJournal, hx]
  exact ⟨_, rfl, rfl, rfl, rfl⟩

theorem readJournal_lost (h : 2 < x.length) : ∃ t, readJournal n x r y s = raise 161 evJrnlLost (BitVec.ofNat 32 n) 0 t ∧
    t.jrnlUncorr = satInc s.jrnlUncorr ∧ t.rings.journal = (s.rings.journal.filter fun e => e.slot.val ≠ n) ∧
    t.rings.journalErr = s.rings.journalErr.filter fun e => e.1 ≠ n := by
  have hx : x.corrected = false := decide_eq_false (Nat.not_le.2 h)
  rw [readJournal, hx]
  exact ⟨_, rfl, rfl, rfl, rfl⟩

end

theorem execPatrolScrub_memory {n : Nat} {x : SymErr} (hx : (s.memErr.find? fun e => e.1 == n) = some (n, x)) (hc : s.power.cRun = true)
    (hs : s.power.selfRefresh = false) (hr : s.refreshing = false) : execPatrolScrub false n s = .next (settle s (readLine n x 0x07 3 s)) := by
  simp [execPatrolScrub, hx, hc, hs, hr]

theorem execPatrolScrub_journal {n : Nat} {x : SymErr} (hx : (s.rings.journalErr.find? fun e => e.1 == n) = some (n, x)) :
    execPatrolScrub true n s = .next (settle s (readJournal n x 0x07 3 s)) := by
  simp [execPatrolScrub, hx]

end Sys2Proof.Machine

namespace Sys2Proof

open Machine

/-- Settles O20: the replay's cases one by one, an entry's place among those to be posted, and the two outcomes of each scrub. -/
theorem replayAndScrubComplete : Obligations.ReplayAndScrubComplete := by
  unfold Obligations.ReplayAndScrubComplete
  refine ⟨?empty, ?replay, ?readBack, ?handled, ?reApplied, ?line, ?badLine, ?slot, ?lostSlot⟩
  case empty =>
    intro l s hr hp hc he hj _
    have htodo : s.toReplay = [] := by rw [State.toReplay, hj, List.filter_nil]
    refine ⟨(replayBegun s).modRings fun r => { r with replaying := false }, ?_, rfl, hj⟩
    refine (execJournalReplay_clean hr hp hc he rfl).trans ?_
    rw [htodo]
    rfl
  case replay =>
    intro l s hr hp hc he
    exact ⟨_, _, rfl, rfl, execJournalReplay_clean hr hp hc he rfl⟩
  case readBack =>
    intro l b e s hb hci hw
    refine ⟨fun hh => ?_, replayEntry_unreadable hw hb hci, fun h hh hne ha => replayEntry_overwritten hw hb hh hne ha⟩
    rw [replayEntry_written hw hb hci hh]
    exact ⟨rfl, freeEntry_free⟩
  case handled =>
    intro l e s hci hw hn
    refine ⟨fun ha => ⟨_, rfl, ?_⟩, fun ha ht hm hasn => ⟨_, rfl, ?_⟩, fun ha ht hb hm => ?_⟩
    · rw [replayEntry_applied hw hci ha]
      exact ⟨rfl, skipEntry_outcome hn⟩
    · rw [replayEntry_found hw hci ha ht, skipApplied_clean hm hasn]
      refine ⟨rfl, (skipEntry_outcome hn).trans ?_⟩
      rw [Option.getD_some, BitVec.toNat_ofNat, Nat.mod_eq_of_lt (leAt_two_lt _ _)]
    · rw [replayEntry_return hw hci ha ht, returnEntry_clean hm hb]
      refine ⟨_, rfl, rfl, ?_, rfl⟩
      simp only [Bool.and_eq_true, Bool.not_eq_true']
  case reApplied =>
    intro k st d r b e w c s he hwork hrep hc hn
    obtain ⟨n, hx⟩ := finish_entry_same (st := st) (d := d) (r := r) (b := b) he hc
    refine ⟨_, hx, ?_⟩
    have hslot : e.slot = k := slot_of_entry he
    have hre : s.reApplication k e.opcode.toNat =
        some { slot := k, cause := c, reApplied := true, handled := w.replayed e.opcode.toNat } := by
      rw [State.reApplication, hwork, Option.bind_some, hrep, Option.map_some]
    refine (outcome_of_rePost (p := { slot := k, cause := c, reApplied := true, handled := w.replayed e.opcode.toNat }) ?_ rfl).trans rfl
    rw [finish_rePost he hc, hre, closed_slot, hslot]
    exact rePost_find_last hn rfl
  case line =>
    intro line n s hx hc hs hr hn
    obtain ⟨t, ht, hkeeps⟩ := readLine_corrected (s := s) (n := line) (r := 0x07) (y := 3) hn
    exact ⟨t, (execPatrolScrub_memory hx hc hs hr).trans (by rw [ht]), hkeeps⟩
  case badLine =>
    intro line n s hx hc hs hr hn
    obtain ⟨t, ht, hkeeps⟩ := readLine_uncorrectable (s := s) (n := line) (r := 0x07) (y := 3) hn
    exact ⟨t, (execPatrolScrub_memory hx hc hs hr).trans (by rw [ht]), hkeeps⟩
  case slot =>
    intro line n s hx hn
    obtain ⟨t, ht, hkeeps⟩ := readJournal_corrected (s := s) (n := line) (r := 0x07) (y := 3) hn
    exact ⟨t, (execPatrolScrub_journal hx).trans (by rw [ht]), hkeeps⟩
  case lostSlot =>
    intro line n s hx hn
    obtain ⟨t, ht, hkeeps⟩ := readJournal_lost (s := s) (n := line) (r := 0x07) (y := 3) hn
    exact ⟨t, (execPatrolScrub_journal hx).trans (by rw [ht]), hkeeps⟩

end Sys2Proof
end
